-- ==== Sys2Proof/Word.lean ====
section
/-! DEFINITION. The word types of the node and their plainest arithmetic (00_scope.md R7: little-endian, 32-bit words). -/

namespace Sys2Proof

/-- One byte. -/
abbrev Byte := BitVec 8

/-- One 32-bit word: a register, a Galek register, an instruction word. -/
abbrev Word := BitVec 32

end Sys2Proof
end

