-- ==== Sys2Proof/Syntax.lean ====
section
/-! DEFINITION. The commands of the node: one constructor per row of opcode_table.json, in the table's order, with the row's
operands. The spec gives no row any bits; the operands are what the row's rule names. -/

namespace Sys2Proof

/-- Who sends a register access (R23, R343, R657, R678). -/
inductive Initiator where
  | eng (n : Fin 8)
  | host
  | agent
  | jtag
  | unit
  deriving DecidableEq, Repr

/-- One of the two lines. -/
inductive Line where
  | a
  | b
  deriving DecidableEq, Repr

/-- A Galek register number (R367). -/
abbrev Reg := Fin 32

/-- What the boot ROM meets at reset release (R642, R643, R590, R655): the strap levels, the sizes by which the two QSPI
devices identify themselves (none: no answer), and what the BIST and the load find. -/
structure BootInput where
  boot1 : Bool
  boot0 : Bool
  pairRole : Bool
  bootSize : Option Nat
  perSize : Option Nat
  bistCorr : Nat
  bistBad : Option Nat
  romUce : Bool
  loadUce : Bool
  otpCorr : Nat
  deriving DecidableEq, Repr

/-- A control unit received in a slot (R113): the sending node, the line and the body bytes with the type first. -/
structure UnitRx where
  node : Nat
  line : Line
  body : List Byte
  deriving DecidableEq, Repr

/-- A contention frame received (R122, R164): attachment, cell, its bytes, and the offset of its comb (ns) from the cell boundary. -/
structure ContRx where
  att : Fin 4
  cell : Fin 4
  bytes : List Byte
  comb : Int
  deriving DecidableEq, Repr

/-- A data unit received in a slot (R114): the sender's SCH entry, node, line and the body bytes. -/
structure DataUnitRx where
  entry : Nat
  node : Nat
  line : Line
  body : List Byte
  deriving DecidableEq, Repr

/-- A slot pilot received at an attachment (R51, R52, R62, R76): the scheduled owner of the slot, the 32-bit pilot field, the received
bins of the even tones 34 to 1022 in units of 2^-13, whether the pilot was erased, the mean SNR in 0.25 dB, and what the AFE reference
shows (mean of its samples in codes, amplitude offset in 1/4,096). -/
structure PilotRx where
  att : Fin 4
  owner : Nat
  field : BitVec 32
  bins : List (Int × Int)
  erased : Bool
  snr : Nat
  refMean : Int
  refGain : Int
  deriving DecidableEq, Repr

/-- A sounding symbol received (R53, R63): the sounder, the bins of tones 33 to 1023 in units of 2^-13, and mean and lowest SNR in 0.25 dB. -/
structure SoundingRx where
  att : Fin 4
  node : Nat
  bins : List (Int × Int)
  meanSnr : Nat
  minSnr : Nat
  deriving DecidableEq, Repr

/-- A beacon received (R100, R101): attachment, bytes, TB_TRAIN at its S0 boundary, and the boundary's offset (ns) from the one the
guardian expects. -/
structure BeaconRx where
  att : Fin 4
  bytes : List Byte
  captured : Word
  offset : Int
  deriving DecidableEq, Repr

/-- A slot received (R116): attachment, the SCH entry it lies in and the payload bytes after decoding. -/
structure SlotRx where
  att : Fin 4
  entry : Nat
  payload : List Byte
  deriving DecidableEq, Repr

/-- What S49 shows on a line (R126, R127): tones with their level above the noise estimate of their group, in 0.25 dB; a tone not listed
shows none. -/
structure RollCallRx where
  line : Line
  tones : List (Nat × Nat)
  deriving DecidableEq, Repr

/-- A frame received on the pair link between its start and end characters (R420, R421): header, payload and CRC-32. -/
structure PairRx where
  bytes : List Byte
  deriving DecidableEq, Repr

/-- Why probation fails (R447). -/
inductive ProbationCause where
  | silence
  | fault
  | program
  deriving DecidableEq, Repr

/-- A wake source (R509). -/
inductive WakeSource where
  | squall (att : Fin 4)
  | wakeIn (n : Fin 2)
  | rtc
  | pair
  | wakeReq
  deriving DecidableEq, Repr

/-- One window of a Squall detector (R503 to R506). -/
structure SquallWindow where
  match_ : Bool
  deriving DecidableEq, Repr

/-- A PTP frame crossing the switch (R536). -/
structure PtpRx where
  ingress : Fin 2
  bytes : List Byte
  tin : Word
  tout : Word
  deriving DecidableEq, Repr

/-- A CAN frame received on a channel (R558). -/
structure CanRx where
  id : BitVec 29
  ide : Bool
  fdf : Bool
  brs : Bool
  esi : Bool
  rtr : Bool
  data : List Byte
  deriving DecidableEq, Repr

/-- How a CAN transmission ended (R555). -/
inductive CanTxResult where
  | ok
  | error
  deriving DecidableEq, Repr

/-- A port of the switch. -/
inductive EthPort where
  | eth0
  | eth1
  | int
  deriving DecidableEq, Repr

/-- A frame received at a port of the switch (R580). -/
structure EthRx where
  port : EthPort
  bytes : List Byte
  ts : Word
  deriving DecidableEq, Repr

/-- A QSPI controller (R590). -/
inductive QCtl where
  | boot
  | per
  deriving DecidableEq, Repr

/-- The commands (opcode_table.json). A Galek row names the engine that executes it. -/
inductive Instr where
  /-- VDD_AON_POR (R641). -/
  | vddAonPor
  /-- MAIN_RAIL_POR (R456). -/
  | mainRailPor (detectors : BitVec 7)
  /-- NRESET (R641). -/
  | nreset (ns : Nat)
  /-- SWRST (R681). -/
  | swrst (by_ : Initiator)
  /-- RESET_RELEASE (R643). -/
  | resetRelease (b : BootInput)
  /-- BOOTCTL_GO (R651). -/
  | bootctlGo (by_ : Initiator)
  /-- OTP_PROGRAM (R657). -/
  | otpProgram (by_ : Initiator)
  /-- OTP_PROGRAM_DONE (R657). -/
  | otpProgramDone (verified : Bool)
  /-- PLL_UNLOCK (R612). -/
  | pllUnlock (pll : Fin 4)
  /-- PLL_LINE_LOCK (R48). -/
  | pllLineLock
  /-- HOST_WRITE (R599). -/
  | hostWrite (mode3 : Bool) (bytes : List Byte)
  /-- HOST_READ (R597). -/
  | hostRead (mode3 : Bool) (bytes : List Byte)
  /-- HOST_STATUS (R597). -/
  | hostStatus (mode3 : Bool) (bytes : List Byte)
  /-- HOST_ABORT (R596). -/
  | hostAbort (mode3 : Bool) (bytes : List Byte)
  /-- REGISTER_WRITE (R678). -/
  | registerWrite (by_ : Initiator) (addr : Nat) (value : Word)
  /-- COUNTER_CLEAR (R95). -/
  | counterClear (by_ : Initiator) (addr : Nat) (value : Word)
  /-- ACCEPTANCE (R33). -/
  | acceptance
  /-- ZSENSE_CHANGE (R46). -/
  | zsenseChange (att : Fin 4) (cls : BitVec 2)
  /-- LINE_NULL_TABLE (R58). -/
  | lineNullTable (line : Line)
  /-- LINE_NULL_LEAVE (R58). -/
  | lineNullLeave (line : Line)
  /-- PILOT_RECEIVE (R62). -/
  | pilotReceive (p : PilotRx)
  /-- SOUNDING_RECEIVE (R63). -/
  | soundingReceive (p : SoundingRx)
  /-- SOUNDING_SEND (R75). -/
  | soundingSend
  /-- LOAD_ROUND_START (R65). -/
  | loadRoundStart
  /-- LOAD_PROP (R73). -/
  | loadProp (u : UnitRx)
  /-- LOAD_SET (R67). -/
  | loadSet (u : UnitRx)
  /-- LOAD_ACK (R68). -/
  | loadAck (u : UnitRx)
  /-- LOAD_REQ (R72). -/
  | loadReq (u : UnitRx)
  /-- LOAD_ACK_CHECK (R68). -/
  | loadAckCheck (line : Line)
  /-- LOAD_SWITCH (R66). -/
  | loadSwitch (line : Line)
  /-- PENDING_TABLE_TIMEOUT (R69). -/
  | pendingTableTimeout (line : Line) (node : Nat)
  /-- TABLES_NOT_HELD (R72). -/
  | tablesNotHeld (line : Line) (node : Nat)
  /-- CAL_START (R77). -/
  | calStart (att : Fin 4)
  /-- CAL_CANCEL (R79). -/
  | calCancel (att : Fin 4)
  /-- CAL_DEFERRED_START (R77). -/
  | calDeferredStart (att : Fin 4)
  /-- CAL_PHASE_END (R78). -/
  | calPhaseEnd (att : Fin 4)
  /-- CAL_BEACON_LOSS (R79). -/
  | calBeaconLoss (att : Fin 4)
  /-- BEACON_SEND (R100). -/
  | beaconSend
  /-- BEACON_RECEIVE (R101). -/
  | beaconReceive (r : BeaconRx)
  /-- BEACON_MISS (R110). -/
  | beaconMiss
  /-- COAST_LIMIT (R110). -/
  | coastLimit
  /-- CONT_ANSWER (R123). -/
  | contAnswer (args : List Byte)
  /-- SPARE_CONFIRM (R119). -/
  | spareConfirm (args : List Byte)
  /-- SPARE_RELEASE (R119). -/
  | spareRelease (args : List Byte)
  /-- SPARE_ABSENCE_RELEASE (R119). -/
  | spareAbsenceRelease (entry : Nat)
  /-- SLOT_SEND (R109). -/
  | slotSend (entry : Nat)
  /-- SLOT_RECEIVE (R116). -/
  | slotReceive (r : SlotRx)
  /-- CONTENTION_SEND (R123). -/
  | contentionSend
  /-- CONTENTION_ATTEMPT_FAIL (R123). -/
  | contentionAttemptFail
  /-- CONTBAD (R124). -/
  | contbad (cell : Fin 4)
  /-- SPARE_CLAIM (R118). -/
  | spareClaim (f : ContRx)
  /-- BAR_SPARE_CLAIM (R142). -/
  | barSpareClaim
  /-- BAR_SPARE_CANCEL (R142). -/
  | barSpareCancel
  /-- ROLLCALL_SEND (R126). -/
  | rollcallSend
  /-- ROLLCALL_RECEIVE (R127). -/
  | rollcallReceive (r : RollCallRx)
  /-- NODE_ABSENT (R127). -/
  | nodeAbsent (node : Nat)
  /-- GUARD_ALIGN (R130). -/
  | guardAlign (cycle : Word) (offset : Int) (own : Bool)
  /-- GUARD_UNALIGNED (R131). -/
  | guardUnaligned
  /-- GRD_ARM (R135). -/
  | grdArm (id : Word)
  /-- GRD_COMMIT (R135). -/
  | grdCommit (id cycle : Word)
  /-- GUARD_ARM_EXPIRE (R135). -/
  | guardArmExpire
  /-- GUARD_SWAP (R135). -/
  | guardSwap
  /-- GUARD_BLOCKED (R136). -/
  | guardBlocked (position : Nat)
  /-- GRD_CLOSE (R137). -/
  | grdClose (by_ : Initiator)
  /-- GRD_REARM (R137). -/
  | grdRearm (by_ : Initiator)
  /-- GRD_FOREIGN_WRITE (R149). -/
  | grdForeignWrite (by_ : Initiator) (commit : Bool) (value : Word)
  /-- INA_ENABLE (R150). -/
  | inaEnable (by_ : Initiator)
  /-- INA_DISABLE (R193). -/
  | inaDisable (by_ : Initiator)
  /-- LISTEN_TIMEOUT (R154). -/
  | listenTimeout
  /-- CAND (R161). -/
  | cand (f : ContRx)
  /-- CALL_FRAME (R158). -/
  | callFrame (f : ContRx)
  /-- ANSWER (R159). -/
  | answer (f : ContRx)
  /-- CALL_TIMEOUT (R158). -/
  | callTimeout
  /-- END (R160). -/
  | endFrame (f : ContRx)
  /-- LEAD_CAND_LOSS (R154). -/
  | leadCandLoss
  /-- DIRREC (R162). -/
  | dirrec (f : ContRx)
  /-- CCOMMIT (R162). -/
  | ccommit (f : ContRx)
  /-- INAUGURATION_COMMIT (R171). -/
  | inaugurationCommit
  /-- COMMIT (R170). -/
  | commit (args : List Byte)
  /-- COMMIT_KEY (R188). -/
  | commitKey (args : List Byte)
  /-- STRETCH (R183). -/
  | stretch (args : List Byte)
  /-- RELAY (R184). -/
  | relay (args : List Byte)
  /-- RELAY_CLOSURE (R184). -/
  | relayClosure (line : Line)
  /-- COLD (R188). -/
  | cold (args : List Byte)
  /-- COLD_EFFECTIVE (R154). -/
  | coldEffective
  /-- INA_CMD_COLD (R194). -/
  | inaCmdCold (by_ : Initiator)
  /-- INA_CMD_RENUMBER (R194). -/
  | inaCmdRenumber (by_ : Initiator)
  /-- INA_CMD_MERGE (R179). -/
  | inaCmdMerge (by_ : Initiator)
  /-- JOIN (R175). -/
  | join (f : ContRx)
  /-- HELLO (R175). -/
  | hello (f : ContRx)
  /-- HELLO_SEND (R175). -/
  | helloSend
  /-- RENUMBER_COMMIT_START (R191). -/
  | renumberCommitStart
  /-- PUB_DECL (R173). -/
  | pubDecl (u : UnitRx)
  /-- STREAM_DECL (R173). -/
  | streamDecl (u : UnitRx)
  /-- DIR_PUB (R173). -/
  | dirPub (u : UnitRx)
  /-- DIR_STREAM (R283). -/
  | dirStream (u : UnitRx)
  /-- DIR_NODE (R176). -/
  | dirNode (u : UnitRx)
  /-- DIR_SCH (R169). -/
  | dirSch (u : UnitRx)
  /-- DIR_SUM (R176). -/
  | dirSum (u : UnitRx)
  /-- JBEACON_CYCLE (R177). -/
  | jbeaconCycle
  /-- JBEACON (R178). -/
  | jbeacon (f : ContRx)
  /-- FOREIGN_RUN_RESET (R178). -/
  | foreignRunReset (att : Fin 4)
  /-- MERGE_ABANDON (R150). -/
  | mergeAbandon
  /-- JLIST (R180). -/
  | jlist (f : ContRx)
  /-- JREPORT (R180). -/
  | jreport (u : UnitRx)
  /-- JSEND (R176). -/
  | jsend (u : UnitRx)
  /-- JDECIDE (R181). -/
  | jdecide (f : ContRx)
  /-- JACK (R179). -/
  | jack (f : ContRx)
  /-- JDECIDE_TIMEOUT (R181). -/
  | jdecideTimeout
  /-- DATA_SET_DECLARE (R202). -/
  | dataSetDeclare (by_ : Initiator) (w : Fin 3) (value : Word)
  /-- SUBSCRIPTION_RANGE_WRITE (R720). -/
  | subscriptionRangeWrite (by_ : Initiator) (w : Fin 3) (value : Word)
  /-- VIEW_WRITE (R349). -/
  | viewWrite (by_ : Initiator) (e : Fin 8) (w : Fin 3) (value : Word)
  /-- SIG_ASSEMBLY_PASS (R209). -/
  | sigAssemblyPass (entry : Nat)
  /-- SIGNAL_DATA_SET (R213). -/
  | signalDataSet (d : DataUnitRx)
  /-- SIG_APPLY (R216). -/
  | sigApply
  /-- GATEWAY_SEND (R225). -/
  | gatewaySend (group : Fin 64)
  /-- HOST_SUBMIT (R278). -/
  | hostSubmit (by_ : Initiator) (value : Word)
  /-- MSG_SEG (R257). -/
  | msgSeg (u : UnitRx)
  /-- MSG_ACK (R255). -/
  | msgAck (u : UnitRx)
  /-- MSG_PROBE (R264). -/
  | msgProbe (u : UnitRx)
  /-- PROBE_TIMER (R256). -/
  | probeTimer (flow : Fin 256)
  /-- RETRANSMIT_TIMEOUT (R254). -/
  | retransmitTimeout (flow : Fin 256) (seq : Word)
  /-- MESSAGE_HANDING (R259). -/
  | messageHanding (inflow : Fin 256)
  /-- MSG_HGET (R278). -/
  | msgHget (by_ : Initiator)
  /-- MSG_HACK (R260). -/
  | msgHack (by_ : Initiator)
  /-- MSG_HWDR (R263). -/
  | msgHwdr (by_ : Initiator) (value : Word)
  /-- LIFETIME_EXPIRY (R263). -/
  | lifetimeExpiry (flow : Fin 256) (seq : Word)
  /-- LIFETIME_PERSIST (R262). -/
  | lifetimePersist
  /-- PARTIAL_DISCARD (R257). -/
  | partialDiscard (inflow : Fin 256) (seq : Word)
  /-- ORPHAN_TIMEOUT (R266). -/
  | orphanTimeout (flow : Fin 256) (seq : Word)
  /-- JOURNAL_RING_WRITE (R249). -/
  | journalRingWrite
  /-- JOURNAL_RESTORE (R250). -/
  | journalRestore
  /-- AUDIO_BLOCK_CLOSE (R285). -/
  | audioBlockClose (tx : Fin 64)
  /-- AUDIO_BLOCK (R284). -/
  | audioBlock (d : DataUnitRx)
  /-- TX_ENTRY_ENABLE (R282). -/
  | txEntryEnable (by_ : Initiator) (value : Word)
  /-- RX_ENTRY_ENABLE (R284). -/
  | rxEntryEnable (by_ : Initiator) (value : Word)
  /-- AUD_MIX (R295). -/
  | audMix
  /-- CONCEAL_MUTE (R296). -/
  | concealMute (rx : Fin 256)
  /-- AUD_XW_WRITE (R300). -/
  | audXwWrite (by_ : Initiator) (value : Word)
  /-- ZONE_COMMIT (R302). -/
  | zoneCommit (by_ : Initiator)
  /-- ANC_GAP_END (R304). -/
  | ancGapEnd (zone : Fin 128) (noise : Nat)
  /-- ANC_HOLD (R304). -/
  | ancHold (zone : Fin 128)
  /-- ECHO_DIVERGENCE (R306). -/
  | echoDivergence (ec : Fin 16)
  /-- EC_BURST (R307). -/
  | ecBurst (by_ : Initiator) (ec : Fin 16)
  /-- BURST_END (R307). -/
  | burstEnd (ec : Fin 16) (erle : Nat)
  /-- GENERATOR_START (R308). -/
  | generatorStart (by_ : Initiator) (value : Word)
  /-- GENERATOR_RUN_END (R308). -/
  | generatorRunEnd (gen : Fin 64)
  /-- GENERATOR_STOP (R319). -/
  | generatorStop (by_ : Initiator) (value : Word)
  /-- CLIP_COPY (R309). -/
  | clipCopy (by_ : Initiator)
  /-- CLIP_COPY_DONE (R309). -/
  | clipCopyDone
  /-- AUD_ALIGNED (R292). -/
  | audAligned
  /-- SLEW_END (R292). -/
  | slewEnd
  /-- AUD_DISABLE (R313). -/
  | audDisable (by_ : Initiator)
  /-- START (R326). -/
  | start (by_ : Initiator) (e : Fin 8)
  /-- START_CLEAN (R325). -/
  | startClean (by_ : Initiator) (e : Fin 8)
  /-- STOP (R326). -/
  | stop (by_ : Initiator) (e : Fin 8)
  /-- CYCLE_START (R327). -/
  | cycleStart (e : Fin 8)
  /-- WATCHDOG_OVERRUN (R337). -/
  | watchdogOverrun (e : Fin 8)
  /-- SYNC_QUEUE (R333). -/
  | syncQueue (chan : Fin 8)
  /-- SYNC_WITHDRAW (R334). -/
  | syncWithdraw (chan : Fin 8)
  /-- INPUT_WINDOW_CLOSE (R336). -/
  | inputWindowClose (chan : Fin 8)
  /-- SYNC_GROUP_WRITE (R332). -/
  | syncGroupWrite (by_ : Initiator) (e : Fin 8) (value : Word)
  /-- FORCE_ENTRY_WRITE (R345). -/
  | forceEntryWrite (by_ : Initiator) (w : Fin 2) (value : Word)
  /-- FORCE_CLEARALL (R363). -/
  | forceClearall (by_ : Initiator)
  /-- DMEM_ALLOCATE (R347). -/
  | dmemAllocate (by_ : Initiator) (value : Word)
  /-- DMEM_FREE (R347). -/
  | dmemFree (by_ : Initiator) (value : Word)
  /-- TIMER_ALLOCATE (R364). -/
  | timerAllocate (by_ : Initiator) (value : Word)
  /-- TIMER_FREE (R364). -/
  | timerFree (by_ : Initiator) (value : Word)
  /-- EDGE_ALLOCATE (R364). -/
  | edgeAllocate (by_ : Initiator) (value : Word)
  /-- EDGE_FREE (R364). -/
  | edgeFree (by_ : Initiator) (value : Word)
  /-- ILLEGAL_INSTRUCTION (R374). -/
  | illegalInstruction (e : Fin 8) (word : Word)
  /-- ADD (R382). -/
  | add (e : Fin 8) (rd ra rb : Reg)
  /-- SUB (R382). -/
  | sub (e : Fin 8) (rd ra rb : Reg)
  /-- AND (R382). -/
  | and (e : Fin 8) (rd ra rb : Reg)
  /-- OR (R382). -/
  | or (e : Fin 8) (rd ra rb : Reg)
  /-- XOR (R382). -/
  | xor (e : Fin 8) (rd ra rb : Reg)
  /-- NOR (R382). -/
  | nor (e : Fin 8) (rd ra rb : Reg)
  /-- SLT (R382). -/
  | slt (e : Fin 8) (rd ra rb : Reg)
  /-- SLTU (R382). -/
  | sltu (e : Fin 8) (rd ra rb : Reg)
  /-- SLL (R382). -/
  | sll (e : Fin 8) (rd ra rb : Reg)
  /-- SRL (R382). -/
  | srl (e : Fin 8) (rd ra rb : Reg)
  /-- SRA (R382). -/
  | sra (e : Fin 8) (rd ra rb : Reg)
  /-- SLLI (R382). -/
  | slli (e : Fin 8) (rd ra : Reg) (sh : BitVec 5)
  /-- SRLI (R382). -/
  | srli (e : Fin 8) (rd ra : Reg) (sh : BitVec 5)
  /-- SRAI (R382). -/
  | srai (e : Fin 8) (rd ra : Reg) (sh : BitVec 5)
  /-- MUL (R382). -/
  | mul (e : Fin 8) (rd ra rb : Reg)
  /-- MULH (R382). -/
  | mulh (e : Fin 8) (rd ra rb : Reg)
  /-- MULHU (R382). -/
  | mulhu (e : Fin 8) (rd ra rb : Reg)
  /-- DIV (R382). -/
  | div (e : Fin 8) (rd ra rb : Reg)
  /-- DIVU (R382). -/
  | divu (e : Fin 8) (rd ra rb : Reg)
  /-- REM (R382). -/
  | rem (e : Fin 8) (rd ra rb : Reg)
  /-- REMU (R382). -/
  | remu (e : Fin 8) (rd ra rb : Reg)
  /-- MIN (R382). -/
  | min (e : Fin 8) (rd ra rb : Reg)
  /-- MAX (R382). -/
  | max (e : Fin 8) (rd ra rb : Reg)
  /-- MINU (R382). -/
  | minu (e : Fin 8) (rd ra rb : Reg)
  /-- MAXU (R382). -/
  | maxu (e : Fin 8) (rd ra rb : Reg)
  /-- CLZ (R382). -/
  | clz (e : Fin 8) (rd ra : Reg)
  /-- ADDI (R383). -/
  | addi (e : Fin 8) (rd ra : Reg) (imm : BitVec 16)
  /-- ANDI (R383). -/
  | andi (e : Fin 8) (rd ra : Reg) (imm : BitVec 16)
  /-- ORI (R383). -/
  | ori (e : Fin 8) (rd ra : Reg) (imm : BitVec 16)
  /-- XORI (R383). -/
  | xori (e : Fin 8) (rd ra : Reg) (imm : BitVec 16)
  /-- SLTI (R383). -/
  | slti (e : Fin 8) (rd ra : Reg) (imm : BitVec 16)
  /-- SLTIU (R383). -/
  | sltiu (e : Fin 8) (rd ra : Reg) (imm : BitVec 16)
  /-- LUI (R383). -/
  | lui (e : Fin 8) (rd : Reg) (imm : BitVec 16)
  /-- ADDPC (R383). -/
  | addpc (e : Fin 8) (rd : Reg) (imm : BitVec 16)
  /-- LD_B (R384). -/
  | ldB (e : Fin 8) (rd ra : Reg) (imm : BitVec 16)
  /-- LD_BU (R384). -/
  | ldBu (e : Fin 8) (rd ra : Reg) (imm : BitVec 16)
  /-- LD_H (R384). -/
  | ldH (e : Fin 8) (rd ra : Reg) (imm : BitVec 16)
  /-- LD_HU (R384). -/
  | ldHu (e : Fin 8) (rd ra : Reg) (imm : BitVec 16)
  /-- LD_W (R384). -/
  | ldW (e : Fin 8) (rd ra : Reg) (imm : BitVec 16)
  /-- ST_B (R384). -/
  | stB (e : Fin 8) (rd ra : Reg) (imm : BitVec 16)
  /-- ST_H (R384). -/
  | stH (e : Fin 8) (rd ra : Reg) (imm : BitVec 16)
  /-- ST_W (R384). -/
  | stW (e : Fin 8) (rd ra : Reg) (imm : BitVec 16)
  /-- B (R385). -/
  | b (e : Fin 8) (off : BitVec 21)
  /-- CALL (R385). -/
  | call (e : Fin 8) (off : BitVec 21)
  /-- BEQ (R385). -/
  | beq (e : Fin 8) (x y : Reg) (off : BitVec 16)
  /-- BNE (R385). -/
  | bne (e : Fin 8) (x y : Reg) (off : BitVec 16)
  /-- BLT (R385). -/
  | blt (e : Fin 8) (x y : Reg) (off : BitVec 16)
  /-- BGE (R385). -/
  | bge (e : Fin 8) (x y : Reg) (off : BitVec 16)
  /-- BLTU (R385). -/
  | bltu (e : Fin 8) (x y : Reg) (off : BitVec 16)
  /-- BGEU (R385). -/
  | bgeu (e : Fin 8) (x y : Reg) (off : BitVec 16)
  /-- RET (R385). -/
  | ret (e : Fin 8) (ra : Reg)
  /-- CALLR (R385). -/
  | callr (e : Fin 8) (ra : Reg)
  /-- PGET (R386). -/
  | pget (e : Fin 8) (rd ra : Reg) (imm : BitVec 16)
  /-- PSTAT (R386). -/
  | pstat (e : Fin 8) (rd ra : Reg) (imm : BitVec 16)
  /-- PPUT (R386). -/
  | pput (e : Fin 8) (rd ra : Reg) (imm : BitVec 16)
  /-- TON (R388). -/
  | ton (e : Fin 8) (rd ra rb : Reg) (cell : BitVec 12)
  /-- TOF (R388). -/
  | tof (e : Fin 8) (rd ra rb : Reg) (cell : BitVec 12)
  /-- TPL (R388). -/
  | tpl (e : Fin 8) (rd ra rb : Reg) (cell : BitVec 12)
  /-- CTU (R388). -/
  | ctu (e : Fin 8) (rd ra rb : Reg) (cell : BitVec 12)
  /-- CTD (R388). -/
  | ctd (e : Fin 8) (rd ra rb : Reg) (cell : BitVec 12)
  /-- TVAL (R389). -/
  | tval (e : Fin 8) (rd : Reg) (cell : BitVec 12)
  /-- EDR (R389). -/
  | edr (e : Fin 8) (rd ra : Reg) (cell : BitVec 13)
  /-- EDF (R389). -/
  | edf (e : Fin 8) (rd ra : Reg) (cell : BitVec 13)
  /-- QPUT (R242). -/
  | qput (e : Fin 8) (rd ra rb : Reg)
  /-- QGET (R260). -/
  | qget (e : Fin 8) (rd : Reg) (queue : Fin 16)
  /-- QACK (R260). -/
  | qack (e : Fin 8) (rd : Reg) (queue : Fin 16)
  /-- QWDR (R263). -/
  | qwdr (e : Fin 8) (rd ra rb : Reg)
  /-- TRD (R392). -/
  | trd (e : Fin 8) (rd : Reg) (base : Fin 4)
  /-- TLN (R393). -/
  | tln (e : Fin 8) (rd ra rb : Reg)
  /-- AROUTE (R392). -/
  | aroute (e : Fin 8) (rd ra rb : Reg)
  /-- AGAIN (R392). -/
  | again (e : Fin 8) (rd ra rb : Reg)
  /-- GUST (R462). -/
  | gust (e : Fin 8) (rd : Reg) (cls : BitVec 8)
  /-- CALM (R462). -/
  | calm (e : Fin 8) (rd ra : Reg)
  /-- CYC (R329). -/
  | cyc (e : Fin 8)
  /-- FENCE (R378). -/
  | fence (e : Fin 8)
  /-- HALT (R326). -/
  | halt (e : Fin 8)
  /-- CRC32 (R394). -/
  | crc32 (e : Fin 8) (rd ra rb : Reg)
  /-- REC (R394). -/
  | recTrg (e : Fin 8) (rd ra : Reg) (trigger : Fin 64)
  /-- RSR (R395). -/
  | rsr (e : Fin 8) (rd : Reg) (sel : BitVec 4)
  /-- PEX_LOAD (R399). -/
  | pexLoad (by_ : Initiator)
  /-- LOAD_VERIFY_DONE (R399). -/
  | loadVerifyDone
  /-- PEX_ARM (R403). -/
  | pexArm (by_ : Initiator)
  /-- PEX_ABORT (R410). -/
  | pexAbort (by_ : Initiator)
  /-- SWAP_COPY (R406). -/
  | swapCopy
  /-- SWAP_DONE (R409). -/
  | swapDone
  /-- PEX_WAIT_TIMEOUT (R410). -/
  | pexWaitTimeout
  /-- STANDBY_ACK_TIMEOUT (R411). -/
  | standbyAckTimeout
  /-- PATCH (R412). -/
  | patch (by_ : Initiator) (value : Word)
  /-- PATCH_APPLY (R412). -/
  | patchApply
  /-- PAIR_ENABLE (R717). -/
  | pairEnable (by_ : Initiator)
  /-- PAIR_DISABLE (R432). -/
  | pairDisable (by_ : Initiator)
  /-- HB (R426). -/
  | hb (f : PairRx)
  /-- ECHO (R427). -/
  | echo (f : PairRx)
  /-- NEG (R428). -/
  | neg (f : PairRx)
  /-- JRNL (R434). -/
  | jrnl (f : PairRx)
  /-- DELTA (R436). -/
  | delta (f : PairRx)
  /-- MARK (R446). -/
  | mark (f : PairRx)
  /-- SNAP (R437). -/
  | snap (f : PairRx)
  /-- LINK_LOCK_LOSS (R420). -/
  | linkLockLoss
  /-- LINK_RETRANSMIT (R423). -/
  | linkRetransmit
  /-- LINK_OUT_OF_SERVICE (R424). -/
  | linkOutOfService
  /-- HEARTBEAT_TICK (R425). -/
  | heartbeatTick
  /-- NEG_TIMEOUT (R428). -/
  | negTimeout
  /-- ASSUME (R430). -/
  | assume
  /-- LOSS_DECLARATION (R438). -/
  | lossDeclaration
  /-- FENCE_TIMEOUT (R439). -/
  | fenceTimeout
  /-- PARTNER_LOST (R439). -/
  | partnerLost
  /-- HANDOVER (R446). -/
  | handover (by_ : Initiator)
  /-- HANDOVER_MARK (R446). -/
  | handoverMark
  /-- HOLDWAIT_TIMEOUT (R446). -/
  | holdwaitTimeout
  /-- REHEARSE (R447). -/
  | rehearse (by_ : Initiator)
  /-- PROBATION_FAIL (R447). -/
  | probationFail (cause : ProbationCause)
  /-- PROBATION_END (R447). -/
  | probationEnd
  /-- PAIR_BIST (R448). -/
  | pairBist (by_ : Initiator)
  /-- BIST_DONE (R448). -/
  | bistDone (failed : Bool)
  /-- CLEARSUSPECT (R449). -/
  | clearsuspect (by_ : Initiator)
  /-- PAIR_RESYNC (R432). -/
  | pairResync (by_ : Initiator)
  /-- SYNC_COMPLETE (R437). -/
  | syncComplete
  /-- RESYNCLONG (R437). -/
  | resynclong
  /-- PWR_HREQ (R462). -/
  | pwrHreq (by_ : Initiator) (value : Word)
  /-- PWR_HCALM (R482). -/
  | pwrHcalm (by_ : Initiator) (value : Word)
  /-- GUST_QUEUE_GRANT (R462). -/
  | gustQueueGrant
  /-- BUDGET_WRITE (R463). -/
  | budgetWrite (by_ : Initiator) (value : Word)
  /-- GUST_MAXHOLD (R464). -/
  | gustMaxhold (handle : Fin 256)
  /-- PWR_MON_WRITE (R467). -/
  | pwrMonWrite (by_ : Initiator) (value : Word)
  /-- PWR_LOCK (R478). -/
  | pwrLock (by_ : Initiator)
  /-- SUPPLY_WARNING (R468). -/
  | supplyWarning (millivolt : Nat)
  /-- SUPPLY_RESET (R467). -/
  | supplyReset (millivolt : Nat)
  /-- SUPPLY_RECOVERING (R475). -/
  | supplyRecovering (millivolt : Nat)
  /-- SUPPLY_NORMAL (R475). -/
  | supplyNormal (lowest : Nat)
  /-- POWER_FAIL_FLUSH_DONE (R471). -/
  | powerFailFlushDone
  /-- LULL_RING (R488). -/
  | lullRing (by_ : Initiator)
  /-- LULL_ABORT_CMD (R493). -/
  | lullAbortCmd (by_ : Initiator)
  /-- LULL_ENTER_CMD (R497). -/
  | lullEnterCmd (by_ : Initiator)
  /-- LULL_TOKEN (R490). -/
  | lullToken (u : UnitRx)
  /-- LULL_REPLY (R490). -/
  | lullReply (u : UnitRx)
  /-- LULL_REPLY_TIMEOUT (R490). -/
  | lullReplyTimeout
  /-- VOTE_CHANGE (R492). -/
  | voteChange (by_ : Initiator) (value : Word)
  /-- LULL_COMMIT (R496). -/
  | lullCommit (args : List Byte)
  /-- LULL_ABORT (R493). -/
  | lullAbort (args : List Byte)
  /-- LULL_ENTRY_START (R497). -/
  | lullEntryStart
  /-- LULL_FAILSAFE (R498). -/
  | lullFailsafe
  /-- CANSTB_ACK (R499). -/
  | canstbAck (by_ : Initiator) (value : Word)
  /-- CANSTB_FAILSAFE (R499). -/
  | canstbFailsafe
  /-- CANREL (R512). -/
  | canrel (by_ : Initiator) (value : Word)
  /-- WAKE_EVENT (R509). -/
  | wakeEvent (src : WakeSource)
  /-- WAKE_REQ (R500). -/
  | wakeReq (f : ContRx)
  /-- LATCHED_WAKE_RISE (R510). -/
  | latchedWakeRise
  /-- SQUALL_REQUEST (R507). -/
  | squallRequest (by_ : Initiator)
  /-- SQUALL (R507). -/
  | squall (args : List Byte)
  /-- SQUALL_EMIT (R507). -/
  | squallEmit
  /-- SQUALL_RECOGNIZED (R506). -/
  | squallRecognized (att : Fin 4) (windows : List SquallWindow)
  /-- TIME_SNAP (R527). -/
  | timeSnap (by_ : Initiator)
  /-- UTCSET (R532). -/
  | utcset (by_ : Initiator) (value : Word)
  /-- PTPSTEP (R538). -/
  | ptpstep (by_ : Initiator) (value : Word)
  /-- PTP_STEP_APPLY (R538). -/
  | ptpStepApply
  /-- LAUNCH_HAND (R530). -/
  | launchHand (index : Nat)
  /-- LAUNCH_FIRE (R530). -/
  | launchFire (index : Nat)
  /-- LCANCEL (R533). -/
  | lcancel (by_ : Initiator) (value : Word)
  /-- BASE_WRAP (R519). -/
  | baseWrap (base : Fin 4)
  /-- PTP_EVENT_FRAME (R536). -/
  | ptpEventFrame (f : PtpRx)
  /-- TWO_STEP_TIMEOUT (R537). -/
  | twoStepTimeout (port : Fin 2)
  /-- PALLOC_ALLOCATE (R550). -/
  | pallocAllocate (by_ : Initiator) (value : Word)
  /-- PALLOC_FREE (R550). -/
  | pallocFree (by_ : Initiator) (value : Word)
  /-- CAN_READY (R551). -/
  | canReady (by_ : Initiator) (value : Word)
  /-- CAN_ACK (R551). -/
  | canAck (by_ : Initiator) (value : Word)
  /-- CAN_ABORT (R553). -/
  | canAbort (by_ : Initiator) (value : Word)
  /-- CAN_ARM (R551). -/
  | canArm (by_ : Initiator) (value : Word)
  /-- CAN_RECOVER (R561). -/
  | canRecover (by_ : Initiator) (chan : Fin 8)
  /-- CAN_ABORTALL (R571). -/
  | canAbortall (by_ : Initiator) (chan : Fin 8)
  /-- CAN_ARBITRATION_WIN (R554). -/
  | canArbitrationWin (chan : Fin 8)
  /-- CAN_TX_END (R555). -/
  | canTxEnd (chan : Fin 8) (r : CanTxResult)
  /-- CAN_FRAME_RECEIVE (R558). -/
  | canFrameReceive (chan : Fin 8) (f : CanRx)
  /-- CAN_BUSOFF_RECOVERED (R561). -/
  | canBusoffRecovered (chan : Fin 8)
  /-- CAN_SLEEP (R565). -/
  | canSleep (by_ : Initiator) (chan : Fin 8)
  /-- CAN_RESUME (R565). -/
  | canResume (by_ : Initiator) (chan : Fin 8)
  /-- ETH_FRAME_RECEIVE (R580). -/
  | ethFrameReceive (r : EthRx)
  /-- TXKICK (R604). -/
  | txkick (by_ : Initiator)
  /-- MGMT_DATAGRAM (R584). -/
  | mgmtDatagram (src : Word) (srcPort dstPort : Nat) (payload : List Byte)
  /-- ARP_REFRESH (R582). -/
  | arpRefresh (entry : Fin 16)
  /-- ADDRESS_AGEING (R580). -/
  | addressAgeing (mac : Nat)
  /-- MDIO_READ (R586). -/
  | mdioRead (by_ : Initiator) (value : Word)
  /-- MDIO_WRITE (R586). -/
  | mdioWrite (by_ : Initiator) (value : Word)
  /-- MDIO_DONE (R586). -/
  | mdioDone (data : BitVec 16)
  /-- MDIO_POLL (R586). -/
  | mdioPoll (port : Fin 2) (reg1 : BitVec 16)
  /-- LINK_CHANGE (R603). -/
  | linkChange (port : Fin 2) (up : Bool) (speed : BitVec 2) (anDone pcsFault : Bool)
  /-- TDM_ENABLE (R589). -/
  | tdmEnable (by_ : Initiator) (port : Fin 4) (value : Word)
  /-- TDM_DISABLE (R589). -/
  | tdmDisable (by_ : Initiator) (port : Fin 4) (value : Word)
  /-- TDM_LOCKERR (R588). -/
  | tdmLockerr (port : Fin 4) (ppm : Int)
  /-- TDM_LOCK_REGAIN (R588). -/
  | tdmLockRegain (port : Fin 4) (ppm : Int)
  /-- QSPI_ERASE (R593). -/
  | qspiErase (by_ : Initiator) (ctl : QCtl) (value : Word)
  /-- QSPI_ERASE_DONE (R593). -/
  | qspiEraseDone (ctl : QCtl) (devError : Bool)
  /-- QSPI_COPY_READ (R595). -/
  | qspiCopyRead (by_ : Initiator) (ctl : QCtl) (value : Word)
  /-- QSPI_COPY_PROGRAM (R595). -/
  | qspiCopyProgram (by_ : Initiator) (ctl : QCtl) (value : Word)
  /-- QSPI_COPY_DONE (R595). -/
  | qspiCopyDone (ctl : QCtl) (devError : Bool)
  /-- GPIO_INPUT_CHANGE (R600). -/
  | gpioInputChange (pin : Fin 32) (level : Bool)
  /-- GPIO_SET (R600). -/
  | gpioSet (by_ : Initiator) (value : Word)
  /-- GPIO_CLR (R600). -/
  | gpioClr (by_ : Initiator) (value : Word)
  /-- GPIO_MODE_WRITE (R601). -/
  | gpioModeWrite (by_ : Initiator) (pin : Fin 32) (value : Word)
  /-- EVR_ENABLE (R624). -/
  | evrEnable (by_ : Initiator)
  /-- EVR_FLUSH_CMD (R619). -/
  | evrFlushCmd (by_ : Initiator)
  /-- EVR_FLUSH_DONE (R619). -/
  | evrFlushDone
  /-- EVR_FORMAT (R626). -/
  | evrFormat (by_ : Initiator)
  /-- EVR_READ (R631). -/
  | evrRead (by_ : Initiator)
  /-- EVR_READ_DONE (R631). -/
  | evrReadDone
  /-- CHALLENGE_ISSUE (R632). -/
  | challengeIssue (by_ : Initiator)
  /-- CHALLENGE_EXPIRY (R632). -/
  | challengeExpiry
  /-- CLEAR (R633). -/
  | clear (by_ : Initiator)
  /-- COLLECT (R629). -/
  | collect (by_ : Initiator)
  /-- SNAPSHOT_ADDRESS_WRITE (R613). -/
  | snapshotAddressWrite (by_ : Initiator) (value : Word)
  /-- BAR_ENABLE (R139). -/
  | barEnable (by_ : Initiator) (value : Word)
  /-- CAN_MODE_WRITE (R547). -/
  | canModeWrite (by_ : Initiator) (chan : Fin 8) (value : Word)
  /-- FLOW_OPEN (R236). -/
  | flowOpen (by_ : Initiator) (inbound : Bool) (value : Word)
  /-- ECHO_CANCELLER_ENABLE (R305). -/
  | echoCancellerEnable (by_ : Initiator) (ec : Fin 16) (value : Word)
  /-- CAND_SEND (R157). -/
  | candSend
  /-- ETH_FRAME_SENT (R585). -/
  | ethFrameSent (port : EthPort) (ts : Word)
  /-- PLL_LOCK (R687). -/
  | pllLock (pll : Fin 4)
  /-- LINK_LOCK_REGAIN (R704). -/
  | linkLockRegain
  deriving DecidableEq, Repr

end Sys2Proof
end

