-- ==== Sys2Proof/Config.lean ====
section
/-! DEFINITION. What the spec leaves open: the free values. Each constant below is opaque, so nothing can evaluate it; every
claim holds for whatever value it has. Which point of the spec each one stands for is said in the assumption log. -/

namespace Sys2Proof.Config

/-- A 32-bit draw from the node's entropy source (R153, R123, R177, R632): the `n`-th draw. DESIGN CHOICE, log entry 8. -/
opaque entropy : Nat → BitVec 32

/-- The `n`-th open value of a record, a field or a result for which the spec states none. DESIGN CHOICE, log entry 8. -/
opaque freeWord : Nat → BitVec 32

/-- PLL_AUD's steering in ppb at a time (R290, R687): the spec gives no rule for it. DESIGN CHOICE, log entry 51. -/
opaque audSteer : Nat → BitVec 32

/-- Have the trims of an attachment converged at a time (R76, R86)? DESIGN CHOICE, log entry 51. -/
opaque trimsDone : Nat → Nat → BitVec 1

/-- Is the guardian's window open for an attachment at a time within the cycle (R86)? DESIGN CHOICE, log entry 51. -/
opaque windowOpen : Nat → Nat → BitVec 1

end Sys2Proof.Config
end

