-- ==== Sys2Proof/Machine/RegMap.lean ====
section
/-! DEFINITION. The register space: one `Field` per field of the spec's register tables (20_register_map.md R674 and the
register sections of every chapter), the access codes of every register (R9, R675) and the reset words.
A register behind a select register has one home per entry, at `winAddr a i`. -/

namespace Sys2Proof.Machine

/-- A register field: the address of its word, its lowest bit and its width. -/
structure Field where
  addr : Nat
  lo : Nat
  width : Nat
  deriving DecidableEq, Repr

/-- The home of entry `i` of the window register at `a`: past the 32-bit address space. -/
def winAddr (a i : Nat) : Nat := a + (i + 1) * 4294967296

/-- R85, RW. -/
def LINE_CTRL.EN (k : Nat) : Field := ⟨0x40010000 + 0x1000 * k, 0, 1⟩
/-- R85, RW. -/
def LINE_CTRL.TXEN (k : Nat) : Field := ⟨0x40010000 + 0x1000 * k, 1, 1⟩
/-- R85, RO. -/
def LINE_CTRL.TERM (k : Nat) : Field := ⟨0x40010000 + 0x1000 * k, 2, 1⟩
/-- R85, RO. -/
def LINE_CTRL.RELAY_OPEN (k : Nat) : Field := ⟨0x40010000 + 0x1000 * k, 3, 1⟩
/-- R85, RO. -/
def LINE_CTRL.RXMODE (k : Nat) : Field := ⟨0x40010000 + 0x1000 * k, 4, 2⟩
/-- R85, RO. -/
def LINE_CTRL.SIDE (k : Nat) : Field := ⟨0x40010000 + 0x1000 * k, 6, 2⟩
/-- R85, RW. -/
def LINE_CTRL.MU (k : Nat) : Field := ⟨0x40010000 + 0x1000 * k, 8, 2⟩
/-- R86, RO. -/
def LINE_STATUS.READY (k : Nat) : Field := ⟨0x40010004 + 0x1000 * k, 0, 1⟩
/-- R86, RO. -/
def LINE_STATUS.BEACON (k : Nat) : Field := ⟨0x40010004 + 0x1000 * k, 1, 1⟩
/-- R86, RO. -/
def LINE_STATUS.ZSENSE (k : Nat) : Field := ⟨0x40010004 + 0x1000 * k, 2, 2⟩
/-- R86, RO. -/
def LINE_STATUS.DRIVER (k : Nat) : Field := ⟨0x40010004 + 0x1000 * k, 4, 1⟩
/-- R86, RO. -/
def LINE_STATUS.IMPULSE (k : Nat) : Field := ⟨0x40010004 + 0x1000 * k, 5, 1⟩
/-- R86, RO. -/
def LINE_STATUS.FOREIGN (k : Nat) : Field := ⟨0x40010004 + 0x1000 * k, 6, 1⟩
/-- R86, RO. -/
def LINE_STATUS.STRANGER (k : Nat) : Field := ⟨0x40010004 + 0x1000 * k, 7, 1⟩
/-- R86, RO. -/
def LINE_STATUS.FOREIGN_RUN (k : Nat) : Field := ⟨0x40010004 + 0x1000 * k, 8, 8⟩
/-- R87, RW. -/
def LINE_PSD.LEVEL (k : Nat) : Field := ⟨0x40010008 + 0x1000 * k, 0, 6⟩
/-- R87, RW. -/
def LINE_PSD.BOOST (k : Nat) : Field := ⟨0x40010008 + 0x1000 * k, 8, 3⟩
/-- R87, RW. -/
def LINE_PSD.GUST (k : Nat) : Field := ⟨0x40010008 + 0x1000 * k, 16, 8⟩
/-- R88, RW. -/
def LINE_LOAD.MARGIN (k : Nat) : Field := ⟨0x4001000C + 0x1000 * k, 0, 5⟩
/-- R88, RW. -/
def LINE_LOAD.AUTO (k : Nat) : Field := ⟨0x4001000C + 0x1000 * k, 8, 1⟩
/-- R88, RW. -/
def LINE_LOAD.HOLD (k : Nat) : Field := ⟨0x4001000C + 0x1000 * k, 12, 4⟩
/-- R89, RWL. -/
def LINE_NOTCH.FIRST (k j : Nat) : Field := ⟨0x40010010 + 0x1000 * k + 4 * j, 0, 10⟩
/-- R89, RWL. -/
def LINE_NOTCH.LAST (k j : Nat) : Field := ⟨0x40010010 + 0x1000 * k + 4 * j, 16, 10⟩
/-- R89, RWL. -/
def LINE_NOTCH.EN (k j : Nat) : Field := ⟨0x40010010 + 0x1000 * k + 4 * j, 31, 1⟩
/-- R90, RW. -/
def LINE_IMP.THRESH (k : Nat) : Field := ⟨0x40010050 + 0x1000 * k, 0, 11⟩
/-- R90, RW. -/
def LINE_IMP.COUNT (k : Nat) : Field := ⟨0x40010050 + 0x1000 * k, 16, 8⟩
/-- R90, RW. -/
def LINE_IMP.EN (k : Nat) : Field := ⟨0x40010050 + 0x1000 * k, 31, 1⟩
/-- R91, RW. -/
def LINE_LDPC.ITER (k : Nat) : Field := ⟨0x40010054 + 0x1000 * k, 0, 4⟩
/-- R91, RW. -/
def LINE_LDPC.EXT (k : Nat) : Field := ⟨0x40010054 + 0x1000 * k, 8, 4⟩
/-- R91, RW. -/
def LINE_LDPC.GUST (k : Nat) : Field := ⟨0x40010054 + 0x1000 * k, 16, 8⟩
/-- R92, WO. -/
def LINE_CAL.START (k : Nat) : Field := ⟨0x40010060 + 0x1000 * k, 0, 1⟩
/-- R92, WO. -/
def LINE_CAL.CANCEL (k : Nat) : Field := ⟨0x40010060 + 0x1000 * k, 1, 1⟩
/-- R92, RW. -/
def LINE_CAL.GUST (k : Nat) : Field := ⟨0x40010060 + 0x1000 * k, 8, 8⟩
/-- R92, RO. -/
def LINE_CALSTAT.RESULT (k : Nat) : Field := ⟨0x40010064 + 0x1000 * k, 0, 4⟩
/-- R92, RO. -/
def LINE_CALSTAT.DONE (k : Nat) : Field := ⟨0x40010064 + 0x1000 * k, 16, 16⟩
/-- R93, RO. -/
def LINE_TRIM.OFFSET (k : Nat) : Field := ⟨0x40010068 + 0x1000 * k, 0, 12⟩
/-- R93, RO. -/
def LINE_TRIM.GAIN (k : Nat) : Field := ⟨0x40010068 + 0x1000 * k, 16, 12⟩
/-- R93, RW. -/
def LINE_TRIM.FREEZE (k : Nat) : Field := ⟨0x40010068 + 0x1000 * k, 31, 1⟩
/-- R94, RW. -/
def LINE_PEERSEL.NODE (k : Nat) : Field := ⟨0x40010070 + 0x1000 * k, 0, 8⟩
/-- R94, RO. -/
def LINE_PEERSNR.MEAN (k i : Nat) : Field := ⟨winAddr (0x40010074 + 0x1000 * k) i, 0, 8⟩
/-- R94, RO. -/
def LINE_PEERSNR.MIN (k i : Nat) : Field := ⟨winAddr (0x40010074 + 0x1000 * k) i, 8, 8⟩
/-- R94, RO. -/
def LINE_PEERSNR.EPOCH (k i : Nat) : Field := ⟨winAddr (0x40010074 + 0x1000 * k) i, 16, 4⟩
/-- R94, RO. -/
def LINE_PEERSNR.VALID (k i : Nat) : Field := ⟨winAddr (0x40010074 + 0x1000 * k) i, 20, 1⟩
/-- R94, RO. -/
def LINE_PEERSNR.PRIMARY (k i : Nat) : Field := ⟨winAddr (0x40010074 + 0x1000 * k) i, 21, 1⟩
/-- R94, RO. -/
def LINE_PEERBITS.BITS (k i : Nat) : Field := ⟨winAddr (0x40010078 + 0x1000 * k) i, 0, 14⟩
/-- R94, RO. -/
def LINE_PEERBITS.PROP (k i : Nat) : Field := ⟨winAddr (0x40010078 + 0x1000 * k) i, 16, 14⟩
/-- R95, RO. -/
def LINE_CNT_MISMATCH.VALUE (k : Nat) : Field := ⟨0x40010080 + 0x1000 * k, 0, 32⟩
/-- R95, RO. -/
def LINE_CNT_FIELDCRC.VALUE (k : Nat) : Field := ⟨0x40010084 + 0x1000 * k, 0, 32⟩
/-- R95, RO. -/
def LINE_CNT_ERASED.VALUE (k : Nat) : Field := ⟨0x40010088 + 0x1000 * k, 0, 32⟩
/-- R95, RO. -/
def LINE_CNT_LDPCNC.VALUE (k : Nat) : Field := ⟨0x4001008C + 0x1000 * k, 0, 32⟩
/-- R95, RO. -/
def LINE_CNT_CHANUCE.VALUE (k : Nat) : Field := ⟨0x40010090 + 0x1000 * k, 0, 32⟩
/-- R95, RO. -/
def LINE_CNT_NOACK.VALUE (k : Nat) : Field := ⟨0x40010094 + 0x1000 * k, 0, 32⟩
/-- R95, RO. -/
def LINE_CNT_SWITCH.VALUE (k : Nat) : Field := ⟨0x40010098 + 0x1000 * k, 0, 32⟩
/-- R105, RO. -/
def SCH_W0.CYCLE (j : Nat) : Field := ⟨0x4001C000 + 16 * j, 0, 4⟩
/-- R105, RO. -/
def SCH_W0.START (j : Nat) : Field := ⟨0x4001C000 + 16 * j, 4, 6⟩
/-- R105, RO. -/
def SCH_W0.LEN (j : Nat) : Field := ⟨0x4001C000 + 16 * j, 10, 6⟩
/-- R105, RO. -/
def SCH_W0.KIND (j : Nat) : Field := ⟨0x4001C000 + 16 * j, 16, 2⟩
/-- R105, RO. -/
def SCH_W0.PERIOD (j : Nat) : Field := ⟨0x4001C000 + 16 * j, 18, 3⟩
/-- R105, RO. -/
def SCH_W0.PHASE (j : Nat) : Field := ⟨0x4001C000 + 16 * j, 21, 6⟩
/-- R105, RO. -/
def SCH_W0.VALID (j : Nat) : Field := ⟨0x4001C000 + 16 * j, 31, 1⟩
/-- R105, RO. -/
def SCH_W1.CAR (j : Nat) : Field := ⟨0x4001C004 + 16 * j, 0, 7⟩
/-- R105, RO. -/
def SCH_W1.SIDE (j : Nat) : Field := ⟨0x4001C004 + 16 * j, 7, 2⟩
/-- R105, RO. -/
def SCH_W1.ROLE (j : Nat) : Field := ⟨0x4001C004 + 16 * j, 9, 1⟩
/-- R105, RO. -/
def SCH_W1.PRIO (j : Nat) : Field := ⟨0x4001C004 + 16 * j, 12, 4⟩
/-- R105, RO. -/
def SCH_W1.SUSPENDED (j : Nat) : Field := ⟨0x4001C004 + 16 * j, 16, 1⟩
/-- R105, RO. -/
def SCH_W2.LABEL (j : Nat) : Field := ⟨0x4001C008 + 16 * j, 0, 16⟩
/-- R105, RO. -/
def SCH_W2.CLAIMANT_LO (j : Nat) : Field := ⟨0x4001C008 + 16 * j, 0, 32⟩
/-- R139, RW. -/
def BAR_CTRL.EN : Field := ⟨0x40018000, 0, 1⟩
/-- R139, RW. -/
def BAR_CTRL.BACKOFF_MAX : Field := ⟨0x40018000, 4, 3⟩
/-- R139, RW. -/
def BAR_CTRL.ATTEMPT_EVT : Field := ⟨0x40018000, 8, 8⟩
/-- R139, RW. -/
def BAR_CTRL.RC_MISS : Field := ⟨0x40018000, 16, 8⟩
/-- R140, RO. -/
def BAR_STATUS.BEACON : Field := ⟨0x40018004, 0, 1⟩
/-- R140, RO. -/
def BAR_STATUS.LEAD : Field := ⟨0x40018004, 1, 1⟩
/-- R140, RO. -/
def BAR_STATUS.COAST : Field := ⟨0x40018004, 2, 1⟩
/-- R140, RO. -/
def BAR_STATUS.COAST_RUN : Field := ⟨0x40018004, 3, 3⟩
/-- R140, RO. -/
def BAR_STATUS.GENMIS : Field := ⟨0x40018004, 6, 1⟩
/-- R140, RO. -/
def BAR_STATUS.INAUG : Field := ⟨0x40018004, 7, 1⟩
/-- R140, RO. -/
def BAR_STATUS.MERGE : Field := ⟨0x40018004, 8, 1⟩
/-- R140, RO. -/
def BAR_STATUS.SUCCESSOR : Field := ⟨0x40018004, 9, 1⟩
/-- R140, RO. -/
def BAR_STATUS.RCSHORT : Field := ⟨0x40018004, 10, 1⟩
/-- R140, RO. -/
def BAR_STATUS.LULL : Field := ⟨0x40018004, 11, 1⟩
/-- R140, RO. -/
def BAR_STATUS.ROUNDPOS : Field := ⟨0x40018004, 12, 4⟩
/-- R140, RO. -/
def BAR_STATUS.NODE : Field := ⟨0x40018004, 16, 8⟩
/-- R141, RO. -/
def BAR_CYCLE.VALUE : Field := ⟨0x40018008, 0, 32⟩
/-- R141, RO. -/
def BAR_COMPID.VALUE : Field := ⟨0x4001800C, 0, 32⟩
/-- R141, RO. -/
def BAR_GEN.VALUE : Field := ⟨0x40018010, 0, 16⟩
/-- R141, RO. -/
def BAR_TTSTAMP.VALUE : Field := ⟨0x40018014, 0, 32⟩
/-- R141, RO. -/
def BAR_STRUID_LO.VALUE : Field := ⟨0x40018050, 0, 32⟩
/-- R141, RO. -/
def BAR_STRUID_HI.VALUE : Field := ⟨0x40018054, 0, 32⟩
/-- R142, RO. -/
def BAR_GRANT.G : Field := ⟨0x40018018, 0, 5⟩
/-- R142, RO. -/
def BAR_GRANT.SENT : Field := ⟨0x40018018, 8, 5⟩
/-- R142, RO. -/
def BAR_GRANT.SPARE : Field := ⟨0x40018018, 16, 1⟩
/-- R142, RW. -/
def BAR_SPARE.ENTRY : Field := ⟨0x40018020, 0, 9⟩
/-- R142, WO. -/
def BAR_SPARE.CANCEL : Field := ⟨0x40018020, 30, 1⟩
/-- R142, WO. -/
def BAR_SPARE.CLAIM : Field := ⟨0x40018020, 31, 1⟩
/-- R142, RO. -/
def BAR_SPARESTAT.ENTRY : Field := ⟨0x40018024, 0, 9⟩
/-- R142, RO. -/
def BAR_SPARESTAT.STATE : Field := ⟨0x40018024, 9, 3⟩
/-- R142, RO. -/
def BAR_SPARESTAT.ATTEMPTS : Field := ⟨0x40018024, 12, 8⟩
/-- R142, RO. -/
def BAR_SPARESTAT.NODE : Field := ⟨0x40018024, 20, 8⟩
/-- R142, RO. -/
def BAR_STRSRC.ATTACH : Field := ⟨0x40018058, 0, 4⟩
/-- R142, RO. -/
def BAR_STRSRC.KIND : Field := ⟨0x40018058, 4, 4⟩
/-- R144, W1C. -/
def BAR_EVT.BMISS : Field := ⟨0x40018060, 0, 1⟩
/-- R144, W1C. -/
def BAR_EVT.COAST3 : Field := ⟨0x40018060, 1, 1⟩
/-- R144, W1C. -/
def BAR_EVT.GENMIS : Field := ⟨0x40018060, 2, 1⟩
/-- R144, W1C. -/
def BAR_EVT.STRANGER : Field := ⟨0x40018060, 3, 1⟩
/-- R144, W1C. -/
def BAR_EVT.CONTFAIL : Field := ⟨0x40018060, 4, 1⟩
/-- R144, W1C. -/
def BAR_EVT.SPARE : Field := ⟨0x40018060, 5, 1⟩
/-- R144, W1C. -/
def BAR_EVT.ABSENT : Field := ⟨0x40018060, 6, 1⟩
/-- R144, W1C. -/
def BAR_EVT.OVERFLOW : Field := ⟨0x40018060, 7, 1⟩
/-- R144, W1C. -/
def BAR_EVT.MALFORMED : Field := ⟨0x40018060, 8, 1⟩
/-- R144, RW. -/
def BAR_EVT_EN.EN : Field := ⟨0x40018064, 0, 9⟩
/-- R145, RO. -/
def BAR_CNT_BCRC.VALUE : Field := ⟨0x40018080, 0, 32⟩
/-- R145, RO. -/
def BAR_CNT_BTAG.VALUE : Field := ⟨0x40018084, 0, 32⟩
/-- R145, RO. -/
def BAR_CNT_MALFORMED.VALUE : Field := ⟨0x40018088, 0, 32⟩
/-- R145, RO. -/
def BAR_CNT_BMISS.VALUE : Field := ⟨0x4001808C, 0, 32⟩
/-- R145, RO. -/
def BAR_CNT_HDRCRC.VALUE : Field := ⟨0x40018090, 0, 32⟩
/-- R145, RO. -/
def BAR_CNT_UCRC.VALUE : Field := ⟨0x40018094, 0, 32⟩
/-- R145, RO. -/
def BAR_CNT_UTAG.VALUE : Field := ⟨0x40018098, 0, 32⟩
/-- R145, RO. -/
def BAR_CNT_CONTOK.VALUE : Field := ⟨0x4001809C, 0, 32⟩
/-- R145, RO. -/
def BAR_CNT_CONTBAD.VALUE : Field := ⟨0x400180A0, 0, 32⟩
/-- R145, RO. -/
def BAR_CNT_STRANGER.VALUE : Field := ⟨0x400180A4, 0, 32⟩
/-- R145, RO. -/
def BAR_CNT_OVERFLOW.VALUE : Field := ⟨0x400180A8, 0, 32⟩
/-- R145, RO. -/
def BAR_CNT_GENMIS.VALUE : Field := ⟨0x400180AC, 0, 32⟩
/-- R145, RO. -/
def BAR_CNT_RCBAD.VALUE : Field := ⟨0x400180B0, 0, 32⟩
/-- R146, RW. -/
def GRD_CTRL.LATCH_TKO : Field := ⟨0x4001E000, 0, 1⟩
/-- R146, WO. -/
def GRD_CTRL.CLOSE : Field := ⟨0x4001E000, 8, 1⟩
/-- R146, WO. -/
def GRD_CTRL.REARM : Field := ⟨0x4001E000, 9, 1⟩
/-- R146, RO. -/
def GRD_STATUS.STATE : Field := ⟨0x4001E004, 0, 3⟩
/-- R146, RO. -/
def GRD_STATUS.ARMED : Field := ⟨0x4001E004, 3, 1⟩
/-- R146, RO. -/
def GRD_STATUS.LEAD : Field := ⟨0x4001E004, 4, 1⟩
/-- R146, RO. -/
def GRD_STATUS.TKO_EN : Field := ⟨0x4001E004, 5, 1⟩
/-- R146, RO. -/
def GRD_STATUS.ALIGNED : Field := ⟨0x4001E004, 6, 1⟩
/-- R146, RO. -/
def GRD_STATUS.BLOCKED : Field := ⟨0x4001E004, 8, 8⟩
/-- R146, RO. -/
def GRD_STATUS.UNGUARDED : Field := ⟨0x4001E004, 16, 8⟩
/-- R146, RO. -/
def GRD_STATUS.HOLD : Field := ⟨0x4001E004, 24, 8⟩
/-- R147, RO. -/
def GRD_COMPID.VALUE : Field := ⟨0x4001E008, 0, 32⟩
/-- R147, RO. -/
def GRD_ARMID.VALUE : Field := ⟨0x4001E00C, 0, 32⟩
/-- R147, RO. -/
def GRD_CYCLE.VALUE : Field := ⟨0x4001E010, 0, 32⟩
/-- R147, RO. -/
def GRD_ADVANCE.VALUE : Field := ⟨0x4001E014, 0, 16⟩
/-- R147, RO. -/
def GRD_SELF.VALUE : Field := ⟨0x4001E018, 0, 16⟩
/-- R147, RO. -/
def GRD_BLOCKED.VALUE : Field := ⟨0x4001E020, 0, 32⟩
/-- R147, RO. -/
def GRD_LATCH.VALUE : Field := ⟨0x4001E024, 0, 32⟩
/-- R147, RO. -/
def GRD_ALIGNREJ.VALUE : Field := ⟨0x4001E028, 0, 32⟩
/-- R147, RO. -/
def GRD_REFUSED.VALUE : Field := ⟨0x4001E02C, 0, 32⟩
/-- R147, RO. -/
def GRD_FOREIGNWR.VALUE : Field := ⟨0x4001E030, 0, 32⟩
/-- R148, RO. -/
def GRD_WIN.CYCLE (j : Nat) : Field := ⟨0x4001E100 + 4 * j, 0, 4⟩
/-- R148, RO. -/
def GRD_WIN.START (j : Nat) : Field := ⟨0x4001E100 + 4 * j, 4, 6⟩
/-- R148, RO. -/
def GRD_WIN.LEN (j : Nat) : Field := ⟨0x4001E100 + 4 * j, 10, 6⟩
/-- R148, RO. -/
def GRD_WIN.PERIOD (j : Nat) : Field := ⟨0x4001E100 + 4 * j, 16, 3⟩
/-- R148, RO. -/
def GRD_WIN.PHASE (j : Nat) : Field := ⟨0x4001E100 + 4 * j, 19, 6⟩
/-- R148, RO. -/
def GRD_WIN.VALID (j : Nat) : Field := ⟨0x4001E100 + 4 * j, 31, 1⟩
/-- R148, RO. -/
def GRD_TKO.CYCLE (j : Nat) : Field := ⟨0x4001E200 + 4 * j, 0, 4⟩
/-- R148, RO. -/
def GRD_TKO.START (j : Nat) : Field := ⟨0x4001E200 + 4 * j, 4, 6⟩
/-- R148, RO. -/
def GRD_TKO.LEN (j : Nat) : Field := ⟨0x4001E200 + 4 * j, 10, 6⟩
/-- R148, RO. -/
def GRD_TKO.PERIOD (j : Nat) : Field := ⟨0x4001E200 + 4 * j, 16, 3⟩
/-- R148, RO. -/
def GRD_TKO.PHASE (j : Nat) : Field := ⟨0x4001E200 + 4 * j, 19, 6⟩
/-- R148, RO. -/
def GRD_TKO.VALID (j : Nat) : Field := ⟨0x4001E200 + 4 * j, 31, 1⟩
/-- R193, RW. -/
def INA_CTRL.EN : Field := ⟨0x40020000, 0, 1⟩
/-- R193, RW. -/
def INA_CTRL.LEADREQ_EN : Field := ⟨0x40020000, 1, 1⟩
/-- R193, RW. -/
def INA_CTRL.MERGE_EN : Field := ⟨0x40020000, 2, 1⟩
/-- R193, RW. -/
def INA_CTRL.LISTEN : Field := ⟨0x40020000, 8, 8⟩
/-- R193, RW. -/
def INA_PRIO.PRIO : Field := ⟨0x40020004, 0, 4⟩
/-- R193, RO. -/
def INA_PRIO.EFFECTIVE : Field := ⟨0x40020004, 8, 4⟩
/-- R193, RO. -/
def INA_PRIO.LEADREQ : Field := ⟨0x40020004, 12, 1⟩
/-- R194, RWL. -/
def INA_CLASS.CLASS : Field := ⟨0x40020008, 0, 16⟩
/-- R194, WO. -/
def INA_CMD.COLD : Field := ⟨0x4002000C, 0, 1⟩
/-- R194, WO. -/
def INA_CMD.RENUMBER : Field := ⟨0x4002000C, 1, 1⟩
/-- R194, WO. -/
def INA_CMD.MERGE : Field := ⟨0x4002000C, 2, 1⟩
/-- R195, RO. -/
def INA_STATUS.STATE : Field := ⟨0x40020010, 0, 4⟩
/-- R195, RO. -/
def INA_STATUS.LEAD : Field := ⟨0x40020010, 4, 1⟩
/-- R195, RO. -/
def INA_STATUS.END : Field := ⟨0x40020010, 5, 1⟩
/-- R195, RO. -/
def INA_STATUS.ORIENT : Field := ⟨0x40020010, 6, 1⟩
/-- R195, RO. -/
def INA_STATUS.INAUG : Field := ⟨0x40020010, 7, 1⟩
/-- R195, RO. -/
def INA_STATUS.MPHASE : Field := ⟨0x40020010, 8, 3⟩
/-- R195, RO. -/
def INA_STATUS.REFUSE : Field := ⟨0x40020010, 11, 3⟩
/-- R195, RO. -/
def INA_STATUS.LIMIT : Field := ⟨0x40020010, 14, 1⟩
/-- R195, RO. -/
def INA_STATUS.DEPUTY : Field := ⟨0x40020010, 15, 1⟩
/-- R195, RO. -/
def INA_STATUS.KIND : Field := ⟨0x40020010, 16, 3⟩
/-- R196, RO. -/
def INA_SELF.VALUE : Field := ⟨0x40020014, 0, 32⟩
/-- R196, RO. -/
def INA_COUNT.VALUE : Field := ⟨0x40020018, 0, 32⟩
/-- R196, RO. -/
def INA_COMPID.VALUE : Field := ⟨0x4002001C, 0, 32⟩
/-- R196, RO. -/
def INA_NONCE_LO.VALUE : Field := ⟨0x40020020, 0, 32⟩
/-- R196, RO. -/
def INA_NONCE_HI.VALUE : Field := ⟨0x40020024, 0, 32⟩
/-- R196, RO. -/
def INA_GEN.VALUE : Field := ⟨0x40020028, 0, 16⟩
/-- R196, RO. -/
def INA_DELAY.VALUE : Field := ⟨0x4002002C, 0, 12⟩
/-- R196, RO. -/
def INA_MCYCLE.VALUE : Field := ⟨0x40020030, 0, 32⟩
/-- R196, RO. -/
def INA_JUNCID.VALUE : Field := ⟨0x40020040, 0, 32⟩
/-- R196, RO. -/
def INA_JUNC.VALUE : Field := ⟨0x40020044, 0, 32⟩
/-- R197, RW. -/
def INA_DIRSEL.NODE : Field := ⟨0x40020050, 0, 8⟩
/-- R197, RO. -/
def INA_DIRREC.RECORD (j i : Nat) : Field := ⟨winAddr (0x40020054 + 4 * j) i, 0, 32⟩
/-- R198, W1C. -/
def INA_EVT.TRIG : Field := ⟨0x40020070, 0, 1⟩
/-- R198, W1C. -/
def INA_EVT.COMMIT : Field := ⟨0x40020070, 1, 1⟩
/-- R198, W1C. -/
def INA_EVT.MERGED : Field := ⟨0x40020070, 2, 1⟩
/-- R198, W1C. -/
def INA_EVT.MERGEREF : Field := ⟨0x40020070, 3, 1⟩
/-- R198, W1C. -/
def INA_EVT.SPLIT : Field := ⟨0x40020070, 4, 1⟩
/-- R198, W1C. -/
def INA_EVT.SUCCESSOR : Field := ⟨0x40020070, 5, 1⟩
/-- R198, W1C. -/
def INA_EVT.DROP : Field := ⟨0x40020070, 6, 1⟩
/-- R198, W1C. -/
def INA_EVT.DUPPUB : Field := ⟨0x40020070, 7, 1⟩
/-- R198, W1C. -/
def INA_EVT.LIMIT : Field := ⟨0x40020070, 8, 1⟩
/-- R198, W1C. -/
def INA_EVT.SCHMIS : Field := ⟨0x40020070, 9, 1⟩
/-- R198, RW. -/
def INA_EVT_EN.EN : Field := ⟨0x40020074, 0, 10⟩
/-- R199, RO. -/
def INA_CNT_COLD.VALUE : Field := ⟨0x40020080, 0, 32⟩
/-- R199, RO. -/
def INA_CNT_COMMITS.VALUE : Field := ⟨0x40020084, 0, 32⟩
/-- R199, RO. -/
def INA_CNT_MERGES.VALUE : Field := ⟨0x40020088, 0, 32⟩
/-- R199, RO. -/
def INA_CNT_MERGEREF.VALUE : Field := ⟨0x4002008C, 0, 32⟩
/-- R199, RO. -/
def INA_CNT_SPLITS.VALUE : Field := ⟨0x40020090, 0, 32⟩
/-- R199, RO. -/
def INA_CNT_DROPS.VALUE : Field := ⟨0x40020094, 0, 32⟩
/-- R199, RO. -/
def INA_CNT_DUPPUB.VALUE : Field := ⟨0x40020098, 0, 32⟩
/-- R199, RO. -/
def INA_CNT_SCHMIS.VALUE : Field := ⟨0x4002009C, 0, 32⟩
/-- R200, RO. -/
def INA_DROP.LABEL (j : Nat) : Field := ⟨0x40020100 + 4 * j, 0, 16⟩
/-- R200, RO. -/
def INA_DROP.CAR (j : Nat) : Field := ⟨0x40020100 + 4 * j, 16, 7⟩
/-- R200, RO. -/
def INA_DROP.KIND (j : Nat) : Field := ⟨0x40020100 + 4 * j, 24, 1⟩
/-- R200, RO. -/
def INA_DROP.VALID (j : Nat) : Field := ⟨0x40020100 + 4 * j, 31, 1⟩
/-- R227, RW. -/
def SIG_CTRL.EN : Field := ⟨0x4002C000, 0, 1⟩
/-- R227, RW. -/
def SIG_CTRL.RCSTALE : Field := ⟨0x4002C000, 1, 1⟩
/-- R227, RW. -/
def SIG_CTRL.GWEN : Field := ⟨0x4002C000, 2, 1⟩
/-- R227, RW. -/
def SIG_CTRL.STALE_N : Field := ⟨0x4002C000, 8, 4⟩
/-- R227, RO. -/
def SIG_STATUS.APPLY : Field := ⟨0x4002C004, 0, 1⟩
/-- R227, RO. -/
def SIG_STATUS.DECLERR : Field := ⟨0x4002C004, 1, 1⟩
/-- R227, RO. -/
def SIG_STATUS.DSETS : Field := ⟨0x4002C004, 8, 8⟩
/-- R227, RO. -/
def SIG_STATUS.PUBSIGS : Field := ⟨0x4002C004, 16, 16⟩
/-- R228, RO. -/
def SIG_GEN.VALUE : Field := ⟨0x4002C008, 0, 32⟩
/-- R228, RO. -/
def SIG_FLIPCYC.VALUE : Field := ⟨0x4002C00C, 0, 32⟩
/-- R228, RO. -/
def SIG_APPLYMAX.VALUE : Field := ⟨0x4002C010, 0, 16⟩
/-- R229, RW. -/
def SIG_PUBSEL.DSET : Field := ⟨0x4002C020, 0, 8⟩
/-- R229, RWL. -/
def SIG_PUBW0.BASE (i : Nat) : Field := ⟨winAddr (0x4002C024) i, 0, 20⟩
/-- R229, RWL. -/
def SIG_PUBW0.CLASS (i : Nat) : Field := ⟨winAddr (0x4002C024) i, 20, 2⟩
/-- R229, RWL. -/
def SIG_PUBW0.POS (i : Nat) : Field := ⟨winAddr (0x4002C024) i, 22, 1⟩
/-- R229, RWL. -/
def SIG_PUBW0.VALID (i : Nat) : Field := ⟨winAddr (0x4002C024) i, 31, 1⟩
/-- R229, RWL. -/
def SIG_PUBW1.INDEX (i : Nat) : Field := ⟨winAddr (0x4002C028) i, 0, 16⟩
/-- R229, RWL. -/
def SIG_PUBW1.COUNT (i : Nat) : Field := ⟨winAddr (0x4002C028) i, 16, 15⟩
/-- R229, RWL. -/
def SIG_PUBW2.OWNER (i : Nat) : Field := ⟨winAddr (0x4002C02C) i, 0, 3⟩
/-- R229, RWL. -/
def SIG_PUBW2.LABEL (i : Nat) : Field := ⟨winAddr (0x4002C02C) i, 16, 16⟩
/-- R229, RO. -/
def SIG_PUBW3.ID (i : Nat) : Field := ⟨winAddr (0x4002C030) i, 0, 20⟩
/-- R229, RO. -/
def SIG_PUBW3.SUPPRESSED (i : Nat) : Field := ⟨winAddr (0x4002C030) i, 24, 1⟩
/-- R229, RO. -/
def SIG_PUBW3.CLASSMIS (i : Nat) : Field := ⟨winAddr (0x4002C030) i, 25, 1⟩
/-- R229, RO. -/
def SIG_PUBW3.UNBOUND (i : Nat) : Field := ⟨winAddr (0x4002C030) i, 26, 1⟩
/-- R229, RO. -/
def SIG_PUBW3.REFUSED (i : Nat) : Field := ⟨winAddr (0x4002C030) i, 27, 1⟩
/-- R230, RW. -/
def SIG_SUBSEL.RANGE : Field := ⟨0x4002C040, 0, 10⟩
/-- R230, RW. -/
def SIG_SUBW0.FIRST (i : Nat) : Field := ⟨winAddr (0x4002C044) i, 0, 20⟩
/-- R230, RW. -/
def SIG_SUBW0.MODE (i : Nat) : Field := ⟨winAddr (0x4002C044) i, 20, 2⟩
/-- R230, RW. -/
def SIG_SUBW0.VALID (i : Nat) : Field := ⟨winAddr (0x4002C044) i, 31, 1⟩
/-- R230, RW. -/
def SIG_SUBW1.INDEX (i : Nat) : Field := ⟨winAddr (0x4002C048) i, 0, 16⟩
/-- R230, RW. -/
def SIG_SUBW2.COUNT (i : Nat) : Field := ⟨winAddr (0x4002C04C) i, 0, 17⟩
/-- R230, RO. -/
def SIG_SUBW3.CURFIRST (i : Nat) : Field := ⟨winAddr (0x4002C050) i, 0, 20⟩
/-- R230, RO. -/
def SIG_SUBW3.ORPHAN (i : Nat) : Field := ⟨winAddr (0x4002C050) i, 24, 1⟩
/-- R230, RO. -/
def SIG_SUBW3.OVERLAP (i : Nat) : Field := ⟨winAddr (0x4002C050) i, 25, 1⟩
/-- R230, RO. -/
def SIG_SUBW3.RANGEERR (i : Nat) : Field := ⟨winAddr (0x4002C050) i, 26, 1⟩
/-- R231, RW. -/
def SIG_VIEWA.FIRST (j : Nat) : Field := ⟨0x4002C080 + 16 * j, 0, 16⟩
/-- R231, RW. -/
def SIG_VIEWB.COUNT (j : Nat) : Field := ⟨0x4002C084 + 16 * j, 0, 17⟩
/-- R231, RW. -/
def SIG_VIEWC.DEST (j : Nat) : Field := ⟨0x4002C088 + 16 * j, 0, 17⟩
/-- R231, RO. -/
def SIG_VIEWD.COPYTIME (j : Nat) : Field := ⟨0x4002C08C + 16 * j, 0, 16⟩
/-- R231, RO. -/
def SIG_VIEWD.VIEWERR (j : Nat) : Field := ⟨0x4002C08C + 16 * j, 16, 1⟩
/-- R232, RW. -/
def SIG_GWSEL.GROUP : Field := ⟨0x4002C100, 0, 6⟩
/-- R232, RW. -/
def SIG_GWW0.FIRST (i : Nat) : Field := ⟨winAddr (0x4002C104) i, 0, 16⟩
/-- R232, RW. -/
def SIG_GWW0.COUNT (i : Nat) : Field := ⟨winAddr (0x4002C104) i, 16, 13⟩
/-- R232, RW. -/
def SIG_GWW1.DEST (i : Nat) : Field := ⟨winAddr (0x4002C108) i, 0, 32⟩
/-- R232, RW. -/
def SIG_GWW2.PORT (i : Nat) : Field := ⟨winAddr (0x4002C10C) i, 0, 16⟩
/-- R232, RW. -/
def SIG_GWW2.PERIOD (i : Nat) : Field := ⟨winAddr (0x4002C10C) i, 16, 10⟩
/-- R232, RW. -/
def SIG_GWW2.EN (i : Nat) : Field := ⟨winAddr (0x4002C10C) i, 31, 1⟩
/-- R233, W1C. -/
def SIG_EVT.DUPSUP : Field := ⟨0x4002C140, 0, 1⟩
/-- R233, W1C. -/
def SIG_EVT.CLASSMIS : Field := ⟨0x4002C140, 1, 1⟩
/-- R233, W1C. -/
def SIG_EVT.UNBOUND : Field := ⟨0x4002C140, 2, 1⟩
/-- R233, W1C. -/
def SIG_EVT.ORPHAN : Field := ⟨0x4002C140, 3, 1⟩
/-- R233, W1C. -/
def SIG_EVT.NOMAP : Field := ⟨0x4002C140, 4, 1⟩
/-- R233, W1C. -/
def SIG_EVT.OWNTRAP : Field := ⟨0x4002C140, 5, 1⟩
/-- R233, W1C. -/
def SIG_EVT.UCE : Field := ⟨0x4002C140, 6, 1⟩
/-- R233, W1C. -/
def SIG_EVT.OVERLAP : Field := ⟨0x4002C140, 7, 1⟩
/-- R233, W1C. -/
def SIG_EVT.GWDROP : Field := ⟨0x4002C140, 8, 1⟩
/-- R233, W1C. -/
def SIG_EVT.VIEWERR : Field := ⟨0x4002C140, 9, 1⟩
/-- R233, RW. -/
def SIG_EVT_EN.EN : Field := ⟨0x4002C144, 0, 10⟩
/-- R234, RO. -/
def SIG_CNT_UNITS.VALUE : Field := ⟨0x4002C180, 0, 32⟩
/-- R234, RO. -/
def SIG_CNT_FOREIGNPUB.VALUE : Field := ⟨0x4002C184, 0, 32⟩
/-- R234, RO. -/
def SIG_CNT_NOMAP.VALUE : Field := ⟨0x4002C188, 0, 32⟩
/-- R234, RO. -/
def SIG_CNT_OWNTRAP.VALUE : Field := ⟨0x4002C18C, 0, 32⟩
/-- R234, RO. -/
def SIG_CNT_PIMGCE.VALUE : Field := ⟨0x4002C190, 0, 32⟩
/-- R234, RO. -/
def SIG_CNT_PIMGUCE.VALUE : Field := ⟨0x4002C194, 0, 32⟩
/-- R234, RO. -/
def SIG_CNT_SUBSUCE.VALUE : Field := ⟨0x4002C198, 0, 32⟩
/-- R234, RO. -/
def SIG_CNT_GWSENT.VALUE : Field := ⟨0x4002C19C, 0, 32⟩
/-- R234, RO. -/
def SIG_CNT_GWDROP.VALUE : Field := ⟨0x4002C1A0, 0, 32⟩
/-- R271, RW. -/
def MSG_CTRL.EN : Field := ⟨0x40028000, 0, 1⟩
/-- R271, RW. -/
def MSG_CTRL.PERSIST : Field := ⟨0x40028000, 1, 1⟩
/-- R271, RW. -/
def MSG_CTRL.ORPHAN : Field := ⟨0x40028000, 8, 8⟩
/-- R271, RW. -/
def MSG_CTRL.PROBE : Field := ⟨0x40028000, 16, 8⟩
/-- R271, RO. -/
def MSG_STATUS.MODE : Field := ⟨0x40028004, 0, 2⟩
/-- R271, RO. -/
def MSG_STATUS.DEGRADED : Field := ⟨0x40028004, 2, 1⟩
/-- R271, W1C. -/
def MSG_STATUS.LAPSED : Field := ⟨0x40028004, 3, 1⟩
/-- R271, RO. -/
def MSG_STATUS.RESTORED : Field := ⟨0x40028004, 4, 1⟩
/-- R271, RO. -/
def MSG_STATUS.POWERHOLD : Field := ⟨0x40028004, 5, 1⟩
/-- R271, RO. -/
def MSG_STATUS.HELDACC : Field := ⟨0x40028004, 6, 1⟩
/-- R272, RO. -/
def MSG_DELTA.VALUE : Field := ⟨0x40028008, 0, 17⟩
/-- R272, RO. -/
def MSG_STORE.FREE : Field := ⟨0x4002800C, 0, 14⟩
/-- R272, RO. -/
def MSG_STORE.FEWEST : Field := ⟨0x4002800C, 16, 14⟩
/-- R273, RW. -/
def MSG_GROUP.GROUP (j : Nat) : Field := ⟨0x40028020 + 4 * j, 0, 16⟩
/-- R273, RW. -/
def MSG_GROUP.EN (j : Nat) : Field := ⟨0x40028020 + 4 * j, 31, 1⟩
/-- R274, RW. -/
def MSG_OFSEL.FLOW : Field := ⟨0x40028060, 0, 8⟩
/-- R274, RW. -/
def MSG_OFW0.DKIND (i : Nat) : Field := ⟨winAddr (0x40028064) i, 0, 2⟩
/-- R274, RW. -/
def MSG_OFW0.PRIO (i : Nat) : Field := ⟨winAddr (0x40028064) i, 2, 3⟩
/-- R274, RW. -/
def MSG_OFW0.ACCREP (i : Nat) : Field := ⟨winAddr (0x40028064) i, 5, 1⟩
/-- R274, RW. -/
def MSG_OFW0.DELREP (i : Nat) : Field := ⟨winAddr (0x40028064) i, 6, 1⟩
/-- R274, RW. -/
def MSG_OFW0.RQ (i : Nat) : Field := ⟨winAddr (0x40028064) i, 8, 4⟩
/-- R274, RW. -/
def MSG_OFW0.OWNER (i : Nat) : Field := ⟨winAddr (0x40028064) i, 12, 4⟩
/-- R274, RW. -/
def MSG_OFW0.MLIST (i : Nat) : Field := ⟨winAddr (0x40028064) i, 16, 6⟩
/-- R274, RW. -/
def MSG_OFW1.DEST_LO (i : Nat) : Field := ⟨winAddr (0x40028068) i, 0, 32⟩
/-- R274, RW. -/
def MSG_OFW2.DEST_HI (i : Nat) : Field := ⟨winAddr (0x4002806C) i, 0, 32⟩
/-- R274, RO. -/
def MSG_OFW3.OUTSTANDING (i : Nat) : Field := ⟨winAddr (0x40028070) i, 0, 7⟩
/-- R274, RO. -/
def MSG_OFW3.RSTAT (i : Nat) : Field := ⟨winAddr (0x40028070) i, 7, 3⟩
/-- R274, RO. -/
def MSG_OFW3.BLOCKED (i : Nat) : Field := ⟨winAddr (0x40028070) i, 10, 1⟩
/-- R274, RO. -/
def MSG_OFW3.UNRESOLVED (i : Nat) : Field := ⟨winAddr (0x40028070) i, 11, 1⟩
/-- R274, RO. -/
def MSG_OFW4.NEXTSEQ (i : Nat) : Field := ⟨winAddr (0x40028074) i, 0, 32⟩
/-- R274, RO. -/
def MSG_OFW5.ACCSEQ (i : Nat) : Field := ⟨winAddr (0x40028078) i, 0, 32⟩
/-- R275, RW. -/
def MSG_IFSEL.FLOW : Field := ⟨0x40028080, 0, 8⟩
/-- R275, RW. -/
def MSG_IFW0.DQ (i : Nat) : Field := ⟨winAddr (0x40028084) i, 0, 4⟩
/-- R275, RW. -/
def MSG_IFW0.ANYSRC (i : Nat) : Field := ⟨winAddr (0x40028084) i, 4, 1⟩
/-- R275, RW. -/
def MSG_IFW0.SRCFLOW (i : Nat) : Field := ⟨winAddr (0x40028084) i, 8, 8⟩
/-- R275, RW. -/
def MSG_IFW0.OPEN (i : Nat) : Field := ⟨winAddr (0x40028084) i, 31, 1⟩
/-- R275, RW. -/
def MSG_IFW1.SRCUID_LO (i : Nat) : Field := ⟨winAddr (0x40028088) i, 0, 32⟩
/-- R275, RW. -/
def MSG_IFW2.SRCUID_HI (i : Nat) : Field := ⟨winAddr (0x4002808C) i, 0, 32⟩
/-- R275, RO. -/
def MSG_IFW3.RS (i : Nat) : Field := ⟨winAddr (0x40028090) i, 0, 32⟩
/-- R275, RO. -/
def MSG_IFW4.HELD (i : Nat) : Field := ⟨winAddr (0x40028094) i, 0, 7⟩
/-- R275, RO. -/
def MSG_IFW4.WAITGAP (i : Nat) : Field := ⟨winAddr (0x40028094) i, 7, 1⟩
/-- R275, RO. -/
def MSG_IFW4.BOUND (i : Nat) : Field := ⟨winAddr (0x40028094) i, 8, 1⟩
/-- R276, RW. -/
def MSG_MLSEL.LIST : Field := ⟨0x40028098, 0, 6⟩
/-- R276, RW. -/
def MSG_MLSEL.POS : Field := ⟨0x40028098, 8, 4⟩
/-- R276, RW. -/
def MSG_MLUID_LO.UID_LO (i : Nat) : Field := ⟨winAddr (0x4002809C) i, 0, 32⟩
/-- R276, RW. -/
def MSG_MLUID_HI.UID_HI (i : Nat) : Field := ⟨winAddr (0x400280A0) i, 0, 32⟩
/-- R277, RW. -/
def MSG_DQ.OWNER (j : Nat) : Field := ⟨0x400280C0 + 4 * j, 0, 4⟩
/-- R277, RO. -/
def MSG_DQ.DEPTH (j : Nat) : Field := ⟨0x400280C0 + 4 * j, 8, 9⟩
/-- R277, RO. -/
def MSG_DQ.READ (j : Nat) : Field := ⟨0x400280C0 + 4 * j, 24, 5⟩
/-- R278, RW. -/
def MSG_HPUT0.FLOW : Field := ⟨0x40028200, 0, 8⟩
/-- R278, RW. -/
def MSG_HPUT0.LENGTH : Field := ⟨0x40028200, 16, 13⟩
/-- R278, RW. -/
def MSG_HPUT1.ADDR : Field := ⟨0x40028204, 0, 32⟩
/-- R278, RW. -/
def MSG_HPUT2.LIFETIME : Field := ⟨0x40028208, 0, 27⟩
/-- R278, WO. -/
def MSG_HPUT3.EXPECT : Field := ⟨0x4002820C, 0, 32⟩
/-- R278, RO. -/
def MSG_HRES.CODE : Field := ⟨0x40028210, 0, 4⟩
/-- R278, RO. -/
def MSG_HSEQ.SEQ : Field := ⟨0x40028214, 0, 32⟩
/-- R278, RW. -/
def MSG_HQ.QUEUE : Field := ⟨0x40028218, 0, 4⟩
/-- R278, RO. -/
def MSG_HGET.DESC : Field := ⟨0x4002821C, 0, 32⟩
/-- R278, WO. -/
def MSG_HACK.ACK : Field := ⟨0x40028220, 0, 1⟩
/-- R278, RW. -/
def MSG_HWDR0.FLOW : Field := ⟨0x40028224, 0, 8⟩
/-- R278, WO. -/
def MSG_HWDR1.SEQ : Field := ⟨0x40028228, 0, 32⟩
/-- R279, W1C. -/
def MSG_EVT.LAPSED : Field := ⟨0x40028140, 0, 1⟩
/-- R279, W1C. -/
def MSG_EVT.MODE : Field := ⟨0x40028140, 1, 1⟩
/-- R279, W1C. -/
def MSG_EVT.REFUSED : Field := ⟨0x40028140, 2, 1⟩
/-- R279, W1C. -/
def MSG_EVT.FULL : Field := ⟨0x40028140, 3, 1⟩
/-- R279, W1C. -/
def MSG_EVT.UNRESOLVED : Field := ⟨0x40028140, 4, 1⟩
/-- R279, W1C. -/
def MSG_EVT.NOFLOW : Field := ⟨0x40028140, 5, 1⟩
/-- R279, W1C. -/
def MSG_EVT.UCE : Field := ⟨0x40028140, 6, 1⟩
/-- R279, W1C. -/
def MSG_EVT.RESTORED : Field := ⟨0x40028140, 7, 1⟩
/-- R279, RW. -/
def MSG_EVT_EN.EN : Field := ⟨0x40028144, 0, 8⟩
/-- R280, RO. -/
def MSG_CNT_SUBMIT.VALUE : Field := ⟨0x40028180, 0, 32⟩
/-- R280, RO. -/
def MSG_CNT_ACCEPT.VALUE : Field := ⟨0x40028184, 0, 32⟩
/-- R280, RO. -/
def MSG_CNT_REFUSED.VALUE : Field := ⟨0x40028188, 0, 32⟩
/-- R280, RO. -/
def MSG_CNT_SEGTX.VALUE : Field := ⟨0x4002818C, 0, 32⟩
/-- R280, RO. -/
def MSG_CNT_RETX.VALUE : Field := ⟨0x40028190, 0, 32⟩
/-- R280, RO. -/
def MSG_CNT_SEGRX.VALUE : Field := ⟨0x40028194, 0, 32⟩
/-- R280, RO. -/
def MSG_CNT_DUP.VALUE : Field := ⟨0x40028198, 0, 32⟩
/-- R280, RO. -/
def MSG_CNT_WINDOWERR.VALUE : Field := ⟨0x4002819C, 0, 32⟩
/-- R280, RO. -/
def MSG_CNT_DELIVERED.VALUE : Field := ⟨0x400281A0, 0, 32⟩
/-- R280, RO. -/
def MSG_CNT_KILLED.VALUE : Field := ⟨0x400281A4, 0, 32⟩
/-- R280, RO. -/
def MSG_CNT_NOFLOW.VALUE : Field := ⟨0x400281A8, 0, 32⟩
/-- R280, RO. -/
def MSG_CNT_NOTLISTED.VALUE : Field := ⟨0x400281AC, 0, 32⟩
/-- R280, RO. -/
def MSG_CNT_JRNLUCE.VALUE : Field := ⟨0x400281B0, 0, 32⟩
/-- R280, RO. -/
def MSG_CNT_RINGREC.VALUE : Field := ⟨0x400281B4, 0, 32⟩
/-- R313, RW. -/
def AUD_CTRL.EN : Field := ⟨0x40040000, 0, 1⟩
/-- R313, RW. -/
def AUD_CTRL.RAMP : Field := ⟨0x40040000, 8, 4⟩
/-- R313, RW. -/
def AUD_CTRL.ACT_THRESH : Field := ⟨0x40040000, 16, 8⟩
/-- R313, RW. -/
def AUD_CTRL.HANG : Field := ⟨0x40040000, 24, 8⟩
/-- R313, RO. -/
def AUD_STATUS.LOCK : Field := ⟨0x40040004, 0, 1⟩
/-- R313, RO. -/
def AUD_STATUS.ALIGNED : Field := ⟨0x40040004, 1, 1⟩
/-- R313, RO. -/
def AUD_STATUS.SLEW : Field := ⟨0x40040004, 2, 1⟩
/-- R313, RO. -/
def AUD_STATUS.HOLDOVER : Field := ⟨0x40040004, 3, 1⟩
/-- R313, RO. -/
def AUD_STATUS.RXPRESENT : Field := ⟨0x40040004, 16, 9⟩
/-- R314, RO. -/
def AUD_GRIDOFS.VALUE : Field := ⟨0x40040008, 0, 16⟩
/-- R314, RO. -/
def AUD_XCOUNT.VALUE : Field := ⟨0x4004000C, 0, 13⟩
/-- R315, RW. -/
def AUD_RXSEL.ENTRY : Field := ⟨0x40040010, 0, 8⟩
/-- R315, RW. -/
def AUD_RXW0.STREAM (i : Nat) : Field := ⟨winAddr (0x40040014) i, 0, 12⟩
/-- R315, RW. -/
def AUD_RXW0.EN (i : Nat) : Field := ⟨winAddr (0x40040014) i, 31, 1⟩
/-- R315, RO. -/
def AUD_RXW1.FORMAT (i : Nat) : Field := ⟨winAddr (0x40040018) i, 0, 4⟩
/-- R315, RO. -/
def AUD_RXW1.STATE (i : Nat) : Field := ⟨winAddr (0x40040018) i, 4, 3⟩
/-- R315, RO. -/
def AUD_RXW1.SENDER (i : Nat) : Field := ⟨winAddr (0x40040018) i, 8, 8⟩
/-- R315, RO. -/
def AUD_RXW1.SEQ (i : Nat) : Field := ⟨winAddr (0x40040018) i, 16, 16⟩
/-- R315, RO. -/
def AUD_RXW2.CONCEAL (i : Nat) : Field := ⟨winAddr (0x4004001C) i, 0, 16⟩
/-- R315, RO. -/
def AUD_RXW2.LATE (i : Nat) : Field := ⟨winAddr (0x4004001C) i, 16, 16⟩
/-- R316, RW. -/
def AUD_TXSEL.ENTRY : Field := ⟨0x40040020, 0, 6⟩
/-- R316, RW. -/
def AUD_TXW0.STREAM (i : Nat) : Field := ⟨winAddr (0x40040024) i, 0, 12⟩
/-- R316, RW. -/
def AUD_TXW0.FORMAT (i : Nat) : Field := ⟨winAddr (0x40040024) i, 12, 4⟩
/-- R316, RW. -/
def AUD_TXW0.EN (i : Nat) : Field := ⟨winAddr (0x40040024) i, 31, 1⟩
/-- R316, RW. -/
def AUD_TXW1.LABEL (i : Nat) : Field := ⟨winAddr (0x40040028) i, 0, 16⟩
/-- R316, RO. -/
def AUD_TXW2.STATE (i : Nat) : Field := ⟨winAddr (0x4004002C) i, 0, 3⟩
/-- R316, RO. -/
def AUD_TXW2.RATEMIS (i : Nat) : Field := ⟨winAddr (0x4004002C) i, 3, 1⟩
/-- R316, RO. -/
def AUD_TXW2.SEQ (i : Nat) : Field := ⟨winAddr (0x4004002C) i, 16, 16⟩
/-- R317, RW. -/
def AUD_XSEL.IN : Field := ⟨0x40040030, 0, 9⟩
/-- R317, RW. -/
def AUD_XSEL.OUT : Field := ⟨0x40040030, 16, 7⟩
/-- R317, RW. -/
def AUD_XW.GAIN (i : Nat) : Field := ⟨winAddr (0x40040034) i, 0, 10⟩
/-- R317, RW. -/
def AUD_XW.PRIO (i : Nat) : Field := ⟨winAddr (0x40040034) i, 10, 3⟩
/-- R317, RW. -/
def AUD_XW.DUCK (i : Nat) : Field := ⟨winAddr (0x40040034) i, 13, 4⟩
/-- R317, RW. -/
def AUD_XW.EN (i : Nat) : Field := ⟨winAddr (0x40040034) i, 31, 1⟩
/-- R318, RW. -/
def AUD_ZSEL.ZONE : Field := ⟨0x40040040, 0, 7⟩
/-- R318, RW. -/
def AUD_ZCTRL.BQEN (i : Nat) : Field := ⟨winAddr (0x40040044) i, 0, 8⟩
/-- R318, RW. -/
def AUD_ZCTRL.LIMEN (i : Nat) : Field := ⟨winAddr (0x40040044) i, 8, 1⟩
/-- R318, RW. -/
def AUD_ZCTRL.ANCEN (i : Nat) : Field := ⟨winAddr (0x40040044) i, 9, 1⟩
/-- R318, WO. -/
def AUD_ZCTRL.COMMIT (i : Nat) : Field := ⟨winAddr (0x40040044) i, 16, 1⟩
/-- R318, RO. -/
def AUD_ZCTRL.BANK (i : Nat) : Field := ⟨winAddr (0x40040044) i, 17, 1⟩
/-- R318, RW. -/
def AUD_ZCSEL.BQ : Field := ⟨0x40040048, 0, 3⟩
/-- R318, RW. -/
def AUD_ZCSEL.COEF : Field := ⟨0x40040048, 4, 3⟩
/-- R318, RW. -/
def AUD_ZCDATA.DATA (i : Nat) : Field := ⟨winAddr (0x4004004C) i, 0, 32⟩
/-- R318, RW. -/
def AUD_ZLIM.THRESH (i : Nat) : Field := ⟨winAddr (0x40040050) i, 0, 8⟩
/-- R318, RW. -/
def AUD_ZLIM.RELEASE (i : Nat) : Field := ⟨winAddr (0x40040050) i, 16, 8⟩
/-- R318, RW. -/
def AUD_ZANC.SENSE (i : Nat) : Field := ⟨winAddr (0x40040054) i, 0, 6⟩
/-- R318, RW. -/
def AUD_ZANC.NREF (i : Nat) : Field := ⟨winAddr (0x40040054) i, 8, 8⟩
/-- R318, RW. -/
def AUD_ZANC.SLOPE (i : Nat) : Field := ⟨winAddr (0x40040054) i, 16, 4⟩
/-- R318, RW. -/
def AUD_ZANC.MAXB (i : Nat) : Field := ⟨winAddr (0x40040054) i, 24, 4⟩
/-- R318, RO. -/
def AUD_ZSTAT.ANCGAIN (i : Nat) : Field := ⟨winAddr (0x40040058) i, 0, 8⟩
/-- R318, RO. -/
def AUD_ZSTAT.NOISE (i : Nat) : Field := ⟨winAddr (0x40040058) i, 8, 8⟩
/-- R318, RO. -/
def AUD_ZSTAT.GAPAGE (i : Nat) : Field := ⟨winAddr (0x40040058) i, 16, 12⟩
/-- R318, RO. -/
def AUD_ZSTAT.LIMACT (i : Nat) : Field := ⟨winAddr (0x40040058) i, 28, 1⟩
/-- R318, RO. -/
def AUD_ZSTAT.HOLD (i : Nat) : Field := ⟨winAddr (0x40040058) i, 29, 1⟩
/-- R319, RW. -/
def AUD_GSEL.GEN : Field := ⟨0x40040060, 0, 6⟩
/-- R319, RW. -/
def AUD_GW0.KIND (i : Nat) : Field := ⟨winAddr (0x40040064) i, 0, 3⟩
/-- R319, RW. -/
def AUD_GW0.CLIPFMT (i : Nat) : Field := ⟨winAddr (0x40040064) i, 3, 2⟩
/-- R319, RW. -/
def AUD_GW0.LOOP (i : Nat) : Field := ⟨winAddr (0x40040064) i, 8, 8⟩
/-- R319, RW. -/
def AUD_GW0.LEVEL (i : Nat) : Field := ⟨winAddr (0x40040064) i, 16, 10⟩
/-- R319, RO. -/
def AUD_GW0.RUN (i : Nat) : Field := ⟨winAddr (0x40040064) i, 31, 1⟩
/-- R319, RW. -/
def AUD_GW1.F1 (i : Nat) : Field := ⟨winAddr (0x40040068) i, 0, 16⟩
/-- R319, RW. -/
def AUD_GW1.F2 (i : Nat) : Field := ⟨winAddr (0x40040068) i, 16, 16⟩
/-- R319, RW. -/
def AUD_GW2.CLIPSTART (i : Nat) : Field := ⟨winAddr (0x4004006C) i, 0, 16⟩
/-- R319, RW. -/
def AUD_GW2.CLIPLEN (i : Nat) : Field := ⟨winAddr (0x4004006C) i, 16, 16⟩
/-- R319, RW. -/
def AUD_GW3.DURATION (i : Nat) : Field := ⟨winAddr (0x40040070) i, 0, 16⟩
/-- R319, WO. -/
def AUD_GW4.START (i : Nat) : Field := ⟨winAddr (0x40040074) i, 0, 32⟩
/-- R319, WO. -/
def AUD_GSTOP.GEN : Field := ⟨0x40040078, 0, 6⟩
/-- R320, RW. -/
def AUD_CLIPSRC.SRC : Field := ⟨0x40040080, 0, 32⟩
/-- R320, RW. -/
def AUD_CLIPDST.DST : Field := ⟨0x40040084, 0, 16⟩
/-- R320, RW. -/
def AUD_CLIPLEN.LEN : Field := ⟨0x40040088, 0, 16⟩
/-- R320, WO. -/
def AUD_CLIPLEN.GO : Field := ⟨0x40040088, 31, 1⟩
/-- R320, RO. -/
def AUD_CLIPSTAT.BUSY : Field := ⟨0x4004008C, 0, 1⟩
/-- R320, RO. -/
def AUD_CLIPSTAT.ERR : Field := ⟨0x4004008C, 1, 1⟩
/-- R320, RO. -/
def AUD_CLIPSTAT.DONE : Field := ⟨0x4004008C, 16, 16⟩
/-- R321, RW. -/
def AUD_ECA.MIC (j : Nat) : Field := ⟨0x40040100 + 8 * j, 0, 6⟩
/-- R321, RW. -/
def AUD_ECA.REF (j : Nat) : Field := ⟨0x40040100 + 8 * j, 8, 6⟩
/-- R321, RW. -/
def AUD_ECA.BULK (j : Nat) : Field := ⟨0x40040100 + 8 * j, 16, 4⟩
/-- R321, RW. -/
def AUD_ECA.MU (j : Nat) : Field := ⟨0x40040100 + 8 * j, 20, 3⟩
/-- R321, WO. -/
def AUD_ECA.BURST (j : Nat) : Field := ⟨0x40040100 + 8 * j, 24, 1⟩
/-- R321, RW. -/
def AUD_ECA.EN (j : Nat) : Field := ⟨0x40040100 + 8 * j, 31, 1⟩
/-- R321, RW. -/
def AUD_ECB.GUST (j : Nat) : Field := ⟨0x40040104 + 8 * j, 0, 8⟩
/-- R321, RO. -/
def AUD_ECB.ERLE (j : Nat) : Field := ⟨0x40040104 + 8 * j, 8, 8⟩
/-- R321, RO. -/
def AUD_ECB.STATE (j : Nat) : Field := ⟨0x40040104 + 8 * j, 16, 3⟩
/-- R322, W1C. -/
def AUD_EVT.MUTE : Field := ⟨0x400401C0, 0, 1⟩
/-- R322, W1C. -/
def AUD_EVT.LATE : Field := ⟨0x400401C0, 1, 1⟩
/-- R322, W1C. -/
def AUD_EVT.DUPSTREAM : Field := ⟨0x400401C0, 2, 1⟩
/-- R322, W1C. -/
def AUD_EVT.UNBOUND : Field := ⟨0x400401C0, 3, 1⟩
/-- R322, W1C. -/
def AUD_EVT.RATEMIS : Field := ⟨0x400401C0, 4, 1⟩
/-- R322, W1C. -/
def AUD_EVT.ALIGN : Field := ⟨0x400401C0, 5, 1⟩
/-- R322, W1C. -/
def AUD_EVT.ECDIV : Field := ⟨0x400401C0, 6, 1⟩
/-- R322, W1C. -/
def AUD_EVT.XFULL : Field := ⟨0x400401C0, 7, 1⟩
/-- R322, W1C. -/
def AUD_EVT.GLATE : Field := ⟨0x400401C0, 8, 1⟩
/-- R322, W1C. -/
def AUD_EVT.CLIPERR : Field := ⟨0x400401C0, 9, 1⟩
/-- R322, W1C. -/
def AUD_EVT.UCE : Field := ⟨0x400401C0, 10, 1⟩
/-- R322, RW. -/
def AUD_EVT_EN.EN : Field := ⟨0x400401C4, 0, 11⟩
/-- R323, RO. -/
def AUD_CNT_BLKTX.VALUE : Field := ⟨0x40040200, 0, 32⟩
/-- R323, RO. -/
def AUD_CNT_BLKRX.VALUE : Field := ⟨0x40040204, 0, 32⟩
/-- R323, RO. -/
def AUD_CNT_CONCEAL.VALUE : Field := ⟨0x40040208, 0, 32⟩
/-- R323, RO. -/
def AUD_CNT_MUTES.VALUE : Field := ⟨0x4004020C, 0, 32⟩
/-- R323, RO. -/
def AUD_CNT_LATE.VALUE : Field := ⟨0x40040210, 0, 32⟩
/-- R323, RO. -/
def AUD_CNT_FOREIGNSTR.VALUE : Field := ⟨0x40040214, 0, 32⟩
/-- R323, RO. -/
def AUD_CNT_XREFUSED.VALUE : Field := ⟨0x40040218, 0, 32⟩
/-- R323, RO. -/
def AUD_CNT_BUFCE.VALUE : Field := ⟨0x4004021C, 0, 32⟩
/-- R323, RO. -/
def AUD_CNT_BUFUCE.VALUE : Field := ⟨0x40040220, 0, 32⟩
/-- R323, RO. -/
def AUD_CNT_ECRESET.VALUE : Field := ⟨0x40040224, 0, 32⟩
/-- R354, RW. -/
def ENG_CTRL.HB (k : Nat) : Field := ⟨0x40030000 + 0x1000 * k, 0, 1⟩
/-- R354, RW. -/
def ENG_CTRL.TKO (k : Nat) : Field := ⟨0x40030000 + 0x1000 * k, 1, 1⟩
/-- R354, RW. -/
def ENG_CTRL.RECHALT (k : Nat) : Field := ⟨0x40030000 + 0x1000 * k, 2, 1⟩
/-- R354, WO. -/
def ENG_CMD.START (k : Nat) : Field := ⟨0x40030004 + 0x1000 * k, 0, 1⟩
/-- R354, WO. -/
def ENG_CMD.CLEAN (k : Nat) : Field := ⟨0x40030004 + 0x1000 * k, 1, 1⟩
/-- R354, WO. -/
def ENG_CMD.STOP (k : Nat) : Field := ⟨0x40030004 + 0x1000 * k, 2, 1⟩
/-- R355, RO. -/
def ENG_STATUS.STATE (k : Nat) : Field := ⟨0x40030008 + 0x1000 * k, 0, 3⟩
/-- R355, RO. -/
def ENG_STATUS.SAFE (k : Nat) : Field := ⟨0x40030008 + 0x1000 * k, 3, 1⟩
/-- R355, RO. -/
def ENG_STATUS.STOPPEND (k : Nat) : Field := ⟨0x40030008 + 0x1000 * k, 4, 1⟩
/-- R355, RO. -/
def ENG_STATUS.CAUSE (k : Nat) : Field := ⟨0x40030008 + 0x1000 * k, 8, 5⟩
/-- R356, RW. -/
def ENG_ENTRY.VALUE (k : Nat) : Field := ⟨0x4003000C + 0x1000 * k, 0, 20⟩
/-- R356, RW. -/
def ENG_LIMIT.VALUE (k : Nat) : Field := ⟨0x40030010 + 0x1000 * k, 0, 20⟩
/-- R356, RW. -/
def ENG_MINCYC.VALUE (k : Nat) : Field := ⟨0x40030014 + 0x1000 * k, 0, 20⟩
/-- R356, RO. -/
def ENG_CYCLAST.VALUE (k : Nat) : Field := ⟨0x40030018 + 0x1000 * k, 0, 20⟩
/-- R356, RO. -/
def ENG_CYCMAX.VALUE (k : Nat) : Field := ⟨0x4003001C + 0x1000 * k, 0, 20⟩
/-- R356, RO. -/
def ENG_RUNMAX.VALUE (k : Nat) : Field := ⟨0x40030020 + 0x1000 * k, 0, 20⟩
/-- R356, RO. -/
def ENG_FAULTPC.VALUE (k : Nat) : Field := ⟨0x40030024 + 0x1000 * k, 0, 32⟩
/-- R356, RO. -/
def ENG_FAULTADDR.VALUE (k : Nat) : Field := ⟨0x40030028 + 0x1000 * k, 0, 32⟩
/-- R357, RW. -/
def ENG_QDMEM.QUOTA (k : Nat) : Field := ⟨0x40030030 + 0x1000 * k, 0, 9⟩
/-- R357, RO. -/
def ENG_QDMEM.USE (k : Nat) : Field := ⟨0x40030030 + 0x1000 * k, 16, 9⟩
/-- R357, RW. -/
def ENG_QTMR.QUOTA (k : Nat) : Field := ⟨0x40030034 + 0x1000 * k, 0, 13⟩
/-- R357, RO. -/
def ENG_QTMR.USE (k : Nat) : Field := ⟨0x40030034 + 0x1000 * k, 16, 13⟩
/-- R357, RW. -/
def ENG_QEDGE.QUOTA (k : Nat) : Field := ⟨0x40030038 + 0x1000 * k, 0, 14⟩
/-- R357, RO. -/
def ENG_QEDGE.USE (k : Nat) : Field := ⟨0x40030038 + 0x1000 * k, 16, 14⟩
/-- R357, RW. -/
def ENG_QPOOL.QUOTA (k : Nat) : Field := ⟨0x4003003C + 0x1000 * k, 0, 11⟩
/-- R357, RO. -/
def ENG_QPOOL.USE (k : Nat) : Field := ⟨0x4003003C + 0x1000 * k, 16, 11⟩
/-- R358, RW. -/
def ENG_SYNC.CHAN (k : Nat) : Field := ⟨0x40030050 + 0x1000 * k, 0, 8⟩
/-- R358, RW. -/
def ENG_SYNC.EN (k : Nat) : Field := ⟨0x40030050 + 0x1000 * k, 8, 1⟩
/-- R358, RW. -/
def ENG_SYNC.WAITIN (k : Nat) : Field := ⟨0x40030050 + 0x1000 * k, 9, 1⟩
/-- R358, RW. -/
def ENG_SYNC.MISS (k : Nat) : Field := ⟨0x40030050 + 0x1000 * k, 16, 8⟩
/-- R358, RW. -/
def ENG_SYNCT.INWIN (k : Nat) : Field := ⟨0x40030054 + 0x1000 * k, 0, 16⟩
/-- R358, RW. -/
def ENG_SYNCT.OUTTMO (k : Nat) : Field := ⟨0x40030054 + 0x1000 * k, 16, 16⟩
/-- R358, RO. -/
def ENG_SYNCSTAT.INMISS (k : Nat) : Field := ⟨0x40030058 + 0x1000 * k, 0, 8⟩
/-- R358, W1C. -/
def ENG_SYNCSTAT.ABANDON (k : Nat) : Field := ⟨0x40030058 + 0x1000 * k, 8, 8⟩
/-- R358, RO. -/
def ENG_SYNCSTAT.ACTIVE (k : Nat) : Field := ⟨0x40030058 + 0x1000 * k, 16, 1⟩
/-- R358, W1C. -/
def ENG_SYNCSTAT.SYNCERR (k : Nat) : Field := ⟨0x40030058 + 0x1000 * k, 17, 1⟩
/-- R359, RW. -/
def ENG_SAFEA.TARGET (k j : Nat) : Field := ⟨0x40030100 + 0x1000 * k + 8 * j, 0, 16⟩
/-- R359, RW. -/
def ENG_SAFEA.KIND (k j : Nat) : Field := ⟨0x40030100 + 0x1000 * k + 8 * j, 16, 2⟩
/-- R359, RW. -/
def ENG_SAFEB.VALUE (k j : Nat) : Field := ⟨0x40030104 + 0x1000 * k + 8 * j, 0, 32⟩
/-- R360, W1C. -/
def ENG_EVT.OVERRUN (k : Nat) : Field := ⟨0x400300C0 + 0x1000 * k, 0, 1⟩
/-- R360, W1C. -/
def ENG_EVT.FAULT (k : Nat) : Field := ⟨0x400300C0 + 0x1000 * k, 1, 1⟩
/-- R360, W1C. -/
def ENG_EVT.HALT (k : Nat) : Field := ⟨0x400300C0 + 0x1000 * k, 2, 1⟩
/-- R360, W1C. -/
def ENG_EVT.SYNCLATE (k : Nat) : Field := ⟨0x400300C0 + 0x1000 * k, 3, 1⟩
/-- R360, W1C. -/
def ENG_EVT.INMISS (k : Nat) : Field := ⟨0x400300C0 + 0x1000 * k, 4, 1⟩
/-- R360, W1C. -/
def ENG_EVT.QUOTA (k : Nat) : Field := ⟨0x400300C0 + 0x1000 * k, 5, 1⟩
/-- R360, RW. -/
def ENG_EVT_EN.EN (k : Nat) : Field := ⟨0x400300C4 + 0x1000 * k, 0, 6⟩
/-- R361, RO. -/
def ENG_CNT_CYCLES.VALUE (k : Nat) : Field := ⟨0x40030080 + 0x1000 * k, 0, 32⟩
/-- R361, RO. -/
def ENG_CNT_OVERRUNS.VALUE (k : Nat) : Field := ⟨0x40030084 + 0x1000 * k, 0, 32⟩
/-- R361, RO. -/
def ENG_CNT_FAULTS.VALUE (k : Nat) : Field := ⟨0x40030088 + 0x1000 * k, 0, 32⟩
/-- R361, RO. -/
def ENG_CNT_SYNCLATE.VALUE (k : Nat) : Field := ⟨0x4003008C + 0x1000 * k, 0, 32⟩
/-- R361, RO. -/
def ENG_CNT_SAFESKIP.VALUE (k : Nat) : Field := ⟨0x40030090 + 0x1000 * k, 0, 32⟩
/-- R361, RO. -/
def ENG_CNT_ECCCE.VALUE (k : Nat) : Field := ⟨0x40030094 + 0x1000 * k, 0, 32⟩
/-- R362, RW. -/
def ENG0_DALLOC.FIRST : Field := ⟨0x40030800, 0, 8⟩
/-- R362, RW. -/
def ENG0_DALLOC.COUNT : Field := ⟨0x40030800, 8, 9⟩
/-- R362, RW. -/
def ENG0_DALLOC.ENGINE : Field := ⟨0x40030800, 17, 3⟩
/-- R362, RW. -/
def ENG0_DALLOC.FREE : Field := ⟨0x40030800, 30, 1⟩
/-- R362, WO. -/
def ENG0_DALLOC.GO : Field := ⟨0x40030800, 31, 1⟩
/-- R362, RO. -/
def ENG0_DRES.RESULT : Field := ⟨0x40030804, 0, 3⟩
/-- R363, RW. -/
def ENG0_FSEL.ENTRY : Field := ⟨0x40030900, 0, 8⟩
/-- R363, RW. -/
def ENG0_FW0.TARGET (i : Nat) : Field := ⟨winAddr (0x40030904) i, 0, 16⟩
/-- R363, RW. -/
def ENG0_FW0.KIND (i : Nat) : Field := ⟨winAddr (0x40030904) i, 16, 2⟩
/-- R363, RW. -/
def ENG0_FW0.EN (i : Nat) : Field := ⟨winAddr (0x40030904) i, 31, 1⟩
/-- R363, RW. -/
def ENG0_FW1.VALUE (i : Nat) : Field := ⟨winAddr (0x40030908) i, 0, 32⟩
/-- R363, RO. -/
def ENG0_FW2.UNDER (i : Nat) : Field := ⟨winAddr (0x4003090C) i, 0, 32⟩
/-- R363, WO. -/
def ENG0_FCMD.CLEARALL : Field := ⟨0x40030910, 0, 1⟩
/-- R363, RO. -/
def ENG0_FSTAT.ACTIVE : Field := ⟨0x40030914, 0, 9⟩
/-- R363, RO. -/
def ENG0_FSTAT.FORCEWR : Field := ⟨0x40030914, 16, 16⟩
/-- R364, RW. -/
def TMR_TALLOC.FIRST : Field := ⟨0x40038000, 0, 12⟩
/-- R364, RW. -/
def TMR_TALLOC.COUNT : Field := ⟨0x40038000, 12, 13⟩
/-- R364, RW. -/
def TMR_TALLOC.ENGINE : Field := ⟨0x40038000, 25, 3⟩
/-- R364, RW. -/
def TMR_TALLOC.FREE : Field := ⟨0x40038000, 30, 1⟩
/-- R364, WO. -/
def TMR_TALLOC.GO : Field := ⟨0x40038000, 31, 1⟩
/-- R364, RO. -/
def TMR_TRES.RESULT : Field := ⟨0x40038004, 0, 3⟩
/-- R364, RW. -/
def TMR_EALLOC.FIRST : Field := ⟨0x40038008, 0, 13⟩
/-- R364, RW. -/
def TMR_EALLOC.COUNT : Field := ⟨0x40038008, 13, 14⟩
/-- R364, RW. -/
def TMR_EALLOC.ENGINE : Field := ⟨0x40038008, 27, 3⟩
/-- R364, RW. -/
def TMR_EALLOC.FREE : Field := ⟨0x40038008, 30, 1⟩
/-- R364, WO. -/
def TMR_EALLOC.GO : Field := ⟨0x40038008, 31, 1⟩
/-- R364, RO. -/
def TMR_ERES.RESULT : Field := ⟨0x4003800C, 0, 3⟩
/-- R365, RW. -/
def TMR_TSEL.CELL : Field := ⟨0x40038010, 0, 12⟩
/-- R365, RO. -/
def TMR_TW0.KIND (i : Nat) : Field := ⟨winAddr (0x40038014) i, 0, 3⟩
/-- R365, RO. -/
def TMR_TW0.IN (i : Nat) : Field := ⟨winAddr (0x40038014) i, 3, 1⟩
/-- R365, RO. -/
def TMR_TW0.Q (i : Nat) : Field := ⟨winAddr (0x40038014) i, 4, 1⟩
/-- R365, RO. -/
def TMR_TW0.OWNER (i : Nat) : Field := ⟨winAddr (0x40038014) i, 5, 3⟩
/-- R365, RO. -/
def TMR_TW0.HELD (i : Nat) : Field := ⟨winAddr (0x40038014) i, 8, 1⟩
/-- R365, RO. -/
def TMR_TW1.PRESET (i : Nat) : Field := ⟨winAddr (0x40038018) i, 0, 32⟩
/-- R365, RO. -/
def TMR_TW2.VALUE (i : Nat) : Field := ⟨winAddr (0x4003801C) i, 0, 32⟩
/-- R365, RW. -/
def TMR_ESEL.CELL : Field := ⟨0x40038020, 0, 13⟩
/-- R365, RO. -/
def TMR_EW.PREV (i : Nat) : Field := ⟨winAddr (0x40038024) i, 0, 1⟩
/-- R365, RO. -/
def TMR_EW.OWNER (i : Nat) : Field := ⟨winAddr (0x40038024) i, 1, 3⟩
/-- R365, RO. -/
def TMR_EW.HELD (i : Nat) : Field := ⟨winAddr (0x40038024) i, 4, 1⟩
/-- R366, RO. -/
def TMR_USE.TIMERS : Field := ⟨0x40038028, 0, 13⟩
/-- R366, RO. -/
def TMR_USE.EDGES : Field := ⟨0x40038028, 16, 14⟩
/-- R414, RW. -/
def PEX_LOAD.SRC : Field := ⟨0x4003C000, 0, 2⟩
/-- R414, WO. -/
def PEX_LOAD.GO : Field := ⟨0x4003C000, 31, 1⟩
/-- R414, WO. -/
def PEX_CMD.ARM : Field := ⟨0x4003C004, 0, 1⟩
/-- R414, WO. -/
def PEX_CMD.ABORT : Field := ⟨0x4003C004, 1, 1⟩
/-- R414, RW. -/
def PEX_WAIT.TIME : Field := ⟨0x4003C008, 0, 14⟩
/-- R415, RO. -/
def PEX_STATUS.STATE : Field := ⟨0x4003C00C, 0, 4⟩
/-- R415, RO. -/
def PEX_STATUS.ERR : Field := ⟨0x4003C00C, 8, 4⟩
/-- R415, RO. -/
def PEX_STATUS.BANK : Field := ⟨0x4003C00C, 12, 1⟩
/-- R415, RO. -/
def PEX_STATUS.PATCHED : Field := ⟨0x4003C00C, 13, 1⟩
/-- R415, RO. -/
def PEX_STATUS.STBYLATE : Field := ⟨0x4003C00C, 14, 1⟩
/-- R416, RO. -/
def PEX_GROUP.GROUP : Field := ⟨0x4003C010, 0, 8⟩
/-- R416, RO. -/
def PEX_GROUP.ARRIVED : Field := ⟨0x4003C010, 8, 8⟩
/-- R416, RO. -/
def PEX_HOLDLAST.VALUE : Field := ⟨0x4003C014, 0, 16⟩
/-- R416, RO. -/
def PEX_HOLDMAX.VALUE : Field := ⟨0x4003C018, 0, 16⟩
/-- R416, RO. -/
def PEX_SWAPCYC.VALUE : Field := ⟨0x4003C01C, 0, 32⟩
/-- R416, RO. -/
def PEX_NEWHASH_LO.VALUE : Field := ⟨0x4003C020, 0, 32⟩
/-- R416, RO. -/
def PEX_NEWHASH_HI.VALUE : Field := ⟨0x4003C024, 0, 32⟩
/-- R416, RO. -/
def PEX_ACTHASH_LO.VALUE : Field := ⟨0x4003C028, 0, 32⟩
/-- R416, RO. -/
def PEX_ACTHASH_HI.VALUE : Field := ⟨0x4003C02C, 0, 32⟩
/-- R417, RW. -/
def PEX_PSEL.WORD : Field := ⟨0x4003C040, 0, 4⟩
/-- R417, RW. -/
def PEX_PADDR.ADDR (i : Nat) : Field := ⟨winAddr (0x4003C044) i, 0, 32⟩
/-- R417, RW. -/
def PEX_PDATA.DATA (i : Nat) : Field := ⟨winAddr (0x4003C048) i, 0, 32⟩
/-- R417, RW. -/
def PEX_PCTRL.COUNT : Field := ⟨0x4003C04C, 0, 5⟩
/-- R417, RW. -/
def PEX_PCTRL.ENG : Field := ⟨0x4003C04C, 8, 8⟩
/-- R417, WO. -/
def PEX_PCTRL.GO : Field := ⟨0x4003C04C, 31, 1⟩
/-- R417, RO. -/
def PEX_PSTAT.STATE : Field := ⟨0x4003C050, 0, 2⟩
/-- R417, RO. -/
def PEX_PSTAT.ERR : Field := ⟨0x4003C050, 4, 4⟩
/-- R418, W1C. -/
def PEX_EVT.DONE : Field := ⟨0x4003C060, 0, 1⟩
/-- R418, W1C. -/
def PEX_EVT.ABORT : Field := ⟨0x4003C060, 1, 1⟩
/-- R418, W1C. -/
def PEX_EVT.VERIFYFAIL : Field := ⟨0x4003C060, 2, 1⟩
/-- R418, W1C. -/
def PEX_EVT.PATCH : Field := ⟨0x4003C060, 3, 1⟩
/-- R418, W1C. -/
def PEX_EVT.KINDRESET : Field := ⟨0x4003C060, 4, 1⟩
/-- R418, W1C. -/
def PEX_EVT.STBYLATE : Field := ⟨0x4003C060, 5, 1⟩
/-- R418, RW. -/
def PEX_EVT_EN.EN : Field := ⟨0x4003C064, 0, 6⟩
/-- R419, RO. -/
def PEX_CNT_SWAPS.VALUE : Field := ⟨0x4003C080, 0, 32⟩
/-- R419, RO. -/
def PEX_CNT_ABORTS.VALUE : Field := ⟨0x4003C084, 0, 32⟩
/-- R419, RO. -/
def PEX_CNT_VERIFYFAIL.VALUE : Field := ⟨0x4003C088, 0, 32⟩
/-- R419, RO. -/
def PEX_CNT_PATCHES.VALUE : Field := ⟨0x4003C08C, 0, 32⟩
/-- R419, RO. -/
def PEX_CNT_KINDRESET.VALUE : Field := ⟨0x4003C090, 0, 32⟩
/-- R449, RW. -/
def PAIR_CTRL.EN : Field := ⟨0x40024000, 0, 1⟩
/-- R449, RW. -/
def PAIR_CTRL.ASSUME : Field := ⟨0x40024000, 1, 1⟩
/-- R449, RW. -/
def PAIR_CTRL.BISTGUST : Field := ⟨0x40024000, 8, 8⟩
/-- R449, RW. -/
def PAIR_CTRL.HOLDWAIT : Field := ⟨0x40024000, 16, 14⟩
/-- R449, WO. -/
def PAIR_CMD.HANDOVER : Field := ⟨0x40024004, 0, 1⟩
/-- R449, WO. -/
def PAIR_CMD.REHEARSE : Field := ⟨0x40024004, 1, 1⟩
/-- R449, WO. -/
def PAIR_CMD.BIST : Field := ⟨0x40024004, 2, 1⟩
/-- R449, WO. -/
def PAIR_CMD.CLEARSUSPECT : Field := ⟨0x40024004, 3, 1⟩
/-- R449, WO. -/
def PAIR_CMD.RESYNC : Field := ⟨0x40024004, 4, 1⟩
/-- R450, RO. -/
def PAIR_STATUS.STATE : Field := ⟨0x40024008, 0, 3⟩
/-- R450, RO. -/
def PAIR_STATUS.LINK : Field := ⟨0x40024008, 3, 1⟩
/-- R450, RO. -/
def PAIR_STATUS.RCPATH : Field := ⟨0x40024008, 4, 1⟩
/-- R450, RO. -/
def PAIR_STATUS.SYNC : Field := ⟨0x40024008, 5, 1⟩
/-- R450, RO. -/
def PAIR_STATUS.SOLO : Field := ⟨0x40024008, 6, 1⟩
/-- R450, RO. -/
def PAIR_STATUS.SUSPECT : Field := ⟨0x40024008, 7, 1⟩
/-- R450, RO. -/
def PAIR_STATUS.PSUSPECT : Field := ⟨0x40024008, 8, 1⟩
/-- R450, RO. -/
def PAIR_STATUS.PROBATION : Field := ⟨0x40024008, 9, 1⟩
/-- R450, RO. -/
def PAIR_STATUS.STRAP : Field := ⟨0x40024008, 10, 1⟩
/-- R450, RO. -/
def PAIR_STATUS.SIDE : Field := ⟨0x40024008, 11, 1⟩
/-- R450, RO. -/
def PAIR_STATUS.PEERMIS : Field := ⟨0x40024008, 12, 1⟩
/-- R450, RO. -/
def PAIR_STATUS.IMGMIS : Field := ⟨0x40024008, 13, 1⟩
/-- R450, RO. -/
def PAIR_STATUS.RESULT : Field := ⟨0x40024008, 16, 2⟩
/-- R450, RO. -/
def PAIR_STATUS.REFUSE : Field := ⟨0x40024008, 20, 4⟩
/-- R450, RO. -/
def PAIR_STATUS.BIST : Field := ⟨0x40024008, 24, 3⟩
/-- R451, RW. -/
def PAIR_PEERUID_LO.VALUE : Field := ⟨0x4002400C, 0, 32⟩
/-- R451, RW. -/
def PAIR_PEERUID_HI.VALUE : Field := ⟨0x40024010, 0, 32⟩
/-- R451, RO. -/
def PAIR_HBSEQ.VALUE : Field := ⟨0x40024014, 0, 32⟩
/-- R451, RO. -/
def PAIR_ECHOSEQ.VALUE : Field := ⟨0x40024018, 0, 32⟩
/-- R451, RO. -/
def PAIR_MIRLAG.VALUE : Field := ⟨0x4002401C, 0, 20⟩
/-- R451, RO. -/
def PAIR_TKOCYC.VALUE : Field := ⟨0x40024020, 0, 32⟩
/-- R451, RO. -/
def PAIR_GAPLAST.VALUE : Field := ⟨0x40024024, 0, 16⟩
/-- R451, RO. -/
def PAIR_SYNCTIME.VALUE : Field := ⟨0x40024028, 0, 16⟩
/-- R452, W1C. -/
def PAIR_EVT.DECLARE : Field := ⟨0x40024060, 0, 1⟩
/-- R452, W1C. -/
def PAIR_EVT.TAKEOVER : Field := ⟨0x40024060, 1, 1⟩
/-- R452, W1C. -/
def PAIR_EVT.FENCE : Field := ⟨0x40024060, 2, 1⟩
/-- R452, W1C. -/
def PAIR_EVT.DEGRADED : Field := ⟨0x40024060, 3, 1⟩
/-- R452, W1C. -/
def PAIR_EVT.SYNC : Field := ⟨0x40024060, 4, 1⟩
/-- R452, W1C. -/
def PAIR_EVT.RESYNCLONG : Field := ⟨0x40024060, 5, 1⟩
/-- R452, W1C. -/
def PAIR_EVT.SWAPBACK : Field := ⟨0x40024060, 6, 1⟩
/-- R452, W1C. -/
def PAIR_EVT.REFUSED : Field := ⟨0x40024060, 7, 1⟩
/-- R452, W1C. -/
def PAIR_EVT.PARTNERLOST : Field := ⟨0x40024060, 8, 1⟩
/-- R452, W1C. -/
def PAIR_EVT.ASSUME : Field := ⟨0x40024060, 9, 1⟩
/-- R452, W1C. -/
def PAIR_EVT.PEERMIS : Field := ⟨0x40024060, 10, 1⟩
/-- R452, W1C. -/
def PAIR_EVT.IMGMIS : Field := ⟨0x40024060, 11, 1⟩
/-- R452, RW. -/
def PAIR_EVT_EN.EN : Field := ⟨0x40024064, 0, 12⟩
/-- R453, RO. -/
def PAIR_CNT_HB.VALUE : Field := ⟨0x40024080, 0, 32⟩
/-- R453, RO. -/
def PAIR_CNT_ECHO.VALUE : Field := ⟨0x40024084, 0, 32⟩
/-- R453, RO. -/
def PAIR_CNT_LINKCRC.VALUE : Field := ⟨0x40024088, 0, 32⟩
/-- R453, RO. -/
def PAIR_CNT_LINKRETX.VALUE : Field := ⟨0x4002408C, 0, 32⟩
/-- R453, RO. -/
def PAIR_CNT_LOCKLOSS.VALUE : Field := ⟨0x40024090, 0, 32⟩
/-- R453, RO. -/
def PAIR_CNT_TAKEOVERS.VALUE : Field := ⟨0x40024094, 0, 32⟩
/-- R453, RO. -/
def PAIR_CNT_FENCES.VALUE : Field := ⟨0x40024098, 0, 32⟩
/-- R453, RO. -/
def PAIR_CNT_RESYNCS.VALUE : Field := ⟨0x4002409C, 0, 32⟩
/-- R453, RO. -/
def PAIR_CNT_SWAPBACKS.VALUE : Field := ⟨0x400240A0, 0, 32⟩
/-- R453, RO. -/
def PAIR_CNT_MIRBYTES.VALUE : Field := ⟨0x400240A4, 0, 32⟩
/-- R478, RW. -/
def PWR_CTRL.SHEDLINE : Field := ⟨0x40001000, 0, 1⟩
/-- R478, W1S. -/
def PWR_CTRL.LOCK : Field := ⟨0x40001000, 31, 1⟩
/-- R478, RW. -/
def PWR_BUDGET.BUDGET : Field := ⟨0x40001004, 0, 10⟩
/-- R478, RO. -/
def PWR_BUDGET.GRANTED : Field := ⟨0x40001004, 16, 10⟩
/-- R479, RW. -/
def PWR_MON.WARN : Field := ⟨0x40001008, 0, 6⟩
/-- R479, RW. -/
def PWR_MON.RESET : Field := ⟨0x40001008, 8, 6⟩
/-- R479, RW. -/
def PWR_MON.HYST : Field := ⟨0x40001008, 16, 4⟩
/-- R479, RW. -/
def PWR_MON.FILTER : Field := ⟨0x40001008, 24, 4⟩
/-- R480, RO. -/
def PWR_STATUS.STATE : Field := ⟨0x4000100C, 0, 2⟩
/-- R480, RO. -/
def PWR_STATUS.BELOW : Field := ⟨0x4000100C, 2, 1⟩
/-- R480, RO. -/
def PWR_STATUS.FLUSHING : Field := ⟨0x4000100C, 3, 1⟩
/-- R480, RO. -/
def PWR_STATUS.FLUSHED : Field := ⟨0x4000100C, 4, 1⟩
/-- R480, RO. -/
def PWR_STATUS.SHED : Field := ⟨0x4000100C, 5, 1⟩
/-- R480, RO. -/
def PWR_STATUS.SHORTHOLD : Field := ⟨0x4000100C, 6, 1⟩
/-- R480, RO. -/
def PWR_STATUS.LEVELERR : Field := ⟨0x4000100C, 7, 1⟩
/-- R480, RO. -/
def PWR_STATUS.QUEUED : Field := ⟨0x4000100C, 8, 6⟩
/-- R480, RO. -/
def PWR_STATUS.HELD : Field := ⟨0x4000100C, 16, 8⟩
/-- R481, RO. -/
def PWR_LEVEL.VALUE : Field := ⟨0x40001010, 0, 12⟩
/-- R481, RO. -/
def PWR_DIPLAST.VALUE : Field := ⟨0x40001014, 0, 32⟩
/-- R481, RO. -/
def PWR_FLUSHLAST.VALUE : Field := ⟨0x40001018, 0, 16⟩
/-- R481, RO. -/
def PWR_PORSRC.VALUE : Field := ⟨0x4000101C, 0, 7⟩
/-- R482, RW. -/
def PWR_HREQ.CLASS : Field := ⟨0x40001020, 0, 8⟩
/-- R482, WO. -/
def PWR_HREQ.GO : Field := ⟨0x40001020, 31, 1⟩
/-- R482, RO. -/
def PWR_HRES.HANDLE : Field := ⟨0x40001024, 0, 8⟩
/-- R482, RO. -/
def PWR_HRES.RESULT : Field := ⟨0x40001024, 8, 2⟩
/-- R482, WO. -/
def PWR_HCALM.HANDLE : Field := ⟨0x40001028, 0, 8⟩
/-- R482, RO. -/
def PWR_HCALM.ERR : Field := ⟨0x40001028, 8, 1⟩
/-- R483, RO. -/
def PWR_CLASS.COST (j : Nat) : Field := ⟨0x40001040 + 4 * j, 0, 10⟩
/-- R483, RW. -/
def PWR_CLASS.POLICY (j : Nat) : Field := ⟨0x40001040 + 4 * j, 12, 1⟩
/-- R483, RW. -/
def PWR_CLASS.EN (j : Nat) : Field := ⟨0x40001040 + 4 * j, 13, 1⟩
/-- R483, RW. -/
def PWR_CLASS.MAXHOLD (j : Nat) : Field := ⟨0x40001040 + 4 * j, 16, 16⟩
/-- R484, RO. -/
def PWR_GH.STATE (j : Nat) : Field := ⟨0x40001400 + 4 * j, 0, 2⟩
/-- R484, RO. -/
def PWR_GH.CLASS (j : Nat) : Field := ⟨0x40001400 + 4 * j, 4, 4⟩
/-- R484, RO. -/
def PWR_GH.OWNER (j : Nat) : Field := ⟨0x40001400 + 4 * j, 8, 4⟩
/-- R484, RO. -/
def PWR_GH.AGE (j : Nat) : Field := ⟨0x40001400 + 4 * j, 16, 16⟩
/-- R485, W1C. -/
def PWR_EVT.WARN : Field := ⟨0x40001060, 0, 1⟩
/-- R485, W1C. -/
def PWR_EVT.RECOVER : Field := ⟨0x40001060, 1, 1⟩
/-- R485, W1C. -/
def PWR_EVT.REVOKE : Field := ⟨0x40001060, 2, 1⟩
/-- R485, W1C. -/
def PWR_EVT.EXPIRE : Field := ⟨0x40001060, 3, 1⟩
/-- R485, W1C. -/
def PWR_EVT.REFUSED : Field := ⟨0x40001060, 4, 1⟩
/-- R485, W1C. -/
def PWR_EVT.SHORTHOLD : Field := ⟨0x40001060, 5, 1⟩
/-- R485, W1C. -/
def PWR_EVT.LEVELERR : Field := ⟨0x40001060, 6, 1⟩
/-- R485, RW. -/
def PWR_EVT_EN.EN : Field := ⟨0x40001064, 0, 7⟩
/-- R486, RO. -/
def PWR_CNT_GRANTS.VALUE : Field := ⟨0x40001080, 0, 32⟩
/-- R486, RO. -/
def PWR_CNT_QUEUED.VALUE : Field := ⟨0x40001084, 0, 32⟩
/-- R486, RO. -/
def PWR_CNT_REFUSED.VALUE : Field := ⟨0x40001088, 0, 32⟩
/-- R486, RO. -/
def PWR_CNT_REVOKED.VALUE : Field := ⟨0x4000108C, 0, 32⟩
/-- R486, RO. -/
def PWR_CNT_EXPIRED.VALUE : Field := ⟨0x40001090, 0, 32⟩
/-- R486, RO. -/
def PWR_CNT_WARNS.VALUE : Field := ⟨0x40001094, 0, 32⟩
/-- R486, RO. -/
def PWR_CNT_DIPS.VALUE : Field := ⟨0x40001098, 0, 32⟩
/-- R486, RO. -/
def PWR_CNT_SHORTHOLD.VALUE : Field := ⟨0x4000109C, 0, 32⟩
/-- R511, WO. -/
def AON_LCTRL.RING : Field := ⟨0x40003000, 0, 1⟩
/-- R511, WO. -/
def AON_LCTRL.ABORT : Field := ⟨0x40003000, 1, 1⟩
/-- R511, RW. -/
def AON_LCTRL.VOTE : Field := ⟨0x40003000, 2, 2⟩
/-- R511, RW. -/
def AON_LCTRL.AUTO : Field := ⟨0x40003000, 4, 1⟩
/-- R511, RW. -/
def AON_LCTRL.REASON : Field := ⟨0x40003000, 8, 8⟩
/-- R511, WO. -/
def AON_LCTRL.ENTER : Field := ⟨0x40003000, 16, 1⟩
/-- R511, RO. -/
def AON_LSTATUS.STATE : Field := ⟨0x40003004, 0, 3⟩
/-- R511, RO. -/
def AON_LSTATUS.PARTIAL : Field := ⟨0x40003004, 3, 1⟩
/-- R511, RO. -/
def AON_LSTATUS.AWAKE : Field := ⟨0x40003004, 4, 1⟩
/-- R511, RO. -/
def AON_LSTATUS.LATCHED : Field := ⟨0x40003004, 5, 1⟩
/-- R511, RO. -/
def AON_LSTATUS.FORCED : Field := ⟨0x40003004, 6, 1⟩
/-- R511, RO. -/
def AON_LSTATUS.RINGID : Field := ⟨0x40003004, 8, 8⟩
/-- R511, RO. -/
def AON_LSTATUS.LASTREASON : Field := ⟨0x40003004, 16, 8⟩
/-- R512, RO. -/
def AON_LK.VALUE : Field := ⟨0x40003008, 0, 32⟩
/-- R512, RO. -/
def AON_LE.VALUE : Field := ⟨0x4000300C, 0, 32⟩
/-- R512, RW. -/
def AON_FS.LULL : Field := ⟨0x40003010, 0, 12⟩
/-- R512, RW. -/
def AON_FS.CANSTB : Field := ⟨0x40003010, 16, 12⟩
/-- R512, RO. -/
def AON_CANSTB.REQ : Field := ⟨0x40003014, 0, 8⟩
/-- R512, W1S. -/
def AON_CANSTB.ACK : Field := ⟨0x40003014, 8, 8⟩
/-- R512, RW. -/
def AON_CANSTB.EN : Field := ⟨0x40003014, 16, 8⟩
/-- R512, RO. -/
def AON_CANSTB.FORCED : Field := ⟨0x40003014, 24, 8⟩
/-- R512, WO. -/
def AON_CANREL.RELEASE : Field := ⟨0x40003018, 0, 8⟩
/-- R512, RO. -/
def AON_CANREL.STBY : Field := ⟨0x40003018, 8, 8⟩
/-- R513, RW. -/
def AON_WCTRL.SQATT : Field := ⟨0x40003020, 0, 4⟩
/-- R513, RW. -/
def AON_WCTRL.WIN0EN : Field := ⟨0x40003020, 4, 1⟩
/-- R513, RW. -/
def AON_WCTRL.WIN1EN : Field := ⟨0x40003020, 5, 1⟩
/-- R513, RW. -/
def AON_WCTRL.WIN0POL : Field := ⟨0x40003020, 6, 1⟩
/-- R513, RW. -/
def AON_WCTRL.WIN1POL : Field := ⟨0x40003020, 7, 1⟩
/-- R513, RW. -/
def AON_WCTRL.RTCEN : Field := ⟨0x40003020, 8, 1⟩
/-- R513, RW. -/
def AON_WCTRL.PAIREN : Field := ⟨0x40003020, 9, 1⟩
/-- R513, RW. -/
def AON_WCTRL.DEBOUNCE : Field := ⟨0x40003020, 16, 8⟩
/-- R513, RW. -/
def AON_SQ.THRESH : Field := ⟨0x40003024, 0, 5⟩
/-- R513, RO. -/
def AON_SQ.SENDSTAT : Field := ⟨0x40003024, 8, 2⟩
/-- R513, WO. -/
def AON_SQ.SEND : Field := ⟨0x40003024, 31, 1⟩
/-- R514, W1C. -/
def AON_WSRC.SQUALL : Field := ⟨0x40003028, 0, 4⟩
/-- R514, W1C. -/
def AON_WSRC.WAKEIN0 : Field := ⟨0x40003028, 4, 1⟩
/-- R514, W1C. -/
def AON_WSRC.WAKEIN1 : Field := ⟨0x40003028, 5, 1⟩
/-- R514, W1C. -/
def AON_WSRC.RTC : Field := ⟨0x40003028, 6, 1⟩
/-- R514, W1C. -/
def AON_WSRC.PAIR : Field := ⟨0x40003028, 7, 1⟩
/-- R514, W1C. -/
def AON_WSRC.WAKEREQ : Field := ⟨0x40003028, 8, 1⟩
/-- R514, W1C. -/
def AON_WSRC.LATE : Field := ⟨0x40003028, 9, 1⟩
/-- R514, RO. -/
def AON_WSRC.FIRST : Field := ⟨0x40003028, 12, 3⟩
/-- R514, RO. -/
def AON_WTIME.VALUE : Field := ⟨0x4000302C, 0, 32⟩
/-- R514, RO. -/
def AON_WCYC.VALUE : Field := ⟨0x40003030, 0, 32⟩
/-- R514, RW. -/
def AON_RTCS.VALUE : Field := ⟨0x40003040, 0, 32⟩
/-- R514, RO. -/
def AON_RTCF.VALUE : Field := ⟨0x40003044, 0, 15⟩
/-- R514, RW. -/
def AON_ALARM.VALUE : Field := ⟨0x40003048, 0, 32⟩
/-- R515, RW. -/
def AON_HOSEL.ENTRY : Field := ⟨0x40003050, 0, 3⟩
/-- R515, RO. -/
def AON_HOUID_LO.UID_LO (i : Nat) : Field := ⟨winAddr (0x40003054) i, 0, 32⟩
/-- R515, RO. -/
def AON_HOUID_HI.UID_HI (i : Nat) : Field := ⟨winAddr (0x40003058) i, 0, 32⟩
/-- R515, RO. -/
def AON_HOINFO.NODE (i : Nat) : Field := ⟨winAddr (0x4000305C) i, 0, 8⟩
/-- R515, RO. -/
def AON_HOINFO.REASON (i : Nat) : Field := ⟨winAddr (0x4000305C) i, 8, 8⟩
/-- R515, RO. -/
def AON_HOINFO.COUNT (i : Nat) : Field := ⟨winAddr (0x4000305C) i, 16, 16⟩
/-- R516, W1C. -/
def AON_EVT.RING : Field := ⟨0x40003060, 0, 1⟩
/-- R516, W1C. -/
def AON_EVT.COMMIT : Field := ⟨0x40003060, 1, 1⟩
/-- R516, W1C. -/
def AON_EVT.ABORT : Field := ⟨0x40003060, 2, 1⟩
/-- R516, W1C. -/
def AON_EVT.HOLDOUT : Field := ⟨0x40003060, 3, 1⟩
/-- R516, W1C. -/
def AON_EVT.FSENTRY : Field := ⟨0x40003060, 4, 1⟩
/-- R516, W1C. -/
def AON_EVT.CANSTBFS : Field := ⟨0x40003060, 5, 1⟩
/-- R516, W1C. -/
def AON_EVT.WAKE : Field := ⟨0x40003060, 6, 1⟩
/-- R516, W1C. -/
def AON_EVT.SQREFUSED : Field := ⟨0x40003060, 7, 1⟩
/-- R516, RW. -/
def AON_EVT_EN.EN : Field := ⟨0x40003064, 0, 8⟩
/-- R517, RO. -/
def AON_CNT_RINGS.VALUE : Field := ⟨0x40003080, 0, 32⟩
/-- R517, RO. -/
def AON_CNT_COMMITS.VALUE : Field := ⟨0x40003084, 0, 32⟩
/-- R517, RO. -/
def AON_CNT_ABORTS.VALUE : Field := ⟨0x40003088, 0, 32⟩
/-- R517, RO. -/
def AON_CNT_FSENTRIES.VALUE : Field := ⟨0x4000308C, 0, 32⟩
/-- R517, RO. -/
def AON_CNT_WAKES.VALUE : Field := ⟨0x40003090, 0, 32⟩
/-- R517, RO. -/
def AON_CNT_SQHEARD.VALUE : Field := ⟨0x40003094, 0, 32⟩
/-- R517, RO. -/
def AON_CNT_SQSENT.VALUE : Field := ⟨0x40003098, 0, 32⟩
/-- R540, RW. -/
def TIME_CTRL.TRSTEER : Field := ⟨0x40007000, 0, 1⟩
/-- R540, RW. -/
def TIME_CTRL.STEPTHR : Field := ⟨0x40007000, 8, 8⟩
/-- R540, RW. -/
def TIME_CTRL.UTCVALID : Field := ⟨0x40007000, 16, 1⟩
/-- R540, RO. -/
def TIME_STATUS.TRLOCK : Field := ⟨0x40007004, 0, 1⟩
/-- R540, RO. -/
def TIME_STATUS.HOLDOVER : Field := ⟨0x40007004, 1, 1⟩
/-- R540, RO. -/
def TIME_STATUS.TRVALID : Field := ⟨0x40007004, 2, 1⟩
/-- R540, RO. -/
def TIME_STATUS.LEAD : Field := ⟨0x40007004, 3, 1⟩
/-- R540, RO. -/
def TIME_STATUS.PTPSTEPPEND : Field := ⟨0x40007004, 4, 1⟩
/-- R540, RO. -/
def TIME_STATUS.HOLDCYC : Field := ⟨0x40007004, 16, 16⟩
/-- R541, WO. -/
def TIME_SNAP.GO : Field := ⟨0x40007008, 0, 1⟩
/-- R541, RO. -/
def TIME_SNAPSTEP.TRAIN : Field := ⟨0x4000700C, 0, 8⟩
/-- R541, RO. -/
def TIME_SNAPSTEP.PTP : Field := ⟨0x4000700C, 8, 8⟩
/-- R541, RO. -/
def TIME_SNAPSTEP.UTC : Field := ⟨0x4000700C, 16, 8⟩
/-- R541, RO. -/
def TIME_SNAPV.VALUE (j : Nat) : Field := ⟨0x40007010 + 4 * j, 0, 32⟩
/-- R541, RO. -/
def TIME_NOW.VALUE (j : Nat) : Field := ⟨0x40007020 + 4 * j, 0, 32⟩
/-- R541, RO. -/
def TIME_TRERR.VALUE : Field := ⟨0x40007030, 0, 32⟩
/-- R541, RO. -/
def TIME_BCNTR.VALUE : Field := ⟨0x40007034, 0, 32⟩
/-- R541, RO. -/
def TIME_BCNLOC.VALUE : Field := ⟨0x40007038, 0, 32⟩
/-- R541, RO. -/
def TIME_STEPTR.VALUE : Field := ⟨0x40007040, 0, 32⟩
/-- R541, RO. -/
def TIME_STEPPTP.VALUE : Field := ⟨0x40007044, 0, 32⟩
/-- R541, RO. -/
def TIME_STEPUTC.VALUE : Field := ⟨0x40007048, 0, 32⟩
/-- R542, WO. -/
def TIME_UTCSET.VALUE : Field := ⟨0x40007050, 0, 32⟩
/-- R542, RW. -/
def TIME_UTCRATE.RATE : Field := ⟨0x40007054, 0, 32⟩
/-- R542, WO. -/
def TIME_PTPSTEP.OFFSET : Field := ⟨0x40007058, 0, 32⟩
/-- R542, RW. -/
def TIME_PTPRATE.RATE : Field := ⟨0x4000705C, 0, 32⟩
/-- R543, RO. -/
def TIME_LQ.PENDING : Field := ⟨0x40007060, 0, 9⟩
/-- R543, RO. -/
def TIME_LQ.MAX : Field := ⟨0x40007060, 16, 9⟩
/-- R543, RW. -/
def TIME_LCANCEL.INDEX : Field := ⟨0x40007064, 0, 16⟩
/-- R543, RW. -/
def TIME_LCANCEL.KIND : Field := ⟨0x40007064, 16, 4⟩
/-- R543, WO. -/
def TIME_LCANCEL.GO : Field := ⟨0x40007064, 31, 1⟩
/-- R543, RW. -/
def TIME_ETHTS.ETH0 : Field := ⟨0x40007068, 0, 2⟩
/-- R543, RW. -/
def TIME_ETHTS.ETH1 : Field := ⟨0x40007068, 2, 2⟩
/-- R543, RW. -/
def TIME_TC.EN : Field := ⟨0x40007070, 0, 1⟩
/-- R543, RW. -/
def TIME_TC.L2EN : Field := ⟨0x40007070, 1, 1⟩
/-- R543, RW. -/
def TIME_TC.UDPEN : Field := ⟨0x40007070, 2, 1⟩
/-- R543, RO. -/
def TIME_TC.TWOSTEP : Field := ⟨0x40007070, 8, 7⟩
/-- R544, W1C. -/
def TIME_EVT.WRAP : Field := ⟨0x400070C0, 0, 4⟩
/-- R544, W1C. -/
def TIME_EVT.TRSTEP : Field := ⟨0x400070C0, 4, 1⟩
/-- R544, W1C. -/
def TIME_EVT.PTPSTEP : Field := ⟨0x400070C0, 5, 1⟩
/-- R544, W1C. -/
def TIME_EVT.UTCSTEP : Field := ⟨0x400070C0, 6, 1⟩
/-- R544, W1C. -/
def TIME_EVT.HOLDOVER : Field := ⟨0x400070C0, 7, 1⟩
/-- R544, W1C. -/
def TIME_EVT.LOCK : Field := ⟨0x400070C0, 8, 1⟩
/-- R544, W1C. -/
def TIME_EVT.LATE : Field := ⟨0x400070C0, 9, 1⟩
/-- R544, W1C. -/
def TIME_EVT.STEPCANCEL : Field := ⟨0x400070C0, 10, 1⟩
/-- R544, RW. -/
def TIME_EVT_EN.EN : Field := ⟨0x400070C4, 0, 11⟩
/-- R545, RO. -/
def TIME_CNT_LAUNCHED.VALUE : Field := ⟨0x40007080, 0, 32⟩
/-- R545, RO. -/
def TIME_CNT_LATE.VALUE : Field := ⟨0x40007084, 0, 32⟩
/-- R545, RO. -/
def TIME_CNT_STEPCANCEL.VALUE : Field := ⟨0x40007088, 0, 32⟩
/-- R545, RO. -/
def TIME_CNT_NOTARGET.VALUE : Field := ⟨0x4000708C, 0, 32⟩
/-- R545, RO. -/
def TIME_CNT_STEPS.VALUE : Field := ⟨0x40007090, 0, 32⟩
/-- R545, RO. -/
def TIME_CNT_TCCORR.VALUE : Field := ⟨0x40007094, 0, 32⟩
/-- R545, RO. -/
def TIME_CNT_TCFUPMISS.VALUE : Field := ⟨0x40007098, 0, 32⟩
/-- R545, RO. -/
def TIME_CNT_TCFULL.VALUE : Field := ⟨0x4000709C, 0, 32⟩
/-- R545, RO. -/
def TIME_CNT_TCUNCORR.VALUE : Field := ⟨0x400070A0, 0, 32⟩
/-- R571, RW. -/
def CAN_CTRL.MODE (k : Nat) : Field := ⟨0x40050000 + 0x1000 * k, 0, 3⟩
/-- R571, RW. -/
def CAN_CTRL.FDEN (k : Nat) : Field := ⟨0x40050000 + 0x1000 * k, 3, 1⟩
/-- R571, RW. -/
def CAN_CTRL.PXHD (k : Nat) : Field := ⟨0x40050000 + 0x1000 * k, 4, 1⟩
/-- R571, RW. -/
def CAN_CTRL.TRIPLE (k : Nat) : Field := ⟨0x40050000 + 0x1000 * k, 5, 1⟩
/-- R571, RW. -/
def CAN_CTRL.OWNGATE (k : Nat) : Field := ⟨0x40050000 + 0x1000 * k, 6, 1⟩
/-- R571, RW. -/
def CAN_CTRL.SLEEP (k : Nat) : Field := ⟨0x40050000 + 0x1000 * k, 7, 1⟩
/-- R571, RW. -/
def CAN_CTRL.RETRY (k : Nat) : Field := ⟨0x40050000 + 0x1000 * k, 8, 4⟩
/-- R571, RW. -/
def CAN_CTRL.UNLIM (k : Nat) : Field := ⟨0x40050000 + 0x1000 * k, 12, 1⟩
/-- R571, RW. -/
def CAN_CTRL.TSBASE (k : Nat) : Field := ⟨0x40050000 + 0x1000 * k, 16, 2⟩
/-- R571, RW. -/
def CAN_CTRL.CLASHN (k : Nat) : Field := ⟨0x40050000 + 0x1000 * k, 20, 4⟩
/-- R571, WO. -/
def CAN_CMD.RECOVER (k : Nat) : Field := ⟨0x40050004 + 0x1000 * k, 0, 1⟩
/-- R571, WO. -/
def CAN_CMD.ABORTALL (k : Nat) : Field := ⟨0x40050004 + 0x1000 * k, 1, 1⟩
/-- R572, RO. -/
def CAN_STATUS.EMODE (k : Nat) : Field := ⟨0x40050008 + 0x1000 * k, 0, 3⟩
/-- R572, RO. -/
def CAN_STATUS.ESTATE (k : Nat) : Field := ⟨0x40050008 + 0x1000 * k, 3, 2⟩
/-- R572, RO. -/
def CAN_STATUS.TIMERR (k : Nat) : Field := ⟨0x40050008 + 0x1000 * k, 5, 1⟩
/-- R572, RO. -/
def CAN_STATUS.ASLEEP (k : Nat) : Field := ⟨0x40050008 + 0x1000 * k, 6, 1⟩
/-- R572, RO. -/
def CAN_STATUS.TXING (k : Nat) : Field := ⟨0x40050008 + 0x1000 * k, 7, 1⟩
/-- R572, RO. -/
def CAN_STATUS.WITNESS (k : Nat) : Field := ⟨0x40050008 + 0x1000 * k, 8, 1⟩
/-- R572, RO. -/
def CAN_STATUS.BLKENT (k : Nat) : Field := ⟨0x40050008 + 0x1000 * k, 16, 11⟩
/-- R572, RO. -/
def CAN_STATUS.BLOCKED (k : Nat) : Field := ⟨0x40050008 + 0x1000 * k, 27, 1⟩
/-- R572, RO. -/
def CAN_ERRCNT.TEC (k : Nat) : Field := ⟨0x4005000C + 0x1000 * k, 0, 9⟩
/-- R572, RO. -/
def CAN_ERRCNT.REC (k : Nat) : Field := ⟨0x4005000C + 0x1000 * k, 16, 8⟩
/-- R572, RO. -/
def CAN_ERRCNT.LEC (k : Nat) : Field := ⟨0x4005000C + 0x1000 * k, 24, 3⟩
/-- R573, RW. -/
def CAN_NBT.BRP (k : Nat) : Field := ⟨0x40050010 + 0x1000 * k, 0, 8⟩
/-- R573, RW. -/
def CAN_NBT.TSEG1 (k : Nat) : Field := ⟨0x40050010 + 0x1000 * k, 8, 8⟩
/-- R573, RW. -/
def CAN_NBT.TSEG2 (k : Nat) : Field := ⟨0x40050010 + 0x1000 * k, 16, 7⟩
/-- R573, RW. -/
def CAN_NBT.SJW (k : Nat) : Field := ⟨0x40050010 + 0x1000 * k, 24, 7⟩
/-- R573, RW. -/
def CAN_DBT.BRP (k : Nat) : Field := ⟨0x40050014 + 0x1000 * k, 0, 5⟩
/-- R573, RW. -/
def CAN_DBT.TSEG1 (k : Nat) : Field := ⟨0x40050014 + 0x1000 * k, 8, 5⟩
/-- R573, RW. -/
def CAN_DBT.TSEG2 (k : Nat) : Field := ⟨0x40050014 + 0x1000 * k, 16, 4⟩
/-- R573, RW. -/
def CAN_DBT.SJW (k : Nat) : Field := ⟨0x40050014 + 0x1000 * k, 24, 4⟩
/-- R573, RW. -/
def CAN_TDC.EN (k : Nat) : Field := ⟨0x40050018 + 0x1000 * k, 0, 1⟩
/-- R573, RW. -/
def CAN_TDC.OFFSET (k : Nat) : Field := ⟨0x40050018 + 0x1000 * k, 8, 7⟩
/-- R573, RO. -/
def CAN_TDC.VALUE (k : Nat) : Field := ⟨0x40050018 + 0x1000 * k, 16, 7⟩
/-- R574, RW. -/
def CAN_QUOTA.QUOTA (k : Nat) : Field := ⟨0x4005001C + 0x1000 * k, 0, 11⟩
/-- R574, RO. -/
def CAN_QUOTA.USE (k : Nat) : Field := ⟨0x4005001C + 0x1000 * k, 16, 11⟩
/-- R574, RW. -/
def CAN_SYNCID.ID (k : Nat) : Field := ⟨0x40050020 + 0x1000 * k, 0, 29⟩
/-- R574, RW. -/
def CAN_SYNCID.IDE (k : Nat) : Field := ⟨0x40050020 + 0x1000 * k, 29, 1⟩
/-- R574, RW. -/
def CAN_SYNCID.LEN (k : Nat) : Field := ⟨0x40050020 + 0x1000 * k, 30, 1⟩
/-- R574, RO. -/
def CAN_CLASHID.ID (k : Nat) : Field := ⟨0x40050024 + 0x1000 * k, 0, 29⟩
/-- R574, RO. -/
def CAN_CLASHID.IDE (k : Nat) : Field := ⟨0x40050024 + 0x1000 * k, 29, 1⟩
/-- R575, RW. -/
def CAN_FSEL.FILTER (k : Nat) : Field := ⟨0x40050040 + 0x1000 * k, 0, 6⟩
/-- R575, RW. -/
def CAN_FW0.ID (k i : Nat) : Field := ⟨winAddr (0x40050044 + 0x1000 * k) i, 0, 29⟩
/-- R575, RW. -/
def CAN_FW0.IDE (k i : Nat) : Field := ⟨winAddr (0x40050044 + 0x1000 * k) i, 29, 1⟩
/-- R575, RW. -/
def CAN_FW0.EN (k i : Nat) : Field := ⟨winAddr (0x40050044 + 0x1000 * k) i, 31, 1⟩
/-- R575, RW. -/
def CAN_FW1.MASK (k i : Nat) : Field := ⟨winAddr (0x40050048 + 0x1000 * k) i, 0, 29⟩
/-- R575, RW. -/
def CAN_FW1.IDEMASK (k i : Nat) : Field := ⟨winAddr (0x40050048 + 0x1000 * k) i, 29, 1⟩
/-- R575, RW. -/
def CAN_FW2.FIRST (k i : Nat) : Field := ⟨winAddr (0x4005004C + 0x1000 * k) i, 0, 11⟩
/-- R575, RW. -/
def CAN_FW2.COUNT (k i : Nat) : Field := ⟨winAddr (0x4005004C + 0x1000 * k) i, 16, 11⟩
/-- R575, RW. -/
def CAN_FW2.SYNCIN (k i : Nat) : Field := ⟨winAddr (0x4005004C + 0x1000 * k) i, 27, 1⟩
/-- R576, W1C. -/
def CAN_EVT.PASSIVE (k : Nat) : Field := ⟨0x40050060 + 0x1000 * k, 0, 1⟩
/-- R576, W1C. -/
def CAN_EVT.BUSOFF (k : Nat) : Field := ⟨0x40050060 + 0x1000 * k, 1, 1⟩
/-- R576, W1C. -/
def CAN_EVT.BLOCKED (k : Nat) : Field := ⟨0x40050060 + 0x1000 * k, 2, 1⟩
/-- R576, W1C. -/
def CAN_EVT.CLASH (k : Nat) : Field := ⟨0x40050060 + 0x1000 * k, 3, 1⟩
/-- R576, W1C. -/
def CAN_EVT.RXOVF (k : Nat) : Field := ⟨0x40050060 + 0x1000 * k, 4, 1⟩
/-- R576, W1C. -/
def CAN_EVT.RETRYLIM (k : Nat) : Field := ⟨0x40050060 + 0x1000 * k, 5, 1⟩
/-- R576, W1C. -/
def CAN_EVT.TIMERR (k : Nat) : Field := ⟨0x40050060 + 0x1000 * k, 6, 1⟩
/-- R576, W1C. -/
def CAN_EVT.RESENT (k : Nat) : Field := ⟨0x40050060 + 0x1000 * k, 7, 1⟩
/-- R576, RW. -/
def CAN_EVT_EN.EN (k : Nat) : Field := ⟨0x40050064 + 0x1000 * k, 0, 8⟩
/-- R577, RO. -/
def CAN_CNT_TXOK.VALUE (k : Nat) : Field := ⟨0x40050080 + 0x1000 * k, 0, 32⟩
/-- R577, RO. -/
def CAN_CNT_RXOK.VALUE (k : Nat) : Field := ⟨0x40050084 + 0x1000 * k, 0, 32⟩
/-- R577, RO. -/
def CAN_CNT_ERRFRAME.VALUE (k : Nat) : Field := ⟨0x40050088 + 0x1000 * k, 0, 32⟩
/-- R577, RO. -/
def CAN_CNT_ARBLOST.VALUE (k : Nat) : Field := ⟨0x4005008C + 0x1000 * k, 0, 32⟩
/-- R577, RO. -/
def CAN_CNT_RXOVF.VALUE (k : Nat) : Field := ⟨0x40050090 + 0x1000 * k, 0, 32⟩
/-- R577, RO. -/
def CAN_CNT_NOMATCH.VALUE (k : Nat) : Field := ⟨0x40050094 + 0x1000 * k, 0, 32⟩
/-- R577, RO. -/
def CAN_CNT_BUSOFF.VALUE (k : Nat) : Field := ⟨0x40050098 + 0x1000 * k, 0, 32⟩
/-- R577, RO. -/
def CAN_CNT_CLASH.VALUE (k : Nat) : Field := ⟨0x4005009C + 0x1000 * k, 0, 32⟩
/-- R577, RO. -/
def CAN_CNT_WITNESSED.VALUE (k : Nat) : Field := ⟨0x400500A0 + 0x1000 * k, 0, 32⟩
/-- R577, RO. -/
def CAN_CNT_RESENT.VALUE (k : Nat) : Field := ⟨0x400500A4 + 0x1000 * k, 0, 32⟩
/-- R578, RW. -/
def CAN0_PALLOC.FIRST : Field := ⟨0x40050800, 0, 11⟩
/-- R578, RW. -/
def CAN0_PALLOC.COUNT : Field := ⟨0x40050800, 11, 11⟩
/-- R578, RW. -/
def CAN0_PALLOC.CHAN : Field := ⟨0x40050800, 22, 3⟩
/-- R578, RW. -/
def CAN0_PALLOC.OWNER : Field := ⟨0x40050800, 25, 4⟩
/-- R578, RW. -/
def CAN0_PALLOC.FREE : Field := ⟨0x40050800, 30, 1⟩
/-- R578, WO. -/
def CAN0_PALLOC.GO : Field := ⟨0x40050800, 31, 1⟩
/-- R578, RO. -/
def CAN0_PRES.RESULT : Field := ⟨0x40050804, 0, 3⟩
/-- R578, RW. -/
def CAN0_PCMD.ENTRY : Field := ⟨0x40050808, 0, 11⟩
/-- R578, RW. -/
def CAN0_PCMD.OP : Field := ⟨0x40050808, 12, 2⟩
/-- R578, WO. -/
def CAN0_PCMD.GO : Field := ⟨0x40050808, 31, 1⟩
/-- R578, RO. -/
def CAN0_PCRES.RESULT : Field := ⟨0x4005080C, 0, 2⟩
/-- R578, RO. -/
def CAN0_PUSE.USE : Field := ⟨0x40050810, 0, 11⟩
/-- R603, RW. -/
def ETH_CTRL.EN : Field := ⟨0x40060000, 0, 1⟩
/-- R603, RW. -/
def ETH_CTRL.P0MODE : Field := ⟨0x40060000, 1, 2⟩
/-- R603, RW. -/
def ETH_CTRL.P1MODE : Field := ⟨0x40060000, 3, 2⟩
/-- R603, RW. -/
def ETH_CTRL.LEARN : Field := ⟨0x40060000, 5, 1⟩
/-- R603, RW. -/
def ETH_CTRL.AGE : Field := ⟨0x40060000, 8, 16⟩
/-- R603, RO. -/
def ETH_PSTAT.LINK (j : Nat) : Field := ⟨0x40060004 + 4 * j, 0, 1⟩
/-- R603, RO. -/
def ETH_PSTAT.SPEED (j : Nat) : Field := ⟨0x40060004 + 4 * j, 1, 2⟩
/-- R603, RO. -/
def ETH_PSTAT.ANDONE (j : Nat) : Field := ⟨0x40060004 + 4 * j, 3, 1⟩
/-- R603, RO. -/
def ETH_PSTAT.FAULT (j : Nat) : Field := ⟨0x40060004 + 4 * j, 4, 1⟩
/-- R604, RW. -/
def ETH_MAC_LO.VALUE : Field := ⟨0x40060010, 0, 32⟩
/-- R604, RW. -/
def ETH_MAC_HI.VALUE : Field := ⟨0x40060014, 0, 16⟩
/-- R604, RW. -/
def ETH_IP.VALUE : Field := ⟨0x40060018, 0, 32⟩
/-- R604, RW. -/
def ETH_MASK.VALUE : Field := ⟨0x4006001C, 0, 32⟩
/-- R604, RW. -/
def ETH_ROUTER.VALUE : Field := ⟨0x40060020, 0, 32⟩
/-- R604, RW. -/
def ETH_MGMT.PORT : Field := ⟨0x40060024, 0, 16⟩
/-- R604, RW. -/
def ETH_MGMT.EN : Field := ⟨0x40060024, 31, 1⟩
/-- R604, RW. -/
def ETH_ALLOW.VALUE : Field := ⟨0x40060028, 0, 32⟩
/-- R604, RW. -/
def ETH_ALLOWM.VALUE : Field := ⟨0x4006002C, 0, 32⟩
/-- R604, RW. -/
def ETH_RXRING.VALUE : Field := ⟨0x40060030, 0, 32⟩
/-- R604, RW. -/
def ETH_RXCNT.COUNT : Field := ⟨0x40060034, 0, 9⟩
/-- R604, RO. -/
def ETH_RXCNT.NEXT : Field := ⟨0x40060034, 16, 9⟩
/-- R604, RW. -/
def ETH_TXRING.VALUE : Field := ⟨0x40060038, 0, 32⟩
/-- R604, RW. -/
def ETH_TXCNT.COUNT : Field := ⟨0x4006003C, 0, 9⟩
/-- R604, RO. -/
def ETH_TXCNT.NEXT : Field := ⟨0x4006003C, 16, 9⟩
/-- R604, WO. -/
def ETH_TXKICK.GO : Field := ⟨0x40060040, 0, 1⟩
/-- R605, RW. -/
def ETH_MDIO.PHY : Field := ⟨0x40060050, 0, 5⟩
/-- R605, RW. -/
def ETH_MDIO.REG : Field := ⟨0x40060050, 5, 5⟩
/-- R605, RW. -/
def ETH_MDIO.WRITE : Field := ⟨0x40060050, 10, 1⟩
/-- R605, RO. -/
def ETH_MDIO.BUSY : Field := ⟨0x40060050, 30, 1⟩
/-- R605, WO. -/
def ETH_MDIO.GO : Field := ⟨0x40060050, 31, 1⟩
/-- R605, RW. -/
def ETH_MDIODATA.DATA : Field := ⟨0x40060054, 0, 16⟩
/-- R605, RW. -/
def ETH_MDIOPOLL.PHY0 : Field := ⟨0x40060058, 0, 5⟩
/-- R605, RW. -/
def ETH_MDIOPOLL.PHY1 : Field := ⟨0x40060058, 8, 5⟩
/-- R605, RW. -/
def ETH_MDIOPOLL.EN : Field := ⟨0x40060058, 16, 1⟩
/-- R606, RW. -/
def ETH_LSA.ADDR (j : Nat) : Field := ⟨0x40060100 + 16 * j, 0, 32⟩
/-- R606, RW. -/
def ETH_LSB.LEN (j : Nat) : Field := ⟨0x40060104 + 16 * j, 0, 11⟩
/-- R606, RW. -/
def ETH_LSB.PORTS (j : Nat) : Field := ⟨0x40060104 + 16 * j, 16, 2⟩
/-- R606, RW. -/
def ETH_LSB.OWNER (j : Nat) : Field := ⟨0x40060104 + 16 * j, 20, 4⟩
/-- R606, RW. -/
def ETH_LSB.ARM (j : Nat) : Field := ⟨0x40060104 + 16 * j, 31, 1⟩
/-- R606, RO. -/
def ETH_LSC.STATE (j : Nat) : Field := ⟨0x40060108 + 16 * j, 0, 2⟩
/-- R606, RO. -/
def ETH_LSD.TS (j : Nat) : Field := ⟨0x4006010C + 16 * j, 0, 32⟩
/-- R607, W1C. -/
def ETH_EVT.LINK : Field := ⟨0x400600C0, 0, 2⟩
/-- R607, W1C. -/
def ETH_EVT.RXFULL : Field := ⟨0x400600C0, 2, 1⟩
/-- R607, W1C. -/
def ETH_EVT.DROPBUF : Field := ⟨0x400600C0, 3, 1⟩
/-- R607, W1C. -/
def ETH_EVT.MGMTREJ : Field := ⟨0x400600C0, 4, 1⟩
/-- R607, W1C. -/
def ETH_EVT.UCE : Field := ⟨0x400600C0, 5, 1⟩
/-- R607, RW. -/
def ETH_EVT_EN.EN : Field := ⟨0x400600C4, 0, 6⟩
/-- R607, RO. -/
def ETH_CNT_FWD.VALUE : Field := ⟨0x40060080, 0, 32⟩
/-- R607, RO. -/
def ETH_CNT_DROPBUF.VALUE : Field := ⟨0x40060084, 0, 32⟩
/-- R607, RO. -/
def ETH_CNT_DROPFCS.VALUE : Field := ⟨0x40060088, 0, 32⟩
/-- R607, RO. -/
def ETH_CNT_RXFULL.VALUE : Field := ⟨0x4006008C, 0, 32⟩
/-- R607, RO. -/
def ETH_CNT_MGMTOK.VALUE : Field := ⟨0x40060090, 0, 32⟩
/-- R607, RO. -/
def ETH_CNT_MGMTREJ.VALUE : Field := ⟨0x40060094, 0, 32⟩
/-- R607, RO. -/
def ETH_CNT_BUFUCE.VALUE : Field := ⟨0x40060098, 0, 32⟩
/-- R607, RO. -/
def ETH_CNT_OVERSIZE.VALUE : Field := ⟨0x4006009C, 0, 32⟩
/-- R608, RW. -/
def TDM_CTRL.EN (k : Nat) : Field := ⟨0x40048000 + 0x1000 * k, 0, 1⟩
/-- R608, RW. -/
def TDM_CTRL.MASTER (k : Nat) : Field := ⟨0x40048000 + 0x1000 * k, 1, 1⟩
/-- R608, RW. -/
def TDM_CTRL.SLOTS16 (k : Nat) : Field := ⟨0x40048000 + 0x1000 * k, 2, 1⟩
/-- R608, RW. -/
def TDM_CTRL.FSPULSE (k : Nat) : Field := ⟨0x40048000 + 0x1000 * k, 3, 1⟩
/-- R608, RW. -/
def TDM_CTRL.FSDELAY (k : Nat) : Field := ⟨0x40048000 + 0x1000 * k, 4, 1⟩
/-- R608, RW. -/
def TDM_CTRL.BCLKINV (k : Nat) : Field := ⟨0x40048000 + 0x1000 * k, 5, 1⟩
/-- R608, RW. -/
def TDM_CTRL.MCLKEN (k : Nat) : Field := ⟨0x40048000 + 0x1000 * k, 6, 1⟩
/-- R608, RW. -/
def TDM_CTRL.LAUNCH (k : Nat) : Field := ⟨0x40048000 + 0x1000 * k, 7, 1⟩
/-- R608, RW. -/
def TDM_CTRL.OWNER (k : Nat) : Field := ⟨0x40048000 + 0x1000 * k, 8, 4⟩
/-- R608, RO. -/
def TDM_STATUS.RUN (k : Nat) : Field := ⟨0x40048004 + 0x1000 * k, 0, 1⟩
/-- R608, RO. -/
def TDM_STATUS.LOCK (k : Nat) : Field := ⟨0x40048004 + 0x1000 * k, 1, 1⟩
/-- R608, RO. -/
def TDM_STATUS.LOCKERR (k : Nat) : Field := ⟨0x40048004 + 0x1000 * k, 2, 1⟩
/-- R608, RO. -/
def TDM_STATUS.GRIDOFF (k : Nat) : Field := ⟨0x40048004 + 0x1000 * k, 3, 1⟩
/-- R608, RO. -/
def TDM_STATUS.PPM (k : Nat) : Field := ⟨0x40048004 + 0x1000 * k, 16, 16⟩
/-- R608, W1C. -/
def TDM_EVT.LOCKERR (k : Nat) : Field := ⟨0x400480C0 + 0x1000 * k, 0, 1⟩
/-- R608, W1C. -/
def TDM_EVT.START (k : Nat) : Field := ⟨0x400480C0 + 0x1000 * k, 1, 1⟩
/-- R608, RW. -/
def TDM_EVT_EN.EN (k : Nat) : Field := ⟨0x400480C4 + 0x1000 * k, 0, 2⟩
/-- R608, RO. -/
def TDM_FRAMES.VALUE (k : Nat) : Field := ⟨0x40048080 + 0x1000 * k, 0, 32⟩
/-- R608, RO. -/
def TDM_LOCKERRS.VALUE (k : Nat) : Field := ⟨0x40048084 + 0x1000 * k, 0, 32⟩
/-- R609, RW. -/
def QSPI_CFG.DIV (k : Nat) : Field := ⟨0x40006000 + 0x800 * k, 0, 4⟩
/-- R609, RW. -/
def QSPI_CFG.WIDTH (k : Nat) : Field := ⟨0x40006000 + 0x800 * k, 4, 2⟩
/-- R609, RW. -/
def QSPI_CFG.DTR (k : Nat) : Field := ⟨0x40006000 + 0x800 * k, 6, 1⟩
/-- R609, RW. -/
def QSPI_CFG.ADDR4 (k : Nat) : Field := ⟨0x40006000 + 0x800 * k, 7, 1⟩
/-- R609, RO. -/
def QSPI_STATUS.READY (k : Nat) : Field := ⟨0x40006004 + 0x800 * k, 0, 1⟩
/-- R609, RO. -/
def QSPI_STATUS.BUSY (k : Nat) : Field := ⟨0x40006004 + 0x800 * k, 1, 1⟩
/-- R609, RO. -/
def QSPI_STATUS.ERASING (k : Nat) : Field := ⟨0x40006004 + 0x800 * k, 2, 1⟩
/-- R609, RO. -/
def QSPI_STATUS.SUSPENDED (k : Nat) : Field := ⟨0x40006004 + 0x800 * k, 3, 1⟩
/-- R609, RO. -/
def QSPI_STATUS.INTENT (k : Nat) : Field := ⟨0x40006004 + 0x800 * k, 4, 1⟩
/-- R609, RO. -/
def QSPI_STATUS.SIZE (k : Nat) : Field := ⟨0x40006004 + 0x800 * k, 8, 4⟩
/-- R609, RO. -/
def QSPI_STATUS.ERR (k : Nat) : Field := ⟨0x40006004 + 0x800 * k, 12, 4⟩
/-- R609, RW. -/
def QSPI_ERASE0.VALUE (k : Nat) : Field := ⟨0x40006008 + 0x800 * k, 0, 32⟩
/-- R609, RW. -/
def QSPI_ERASE1.COUNT (k : Nat) : Field := ⟨0x4000600C + 0x800 * k, 0, 16⟩
/-- R609, RW. -/
def QSPI_ERASE1.GUST (k : Nat) : Field := ⟨0x4000600C + 0x800 * k, 16, 8⟩
/-- R609, WO. -/
def QSPI_ERASE1.GO (k : Nat) : Field := ⟨0x4000600C + 0x800 * k, 31, 1⟩
/-- R609, RW. -/
def QSPI_COPY0.VALUE (k : Nat) : Field := ⟨0x40006010 + 0x800 * k, 0, 32⟩
/-- R609, RW. -/
def QSPI_COPY1.VALUE (k : Nat) : Field := ⟨0x40006014 + 0x800 * k, 0, 32⟩
/-- R609, RW. -/
def QSPI_COPY2.LEN (k : Nat) : Field := ⟨0x40006018 + 0x800 * k, 0, 21⟩
/-- R609, RW. -/
def QSPI_COPY2.DIR (k : Nat) : Field := ⟨0x40006018 + 0x800 * k, 30, 1⟩
/-- R609, WO. -/
def QSPI_COPY2.GO (k : Nat) : Field := ⟨0x40006018 + 0x800 * k, 31, 1⟩
/-- R609, RO. -/
def QSPI_COPYSTAT.BUSY (k : Nat) : Field := ⟨0x4000601C + 0x800 * k, 0, 1⟩
/-- R609, RO. -/
def QSPI_COPYSTAT.RESULT (k : Nat) : Field := ⟨0x4000601C + 0x800 * k, 1, 3⟩
/-- R609, W1C. -/
def QSPI_EVT.ERASEDONE (k : Nat) : Field := ⟨0x400060C0 + 0x800 * k, 0, 1⟩
/-- R609, W1C. -/
def QSPI_EVT.SUSPEND (k : Nat) : Field := ⟨0x400060C0 + 0x800 * k, 1, 1⟩
/-- R609, W1C. -/
def QSPI_EVT.DEVERR (k : Nat) : Field := ⟨0x400060C0 + 0x800 * k, 2, 1⟩
/-- R609, W1C. -/
def QSPI_EVT.RESUMED (k : Nat) : Field := ⟨0x400060C0 + 0x800 * k, 3, 1⟩
/-- R609, RW. -/
def QSPI_EVT_EN.EN (k : Nat) : Field := ⟨0x400060C4 + 0x800 * k, 0, 4⟩
/-- R609, RO. -/
def QSPI_KBWRITTEN.VALUE (k : Nat) : Field := ⟨0x40006080 + 0x800 * k, 0, 32⟩
/-- R609, RO. -/
def QSPI_ERASES.VALUE (k : Nat) : Field := ⟨0x40006084 + 0x800 * k, 0, 32⟩
/-- R609, RO. -/
def QSPI_DEVERRS.VALUE (k : Nat) : Field := ⟨0x40006088 + 0x800 * k, 0, 32⟩
/-- R610, RO. -/
def GPIO_IN.IN : Field := ⟨0x40005000, 0, 32⟩
/-- R610, RO. -/
def GPIO_OUT.OUT : Field := ⟨0x40005004, 0, 32⟩
/-- R610, W1S. -/
def GPIO_SET.SET : Field := ⟨0x40005008, 0, 32⟩
/-- R610, W1C. -/
def GPIO_CLR.CLR : Field := ⟨0x4000500C, 0, 32⟩
/-- R610, RW. -/
def GPIO_PIN.MODE (j : Nat) : Field := ⟨0x40005040 + 4 * j, 0, 2⟩
/-- R610, RW. -/
def GPIO_PIN.OWNER (j : Nat) : Field := ⟨0x40005040 + 4 * j, 2, 4⟩
/-- R610, RW. -/
def GPIO_PIN.INIT (j : Nat) : Field := ⟨0x40005040 + 4 * j, 6, 1⟩
/-- R610, RW. -/
def GPIO_PIN.DEB (j : Nat) : Field := ⟨0x40005040 + 4 * j, 8, 8⟩
/-- R610, RW. -/
def GPIO_PIN.RISE (j : Nat) : Field := ⟨0x40005040 + 4 * j, 16, 1⟩
/-- R610, RW. -/
def GPIO_PIN.FALL (j : Nat) : Field := ⟨0x40005040 + 4 * j, 17, 1⟩
/-- R610, W1C. -/
def GPIO_EVT.EDGE : Field := ⟨0x400050C0, 0, 32⟩
/-- R610, RW. -/
def GPIO_EVT_EN.EN : Field := ⟨0x400050C4, 0, 32⟩
/-- R635, RW. -/
def EVR_CTRL.EN : Field := ⟨0x40070000, 0, 1⟩
/-- R635, RW. -/
def EVR_CTRL.COLLECT : Field := ⟨0x40070000, 1, 1⟩
/-- R635, WO. -/
def EVR_CMD.FLUSH : Field := ⟨0x40070004, 0, 1⟩
/-- R635, WO. -/
def EVR_CMD.FORMAT : Field := ⟨0x40070004, 1, 1⟩
/-- R635, RO. -/
def EVR_STATUS.STATE : Field := ⟨0x40070008, 0, 3⟩
/-- R635, RO. -/
def EVR_STATUS.ERR : Field := ⟨0x40070008, 3, 1⟩
/-- R635, RO. -/
def EVR_STATUS.UNFLUSHED : Field := ⟨0x40070008, 4, 17⟩
/-- R635, RO. -/
def EVR_STATUS.REBUILT : Field := ⟨0x40070008, 21, 1⟩
/-- R636, RO. -/
def EVR_SEQ_LO.VALUE : Field := ⟨0x4007000C, 0, 32⟩
/-- R636, RO. -/
def EVR_SEQ_HI.VALUE : Field := ⟨0x40070010, 0, 32⟩
/-- R636, RO. -/
def EVR_OPT_LO.VALUE : Field := ⟨0x40070014, 0, 32⟩
/-- R636, RO. -/
def EVR_OPT_HI.VALUE : Field := ⟨0x40070018, 0, 32⟩
/-- R636, RW. -/
def EVR_AREA.VALUE : Field := ⟨0x4007001C, 0, 16⟩
/-- R636, RO. -/
def EVR_AREAM.VALUE : Field := ⟨0x40070020, 0, 32⟩
/-- R636, RW. -/
def EVR_FLUSH.VALUE : Field := ⟨0x40070024, 0, 8⟩
/-- R637, RW. -/
def EVR_TSEL.TRIGGER : Field := ⟨0x40070040, 0, 6⟩
/-- R637, RW. -/
def EVR_TW0.KIND (i : Nat) : Field := ⟨winAddr (0x40070044) i, 0, 2⟩
/-- R637, RW. -/
def EVR_TW0.SRC (i : Nat) : Field := ⟨winAddr (0x40070044) i, 8, 8⟩
/-- R637, RW. -/
def EVR_TW0.BIT (i : Nat) : Field := ⟨winAddr (0x40070044) i, 16, 5⟩
/-- R637, RW. -/
def EVR_TW0.GUAR (i : Nat) : Field := ⟨winAddr (0x40070044) i, 24, 1⟩
/-- R637, RW. -/
def EVR_TW0.FLUSH (i : Nat) : Field := ⟨winAddr (0x40070044) i, 25, 1⟩
/-- R637, RW. -/
def EVR_TW0.EN (i : Nat) : Field := ⟨winAddr (0x40070044) i, 31, 1⟩
/-- R637, RW. -/
def EVR_TW1.HOLDOFF (i : Nat) : Field := ⟨winAddr (0x40070048) i, 0, 16⟩
/-- R637, RW. -/
def EVR_TW1.COUNT (i : Nat) : Field := ⟨winAddr (0x40070048) i, 16, 6⟩
/-- R637, RW. -/
def EVR_SSEL.ENTRY : Field := ⟨0x4007004C, 0, 5⟩
/-- R637, RW. -/
def EVR_SADDR.ADDR (i : Nat) : Field := ⟨winAddr (0x40070050) i, 0, 32⟩
/-- R638, RW. -/
def EVR_RDSEQ_LO.VALUE : Field := ⟨0x40070060, 0, 32⟩
/-- R638, RW. -/
def EVR_RDSEQ_HI.VALUE : Field := ⟨0x40070064, 0, 32⟩
/-- R638, WO. -/
def EVR_RDCMD.GO : Field := ⟨0x40070068, 31, 1⟩
/-- R638, RO. -/
def EVR_RDCMD.RESULT : Field := ⟨0x40070068, 0, 2⟩
/-- R638, RO. -/
def EVR_CLRCHAL_LO.VALUE : Field := ⟨0x40070070, 0, 32⟩
/-- R638, RO. -/
def EVR_CLRCHAL_HI.VALUE : Field := ⟨0x40070074, 0, 32⟩
/-- R638, RW. -/
def EVR_CLRRESP_LO.VALUE : Field := ⟨0x40070078, 0, 32⟩
/-- R638, RW. -/
def EVR_CLRRESP_HI.VALUE : Field := ⟨0x4007007C, 0, 32⟩
/-- R638, WO. -/
def EVR_CLRCMD.GO : Field := ⟨0x400700D0, 0, 1⟩
/-- R638, RO. -/
def EVR_CLRCMD.RESULT : Field := ⟨0x400700D0, 8, 2⟩
/-- R638, RO. -/
def EVR_CLRCMD.LOGCOUNT : Field := ⟨0x400700D0, 16, 7⟩
/-- R638, RW. -/
def EVR_COLADDR.VALUE : Field := ⟨0x400700E0, 0, 32⟩
/-- R638, WO. -/
def EVR_COLCMD.GO : Field := ⟨0x400700E4, 0, 1⟩
/-- R638, RO. -/
def EVR_COLCMD.RESULT : Field := ⟨0x400700E4, 1, 3⟩
/-- R639, W1C. -/
def EVR_EVT.FLUSHREQ : Field := ⟨0x400700C0, 0, 1⟩
/-- R639, W1C. -/
def EVR_EVT.LOSS : Field := ⟨0x400700C0, 1, 1⟩
/-- R639, W1C. -/
def EVR_EVT.CLEARED : Field := ⟨0x400700C0, 2, 1⟩
/-- R639, W1C. -/
def EVR_EVT.CLRFAIL : Field := ⟨0x400700C0, 3, 1⟩
/-- R639, W1C. -/
def EVR_EVT.SNAPERR : Field := ⟨0x400700C0, 4, 1⟩
/-- R639, W1C. -/
def EVR_EVT.REBUILT : Field := ⟨0x400700C0, 5, 1⟩
/-- R639, W1C. -/
def EVR_EVT.COLDUP : Field := ⟨0x400700C0, 6, 1⟩
/-- R639, RW. -/
def EVR_EVT_EN.EN : Field := ⟨0x400700C4, 0, 7⟩
/-- R640, RO. -/
def EVR_CNT_RECORDS.VALUE : Field := ⟨0x40070080, 0, 32⟩
/-- R640, RO. -/
def EVR_CNT_FLUSHES.VALUE : Field := ⟨0x40070084, 0, 32⟩
/-- R640, RO. -/
def EVR_CNT_LOST.VALUE : Field := ⟨0x40070088, 0, 32⟩
/-- R640, RO. -/
def EVR_CNT_MISSED.VALUE : Field := ⟨0x4007008C, 0, 32⟩
/-- R640, RO. -/
def EVR_CNT_UNACC.VALUE : Field := ⟨0x40070090, 0, 32⟩
/-- R640, RO. -/
def EVR_CNT_CLRFAIL.VALUE : Field := ⟨0x40070094, 0, 32⟩
/-- R640, RO. -/
def EVR_CNT_COLLECTED.VALUE : Field := ⟨0x40070098, 0, 32⟩
/-- R640, RO. -/
def EVR_CNT_COLDUP.VALUE : Field := ⟨0x4007009C, 0, 32⟩
/-- R640, RO. -/
def EVR_CNT_BUFUCE.VALUE : Field := ⟨0x400700A0, 0, 32⟩
/-- R661, RO. -/
def OTP_UID_LO.VALUE : Field := ⟨0x40004000, 0, 32⟩
/-- R661, RO. -/
def OTP_UID_HI.VALUE : Field := ⟨0x40004004, 0, 32⟩
/-- R661, RO. -/
def OTP_KEYHASH.VALUE (j : Nat) : Field := ⟨0x40004010 + 4 * j, 0, 32⟩
/-- R662, RO. -/
def OTP_LOCK.FLEETKEY : Field := ⟨0x40004030, 0, 1⟩
/-- R662, RO. -/
def OTP_LOCK.CLEARKEY : Field := ⟨0x40004030, 1, 1⟩
/-- R662, RO. -/
def OTP_LOCK.KEYHASH : Field := ⟨0x40004030, 2, 1⟩
/-- R662, RO. -/
def OTP_LOCK.JTAG : Field := ⟨0x40004030, 3, 1⟩
/-- R662, RO. -/
def OTP_LOCK.BOOTBIST : Field := ⟨0x40004030, 4, 1⟩
/-- R662, RO. -/
def OTP_LOCK.ALL : Field := ⟨0x40004030, 5, 1⟩
/-- R662, RO. -/
def OTP_STATUS.READY : Field := ⟨0x40004034, 0, 1⟩
/-- R662, RO. -/
def OTP_STATUS.BUSY : Field := ⟨0x40004034, 1, 1⟩
/-- R662, RO. -/
def OTP_STATUS.RESULT : Field := ⟨0x40004034, 2, 2⟩
/-- R662, RO. -/
def OTP_STATUS.CORR : Field := ⟨0x40004034, 8, 8⟩
/-- R663, RW. -/
def OTP_PADDR.WORD : Field := ⟨0x40004040, 0, 6⟩
/-- R663, WO. -/
def OTP_PADDR.GO : Field := ⟨0x40004040, 31, 1⟩
/-- R663, RW. -/
def OTP_PDATA.DATA : Field := ⟨0x40004044, 0, 32⟩
/-- R680, RO. -/
def SYS_ID.PART : Field := ⟨0x40000000, 16, 16⟩
/-- R680, RO. -/
def SYS_ID.STEP : Field := ⟨0x40000000, 12, 4⟩
/-- R680, RO. -/
def SYS_ID.METAL : Field := ⟨0x40000000, 8, 4⟩
/-- R681, WO. -/
def SYS_CTRL.SWRST : Field := ⟨0x40000004, 0, 1⟩
/-- R681, RO. -/
def SYS_STATUS.FORCED : Field := ⟨0x40000008, 0, 1⟩
/-- R681, RO. -/
def SYS_STATUS.OWN : Field := ⟨0x40000008, 1, 1⟩
/-- R681, RO. -/
def SYS_STATUS.ACTIVE : Field := ⟨0x40000008, 2, 1⟩
/-- R681, RO. -/
def SYS_STATUS.LEAD : Field := ⟨0x40000008, 3, 1⟩
/-- R681, RO. -/
def SYS_STATUS.COMMITTED : Field := ⟨0x40000008, 4, 1⟩
/-- R681, RO. -/
def SYS_STATUS.DEGRADED : Field := ⟨0x40000008, 5, 1⟩
/-- R681, RO. -/
def SYS_STATUS.WARNING : Field := ⟨0x40000008, 6, 1⟩
/-- R681, RO. -/
def SYS_STATUS.SAFE : Field := ⟨0x40000008, 7, 1⟩
/-- R681, RO. -/
def SYS_STATUS.ENGFAULT : Field := ⟨0x40000008, 8, 1⟩
/-- R681, RO. -/
def SYS_STATUS.GUARDOFF : Field := ⟨0x40000008, 9, 1⟩
/-- R681, RO. -/
def SYS_STATUS.LAPSED : Field := ⟨0x40000008, 10, 1⟩
/-- R681, RO. -/
def SYS_STATUS.BOOTFAIL : Field := ⟨0x40000008, 11, 1⟩
/-- R681, RO. -/
def SYS_STATUS.HOSTWAIT : Field := ⟨0x40000008, 12, 1⟩
/-- R682, RO. -/
def SYS_RSTCAUSE.AONPOR : Field := ⟨0x4000000C, 0, 1⟩
/-- R682, RO. -/
def SYS_RSTCAUSE.MAINPOR : Field := ⟨0x4000000C, 1, 1⟩
/-- R682, RO. -/
def SYS_RSTCAUSE.NRESET : Field := ⟨0x4000000C, 2, 1⟩
/-- R682, RO. -/
def SYS_RSTCAUSE.MONITOR : Field := ⟨0x4000000C, 3, 1⟩
/-- R682, RO. -/
def SYS_RSTCAUSE.SWRST : Field := ⟨0x4000000C, 4, 1⟩
/-- R682, RO. -/
def SYS_RSTCAUSE.WAKE : Field := ⟨0x4000000C, 5, 1⟩
/-- R683, RO. -/
def SYS_BOOTSTAT0.SLOTA : Field := ⟨0x40000010, 0, 4⟩
/-- R683, RO. -/
def SYS_BOOTSTAT0.SLOTB : Field := ⟨0x40000010, 4, 4⟩
/-- R683, RO. -/
def SYS_BOOTSTAT0.HOST : Field := ⟨0x40000010, 8, 4⟩
/-- R683, RO. -/
def SYS_BOOTSTAT0.SOURCE : Field := ⟨0x40000010, 12, 2⟩
/-- R683, RO. -/
def SYS_BOOTSTAT0.BIST : Field := ⟨0x40000010, 14, 1⟩
/-- R683, RO. -/
def SYS_BOOTSTAT0.BOOTFAIL : Field := ⟨0x40000010, 15, 1⟩
/-- R683, RO. -/
def SYS_BOOTSTAT0.CAUSE : Field := ⟨0x40000010, 16, 4⟩
/-- R683, RO. -/
def SYS_BOOTSTAT0.BISTCORR : Field := ⟨0x40000010, 20, 12⟩
/-- R683, RO. -/
def SYS_BOOTSTAT1.BISTADDR : Field := ⟨0x40000014, 0, 32⟩
/-- R684, WO. -/
def SYS_BOOTCTL.GO : Field := ⟨0x40000018, 0, 1⟩
/-- R684, RO. -/
def SYS_BOOTCTL.BOOT : Field := ⟨0x40000018, 8, 2⟩
/-- R684, RO. -/
def SYS_BOOTCTL.PAIRROLE : Field := ⟨0x40000018, 10, 1⟩
/-- R684, RO. -/
def SYS_HOSTSTAT.NEXT : Field := ⟨0x40000020, 0, 8⟩
/-- R684, RO. -/
def SYS_HOSTSTAT.MODE3 : Field := ⟨0x40000020, 8, 1⟩
/-- R685, W1C. -/
def SYS_EVT.FORCED : Field := ⟨0x400000C0, 0, 1⟩
/-- R685, W1C. -/
def SYS_EVT.HOSTCRC : Field := ⟨0x400000C0, 1, 1⟩
/-- R685, W1C. -/
def SYS_EVT.HOSTREF : Field := ⟨0x400000C0, 2, 1⟩
/-- R685, W1C. -/
def SYS_EVT.HOSTABT : Field := ⟨0x400000C0, 3, 1⟩
/-- R685, W1C. -/
def SYS_EVT.UNASSIGN : Field := ⟨0x400000C0, 4, 1⟩
/-- R685, W1C. -/
def SYS_EVT.BUSERR : Field := ⟨0x400000C0, 5, 1⟩
/-- R685, RW. -/
def SYS_EVT_EN.EN : Field := ⟨0x400000C4, 0, 6⟩
/-- R686, RO. -/
def SYS_CNT_HOSTOK.VALUE : Field := ⟨0x40000080, 0, 32⟩
/-- R686, RO. -/
def SYS_CNT_HOSTCRC.VALUE : Field := ⟨0x40000084, 0, 32⟩
/-- R686, RO. -/
def SYS_CNT_HOSTREF.VALUE : Field := ⟨0x40000088, 0, 32⟩
/-- R686, RO. -/
def SYS_CNT_HOSTABT.VALUE : Field := ⟨0x4000008C, 0, 32⟩
/-- R686, RO. -/
def SYS_CNT_UNASSIGN.VALUE : Field := ⟨0x40000090, 0, 32⟩
/-- R686, RO. -/
def SYS_CNT_SWRSTIGN.VALUE : Field := ⟨0x40000094, 0, 32⟩
/-- R687, RO. -/
def CLK_STATUS.SYSLOCK : Field := ⟨0x40002000, 0, 1⟩
/-- R687, RO. -/
def CLK_STATUS.LINELOCK : Field := ⟨0x40002000, 1, 1⟩
/-- R687, RO. -/
def CLK_STATUS.AUDLOCK : Field := ⟨0x40002000, 2, 1⟩
/-- R687, RO. -/
def CLK_STATUS.PERLOCK : Field := ⟨0x40002000, 3, 1⟩
/-- R687, RO. -/
def CLK_STATUS.ETHRDY : Field := ⟨0x40002000, 4, 1⟩
/-- R687, RO. -/
def CLK_STATUS.QSPIRDY : Field := ⟨0x40002000, 5, 1⟩
/-- R687, RO. -/
def CLK_STATUS.XTAL : Field := ⟨0x40002000, 6, 1⟩
/-- R687, RO. -/
def CLK_LINESTEER.STEER : Field := ⟨0x40002004, 0, 32⟩
/-- R687, RO. -/
def CLK_AUDSTEER.STEER : Field := ⟨0x40002008, 0, 32⟩
/-- R688, W1C. -/
def CLK_EVT.UNLOCK : Field := ⟨0x400020C0, 0, 4⟩
/-- R688, RW. -/
def CLK_EVT_EN.EN : Field := ⟨0x400020C4, 0, 4⟩
/-- R688, RO. -/
def CLK_CNT_SYSUNLOCK.VALUE : Field := ⟨0x40002080, 0, 32⟩
/-- R688, RO. -/
def CLK_CNT_LINEUNLOCK.VALUE : Field := ⟨0x40002084, 0, 32⟩
/-- R688, RO. -/
def CLK_CNT_AUDUNLOCK.VALUE : Field := ⟨0x40002088, 0, 32⟩
/-- R688, RO. -/
def CLK_CNT_PERUNLOCK.VALUE : Field := ⟨0x4000208C, 0, 32⟩
/-- R105, RO. -/
def SCH_W3.CLAIMANT_HI (j : Nat) : Field := ⟨0x4001C00C + 16 * j, 0, 32⟩
/-- R143, RO. -/
def BAR_RCPRES.BITS (j : Nat) : Field := ⟨0x40018030 + 4 * j, 0, 32⟩
/-- R143, RO. -/
def BAR_RCABS.BITS (j : Nat) : Field := ⟨0x40018040 + 4 * j, 0, 32⟩
/-- R149, WO. -/
def GRD_ARM.ID : Field := ⟨0x4001E040, 0, 32⟩
/-- R149, WO. -/
def GRD_COMMIT.ID : Field := ⟨0x4001E044, 0, 32⟩
/-- R96, RO. -/
def LINE0_PEERMAP.HANDLE0 (j : Nat) : Field := ⟨0x40010400 + 4 * j, 0, 8⟩
/-- R96, RO. -/
def LINE0_PEERMAP.HANDLE1 (j : Nat) : Field := ⟨0x40010400 + 4 * j, 8, 8⟩
/-- R96, RO. -/
def LINE0_PEERMAP.HANDLE2 (j : Nat) : Field := ⟨0x40010400 + 4 * j, 16, 8⟩
/-- R96, RO. -/
def LINE0_PEERMAP.HANDLE3 (j : Nat) : Field := ⟨0x40010400 + 4 * j, 24, 8⟩
/-- R362, RO. -/
def ENG0_DPAGE.OWNER0 (j : Nat) : Field := ⟨0x40030840 + 4 * j, 0, 3⟩
/-- R362, RO. -/
def ENG0_DPAGE.HELD0 (j : Nat) : Field := ⟨0x40030840 + 4 * j, 3, 1⟩
/-- R362, RO. -/
def ENG0_DPAGE.OWNER1 (j : Nat) : Field := ⟨0x40030840 + 4 * j, 4, 3⟩
/-- R362, RO. -/
def ENG0_DPAGE.HELD1 (j : Nat) : Field := ⟨0x40030840 + 4 * j, 7, 1⟩
/-- R362, RO. -/
def ENG0_DPAGE.OWNER2 (j : Nat) : Field := ⟨0x40030840 + 4 * j, 8, 3⟩
/-- R362, RO. -/
def ENG0_DPAGE.HELD2 (j : Nat) : Field := ⟨0x40030840 + 4 * j, 11, 1⟩
/-- R362, RO. -/
def ENG0_DPAGE.OWNER3 (j : Nat) : Field := ⟨0x40030840 + 4 * j, 12, 3⟩
/-- R362, RO. -/
def ENG0_DPAGE.HELD3 (j : Nat) : Field := ⟨0x40030840 + 4 * j, 15, 1⟩
/-- R362, RO. -/
def ENG0_DPAGE.OWNER4 (j : Nat) : Field := ⟨0x40030840 + 4 * j, 16, 3⟩
/-- R362, RO. -/
def ENG0_DPAGE.HELD4 (j : Nat) : Field := ⟨0x40030840 + 4 * j, 19, 1⟩
/-- R362, RO. -/
def ENG0_DPAGE.OWNER5 (j : Nat) : Field := ⟨0x40030840 + 4 * j, 20, 3⟩
/-- R362, RO. -/
def ENG0_DPAGE.HELD5 (j : Nat) : Field := ⟨0x40030840 + 4 * j, 23, 1⟩
/-- R362, RO. -/
def ENG0_DPAGE.OWNER6 (j : Nat) : Field := ⟨0x40030840 + 4 * j, 24, 3⟩
/-- R362, RO. -/
def ENG0_DPAGE.HELD6 (j : Nat) : Field := ⟨0x40030840 + 4 * j, 27, 1⟩
/-- R362, RO. -/
def ENG0_DPAGE.OWNER7 (j : Nat) : Field := ⟨0x40030840 + 4 * j, 28, 3⟩
/-- R362, RO. -/
def ENG0_DPAGE.HELD7 (j : Nat) : Field := ⟨0x40030840 + 4 * j, 31, 1⟩

/-- A register word, or a row of equal ones: the access codes of R9 as masks. -/
structure RegSpec where
  base : Nat
  count : Nat
  stride : Nat
  insts : Nat
  instStride : Nat
  rw : Nat
  rwl : Nat
  w1c : Nat
  w1s : Nat
  deriving DecidableEq, Repr

/-- Is `a` one of the words `d` describes? -/
def RegSpec.covers (d : RegSpec) (a : Nat) : Bool :=
  d.base ≤ a && (let o := a - d.base
    o / d.instStride < d.insts && (o % d.instStride) % d.stride = 0 && (o % d.instStride) / d.stride < d.count)

/-- The registers of block LINE and their access masks. -/
def regsLINE : List RegSpec := [
  ⟨0x40010000, 1, 4, 4, 0x1000, 0x303, 0x0, 0x0, 0x0⟩,
  ⟨0x40010004, 1, 4, 4, 0x1000, 0x0, 0x0, 0x0, 0x0⟩,
  ⟨0x40010008, 1, 4, 4, 0x1000, 0xFF073F, 0x0, 0x0, 0x0⟩,
  ⟨0x4001000C, 1, 4, 4, 0x1000, 0xF11F, 0x0, 0x0, 0x0⟩,
  ⟨0x40010010, 16, 4, 4, 0x1000, 0x0, 0x83FF03FF, 0x0, 0x0⟩,
  ⟨0x40010050, 1, 4, 4, 0x1000, 0x80FF07FF, 0x0, 0x0, 0x0⟩,
  ⟨0x40010054, 1, 4, 4, 0x1000, 0xFF0F0F, 0x0, 0x0, 0x0⟩,
  ⟨0x40010060, 1, 4, 4, 0x1000, 0xFF00, 0x0, 0x0, 0x0⟩,
  ⟨0x40010064, 1, 4, 4, 0x1000, 0x0, 0x0, 0x0, 0x0⟩,
  ⟨0x40010068, 1, 4, 4, 0x1000, 0x80000000, 0x0, 0x0, 0x0⟩,
  ⟨0x40010070, 1, 4, 4, 0x1000, 0xFF, 0x0, 0x0, 0x0⟩,
  ⟨0x40010074, 1, 4, 4, 0x1000, 0x0, 0x0, 0x0, 0x0⟩,
  ⟨0x40010078, 1, 4, 4, 0x1000, 0x0, 0x0, 0x0, 0x0⟩,
  ⟨0x40010080, 1, 4, 4, 0x1000, 0x0, 0x0, 0x0, 0x0⟩,
  ⟨0x40010084, 1, 4, 4, 0x1000, 0x0, 0x0, 0x0, 0x0⟩,
  ⟨0x40010088, 1, 4, 4, 0x1000, 0x0, 0x0, 0x0, 0x0⟩,
  ⟨0x4001008C, 1, 4, 4, 0x1000, 0x0, 0x0, 0x0, 0x0⟩,
  ⟨0x40010090, 1, 4, 4, 0x1000, 0x0, 0x0, 0x0, 0x0⟩,
  ⟨0x40010094, 1, 4, 4, 0x1000, 0x0, 0x0, 0x0, 0x0⟩,
  ⟨0x40010098, 1, 4, 4, 0x1000, 0x0, 0x0, 0x0, 0x0⟩,
  ⟨0x4001009C, 1, 4, 4, 0x1000, 0x0, 0x0, 0x0, 0x0⟩]

/-- The registers of block SCH and their access masks. -/
def regsSCH : List RegSpec := [
  ⟨0x4001C000, 512, 16, 1, 0x10000, 0x0, 0x0, 0x0, 0x0⟩,
  ⟨0x4001C004, 512, 16, 1, 0x10000, 0x0, 0x0, 0x0, 0x0⟩,
  ⟨0x4001C008, 512, 16, 1, 0x10000, 0x0, 0x0, 0x0, 0x0⟩,
  ⟨0x4001C00C, 512, 16, 1, 0x10000, 0x0, 0x0, 0x0, 0x0⟩]

/-- The registers of block BAR and their access masks. -/
def regsBAR : List RegSpec := [
  ⟨0x40018000, 1, 4, 1, 0x10000, 0xFFFF71, 0x0, 0x0, 0x0⟩,
  ⟨0x40018004, 1, 4, 1, 0x10000, 0x0, 0x0, 0x0, 0x0⟩,
  ⟨0x40018008, 1, 4, 1, 0x10000, 0x0, 0x0, 0x0, 0x0⟩,
  ⟨0x4001800C, 1, 4, 1, 0x10000, 0x0, 0x0, 0x0, 0x0⟩,
  ⟨0x40018010, 1, 4, 1, 0x10000, 0x0, 0x0, 0x0, 0x0⟩,
  ⟨0x40018014, 1, 4, 1, 0x10000, 0x0, 0x0, 0x0, 0x0⟩,
  ⟨0x40018050, 1, 4, 1, 0x10000, 0x0, 0x0, 0x0, 0x0⟩,
  ⟨0x40018054, 1, 4, 1, 0x10000, 0x0, 0x0, 0x0, 0x0⟩,
  ⟨0x40018018, 1, 4, 1, 0x10000, 0x0, 0x0, 0x0, 0x0⟩,
  ⟨0x40018020, 1, 4, 1, 0x10000, 0x1FF, 0x0, 0x0, 0x0⟩,
  ⟨0x40018024, 1, 4, 1, 0x10000, 0x0, 0x0, 0x0, 0x0⟩,
  ⟨0x40018058, 1, 4, 1, 0x10000, 0x0, 0x0, 0x0, 0x0⟩,
  ⟨0x40018060, 1, 4, 1, 0x10000, 0x0, 0x0, 0x1FF, 0x0⟩,
  ⟨0x40018064, 1, 4, 1, 0x10000, 0x1FF, 0x0, 0x0, 0x0⟩,
  ⟨0x40018080, 1, 4, 1, 0x10000, 0x0, 0x0, 0x0, 0x0⟩,
  ⟨0x40018084, 1, 4, 1, 0x10000, 0x0, 0x0, 0x0, 0x0⟩,
  ⟨0x40018088, 1, 4, 1, 0x10000, 0x0, 0x0, 0x0, 0x0⟩,
  ⟨0x4001808C, 1, 4, 1, 0x10000, 0x0, 0x0, 0x0, 0x0⟩,
  ⟨0x40018090, 1, 4, 1, 0x10000, 0x0, 0x0, 0x0, 0x0⟩,
  ⟨0x40018094, 1, 4, 1, 0x10000, 0x0, 0x0, 0x0, 0x0⟩,
  ⟨0x40018098, 1, 4, 1, 0x10000, 0x0, 0x0, 0x0, 0x0⟩,
  ⟨0x4001809C, 1, 4, 1, 0x10000, 0x0, 0x0, 0x0, 0x0⟩,
  ⟨0x400180A0, 1, 4, 1, 0x10000, 0x0, 0x0, 0x0, 0x0⟩,
  ⟨0x400180A4, 1, 4, 1, 0x10000, 0x0, 0x0, 0x0, 0x0⟩,
  ⟨0x400180A8, 1, 4, 1, 0x10000, 0x0, 0x0, 0x0, 0x0⟩,
  ⟨0x400180AC, 1, 4, 1, 0x10000, 0x0, 0x0, 0x0, 0x0⟩,
  ⟨0x400180B0, 1, 4, 1, 0x10000, 0x0, 0x0, 0x0, 0x0⟩,
  ⟨0x40018030, 4, 4, 1, 0x10000, 0x0, 0x0, 0x0, 0x0⟩,
  ⟨0x40018040, 4, 4, 1, 0x10000, 0x0, 0x0, 0x0, 0x0⟩,
  ⟨0x400180BC, 1, 4, 1, 0x10000, 0x0, 0x0, 0x0, 0x0⟩]

/-- The registers of block GRD and their access masks. -/
def regsGRD : List RegSpec := [
  ⟨0x4001E000, 1, 4, 1, 0x10000, 0x1, 0x0, 0x0, 0x0⟩,
  ⟨0x4001E004, 1, 4, 1, 0x10000, 0x0, 0x0, 0x0, 0x0⟩,
  ⟨0x4001E008, 1, 4, 1, 0x10000, 0x0, 0x0, 0x0, 0x0⟩,
  ⟨0x4001E00C, 1, 4, 1, 0x10000, 0x0, 0x0, 0x0, 0x0⟩,
  ⟨0x4001E010, 1, 4, 1, 0x10000, 0x0, 0x0, 0x0, 0x0⟩,
  ⟨0x4001E014, 1, 4, 1, 0x10000, 0x0, 0x0, 0x0, 0x0⟩,
  ⟨0x4001E018, 1, 4, 1, 0x10000, 0x0, 0x0, 0x0, 0x0⟩,
  ⟨0x4001E020, 1, 4, 1, 0x10000, 0x0, 0x0, 0x0, 0x0⟩,
  ⟨0x4001E024, 1, 4, 1, 0x10000, 0x0, 0x0, 0x0, 0x0⟩,
  ⟨0x4001E028, 1, 4, 1, 0x10000, 0x0, 0x0, 0x0, 0x0⟩,
  ⟨0x4001E02C, 1, 4, 1, 0x10000, 0x0, 0x0, 0x0, 0x0⟩,
  ⟨0x4001E030, 1, 4, 1, 0x10000, 0x0, 0x0, 0x0, 0x0⟩,
  ⟨0x4001E100, 64, 4, 1, 0x10000, 0x0, 0x0, 0x0, 0x0⟩,
  ⟨0x4001E200, 64, 4, 1, 0x10000, 0x0, 0x0, 0x0, 0x0⟩,
  ⟨0x4001E040, 1, 4, 1, 0x10000, 0x0, 0x0, 0x0, 0x0⟩,
  ⟨0x4001E044, 1, 4, 1, 0x10000, 0x0, 0x0, 0x0, 0x0⟩,
  ⟨0x4001E03C, 1, 4, 1, 0x10000, 0x0, 0x0, 0x0, 0x0⟩]

/-- The registers of block INA and their access masks. -/
def regsINA : List RegSpec := [
  ⟨0x40020000, 1, 4, 1, 0x10000, 0xFF07, 0x0, 0x0, 0x0⟩,
  ⟨0x40020004, 1, 4, 1, 0x10000, 0xF, 0x0, 0x0, 0x0⟩,
  ⟨0x40020008, 1, 4, 1, 0x10000, 0x0, 0xFFFF, 0x0, 0x0⟩,
  ⟨0x4002000C, 1, 4, 1, 0x10000, 0x0, 0x0, 0x0, 0x0⟩,
  ⟨0x40020010, 1, 4, 1, 0x10000, 0x0, 0x0, 0x0, 0x0⟩,
  ⟨0x40020014, 1, 4, 1, 0x10000, 0x0, 0x0, 0x0, 0x0⟩,
  ⟨0x40020018, 1, 4, 1, 0x10000, 0x0, 0x0, 0x0, 0x0⟩,
  ⟨0x4002001C, 1, 4, 1, 0x10000, 0x0, 0x0, 0x0, 0x0⟩,
  ⟨0x40020020, 1, 4, 1, 0x10000, 0x0, 0x0, 0x0, 0x0⟩,
  ⟨0x40020024, 1, 4, 1, 0x10000, 0x0, 0x0, 0x0, 0x0⟩,
  ⟨0x40020028, 1, 4, 1, 0x10000, 0x0, 0x0, 0x0, 0x0⟩,
  ⟨0x4002002C, 1, 4, 1, 0x10000, 0x0, 0x0, 0x0, 0x0⟩,
  ⟨0x40020030, 1, 4, 1, 0x10000, 0x0, 0x0, 0x0, 0x0⟩,
  ⟨0x40020040, 1, 4, 1, 0x10000, 0x0, 0x0, 0x0, 0x0⟩,
  ⟨0x40020044, 1, 4, 1, 0x10000, 0x0, 0x0, 0x0, 0x0⟩,
  ⟨0x40020050, 1, 4, 1, 0x10000, 0xFF, 0x0, 0x0, 0x0⟩,
  ⟨0x40020054, 4, 4, 1, 0x10000, 0x0, 0x0, 0x0, 0x0⟩,
  ⟨0x40020070, 1, 4, 1, 0x10000, 0x0, 0x0, 0x3FF, 0x0⟩,
  ⟨0x40020074, 1, 4, 1, 0x10000, 0x3FF, 0x0, 0x0, 0x0⟩,
  ⟨0x40020080, 1, 4, 1, 0x10000, 0x0, 0x0, 0x0, 0x0⟩,
  ⟨0x40020084, 1, 4, 1, 0x10000, 0x0, 0x0, 0x0, 0x0⟩,
  ⟨0x40020088, 1, 4, 1, 0x10000, 0x0, 0x0, 0x0, 0x0⟩,
  ⟨0x4002008C, 1, 4, 1, 0x10000, 0x0, 0x0, 0x0, 0x0⟩,
  ⟨0x40020090, 1, 4, 1, 0x10000, 0x0, 0x0, 0x0, 0x0⟩,
  ⟨0x40020094, 1, 4, 1, 0x10000, 0x0, 0x0, 0x0, 0x0⟩,
  ⟨0x40020098, 1, 4, 1, 0x10000, 0x0, 0x0, 0x0, 0x0⟩,
  ⟨0x4002009C, 1, 4, 1, 0x10000, 0x0, 0x0, 0x0, 0x0⟩,
  ⟨0x40020100, 16, 4, 1, 0x10000, 0x0, 0x0, 0x0, 0x0⟩,
  ⟨0x400200BC, 1, 4, 1, 0x10000, 0x0, 0x0, 0x0, 0x0⟩]

/-- The registers of block SIG and their access masks. -/
def regsSIG : List RegSpec := [
  ⟨0x4002C000, 1, 4, 1, 0x10000, 0xF07, 0x0, 0x0, 0x0⟩,
  ⟨0x4002C004, 1, 4, 1, 0x10000, 0x0, 0x0, 0x0, 0x0⟩,
  ⟨0x4002C008, 1, 4, 1, 0x10000, 0x0, 0x0, 0x0, 0x0⟩,
  ⟨0x4002C00C, 1, 4, 1, 0x10000, 0x0, 0x0, 0x0, 0x0⟩,
  ⟨0x4002C010, 1, 4, 1, 0x10000, 0x0, 0x0, 0x0, 0x0⟩,
  ⟨0x4002C020, 1, 4, 1, 0x10000, 0xFF, 0x0, 0x0, 0x0⟩,
  ⟨0x4002C024, 1, 4, 1, 0x10000, 0x0, 0x807FFFFF, 0x0, 0x0⟩,
  ⟨0x4002C028, 1, 4, 1, 0x10000, 0x0, 0x7FFFFFFF, 0x0, 0x0⟩,
  ⟨0x4002C02C, 1, 4, 1, 0x10000, 0x0, 0xFFFF0007, 0x0, 0x0⟩,
  ⟨0x4002C030, 1, 4, 1, 0x10000, 0x0, 0x0, 0x0, 0x0⟩,
  ⟨0x4002C040, 1, 4, 1, 0x10000, 0x3FF, 0x0, 0x0, 0x0⟩,
  ⟨0x4002C044, 1, 4, 1, 0x10000, 0x803FFFFF, 0x0, 0x0, 0x0⟩,
  ⟨0x4002C048, 1, 4, 1, 0x10000, 0xFFFF, 0x0, 0x0, 0x0⟩,
  ⟨0x4002C04C, 1, 4, 1, 0x10000, 0x1FFFF, 0x0, 0x0, 0x0⟩,
  ⟨0x4002C050, 1, 4, 1, 0x10000, 0x0, 0x0, 0x0, 0x0⟩,
  ⟨0x4002C080, 8, 16, 1, 0x10000, 0xFFFF, 0x0, 0x0, 0x0⟩,
  ⟨0x4002C084, 8, 16, 1, 0x10000, 0x1FFFF, 0x0, 0x0, 0x0⟩,
  ⟨0x4002C088, 8, 16, 1, 0x10000, 0x1FFFF, 0x0, 0x0, 0x0⟩,
  ⟨0x4002C08C, 8, 16, 1, 0x10000, 0x0, 0x0, 0x0, 0x0⟩,
  ⟨0x4002C100, 1, 4, 1, 0x10000, 0x3F, 0x0, 0x0, 0x0⟩,
  ⟨0x4002C104, 1, 4, 1, 0x10000, 0x1FFFFFFF, 0x0, 0x0, 0x0⟩,
  ⟨0x4002C108, 1, 4, 1, 0x10000, 0xFFFFFFFF, 0x0, 0x0, 0x0⟩,
  ⟨0x4002C10C, 1, 4, 1, 0x10000, 0x83FFFFFF, 0x0, 0x0, 0x0⟩,
  ⟨0x4002C140, 1, 4, 1, 0x10000, 0x0, 0x0, 0x3FF, 0x0⟩,
  ⟨0x4002C144, 1, 4, 1, 0x10000, 0x3FF, 0x0, 0x0, 0x0⟩,
  ⟨0x4002C180, 1, 4, 1, 0x10000, 0x0, 0x0, 0x0, 0x0⟩,
  ⟨0x4002C184, 1, 4, 1, 0x10000, 0x0, 0x0, 0x0, 0x0⟩,
  ⟨0x4002C188, 1, 4, 1, 0x10000, 0x0, 0x0, 0x0, 0x0⟩,
  ⟨0x4002C18C, 1, 4, 1, 0x10000, 0x0, 0x0, 0x0, 0x0⟩,
  ⟨0x4002C190, 1, 4, 1, 0x10000, 0x0, 0x0, 0x0, 0x0⟩,
  ⟨0x4002C194, 1, 4, 1, 0x10000, 0x0, 0x0, 0x0, 0x0⟩,
  ⟨0x4002C198, 1, 4, 1, 0x10000, 0x0, 0x0, 0x0, 0x0⟩,
  ⟨0x4002C19C, 1, 4, 1, 0x10000, 0x0, 0x0, 0x0, 0x0⟩,
  ⟨0x4002C1A0, 1, 4, 1, 0x10000, 0x0, 0x0, 0x0, 0x0⟩,
  ⟨0x4002C1BC, 1, 4, 1, 0x10000, 0x0, 0x0, 0x0, 0x0⟩]

/-- The registers of block MSG and their access masks. -/
def regsMSG : List RegSpec := [
  ⟨0x40028000, 1, 4, 1, 0x10000, 0xFFFF03, 0x0, 0x0, 0x0⟩,
  ⟨0x40028004, 1, 4, 1, 0x10000, 0x0, 0x0, 0x8, 0x0⟩,
  ⟨0x40028008, 1, 4, 1, 0x10000, 0x0, 0x0, 0x0, 0x0⟩,
  ⟨0x4002800C, 1, 4, 1, 0x10000, 0x0, 0x0, 0x0, 0x0⟩,
  ⟨0x40028020, 16, 4, 1, 0x10000, 0x8000FFFF, 0x0, 0x0, 0x0⟩,
  ⟨0x40028060, 1, 4, 1, 0x10000, 0xFF, 0x0, 0x0, 0x0⟩,
  ⟨0x40028064, 1, 4, 1, 0x10000, 0x3FFF7F, 0x0, 0x0, 0x0⟩,
  ⟨0x40028068, 1, 4, 1, 0x10000, 0xFFFFFFFF, 0x0, 0x0, 0x0⟩,
  ⟨0x4002806C, 1, 4, 1, 0x10000, 0xFFFFFFFF, 0x0, 0x0, 0x0⟩,
  ⟨0x40028070, 1, 4, 1, 0x10000, 0x0, 0x0, 0x0, 0x0⟩,
  ⟨0x40028074, 1, 4, 1, 0x10000, 0x0, 0x0, 0x0, 0x0⟩,
  ⟨0x40028078, 1, 4, 1, 0x10000, 0x0, 0x0, 0x0, 0x0⟩,
  ⟨0x40028080, 1, 4, 1, 0x10000, 0xFF, 0x0, 0x0, 0x0⟩,
  ⟨0x40028084, 1, 4, 1, 0x10000, 0x8000FF1F, 0x0, 0x0, 0x0⟩,
  ⟨0x40028088, 1, 4, 1, 0x10000, 0xFFFFFFFF, 0x0, 0x0, 0x0⟩,
  ⟨0x4002808C, 1, 4, 1, 0x10000, 0xFFFFFFFF, 0x0, 0x0, 0x0⟩,
  ⟨0x40028090, 1, 4, 1, 0x10000, 0x0, 0x0, 0x0, 0x0⟩,
  ⟨0x40028094, 1, 4, 1, 0x10000, 0x0, 0x0, 0x0, 0x0⟩,
  ⟨0x40028098, 1, 4, 1, 0x10000, 0xF3F, 0x0, 0x0, 0x0⟩,
  ⟨0x4002809C, 1, 4, 1, 0x10000, 0xFFFFFFFF, 0x0, 0x0, 0x0⟩,
  ⟨0x400280A0, 1, 4, 1, 0x10000, 0xFFFFFFFF, 0x0, 0x0, 0x0⟩,
  ⟨0x400280C0, 16, 4, 1, 0x10000, 0xF, 0x0, 0x0, 0x0⟩,
  ⟨0x40028200, 1, 4, 1, 0x10000, 0x1FFF00FF, 0x0, 0x0, 0x0⟩,
  ⟨0x40028204, 1, 4, 1, 0x10000, 0xFFFFFFFF, 0x0, 0x0, 0x0⟩,
  ⟨0x40028208, 1, 4, 1, 0x10000, 0x7FFFFFF, 0x0, 0x0, 0x0⟩,
  ⟨0x4002820C, 1, 4, 1, 0x10000, 0x0, 0x0, 0x0, 0x0⟩,
  ⟨0x40028210, 1, 4, 1, 0x10000, 0x0, 0x0, 0x0, 0x0⟩,
  ⟨0x40028214, 1, 4, 1, 0x10000, 0x0, 0x0, 0x0, 0x0⟩,
  ⟨0x40028218, 1, 4, 1, 0x10000, 0xF, 0x0, 0x0, 0x0⟩,
  ⟨0x4002821C, 1, 4, 1, 0x10000, 0x0, 0x0, 0x0, 0x0⟩,
  ⟨0x40028220, 1, 4, 1, 0x10000, 0x0, 0x0, 0x0, 0x0⟩,
  ⟨0x40028224, 1, 4, 1, 0x10000, 0xFF, 0x0, 0x0, 0x0⟩,
  ⟨0x40028228, 1, 4, 1, 0x10000, 0x0, 0x0, 0x0, 0x0⟩,
  ⟨0x40028140, 1, 4, 1, 0x10000, 0x0, 0x0, 0xFF, 0x0⟩,
  ⟨0x40028144, 1, 4, 1, 0x10000, 0xFF, 0x0, 0x0, 0x0⟩,
  ⟨0x40028180, 1, 4, 1, 0x10000, 0x0, 0x0, 0x0, 0x0⟩,
  ⟨0x40028184, 1, 4, 1, 0x10000, 0x0, 0x0, 0x0, 0x0⟩,
  ⟨0x40028188, 1, 4, 1, 0x10000, 0x0, 0x0, 0x0, 0x0⟩,
  ⟨0x4002818C, 1, 4, 1, 0x10000, 0x0, 0x0, 0x0, 0x0⟩,
  ⟨0x40028190, 1, 4, 1, 0x10000, 0x0, 0x0, 0x0, 0x0⟩,
  ⟨0x40028194, 1, 4, 1, 0x10000, 0x0, 0x0, 0x0, 0x0⟩,
  ⟨0x40028198, 1, 4, 1, 0x10000, 0x0, 0x0, 0x0, 0x0⟩,
  ⟨0x4002819C, 1, 4, 1, 0x10000, 0x0, 0x0, 0x0, 0x0⟩,
  ⟨0x400281A0, 1, 4, 1, 0x10000, 0x0, 0x0, 0x0, 0x0⟩,
  ⟨0x400281A4, 1, 4, 1, 0x10000, 0x0, 0x0, 0x0, 0x0⟩,
  ⟨0x400281A8, 1, 4, 1, 0x10000, 0x0, 0x0, 0x0, 0x0⟩,
  ⟨0x400281AC, 1, 4, 1, 0x10000, 0x0, 0x0, 0x0, 0x0⟩,
  ⟨0x400281B0, 1, 4, 1, 0x10000, 0x0, 0x0, 0x0, 0x0⟩,
  ⟨0x400281B4, 1, 4, 1, 0x10000, 0x0, 0x0, 0x0, 0x0⟩,
  ⟨0x400281BC, 1, 4, 1, 0x10000, 0x0, 0x0, 0x0, 0x0⟩]

/-- The registers of block AUD and their access masks. -/
def regsAUD : List RegSpec := [
  ⟨0x40040000, 1, 4, 1, 0x10000, 0xFFFF0F01, 0x0, 0x0, 0x0⟩,
  ⟨0x40040004, 1, 4, 1, 0x10000, 0x0, 0x0, 0x0, 0x0⟩,
  ⟨0x40040008, 1, 4, 1, 0x10000, 0x0, 0x0, 0x0, 0x0⟩,
  ⟨0x4004000C, 1, 4, 1, 0x10000, 0x0, 0x0, 0x0, 0x0⟩,
  ⟨0x40040010, 1, 4, 1, 0x10000, 0xFF, 0x0, 0x0, 0x0⟩,
  ⟨0x40040014, 1, 4, 1, 0x10000, 0x80000FFF, 0x0, 0x0, 0x0⟩,
  ⟨0x40040018, 1, 4, 1, 0x10000, 0x0, 0x0, 0x0, 0x0⟩,
  ⟨0x4004001C, 1, 4, 1, 0x10000, 0x0, 0x0, 0x0, 0x0⟩,
  ⟨0x40040020, 1, 4, 1, 0x10000, 0x3F, 0x0, 0x0, 0x0⟩,
  ⟨0x40040024, 1, 4, 1, 0x10000, 0x8000FFFF, 0x0, 0x0, 0x0⟩,
  ⟨0x40040028, 1, 4, 1, 0x10000, 0xFFFF, 0x0, 0x0, 0x0⟩,
  ⟨0x4004002C, 1, 4, 1, 0x10000, 0x0, 0x0, 0x0, 0x0⟩,
  ⟨0x40040030, 1, 4, 1, 0x10000, 0x7F01FF, 0x0, 0x0, 0x0⟩,
  ⟨0x40040034, 1, 4, 1, 0x10000, 0x8001FFFF, 0x0, 0x0, 0x0⟩,
  ⟨0x40040040, 1, 4, 1, 0x10000, 0x7F, 0x0, 0x0, 0x0⟩,
  ⟨0x40040044, 1, 4, 1, 0x10000, 0x3FF, 0x0, 0x0, 0x0⟩,
  ⟨0x40040048, 1, 4, 1, 0x10000, 0x77, 0x0, 0x0, 0x0⟩,
  ⟨0x4004004C, 1, 4, 1, 0x10000, 0xFFFFFFFF, 0x0, 0x0, 0x0⟩,
  ⟨0x40040050, 1, 4, 1, 0x10000, 0xFF00FF, 0x0, 0x0, 0x0⟩,
  ⟨0x40040054, 1, 4, 1, 0x10000, 0xF0FFF3F, 0x0, 0x0, 0x0⟩,
  ⟨0x40040058, 1, 4, 1, 0x10000, 0x0, 0x0, 0x0, 0x0⟩,
  ⟨0x40040060, 1, 4, 1, 0x10000, 0x3F, 0x0, 0x0, 0x0⟩,
  ⟨0x40040064, 1, 4, 1, 0x10000, 0x3FFFF1F, 0x0, 0x0, 0x0⟩,
  ⟨0x40040068, 1, 4, 1, 0x10000, 0xFFFFFFFF, 0x0, 0x0, 0x0⟩,
  ⟨0x4004006C, 1, 4, 1, 0x10000, 0xFFFFFFFF, 0x0, 0x0, 0x0⟩,
  ⟨0x40040070, 1, 4, 1, 0x10000, 0xFFFF, 0x0, 0x0, 0x0⟩,
  ⟨0x40040074, 1, 4, 1, 0x10000, 0x0, 0x0, 0x0, 0x0⟩,
  ⟨0x40040078, 1, 4, 1, 0x10000, 0x0, 0x0, 0x0, 0x0⟩,
  ⟨0x40040080, 1, 4, 1, 0x10000, 0xFFFFFFFF, 0x0, 0x0, 0x0⟩,
  ⟨0x40040084, 1, 4, 1, 0x10000, 0xFFFF, 0x0, 0x0, 0x0⟩,
  ⟨0x40040088, 1, 4, 1, 0x10000, 0xFFFF, 0x0, 0x0, 0x0⟩,
  ⟨0x4004008C, 1, 4, 1, 0x10000, 0x0, 0x0, 0x0, 0x0⟩,
  ⟨0x40040100, 16, 8, 1, 0x10000, 0x807F3F3F, 0x0, 0x0, 0x0⟩,
  ⟨0x40040104, 16, 8, 1, 0x10000, 0xFF, 0x0, 0x0, 0x0⟩,
  ⟨0x400401C0, 1, 4, 1, 0x10000, 0x0, 0x0, 0x7FF, 0x0⟩,
  ⟨0x400401C4, 1, 4, 1, 0x10000, 0x7FF, 0x0, 0x0, 0x0⟩,
  ⟨0x40040200, 1, 4, 1, 0x10000, 0x0, 0x0, 0x0, 0x0⟩,
  ⟨0x40040204, 1, 4, 1, 0x10000, 0x0, 0x0, 0x0, 0x0⟩,
  ⟨0x40040208, 1, 4, 1, 0x10000, 0x0, 0x0, 0x0, 0x0⟩,
  ⟨0x4004020C, 1, 4, 1, 0x10000, 0x0, 0x0, 0x0, 0x0⟩,
  ⟨0x40040210, 1, 4, 1, 0x10000, 0x0, 0x0, 0x0, 0x0⟩,
  ⟨0x40040214, 1, 4, 1, 0x10000, 0x0, 0x0, 0x0, 0x0⟩,
  ⟨0x40040218, 1, 4, 1, 0x10000, 0x0, 0x0, 0x0, 0x0⟩,
  ⟨0x4004021C, 1, 4, 1, 0x10000, 0x0, 0x0, 0x0, 0x0⟩,
  ⟨0x40040220, 1, 4, 1, 0x10000, 0x0, 0x0, 0x0, 0x0⟩,
  ⟨0x40040224, 1, 4, 1, 0x10000, 0x0, 0x0, 0x0, 0x0⟩,
  ⟨0x4004023C, 1, 4, 1, 0x10000, 0x0, 0x0, 0x0, 0x0⟩]

/-- The registers of block ENG and their access masks. -/
def regsENG : List RegSpec := [
  ⟨0x40030000, 1, 4, 8, 0x1000, 0x7, 0x0, 0x0, 0x0⟩,
  ⟨0x40030004, 1, 4, 8, 0x1000, 0x0, 0x0, 0x0, 0x0⟩,
  ⟨0x40030008, 1, 4, 8, 0x1000, 0x0, 0x0, 0x0, 0x0⟩,
  ⟨0x4003000C, 1, 4, 8, 0x1000, 0xFFFFF, 0x0, 0x0, 0x0⟩,
  ⟨0x40030010, 1, 4, 8, 0x1000, 0xFFFFF, 0x0, 0x0, 0x0⟩,
  ⟨0x40030014, 1, 4, 8, 0x1000, 0xFFFFF, 0x0, 0x0, 0x0⟩,
  ⟨0x40030018, 1, 4, 8, 0x1000, 0x0, 0x0, 0x0, 0x0⟩,
  ⟨0x4003001C, 1, 4, 8, 0x1000, 0x0, 0x0, 0x0, 0x0⟩,
  ⟨0x40030020, 1, 4, 8, 0x1000, 0x0, 0x0, 0x0, 0x0⟩,
  ⟨0x40030024, 1, 4, 8, 0x1000, 0x0, 0x0, 0x0, 0x0⟩,
  ⟨0x40030028, 1, 4, 8, 0x1000, 0x0, 0x0, 0x0, 0x0⟩,
  ⟨0x40030030, 1, 4, 8, 0x1000, 0x1FF, 0x0, 0x0, 0x0⟩,
  ⟨0x40030034, 1, 4, 8, 0x1000, 0x1FFF, 0x0, 0x0, 0x0⟩,
  ⟨0x40030038, 1, 4, 8, 0x1000, 0x3FFF, 0x0, 0x0, 0x0⟩,
  ⟨0x4003003C, 1, 4, 8, 0x1000, 0x7FF, 0x0, 0x0, 0x0⟩,
  ⟨0x40030050, 1, 4, 8, 0x1000, 0xFF03FF, 0x0, 0x0, 0x0⟩,
  ⟨0x40030054, 1, 4, 8, 0x1000, 0xFFFFFFFF, 0x0, 0x0, 0x0⟩,
  ⟨0x40030058, 1, 4, 8, 0x1000, 0x0, 0x0, 0x2FF00, 0x0⟩,
  ⟨0x40030100, 64, 8, 8, 0x1000, 0x3FFFF, 0x0, 0x0, 0x0⟩,
  ⟨0x40030104, 64, 8, 8, 0x1000, 0xFFFFFFFF, 0x0, 0x0, 0x0⟩,
  ⟨0x400300C0, 1, 4, 8, 0x1000, 0x0, 0x0, 0x3F, 0x0⟩,
  ⟨0x400300C4, 1, 4, 8, 0x1000, 0x3F, 0x0, 0x0, 0x0⟩,
  ⟨0x40030080, 1, 4, 8, 0x1000, 0x0, 0x0, 0x0, 0x0⟩,
  ⟨0x40030084, 1, 4, 8, 0x1000, 0x0, 0x0, 0x0, 0x0⟩,
  ⟨0x40030088, 1, 4, 8, 0x1000, 0x0, 0x0, 0x0, 0x0⟩,
  ⟨0x4003008C, 1, 4, 8, 0x1000, 0x0, 0x0, 0x0, 0x0⟩,
  ⟨0x40030090, 1, 4, 8, 0x1000, 0x0, 0x0, 0x0, 0x0⟩,
  ⟨0x40030094, 1, 4, 8, 0x1000, 0x0, 0x0, 0x0, 0x0⟩,
  ⟨0x400300BC, 1, 4, 8, 0x1000, 0x0, 0x0, 0x0, 0x0⟩]

/-- The registers of block ENG0 and their access masks. -/
def regsENG0 : List RegSpec := [
  ⟨0x40030800, 1, 4, 1, 0x10000, 0x400FFFFF, 0x0, 0x0, 0x0⟩,
  ⟨0x40030804, 1, 4, 1, 0x10000, 0x0, 0x0, 0x0, 0x0⟩,
  ⟨0x40030900, 1, 4, 1, 0x10000, 0xFF, 0x0, 0x0, 0x0⟩,
  ⟨0x40030904, 1, 4, 1, 0x10000, 0x8003FFFF, 0x0, 0x0, 0x0⟩,
  ⟨0x40030908, 1, 4, 1, 0x10000, 0xFFFFFFFF, 0x0, 0x0, 0x0⟩,
  ⟨0x4003090C, 1, 4, 1, 0x10000, 0x0, 0x0, 0x0, 0x0⟩,
  ⟨0x40030910, 1, 4, 1, 0x10000, 0x0, 0x0, 0x0, 0x0⟩,
  ⟨0x40030914, 1, 4, 1, 0x10000, 0x0, 0x0, 0x0, 0x0⟩,
  ⟨0x40030840, 32, 4, 1, 0x10000, 0x0, 0x0, 0x0, 0x0⟩]

/-- The registers of block TMR and their access masks. -/
def regsTMR : List RegSpec := [
  ⟨0x40038000, 1, 4, 1, 0x10000, 0x4FFFFFFF, 0x0, 0x0, 0x0⟩,
  ⟨0x40038004, 1, 4, 1, 0x10000, 0x0, 0x0, 0x0, 0x0⟩,
  ⟨0x40038008, 1, 4, 1, 0x10000, 0x7FFFFFFF, 0x0, 0x0, 0x0⟩,
  ⟨0x4003800C, 1, 4, 1, 0x10000, 0x0, 0x0, 0x0, 0x0⟩,
  ⟨0x40038010, 1, 4, 1, 0x10000, 0xFFF, 0x0, 0x0, 0x0⟩,
  ⟨0x40038014, 1, 4, 1, 0x10000, 0x0, 0x0, 0x0, 0x0⟩,
  ⟨0x40038018, 1, 4, 1, 0x10000, 0x0, 0x0, 0x0, 0x0⟩,
  ⟨0x4003801C, 1, 4, 1, 0x10000, 0x0, 0x0, 0x0, 0x0⟩,
  ⟨0x40038020, 1, 4, 1, 0x10000, 0x1FFF, 0x0, 0x0, 0x0⟩,
  ⟨0x40038024, 1, 4, 1, 0x10000, 0x0, 0x0, 0x0, 0x0⟩,
  ⟨0x40038028, 1, 4, 1, 0x10000, 0x0, 0x0, 0x0, 0x0⟩]

/-- The registers of block PEX and their access masks. -/
def regsPEX : List RegSpec := [
  ⟨0x4003C000, 1, 4, 1, 0x10000, 0x3, 0x0, 0x0, 0x0⟩,
  ⟨0x4003C004, 1, 4, 1, 0x10000, 0x0, 0x0, 0x0, 0x0⟩,
  ⟨0x4003C008, 1, 4, 1, 0x10000, 0x3FFF, 0x0, 0x0, 0x0⟩,
  ⟨0x4003C00C, 1, 4, 1, 0x10000, 0x0, 0x0, 0x0, 0x0⟩,
  ⟨0x4003C010, 1, 4, 1, 0x10000, 0x0, 0x0, 0x0, 0x0⟩,
  ⟨0x4003C014, 1, 4, 1, 0x10000, 0x0, 0x0, 0x0, 0x0⟩,
  ⟨0x4003C018, 1, 4, 1, 0x10000, 0x0, 0x0, 0x0, 0x0⟩,
  ⟨0x4003C01C, 1, 4, 1, 0x10000, 0x0, 0x0, 0x0, 0x0⟩,
  ⟨0x4003C020, 1, 4, 1, 0x10000, 0x0, 0x0, 0x0, 0x0⟩,
  ⟨0x4003C024, 1, 4, 1, 0x10000, 0x0, 0x0, 0x0, 0x0⟩,
  ⟨0x4003C028, 1, 4, 1, 0x10000, 0x0, 0x0, 0x0, 0x0⟩,
  ⟨0x4003C02C, 1, 4, 1, 0x10000, 0x0, 0x0, 0x0, 0x0⟩,
  ⟨0x4003C040, 1, 4, 1, 0x10000, 0xF, 0x0, 0x0, 0x0⟩,
  ⟨0x4003C044, 1, 4, 1, 0x10000, 0xFFFFFFFF, 0x0, 0x0, 0x0⟩,
  ⟨0x4003C048, 1, 4, 1, 0x10000, 0xFFFFFFFF, 0x0, 0x0, 0x0⟩,
  ⟨0x4003C04C, 1, 4, 1, 0x10000, 0xFF1F, 0x0, 0x0, 0x0⟩,
  ⟨0x4003C050, 1, 4, 1, 0x10000, 0x0, 0x0, 0x0, 0x0⟩,
  ⟨0x4003C060, 1, 4, 1, 0x10000, 0x0, 0x0, 0x3F, 0x0⟩,
  ⟨0x4003C064, 1, 4, 1, 0x10000, 0x3F, 0x0, 0x0, 0x0⟩,
  ⟨0x4003C080, 1, 4, 1, 0x10000, 0x0, 0x0, 0x0, 0x0⟩,
  ⟨0x4003C084, 1, 4, 1, 0x10000, 0x0, 0x0, 0x0, 0x0⟩,
  ⟨0x4003C088, 1, 4, 1, 0x10000, 0x0, 0x0, 0x0, 0x0⟩,
  ⟨0x4003C08C, 1, 4, 1, 0x10000, 0x0, 0x0, 0x0, 0x0⟩,
  ⟨0x4003C090, 1, 4, 1, 0x10000, 0x0, 0x0, 0x0, 0x0⟩,
  ⟨0x4003C0BC, 1, 4, 1, 0x10000, 0x0, 0x0, 0x0, 0x0⟩]

/-- The registers of block PAIR and their access masks. -/
def regsPAIR : List RegSpec := [
  ⟨0x40024000, 1, 4, 1, 0x10000, 0x3FFFFF03, 0x0, 0x0, 0x0⟩,
  ⟨0x40024004, 1, 4, 1, 0x10000, 0x0, 0x0, 0x0, 0x0⟩,
  ⟨0x40024008, 1, 4, 1, 0x10000, 0x0, 0x0, 0x0, 0x0⟩,
  ⟨0x4002400C, 1, 4, 1, 0x10000, 0xFFFFFFFF, 0x0, 0x0, 0x0⟩,
  ⟨0x40024010, 1, 4, 1, 0x10000, 0xFFFFFFFF, 0x0, 0x0, 0x0⟩,
  ⟨0x40024014, 1, 4, 1, 0x10000, 0x0, 0x0, 0x0, 0x0⟩,
  ⟨0x40024018, 1, 4, 1, 0x10000, 0x0, 0x0, 0x0, 0x0⟩,
  ⟨0x4002401C, 1, 4, 1, 0x10000, 0x0, 0x0, 0x0, 0x0⟩,
  ⟨0x40024020, 1, 4, 1, 0x10000, 0x0, 0x0, 0x0, 0x0⟩,
  ⟨0x40024024, 1, 4, 1, 0x10000, 0x0, 0x0, 0x0, 0x0⟩,
  ⟨0x40024028, 1, 4, 1, 0x10000, 0x0, 0x0, 0x0, 0x0⟩,
  ⟨0x40024060, 1, 4, 1, 0x10000, 0x0, 0x0, 0xFFF, 0x0⟩,
  ⟨0x40024064, 1, 4, 1, 0x10000, 0xFFF, 0x0, 0x0, 0x0⟩,
  ⟨0x40024080, 1, 4, 1, 0x10000, 0x0, 0x0, 0x0, 0x0⟩,
  ⟨0x40024084, 1, 4, 1, 0x10000, 0x0, 0x0, 0x0, 0x0⟩,
  ⟨0x40024088, 1, 4, 1, 0x10000, 0x0, 0x0, 0x0, 0x0⟩,
  ⟨0x4002408C, 1, 4, 1, 0x10000, 0x0, 0x0, 0x0, 0x0⟩,
  ⟨0x40024090, 1, 4, 1, 0x10000, 0x0, 0x0, 0x0, 0x0⟩,
  ⟨0x40024094, 1, 4, 1, 0x10000, 0x0, 0x0, 0x0, 0x0⟩,
  ⟨0x40024098, 1, 4, 1, 0x10000, 0x0, 0x0, 0x0, 0x0⟩,
  ⟨0x4002409C, 1, 4, 1, 0x10000, 0x0, 0x0, 0x0, 0x0⟩,
  ⟨0x400240A0, 1, 4, 1, 0x10000, 0x0, 0x0, 0x0, 0x0⟩,
  ⟨0x400240A4, 1, 4, 1, 0x10000, 0x0, 0x0, 0x0, 0x0⟩,
  ⟨0x400240BC, 1, 4, 1, 0x10000, 0x0, 0x0, 0x0, 0x0⟩]

/-- The registers of block PWR and their access masks. -/
def regsPWR : List RegSpec := [
  ⟨0x40001000, 1, 4, 1, 0x10000, 0x1, 0x0, 0x0, 0x80000000⟩,
  ⟨0x40001004, 1, 4, 1, 0x10000, 0x3FF, 0x0, 0x0, 0x0⟩,
  ⟨0x40001008, 1, 4, 1, 0x10000, 0xF0F3F3F, 0x0, 0x0, 0x0⟩,
  ⟨0x4000100C, 1, 4, 1, 0x10000, 0x0, 0x0, 0x0, 0x0⟩,
  ⟨0x40001010, 1, 4, 1, 0x10000, 0x0, 0x0, 0x0, 0x0⟩,
  ⟨0x40001014, 1, 4, 1, 0x10000, 0x0, 0x0, 0x0, 0x0⟩,
  ⟨0x40001018, 1, 4, 1, 0x10000, 0x0, 0x0, 0x0, 0x0⟩,
  ⟨0x4000101C, 1, 4, 1, 0x10000, 0x0, 0x0, 0x0, 0x0⟩,
  ⟨0x40001020, 1, 4, 1, 0x10000, 0xFF, 0x0, 0x0, 0x0⟩,
  ⟨0x40001024, 1, 4, 1, 0x10000, 0x0, 0x0, 0x0, 0x0⟩,
  ⟨0x40001028, 1, 4, 1, 0x10000, 0x0, 0x0, 0x0, 0x0⟩,
  ⟨0x40001040, 8, 4, 1, 0x10000, 0xFFFF3000, 0x0, 0x0, 0x0⟩,
  ⟨0x40001400, 256, 4, 1, 0x10000, 0x0, 0x0, 0x0, 0x0⟩,
  ⟨0x40001060, 1, 4, 1, 0x10000, 0x0, 0x0, 0x7F, 0x0⟩,
  ⟨0x40001064, 1, 4, 1, 0x10000, 0x7F, 0x0, 0x0, 0x0⟩,
  ⟨0x40001080, 1, 4, 1, 0x10000, 0x0, 0x0, 0x0, 0x0⟩,
  ⟨0x40001084, 1, 4, 1, 0x10000, 0x0, 0x0, 0x0, 0x0⟩,
  ⟨0x40001088, 1, 4, 1, 0x10000, 0x0, 0x0, 0x0, 0x0⟩,
  ⟨0x4000108C, 1, 4, 1, 0x10000, 0x0, 0x0, 0x0, 0x0⟩,
  ⟨0x40001090, 1, 4, 1, 0x10000, 0x0, 0x0, 0x0, 0x0⟩,
  ⟨0x40001094, 1, 4, 1, 0x10000, 0x0, 0x0, 0x0, 0x0⟩,
  ⟨0x40001098, 1, 4, 1, 0x10000, 0x0, 0x0, 0x0, 0x0⟩,
  ⟨0x4000109C, 1, 4, 1, 0x10000, 0x0, 0x0, 0x0, 0x0⟩,
  ⟨0x400010BC, 1, 4, 1, 0x10000, 0x0, 0x0, 0x0, 0x0⟩]

/-- The registers of block AON and their access masks. -/
def regsAON : List RegSpec := [
  ⟨0x40003000, 1, 4, 1, 0x10000, 0xFF1C, 0x0, 0x0, 0x0⟩,
  ⟨0x40003004, 1, 4, 1, 0x10000, 0x0, 0x0, 0x0, 0x0⟩,
  ⟨0x40003008, 1, 4, 1, 0x10000, 0x0, 0x0, 0x0, 0x0⟩,
  ⟨0x4000300C, 1, 4, 1, 0x10000, 0x0, 0x0, 0x0, 0x0⟩,
  ⟨0x40003010, 1, 4, 1, 0x10000, 0xFFF0FFF, 0x0, 0x0, 0x0⟩,
  ⟨0x40003014, 1, 4, 1, 0x10000, 0xFF0000, 0x0, 0x0, 0xFF00⟩,
  ⟨0x40003018, 1, 4, 1, 0x10000, 0x0, 0x0, 0x0, 0x0⟩,
  ⟨0x40003020, 1, 4, 1, 0x10000, 0xFF03FF, 0x0, 0x0, 0x0⟩,
  ⟨0x40003024, 1, 4, 1, 0x10000, 0x1F, 0x0, 0x0, 0x0⟩,
  ⟨0x40003028, 1, 4, 1, 0x10000, 0x0, 0x0, 0x3FF, 0x0⟩,
  ⟨0x4000302C, 1, 4, 1, 0x10000, 0x0, 0x0, 0x0, 0x0⟩,
  ⟨0x40003030, 1, 4, 1, 0x10000, 0x0, 0x0, 0x0, 0x0⟩,
  ⟨0x40003040, 1, 4, 1, 0x10000, 0xFFFFFFFF, 0x0, 0x0, 0x0⟩,
  ⟨0x40003044, 1, 4, 1, 0x10000, 0x0, 0x0, 0x0, 0x0⟩,
  ⟨0x40003048, 1, 4, 1, 0x10000, 0xFFFFFFFF, 0x0, 0x0, 0x0⟩,
  ⟨0x40003050, 1, 4, 1, 0x10000, 0x7, 0x0, 0x0, 0x0⟩,
  ⟨0x40003054, 1, 4, 1, 0x10000, 0x0, 0x0, 0x0, 0x0⟩,
  ⟨0x40003058, 1, 4, 1, 0x10000, 0x0, 0x0, 0x0, 0x0⟩,
  ⟨0x4000305C, 1, 4, 1, 0x10000, 0x0, 0x0, 0x0, 0x0⟩,
  ⟨0x40003060, 1, 4, 1, 0x10000, 0x0, 0x0, 0xFF, 0x0⟩,
  ⟨0x40003064, 1, 4, 1, 0x10000, 0xFF, 0x0, 0x0, 0x0⟩,
  ⟨0x40003080, 1, 4, 1, 0x10000, 0x0, 0x0, 0x0, 0x0⟩,
  ⟨0x40003084, 1, 4, 1, 0x10000, 0x0, 0x0, 0x0, 0x0⟩,
  ⟨0x40003088, 1, 4, 1, 0x10000, 0x0, 0x0, 0x0, 0x0⟩,
  ⟨0x4000308C, 1, 4, 1, 0x10000, 0x0, 0x0, 0x0, 0x0⟩,
  ⟨0x40003090, 1, 4, 1, 0x10000, 0x0, 0x0, 0x0, 0x0⟩,
  ⟨0x40003094, 1, 4, 1, 0x10000, 0x0, 0x0, 0x0, 0x0⟩,
  ⟨0x40003098, 1, 4, 1, 0x10000, 0x0, 0x0, 0x0, 0x0⟩,
  ⟨0x400030BC, 1, 4, 1, 0x10000, 0x0, 0x0, 0x0, 0x0⟩]

/-- The registers of block TIME and their access masks. -/
def regsTIME : List RegSpec := [
  ⟨0x40007000, 1, 4, 1, 0x10000, 0x1FF01, 0x0, 0x0, 0x0⟩,
  ⟨0x40007004, 1, 4, 1, 0x10000, 0x0, 0x0, 0x0, 0x0⟩,
  ⟨0x40007008, 1, 4, 1, 0x10000, 0x0, 0x0, 0x0, 0x0⟩,
  ⟨0x4000700C, 1, 4, 1, 0x10000, 0x0, 0x0, 0x0, 0x0⟩,
  ⟨0x40007010, 4, 4, 1, 0x10000, 0x0, 0x0, 0x0, 0x0⟩,
  ⟨0x40007020, 4, 4, 1, 0x10000, 0x0, 0x0, 0x0, 0x0⟩,
  ⟨0x40007030, 1, 4, 1, 0x10000, 0x0, 0x0, 0x0, 0x0⟩,
  ⟨0x40007034, 1, 4, 1, 0x10000, 0x0, 0x0, 0x0, 0x0⟩,
  ⟨0x40007038, 1, 4, 1, 0x10000, 0x0, 0x0, 0x0, 0x0⟩,
  ⟨0x40007040, 1, 4, 1, 0x10000, 0x0, 0x0, 0x0, 0x0⟩,
  ⟨0x40007044, 1, 4, 1, 0x10000, 0x0, 0x0, 0x0, 0x0⟩,
  ⟨0x40007048, 1, 4, 1, 0x10000, 0x0, 0x0, 0x0, 0x0⟩,
  ⟨0x40007050, 1, 4, 1, 0x10000, 0x0, 0x0, 0x0, 0x0⟩,
  ⟨0x40007054, 1, 4, 1, 0x10000, 0xFFFFFFFF, 0x0, 0x0, 0x0⟩,
  ⟨0x40007058, 1, 4, 1, 0x10000, 0x0, 0x0, 0x0, 0x0⟩,
  ⟨0x4000705C, 1, 4, 1, 0x10000, 0xFFFFFFFF, 0x0, 0x0, 0x0⟩,
  ⟨0x40007060, 1, 4, 1, 0x10000, 0x0, 0x0, 0x0, 0x0⟩,
  ⟨0x40007064, 1, 4, 1, 0x10000, 0xFFFFF, 0x0, 0x0, 0x0⟩,
  ⟨0x40007068, 1, 4, 1, 0x10000, 0xF, 0x0, 0x0, 0x0⟩,
  ⟨0x40007070, 1, 4, 1, 0x10000, 0x7, 0x0, 0x0, 0x0⟩,
  ⟨0x400070C0, 1, 4, 1, 0x10000, 0x0, 0x0, 0x7FF, 0x0⟩,
  ⟨0x400070C4, 1, 4, 1, 0x10000, 0x7FF, 0x0, 0x0, 0x0⟩,
  ⟨0x40007080, 1, 4, 1, 0x10000, 0x0, 0x0, 0x0, 0x0⟩,
  ⟨0x40007084, 1, 4, 1, 0x10000, 0x0, 0x0, 0x0, 0x0⟩,
  ⟨0x40007088, 1, 4, 1, 0x10000, 0x0, 0x0, 0x0, 0x0⟩,
  ⟨0x4000708C, 1, 4, 1, 0x10000, 0x0, 0x0, 0x0, 0x0⟩,
  ⟨0x40007090, 1, 4, 1, 0x10000, 0x0, 0x0, 0x0, 0x0⟩,
  ⟨0x40007094, 1, 4, 1, 0x10000, 0x0, 0x0, 0x0, 0x0⟩,
  ⟨0x40007098, 1, 4, 1, 0x10000, 0x0, 0x0, 0x0, 0x0⟩,
  ⟨0x4000709C, 1, 4, 1, 0x10000, 0x0, 0x0, 0x0, 0x0⟩,
  ⟨0x400070A0, 1, 4, 1, 0x10000, 0x0, 0x0, 0x0, 0x0⟩,
  ⟨0x400070BC, 1, 4, 1, 0x10000, 0x0, 0x0, 0x0, 0x0⟩]

/-- The registers of block CAN and their access masks. -/
def regsCAN : List RegSpec := [
  ⟨0x40050000, 1, 4, 8, 0x1000, 0xF31FFF, 0x0, 0x0, 0x0⟩,
  ⟨0x40050004, 1, 4, 8, 0x1000, 0x0, 0x0, 0x0, 0x0⟩,
  ⟨0x40050008, 1, 4, 8, 0x1000, 0x0, 0x0, 0x0, 0x0⟩,
  ⟨0x4005000C, 1, 4, 8, 0x1000, 0x0, 0x0, 0x0, 0x0⟩,
  ⟨0x40050010, 1, 4, 8, 0x1000, 0x7F7FFFFF, 0x0, 0x0, 0x0⟩,
  ⟨0x40050014, 1, 4, 8, 0x1000, 0xF0F1F1F, 0x0, 0x0, 0x0⟩,
  ⟨0x40050018, 1, 4, 8, 0x1000, 0x7F01, 0x0, 0x0, 0x0⟩,
  ⟨0x4005001C, 1, 4, 8, 0x1000, 0x7FF, 0x0, 0x0, 0x0⟩,
  ⟨0x40050020, 1, 4, 8, 0x1000, 0x7FFFFFFF, 0x0, 0x0, 0x0⟩,
  ⟨0x40050024, 1, 4, 8, 0x1000, 0x0, 0x0, 0x0, 0x0⟩,
  ⟨0x40050040, 1, 4, 8, 0x1000, 0x3F, 0x0, 0x0, 0x0⟩,
  ⟨0x40050044, 1, 4, 8, 0x1000, 0xBFFFFFFF, 0x0, 0x0, 0x0⟩,
  ⟨0x40050048, 1, 4, 8, 0x1000, 0x3FFFFFFF, 0x0, 0x0, 0x0⟩,
  ⟨0x4005004C, 1, 4, 8, 0x1000, 0xFFF07FF, 0x0, 0x0, 0x0⟩,
  ⟨0x40050060, 1, 4, 8, 0x1000, 0x0, 0x0, 0xFF, 0x0⟩,
  ⟨0x40050064, 1, 4, 8, 0x1000, 0xFF, 0x0, 0x0, 0x0⟩,
  ⟨0x40050080, 1, 4, 8, 0x1000, 0x0, 0x0, 0x0, 0x0⟩,
  ⟨0x40050084, 1, 4, 8, 0x1000, 0x0, 0x0, 0x0, 0x0⟩,
  ⟨0x40050088, 1, 4, 8, 0x1000, 0x0, 0x0, 0x0, 0x0⟩,
  ⟨0x4005008C, 1, 4, 8, 0x1000, 0x0, 0x0, 0x0, 0x0⟩,
  ⟨0x40050090, 1, 4, 8, 0x1000, 0x0, 0x0, 0x0, 0x0⟩,
  ⟨0x40050094, 1, 4, 8, 0x1000, 0x0, 0x0, 0x0, 0x0⟩,
  ⟨0x40050098, 1, 4, 8, 0x1000, 0x0, 0x0, 0x0, 0x0⟩,
  ⟨0x4005009C, 1, 4, 8, 0x1000, 0x0, 0x0, 0x0, 0x0⟩,
  ⟨0x400500A0, 1, 4, 8, 0x1000, 0x0, 0x0, 0x0, 0x0⟩,
  ⟨0x400500A4, 1, 4, 8, 0x1000, 0x0, 0x0, 0x0, 0x0⟩,
  ⟨0x400500BC, 1, 4, 8, 0x1000, 0x0, 0x0, 0x0, 0x0⟩]

/-- The registers of block CAN0 and their access masks. -/
def regsCAN0 : List RegSpec := [
  ⟨0x40050800, 1, 4, 1, 0x10000, 0x5FFFFFFF, 0x0, 0x0, 0x0⟩,
  ⟨0x40050804, 1, 4, 1, 0x10000, 0x0, 0x0, 0x0, 0x0⟩,
  ⟨0x40050808, 1, 4, 1, 0x10000, 0x37FF, 0x0, 0x0, 0x0⟩,
  ⟨0x4005080C, 1, 4, 1, 0x10000, 0x0, 0x0, 0x0, 0x0⟩,
  ⟨0x40050810, 1, 4, 1, 0x10000, 0x0, 0x0, 0x0, 0x0⟩]

/-- The registers of block ETH and their access masks. -/
def regsETH : List RegSpec := [
  ⟨0x40060000, 1, 4, 1, 0x10000, 0xFFFF3F, 0x0, 0x0, 0x0⟩,
  ⟨0x40060004, 2, 4, 1, 0x10000, 0x0, 0x0, 0x0, 0x0⟩,
  ⟨0x40060010, 1, 4, 1, 0x10000, 0xFFFFFFFF, 0x0, 0x0, 0x0⟩,
  ⟨0x40060014, 1, 4, 1, 0x10000, 0xFFFF, 0x0, 0x0, 0x0⟩,
  ⟨0x40060018, 1, 4, 1, 0x10000, 0xFFFFFFFF, 0x0, 0x0, 0x0⟩,
  ⟨0x4006001C, 1, 4, 1, 0x10000, 0xFFFFFFFF, 0x0, 0x0, 0x0⟩,
  ⟨0x40060020, 1, 4, 1, 0x10000, 0xFFFFFFFF, 0x0, 0x0, 0x0⟩,
  ⟨0x40060024, 1, 4, 1, 0x10000, 0x8000FFFF, 0x0, 0x0, 0x0⟩,
  ⟨0x40060028, 1, 4, 1, 0x10000, 0xFFFFFFFF, 0x0, 0x0, 0x0⟩,
  ⟨0x4006002C, 1, 4, 1, 0x10000, 0xFFFFFFFF, 0x0, 0x0, 0x0⟩,
  ⟨0x40060030, 1, 4, 1, 0x10000, 0xFFFFFFFF, 0x0, 0x0, 0x0⟩,
  ⟨0x40060034, 1, 4, 1, 0x10000, 0x1FF, 0x0, 0x0, 0x0⟩,
  ⟨0x40060038, 1, 4, 1, 0x10000, 0xFFFFFFFF, 0x0, 0x0, 0x0⟩,
  ⟨0x4006003C, 1, 4, 1, 0x10000, 0x1FF, 0x0, 0x0, 0x0⟩,
  ⟨0x40060040, 1, 4, 1, 0x10000, 0x0, 0x0, 0x0, 0x0⟩,
  ⟨0x40060050, 1, 4, 1, 0x10000, 0x7FF, 0x0, 0x0, 0x0⟩,
  ⟨0x40060054, 1, 4, 1, 0x10000, 0xFFFF, 0x0, 0x0, 0x0⟩,
  ⟨0x40060058, 1, 4, 1, 0x10000, 0x11F1F, 0x0, 0x0, 0x0⟩,
  ⟨0x40060100, 8, 16, 1, 0x10000, 0xFFFFFFFF, 0x0, 0x0, 0x0⟩,
  ⟨0x40060104, 8, 16, 1, 0x10000, 0x80F307FF, 0x0, 0x0, 0x0⟩,
  ⟨0x40060108, 8, 16, 1, 0x10000, 0x0, 0x0, 0x0, 0x0⟩,
  ⟨0x4006010C, 8, 16, 1, 0x10000, 0x0, 0x0, 0x0, 0x0⟩,
  ⟨0x400600C0, 1, 4, 1, 0x10000, 0x0, 0x0, 0x3F, 0x0⟩,
  ⟨0x400600C4, 1, 4, 1, 0x10000, 0x3F, 0x0, 0x0, 0x0⟩,
  ⟨0x40060080, 1, 4, 1, 0x10000, 0x0, 0x0, 0x0, 0x0⟩,
  ⟨0x40060084, 1, 4, 1, 0x10000, 0x0, 0x0, 0x0, 0x0⟩,
  ⟨0x40060088, 1, 4, 1, 0x10000, 0x0, 0x0, 0x0, 0x0⟩,
  ⟨0x4006008C, 1, 4, 1, 0x10000, 0x0, 0x0, 0x0, 0x0⟩,
  ⟨0x40060090, 1, 4, 1, 0x10000, 0x0, 0x0, 0x0, 0x0⟩,
  ⟨0x40060094, 1, 4, 1, 0x10000, 0x0, 0x0, 0x0, 0x0⟩,
  ⟨0x40060098, 1, 4, 1, 0x10000, 0x0, 0x0, 0x0, 0x0⟩,
  ⟨0x4006009C, 1, 4, 1, 0x10000, 0x0, 0x0, 0x0, 0x0⟩,
  ⟨0x400600BC, 1, 4, 1, 0x10000, 0x0, 0x0, 0x0, 0x0⟩]

/-- The registers of block TDM and their access masks. -/
def regsTDM : List RegSpec := [
  ⟨0x40048000, 1, 4, 4, 0x1000, 0xFFF, 0x0, 0x0, 0x0⟩,
  ⟨0x40048004, 1, 4, 4, 0x1000, 0x0, 0x0, 0x0, 0x0⟩,
  ⟨0x400480C0, 1, 4, 4, 0x1000, 0x0, 0x0, 0x3, 0x0⟩,
  ⟨0x400480C4, 1, 4, 4, 0x1000, 0x3, 0x0, 0x0, 0x0⟩,
  ⟨0x40048080, 1, 4, 4, 0x1000, 0x0, 0x0, 0x0, 0x0⟩,
  ⟨0x40048084, 1, 4, 4, 0x1000, 0x0, 0x0, 0x0, 0x0⟩,
  ⟨0x400480BC, 1, 4, 4, 0x1000, 0x0, 0x0, 0x0, 0x0⟩]

/-- The registers of block QSPI and their access masks. -/
def regsQSPI : List RegSpec := [
  ⟨0x40006000, 1, 4, 2, 0x800, 0xFF, 0x0, 0x0, 0x0⟩,
  ⟨0x40006004, 1, 4, 2, 0x800, 0x0, 0x0, 0x0, 0x0⟩,
  ⟨0x40006008, 1, 4, 2, 0x800, 0xFFFFFFFF, 0x0, 0x0, 0x0⟩,
  ⟨0x4000600C, 1, 4, 2, 0x800, 0xFFFFFF, 0x0, 0x0, 0x0⟩,
  ⟨0x40006010, 1, 4, 2, 0x800, 0xFFFFFFFF, 0x0, 0x0, 0x0⟩,
  ⟨0x40006014, 1, 4, 2, 0x800, 0xFFFFFFFF, 0x0, 0x0, 0x0⟩,
  ⟨0x40006018, 1, 4, 2, 0x800, 0x401FFFFF, 0x0, 0x0, 0x0⟩,
  ⟨0x4000601C, 1, 4, 2, 0x800, 0x0, 0x0, 0x0, 0x0⟩,
  ⟨0x400060C0, 1, 4, 2, 0x800, 0x0, 0x0, 0xF, 0x0⟩,
  ⟨0x400060C4, 1, 4, 2, 0x800, 0xF, 0x0, 0x0, 0x0⟩,
  ⟨0x40006080, 1, 4, 2, 0x800, 0x0, 0x0, 0x0, 0x0⟩,
  ⟨0x40006084, 1, 4, 2, 0x800, 0x0, 0x0, 0x0, 0x0⟩,
  ⟨0x40006088, 1, 4, 2, 0x800, 0x0, 0x0, 0x0, 0x0⟩,
  ⟨0x400060BC, 1, 4, 2, 0x800, 0x0, 0x0, 0x0, 0x0⟩]

/-- The registers of block GPIO and their access masks. -/
def regsGPIO : List RegSpec := [
  ⟨0x40005000, 1, 4, 1, 0x10000, 0x0, 0x0, 0x0, 0x0⟩,
  ⟨0x40005004, 1, 4, 1, 0x10000, 0x0, 0x0, 0x0, 0x0⟩,
  ⟨0x40005008, 1, 4, 1, 0x10000, 0x0, 0x0, 0x0, 0x0⟩,
  ⟨0x4000500C, 1, 4, 1, 0x10000, 0x0, 0x0, 0x0, 0x0⟩,
  ⟨0x40005040, 32, 4, 1, 0x10000, 0x3FF7F, 0x0, 0x0, 0x0⟩,
  ⟨0x400050C0, 1, 4, 1, 0x10000, 0x0, 0x0, 0xFFFFFFFF, 0x0⟩,
  ⟨0x400050C4, 1, 4, 1, 0x10000, 0xFFFFFFFF, 0x0, 0x0, 0x0⟩]

/-- The registers of block EVR and their access masks. -/
def regsEVR : List RegSpec := [
  ⟨0x40070000, 1, 4, 1, 0x10000, 0x3, 0x0, 0x0, 0x0⟩,
  ⟨0x40070004, 1, 4, 1, 0x10000, 0x0, 0x0, 0x0, 0x0⟩,
  ⟨0x40070008, 1, 4, 1, 0x10000, 0x0, 0x0, 0x0, 0x0⟩,
  ⟨0x4007000C, 1, 4, 1, 0x10000, 0x0, 0x0, 0x0, 0x0⟩,
  ⟨0x40070010, 1, 4, 1, 0x10000, 0x0, 0x0, 0x0, 0x0⟩,
  ⟨0x40070014, 1, 4, 1, 0x10000, 0x0, 0x0, 0x0, 0x0⟩,
  ⟨0x40070018, 1, 4, 1, 0x10000, 0x0, 0x0, 0x0, 0x0⟩,
  ⟨0x4007001C, 1, 4, 1, 0x10000, 0xFFFF, 0x0, 0x0, 0x0⟩,
  ⟨0x40070020, 1, 4, 1, 0x10000, 0x0, 0x0, 0x0, 0x0⟩,
  ⟨0x40070024, 1, 4, 1, 0x10000, 0xFF, 0x0, 0x0, 0x0⟩,
  ⟨0x40070040, 1, 4, 1, 0x10000, 0x3F, 0x0, 0x0, 0x0⟩,
  ⟨0x40070044, 1, 4, 1, 0x10000, 0x831FFF03, 0x0, 0x0, 0x0⟩,
  ⟨0x40070048, 1, 4, 1, 0x10000, 0x3FFFFF, 0x0, 0x0, 0x0⟩,
  ⟨0x4007004C, 1, 4, 1, 0x10000, 0x1F, 0x0, 0x0, 0x0⟩,
  ⟨0x40070050, 1, 4, 1, 0x10000, 0xFFFFFFFF, 0x0, 0x0, 0x0⟩,
  ⟨0x40070060, 1, 4, 1, 0x10000, 0xFFFFFFFF, 0x0, 0x0, 0x0⟩,
  ⟨0x40070064, 1, 4, 1, 0x10000, 0xFFFFFFFF, 0x0, 0x0, 0x0⟩,
  ⟨0x40070068, 1, 4, 1, 0x10000, 0x0, 0x0, 0x0, 0x0⟩,
  ⟨0x40070070, 1, 4, 1, 0x10000, 0x0, 0x0, 0x0, 0x0⟩,
  ⟨0x40070074, 1, 4, 1, 0x10000, 0x0, 0x0, 0x0, 0x0⟩,
  ⟨0x40070078, 1, 4, 1, 0x10000, 0xFFFFFFFF, 0x0, 0x0, 0x0⟩,
  ⟨0x4007007C, 1, 4, 1, 0x10000, 0xFFFFFFFF, 0x0, 0x0, 0x0⟩,
  ⟨0x400700D0, 1, 4, 1, 0x10000, 0x0, 0x0, 0x0, 0x0⟩,
  ⟨0x400700E0, 1, 4, 1, 0x10000, 0xFFFFFFFF, 0x0, 0x0, 0x0⟩,
  ⟨0x400700E4, 1, 4, 1, 0x10000, 0x0, 0x0, 0x0, 0x0⟩,
  ⟨0x400700C0, 1, 4, 1, 0x10000, 0x0, 0x0, 0x7F, 0x0⟩,
  ⟨0x400700C4, 1, 4, 1, 0x10000, 0x7F, 0x0, 0x0, 0x0⟩,
  ⟨0x40070080, 1, 4, 1, 0x10000, 0x0, 0x0, 0x0, 0x0⟩,
  ⟨0x40070084, 1, 4, 1, 0x10000, 0x0, 0x0, 0x0, 0x0⟩,
  ⟨0x40070088, 1, 4, 1, 0x10000, 0x0, 0x0, 0x0, 0x0⟩,
  ⟨0x4007008C, 1, 4, 1, 0x10000, 0x0, 0x0, 0x0, 0x0⟩,
  ⟨0x40070090, 1, 4, 1, 0x10000, 0x0, 0x0, 0x0, 0x0⟩,
  ⟨0x40070094, 1, 4, 1, 0x10000, 0x0, 0x0, 0x0, 0x0⟩,
  ⟨0x40070098, 1, 4, 1, 0x10000, 0x0, 0x0, 0x0, 0x0⟩,
  ⟨0x4007009C, 1, 4, 1, 0x10000, 0x0, 0x0, 0x0, 0x0⟩,
  ⟨0x400700A0, 1, 4, 1, 0x10000, 0x0, 0x0, 0x0, 0x0⟩,
  ⟨0x400700BC, 1, 4, 1, 0x10000, 0x0, 0x0, 0x0, 0x0⟩]

/-- The registers of block OTP and their access masks. -/
def regsOTP : List RegSpec := [
  ⟨0x40004000, 1, 4, 1, 0x10000, 0x0, 0x0, 0x0, 0x0⟩,
  ⟨0x40004004, 1, 4, 1, 0x10000, 0x0, 0x0, 0x0, 0x0⟩,
  ⟨0x40004010, 8, 4, 1, 0x10000, 0x0, 0x0, 0x0, 0x0⟩,
  ⟨0x40004030, 1, 4, 1, 0x10000, 0x0, 0x0, 0x0, 0x0⟩,
  ⟨0x40004034, 1, 4, 1, 0x10000, 0x0, 0x0, 0x0, 0x0⟩,
  ⟨0x40004040, 1, 4, 1, 0x10000, 0x3F, 0x0, 0x0, 0x0⟩,
  ⟨0x40004044, 1, 4, 1, 0x10000, 0xFFFFFFFF, 0x0, 0x0, 0x0⟩]

/-- The registers of block SYS and their access masks. -/
def regsSYS : List RegSpec := [
  ⟨0x40000000, 1, 4, 1, 0x10000, 0x0, 0x0, 0x0, 0x0⟩,
  ⟨0x40000004, 1, 4, 1, 0x10000, 0x0, 0x0, 0x0, 0x0⟩,
  ⟨0x40000008, 1, 4, 1, 0x10000, 0x0, 0x0, 0x0, 0x0⟩,
  ⟨0x4000000C, 1, 4, 1, 0x10000, 0x0, 0x0, 0x0, 0x0⟩,
  ⟨0x40000010, 1, 4, 1, 0x10000, 0x0, 0x0, 0x0, 0x0⟩,
  ⟨0x40000014, 1, 4, 1, 0x10000, 0x0, 0x0, 0x0, 0x0⟩,
  ⟨0x40000018, 1, 4, 1, 0x10000, 0x0, 0x0, 0x0, 0x0⟩,
  ⟨0x40000020, 1, 4, 1, 0x10000, 0x0, 0x0, 0x0, 0x0⟩,
  ⟨0x400000C0, 1, 4, 1, 0x10000, 0x0, 0x0, 0x3F, 0x0⟩,
  ⟨0x400000C4, 1, 4, 1, 0x10000, 0x3F, 0x0, 0x0, 0x0⟩,
  ⟨0x40000080, 1, 4, 1, 0x10000, 0x0, 0x0, 0x0, 0x0⟩,
  ⟨0x40000084, 1, 4, 1, 0x10000, 0x0, 0x0, 0x0, 0x0⟩,
  ⟨0x40000088, 1, 4, 1, 0x10000, 0x0, 0x0, 0x0, 0x0⟩,
  ⟨0x4000008C, 1, 4, 1, 0x10000, 0x0, 0x0, 0x0, 0x0⟩,
  ⟨0x40000090, 1, 4, 1, 0x10000, 0x0, 0x0, 0x0, 0x0⟩,
  ⟨0x40000094, 1, 4, 1, 0x10000, 0x0, 0x0, 0x0, 0x0⟩,
  ⟨0x400000BC, 1, 4, 1, 0x10000, 0x0, 0x0, 0x0, 0x0⟩]

/-- The registers of block CLK and their access masks. -/
def regsCLK : List RegSpec := [
  ⟨0x40002000, 1, 4, 1, 0x10000, 0x0, 0x0, 0x0, 0x0⟩,
  ⟨0x40002004, 1, 4, 1, 0x10000, 0x0, 0x0, 0x0, 0x0⟩,
  ⟨0x40002008, 1, 4, 1, 0x10000, 0x0, 0x0, 0x0, 0x0⟩,
  ⟨0x400020C0, 1, 4, 1, 0x10000, 0x0, 0x0, 0xF, 0x0⟩,
  ⟨0x400020C4, 1, 4, 1, 0x10000, 0xF, 0x0, 0x0, 0x0⟩,
  ⟨0x40002080, 1, 4, 1, 0x10000, 0x0, 0x0, 0x0, 0x0⟩,
  ⟨0x40002084, 1, 4, 1, 0x10000, 0x0, 0x0, 0x0, 0x0⟩,
  ⟨0x40002088, 1, 4, 1, 0x10000, 0x0, 0x0, 0x0, 0x0⟩,
  ⟨0x4000208C, 1, 4, 1, 0x10000, 0x0, 0x0, 0x0, 0x0⟩,
  ⟨0x400020BC, 1, 4, 1, 0x10000, 0x0, 0x0, 0x0, 0x0⟩]

/-- The registers of block LINE0 and their access masks. -/
def regsLINE0 : List RegSpec := [
  ⟨0x40010400, 32, 4, 1, 0x10000, 0x0, 0x0, 0x0, 0x0⟩]

/-- Every register of the node. -/
def allRegs : List RegSpec :=
  regsLINE ++ regsSCH ++ regsBAR ++ regsGRD ++ regsINA ++ regsSIG ++ regsMSG ++ regsAUD ++ regsENG ++ regsENG0 ++ regsTMR ++ regsPEX ++ regsPAIR ++ regsPWR ++ regsAON ++ regsTIME ++ regsCAN ++ regsCAN0 ++ regsETH ++ regsTDM ++ regsQSPI ++ regsGPIO ++ regsEVR ++ regsOTP ++ regsSYS ++ regsCLK ++ regsLINE0

/-- One row of reset values: base, count, stride, instances, instance stride, word. -/
structure ResetRow where
  base : Nat
  count : Nat
  stride : Nat
  insts : Nat
  instStride : Nat
  word : Nat
  deriving DecidableEq, Repr

/-- Does the reset row give the word at `a`? -/
def ResetRow.covers (d : ResetRow) (a : Nat) : Bool :=
  d.base ≤ a && (let o := a - d.base
    o / d.instStride < d.insts && (o % d.instStride) % d.stride = 0 && (o % d.instStride) / d.stride < d.count)

/-- The registers whose reset word is not 0 (the Reset columns of the register tables). -/
def resetRows : List ResetRow := [
  ⟨0x40010000, 1, 4, 4, 0x1000, 0x100⟩,
  ⟨0x40010008, 1, 4, 4, 0x1000, 0x1E⟩,
  ⟨0x4001000C, 1, 4, 4, 0x1000, 0x810C⟩,
  ⟨0x40010050, 1, 4, 4, 0x1000, 0x80080600⟩,
  ⟨0x40010054, 1, 4, 4, 0x1000, 0x8⟩,
  ⟨0x40018000, 1, 4, 1, 0x10000, 0x100A60⟩,
  ⟨0x40018020, 1, 4, 1, 0x10000, 0x1FF⟩,
  ⟨0x40020000, 1, 4, 1, 0x10000, 0x2806⟩,
  ⟨0x40020010, 1, 4, 1, 0x10000, 0x80⟩,
  ⟨0x40020050, 1, 4, 1, 0x10000, 0x1⟩,
  ⟨0x4002C000, 1, 4, 1, 0x10000, 0x302⟩,
  ⟨0x40028000, 1, 4, 1, 0x10000, 0x404000⟩,
  ⟨0x4002800C, 1, 4, 1, 0x10000, 0x36403640⟩,
  ⟨0x40028064, 1, 4, 1, 0x10000, 0xF040⟩,
  ⟨0x40028074, 1, 4, 1, 0x10000, 0x1⟩,
  ⟨0x400280C0, 16, 4, 1, 0x10000, 0xF⟩,
  ⟨0x40040000, 1, 4, 1, 0x10000, 0x32320500⟩,
  ⟨0x40040034, 1, 4, 1, 0x10000, 0x3FF⟩,
  ⟨0x40040044, 1, 4, 1, 0x10000, 0x100⟩,
  ⟨0x40040050, 1, 4, 1, 0x10000, 0x140006⟩,
  ⟨0x40040054, 1, 4, 1, 0x10000, 0x6053C00⟩,
  ⟨0x40040064, 1, 4, 1, 0x10000, 0x3FF0000⟩,
  ⟨0x40040100, 16, 8, 1, 0x10000, 0x300000⟩,
  ⟨0x40030010, 1, 4, 8, 0x1000, 0x3E8⟩,
  ⟨0x40030050, 1, 4, 8, 0x1000, 0x30000⟩,
  ⟨0x40030054, 1, 4, 8, 0x1000, 0x3E80000⟩,
  ⟨0x4003C008, 1, 4, 1, 0x10000, 0x7D0⟩,
  ⟨0x40024000, 1, 4, 1, 0x10000, 0x7D00002⟩,
  ⟨0x40001000, 1, 4, 1, 0x10000, 0x1⟩,
  ⟨0x40001004, 1, 4, 1, 0x10000, 0x140064⟩,
  ⟨0x40001008, 1, 4, 1, 0x10000, 0x2030A14⟩,
  ⟨0x4000100C, 1, 4, 1, 0x10000, 0x10000⟩,
  ⟨0x40003000, 1, 4, 1, 0x10000, 0x1000⟩,
  ⟨0x40003010, 1, 4, 1, 0x10000, 0x6401F4⟩,
  ⟨0x40003014, 1, 4, 1, 0x10000, 0xFF0000⟩,
  ⟨0x40003020, 1, 4, 1, 0x10000, 0x40233⟩,
  ⟨0x40003024, 1, 4, 1, 0x10000, 0xF⟩,
  ⟨0x40007000, 1, 4, 1, 0x10000, 0x101⟩,
  ⟨0x40007068, 1, 4, 1, 0x10000, 0x5⟩,
  ⟨0x40007070, 1, 4, 1, 0x10000, 0x6⟩,
  ⟨0x40050000, 1, 4, 8, 0x1000, 0x321F40⟩,
  ⟨0x40050010, 1, 4, 8, 0x1000, 0xF0F3E00⟩,
  ⟨0x40050014, 1, 4, 8, 0x1000, 0x1010600⟩,
  ⟨0x40050018, 1, 4, 8, 0x1000, 0x1⟩,
  ⟨0x40050048, 1, 4, 8, 0x1000, 0x20000000⟩,
  ⟨0x40060000, 1, 4, 1, 0x10000, 0x12C20⟩,
  ⟨0x4006002C, 1, 4, 1, 0x10000, 0xFFFFFFFF⟩,
  ⟨0x40060058, 1, 4, 1, 0x10000, 0x100⟩,
  ⟨0x40060104, 8, 16, 1, 0x10000, 0xF00000⟩,
  ⟨0x40048000, 1, 4, 4, 0x1000, 0xF0E⟩,
  ⟨0x40006000, 1, 4, 2, 0x800, 0xF⟩,
  ⟨0x40005040, 32, 4, 1, 0x10000, 0xA3C⟩,
  ⟨0x4007001C, 1, 4, 1, 0x10000, 0x100⟩,
  ⟨0x40000000, 1, 4, 1, 0x10000, 0x6481100⟩,
  ⟨0x40000020, 1, 4, 1, 0x10000, 0xA0⟩,
  ⟨0x40010400, 32, 4, 1, 0x10000, 0xFFFFFFFF⟩,
  ⟨0x40001040, 1, 4, 1, 0x10000, 0x300F⟩,
  ⟨0x40001044, 1, 4, 1, 0x10000, 0x643028⟩,
  ⟨0x40001048, 1, 4, 1, 0x10000, 0x1F4303C⟩,
  ⟨0x4000104C, 1, 4, 1, 0x10000, 0x32300F⟩,
  ⟨0x40001050, 1, 4, 1, 0x10000, 0x2019⟩,
  ⟨0x40001054, 1, 4, 1, 0x10000, 0x7D0300A⟩,
  ⟨0x40001058, 1, 4, 1, 0x10000, 0x300A⟩,
  ⟨0x4000105C, 1, 4, 1, 0x10000, 0x2014⟩,
  ⟨0x400017FC, 1, 4, 1, 0x10000, 0xF81⟩]

/-- A CNT_CLR register: its address, instances, instance stride, first counter and number of counters. -/
structure ClearRow where
  addr : Nat
  insts : Nat
  instStride : Nat
  first : Nat
  count : Nat
  deriving DecidableEq, Repr

/-- The CNT_CLR registers (R95, R145, R147, R199, R234, R280, R323, R361, R419, R453, R486, R517, R545, R577, R607, R608, R609, R640, R686, R688). -/
def clearRows : List ClearRow := [
  ⟨0x4001009C, 4, 0x1000, 0x40010080, 7⟩,
  ⟨0x400180BC, 1, 0x10000, 0x40018080, 13⟩,
  ⟨0x4001E03C, 1, 0x10000, 0x4001E020, 5⟩,
  ⟨0x400200BC, 1, 0x10000, 0x40020080, 8⟩,
  ⟨0x4002C1BC, 1, 0x10000, 0x4002C180, 9⟩,
  ⟨0x400281BC, 1, 0x10000, 0x40028180, 14⟩,
  ⟨0x4004023C, 1, 0x10000, 0x40040200, 10⟩,
  ⟨0x400300BC, 8, 0x1000, 0x40030080, 6⟩,
  ⟨0x4003C0BC, 1, 0x10000, 0x4003C080, 5⟩,
  ⟨0x400240BC, 1, 0x10000, 0x40024080, 10⟩,
  ⟨0x400010BC, 1, 0x10000, 0x40001080, 8⟩,
  ⟨0x400030BC, 1, 0x10000, 0x40003080, 7⟩,
  ⟨0x400070BC, 1, 0x10000, 0x40007080, 9⟩,
  ⟨0x400500BC, 8, 0x1000, 0x40050080, 10⟩,
  ⟨0x400600BC, 1, 0x10000, 0x40060080, 8⟩,
  ⟨0x400480BC, 4, 0x1000, 0x40048080, 2⟩,
  ⟨0x400060BC, 2, 0x800, 0x40006080, 3⟩,
  ⟨0x400700BC, 1, 0x10000, 0x40070080, 9⟩,
  ⟨0x400000BC, 1, 0x10000, 0x40000080, 6⟩,
  ⟨0x400020BC, 1, 0x10000, 0x40002080, 4⟩]

end Sys2Proof.Machine
end

