-- ==== Sys2Proof/Machine/State.lean ====
section
/-! DEFINITION. The state of the node as plain data: every register word (one sparse store, `regs`), the memories, and for each unit
the state that no register shows. -/

namespace Sys2Proof.Machine

/-- A sparse table: keys strictly rising, no entry equal to what an unlisted key reads as. -/
abbrev Tab (α : Type) := List (Nat × α)

/-- A port on which the node puts out frames. -/
inductive Port where
  | beacon
  | sounding
  | rollcall
  | slot (entry : Nat)
  | contention (att cell : Nat)
  | squall
  | pair
  | host
  | eth (port : Nat)
  | can (chan : Nat)
  | mdio
  deriving DecidableEq, Repr

/-- A frame the node has put out: the model's own record of its outputs (log entry 7). -/
structure Emission where
  port : Port
  bytes : List Byte
  deriving DecidableEq, Repr

/-- Why a record's flush runs (R619). -/
inductive FlushCause where
  | faultFlush
  | full
  | command
  | powerFail
  | lull
  deriving DecidableEq, Repr

/-- A committed record not yet written to QSPI_PER (R618, R619). -/
structure StagedRec where
  seq : Nat
  len : Nat
  faultRec : Bool
  deriving DecidableEq, Repr

/-- A record that waits for the fault flush to make room (R620). -/
structure WaitRec where
  kind : Nat
  code : Nat
  guar : Bool
  recVal : Nat
  snap : List (Nat × Nat)
  payload : List Byte
  deriving DecidableEq, Repr

/-- EVR's state that no register shows (17_event_recorder.md). -/
structure EvrState where
  unflushed : List StagedRec := []
  waiting : List WaitRec := []
  /-- occurrences and drops the next LOSS record reports (R620, R622), and the first sequence affected -/
  lossCount : Nat := 0
  lossFirst : Nat := 0
  /-- TB_LOCAL (ns) + 1 at which a trigger last fired; 0 never -/
  lastFired : Tab Nat := []
  flush : Option FlushCause := none
  /-- commits are held: from WARNING or from LULL (R622) -/
  held : Bool := false
  opNs : Nat := 0
  powerCycles : Nat := 0
  /-- EN has been written to 1 since reset (R624) -/
  started : Bool := false
  /-- N in service (R623) -/
  frozen : Nat := 0
  /-- challenge and its issue time in ns (R632) -/
  challenge : Option (Nat × Nat) := none
  lockedUntil : Nat := 0
  /-- origin UID and highest sequence collected, most recently used first (R630) -/
  collector : List (Nat × Nat) := []
  logCount : Nat := 0
  /-- records MSG holds until their valid mark (R621): sequence, first store block, blocks, accepted -/
  guarded : List (Nat × Nat × Nat × Bool) := []
  deriving DecidableEq, Repr

/-- A pending timed launch (R529): base code, its time on that base, kind (R393) and target. -/
structure Launch where
  base : Nat
  time : Word
  kind : Nat
  index : Nat
  /-- the engine that queued it -/
  eng : Nat
  handed : Bool
  late : Bool
  deriving DecidableEq, Repr

/-- A stored residence of a two-step Sync (R537). -/
structure TwoStep where
  domain : Nat
  source : Nat
  seqId : Nat
  residence : Int
  since : Nat
  deriving DecidableEq, Repr

/-- TIME's state that no register shows (14_time.md). -/
structure TimeState where
  /-- TB_LOCAL, extended (ns since reset or wake) -/
  now : Nat := 0
  train : Word := 0
  ptp : Word := 0
  utc : Word := 0
  /-- fractional accumulators, in 10^-9 ns (R520, R716), and the phase of CLK_ETH in CLK_SYS periods -/
  trainFrac : Nat := 0
  ethPhase : Nat := 0
  ptpFrac : Nat := 0
  utcFrac : Nat := 0
  stepsTrain : Nat := 0
  stepsPtp : Nat := 0
  stepsUtc : Nat := 0
  /-- the one count TB_TRAIN still adds (1) or drops (-1) in this cycle (R716) -/
  slew : Int := 0
  lockRun : Nat := 0
  holdRun : Nat := 0
  beaconSeen : Bool := false
  launches : List Launch := []
  twoStep0 : List TwoStep := []
  twoStep1 : List TwoStep := []
  ptpPending : Option Word := none
  deriving DecidableEq, Repr

/-- Why a kill was asked for (R265). -/
inductive KillCause where
  | expired
  | withdrawn
  deriving DecidableEq, Repr

/-- An outbound message from submission to resolution (R243, R247, R263). -/
structure OutMsg where
  seq : Nat
  len : Nat
  /-- first store block (its record block) and blocks held -/
  block : Nat
  blocks : Nat
  /-- lifetime in ms, 0 none, and once accepted the local ns at which it expires -/
  life : Nat
  expire : Option Nat
  accepted : Bool
  /-- place in the node's order of acceptance -/
  order : Nat
  transmitted : Bool
  /-- offset of the next segment; the message is out when it reaches `len` -/
  sentOff : Nat
  lastSent : Nat
  retx : Bool
  /-- bitmaps by list position (a UID flow is position 0) -/
  held : Nat
  delivered : Nat
  killed : Nat
  cause : Option KillCause
  killing : Bool
  lastProbe : Nat
  unresolved : Bool
  /-- its final report is in the queue ring -/
  reported : Bool
  deriving DecidableEq, Repr

/-- An inbound message from its first segment until acknowledged (R247, R257). -/
structure InMsg where
  seq : Nat
  len : Nat
  block : Nat
  blocks : Nat
  /-- offsets and lengths received -/
  got : List (Nat × Nat)
  accepting : Bool
  held : Bool
  handed : Bool
  redelivered : Bool
  lastCycle : Nat
  deriving DecidableEq, Repr

/-- An inbound flow's record (R246, R255): RS stands in MSG_IFW3. -/
structure InFlow where
  recorded : Bool := false
  msgs : List InMsg := []
  /-- killed sequences above RS -/
  killed : List Nat := []
  /-- bit i: sequence RS - i was killed -/
  killedPast : Nat := 0
  deriving DecidableEq, Repr

/-- A descriptor in a delivery queue (R259). -/
structure Desc where
  report : Bool
  flag : Bool
  flow : Nat
  code : Nat
  seq : Nat
  addr : Nat
  len : Nat
  srcFlow : Nat
  deliveredBits : Nat
  killedBits : Nat
  read : Bool
  deriving DecidableEq, Repr

/-- What waits to be accepted, in submission order across the node (R243). -/
inductive AccItem where
  | outbound (flow seq : Nat)
  | inbound (flow seq : Nat)
  | canEntry (entry : Nat)
  | record (seq : Nat)
  | hostAck (queue : Nat)
  deriving DecidableEq, Repr

/-- An acknowledgement that goes in the node's next slot (R255). -/
structure AckDue where
  srcUid : Nat
  srcFlow : Nat
  status : Nat
  inflow : Option Nat
  deriving DecidableEq, Repr

/-- State of a guaranteed CAN record (R269, R270). -/
inductive CanRecState where
  | submitted
  | accepted
  | launched
  | complete
  deriving DecidableEq, Repr

/-- A guaranteed CAN record: channel, entry, submission sequence, state and the frame's words (R269). -/
structure CanRec where
  slot : Nat
  chan : Nat
  entry : Nat
  sub : Nat
  state : CanRecState
  words : List Word
  deriving DecidableEq, Repr

/-- A piece of JRNL that a change touches (R249). -/
inductive JPiece where
  | outFlow (f : Nat)
  | inFlow (f : Nat)
  | queue (q : Nat)
  | members
  | canRec (slot : Nat)
  | evrRec (seq block len : Nat)
  | bytes (off len : Nat)
  deriving DecidableEq, Repr

/-- What the valid records of the persistent ring cover (R248, R250); it lies in QSPI_PER and outlives every reset. -/
structure JImage where
  recSeq : Nat := 0
  out : Tab (List OutMsg) := []
  outRegs : Tab (List Word) := []
  inb : Tab InFlow := []
  inRegs : Tab (List Word) := []
  queues : Tab (List Desc) := []
  members : Tab Word := []
  canRecs : List CanRec := []
  flowSrc : Tab Nat := []
  /-- recorder records accepted and not known flushed: sequence and bytes (R621, R627) -/
  records : List (Nat × List Byte) := []
  bytes : Tab Byte := []
  deriving DecidableEq, Repr

/-- The default of `JImage` tables. -/
def InFlow.empty : InFlow := {}

/-- MSG's state that no register shows (06_messages.md). -/
structure MsgState where
  out : Tab (List OutMsg) := []
  inb : Tab InFlow := []
  /-- per queue: descriptors, oldest first, and the ring place of the oldest -/
  queues : Tab (List Desc) := []
  qHead : Tab Nat := []
  accq : List AccItem := []
  /-- acceptances held under R245 -/
  heldAcc : Bool := false
  order : Nat := 0
  acks : List AckDue := []
  /-- store blocks in use: first block and count -/
  used : List (Nat × Nat) := []
  changes : List (JPiece × Nat) := []
  ringHead : Nat := 0
  recSeq : Nat := 0
  canRecs : List CanRec := []
  /-- QACKs of the cycle: engine, queue (R260) -/
  qacks : List (Nat × Nat) := []
  /-- source UID of each outbound flow, from its first opening (R236); 0 before -/
  flowSrc : Tab Nat := []
  /-- kill and state probes to send: flow, sequence, kill (R256, R263) -/
  probes : List (Nat × Nat × Bool) := []
  /-- reports that found their queue full (R261) -/
  waitReports : List (Nat × Desc) := []
  deriving DecidableEq, Repr

/-- A node record of the directory (R165). -/
structure DirRec where
  num : Nat
  car : Nat
  chain : Nat
  sideB : Bool
  role : Nat
  reversed : Bool
  endNode : Bool
  lead : Bool
  reserved : Bool
  delay : Nat
  prio : Nat
  cls : Nat
  uid : Nat
  deriving DecidableEq, Repr

/-- PWR's state that no register shows (12_power.md): queued handles in order, the time each handle was granted or queued, and the dip
under way. -/
structure PwrState where
  queue : List Nat := []
  since : Tab Nat := []
  /-- local ns of the first falling crossing of the dip, and of the flush's start -/
  dipStart : Option Nat := none
  riseAt : Nat := 0
  flushStart : Nat := 0
  warnSeq : Nat := 0
  deriving DecidableEq, Repr

/-- What LINE holds of one peer on one line beside the CHAN bytes (R60: the 32-byte metadata and the noise estimate, whose inner layout
the spec does not give). Noise in units of 2^-32. -/
structure PeerLine where
  held : Bool := false
  eqSet : Bool := false
  epoch : Nat := 0
  /-- pending table: epoch, switch cycle, pool entry -/
  pend : Option (Nat × Nat × Nat) := none
  lastValid : Nat := 0
  soundings : Nat := 0
  noise : List Nat := []
  meanSnr : Nat := 0
  minSnr : Nat := 0
  bitSum : Nat := 0
  /-- the peer's table on this line is the null table -/
  isNull : Bool := false
  /-- this node's last proposal to the peer: bit sum and round; and the round of its last urgent one, plus 1 -/
  propSum : Nat := 0
  propRound : Nat := 0
  urgentRound : Nat := 0
  /-- the peer's latest proposal to this node is stored, and was URGENT -/
  stored : Bool := false
  storedUrgent : Bool := false
  /-- pilot SNR of this round: sum and count -/
  snrSum : Nat := 0
  snrCount : Nat := 0
  deriving DecidableEq, Repr

/-- A switch announced by this node (R66, R68). -/
structure LineSwitch where
  epoch : Nat
  ns : Nat
  lead : Nat
  count : Nat
  busy : Bool
  /-- node numbers whose acknowledgement is awaited -/
  wait : List Nat
  /-- the check of R68 let the switch stand -/
  sure : Bool
  deriving DecidableEq, Repr

/-- What LINE holds of its own transmissions on one line (R60, R65 to R68). -/
structure OwnLine where
  epoch : Nat := 0
  isNull : Bool := false
  switch : Option LineSwitch := none
  /-- owners of the 8 pending receive tables: entry and peer node -/
  pool : List (Nat × Nat) := []
  deriving DecidableEq, Repr

/-- LINE's state that no register shows (02_barel_line.md). -/
structure LineState where
  /-- keyed by 256 * line + handle -/
  peers : Tab PeerLine := []
  ownA : OwnLine := {}
  ownB : OwnLine := {}
  /-- UIDs and their handles (R61) -/
  handles : List (Nat × Nat) := []
  /-- loading units that go in the next slot -/
  units : List (List Byte) := []
  /-- by handle: 1 when line B is primary (R59) -/
  primary : Tab Nat := []
  /-- consecutive cycles with a valid beacon, by line (R77) -/
  beaconRunA : Nat := 0
  beaconRunB : Nat := 0
  /-- attachments with a deferred calibration request, and those whose calibration was aborted and restores -/
  calDeferred : List Nat := []
  calAborted : List Nat := []
  /-- what attachments met in the cycle in progress: attachment and kind, 0 beacon, 1 foreign beacon, 2 stranger, 3 erased symbol (R86) -/
  met : List (Nat × Nat) := []
  deriving DecidableEq, Repr

/-- The guardian's staging set (R135): window words as in GRD_WINm, ranging advance, own number, N, lead, the length in ns to which the
cycle before the commit is stretched (R183; 0: not stretched), and entries without a window. -/
structure GrdStage where
  own : List Nat
  tko : List Nat
  advance : Nat
  node : Nat
  count : Nat
  lead : Bool
  stretch : Nat
  unguarded : Nat
  deriving DecidableEq, Repr

/-- The guardian's state that no register shows (R129 to R138). -/
structure GrdState where
  stage : Option GrdStage := none
  /-- guardian cycle at which the staging set was armed -/
  armedAt : Nat := 0
  commitAt : Option Nat := none
  everAligned : Bool := false
  /-- consecutive cycles with an accepted event from another node's beacon, and without one -/
  otherRun : Nat := 0
  otherQuiet : Nat := 0
  /-- length of the cycle in progress when stretched, ns -/
  stretch : Nat := 0
  deriving DecidableEq, Repr

/-- A subscription range in service (R212): its number, words, and first absolute identifier, none while it maps nothing. -/
structure SubSvc where
  range : Nat
  index : Nat
  count : Nat
  mode : Nat
  off : Nat
  first : Option Nat
  /-- MODE 2: UIDs of the physical car it follows (R221) -/
  uids : List Nat
  orphan : Bool
  deriving DecidableEq, Repr

/-- A publication of the directory (R173, R174, R222), by publisher UID. -/
structure PubRec where
  base : Nat
  count : Nat
  cls : Nat
  uid : Nat
  suppressed : Bool
  /-- carried across a commit and not yet confirmed by a DIR_PUB (R222) -/
  carried : Bool
  deriving DecidableEq, Repr

/-- A value accepted in the cycle's generation (R216). -/
structure SigVal where
  index : Nat
  value : Nat
  node : Nat
  cls : Nat
  forced : Bool
  deriving DecidableEq, Repr

/-- A force in effect on a PIMG entry (R345): force entry, PIMG index, and whether the entry took a value since. -/
structure ForceRun where
  entry : Nat
  index : Nat
  took : Bool
  deriving DecidableEq, Repr

/-- Values of one data set read by a slot-assembly pass (R209): first identifier, class, values with their FORCED bits. -/
structure PassRun where
  dset : Nat
  ident : Nat
  offset : Nat
  cls : Nat
  vals : List (Nat × Bool)
  deriving DecidableEq, Repr

/-- SIG's state that no register shows (05_signals.md). -/
structure SigState where
  svc : List SubSvc := []
  /-- MODE 2 ranges of the table: UIDs of the car they follow -/
  subUids : Tab (List Nat) := []
  gen : List SigVal := []
  /-- by PIMG index: cycle of the last accepted value, plus 1 -/
  took : Tab Nat := []
  pubs : List PubRec := []
  forces : List ForceRun := []
  /-- the pass captured for an entry and cycle -/
  pass : Option (Nat × Nat × List PassRun) := none
  /-- cycle of `sent`, and per data set how many of its identifiers went in this cycle's slots -/
  sentCycle : Nat := 0
  sent : List (Nat × Nat) := []
  /-- flips while the node follows no cycle (R216) -/
  localCyc : Nat := 0
  deriving DecidableEq, Repr

/-- A contention attempt sequence (R123) of one kind of frame. -/
structure Contender where
  type : Nat
  body : List Byte
  attempt : Nat
  /-- cycle of the attempt under way, and the last cycle in which its answer may come -/
  sentIn : Option Nat
  span : Nat
  /-- how many cycles the span has been extended -/
  extended : Nat
  /-- earliest cycle of the next attempt -/
  next : Nat
  deriving DecidableEq, Repr

/-- A command the lead is sending (R102): its 14 bytes, how many beacons carried it, the first cycle it may go out, and the last cycle of
one that every beacon carries (R494). -/
structure LeadCmd where
  bytes : List Byte
  sent : Nat
  want : Nat
  through : Option Nat
  deriving DecidableEq, Repr

/-- A spare claim the lead holds (R118, R119): entry, claimant UID, cycle and cell of the claim. -/
structure SpareHold where
  entry : Nat
  uid : Nat
  cycle : Nat
  cell : Nat
  deriving DecidableEq, Repr

/-- BAR's state that no register shows (03_barel_cycle.md). -/
structure BarState where
  /-- the governing beacon of this cycle: granted entries, contention control, spare grant, generation -/
  grants : List Nat := []
  contOpen : Nat := 0
  spareGrant : Option Nat := none
  govGen : Nat := 0
  /-- lead UID and nonce of the composition in service -/
  leadUid : Nat := 0
  leadNum : Nat := 0
  coastRun : Nat := 0
  /-- cycle of the last beacon taken, so that its copy on the other line changes nothing -/
  lastBeacon : Option Nat := none
  /-- commands acted on -/
  acted : List (List Byte) := []
  /-- the lead's commands to send, oldest first -/
  cmds : List LeadCmd := []
  contenders : List Contender := []
  spares : List SpareHold := []
  /-- by node number: consecutive roll-call misses -/
  rcMiss : Tab Nat := []
  /-- nodes whose latest roll-call carried an active heartbeat value (R441) -/
  hbActive : List Nat := []
  /-- this node's last roll-call carried an active heartbeat value -/
  rcSentActive : Bool := false
  /-- by attachment: cycle of the last STRANGER event, plus 1 (R128) -/
  strangerAt : Tab Nat := []
  /-- composition key in service (16 bytes; empty: none) -/
  key : List Byte := []
  /-- by attachment: foreign composition ID, lead UID and cycle last heard (R86, R128, R178) -/
  foreign : Tab (Nat × Nat × Nat) := []
  /-- composition IDs heard and the cycle (R153) -/
  heardIds : List (Nat × Nat) := []
  /-- positions that asked to transmit and were blocked in this cycle (R136) -/
  blockedPos : List Nat := []
  /-- COAST_LIMIT has passed since the last governing beacon (R110) -/
  coastStop : Bool := false
  /-- the cycle whose roll-call was last received, and what it gave: node, d, margin (R127) -/
  rcCycle : Option Nat := none
  rcSeen : List (Nat × Nat × Nat) := []
  /-- the lead's LULL flag (R488) -/
  lullFlag : Bool := false
  /-- first quiet cycle of a Squall, Q (R507) -/
  quiet : Option Nat := none
  /-- units taken in this cycle, by SCH entry and offset (R59), and own slots sent in it -/
  taken : List (Nat × Nat) := []
  sentSlots : List Nat := []
  /-- since it last became active the node has sent an active heartbeat value in a roll-call (R441) -/
  beatSent : Bool := false
  deriving DecidableEq, Repr

/-- An audio block held (R287): presentation time of its first sample, sequence, START, END, sample bytes. -/
structure AudBlock where
  pres : Word
  seq : Nat
  fmt : Nat
  start : Bool
  end_ : Bool
  samples : List Byte
  deriving DecidableEq, Repr

/-- A stream of the directory (R176, R283), by sender UID. -/
structure StreamRec where
  id : Nat
  fmt : Nat
  uid : Nat
  dropped : Bool
  deriving DecidableEq, Repr

/-- A receive entry's playout (R295, R296): blocks held, whole ms missing since the last sample, and whether the gap is one to fade from. -/
structure AudRx where
  blocks : List AudBlock := []
  gap : Nat := 0
  last : List Byte := []
  deriving DecidableEq, Repr

/-- A transmit entry (R285, R288): blocks closed and not yet sent, whether the next one carries START, whether it stops with an END. -/
structure AudTx where
  blocks : List AudBlock := []
  resume : Bool := true
  ending : Bool := false
  deriving DecidableEq, Repr

/-- AUD's state that no register shows (07_audio.md). -/
structure AudState where
  rx : Tab AudRx := []
  tx : Tab AudTx := []
  /-- crosspoint changes of this mix period, in arrival order: crosspoint, bits changed, their values (R300) -/
  queue : List (Nat × Word × Word) := []
  streams : List StreamRec := []
  /-- ms for which a crosspoint's input counts as active, by input (R301) -/
  hang : Tab Nat := []
  /-- P of each output, plus 1 (R301) -/
  duckP : Tab Nat := []
  /-- zone coefficients in service, by 64 * zone + 8 * biquad + coefficient; zones to swap at the next mix (R302) -/
  coefs : Tab Word := []
  commits : List Nat := []
  stops : List Nat := []
  /-- start time of each running generator, by generator -/
  genStart : Tab Nat := []
  clip : Option (Nat × Nat × Nat) := none
  alignedRun : Nat := 0
  /-- local ns at which each canceller's burst started, plus 1 -/
  burst : Tab Nat := []
  deriving DecidableEq, Repr

/-- A schedule entry: its four words (R105). -/
structure SchEnt where
  w0 : Nat
  w1 : Nat
  w2 : Nat
  w3 : Nat
  deriving DecidableEq, Repr

/-- A commit prepared or announced (R162, R170, R181). -/
structure CommitPlan where
  m : Nat
  /-- the number that M takes -/
  takes : Nat
  newId : Nat
  nonce : Nat
  gen : Nat
  /-- 0 cold, 1 admission, 2 merge, 3 renumber -/
  kind : Nat
  total : Nat
  cars : Nat
  crc : Nat
  /-- COMMIT and COMMIT_KEY have both come -/
  keyed : Bool
  /-- this node holds every record and its SCH agrees; the guardian is armed -/
  ready : Bool
  dir : List DirRec
  sch : List SchEnt
  drops : List (Nat × Nat × Nat)
  deriving DecidableEq, Repr

/-- What a junction node knows of the other part (R164 JBEACON, R180). -/
structure Junction where
  id : Nat
  nonce : Nat
  prio : Nat
  total : Nat
  cars : Nat
  hash : Nat
  busy : Bool
  refEnd : Bool
  delay : Nat
  attach : Nat
  records : List DirRec
  /-- measured junction offsets, ns: this node's and the other's -/
  mine : Option Int
  other : Int
  /-- own part's junction node, and the two parts' cycle numbers when the other was last heard -/
  own : Nat
  theirs : Nat
  ours : Nat
  deriving DecidableEq, Repr

/-- A merge under way (R181 to R184). -/
structure MergeRun where
  wins : Bool
  newId : Nat
  nonce : Nat
  m : Nat
  zA : Nat
  gen : Nat
  sentAt : Nat
  acked : Bool
  stretchCycle : Nat
  stretchLen : Nat
  zB : Nat
  juncNode1 : Nat
  juncNode2 : Nat
  closedA : Bool
  closedB : Bool
  deriving DecidableEq, Repr

/-- INA's state that no register shows (04_inauguration.md). -/
structure InaState where
  /-- control unit bodies that go in the next slots, oldest first -/
  units : List (List Byte) := []
  /-- the lead a walk follows: UID and priority (R161) -/
  walkUid : Nat := 0
  walkPrio : Nat := 0
  /-- attachment of the outward side, and where the call was heard -/
  outward : Option Nat := none
  heardAt : Nat := 0
  /-- the walking lead's records so far, partner UIDs named, number being called, attempts made, cars used -/
  recs : List DirRec := []
  partners : List (Nat × Nat) := []
  calling : Nat := 0
  attempt : Nat := 0
  cars : Nat := 0
  walkEnded : Bool := false
  callDue : Bool := false
  /-- DIRREC records sent -/
  dirSent : Nat := 0
  /-- numbers for which an ANSWER has been decoded -/
  answers : List Nat := []
  /-- own number taken in the walk; an ANSWER is due -/
  taken : Nat := 0
  answerDue : Bool := false
  heardCand : Bool := false
  /-- records of the directory being distributed -/
  dirNew : List DirRec := []
  schNew : List (Nat × SchEnt) := []
  plan : Option CommitPlan := none
  /-- the last DIR_SUM: generation, composition ID, SCH CRC, node-list CRC -/
  dirSum : Option (Nat × Nat × Nat × Nat) := none
  /-- an uncoupling trigger has occurred since the last commit -/
  splitTrig : Bool := false
  genMisRun : Nat := 0
  missRun : Nat := 0
  junction : Option Junction := none
  /-- the last JBEACON heard, as received -/
  juncFrame : List Byte := []
  merge : Option MergeRun := none
  /-- junction frames to send outward: type, 22 type-specific bytes -/
  outFrames : List (Nat × List Byte) := []
  /-- an effective COLD command: its cycle -/
  coldAt : Option Nat := none
  /-- a commit has been made since reset -/
  everCommitted : Bool := false
  /-- cycles of the free-running walk -/
  walkCycle : Nat := 0
  deriving DecidableEq, Repr

/-- A partner's NEG (R422). -/
structure NegInfo where
  uid : Nat
  hash : List Byte
  prefers : Bool
  claims : Bool
  sideB : Bool
  synced : Bool
  deriving DecidableEq, Repr

/-- A handover under way (R446): since when (ns), whether it rehearses (R447), whether it swaps back, whether it was asked for after a
fault or a latch. -/
structure HandRun where
  since : Nat
  rehearse : Bool
  back : Bool
  suspect : Bool
  deriving DecidableEq, Repr

/-- PAIR's state that no register shows (11_pair_redundancy.md). -/
structure PairState where
  /-- heartbeats emitted: sequence and TB_LOCAL (ns) at sending, newest last -/
  sent : List (Nat × Nat) := []
  echoMark : Option Nat := none
  /-- a heartbeat was emitted (active) or first heard (standby) since the previous roll-call -/
  fresh : Bool := false
  /-- when the newest fresh heartbeat was heard; when the last valid frame was decoded; when the partner was last in roll-call -/
  heardAt : Option Nat := none
  lastValid : Option Nat := none
  rcAt : Option Nat := none
  negSince : Nat := 0
  peer : Option NegInfo := none
  /-- reliable frames: the next sequence, frames not acknowledged (sequence, time sent, bytes), frames waiting (priority, type, payload),
  the highest sequence received in order -/
  nextSeq : Nat := 1
  unacked : List (Nat × Nat × List Byte) := []
  waiting : List (Nat × Nat × List Byte) := []
  rxSeq : Nat := 0
  /-- deltas: newest number sent, newest applied, parts held (delta, part, parts, bytes), when synchronization began -/
  deltaNo : Nat := 0
  applied : Nat := 0
  parts : List (Nat × Nat × Nat × List Byte) := []
  syncSince : Option Nat := none
  longTold : Bool := false
  snapQueued : Bool := false
  handover : Option HandRun := none
  probation : Option Nat := none
  rehearsing : Bool := false
  /-- loss declaration and fence timer stand still from K (R496) -/
  stilled : Bool := false
  /-- the last heartbeat tick was unqualified -/
  unqualified : Bool := false
  /-- delta bytes not yet counted as a KB in MIRBYTES -/
  mirRem : Nat := 0
  /-- the receiver has lock (R420) -/
  locked : Bool := false
  /-- the engine STATUS words of the active partner, as mirrored (R435 kind 6, R440) -/
  engStat : Tab Word := []
  deriving DecidableEq, Repr

/-- The lead's ring (R488 to R494): ring ID, starting cycle, number addressed, cycle of its token, votes so far (number, vote). -/
structure RingRun where
  id : Nat
  start : Nat
  at_ : Nat
  tokenAt : Option Nat
  votes : List (Nat × Nat)
  deriving DecidableEq, Repr

/-- AON's state that no register shows (13_lull_and_wake.md). -/
structure LullState where
  ring : Option RingRun := none
  /-- a member: the ring of its last reply, its vote, whether a token waits for an answer -/
  voted : Option (Nat × Nat) := none
  /-- nodes that voted to stay awake in the ring, as this node knows (own and partner) -/
  awakeVotes : List Nat := []
  partialKind : Bool := false
  /-- ENTER written and held until E -/
  enterHeld : Bool := false
  /-- local ns of K and of entry start -/
  kTime : Option Nat := none
  entrySince : Option Nat := none
  /-- wake latched since K: cycle and source code; whether WAKE_REQ is due every cycle -/
  latch : Option (Nat × Nat) := none
  wakeReqDue : Bool := false
  /-- the lead holds a latch for an abort -/
  leadLatch : Bool := false
  /-- MAIN_EN is low: the LULL state -/
  asleep : Bool := false
  /-- local ns at which MAIN_EN fell -/
  fellAt : Nat := 0
  /-- numbers left asleep by an earlier partial Lull -/
  leftAsleep : List Nat := []
  /-- a Squall asked for by the lead: its first quiet cycle; and a case 1 emission under way -/
  squallAt : Option Nat := none
  /-- CLK_AON fraction of the RTC, in ns since the last second -/
  rtcNs : Nat := 0
  /-- order of the holdout entries, oldest first -/
  holdOrder : List Nat := []
  /-- wake inputs that have been reported active since the main rails rose (R491 reason 6) -/
  wakeHeard : List Nat := []
  deriving DecidableEq, Repr

/-- An engine as no register shows it (08_cycle_engines.md). -/
structure EngRun where
  /-- g1 to g31 (R367); g0 is never listed -/
  g : Tab Word := []
  /-- byte offset in the active bank (R368) -/
  pc : Word := 0
  /-- output shadow of the cycle: PIMG index and value, in order of first PPUT (R219) -/
  shadow : List (Nat × Word) := []
  /-- GPIO shadow: bits written in the cycle, and their levels (R330) -/
  gpioMask : Word := 0
  gpioVal : Word := 0
  /-- TB_LOCAL (ns) of the last cycle start; none before the first -/
  start : Option Nat := none
  /-- SIG_GEN and BAR_CYCLE at the view copy (R395) -/
  viewGen : Word := 0
  viewCyc : Word := 0
  /-- a CYC has completed since the last heartbeat (R331) -/
  beat : Bool := false
  /-- an ENGn_CMD.START held while PEX is ARMED, with its CLEAN (R404) -/
  heldStart : Option Bool := none
  /-- DMEM blocks stored, timer and edge cells executed in the cycle (R435) -/
  dirty : List Nat := []
  timers : List Nat := []
  edges : List Nat := []
  /-- engine state of the last delta of kind 6: STATUS and ENTRY (R435) -/
  told : Option (Word × Word) := none
  deriving DecidableEq, Repr

/-- The default of the engine table. -/
def EngRun.empty : EngRun := {}

/-- GPIO as no register shows it (R600, R601): input levels that have counted, committed or mirrored output levels. -/
structure GpioState where
  level : Word := 0
  out : Word := 0
  deriving DecidableEq, Repr

/-- Where a channel's sync sequence stands (R333, R334). -/
inductive SyncPhase where
  | output
  | queued
  | sending
  | window
  deriving DecidableEq, Repr

/-- A sync sequence (R333): engine, release time (ns), released entries not yet completed, sync filters that took a frame in the window. -/
structure SyncRun where
  eng : Nat
  since : Nat
  phase : SyncPhase
  left : List Nat
  took : List Nat
  /-- 2 × OUTTMO passed while the SYNC frame was being sent (R334) -/
  expired : Bool
  deriving DecidableEq, Repr

/-- What a CAN channel transmits (R554). -/
inductive CanTx where
  | entry (i : Nat)
  | sync
  deriving DecidableEq, Repr

/-- A CAN channel as no register shows it (15_car_bus.md). -/
structure CanChan where
  /-- entries READY, oldest first (R554) -/
  order : List Nat := []
  seq : Option SyncRun := none
  /-- a release that waits for the running sequence to end, with the entries it offers (R335) -/
  nextRel : Option (Nat × Nat × List Nat) := none
  /-- releases so far (R557) -/
  rels : Nat := 0
  /-- by filter: consecutive windows without a frame (R336) -/
  misses : Tab Nat := []
  /-- by filter: ring place after the last one filled (R559) -/
  ring : Tab Nat := []
  tx : Option CanTx := none
  /-- the frame taken for the transmission under way: identifier word, format word, data (R551) -/
  frame : Option (Word × Word × List Byte) := none
  /-- LAUNCH entries TIME has handed, and those it has fired (R556) -/
  handed : List Nat := []
  fired : List Nat := []
  /-- run of bit errors after the arbitration field, of the last identifier of the channel's own transmissions (R563) -/
  clashRun : Tab Nat := []
  /-- the last guaranteed submission sequence (R566) -/
  subSeq : Nat := 0
  /-- records witnessed, by submission sequence (R568) -/
  witnessed : List Nat := []
  deriving DecidableEq, Repr

/-- The default of the channel table. -/
def CanChan.empty : CanChan := {}

/-- The CAN pool as no register shows it (R550): by entry, its channel and owner. -/
structure CanState where
  chans : Tab CanChan := []
  pool : Tab (Option (Nat × Nat)) := []
  deriving DecidableEq, Repr

/-- A record of the carry map (R402). -/
structure CarryRec where
  kind : Nat
  eng : Nat
  sym : Nat
  a : Nat
  b : Nat
  lenA : Nat
  lenB : Nat
  deriving DecidableEq, Repr

/-- PEX as no register shows it (10_program_exchange.md). -/
structure PexState where
  /-- the records of the verified map and its source hash, carried and initialized bytes -/
  map : List CarryRec := []
  mapFrom : Nat := 0
  carried : Nat := 0
  initialized : Nat := 0
  /-- first and last arrival (ns) -/
  firstAt : Option Nat := none
  lastAt : Option Nat := none
  /-- READ is complete: nothing aborts the swap (R410) -/
  readDone : Bool := false
  /-- delta number of the swap marker that waits for the standby's acknowledgement (R411) -/
  marker : Option Nat := none
  /-- the patch that waits for its engines: engines and words (R412) -/
  patch : Option (List Nat × List (Nat × Word)) := none
  /-- the QSPI_BOOT slot that the inactive bank's image came from: 1 A, 2 B, 0 none -/
  slot : Nat := 0
  deriving DecidableEq, Repr

/-- A frame in an egress queue (R581): its bytes with FCS, its queue, the transmit descriptor or launch slot it came from, and for a frame
that crosses the transparent clock its ingress timestamp on TB_PTP (R536). -/
structure EthFrame where
  bytes : List Byte
  high : Bool
  desc : Option Nat
  slot : Option Nat
  tin : Option Word
  deriving DecidableEq, Repr

/-- ETH as no register shows it (16_local_interfaces.md). -/
structure EthState where
  /-- learned addresses: MAC, external port, time of the last frame (ns) (R580) -/
  macs : List (Nat × Nat × Nat) := []
  /-- ARP cache: address, MAC (none: not resolved yet), most recently asked first (R582) -/
  arp : List (Nat × Option Nat) := []
  /-- per external port: the frame being sent, then those that wait, the high queue first -/
  q0 : List EthFrame := []
  q1 : List EthFrame := []
  /-- launch slots handed and not yet fired: slot, the frame read at the handing, its ports (R585) -/
  handed : List (Nat × List Byte × Nat) := []
  deriving DecidableEq, Repr

/-- A TDM port as no register shows it (R587, R589): the kind 3 launch it was handed, and how much of the frame in progress has passed, in
10^-15 frames. -/
structure TdmState where
  handed : Bool := false
  frac : Nat := 0
  deriving DecidableEq, Repr

/-- The default of the TDM table. -/
def TdmState.empty : TdmState := {}

/-- An erase on a QSPI device (R593, R594): controller, first address, 4 KB units, and the gust it runs on. -/
structure EraseRun where
  first : Nat
  count : Nat
  gust : Nat
  deriving DecidableEq, Repr

/-- A copy in progress (R595): initiator, direction (true programs), SRAM address, device offset, bytes. -/
structure CopyRun where
  program : Bool
  sram : Nat
  dev : Nat
  len : Nat
  deriving DecidableEq, Repr

/-- The QSPI controllers as no register shows them: operations under way, sizes of the identified devices in bytes, and bytes written that
do not yet make a KB (R609). Intent records lie in the QSPI_PER header (R593) and outlive every reset. -/
structure QspiState where
  eraseB : Option EraseRun := none
  eraseP : Option EraseRun := none
  copyB : Option CopyRun := none
  copyP : Option CopyRun := none
  sizeB : Nat := 0
  sizeP : Nat := 0
  restB : Nat := 0
  restP : Nat := 0
  deriving DecidableEq, Repr

/-- Reset sources and the boot ROM's state (18_startup_identity.md). -/
structure BootState where
  /-- the node is held in reset -/
  held : Bool := false
  /-- sources that hold or held reset since the last release, as SYS_RSTCAUSE numbers them -/
  sources : List Nat := []
  /-- hashes of the two program banks' images (SHA-256), once read -/
  hash0 : List Byte := []
  hash1 : List Byte := []
  /-- setup program's entry and the entries of the verified image -/
  setup : Nat := 0
  /-- the QSPI_BOOT slot that holds the running image: 1 A, 2 B, 0 none (R594) -/
  slot : Nat := 0
  /-- the last image verified by the boot ROM is in the bank -/
  loaded : Bool := false
  /-- a reset crossing came before the power-fail flush was complete; what the ring and the recorder area show at start-up (R473) -/
  shortHold : Bool := false
  /-- PLL_SYS has lost lock: what CLK_SYS clocks stands still (R447, the example after R448) -/
  sysLost : Bool := false
  deriving DecidableEq, Repr

-- UNITS

/-- The node (R15): its registers, memories and units. -/
structure Node where
  /-- every register word, at its address; an entry behind a select register at `winAddr` -/
  regs : Tab Word := []
  /-- the 8 MB SRAM (R23); an unlisted byte reads 0 (log entry 3) -/
  mem : Tab Byte := []
  /-- addresses of the 64-bit SRAM words that hold an uncorrectable error (R24) -/
  uce : List Nat := []
  /-- contents of the two QSPI devices (R590); an unlisted byte reads 0xFF (log entry 5) -/
  qboot : Tab Byte := []
  qper : Tab Byte := []
  /-- programmed OTP words (R656) -/
  otp : Tab (Option Word) := []
  time : TimeState := {}
  evr : EvrState := {}
  line : LineState := {}
  grd : GrdState := {}
  bar : BarState := {}
  sig : SigState := {}
  aud : AudState := {}
  ina : InaState := {}
  pair : PairState := {}
  lull : LullState := {}
  eng : Tab EngRun := []
  /-- a running timer cell's start (extended TB_LOCAL, µs) plus 1; 0: not running (R388) -/
  cellStart : Tab Nat := []
  gpio : GpioState := {}
  can : CanState := {}
  pex : PexState := {}
  eth : EthState := {}
  tdm : Tab TdmState := []
  qspi : QspiState := {}
  boot : BootState := {}
  /-- the level of the OWN ball (R432, R602) -/
  ownPin : Bool := false
  msg : MsgState := {}
  pwr : PwrState := {}
  /-- the directory's node list in service (R165) -/
  dir : List DirRec := []
  /-- what the persistent journal ring covers, in QSPI_PER (R248) -/
  journal : JImage := {}
  /-- the next draw of each free value (log entry 8): the model's own field -/
  freeCtr : Nat := 0
  /-- the model's own record of what the node has put out (log entry 7) -/
  out : List Emission := []
  deriving DecidableEq, Repr

/-- The state: the node, and the commands that wait, first in, first out. -/
structure State where
  node : Node := {}
  pending : List Instr := []
  deriving DecidableEq, Repr

/-- Stops of the machine. Every fault of the spec (an engine fault, a bus error, a refused transaction) is a state of the node the
spec describes, so it is a next state; no command stops the model. -/
inductive Fault where
  deriving DecidableEq, Repr

/-- Commands without a meaning. -/
inductive Refusal where
  /-- Raised by `exec` for a row that has no meaning yet. Safe: nothing is claimed of it. -/
  | notModelled (mnemonic : String)
  deriving DecidableEq, Repr

/-- The machine right after reset: registers at their reset words (`resetWord`), nothing listed in any store, no command waiting. -/
def State.reset : State := {}

end Sys2Proof.Machine
end

