-- ==== Sys2Proof/Machine/Ops.lean ====
section
/-! DEFINITION. The named operations over the node's stores: sparse tables, register fields, counters, memory, outputs, free values. -/

namespace Sys2Proof.Machine

/-! ### Sparse tables -/

/-- What key `k` holds; `d` gives what an unlisted key reads as. -/
def Tab.get {α : Type} (d : Nat → α) : Tab α → Nat → α
  | [], k => d k
  | (a, v) :: t, k => if k < a then d k else if k = a then v else Tab.get d t k

/-- Is the first key above `lo`? -/
def Tab.above {α : Type} (lo : Nat) : Tab α → Bool
  | [] => true
  | (a, _) :: _ => lo < a

/-- `t` with key `k` at `v`. In canonical form an entry at its default goes; a table outside that form keeps it, so that what other keys read
as never changes. -/
def Tab.set {α : Type} [DecidableEq α] (d : Nat → α) : Tab α → Nat → α → Tab α
  | [], k, v => if v = d k then [] else [(k, v)]
  | (a, w) :: t, k, v =>
    if k < a then (if v = d k then (a, w) :: t else (k, v) :: (a, w) :: t)
    else if k = a then (if v = d k && Tab.above a t then t else (k, v) :: t)
    else (a, w) :: Tab.set d t k v

/-- The canonical form: keys strictly rising, no entry at its default. -/
def Tab.wf {α : Type} [DecidableEq α] (d : Nat → α) : Tab α → Bool
  | [] => true
  | (a, v) :: t => (v ≠ d a) && Tab.above a t && Tab.wf d t

/-! ### Order -/

/-- `a` put before the first element it may stand before. -/
def insertBy {α : Type} (le : α → α → Bool) (a : α) : List α → List α
  | [] => [a]
  | b :: l => if le a b then a :: b :: l else b :: insertBy le a l

/-- A list in the order of `le`; elements of one rank keep their order. -/
def sortBy {α : Type} (le : α → α → Bool) : List α → List α
  | [] => []
  | a :: l => insertBy le a (sortBy le l)

/-! ### Bytes and bits -/

/-- The low `k` bytes of `v`, least significant first (R7). -/
def leBytes : Nat → Nat → List Byte
  | 0, _ => []
  | k + 1, v => BitVec.ofNat 8 v :: leBytes k (v / 256)

/-- The number that bytes spell, least significant first. -/
def ofLe : List Byte → Nat
  | [] => 0
  | b :: bs => b.toNat + 256 * ofLe bs

/-- The number that bytes spell, most significant first. -/
def ofBe (bs : List Byte) : Nat := bs.foldl (fun a b => 256 * a + b.toNat) 0

/-- The low `k` bytes of `v`, most significant first. -/
def beBytes (k v : Nat) : List Byte := (leBytes k v).reverse

/-- `len` bytes of `bs` from offset `o`. -/
def slice (bs : List Byte) (o len : Nat) : List Byte := (bs.drop o).take len

/-- The little-endian number of `len` bytes at offset `o`. -/
def le (bs : List Byte) (o len : Nat) : Nat := ofLe (slice bs o len)

/-- The big-endian number of `len` bytes at offset `o`. -/
def be (bs : List Byte) (o len : Nat) : Nat := ofBe (slice bs o len)

/-- Bits `lo` to `lo + w - 1` of `v`. -/
def bits (v lo w : Nat) : Nat := v / 2 ^ lo % 2 ^ w

/-- Is bit `i` of `v` 1? -/
def bit (v i : Nat) : Bool := v / 2 ^ i % 2 = 1

/-- `v` with bits `lo` to `lo + w - 1` at `x`. -/
def setBits (v lo w x : Nat) : Nat := v - bits v lo w * 2 ^ lo + x % 2 ^ w * 2 ^ lo

/-- 1 for true. -/
def b2n (b : Bool) : Nat := if b then 1 else 0

/-- The signed value of a 32-bit pattern. -/
def signed32 (v : Nat) : Int := if v % 4294967296 < 2147483648 then (v % 4294967296 : Nat) else (v % 4294967296 : Nat) - (4294967296 : Int)

/-- The 32-bit pattern of an integer. -/
def toWord (i : Int) : Word := BitVec.ofInt 32 i

/-- The lesser of `v` and the all-ones value of `w` bits: what a saturating field holds. -/
def sat (w v : Nat) : Nat := if v < 2 ^ w then v else 2 ^ w - 1

/-- `xs` with the element at `i` replaced. -/
def listSet {α : Type} : List α → Nat → α → List α
  | [], _, _ => []
  | _ :: t, 0, v => v :: t
  | a :: t, i + 1, v => a :: listSet t i v

/-- The numbers below `k`, rising. -/
def upTo (k : Nat) : List Nat := List.range k

/-! ### Registers -/

/-- The reset word of the register at `a` (the Reset columns; window entries share their register's). -/
def resetWord (a : Nat) : Word :=
  match resetRows.find? (fun r => r.covers (a % 4294967296)) with
  | some r => BitVec.ofNat 32 r.word
  | none => 0

/-- The stored word at `a`. -/
def Node.reg (n : Node) (a : Nat) : Word := Tab.get resetWord n.regs a

/-- `n` with the word at `a` set to `v`. -/
def Node.setReg (n : Node) (a : Nat) (v : Word) : Node := { n with regs := Tab.set resetWord n.regs a v }

/-- The value of a field. -/
def Node.rd (n : Node) (f : Field) : Nat := bits (n.reg f.addr).toNat f.lo f.width

/-- `n` with a field set. -/
def Node.wr (n : Node) (f : Field) (v : Nat) : Node :=
  n.setReg f.addr (BitVec.ofNat 32 (setBits (n.reg f.addr).toNat f.lo f.width v))

/-- Is a one-bit field 1? -/
def Node.on (n : Node) (f : Field) : Bool := n.rd f = 1

/-- `n` with a one-bit field set to a truth value. -/
def Node.wrB (n : Node) (f : Field) (b : Bool) : Node := n.wr f (b2n b)

/-- `n` with a counter field advanced by `k`, saturating (R686 and the other counter tables). -/
def Node.countBy (n : Node) (f : Field) (k : Nat) : Node := n.wr f (sat f.width (n.rd f + k))

/-- `n` with a counter field advanced by 1, saturating. -/
def Node.count (n : Node) (f : Field) : Node := n.countBy f 1

/-- A 64-bit value in two registers. -/
def Node.rd64 (n : Node) (lo hi : Field) : Nat := n.rd lo + 4294967296 * n.rd hi

/-- `n` with a 64-bit value written to two registers. -/
def Node.wr64 (n : Node) (lo hi : Field) (v : Nat) : Node := (n.wr lo (v % 4294967296)).wr hi (v / 4294967296)

/-! ### Memory -/

/-- What an unlisted SRAM byte reads as (log entry 3). -/
def memBlank (_ : Nat) : Byte := 0

/-- What an unlisted flash byte reads as: erased (log entry 5). -/
def flashBlank (_ : Nat) : Byte := 0xFF

/-- The canonical form of the node's byte stores: the SRAM and the two QSPI devices. -/
def Memory.wf (n : Node) : Bool := Tab.wf memBlank n.mem && Tab.wf flashBlank n.qboot && Tab.wf flashBlank n.qper

/-- The SRAM byte at `a`. -/
def Node.memByte (n : Node) (a : Nat) : Byte := Tab.get memBlank n.mem a

/-- `len` SRAM bytes from `a`. -/
def Node.memBytes (n : Node) (a len : Nat) : List Byte := (upTo len).map (fun i => n.memByte (a + i))

/-- The little-endian number of `len` SRAM bytes at `a`. -/
def Node.memLe (n : Node) (a len : Nat) : Nat := ofLe (n.memBytes a len)

/-- A run of bytes written into a byte store from `a` on. -/
def putBytes (d : Nat → Byte) (t : Tab Byte) : Nat → List Byte → Tab Byte
  | _, [] => t
  | a, b :: bs => putBytes d (Tab.set d t a b) (a + 1) bs

/-- `n` with SRAM bytes written from `a` on, by the unit that owns the region; the written 64-bit words hold no error after it (R715). -/
def Node.memPut (n : Node) (a : Nat) (bs : List Byte) : Node :=
  { n with mem := putBytes memBlank n.mem a bs
           uce := n.uce.filter (fun w => w + 8 ≤ a || a + bs.length ≤ w) }

/-- Does a read of `len` bytes at `a` meet an uncorrectable word? -/
def Node.uceIn (n : Node) (a len : Nat) : Bool := n.uce.any (fun w => w < a + len && a < w + 8)

/-- A byte of a QSPI device. -/
def Node.flashByte (n : Node) (c : QCtl) (a : Nat) : Byte :=
  match c with
  | .boot => Tab.get flashBlank n.qboot a
  | .per => Tab.get flashBlank n.qper a

/-- `len` bytes of a QSPI device from `a`. -/
def Node.flashBytes (n : Node) (c : QCtl) (a len : Nat) : List Byte := (upTo len).map (fun i => n.flashByte c (a + i))

/-- `n` with bytes written to a QSPI device from `a` on; KBWRITTEN counts them (R609). -/
def Node.flashPut (n : Node) (c : QCtl) (a : Nat) (bs : List Byte) : Node :=
  match c with
  | .boot =>
    let k := n.qspi.restB + bs.length
    { n.countBy (QSPI_KBWRITTEN.VALUE 0) (k / 1024) with
        qboot := putBytes flashBlank n.qboot a bs, qspi := { n.qspi with restB := k % 1024 } }
  | .per =>
    let k := n.qspi.restP + bs.length
    { n.countBy (QSPI_KBWRITTEN.VALUE 1) (k / 1024) with
        qper := putBytes flashBlank n.qper a bs, qspi := { n.qspi with restP := k % 1024 } }

/-! ### OTP -/

/-- An OTP word; a word not programmed reads as 0 (log entry 6). -/
def Node.otpWord (n : Node) (i : Nat) : Nat := ((Tab.get (fun _ => none) n.otp i).getD 0).toNat

/-- Is an OTP word programmed? -/
def Node.otpDone (n : Node) (i : Nat) : Bool := (Tab.get (fun _ => none) n.otp i).isSome

/-- The node's UID (R659). -/
def Node.uid (n : Node) : Nat := n.otpWord 0 + 4294967296 * n.otpWord 1

/-- The bytes of `k` OTP words from `i`, byte 0 in bits [7:0] of the first (R661). -/
def Node.otpBytes (n : Node) (i k : Nat) : List Byte := (upTo k).flatMap (fun j => leBytes 4 (n.otpWord (i + j)))

/-! ### Outputs and free values -/

/-- `n` with a frame put out. -/
def Node.emit (n : Node) (p : Port) (bs : List Byte) : Node := { n with out := n.out ++ [⟨p, bs⟩] }

/-- The next entropy draw, and the node after it (log entry 8). -/
def Node.entropy (n : Node) : Nat × Node := ((Config.entropy n.freeCtr).toNat, { n with freeCtr := n.freeCtr + 1 })

/-- Two entropy draws as one 64-bit value. -/
def Node.entropy64 (n : Node) : Nat × Node :=
  let (lo, n) := n.entropy
  let (hi, n) := n.entropy
  (lo + 4294967296 * hi, n)

/-- The next free word, and the node after it (log entry 8). -/
def Node.freeWord (n : Node) : Nat × Node := ((Config.freeWord n.freeCtr).toNat, { n with freeCtr := n.freeCtr + 1 })

/-- Are the shed actions in force (R470)? -/
def Node.shed (n : Node) : Bool := n.on PWR_STATUS.SHED

/-- Is an attachment of the line that PWR_CTRL.SHEDLINE names stopped by the shed actions (R470)? -/
def Node.attShed (n : Node) (att : Nat) : Bool := n.shed && n.rd PWR_CTRL.SHEDLINE = att % 2

/-- TB_LOCAL, extended, in ns. -/
def Node.now (n : Node) : Nat := n.time.now

/-- The meaning of a command that changes the node alone, reset or not: the queue stays. -/
def State.always (s : State) (f : Node → Node) : Host.Outcome State Fault Refusal := .next { s with node := f s.node }

/-- Does the node's logic on CLK_SYS run: out of reset, main rails up, PLL_SYS not unlocked (R456, R487, R641, example after R448)? -/
def Node.running (n : Node) : Bool := !n.boot.held && !n.boot.sysLost

/-- A change that does nothing while the node's logic on CLK_SYS does not run. -/
def Node.live (f : Node → Node) (n : Node) : Node := if n.running then f n else n

/-- The meaning of a command of a unit on CLK_GUARD, which no PLL stops (R439, R466): nothing while the node is held in reset. -/
def State.onGuard (s : State) (f : Node → Node) : Host.Outcome State Fault Refusal :=
  s.always (fun n => if n.boot.held then n else f n)

/-- The meaning of a command of a unit outside AON: nothing while the node is held in reset. -/
def State.onNode (s : State) (f : Node → Node) : Host.Outcome State Fault Refusal := s.always (Node.live f)

end Sys2Proof.Machine
end

