-- ==== Sys2Proof/Machine/Crypto.lean ====
section
/-! DEFINITION. Checks and keys: CRC-32, CRC-16, CRC-8, AES-128, AES-128-CMAC, SHA-256 and ECDSA P-256 (R28, R645 to R648, R599, R113, R152). -/

namespace Sys2Proof.Machine

/-! ### CRCs -/

/-- One reflected CRC step over 8 bits. -/
def crcReflByte (poly : Nat) : Nat → Nat → Nat
  | 0, c => c
  | k + 1, c => crcReflByte poly k ((c / 2) ^^^ (c % 2 * poly))

/-- CRC-32 of IEEE 802.3 (reflected, initial and final value all ones). -/
def crc32 (bs : List Byte) : Nat :=
  (bs.foldl (fun c b => crcReflByte 0xEDB88320 8 (c ^^^ b.toNat)) 0xFFFFFFFF) ^^^ 0xFFFFFFFF

/-- One unreflected CRC step of width `w` over 8 bits. -/
def crcFwdByte (w poly : Nat) : Nat → Nat → Nat
  | 0, c => c
  | k + 1, c =>
    crcFwdByte w poly k (if c / 2 ^ (w - 1) % 2 = 1 then ((c * 2) ^^^ poly) % 2 ^ w else c * 2 % 2 ^ w)

/-- An unreflected CRC of width `w`. -/
def crcFwd (w poly init : Nat) (bs : List Byte) : Nat :=
  bs.foldl (fun c b => crcFwdByte w poly 8 (c ^^^ (b.toNat * 2 ^ (w - 8)))) init

/-! ### AES-128 -/

/-- Multiplication by x in GF(2^8). -/
def gfX (a : Nat) : Nat := (2 * a) ^^^ (a / 128 * 0x11B)

/-- The S-box of AES as one number: entry `a` stands in bits `8 a + 7` to `8 a`. -/
def aesTable : Nat :=
  0x16bb54b00f2d99416842e6bf0d89a18cdf2855cee9871e9b948ed9691198f8e19e1dc186b95735610ef6034866b53e708a8bbd4b1f74dde8c6b4a61c2e2578ba08ae7a65eaf4566ca94ed58d6d37c8e779e4959162acd3c25c2406490a3a32e0db0b5ede14b8ee4688902a22dc4f816073195d643d7ea7c41744975fec130ccdd2f3ff1021dab6bcf5389d928f40a351a89f3c507f02f94585334d43fbaaefd0cf584c4a39becb6a5bb1fc20ed00d153842fe329b3d63b52a05a6e1b1a2c830975b227ebe28012079a059618c323c7041531d871f1e5a534ccf73f362693fdb7c072a49cafa2d4adf04759fa7dc982ca76abd7fe2b670130c56f6bf27b777c63

/-- The AES S-box. -/
def aesSbox (a : Nat) : Nat := aesTable / 256 ^ a % 256

/-- Element `i` of a list of numbers, 0 past the end. -/
def nth (xs : List Nat) (i : Nat) : Nat := xs.getD i 0

/-- Byte `i` of a block held as one number, byte 0 lowest. -/
def blockByte (s i : Nat) : Nat := s / 256 ^ i % 256

/-- The number whose byte `i` is `f i`, for `k` bytes. -/
def blockOf (f : Nat → Nat) : Nat → Nat
  | 0 => 0
  | k + 1 => blockOf f k + f k * 256 ^ k

/-- The next round key from the last one. -/
def aesNextKey (k rcon : Nat) : Nat :=
  let g := (aesSbox (blockByte k 13) ^^^ rcon) + 256 * aesSbox (blockByte k 14) + 65536 * aesSbox (blockByte k 15) + 16777216 * aesSbox (blockByte k 12)
  let w0 := k % 4294967296 ^^^ g
  let w1 := k / 2 ^ 32 % 4294967296 ^^^ w0
  let w2 := k / 2 ^ 64 % 4294967296 ^^^ w1
  let w3 := k / 2 ^ 96 % 4294967296 ^^^ w2
  w0 + w1 * 2 ^ 32 + w2 * 2 ^ 64 + w3 * 2 ^ 96

/-- SubBytes and ShiftRows: byte `4c + r` comes from column `c + r`. -/
def aesSubShift (s : Nat) : Nat := blockOf (fun i => aesSbox (blockByte s ((4 * (i / 4 + i % 4) + i % 4) % 16))) 16

/-- MixColumns. -/
def aesMix (s : Nat) : Nat :=
  blockOf (fun i =>
    let b := fun r => blockByte s (4 * (i / 4) + (i % 4 + r) % 4)
    gfX (b 0) ^^^ (gfX (b 1) ^^^ b 1) ^^^ b 2 ^^^ b 3) 16

/-- The rounds of AES-128 after the first key addition. -/
def aesRounds : Nat → Nat → Nat → Nat → Nat
  | 0, s, _, _ => s
  | k + 1, s, key, rcon =>
    let key' := aesNextKey key rcon
    let t := aesSubShift s
    let t := if k = 0 then t else aesMix t
    aesRounds k (t ^^^ key') key' (gfX rcon)

/-- AES-128 of one 16-byte block. -/
def aes128 (key block : List Byte) : List Byte :=
  let k := ofLe key
  leBytes 16 (aesRounds 10 (ofLe block ^^^ k) k 1)

/-- Bytewise exclusive or. -/
def xorBytes (a b : List Byte) : List Byte := List.zipWith (· ^^^ ·) a b

/-- Doubling in GF(2^128) as CMAC uses it. -/
def cmacDouble (b : List Byte) : List Byte :=
  let v := ofBe b
  beBytes 16 (if v / 2 ^ 127 % 2 = 1 then (2 * v) % 2 ^ 128 ^^^ 0x87 else 2 * v)

/-- The chain of CMAC over whole blocks, `k` of them. -/
def cmacChain (key : List Byte) : Nat → List Byte → List Byte → List Byte
  | 0, x, _ => x
  | k + 1, x, m => cmacChain key k (aes128 key (xorBytes x (m.take 16))) (m.drop 16)

/-- AES-128-CMAC (NIST SP 800-38B). -/
def cmac (key msg : List Byte) : List Byte :=
  let k1 := cmacDouble (aes128 key (List.replicate 16 0))
  let k2 := cmacDouble k1
  let full := (msg.length - 1) / 16
  let last := msg.drop (16 * full)
  let lastX := if last.length = 16 then xorBytes last k1
    else xorBytes (last ++ [0x80] ++ List.replicate (15 - last.length) 0) k2
  aes128 key (xorBytes (cmacChain key full (List.replicate 16 0) msg) lastX)

/-- A 64-bit truncated CMAC: its first 8 bytes. -/
def tag64 (key msg : List Byte) : List Byte := (cmac key msg).take 8

/-! ### SHA-256 -/

/-- The round constants of SHA-256. -/
def shaK : List Nat := [
  0x428a2f98,0x71374491,0xb5c0fbcf,0xe9b5dba5,0x3956c25b,0x59f111f1,0x923f82a4,0xab1c5ed5,
  0xd807aa98,0x12835b01,0x243185be,0x550c7dc3,0x72be5d74,0x80deb1fe,0x9bdc06a7,0xc19bf174,
  0xe49b69c1,0xefbe4786,0x0fc19dc6,0x240ca1cc,0x2de92c6f,0x4a7484aa,0x5cb0a9dc,0x76f988da,
  0x983e5152,0xa831c66d,0xb00327c8,0xbf597fc7,0xc6e00bf3,0xd5a79147,0x06ca6351,0x14292967] ++ [
  0x27b70a85,0x2e1b2138,0x4d2c6dfc,0x53380d13,0x650a7354,0x766a0abb,0x81c2c92e,0x92722c85,
  0xa2bfe8a1,0xa81a664b,0xc24b8b70,0xc76c51a3,0xd192e819,0xd6990624,0xf40e3585,0x106aa070,
  0x19a4c116,0x1e376c08,0x2748774c,0x34b0bcb5,0x391c0cb3,0x4ed8aa4a,0x5b9cca4f,0x682e6ff3,
  0x748f82ee,0x78a5636f,0x84c87814,0x8cc70208,0x90befffa,0xa4506ceb,0xbef9a3f7,0xc67178f2]

/-- Rotation of a 32-bit value to the right. -/
def rotr32 (a k : Nat) : Nat := a / 2 ^ k + a * 2 ^ (32 - k) % 4294967296

/-- The message schedule of SHA-256, newest word first: `k` more words. -/
def shaExtend : Nat → List Nat → List Nat
  | 0, w => w
  | k + 1, w =>
    let x := nth w 14
    let y := nth w 1
    let s0 := rotr32 x 7 ^^^ rotr32 x 18 ^^^ (x / 8)
    let s1 := rotr32 y 17 ^^^ rotr32 y 19 ^^^ (y / 1024)
    shaExtend k ((nth w 15 + s0 + nth w 6 + s1) % 4294967296 :: w)

/-- One round of SHA-256 on the eight working values. -/
def shaRound (h : List Nat) (kw : Nat × Nat) : List Nat :=
  let e := nth h 4
  let a := nth h 0
  let s1 := rotr32 e 6 ^^^ rotr32 e 11 ^^^ rotr32 e 25
  let ch := (e &&& nth h 5) ^^^ ((4294967295 - e) &&& nth h 6)
  let t1 := nth h 7 + s1 + ch + kw.1 + kw.2
  let s0 := rotr32 a 2 ^^^ rotr32 a 13 ^^^ rotr32 a 22
  let mj := (a &&& nth h 1) ^^^ (a &&& nth h 2) ^^^ (nth h 1 &&& nth h 2)
  [(t1 + s0 + mj) % 4294967296, a, nth h 1, nth h 2, (nth h 3 + t1) % 4294967296, e, nth h 5, nth h 6]

/-- The compression of one 64-byte block. -/
def shaBlock (h : List Nat) (block : List Byte) : List Nat :=
  let w := shaExtend 48 ((upTo 16).map (fun i => be block (4 * (15 - i)) 4))
  let h' := (List.zip shaK w.reverse).foldl shaRound h
  List.zipWith (fun a b => (a + b) % 4294967296) h h'

/-- Compression of `k` blocks. -/
def shaBlocks : Nat → List Nat → List Byte → List Nat
  | 0, h, _ => h
  | k + 1, h, m => shaBlocks k (shaBlock h (m.take 64)) (m.drop 64)

/-- SHA-256. -/
def sha256 (m : List Byte) : List Byte :=
  let padLen := (119 - m.length % 64) % 64
  let p := m ++ [0x80] ++ List.replicate padLen 0 ++ beBytes 8 (8 * m.length)
  (shaBlocks (p.length / 64)
    [0x6a09e667, 0xbb67ae85, 0x3c6ef372, 0xa54ff53a, 0x510e527f, 0x9b05688c, 0x1f83d9ab, 0x5be0cd19] p).flatMap (beBytes 4)

/-! ### ECDSA P-256 -/

/-- The prime of P-256. -/
def p256P : Nat := 0xffffffff00000001000000000000000000000000ffffffffffffffffffffffff
/-- The order of P-256. -/
def p256N : Nat := 0xffffffff00000000ffffffffffffffffbce6faada7179e84f3b9cac2fc632551
/-- The coefficient b of P-256. -/
def p256B : Nat := 0x5ac635d8aa3a93e7b3ebbd55769886bc651d06b0cc53b0f63bce3c3e27d2604b
/-- The base point of P-256. -/
def p256G : Nat × Nat :=
  (0x6b17d1f2e12c4247f8bce6e563a440f277037d812deb33a0f4a13945d898c296,
   0x4fe342e2fe1a7f9b8ee7eb4a7c0f9e162bce33576b315ececbb6406837bf51f5)

/-- `b ^ e` modulo `m`, for an exponent of at most `k` bits. -/
def powMod (m : Nat) : Nat → Nat → Nat → Nat
  | 0, _, _ => 1 % m
  | k + 1, b, e => (if e % 2 = 1 then b else 1) * powMod m k (b * b % m) (e / 2) % m

/-- The inverse modulo a prime. -/
def invMod (m a : Nat) : Nat := powMod m 256 (a % m) (m - 2)

/-- Addition of points of P-256; none is the point at infinity. -/
def p256Add (a b : Option (Nat × Nat)) : Option (Nat × Nat) :=
  match a, b with
  | none, q => q
  | q, none => q
  | some (x1, y1), some (x2, y2) =>
    if x1 = x2 && (y1 + y2) % p256P = 0 then none
    else
      let l := if x1 = x2 then (3 * x1 * x1 + p256P - 3) * invMod p256P (2 * y1) % p256P
        else (y2 + p256P - y1) * invMod p256P (x2 + p256P - x1) % p256P
      let x3 := (l * l + 2 * p256P - x1 - x2) % p256P
      some (x3, (l * (x1 + p256P - x3) + p256P - y1) % p256P)

/-- A multiple of a point, for a factor of at most `k` bits. -/
def p256Mul : Nat → Nat → Option (Nat × Nat) → Option (Nat × Nat)
  | 0, _, _ => none
  | k + 1, e, q => if e = 0 then none else p256Add (if e % 2 = 1 then q else none) (p256Mul k (e / 2) (p256Add q q))

/-- ECDSA P-256 verification: public key X, Y, signature r, s and digest, all big-endian (R647). -/
def ecdsaVerify (pub sig digest : List Byte) : Bool :=
  let x := be pub 0 32
  let y := be pub 32 32
  let r := be sig 0 32
  let s := be sig 32 32
  let onCurve := x < p256P && y < p256P && (y * y) % p256P = (x * x * x + (p256P - 3) * x + p256B) % p256P
  if !onCurve || r = 0 || s = 0 || p256N ≤ r || p256N ≤ s then false
  else
    let w := invMod p256N s
    let u1 := ofBe digest * w % p256N
    let u2 := r * w % p256N
    match p256Add (p256Mul 256 u1 (some p256G)) (p256Mul 256 u2 (some (x, y))) with
    | none => false
    | some (px, _) => px % p256N = r

end Sys2Proof.Machine
end

