-- ==== Sys2Proof/Machine/View.lean ====
section
/-! DEFINITION. What a read of a register returns: the word at its home, or, for the registers that show other state, a word computed
from that state (R677: reading changes nothing). -/

namespace Sys2Proof.Machine

/-- A run of window registers: first address, words, stride between instances, instances, and the entry its select names. -/
structure Window where
  first : Nat
  words : Nat
  instStride : Nat
  insts : Nat
  entry : Nat → Nat

/-- The window registers and the entry that each one's select register names now. -/
def Node.windows (n : Node) : List Window := [
  ⟨0x40010074, 2, 0x1000, 4, fun k => n.rd (LINE_PEERSEL.NODE k)⟩,
  ⟨0x40020054, 4, 0x1000, 1, fun _ => n.rd INA_DIRSEL.NODE⟩,
  ⟨0x4002C024, 4, 0x1000, 1, fun _ => n.rd SIG_PUBSEL.DSET⟩,
  ⟨0x4002C044, 4, 0x1000, 1, fun _ => n.rd SIG_SUBSEL.RANGE⟩,
  ⟨0x4002C104, 3, 0x1000, 1, fun _ => n.rd SIG_GWSEL.GROUP⟩,
  ⟨0x40028064, 6, 0x1000, 1, fun _ => n.rd MSG_OFSEL.FLOW⟩,
  ⟨0x40028084, 5, 0x1000, 1, fun _ => n.rd MSG_IFSEL.FLOW⟩,
  ⟨0x4002809C, 2, 0x1000, 1, fun _ => 16 * n.rd MSG_MLSEL.LIST + n.rd MSG_MLSEL.POS⟩,
  ⟨0x40040014, 3, 0x1000, 1, fun _ => n.rd AUD_RXSEL.ENTRY⟩,
  ⟨0x40040024, 3, 0x1000, 1, fun _ => n.rd AUD_TXSEL.ENTRY⟩,
  ⟨0x40040034, 1, 0x1000, 1, fun _ => 384 * n.rd AUD_XSEL.OUT + n.rd AUD_XSEL.IN⟩,
  ⟨0x40040044, 1, 0x1000, 1, fun _ => n.rd AUD_ZSEL.ZONE⟩,
  ⟨0x4004004C, 1, 0x1000, 1, fun _ => 64 * n.rd AUD_ZSEL.ZONE + 8 * n.rd AUD_ZCSEL.BQ + n.rd AUD_ZCSEL.COEF⟩,
  ⟨0x40040050, 3, 0x1000, 1, fun _ => n.rd AUD_ZSEL.ZONE⟩,
  ⟨0x40040064, 5, 0x1000, 1, fun _ => n.rd AUD_GSEL.GEN⟩,
  ⟨0x40030904, 3, 0x1000, 1, fun _ => n.rd ENG0_FSEL.ENTRY⟩,
  ⟨0x40038014, 3, 0x1000, 1, fun _ => n.rd TMR_TSEL.CELL⟩,
  ⟨0x40038024, 1, 0x1000, 1, fun _ => n.rd TMR_ESEL.CELL⟩,
  ⟨0x4003C044, 2, 0x1000, 1, fun _ => n.rd PEX_PSEL.WORD⟩,
  ⟨0x40003054, 3, 0x1000, 1, fun _ => n.rd AON_HOSEL.ENTRY⟩,
  ⟨0x40050044, 3, 0x1000, 8, fun k => n.rd (CAN_FSEL.FILTER k)⟩,
  ⟨0x40070044, 2, 0x1000, 1, fun _ => n.rd EVR_TSEL.TRIGGER⟩,
  ⟨0x40070050, 1, 0x1000, 1, fun _ => 32 * n.rd EVR_TSEL.TRIGGER + n.rd EVR_SSEL.ENTRY⟩]

/-- The instance of a window that address `a` lies in, if any. -/
def Window.instOf (w : Window) (a : Nat) : Option Nat :=
  if a < w.first then none
  else
    let o := a - w.first
    if o / w.instStride < w.insts && o % w.instStride < 4 * w.words then some (o / w.instStride) else none

/-- The home of register address `a`: itself, or for a window register the home of the selected entry. -/
def Node.home (n : Node) (a : Nat) : Nat :=
  match n.windows.find? (fun w => (w.instOf a).isSome) with
  | some w => winAddr a (w.entry ((w.instOf a).getD 0))
  | none => a

/-- The handle of a node number (R61, R96); 255 none. -/
def Node.handleOf (n : Node) (node : Nat) : Nat :=
  if node = 0 || 128 < node then 255
  else n.rd ⟨0x40010400 + (node - 1) / 4 * 4, 8 * ((node - 1) % 4), 8⟩

/-- What LINE holds of a peer. -/
def PeerLine.empty : PeerLine := {}

/-- The record of node `node` on line `l`. -/
def Node.peer (n : Node) (l node : Nat) : PeerLine := Tab.get (fun _ => PeerLine.empty) n.line.peers (256 * l + n.handleOf node)

/-- The 16 bytes of a node record. -/
def dirBytes (r : DirRec) : List Byte :=
  leBytes 1 r.num ++ leBytes 1 r.car ++ leBytes 1 r.chain
    ++ leBytes 1 (b2n r.sideB + 2 * (r.role % 4) + 8 * b2n r.reversed + 16 * b2n r.endNode + 32 * b2n r.lead + 64 * b2n r.reserved)
    ++ leBytes 2 (r.delay % 4096 + 4096 * (r.prio % 16)) ++ leBytes 2 r.cls ++ leBytes 8 r.uid

/-- The effective lead priority (R151, R193): PRIO 15 acts as 14. -/
def Node.effPrio (n : Node) : Nat :=
  if n.on INA_PRIO.LEADREQ && n.on INA_CTRL.LEADREQ_EN then 15 else min 14 (n.rd INA_PRIO.PRIO)

/-- A timer cell's elapsed time as TMR_TW2 shows it (R388): live while it runs, at most its preset. -/
def Node.elapsed (n : Node) (c : Nat) : Word :=
  match Tab.get (fun _ => 0) n.cellStart c with
  | 0 => n.reg (TMR_TW2.VALUE c).addr
  | s + 1 => BitVec.ofNat 32 (min (n.now / 1000 - s) (n.rd (TMR_TW1.PRESET c)))

/-- Bit `f` of SYS_STATUS for each state it copies (R681); FORCED, BOOTFAIL and HOSTWAIT are stored. -/
def Node.sysStatus (n : Node) : Word :=
  let pair := n.rd PAIR_STATUS.STATE
  let ina := n.rd INA_STATUS.STATE
  let grd := n.rd GRD_STATUS.STATE
  let eng := fun (k : Nat) => n.rd (ENG_STATUS.STATE k)
  n.reg SYS_STATUS.FORCED.addr ||| BitVec.ofNat 32 (
    2 * b2n n.ownPin + 4 * b2n (pair = 2 || pair = 5) + 8 * b2n (n.on INA_STATUS.LEAD) + 16 * b2n (ina = 6 || ina = 7)
      + 32 * b2n (n.on MSG_STATUS.DEGRADED) + 64 * b2n (n.rd PWR_STATUS.STATE ≠ 0)
      + 128 * b2n ((upTo 8).any (fun k => n.on (ENG_STATUS.SAFE k))) + 256 * b2n ((upTo 8).any (fun k => eng k = 5 || eng k = 6))
      + 512 * b2n (grd = 3 || grd = 4) + 1024 * b2n (n.on MSG_STATUS.LAPSED))

/-- LINEn_PEERSNR of the selected peer on line `l` (R94). -/
def Node.peerSnr (n : Node) (l : Nat) : Word :=
  let node := n.rd (LINE_PEERSEL.NODE l)
  let p := n.peer l node
  let line := Tab.get (fun _ => 0) n.line.primary (n.handleOf node)
  BitVec.ofNat 32 (sat 8 p.meanSnr + 256 * sat 8 p.minSnr + 65536 * (p.epoch % 16) + 1048576 * b2n p.held + 2097152 * b2n (p.held && line = l))

/-- LINEn_PEERBITS of the selected peer on line `l` (R94). -/
def Node.peerBits (n : Node) (l : Nat) : Word :=
  let p := n.peer l (n.rd (LINE_PEERSEL.NODE l))
  BitVec.ofNat 32 (p.bitSum % 16384 + 65536 * (p.propSum % 16384))

/-- LINEn_STATUS (R86). When the AFE's trims have converged, and whether a guardian window is open at this moment of the cycle, the model
does not hold: free values, 0 where the attachment is off or no window can be open (log entry 51). -/
def Node.lineStatus (n : Node) (k : Nat) : Word :=
  let grd := n.rd GRD_STATUS.STATE
  let on := n.on (LINE_CTRL.EN k) && !n.attShed k
  let may := on && n.on (LINE_CTRL.TXEN k) && n.rd (LINE_CTRL.RXMODE k) = 1 && (grd = 1 || grd = 2) && !n.on SYS_STATUS.BOOTFAIL
  n.reg (LINE_STATUS.READY k).addr ||| (if on then Config.trimsDone k n.now else 0).setWidth 32
    ||| ((if may then Config.windowOpen k n.now else 0).setWidth 32 <<< 4)

/-- PWR_GHm with its AGE (R484). -/
def Node.gustWord (n : Node) (h : Nat) : Word :=
  let w := n.reg (PWR_GH.STATE h).addr
  if h = 0 || n.rd (PWR_GH.STATE h) = 0 then w
  else w ||| BitVec.ofNat 32 (65536 * sat 16 ((n.now - Tab.get (fun _ => 0) n.pwr.since h) / 1000000))

/-- Word `k` of the selected directory record (R197). -/
def Node.dirWord (n : Node) (k : Nat) : Word :=
  match n.dir.find? (fun r => r.num = n.rd INA_DIRSEL.NODE) with
  | some r => BitVec.ofNat 32 (le (dirBytes r) (4 * k) 4)
  | none => 0

/-- The directory record of a UID. -/
def Node.dirByUid (n : Node) (uid : Nat) : Option DirRec := n.dir.find? (fun r => r.uid = uid)

/-- The UID of the partner of the node with `uid`, by car position (R165, R166); 0 when it has none. -/
def Node.partnerUid (n : Node) (uid : Nat) : Nat :=
  match n.dirByUid uid with
  | none => 0
  | some r => match n.dir.find? (fun q => q.car = r.car && q.uid ≠ uid) with
    | some q => q.uid
    | none => 0

/-- Is the node with `uid`, or its partner, in the directory (R251)? -/
def Node.uidPresent (n : Node) (uid : Nat) : Bool :=
  n.dir.any (fun r => r.uid = uid || (r.uid ≠ 0 && n.partnerUid r.uid = uid))

/-- The listed destinations of an outbound flow: list position and UID (R239, R276). -/
def Node.members (n : Node) (f : Nat) : List (Nat × Nat) :=
  if n.rd (MSG_OFW0.DKIND f) = 1 then [(0, n.rd64 (MSG_OFW1.DEST_LO f) (MSG_OFW2.DEST_HI f))]
  else
    let l := n.rd (MSG_OFW0.MLIST f)
    ((upTo 16).map (fun p => (p, n.rd64 (MSG_MLUID_LO.UID_LO (16 * l + p)) (MSG_MLUID_HI.UID_HI (16 * l + p))))).filter (·.2 ≠ 0)

/-- BLOCKED of outbound flow `f` (R251, R274): the flow is open, and no destination of it is in the directory (log entry 89). -/
def Node.flowBlocked (n : Node) (f : Nat) : Bool :=
  let kind := n.rd (MSG_OFW0.DKIND f)
  (kind = 1 || kind = 2) && !((n.members f).any (fun p => n.uidPresent p.2))

/-- The registers whose value is computed when they are read. GPIO_SET and GPIO_CLR read as the committed output levels (log entry 52). -/
def Node.view (n : Node) (a : Nat) : Option Word :=
  if a = 0x40007020 then some n.time.train
  else if a = 0x40007024 then some n.time.ptp
  else if a = 0x40007028 then some (BitVec.ofNat 32 n.now)
  else if a = 0x4000702C then some n.time.utc
  else if a = 0x40000008 then some n.sysStatus
  else if a = 0x40002008 then some (if n.on CLK_STATUS.AUDLOCK then Config.audSteer n.now else 0)
  else if a = 0x40003044 then some (BitVec.ofNat 32 (n.lull.rtcNs * 32768 / 1000000000))
  else if a = 0x40005008 || a = 0x4000500C then some n.gpio.out
  else if a = 0x40020004 then some (n.reg a &&& 0xFFFFF0FF ||| BitVec.ofNat 32 (256 * n.effPrio))
  else if 0x40020054 ≤ a && a ≤ 0x40020060 then some (n.dirWord ((a - 0x40020054) / 4))
  else if a = 0x4003801C then some (n.elapsed (n.rd TMR_TSEL.CELL))
  else if a = 0x40040004 then
    some (n.reg a &&& 0xFFFFFFF6 ||| BitVec.ofNat 32 (b2n (n.on CLK_STATUS.AUDLOCK && n.on TIME_STATUS.TRVALID) + 8 * b2n (n.on TIME_STATUS.HOLDOVER)))
  else if a = 0x40028070 then
    let f := n.rd MSG_OFSEL.FLOW
    some (n.reg (winAddr a f) ||| BitVec.ofNat 32 (1024 * b2n (n.flowBlocked f)))
  else if a = 0x40070014 then some (BitVec.ofNat 32 (n.evr.opNs / 1000000))
  else if a = 0x40070018 then some (BitVec.ofNat 32 (n.evr.opNs / 1000000 / 4294967296 % 256 + 256 * (n.evr.powerCycles % 16777216)))
  else if 0x40001400 ≤ a && a < 0x40001800 then some (n.gustWord ((a - 0x40001400) / 4))
  else if 0x40010000 ≤ a && a < 0x40014000 then
    let k := (a - 0x40010000) / 4096
    if a % 4096 = 4 then some (n.lineStatus k)
    else if a % 4096 = 0x74 && k < 2 then some (n.peerSnr k)
    else if a % 4096 = 0x78 && k < 2 then some (n.peerBits k)
    else none
  else none

/-- The value a read of the register at `a` returns. -/
def Node.look (n : Node) (a : Nat) : Word := (n.view a).getD (n.reg (n.home a))

end Sys2Proof.Machine
end

