-- ==== Sys2Proof/Machine/PairLink.lean ====
section
/-! DEFINITION. The pair link (11_pair_redundancy.md R420 to R424, R434, R435, R717): frames, reliable numbering, journal frames, deltas,
and the records that deltas and snapshots carry. A frame leaves when it is queued, unless 64 KB stand unacknowledged (log entry 24). The
layouts of the records' data, which the spec does not give, are the model's choice (log entry 25). -/

namespace Sys2Proof.Machine

/-- A change of PAIR's own state. -/
def Node.updPair (n : Node) (f : PairState → PairState) : Node := { n with pair := f n.pair }

/-- PAIR_STATUS.STATE. -/
def Node.pairSt (n : Node) : Nat := n.rd PAIR_STATUS.STATE

/-! ### Frames (R421 to R423) -/

/-- A frame of the pair link. -/
def pairFrame (type seq ack : Nat) (retx : Bool) (payload : List Byte) : List Byte :=
  let b := leBytes 1 type ++ leBytes 1 (b2n retx) ++ leBytes 2 payload.length ++ leBytes 4 seq ++ leBytes 4 ack ++ payload
  b ++ leBytes 4 (crc32 b)

/-- A frame of an unreliable type goes out. -/
def Node.linkPlain (n : Node) (type : Nat) (payload : List Byte) : Node :=
  n.emit .pair (pairFrame type 0 n.pair.rxSeq false payload)

/-- Bytes of the frames not acknowledged. -/
def linkHeld (l : List (Nat × Nat × List Byte)) : Nat := (l.map (·.2.2.length)).sum

/-- PAIR_MIRLAG at the active node: the bytes of deltas waiting or not acknowledged (R451). -/
def Node.lagUpdate (n : Node) : Node :=
  let w := ((n.pair.waiting.filter (fun x => x.2.1 = 0x20)).map (·.2.2.length)).sum
  let u := ((n.pair.unacked.filter (fun x => le x.2.2 0 1 = 0x20)).map (fun x => x.2.2.length - 16)).sum
  n.wr PAIR_MIRLAG.VALUE (sat 20 (w + u))

/-- The state of a timer cell as records carry it: TW0, TW1, TW2, running flag and age in µs. -/
def Node.timerBytes (n : Node) (c : Nat) : List Byte :=
  let st := Tab.get (fun _ => 0) n.cellStart c
  leBytes 4 (n.reg (TMR_TW0.KIND c).addr).toNat ++ leBytes 4 (n.rd (TMR_TW1.PRESET c)) ++ leBytes 4 (n.rd (TMR_TW2.VALUE c))
    ++ leBytes 4 (b2n (st ≠ 0)) ++ leBytes 4 (if st = 0 then 0 else (n.now / 1000 + 1 - st) % 4294967296)

/-- The data of a SNAP frame, read when the frame starts (R437): `p` holds its 8-byte head and what to read. Regions: 1 JRNL, 2 DMEM,
3 PIMG (bytes at an address), 4 timer cell, 5 edge cell, 6 register word of a window entry, 7 force table entry. -/
def Node.snapData (n : Node) (p : List Byte) : List Byte :=
  let region := le p 0 1
  let a := le p 4 4
  let k := le p 8 4
  p.take 8 ++ (if region ≤ 3 then n.memBytes a k
    else if region = 4 then n.timerBytes a
    else if region = 5 then leBytes 4 (n.reg (TMR_EW.PREV a).addr).toNat
    else if region = 6 then leBytes 4 k ++ leBytes 4 (n.reg (if k = 0 then a else winAddr a (k - 1))).toNat
    else leBytes 4 (n.reg (ENG0_FW0.EN a).addr).toNat ++ leBytes 4 (n.rd (ENG0_FW1.VALUE a)) ++ leBytes 4 (n.rd (ENG0_FW2.UNDER a)))

/-- The frame that goes next: the lowest priority number, oldest first (R422). -/
def nextFrame (l : List (Nat × Nat × List Byte)) : Option (Nat × Nat × List Byte) :=
  match (l.map (·.1)).min? with
  | some p => l.find? (fun x => x.1 = p)
  | none => none

/-- Waiting reliable frames go out in order of priority, at most 64 KB unacknowledged (R422, R423); `k` bounds their number. -/
def Node.linkPump : Nat → Node → Node
  | 0, n => n
  | k + 1, n =>
    match nextFrame n.pair.waiting with
    | none => n
    | some w =>
      let payload := if w.2.1 = 0x30 then n.snapData w.2.2 else w.2.2
      let fr := pairFrame w.2.1 n.pair.nextSeq n.pair.rxSeq false payload
      if n.pair.unacked ≠ [] && 65536 < linkHeld n.pair.unacked + fr.length then n
      else
        let n := n.updPair (fun p => { p with
          waiting := p.waiting.erase w, unacked := p.unacked ++ [(p.nextSeq, n.now, fr)], nextSeq := (p.nextSeq + 1) % 4294967296 })
        Node.linkPump k (n.emit .pair fr)

/-- A reliable frame is queued and goes out as soon as it may. -/
def Node.linkSend (n : Node) (prio type : Nat) (payload : List Byte) : Node :=
  let n := n.updPair (fun p => { p with waiting := p.waiting ++ [(prio, type, payload)] })
  (Node.linkPump n.pair.waiting.length n).lagUpdate

/-- The acknowledgement field of a valid frame (R423). -/
def Node.linkAcked (n : Node) (a : Nat) : Node :=
  let n := n.updPair (fun p => { p with unacked := p.unacked.filter (fun u => 2147483648 ≤ (a + 4294967296 - u.1) % 4294967296) })
  (Node.linkPump n.pair.waiting.length n).lagUpdate

/-- The mirror's source: an active node with a partner on a link in service (R434, R435). -/
def Node.mirroring (n : Node) : Bool :=
  n.on PAIR_CTRL.EN && (n.pairSt = 2 || n.pairSt = 5) && n.on PAIR_STATUS.LINK && n.pair.peer.isSome && !n.on PAIR_STATUS.SOLO

/-! ### Journal frames (R434) -/

/-- JRNL frames for `bs` at a JRNL offset; `k` bounds their number. -/
def Node.jrnlFrames : Nat → Node → Nat → List Byte → Node
  | 0, n, _, _ => n
  | k + 1, n, off, bs =>
    if bs = [] then n
    else
      let part := bs.take 2040
      Node.jrnlFrames k (n.linkSend 2 0x10 (leBytes 4 off ++ leBytes 2 part.length ++ [0, 0] ++ part)) (off + part.length) (bs.drop 2040)

/-! ### Deltas (R435) -/

/-- A delta record. -/
def deltaRec (kind eng idx : Nat) (data : List Byte) : List Byte :=
  leBytes 1 kind ++ leBytes 1 eng ++ leBytes 2 data.length ++ leBytes 4 idx ++ data

/-- Records packed into parts of at most 2,040 bytes; a record lies in one part. -/
def packRecs (recs : List (List Byte)) : List (List Byte) :=
  recs.foldl (fun parts r => match parts.getLast? with
    | some p => if p.length + r.length ≤ 2040 then parts.dropLast ++ [p ++ r] else parts ++ [r]
    | none => [r]) []

/-- Send one delta (R435, R436): all its parts are queued together. Part numbers start at 0 (log entry 25). -/
def Node.mirrorDelta (n : Node) (recs : List (List Byte)) : Node :=
  if !n.mirroring || recs = [] then n
  else
    let parts := packRecs recs
    let d := (n.pair.deltaNo + 1) % 4294967296
    let bytes := (parts.map (·.length)).sum + n.pair.mirRem
    let n := (n.updPair (fun p => { p with deltaNo := d, mirRem := bytes % 1024 })).countBy PAIR_CNT_MIRBYTES.VALUE (bytes / 1024)
    (parts.zip (upTo parts.length)).foldl (fun (n : Node) (x : List Byte × Nat) =>
      n.linkSend 3 0x20 (leBytes 4 d ++ leBytes 2 x.2 ++ leBytes 2 parts.length ++ x.1)) n

/-- A write by an engine or the host port to a mirrored register: its effect, and its delta record of kind 7 (R435, R718). -/
def Node.mirrored (n : Node) (by_ : Initiator) (addr value : Nat) (f : Node → Node) : Node :=
  match by_ with
  | .unit => f n
  | .eng e => (f n).mirrorDelta [deltaRec 7 e addr (leBytes 4 value)]
  | _ => (f n).mirrorDelta [deltaRec 7 8 addr (leBytes 4 value)]

end Sys2Proof.Machine
end

