-- ==== Sys2Proof/Machine/Record.lean ====
section
/-! DEFINITION. The recorder's staging and what every unit uses of it (17_event_recorder.md R611 to R622): raising an event, firing the
triggers that name it, committing a record; and what a submission to MSG needs (R33 to R36). -/

namespace Sys2Proof.Machine

/-! ### Acceptance -/

/-- May work be accepted in pair mode (R33)? -/
def Node.pairAccept (n : Node) : Bool := n.on MSG_CTRL.EN && n.on PAIR_STATUS.SYNC && n.on PAIR_STATUS.LINK

/-- May work be accepted in solo mode (R34, R271)? -/
def Node.soloAccept (n : Node) : Bool := n.on MSG_CTRL.EN && n.on MSG_CTRL.PERSIST && n.on (QSPI_STATUS.READY 1)

/-- MSG_STATUS.MODE as the conditions stand (R33 to R36, R271): 0 not accepting, 1 pair, 2 solo. -/
def Node.acceptMode (n : Node) : Nat := if n.pairAccept then 1 else if n.soloAccept then 2 else 0

/-- Does the node act on a supply warning: PWR not NORMAL (R681)? -/
def Node.warning (n : Node) : Bool := n.rd PWR_STATUS.STATE ≠ 0

/-- Is handle `h` a granted gust of class `c` (R460)? -/
def Node.gustGranted (n : Node) (h c : Nat) : Bool := n.rd (PWR_GH.STATE h) = 1 && n.rd (PWR_GH.CLASS h) = c

/-- Base of JRNL (R246). -/
def jrnlBase : Nat := 0x203A0000

/-- The SRAM address of store block `b` (R246). -/
def blockAddr (b : Nat) : Nat := jrnlBase + 0x27000 + 64 * b

/-- The lowest free run of `k` store blocks at or after `from`, `used` sorted by first block (R247). -/
def findRun (k : Nat) : Nat → List (Nat × Nat) → Option Nat
  | lo, [] => if lo + k ≤ 13888 then some lo else none
  | lo, (b, len) :: t => if lo + k ≤ b then some lo else findRun k (max lo (b + len)) t

/-- A run put into the list of used runs, by first block. -/
def insRun (r : Nat × Nat) : List (Nat × Nat) → List (Nat × Nat)
  | [] => [r]
  | x :: t => if r.1 < x.1 then r :: x :: t else x :: insRun r t

/-- The blocks in use. -/
def usedBlocks (u : List (Nat × Nat)) : Nat := (u.map (·.2)).sum

/-- MSG_STORE after the used runs have changed: free blocks, and the fewest since reset (R272). -/
def Node.storeCount (n : Node) : Node :=
  let free := 13888 - usedBlocks n.msg.used
  (n.wr MSG_STORE.FREE free).wr MSG_STORE.FEWEST (min free (n.rd MSG_STORE.FEWEST))

/-- Reserve `k` contiguous store blocks; the first one, or none (R247, R257). The lowest run is taken: DESIGN CHOICE, log entry 9. -/
def Node.storeAlloc (n : Node) (k : Nat) : Option (Nat × Node) :=
  (findRun k 0 n.msg.used).map (fun b =>
    (b, ({ n with msg := { n.msg with used := insRun (b, k) n.msg.used } } : Node).storeCount))

/-- Free the run of store blocks that starts at `b`. -/
def Node.storeFree (n : Node) (b : Nat) : Node :=
  ({ n with msg := { n.msg with used := n.msg.used.filter (fun r => r.1 ≠ b) } } : Node).storeCount

/-- Shorten the run that starts at `b` to `k` blocks (an outbound body freed, R247). -/
def Node.storeTrim (n : Node) (b k : Nat) : Node :=
  ({ n with msg := { n.msg with used := n.msg.used.map (fun r => if r.1 = b then (b, k) else r) } } : Node).storeCount

/-- `bs` followed by zero bytes up to `k`. -/
def padTo (k : Nat) (bs : List Byte) : List Byte := bs ++ List.replicate (k - bs.length) 0

/-- The record block of an outbound message (R247); `rem` is its remaining lifetime in ms, `next` the block of the flow's next message
plus 1. The layout is the model's (log entry 11). -/
def outMsgRec (m : OutMsg) (rem next : Nat) : List Byte :=
  padTo 64 (leBytes 4 m.seq ++ leBytes 2 m.len ++ leBytes 2 m.block ++ leBytes 2 m.blocks ++ leBytes 2 m.sentOff
    ++ leBytes 1 (b2n m.accepted + 2 * b2n m.transmitted + 4 * b2n m.retx + 8 * b2n m.killing + 16 * b2n m.unresolved + 32 * b2n m.reported)
    ++ leBytes 1 (match m.cause with
      | none => 0
      | some .expired => 1
      | some .withdrawn => 2)
    ++ leBytes 2 m.held ++ leBytes 2 m.delivered ++ leBytes 2 m.killed ++ leBytes 2 next ++ leBytes 2 0
    ++ leBytes 4 m.order ++ leBytes 4 m.life ++ leBytes 4 rem)

/-- The remaining lifetime of an outbound message, ms (R262). -/
def Node.lifeLeft (n : Node) (m : OutMsg) : Nat :=
  match m.expire with
  | some t => (t - n.now + 999999) / 1000000
  | none => m.life

/-- JRNL offsets and bytes of the record blocks of a flow's messages. -/
def Node.outChain (n : Node) : List OutMsg → List (Nat × List Byte)
  | [] => []
  | m :: t => (0x27000 + 64 * m.block, outMsgRec m (n.lifeLeft m) (match t with
      | x :: _ => x.block + 1
      | [] => 0)) :: n.outChain t

/-- The record block of an inbound message (R247). -/
def inMsgRec (m : InMsg) (next : Nat) : List Byte :=
  padTo 64 (leBytes 4 m.seq ++ leBytes 2 m.len ++ leBytes 2 m.block ++ leBytes 2 m.blocks ++ leBytes 2 next
    ++ leBytes 1 (b2n m.held + 2 * b2n m.handed + 4 * b2n m.redelivered + 8 * b2n m.accepting))

/-- JRNL offsets and bytes of the record blocks of an inbound flow's messages. -/
def inChain : List InMsg → List (Nat × List Byte)
  | [] => []
  | m :: t => (0x27000 + 64 * m.block, inMsgRec m (match t with
      | x :: _ => x.block + 1
      | [] => 0)) :: inChain t

/-- The words of a window entry as bytes. -/
def Node.winBytes (n : Node) (first words i : Nat) : List Byte :=
  (upTo words).flatMap (fun k => leBytes 4 (n.reg (winAddr (first + 4 * k) i)).toNat)

/-- A guaranteed CAN record of 96 bytes (R269). -/
def canRecBytes (r : CanRec) : List Byte :=
  padTo 96 (leBytes 1 (match r.state with
      | .submitted => 1
      | .accepted => 2
      | .launched => 3
      | .complete => 4) ++ leBytes 1 r.chan ++ leBytes 2 r.entry ++ leBytes 4 r.sub ++ r.words.flatMap (fun w => leBytes 4 w.toNat))

/-- JRNL offsets and bytes of a piece (R246, R248, R434). The spec gives no layout of flow records, record blocks and CAN records: the
model's own is used (log entry 11). -/
def Node.pieceBytes (n : Node) (p : JPiece) : List (Nat × List Byte) :=
  match p with
  | .bytes off l => [(off, n.memBytes (jrnlBase + off) ((l + 3) / 4 * 4))]
  | .queue q =>
    let l := Tab.get (fun _ => []) n.msg.queues q
    let h := Tab.get (fun _ => 0) n.msg.qHead q
    (0x100 + 4 * q, leBytes 2 h ++ leBytes 2 l.length)
      :: (upTo l.length).map (fun i =>
        let o := 0xB000 + 4096 * q + 16 * ((h + i) % 256)
        (o, n.memBytes (jrnlBase + o) 16))
  | .outFlow f =>
    let l := (Tab.get (fun _ => []) n.msg.out f).filter (fun m => m.blocks ≠ 0)
    (0x1000 + 64 * f, padTo 64 (n.winBytes 0x40028064 6 f ++ leBytes 8 (Tab.get (fun _ => 0) n.msg.flowSrc f)
      ++ leBytes 2 (match l with
        | m :: _ => m.block + 1
        | [] => 0))) :: n.outChain l
  | .inFlow f =>
    let x := Tab.get (fun _ => InFlow.empty) n.msg.inb f
    let l := x.msgs.filter (fun m => m.blocks ≠ 0)
    (0x5000 + 64 * f, padTo 64 (n.winBytes 0x40028084 5 f ++ leBytes 1 (b2n x.recorded) ++ leBytes 8 x.killedPast
      ++ leBytes 2 (match l with
        | m :: _ => m.block + 1
        | [] => 0) ++ leBytes 1 (min 8 x.killed.length) ++ (x.killed.take 8).flatMap (leBytes 4))) :: inChain l
  | .members => [(0x9000, (upTo 1024).flatMap (n.winBytes 0x4002809C 2))]
  | .evrRec seq block len =>
    let half := 0x140 + 2 * (seq % 1194)
    let word := half / 4 * 4
    let v := setBits (n.memLe (jrnlBase + word) 4) (8 * (half - word)) 16 (if len = 0 then 0 else block + 1)
    (word, leBytes 4 v) :: (if len = 0 then [] else
      [(0x27000 + 64 * block, padTo 64 (leBytes 8 seq ++ leBytes 2 len)),
       (0x27000 + 64 * (block + 1), n.memBytes (jrnlBase + 0x27000 + 64 * (block + 1)) len)])
  | .canRec s => [(0x1B000 + 96 * s, match n.msg.canRecs.find? (fun r => r.slot = s) with
      | some r => canRecBytes r
      | none => List.replicate 96 0)]

/-- A change to JRNL is written there, mirrored to the partner (R434), and joins the unpersisted delta while the ring is in use (R248,
R249, R271: DEDUCED, log entry 10). -/
def Node.jchange (n : Node) (p : JPiece) (len : Nat) : Node :=
  let n := (n.pieceBytes p).foldl (fun (n : Node) (b : Nat × List Byte) =>
    let n := n.memPut (jrnlBase + b.1) b.2
    if n.mirroring then Node.jrnlFrames 5 n b.1 b.2 else n) n
  if !n.on MSG_CTRL.PERSIST then n else
  let n := { n with msg := { n.msg with changes := n.msg.changes ++ [(p, len)] } }
  n.wr MSG_DELTA.VALUE (sat 17 (n.rd MSG_DELTA.VALUE + len))

/-! ### Records -/

/-- The local stamp: operating time in ms, power-cycle count above it (R628). -/
def Node.stamp (n : Node) : Nat := n.evr.opNs / 1000000 % 2 ^ 40 + n.evr.powerCycles % 2 ^ 24 * 2 ^ 40

/-- The next area sequence. -/
def Node.evrSeq (n : Node) : Nat := n.rd64 EVR_SEQ_LO.VALUE EVR_SEQ_HI.VALUE

/-- The length of a record (R616). -/
def recLen (snaps payload : Nat) : Nat := max 48 ((48 + 8 * snaps + payload + 8 + 15) / 16 * 16)

/-- A record without its CRC and valid mark replaced by real ones: bytes 0 to L - 1 (R616). -/
def recBytes (kind code areaSeq origSeq origUid stamp mode node flags recVal comp : Nat) (snap : List (Nat × Nat))
    (payload : List Byte) : List Byte :=
  let len := recLen snap.length payload.length
  let body := leBytes 2 len ++ leBytes 1 kind ++ leBytes 1 code ++ leBytes 8 areaSeq ++ leBytes 8 origSeq ++ leBytes 8 origUid
    ++ leBytes 8 stamp ++ leBytes 1 mode ++ leBytes 1 node ++ leBytes 1 snap.length ++ leBytes 1 flags
    ++ leBytes 4 recVal ++ leBytes 4 comp ++ snap.flatMap (fun p => leBytes 4 p.1 ++ leBytes 4 p.2) ++ payload
  let body := body ++ List.replicate (len - 8 - body.length) 0
  body ++ leBytes 4 (crc32 body) ++ leBytes 4 0x45565252

/-- The staging slot of a record (R618). -/
def stageAddr (seq : Nat) : Nat := 0x20620000 + 384 * (seq % 1194)

/-- Unflushed bytes. -/
def stagedBytes (l : List StagedRec) : Nat := (l.map (·.len)).sum

/-- Is a class-4 gust granted to recorder flushes (R619)? -/
def Node.flushGust (n : Node) : Bool := n.gustGranted (n.rd EVR_FLUSH.VALUE) 4

/-- A flush starts, when the area can be written (R619, R626). -/
def Node.startFlush (n : Node) (c : FlushCause) : Node :=
  if n.rd EVR_STATUS.STATE = 2 && n.evr.unflushed ≠ [] then
    ({ n with evr := { n.evr with flush := some c } } : Node).wr EVR_STATUS.STATE 3
  else n

/-- Submit a committed record to MSG (R621); a record that finds no store blocks is staged unaccepted (DESIGN CHOICE, log entry 9). -/
def Node.submitRecord (n : Node) (seq len : Nat) : Node :=
  match n.storeAlloc (1 + (len + 63) / 64) with
  | some (b, n) =>
    let n := n.memPut (blockAddr (b + 1)) (n.memBytes (stageAddr seq) len)
    let n : Node := { n with evr := { n.evr with guarded := n.evr.guarded ++ [(seq, b, 1 + (len + 63) / 64, false)] }
                             msg := { n.msg with accq := n.msg.accq ++ [.record seq] } }
    n.jchange (.evrRec seq b len) (64 + len)
  | none => n

/-- MSG gives up a record: its valid mark is written, or it is not accepted (R621). -/
def Node.releaseRecord (n : Node) (seq : Nat) : Node :=
  match n.evr.guarded.find? (fun g => g.1 = seq) with
  | none => n
  | some g =>
    let n : Node := { n with evr := { n.evr with guarded := n.evr.guarded.filter (fun g => g.1 ≠ seq) }
                             msg := { n.msg with accq := n.msg.accq.filter (fun a => a ≠ .record seq) } }
    (n.storeFree g.2.1).jchange (.evrRec seq 0 0) 4

/-- Can a record be submitted for acceptance (R621)? A node in STANDBY (4) or RESYNC (3) accepts its own records under R34 only. -/
def Node.recordAcceptable (n : Node) : Bool :=
  !n.warning && (if n.rd PAIR_STATUS.STATE = 4 || n.rd PAIR_STATUS.STATE = 3 then n.soloAccept else n.acceptMode ≠ 0)

/-- Write a record into staging with the next area sequence (R616 to R618, R621). `raise` raises the events of EVR. -/
def Node.stageRecord (raise : Node → Field → Node) (n : Node) (w : WaitRec) (faultRec : Bool) : Node :=
  let seq := n.evrSeq
  let guar := w.guar && n.recordAcceptable
  let flags := b2n guar + 2 * b2n (n.rd ENG0_FSTAT.ACTIVE ≠ 0) + 4 * b2n n.warning
  let bytes := recBytes w.kind w.code seq seq n.uid n.stamp 0 (n.rd BAR_STATUS.NODE) flags w.recVal (n.rd BAR_COMPID.VALUE) w.snap w.payload
  let len := bytes.length
  let before := n.evr.unflushed
  let after := before ++ [⟨seq, len, faultRec⟩]
  let n := (n.memPut (stageAddr seq) bytes).wr64 EVR_SEQ_LO.VALUE EVR_SEQ_HI.VALUE (seq + 1)
  let n := ({ n with evr := { n.evr with unflushed := after } } : Node).wr EVR_STATUS.UNFLUSHED (stagedBytes after)
  let n := n.count EVR_CNT_RECORDS.VALUE
  let n := if w.guar && !guar then n.count EVR_CNT_UNACC.VALUE else n
  let n := if guar then n.submitRecord seq len else n
  let full := fun (l : List StagedRec) => decide (49152 ≤ stagedBytes l) || decide (768 ≤ l.length)
  let n := if full after && !full before then raise n EVR_EVT.FLUSHREQ else n
  let n := if (65536 ≤ stagedBytes after || 1024 ≤ after.length) && n.flushGust then n.startFlush .full else n
  if faultRec then n.startFlush .faultFlush else n

/-- A record's bytes as a copy of another kind with a new area sequence (R627, R629): stamp mode and stamp as given. -/
def copyBytes (bs : List Byte) (kind seq mode stamp : Nat) : List Byte :=
  let b := bs.take 2 ++ leBytes 1 kind ++ slice bs 3 1 ++ leBytes 8 seq ++ slice bs 12 16 ++ leBytes 8 stamp ++ leBytes 1 mode
    ++ slice bs 37 (bs.length - 45)
  b ++ leBytes 4 (crc32 b) ++ leBytes 4 0x45565252

/-- A copy written into staging with the next area sequence (R618); not guaranteed again by EVR. -/
def Node.stageCopy (n : Node) (bs : List Byte) : Node :=
  let seq := n.evrSeq
  let after := n.evr.unflushed ++ [⟨seq, bs.length, false⟩]
  let n := (n.memPut (stageAddr seq) bs).wr64 EVR_SEQ_LO.VALUE EVR_SEQ_HI.VALUE (seq + 1)
  let n := ({ n with evr := { n.evr with unflushed := after } } : Node).wr EVR_STATUS.UNFLUSHED (stagedBytes after)
  n.count EVR_CNT_RECORDS.VALUE

/-- The partner's accepted and unpersisted records, as the mirrored journal holds them, stored as kind 4 copies (R627). -/
def Node.recordTakeover (n : Node) : Node :=
  if n.rd EVR_STATUS.STATE = 0 then n
  else
    (upTo 1194).foldl (fun (n : Node) (i : Nat) =>
      let h := n.memLe (jrnlBase + 0x140 + 2 * i) 2
      if h = 0 then n
      else
        let a := blockAddr (h - 1)
        let bs := n.memBytes (a + 64) (n.memLe (a + 8) 2)
        let n := n.memPut (jrnlBase + 0x140 + 2 * i) [0, 0]
        if bs.length < 48 then n
        else
          let seq := n.evrSeq
          let n := n.stageCopy (copyBytes bs 4 seq (le bs 36 1) (le bs 28 8))
          let n := n.submitRecord seq bs.length
          { n with evr := { n.evr with guarded := n.evr.guarded.map (fun g => if g.1 = seq then (g.1, g.2.1, g.2.2.1, true) else g) }
                   msg := { n.msg with accq := n.msg.accq.filter (fun x => x ≠ .record seq) } }) n

/-- The LOSS record that precedes the next commit after drops or missed occurrences (R620, R622). -/
def Node.commitLoss (raise : Node → Field → Node) (n : Node) : Node :=
  if n.evr.lossCount = 0 then n
  else
    let w : WaitRec := ⟨2, 1, true, 0, [], leBytes 4 n.evr.lossCount ++ leBytes 8 n.evr.lossFirst⟩
    let n := { n with evr := { n.evr with lossCount := 0 } }
    raise (n.stageRecord raise w false) EVR_EVT.LOSS

/-- One more occurrence for the next LOSS record. -/
def Node.lossNote (n : Node) : Node :=
  { n with evr := { n.evr with lossFirst := if n.evr.lossCount = 0 then n.evrSeq else n.evr.lossFirst
                               lossCount := n.evr.lossCount + 1 } }

/-- Commit a record (R617, R620, R622): nothing while EVR is off, counted in MISSED while commits are held or EVR clears. -/
def Node.commitWith (raise : Node → Field → Node) (n : Node) (w : WaitRec) (faultRec : Bool) : Node :=
  let st := n.rd EVR_STATUS.STATE
  if st = 0 then n
  else if n.evr.held || st = 4 then (n.count EVR_CNT_MISSED.VALUE).lossNote
  else
    let len := recLen w.snap.length w.payload.length
    let fits := stagedBytes n.evr.unflushed + len ≤ 65536 && n.evr.unflushed.length + 1 ≤ 1024
    if fits || n.flushGust then (n.commitLoss raise).stageRecord raise w faultRec
    else if faultRec then { n with evr := { n.evr with waiting := n.evr.waiting ++ [w] } }
    else (n.count EVR_CNT_LOST.VALUE).lossNote

/-- The snapshot a trigger lists (R613). -/
def Node.snapshot (n : Node) (t : Nat) : List (Nat × Nat) :=
  (upTo (min 32 (n.rd (EVR_TW1.COUNT t)))).map (fun i =>
    let a := n.rd (EVR_SADDR.ADDR (32 * t + i))
    (a, (n.look a).toNat))

/-- Fire trigger `t` (R611, R613, R614). -/
def Node.fireWith (raise : Node → Field → Node) (recVal : Nat) (n : Node) (t : Nat) : Node :=
  let st := n.rd EVR_STATUS.STATE
  if st = 0 || !n.on (EVR_TW0.EN t) then n
  else
    let last := Tab.get (fun _ => 0) n.evr.lastFired t
    if n.evr.held || st = 4 then (n.count EVR_CNT_MISSED.VALUE).lossNote
    else if last ≠ 0 && n.now + 1 < last + n.rd (EVR_TW1.HOLDOFF t) * 1000000 then n.count EVR_CNT_MISSED.VALUE
    else
      let n := { n with evr := { n.evr with lastFired := Tab.set (fun _ => 0) n.evr.lastFired t (n.now + 1) } }
      n.commitWith raise ⟨1, t, n.on (EVR_TW0.GUAR t), recVal, n.snapshot t, []⟩
        (n.on (EVR_TW0.FLUSH t) || n.rd (EVR_TW0.KIND t) = 3)

/-- Set an EVT bit and, while its enable is 1, fire every trigger that names it, in trigger order (R611). The EVT_EN word follows
its EVT word in every block. `fuel` bounds the events that records raise in turn. -/
def Node.raiseN : Nat → Node → Field → Node
  | 0, n, f => n.wrB f true
  | fuel + 1, n, f =>
    let n := n.wrB f true
    if bit (n.reg (f.addr + 4)).toNat f.lo then
      ((upTo 64).filter (fun t => n.rd (EVR_TW0.KIND t) = 1 && n.rd (EVR_TW0.SRC t) = f.addr / 4096 % 256
        && n.rd (EVR_TW0.BIT t) = f.lo)).foldl (fun n t => n.fireWith (Node.raiseN fuel) 0 t) n
    else n

/-- Raise an event of a unit (R611). Records it causes raise at most FLUSHREQ and LOSS in turn. -/
def Node.raise (n : Node) (f : Field) : Node := Node.raiseN 3 n f

/-- Raise event bit `i` of the EVT word that field `f` lies in. -/
def Node.raiseBit (n : Node) (f : Field) (i : Nat) : Node := n.raise ⟨f.addr, i, 1⟩

/-- Raise an event when a condition holds. -/
def Node.raiseIf (n : Node) (c : Bool) (f : Field) : Node := if c then n.raise f else n

/-- A system fault of a code (R612) fires the triggers of kind 3 that name it. -/
def Node.sysFault (n : Node) (code : Nat) : Node :=
  ((upTo 64).filter (fun t => n.rd (EVR_TW0.KIND t) = 3 && n.rd (EVR_TW0.SRC t) = code)).foldl
    (fun n t => n.fireWith Node.raise 0 t) n

/-- Commit a fixed record (R615); ENGSTOP (13) and GUARDLATCH (14) start a fault flush. -/
def Node.fixedRecord (n : Node) (code : Nat) (payload : List Byte) : Node :=
  n.commitWith Node.raise ⟨2, code, true, 0, [], payload⟩ (code = 13 || code = 14)

/-- A bus error to an initiator (R23, R612 code 7, R685). -/
def Node.busError (n : Node) (by_ : Initiator) : Node :=
  let n := n.raise SYS_EVT.BUSERR
  match by_ with
  | .eng _ => n.sysFault 7
  | .host => n.sysFault 7
  | _ => n

/-- An uncorrectable word at `a` has been met (R24, R612 code 5). -/
def Node.uncorrectable (n : Node) : Node := n.sysFault 5

end Sys2Proof.Machine
end

