-- ==== Sys2Proof/Machine/TimeBase.lean ====
section
/-! DEFINITION. The four time bases (14_time.md R518 to R527): counting, steering of TB_TRAIN, steps, the clock-step record. -/

namespace Sys2Proof.Machine

/-- A signed rate in ppb, limited to `lim` either way (R542). -/
def rateOf (v lim : Nat) : Int :=
  let r := signed32 v
  if r < -(lim : Int) then -(lim : Int) else if (lim : Int) < r then (lim : Int) else r

/-- The value of the base of a code (R518). -/
def Node.base (n : Node) (code : Nat) : Word :=
  if code = 0 then n.time.train else if code = 1 then n.time.ptp else if code = 2 then BitVec.ofNat 32 n.now else n.time.utc

/-- Advance a base by an accumulator: whole ns out, the rest kept (R520). -/
def accStep (frac : Nat) (period : Nat) (rate : Int) : Nat × Nat :=
  let total := frac + period * (1000000000 + rate).toNat
  (total / 1000000000, total % 1000000000)

/-- The wrap event of base `code`, when its count has passed 0xFFFF_FFFF while advancing (R519). -/
def Node.wrapEvent (n : Node) (code : Nat) (old new : Word) : Node :=
  if new.toNat < old.toNat then n.raiseBit TIME_EVT.WRAP code else n

/-- One CLK_SYS period: TB_LOCAL, TB_UTC, TB_TRAIN and TB_PTP count (R518 to R520, R716), and the recorder's operating time runs
while EN is 1 (R628). -/
def Node.tick (n : Node) : Node :=
  let old := n.time
  let t := n.time
  let t := { t with now := t.now + 2 }
  let u := accStep t.utcFrac 2 (rateOf (n.rd TIME_UTCRATE.RATE) 200000)
  let t := { t with utc := t.utc + BitVec.ofNat 32 u.1, utcFrac := u.2 }
  let tr := t.trainFrac + 2 * (1000000000 + signed32 (n.rd CLK_LINESTEER.STEER)).toNat
  let t := if 4000000000 ≤ tr then
      { t with train := t.train + toWord (4 + 4 * t.slew), trainFrac := tr - 4000000000, slew := 0 }
    else { t with trainFrac := tr }
  let p := accStep t.ptpFrac 8 (rateOf (n.rd TIME_PTPRATE.RATE) 500000)
  let t := if t.ethPhase = 3 then { t with ptp := t.ptp + BitVec.ofNat 32 p.1, ptpFrac := p.2, ethPhase := 0 }
    else { t with ethPhase := t.ethPhase + 1 }
  let n := { n with time := t, evr := if n.on EVR_CTRL.EN then { n.evr with opNs := n.evr.opNs + 2 } else n.evr }
  let n := n.wrapEvent 0 old.train t.train
  let n := n.wrapEvent 1 old.ptp t.ptp
  let n := n.wrapEvent 2 (BitVec.ofNat 32 old.now) (BitVec.ofNat 32 t.now)
  n.wrapEvent 3 old.utc t.utc

/-- The table of pending launches replaced; TIME_LQ follows (R543). -/
def Node.setLaunches (n : Node) (l : List Launch) : Node :=
  let n := { n with time := { n.time with launches := l } }
  (n.wr TIME_LQ.PENDING l.length).wr TIME_LQ.MAX (max (n.rd TIME_LQ.MAX) l.length)

/-- What every step of a base does (R534): its count, the signed difference, its event and the clock-step record. -/
def Node.stepped (n : Node) (code : Nat) (before after : Word) : Node :=
  let diff := (after - before).toNat
  let n := if code = 0 then { n with time := { n.time with stepsTrain := n.time.stepsTrain + 1 } }
    else if code = 1 then { n with time := { n.time with stepsPtp := n.time.stepsPtp + 1 } }
    else { n with time := { n.time with stepsUtc := n.time.stepsUtc + 1 } }
  let n := if code = 0 then n.wr TIME_STEPTR.VALUE diff else if code = 1 then n.wr TIME_STEPPTP.VALUE diff
    else n.wr TIME_STEPUTC.VALUE diff
  let n := n.count TIME_CNT_STEPS.VALUE
  let n := n.raise (if code = 0 then TIME_EVT.TRSTEP else if code = 1 then TIME_EVT.PTPSTEP else TIME_EVT.UTCSTEP)
  n.fixedRecord 4 (leBytes 4 code ++ leBytes 4 before.toNat ++ leBytes 4 after.toNat)

/-- TRLOCK set or cleared, with LOCK when it changes (R524, R544). -/
def Node.setTrLock (n : Node) (b : Bool) : Node :=
  if n.on TIME_STATUS.TRLOCK = b then n else (n.wrB TIME_STATUS.TRLOCK b).raise TIME_EVT.LOCK

/-- A step of TB_TRAIN by `e`: launches on it keep their real-time moment (R523, R532). -/
def Node.trainStep (n : Node) (e : Int) : Node :=
  let before := n.time.train
  let after := before + toWord e
  let n := { n with time := { n.time with train := after, lockRun := 0 } }
  let n := n.setLaunches (n.time.launches.map (fun l => if l.base = 0 then { l with time := l.time + toWord e } else l))
  (n.stepped 0 before after).setTrLock false

/-- The steering F after a beacon with phase error `e` (R716). -/
def steerNext (f e : Int) : Int :=
  let x := Int.tdiv (f * 256 + e * 1000) 256
  if x < -100000 then -100000 else if 100000 < x then 100000 else x

/-- A valid governing beacon as train time sees it (R522, R523, R716, R524): `captured` is TB_TRAIN at its S0 boundary, `stamp` the
lead's stamp; `merge` marks the beacon of a merge commit in the joining part. -/
def Node.trainBeacon (n : Node) (captured stamp : Word) (merge : Bool) : Node :=
  let e := signed32 (stamp + BitVec.ofNat 32 (4 * n.rd INA_DELAY.VALUE) - captured).toNat
  let n := ((n.wr TIME_TRERR.VALUE (toWord e).toNat).wr TIME_BCNTR.VALUE captured.toNat).wr TIME_BCNLOC.VALUE (n.now % 4294967296)
  let n := (n.wr TIME_STATUS.HOLDOVER 0).wr TIME_STATUS.LEAD 0
  let first := !n.time.beaconSeen
  let n := { n with time := { n.time with beaconSeen := true, holdRun := 0 } }
  if !n.on TIME_CTRL.TRSTEER then n
  else
    let n := n.wr TIME_STATUS.TRVALID 1
    let thr := max 1 (n.rd TIME_CTRL.STEPTHR) * 1000
    if first || merge || thr < e.natAbs then n.trainStep e
    else
      let slew : Int := if 4 ≤ e then 1 else if e ≤ -4 then -1 else 0
      let f := steerNext (signed32 (n.rd CLK_LINESTEER.STEER)) e
      let run := if e.natAbs ≤ 40 then n.time.lockRun + 1 else 0
      let n := ({ n with time := { n.time with slew := slew, lockRun := run } } : Node).wr CLK_LINESTEER.STEER (toWord f).toNat
      if 16 ≤ run then n.setTrLock true else n

/-- A cycle without a valid governing beacon: holdover (R525, R524). -/
def Node.trainHoldover (n : Node) : Node :=
  let run := n.time.holdRun + 1
  let entering := !n.on TIME_STATUS.HOLDOVER
  let n := { n with time := { n.time with holdRun := run, lockRun := 0, slew := 0 } }
  let n := (n.wr TIME_STATUS.HOLDOVER 1).wr TIME_STATUS.HOLDCYC (sat 16 run)
  let n := n.raiseIf entering TIME_EVT.HOLDOVER
  if 64 ≤ run then n.setTrLock false else n

/-- The node is lead: train time from its own clock (R521, R716). -/
def Node.trainLead (n : Node) : Node :=
  let n := ((n.wr TIME_STATUS.LEAD 1).wr TIME_STATUS.TRVALID 1).wr TIME_STATUS.HOLDOVER 0
  let n := { n with time := { n.time with slew := 0, holdRun := 0 } }
  (n.wr CLK_LINESTEER.STEER 0).setTrLock true

/-- TIME_SNAP.GO: all four bases and the step counts of one instant (R22, R527). -/
def Node.timeSnap (n : Node) : Node :=
  let n := (upTo 4).foldl (fun n i => n.wr (TIME_SNAPV.VALUE i) (n.base i).toNat) n
  ((n.wr TIME_SNAPSTEP.TRAIN (n.time.stepsTrain % 256)).wr TIME_SNAPSTEP.PTP (n.time.stepsPtp % 256)).wr TIME_SNAPSTEP.UTC
    (n.time.stepsUtc % 256)

/-- TIME_SNAP: TIME_SNAP.GO captures all four bases and step counts (R527). -/
def execTimeSnap (by_ : Initiator) (s : State) : Host.Outcome State Fault Refusal :=
  s.onNode (fun n => n.mirrored by_ TIME_SNAP.GO.addr 1 (·.timeSnap))

/-- BASE_WRAP: the base of a code counts through 0xFFFF_FFFF to 0 and raises its wrap event (R519): it acts when the base's next
count wraps, as one CLK_SYS period. -/
def execBaseWrap (base : Fin 4) (s : State) : Host.Outcome State Fault Refusal :=
  s.onNode (fun n => if (n.tick.base base).toNat < (n.base base).toNat then n.tick else n)

end Sys2Proof.Machine
end

