-- ==== Sys2Proof/Machine/Messages.lean ====
section
/-! DEFINITION. MSG: flows, submission, acceptance, holding and delivery, reports, the journal (06_messages.md). -/

namespace Sys2Proof.Machine

/-! ### The directory and roles as MSG sees them -/

/-- Is the node in the active role (R432, R433: OFF acts as active in solo mode)? -/
def Node.isActive (n : Node) : Bool :=
  let st := n.rd PAIR_STATUS.STATE
  st = 0 || st = 2 || st = 5

/-- The node's own partner's UID (R429). -/
def Node.peerUid (n : Node) : Nat := n.rd64 PAIR_PEERUID_LO.VALUE PAIR_PEERUID_HI.VALUE

/-- The current cycle number. -/
def Node.cycle (n : Node) : Nat := n.rd BAR_CYCLE.VALUE

/-! ### Sequence numbers (R237): 32 bits, skipping 0 -/

/-- The sequence `k` places after `s`. -/
def seqAdd (s k : Nat) : Nat := if s = 0 ∧ k = 0 then 0 else (s + 4294967294 + k) % 4294967295 + 1

/-- How far `s` lies after `rs`, modulo the 2^32 - 1 sequences. -/
def seqDist (rs s : Nat) : Nat := (s + 4294967295 - rs) % 4294967295

/-- Is `s` at or before `rs`? -/
def seqResolved (rs s : Nat) : Bool := seqDist rs s = 0 || 2147483648 ≤ seqDist rs s

/-! ### Flow tables -/

/-- The messages of an outbound flow. -/
def Node.outMsgs (n : Node) (f : Nat) : List OutMsg := Tab.get (fun _ => []) n.msg.out f

/-- The messages of an outbound flow replaced; W3 OUTSTANDING follows (R267, R274). -/
def Node.setOutMsgs (n : Node) (f : Nat) (l : List OutMsg) : Node :=
  let n := { n with msg := { n.msg with out := Tab.set (fun _ => []) n.msg.out f l } }
  n.wr (MSG_OFW3.OUTSTANDING f) (sat 7 l.length)

/-- One message of a flow changed. -/
def Node.updOut (n : Node) (f seq : Nat) (g : OutMsg → OutMsg) : Node :=
  n.setOutMsgs f ((n.outMsgs f).map (fun m => if m.seq = seq then g m else m))

/-- An inbound flow's record. -/
def Node.inFlow (n : Node) (f : Nat) : InFlow := Tab.get (fun _ => InFlow.empty) n.msg.inb f

/-- An inbound flow's record replaced; W4 HELD follows (R275). -/
def Node.setInFlow (n : Node) (f : Nat) (x : InFlow) : Node :=
  let n := { n with msg := { n.msg with inb := Tab.set (fun _ => InFlow.empty) n.msg.inb f x } }
  n.wr (MSG_IFW4.HELD f) (sat 7 (x.msgs.filter (·.held)).length)

/-- One message of an inbound flow changed. -/
def Node.updIn (n : Node) (f seq : Nat) (g : InMsg → InMsg) : Node :=
  let x := n.inFlow f
  n.setInFlow f { x with msgs := x.msgs.map (fun m => if m.seq = seq then g m else m) }

/-- The descriptors of a delivery queue, oldest first. -/
def Node.dq (n : Node) (q : Nat) : List Desc := Tab.get (fun _ => []) n.msg.queues q

/-- A delivery queue replaced; MSG_DQ's DEPTH and READ follow (R277). -/
def Node.setDq (n : Node) (q : Nat) (l : List Desc) : Node :=
  let n := { n with msg := { n.msg with queues := Tab.set (fun _ => []) n.msg.queues q l } }
  (n.wr (MSG_DQ.DEPTH q) l.length).wr (MSG_DQ.READ q) (l.filter (·.read)).length

/-- The bitmap of the listed positions. -/
def memberBits (ms : List (Nat × Nat)) : Nat := ms.foldl (fun a m => a ||| 2 ^ m.1) 0

/-- Does the bitmap `a` cover `b`? -/
def covers (a b : Nat) : Bool := a &&& b = b

/-! ### Descriptors and reports -/

/-- The 16 bytes of a descriptor (R259). -/
def descBytes (d : Desc) : List Byte :=
  if d.report then
    leBytes 1 2 ++ leBytes 1 (2 * b2n d.flag) ++ leBytes 1 d.flow ++ leBytes 1 d.code ++ leBytes 4 d.seq
      ++ leBytes 2 d.deliveredBits ++ leBytes 2 d.killedBits ++ leBytes 4 0
  else
    leBytes 1 1 ++ leBytes 1 (b2n d.flag) ++ leBytes 1 d.flow ++ leBytes 1 0 ++ leBytes 4 d.seq
      ++ leBytes 4 d.addr ++ leBytes 2 d.len ++ leBytes 1 d.srcFlow ++ leBytes 1 0

/-- The JRNL address of ring place `i` of queue `q` (R246). -/
def dqAddr (q i : Nat) : Nat := jrnlBase + 0xB000 + 4096 * q + 16 * (i % 256)

/-- Put a descriptor into a queue that has room: the ring slot is written (R246, R259). -/
def Node.enqueue (n : Node) (q : Nat) (d : Desc) : Node :=
  let l := n.dq q
  let a := dqAddr q (Tab.get (fun _ => 0) n.msg.qHead q + l.length)
  ((n.memPut a (descBytes d)).setDq q (l ++ [d])).jchange (.queue q) 16

/-- Queue a report, or keep it until its queue has room (R261). -/
def Node.report (n : Node) (f code seq : Nat) (late : Bool) (del kil : Nat) : Node :=
  let q := n.rd (MSG_OFW0.RQ f)
  let d : Desc := ⟨true, late, f, code, seq, 0, 0, 0, del, kil, false⟩
  if (n.dq q).length < 256 then n.enqueue q d
  else { n with msg := { n.msg with waitReports := n.msg.waitReports ++ [(q, d)] } }

/-- Queue the reports that waited for room in queue `q`. -/
def Node.flushReports (n : Node) (q : Nat) : Node :=
  let mine := n.msg.waitReports.filter (·.1 = q)
  let n := { n with msg := { n.msg with waitReports := n.msg.waitReports.filter (·.1 ≠ q) } }
  mine.foldl (fun n w => if (n.dq q).length < 256 then n.enqueue q w.2
    else { n with msg := { n.msg with waitReports := n.msg.waitReports ++ [w] } }) n

/-- Is a message resolved for every listed destination (R263)? -/
def resolvedAll (ms : List (Nat × Nat)) (m : OutMsg) : Bool := covers (m.delivered ||| m.killed) (memberBits ms)

/-- The code of a final report (R265). -/
def finalCode (group : Bool) (m : OutMsg) : Nat :=
  if m.killed = 0 then 1
  else if group && m.delivered ≠ 0 then 4
  else match m.cause with
    | some .withdrawn => 3
    | _ => 2

/-- After a destination's answer: the body is freed when every listed destination holds it, and a resolved message gets its final
report and leaves the store (R247, R263, R265); without a report (code 1 and DELREP 0) it leaves the window at once. The report of a message
never transmitted names no destination as having killed it, since none answered a probe (R259, R265; log entry 91). -/
def Node.settleOut (n : Node) (f seq : Nat) : Node :=
  match (n.outMsgs f).find? (fun m => m.seq = seq && m.accepted && !m.reported) with
  | none => n
  | some m =>
    let ms := n.members f
    if resolvedAll ms m then
      let n := (n.storeFree m.block).jchange (.outFlow f) 64
      let code := finalCode (n.rd (MSG_OFW0.DKIND f) = 2) m
      if code = 1 && !n.on (MSG_OFW0.DELREP f) then n.setOutMsgs f ((n.outMsgs f).filter (·.seq ≠ seq))
      else (n.updOut f seq (fun m => { m with reported := true, blocks := 0 })).report f code seq m.unresolved
        (m.delivered % 65536) (if m.transmitted || m.sentOff ≠ 0 then m.killed % 65536 else 0)
    else if covers (m.held ||| m.delivered ||| m.killed) (memberBits ms) && 1 < m.blocks then
      (n.storeTrim m.block 1).updOut f seq (fun m => { m with blocks := 1 })
    else n

/-! ### Mode and submission -/

/-- MSG_STATUS.MODE and DEGRADED follow their conditions; MODE is raised when either changes (R35, R271, R279). -/
def Node.refreshMode (n : Node) : Node :=
  let m := n.acceptMode
  let deg := n.on PAIR_CTRL.EN && m = 2
  let changed := decide (n.rd MSG_STATUS.MODE ≠ m) || (n.on MSG_STATUS.DEGRADED != deg)
  let n := (n.wr MSG_STATUS.MODE m).wrB MSG_STATUS.DEGRADED deg
  n.raiseIf changed MSG_EVT.MODE

/-- The guarantee has lapsed (R38): the status bit, the event and the record with its cause (R615). -/
def Node.lapse (n : Node) (cause detail : Nat) : Node :=
  ((n.wr MSG_STATUS.LAPSED 1).raise MSG_EVT.LAPSED).fixedRecord 6 (leBytes 4 cause ++ leBytes 4 detail)

/-- The first code of R242 that applies to a submission by `caller` (0 to 7 an engine, 8 the host port), 0 when none does; FULL (6) is
found by the allocation. -/
def Node.submitCode (n : Node) (caller f len life expect : Nat) : Nat :=
  let kind := n.rd (MSG_OFW0.DKIND f)
  if (kind ≠ 1 && kind ≠ 2) || n.rd (MSG_OFW0.OWNER f) ≠ caller then 1
  else if len = 0 || 4096 < len then 2
  else if 86400000 < life then 3
  else if expect ≠ 0 && expect ≠ n.rd (MSG_OFW4.NEXTSEQ f) then 4
  else if 64 ≤ (n.outMsgs f).length then 5
  else if (n.storeAlloc (1 + (len + 63) / 64)).isNone then 6
  else if n.acceptMode = 0 then 7
  else if n.on MSG_CTRL.PERSIST && 65536 < n.rd MSG_DELTA.VALUE + 64 + len then 8
  else if n.warning then 9
  else 0

/-- Submit a message (R242, R243): result code, and the node after it. On SUBMITTED the body is copied into the store and the
submission waits for its acceptance. -/
def Node.submit (n : Node) (caller f addr len life expect : Nat) : Nat × Node :=
  let code := n.submitCode caller f len life expect
  if code ≠ 0 then
    let n := n.count MSG_CNT_REFUSED.VALUE
    let n := n.raiseIf (code = 7 || code = 8 || code = 9) MSG_EVT.REFUSED
    (code, n.raiseIf (code = 6) MSG_EVT.FULL)
  else
    let k := 1 + (len + 63) / 64
    match n.storeAlloc k with
    | none => (6, n)
    | some (b, n) =>
      let seq := n.rd (MSG_OFW4.NEXTSEQ f)
      let m : OutMsg := ⟨seq, len, b, k, life, none, false, 0, false, 0, 0, false, 0, 0, 0, none, false, 0, false, false⟩
      let n := n.memPut (blockAddr b + 64) (n.memBytes addr len)
      let n := (n.setOutMsgs f (n.outMsgs f ++ [m])).wr (MSG_OFW4.NEXTSEQ f) (seqAdd seq 1)
      let n := { n with msg := { n.msg with accq := n.msg.accq ++ [AccItem.outbound f seq] } }
      let n := (n.jchange (.outFlow f) 64).jchange (.bytes (blockAddr b + 64 - jrnlBase) ((len + 3) / 4 * 4)) ((len + 3) / 4 * 4)
      (0, n.count MSG_CNT_SUBMIT.VALUE)

/-- A submission that is not accepted leaves the window and the store (R244, R267, R37). -/
def Node.unsubmit (n : Node) (f seq : Nat) : Node :=
  match (n.outMsgs f).find? (·.seq = seq) with
  | none => n
  | some m => ((n.storeFree m.block).setOutMsgs f ((n.outMsgs f).filter (·.seq ≠ seq))).wr (MSG_OFW4.NEXTSEQ f) (seqAdd (n.rd (MSG_OFW5.ACCSEQ f)) 1)

/-- An outbound message is accepted (R243, R262). -/
def Node.acceptOut (n : Node) (f seq : Nat) : Node :=
  let ord := n.msg.order
  let n := { n with msg := { n.msg with order := ord + 1 } }
  let t := n.now
  let n := n.updOut f seq (fun m =>
    { m with accepted := true, order := ord, expire := if m.life = 0 then none else some (t + m.life * 1000000) })
  let n := ((n.wr (MSG_OFW5.ACCSEQ f) seq).count MSG_CNT_ACCEPT.VALUE).jchange (.outFlow f) 64
  if n.on (MSG_OFW0.ACCREP f) then n.report f 7 seq false 0 0 else n

/-! ### Withdrawal, expiry, kills -/

/-- A kill starts for the destinations that do not hold the message; one never transmitted is resolved at once (R263). -/
def Node.startKill (n : Node) (f : Nat) (m : OutMsg) (c : KillCause) : Node :=
  let n := { n with msg := { n.msg with probes := n.msg.probes ++ [(f, m.seq, true)] } }
  if !m.transmitted && m.sentOff = 0 then
    let all := memberBits (n.members f)
    (n.updOut f m.seq (fun m => { m with cause := some c, killing := true, killed := all })).settleOut f m.seq
  else (n.updOut f m.seq (fun m => { m with cause := some c, killing := true, lastProbe := n.cycle })).jchange (.outFlow f) 64

/-- QWDR and MSG_HWDR (R242, R263, R265): result code, and the node after it. -/
def Node.withdraw (n : Node) (caller f seq : Nat) : Nat × Node :=
  let kind := n.rd (MSG_OFW0.DKIND f)
  if (kind ≠ 1 && kind ≠ 2) || n.rd (MSG_OFW0.OWNER f) ≠ caller then (1, n)
  else
    match (n.outMsgs f).find? (fun m => m.seq = seq && m.accepted && !m.reported) with
    | none => (10, n)
    | some m =>
      if m.killing then (0, n)
      else
        let some_ := m.held ||| m.delivered
        let n := if some_ ≠ 0 then n.report f 5 seq false (m.delivered % 65536) (m.killed % 65536) else n
        if covers some_ (memberBits (n.members f)) then (0, n) else (0, n.startKill f m .withdrawn)

/-- A message's lifetime expires (R262, R263). -/
def Node.expireMsg (n : Node) (f seq : Nat) : Node :=
  match (n.outMsgs f).find? (fun m => m.seq = seq && m.accepted && !m.reported && m.life ≠ 0) with
  | none => n
  | some m =>
    if m.killing || covers (m.held ||| m.delivered) (memberBits (n.members f)) then n else n.startKill f m .expired

/-! ### Receiving -/

/-- An acknowledgement goes in the node's next slot, one per source UID and flow (R255). -/
def Node.ackDue (n : Node) (a : AckDue) : Node :=
  { n with msg := { n.msg with acks := n.msg.acks.filter (fun b => b.srcUid ≠ a.srcUid || b.srcFlow ≠ a.srcFlow) ++ [a] } }

/-- The open inbound flow that takes a source UID and flow without binding (R240). -/
def Node.inMatch (n : Node) (uid sf : Nat) : Option Nat :=
  (upTo 256).find? (fun f => n.on (MSG_IFW0.OPEN f) && n.rd (MSG_IFW0.SRCFLOW f) = sf
    && n.rd64 (MSG_IFW1.SRCUID_LO f) (MSG_IFW2.SRCUID_HI f) = uid
    && (!n.on (MSG_IFW0.ANYSRC f) || n.on (MSG_IFW4.BOUND f)))

/-- The lowest open flow with ANYSRC that can bind (R240). -/
def Node.inBindable (n : Node) (sf : Nat) : Option Nat :=
  (upTo 256).find? (fun f => n.on (MSG_IFW0.OPEN f) && n.on (MSG_IFW0.ANYSRC f) && n.rd (MSG_IFW0.SRCFLOW f) = sf
    && !n.on (MSG_IFW4.BOUND f))

/-- Is the message for this node (R238, R239)? -/
def Node.forUs (n : Node) (group : Bool) (dest : Nat) : Bool :=
  if group then (upTo 16).any (fun g => n.on (MSG_GROUP.EN g) && n.rd (MSG_GROUP.GROUP g) = dest % 65536)
  else dest = n.uid || (n.on PAIR_CTRL.EN && n.peerUid ≠ 0 && dest = n.peerUid)

/-- RS advances over every killed sequence that follows it (R255, R261); `k` bounds the walk by the number of killed sequences. -/
def Node.advanceRs (f : Nat) : Nat → Node → Node
  | 0, n => n
  | k + 1, n =>
    let x := n.inFlow f
    let nextSeq := seqAdd (n.rd (MSG_IFW3.RS f)) 1
    if x.killed.contains nextSeq then
      Node.advanceRs f k ((n.setInFlow f { x with killed := x.killed.filter (· ≠ nextSeq), killedPast := (2 * x.killedPast + 1) % 2 ^ 64 }).wr
        (MSG_IFW3.RS f) nextSeq)
    else n

/-- Do the received pieces cover offsets from `pos` to `len`? `k` bounds the walk by the number of pieces. -/
def gotAll (got : List (Nat × Nat)) (len : Nat) : Nat → Nat → Bool
  | 0, pos => len ≤ pos
  | k + 1, pos =>
    if len ≤ pos then true
    else match got.find? (fun g => g.1 ≤ pos && pos < g.1 + g.2) with
      | some g => gotAll got len k (g.1 + g.2)
      | none => false

/-- A complete message joins the acceptance queue, or is answered NOACCEPT (R257, R255). -/
def Node.tryHold (n : Node) (f : Nat) (uid sf : Nat) (m : InMsg) : Node :=
  if m.accepting || !gotAll m.got m.len m.got.length 0 then n
  else if n.acceptMode = 0 then n.ackDue ⟨uid, sf, 3, some f⟩
  else
    let n := n.updIn f m.seq (fun m => { m with accepting := true })
    { n with msg := { n.msg with accq := n.msg.accq ++ [AccItem.inbound f m.seq] } }

/-- A segment for inbound flow `f` (R257, R258). -/
def Node.takeSegment (n : Node) (f uid sf seq len off : Nat) (data : List Byte) : Node :=
  let x := n.inFlow f
  let rs := n.rd (MSG_IFW3.RS f)
  let cur := x.msgs.find? (·.seq = seq)
  if seqResolved rs seq || x.killed.contains seq || (cur.any (fun m => m.held || m.accepting)) then
    (n.count MSG_CNT_DUP.VALUE).ackDue ⟨uid, sf, 0, some f⟩
  else if 64 < seqDist rs seq then n.count MSG_CNT_WINDOWERR.VALUE
  else
    let k := 1 + (len + 63) / 64
    let start : Option (InMsg × Node) := match cur with
      | some m => some (m, n)
      | none => (n.storeAlloc k).map (fun r =>
          let m : InMsg := ⟨seq, len, r.1, k, [], false, false, false, false, 0⟩
          (m, r.2.setInFlow f { x with msgs := x.msgs ++ [m] }))
    match start with
    | none => (n.raise MSG_EVT.FULL).ackDue ⟨uid, sf, 2, some f⟩
    | some (m, n) =>
      if m.len < off + data.length then n
      else
        let m := { m with got := m.got ++ [(off, data.length)], lastCycle := n.cycle }
        let a := blockAddr m.block + 64 + off
        let n := ((n.memPut a data).updIn f seq (fun _ => m)).count MSG_CNT_SEGRX.VALUE
        let n := n.jchange (.bytes (a - jrnlBase) data.length) data.length
        n.tryHold f uid sf m

/-- A MSG_SEG unit (R238, R240, R252, R257). -/
def Node.msgSeg (n : Node) (body : List Byte) : Node :=
  if !n.on MSG_CTRL.EN || !n.isActive || body.length < 33 then n
  else
    let group := bit (le body 1 1) 2
    let sf := le body 2 1
    let uid := le body 4 8
    let seq := le body 20 4
    if !n.forUs group (le body 12 8) || seq = 0 then n
    else
      let oldest := le body 28 4
      let first := fun (n : Node) (f : Nat) =>
        if (n.inFlow f).recorded then n
        else (n.setInFlow f { n.inFlow f with recorded := true }).wr (MSG_IFW3.RS f) (oldest - 1)
      match n.inMatch uid sf with
      | some f => (first n f).takeSegment f uid sf seq (le body 24 2) (le body 26 2) (body.drop 32)
      | none =>
        match n.inBindable sf with
        | some f =>
          let n := (n.wr64 (MSG_IFW1.SRCUID_LO f) (MSG_IFW2.SRCUID_HI f) uid).wr (MSG_IFW4.BOUND f) 1
          let n := (n.setInFlow f { InFlow.empty with recorded := true }).wr (MSG_IFW3.RS f) (oldest - 1)
          n.takeSegment f uid sf seq (le body 24 2) (le body 26 2) (body.drop 32)
        | none => ((n.count MSG_CNT_NOFLOW.VALUE).raise MSG_EVT.NOFLOW).ackDue ⟨uid, sf, 1, none⟩

/-- An inbound message is held: its acceptance has completed (R257, R255). -/
def Node.acceptIn (n : Node) (f seq : Nat) : Node :=
  let n := ((n.updIn f seq (fun m => { m with held := true, accepting := false })).count MSG_CNT_ACCEPT.VALUE).jchange (.inFlow f) 64
  n.ackDue ⟨n.rd64 (MSG_IFW1.SRCUID_LO f) (MSG_IFW2.SRCUID_HI f), n.rd (MSG_IFW0.SRCFLOW f), 0, some f⟩

/-- The sequence that is handed next on an inbound flow: after RS, past killed and handed ones; `k` bounds the walk. -/
def nextToHand (x : InFlow) : Nat → Nat → Nat
  | 0, s => s
  | k + 1, s => if x.killed.contains s || x.msgs.any (fun m => m.seq = s && m.handed) then nextToHand x k (seqAdd s 1) else s

/-- Hand held messages of an inbound flow in sequence order while its queue has room (R259, R261). -/
def Node.handAll (f : Nat) : Nat → Node → Node
  | 0, n => n
  | k + 1, n =>
    let x := n.inFlow f
    let s := nextToHand x 128 (seqAdd (n.rd (MSG_IFW3.RS f)) 1)
    let q := n.rd (MSG_IFW0.DQ f)
    match x.msgs.find? (fun m => m.seq = s && m.held) with
    | some m =>
      if (n.dq q).length < 256 then
        let d : Desc := ⟨false, m.redelivered, f, 0, s, blockAddr m.block + 64, m.len, n.rd (MSG_IFW0.SRCFLOW f), 0, 0, false⟩
        let n := (n.enqueue q d).updIn f s (fun m => { m with handed := true })
        let n := n.ackDue ⟨n.rd64 (MSG_IFW1.SRCUID_LO f) (MSG_IFW2.SRCUID_HI f), n.rd (MSG_IFW0.SRCFLOW f), 0, some f⟩
        Node.handAll f k n
      else n
    | none => n.wrB (MSG_IFW4.WAITGAP f) (x.msgs.any (fun m => m.held && !m.handed))

/-- A descriptor's acknowledgement takes effect (R260, R261): the oldest read one of queue `q`. -/
def Node.ackDesc (n : Node) (q : Nat) : Node :=
  match n.dq q with
  | [] => n
  | d :: rest =>
    if !d.read then n
    else
      let head := Tab.get (fun _ => 0) n.msg.qHead q
      let n := { n with msg := { n.msg with qHead := Tab.set (fun _ => 0) n.msg.qHead q ((head + 1) % 256) } }
      let n := (n.setDq q rest).jchange (.queue q) 16
      let n := if d.report then
          if d.code = 5 || d.code = 6 || d.code = 7 then n
          else n.setOutMsgs d.flow ((n.outMsgs d.flow).filter (·.seq ≠ d.seq))
        else
          let x := n.inFlow d.flow
          let n := match x.msgs.find? (·.seq = d.seq) with
            | some m => n.storeFree m.block
            | none => n
          let x := { x with msgs := x.msgs.filter (·.seq ≠ d.seq), killedPast := 2 * x.killedPast % 2 ^ 64 }
          let n := ((n.setInFlow d.flow x).wr (MSG_IFW3.RS d.flow) d.seq).count MSG_CNT_DELIVERED.VALUE
          let n := (Node.advanceRs d.flow x.killed.length n).jchange (.inFlow d.flow) 64
          n.ackDue ⟨n.rd64 (MSG_IFW1.SRCUID_LO d.flow) (MSG_IFW2.SRCUID_HI d.flow), n.rd (MSG_IFW0.SRCFLOW d.flow), 0, some d.flow⟩
      n.flushReports q

/-- Read the next unread descriptor of a queue (R260, R278): its JRNL address, or 0. -/
def Node.readDesc (n : Node) (q : Nat) : Nat × Node :=
  let l := n.dq q
  let r := (l.filter (·.read)).length
  if 16 ≤ r || l.length ≤ r then (0, n)
  else
    (dqAddr q (Tab.get (fun _ => 0) n.msg.qHead q + r),
      n.setDq q (l.take r ++ ((l.drop r).take 1).map (fun d => { d with read := true }) ++ l.drop (r + 1)))

/-! ### Acknowledgements and probes received -/

/-- The bitmaps of an acknowledgement applied to one message at list position `p` (R255, R263). -/
def ackOne (rs past heldB killB p : Nat) (m : OutMsg) : OutMsg :=
  let b := 2 ^ p
  if seqResolved rs m.seq then
    let i := seqDist m.seq rs
    if i < 64 && bit past i then { m with killed := m.killed ||| b } else { m with delivered := m.delivered ||| b, held := m.held ||| b }
  else
    let i := seqDist rs m.seq - 1
    if i < 64 && bit killB i then { m with killed := m.killed ||| b }
    else if i < 64 && bit heldB i then { m with held := m.held ||| b }
    else m

/-- A MSG_ACK unit (R239, R254, R255, R256). -/
def Node.msgAck (n : Node) (body : List Byte) : Node :=
  let f := le body 2 1
  let src := Tab.get (fun _ => 0) n.msg.flowSrc f
  if !n.on MSG_CTRL.EN || !n.isActive || body.length < 48 || src = 0 || le body 4 8 ≠ src then n
  else
    let who := le body 12 8
    match (n.members f).find? (fun m => m.2 = who || n.partnerUid m.2 = who) with
    | none => n.count MSG_CNT_NOTLISTED.VALUE
    | some (p, _) =>
      let status := le body 1 1
      let n := n.wr (MSG_OFW3.RSTAT f) status
      let n := if status = 1 then
          n.setOutMsgs f ((n.outMsgs f).map (fun m => if m.killing && m.accepted && !bit m.held p then { m with killed := m.killed ||| 2 ^ p } else m))
        else
          n.setOutMsgs f ((n.outMsgs f).map (fun m => if m.accepted && !m.reported
            then ackOne (le body 20 4) (le body 24 8) (le body 32 8) (le body 40 8) p m else m))
      let n := (n.outMsgs f).foldl (fun n m => n.settleOut f m.seq) n
      n.wrB (MSG_OFW3.UNRESOLVED f) ((n.outMsgs f).any (fun m => m.unresolved && !m.reported))

/-- A MSG_PROBE unit (R256, R264). -/
def Node.msgProbe (n : Node) (body : List Byte) : Node :=
  if !n.on MSG_CTRL.EN || !n.isActive || body.length < 32 then n
  else
    let sf := le body 2 1
    let uid := le body 4 8
    if !n.forUs (bit (le body 1 1) 1) (le body 12 8) then n
    else match n.inMatch uid sf with
    | none => n.ackDue ⟨uid, sf, 1, none⟩
    | some f =>
      if !bit (le body 1 1) 0 then n.ackDue ⟨uid, sf, 0, some f⟩
      else
        let map := le body 24 8
        let named := ((upTo 64).filter (bit map)).map (fun i => seqAdd (le body 20 4) i)
        let n := named.foldl (fun n s =>
          let x := n.inFlow f
          if seqResolved (n.rd (MSG_IFW3.RS f)) s || x.killed.contains s || x.msgs.any (fun m => m.seq = s && m.held) then n
          else
            let n := match x.msgs.find? (·.seq = s) with
              | some m => n.storeFree m.block
              | none => n
            (n.setInFlow f { x with msgs := x.msgs.filter (·.seq ≠ s), killed := x.killed ++ [s] }).count MSG_CNT_KILLED.VALUE) n
        let n := (Node.advanceRs f (n.inFlow f).killed.length n).jchange (.inFlow f) 64
        n.ackDue ⟨uid, sf, 0, some f⟩

/-! ### Filling a slot -/

/-- The MSG_ACK body of an acknowledgement due, with the flow's state at this moment (R255). -/
def Node.ackBody (n : Node) (a : AckDue) : List Byte :=
  let head := [0x11] ++ leBytes 1 a.status ++ leBytes 1 a.srcFlow ++ leBytes 1 0 ++ leBytes 8 a.srcUid ++ leBytes 8 n.uid
  match a.inflow with
  | none => head ++ List.replicate 28 0
  | some f =>
    let x := n.inFlow f
    let rs := n.rd (MSG_IFW3.RS f)
    let map := fun (p : Nat → Bool) => (upTo 64).foldl (fun v i => if p (seqAdd rs (1 + i)) then v + 2 ^ i else v) 0
    head ++ leBytes 4 rs ++ leBytes 8 x.killedPast ++ leBytes 8 (map (fun s => x.msgs.any (fun m => m.seq = s && m.held)))
      ++ leBytes 8 (map (fun s => x.killed.contains s))

/-- What a unit of body length `l` takes of a payload: prefix, body, trailer, padding (R113). -/
def unitCost (l : Nat) : Nat := (4 + l + 12 + 3) / 4 * 4

/-- Destination bytes 12 to 19 of a message unit (R252). -/
def Node.destBytes (n : Node) (f : Nat) : List Byte :=
  if n.rd (MSG_OFW0.DKIND f) = 2 then leBytes 2 (n.rd (MSG_OFW1.DEST_LO f)) ++ List.replicate 6 0
  else leBytes 8 (n.rd64 (MSG_OFW1.DEST_LO f) (MSG_OFW2.DEST_HI f))

/-- Can flow `f` transmit (R251): is a listed destination that does not hold message `m` in the directory? -/
def Node.reachable (n : Node) (f : Nat) (m : OutMsg) : Bool :=
  (n.members f).any (fun p => !bit (m.held ||| m.delivered ||| m.killed) p.1 && n.uidPresent p.2)

/-- The next message of a flow to send: in sequence order, the first that is not out (R251). -/
def Node.nextOut (n : Node) (f : Nat) : Option OutMsg :=
  (n.outMsgs f).find? (fun m => m.accepted && !m.killing && !m.reported && m.sentOff < m.len
    && !covers (m.held ||| m.delivered ||| m.killed) (memberBits (n.members f)))

/-- The oldest outstanding sequence of a flow (R252). -/
def Node.oldestSeq (n : Node) (f : Nat) : Nat :=
  match (n.outMsgs f).find? (fun m => m.accepted && !m.reported) with
  | some m => m.seq
  | none => n.rd (MSG_OFW4.NEXTSEQ f)

/-- A MSG_SEG body (R252). -/
def Node.segBody (n : Node) (f : Nat) (m : OutMsg) (len : Nat) : List Byte :=
  let group := decide (n.rd (MSG_OFW0.DKIND f) = 2)
  [0x10] ++ leBytes 1 (b2n (m.sentOff = 0) + 2 * b2n (m.sentOff + len = m.len) + 4 * b2n group + 8 * b2n m.retx)
    ++ leBytes 1 f ++ leBytes 1 0 ++ leBytes 8 (Tab.get (fun _ => 0) n.msg.flowSrc f) ++ n.destBytes f
    ++ leBytes 4 m.seq ++ leBytes 2 m.len ++ leBytes 2 m.sentOff ++ leBytes 4 (n.oldestSeq f)
    ++ n.memBytes (blockAddr m.block + 64 + m.sentOff) len

/-- A MSG_PROBE body for one sequence (R256). -/
def Node.probeBody (n : Node) (f seq : Nat) (kill : Bool) : List Byte :=
  [0x12] ++ leBytes 1 (b2n kill + 2 * b2n (n.rd (MSG_OFW0.DKIND f) = 2)) ++ leBytes 1 f ++ leBytes 1 0
    ++ leBytes 8 (Tab.get (fun _ => 0) n.msg.flowSrc f) ++ n.destBytes f ++ leBytes 4 seq ++ leBytes 8 1

/-- One pass over a flow: its next segment, if it fits the room left (R253). -/
def Node.segOf (room : Nat) (n : Node) (f : Nat) : Option (List Byte × Node) :=
  match n.nextOut f with
  | none => none
  | some m =>
    let rest := m.len - m.sentOff
    let fit := if room / 4 * 4 < 48 then 0 else min rest (room / 4 * 4 - 48)
    if !n.reachable f m || fit = 0 || (fit < 64 && fit < rest) then none
    else
      let body := n.segBody f m fit
      let done := decide (m.sentOff + fit = m.len)
      let c := n.cycle
      let n := (n.updOut f m.seq (fun m =>
        { m with sentOff := m.sentOff + fit, transmitted := m.transmitted || done, lastSent := if done then c else m.lastSent })).count
          MSG_CNT_SEGTX.VALUE
      some (body, if m.retx && done then n.count MSG_CNT_RETX.VALUE else n)

/-- Flows in precedence order: higher priority first, then the oldest acceptance (R251). -/
def Node.flowOrder (n : Node) : List Nat :=
  let live := (n.msg.out.map (·.1)).filter (fun f => (n.nextOut f).isSome)
  let key := fun f => (7 - n.rd (MSG_OFW0.PRIO f), match n.nextOut f with | some m => m.order | none => 0)
  sortBy (fun a b => (key a).1 < (key b).1 || ((key a).1 = (key b).1 && (key a).2 ≤ (key b).2)) live

/-- Fill the room left with segments; `k` bounds their number. A flow whose next segment does not fit sends nothing more (R253). -/
def Node.fillSegs : Nat → Nat → List Nat → Node → List (List Byte) × Node
  | 0, _, _, n => ([], n)
  | _ + 1, _, [], n => ([], n)
  | k + 1, room, f :: fs, n =>
    match Node.segOf room n f with
    | none => Node.fillSegs k room fs n
    | some (body, n) =>
      let (more, n) := Node.fillSegs k (room - unitCost body.length) (f :: fs) n
      (body :: more, n)

/-- Take acknowledgements while they fit. -/
def fitAcks (bodies : AckDue → List Byte) : Nat → List AckDue → List (List Byte) × List AckDue
  | _, [] => ([], [])
  | room, a :: t =>
    let b := bodies a
    if unitCost b.length ≤ room then
      let (bs, rest) := fitAcks bodies (room - unitCost b.length) t
      (b :: bs, rest)
    else ([], a :: t)

/-- What MSG puts into a slot with `room` bytes left (R115, R251, R253, R263): acknowledgements, probes, then messages. -/
def Node.msgFill (n : Node) (room : Nat) : List (List Byte) × Node :=
  if !n.on MSG_CTRL.EN then ([], n)
  else
    let (acks, rest) := fitAcks n.ackBody room n.msg.acks
    let n := { n with msg := { n.msg with acks := rest } }
    let room := room - (acks.map (fun b => unitCost b.length)).sum
    let np := min n.msg.probes.length (room / unitCost 32)
    let probes := (n.msg.probes.take np).map (fun p => n.probeBody p.1 p.2.1 p.2.2)
    let n := { n with msg := { n.msg with probes := n.msg.probes.drop np } }
    let room := room - np * unitCost 32
    let (segs, n) := Node.fillSegs 400 room n.flowOrder n
    (acks ++ probes ++ segs, n)

/-! ### The journal ring -/

/-- The registers of an outbound and of an inbound flow's record. -/
def Node.flowRegs (n : Node) (first words : Nat) (f : Nat) : List Word := (upTo words).map (fun i => n.reg (winAddr (first + 4 * i) f))

/-- The ring's image after one more record covers piece `p` (R248 to R250). -/
def Node.persist (n : Node) (p : JPiece) : JImage :=
  let j := { n.journal with recSeq := n.journal.recSeq + 1 }
  match p with
  | .outFlow f => { j with out := Tab.set (fun _ => []) j.out f (n.outMsgs f)
                           outRegs := Tab.set (fun _ => []) j.outRegs f (n.flowRegs 0x40028064 6 f)
                           flowSrc := n.msg.flowSrc }
  | .inFlow f => { j with inb := Tab.set (fun _ => InFlow.empty) j.inb f (n.inFlow f)
                          inRegs := Tab.set (fun _ => []) j.inRegs f (n.flowRegs 0x40028084 5 f) }
  | .queue q => { j with queues := Tab.set (fun _ => []) j.queues q (n.dq q) }
  | .members => { j with members := (upTo 2048).foldl (fun t i =>
      Tab.set (fun _ => 0) t i (n.reg (winAddr (0x4002809C + 4 * (i % 2)) (i / 2)))) [] }
  | .canRec _ => { j with canRecs := n.msg.canRecs }
  | .evrRec seq block len =>
    let l := j.records.filter (·.1 ≠ seq)
    { j with records := if len = 0 then l else l ++ [(seq, n.memBytes (blockAddr (block + 1)) len)] }
  | .bytes off len => { j with bytes := putBytes memBlank j.bytes (jrnlBase + off) (n.memBytes (jrnlBase + off) len) }

/-- One ring record at the head (R248). -/
def Node.ringRecord (n : Node) (off : Nat) (data : List Byte) : Node :=
  let seq := n.msg.recSeq + 1
  let head := leBytes 8 seq ++ leBytes 4 off ++ leBytes 2 data.length ++ leBytes 2 0 ++ data
  let bytes := head ++ leBytes 4 (crc32 head) ++ leBytes 4 0x4C4E524A
  let pos := if 0x200000 < n.msg.ringHead + bytes.length then 0 else n.msg.ringHead
  let n := n.flashPut .per (0x10000 + pos) bytes
  let n := { n with msg := { n.msg with ringHead := pos + bytes.length, recSeq := seq } }
  n.count MSG_CNT_RINGREC.VALUE

/-- Data cut into pieces of at most 4,096 bytes; `k` bounds their number. -/
def cutData : Nat → Nat → List Byte → List (Nat × List Byte)
  | 0, _, _ => []
  | k + 1, off, bs => if bs = [] then [] else (off, bs.take 4096) :: cutData k (off + 4096) (bs.drop 4096)

/-- Write the oldest change as ring records, the valid mark of each last (R248, R249). -/
def Node.ringWrite (n : Node) : Node :=
  match n.msg.changes with
  | [] => n
  | (p, len) :: rest =>
    if !n.on MSG_CTRL.PERSIST || !n.on (QSPI_STATUS.READY 1) then n
    else
      let n := ((n.pieceBytes p).flatMap (fun b => cutData 3 b.1 b.2)).foldl (fun (n : Node) (b : Nat × List Byte) => n.ringRecord b.1 b.2) n
      let j := n.persist p
      let n := { n with journal := { j with recSeq := n.msg.recSeq }, msg := { n.msg with changes := rest } }
      n.wr MSG_DELTA.VALUE (n.rd MSG_DELTA.VALUE - len)

/-- Registers written back from the ring. -/
def restoreRegs (first : Nat) (n : Node) (p : Nat × List Word) : Node :=
  (p.2.zip (upTo p.2.length)).foldl (fun n w => n.setReg (winAddr (first + 4 * w.2) p.1) w.1) n

/-- Store blocks in use by what the ring restored. -/
def JImage.usedRuns (j : JImage) : List (Nat × Nat) :=
  let o := j.out.flatMap (fun p => (p.2.filter (fun m => m.accepted && m.blocks ≠ 0)).map (fun m => (m.block, m.blocks)))
  let i := j.inb.flatMap (fun p => (p.2.msgs.filter (·.held)).map (fun m => (m.block, m.blocks)))
  (o ++ i).foldl (fun u r => insRun r u) []

/-- Outbound messages as a restart takes them: the accepted ones, all counting as transmitted, expiry from the remaining lifetime. -/
def restoreOut (now : Nat) (l : List OutMsg) : List OutMsg :=
  (l.filter (·.accepted)).map (fun m =>
    { m with transmitted := true, sentOff := if m.transmitted then m.len else 0, expire := if m.life = 0 then none else some (now + m.life * 1000000) })

/-- Inbound messages as a restart takes them: the held ones, handed again with REDELIVERED. -/
def restoreIn (l : List InMsg) : List InMsg :=
  (l.filter (·.held)).map (fun m => { m with handed := false, redelivered := m.handed || m.redelivered })

/-- A delivery queue as a restart takes it: its reports, unread. -/
def restoreQueue (l : List Desc) : List Desc := (l.filter (·.report)).map (fun d => { d with read := false })

/-- After a fault, NEXTSEQ of an open flow is the sequence that follows ACCSEQ (R244). -/
def Node.nextFromAcc (n : Node) (f : Nat) : Node :=
  if n.rd (MSG_OFW0.DKIND f) = 1 || n.rd (MSG_OFW0.DKIND f) = 2 then n.wr (MSG_OFW4.NEXTSEQ f) (seqAdd (n.rd (MSG_OFW5.ACCSEQ f)) 1) else n

/-- JRNL as a node without a synchronized partner restores it (R244, R250, R263, R268): accepted work only, every accepted message counts
as transmitted, held messages are handed again with REDELIVERED. -/
def Node.journalRestore (n : Node) : Node :=
  if n.on PAIR_STATUS.SYNC || !n.on MSG_CTRL.PERSIST || !n.on (QSPI_STATUS.READY 1) then n
  else
    let j := n.journal
    let n := j.outRegs.foldl (restoreRegs 0x40028064) n
    let n := j.inRegs.foldl (restoreRegs 0x40028084) n
    let n := j.members.foldl (fun n p => n.setReg (winAddr (0x4002809C + 4 * (p.1 % 2)) (p.1 / 2)) p.2) n
    let n := { n with mem := j.bytes.foldl (fun m (p : Nat × Byte) => Tab.set memBlank m p.1 p.2) n.mem }
    let n := { n with msg := { n.msg with flowSrc := j.flowSrc, canRecs := j.canRecs, recSeq := j.recSeq, used := j.usedRuns } }
    let n := n.storeCount
    let n := j.out.foldl (fun n p => n.setOutMsgs p.1 (restoreOut n.now p.2)) n
    let n := (upTo 256).foldl Node.nextFromAcc n
    let n := j.inb.foldl (fun n p => n.setInFlow p.1 { p.2 with msgs := restoreIn p.2.msgs }) n
    let n := j.queues.foldl (fun n p => n.setDq p.1 (restoreQueue p.2)) n
    (n.wr MSG_STATUS.RESTORED 1).raise MSG_EVT.RESTORED

/-- Outbound messages as their record blocks in JRNL hold them; `k` bounds the chain, `b` is a block plus 1. -/
def Node.readOut (n : Node) : Nat → Nat → List OutMsg
  | 0, _ => []
  | k + 1, b =>
    if b = 0 then []
    else
      let a := blockAddr (b - 1)
      let fl := n.memLe (a + 12) 1
      let rem := n.memLe (a + 32) 4
      let c := n.memLe (a + 13) 1
      { seq := n.memLe a 4, len := n.memLe (a + 4) 2, block := n.memLe (a + 6) 2, blocks := n.memLe (a + 8) 2, life := rem
        expire := none, accepted := true, order := n.memLe (a + 24) 4, transmitted := bit fl 1, sentOff := n.memLe (a + 10) 2
        lastSent := 0, retx := bit fl 2, held := n.memLe (a + 14) 2, delivered := n.memLe (a + 16) 2, killed := n.memLe (a + 18) 2
        cause := if c = 1 then some .expired else if c = 2 then some .withdrawn else none, killing := bit fl 3, lastProbe := 0
        unresolved := bit fl 4, reported := bit fl 5 } :: n.readOut k (n.memLe (a + 20) 2)

/-- Inbound messages as their record blocks hold them; one whose acceptance was under way is whole here, and held (R434, log entry 46). -/
def Node.readIn (n : Node) : Nat → Nat → List InMsg
  | 0, _ => []
  | k + 1, b =>
    if b = 0 then []
    else
      let a := blockAddr (b - 1)
      let fl := n.memLe (a + 12) 1
      { seq := n.memLe a 4, len := n.memLe (a + 4) 2, block := n.memLe (a + 6) 2, blocks := n.memLe (a + 8) 2, got := []
        accepting := false, held := bit fl 0 || bit fl 3, handed := bit fl 1, redelivered := bit fl 2, lastCycle := 0 } :: n.readIn k (n.memLe (a + 10) 2)

/-- A report as its descriptor holds it (R259). -/
def Node.readReport (n : Node) (a : Nat) : Option Desc :=
  if n.memLe a 1 = 2 then
    some ⟨true, bit (n.memLe (a + 1) 1) 1, n.memLe (a + 2) 1, n.memLe (a + 3) 1, n.memLe (a + 4) 4, 0, 0, 0, n.memLe (a + 8) 2, n.memLe (a + 10) 2, false⟩
  else none

/-- Window registers written from bytes in memory. -/
def Node.readWin (n : Node) (first words i a : Nat) : Node :=
  (upTo words).foldl (fun (n : Node) (k : Nat) => n.setReg (winAddr (first + 4 * k) i) (BitVec.ofNat 32 (n.memLe (a + 4 * k) 4))) n

/-- An outbound flow taken from JRNL: what this node holds of it counts as accepted (R434, log entry 46). -/
def Node.takeOut (n : Node) (f : Nat) : Node :=
  let a := jrnlBase + 0x1000 + 64 * f
  let l := restoreOut n.now (n.readOut 64 (n.memLe (a + 32) 2))
  let n := n.readWin 0x40028064 6 f a
  let n : Node := { n with msg := { n.msg with flowSrc := Tab.set (fun _ => 0) n.msg.flowSrc f (n.memLe (a + 24) 8) } }
  let acc := n.rd (MSG_OFW5.ACCSEQ f)
  let n := match l.getLast? with
    | some m => if seqDist acc m.seq < 2147483648 then n.wr (MSG_OFW5.ACCSEQ f) m.seq else n
    | none => n
  (n.nextFromAcc f).setOutMsgs f l

/-- An inbound flow taken from JRNL. -/
def Node.takeIn (n : Node) (f : Nat) : Node :=
  let a := jrnlBase + 0x5000 + 64 * f
  let l := restoreIn (n.readIn 64 (n.memLe (a + 29) 2))
  let killed := (upTo (min 8 (n.memLe (a + 31) 1))).map (fun i => n.memLe (a + 32 + 4 * i) 4)
  let x : InFlow := { recorded := bit (n.memLe (a + 20) 1) 0, msgs := l, killed := killed, killedPast := n.memLe (a + 21) 8 }
  (n.readWin 0x40028084 5 f a).setInFlow f x

/-- MSG takes the mirrored journal as its own (R440 step 2): flows, messages, reports and member lists from JRNL. -/
def Node.journalTake (n : Node) : Node :=
  let n := (upTo 1024).foldl (fun (n : Node) (i : Nat) => n.readWin 0x4002809C 2 i (jrnlBase + 0x9000 + 8 * i)) n
  let n := (upTo 256).foldl Node.takeOut n
  let n := (upTo 256).foldl Node.takeIn n
  let runs := n.msg.out.flatMap (fun p => (p.2.filter (fun m => m.blocks ≠ 0)).map (fun m => (m.block, m.blocks)))
    ++ n.msg.inb.flatMap (fun p => p.2.msgs.map (fun m => (m.block, m.blocks)))
  let n : Node := { n with msg := { n.msg with used := runs.foldl (fun u r => insRun r u) [] } }
  let order := (n.msg.out.flatMap (fun p => p.2.map (fun m => m.order + 1))).foldl max n.msg.order
  let n : Node := { n with msg := { n.msg with order := order, accq := [], heldAcc := false, acks := [], probes := [], waitReports := [] } }
  let n := n.storeCount
  (upTo 16).foldl (fun (n : Node) (q : Nat) =>
    let a := jrnlBase + 0x100 + 4 * q
    let h := n.memLe a 2 % 256
    let l := (upTo (min 256 (n.memLe (a + 2) 2))).filterMap (fun i => n.readReport (dqAddr q (h + i)))
    let n : Node := { n with msg := { n.msg with qHead := Tab.set (fun _ => 0) n.msg.qHead q h } }
    let n := (l.zip (upTo l.length)).foldl (fun (n : Node) (x : Desc × Nat) => n.memPut (dqAddr q (h + x.2)) (descBytes x.1)) n
    n.setDq q l) n

/-- An uncorrectable JRNL word at `a` is restored from the partner or the ring (R24). -/
def Node.jrnlRepair (n : Node) (a : Nat) : Node :=
  let n := { n with uce := n.uce.filter (· ≠ a / 8 * 8) }
  ((n.count MSG_CNT_JRNLUCE.VALUE).raise MSG_EVT.UCE).sysFault 5

/-! ### The commands -/

/-- A write to MSG_HPUT3 submits what MSG_HPUT0 to 2 describe (R278); MSG_HSEQ takes 0 where no sequence is assigned (log entry 90). -/
def Node.hostPut (n : Node) (v : Word) : Node :=
  let f := n.rd MSG_HPUT0.FLOW
  let seq := n.rd (MSG_OFW4.NEXTSEQ f)
  let r := n.submit 8 f (n.rd MSG_HPUT1.ADDR) (n.rd MSG_HPUT0.LENGTH) (n.rd MSG_HPUT2.LIFETIME) v.toNat
  (r.2.wr MSG_HRES.CODE r.1).wr MSG_HSEQ.SEQ (if r.1 = 0 then seq else 0)

/-- A write to MSG_HWDR1 asks for a withdrawal (R278). -/
def Node.hostWithdraw (n : Node) (v : Word) : Node :=
  let r := n.withdraw 8 (n.rd MSG_HWDR0.FLOW) v.toNat
  (r.2.wr MSG_HRES.CODE r.1).wr MSG_HSEQ.SEQ v.toNat

/-- HOST_SUBMIT: a write to MSG_HPUT3 submits a message from the host port (R278, R242, R243). -/
def execHostSubmit (by_ : Initiator) (value : Word) (s : State) : Host.Outcome State Fault Refusal :=
  s.onNode (fun n => n.mirrored by_ MSG_HPUT3.EXPECT.addr value.toNat (·.hostPut value))

/-- MSG_SEG: a receiver stores a message segment, reserving store blocks or answering FULL (R257). -/
def execMsgSeg (u : UnitRx) (s : State) : Host.Outcome State Fault Refusal := s.onNode (·.msgSeg u.body)

/-- MSG_ACK: a sender takes a receiver's acknowledgement and resolves or frees messages (R255). -/
def execMsgAck (u : UnitRx) (s : State) : Host.Outcome State Fault Refusal := s.onNode (·.msgAck u.body)

/-- MSG_PROBE: a receiver answers a probe and kills named sequences it does not hold (R264). -/
def execMsgProbe (u : UnitRx) (s : State) : Host.Outcome State Fault Refusal := s.onNode (·.msgProbe u.body)

/-- PROBE_TIMER: every PROBE cycles a sender probes a flow whose outstanding messages are all held but not delivered (R256). -/
def execProbeTimer (flow : Fin 256) (s : State) : Host.Outcome State Fault Refusal :=
  s.onNode (fun n =>
    let l := (n.outMsgs flow).filter (fun m => m.accepted && !m.reported)
    let all := memberBits (n.members flow)
    if l ≠ [] && l.all (fun m => covers (m.held ||| m.delivered ||| m.killed) all) then
      { n with msg := { n.msg with probes := n.msg.probes ++ [(flow.val, n.oldestSeq flow, false)] } }
    else n)

/-- RETRANSMIT_TIMEOUT: a message not reported held is sent again with RETX, or its KILL probe again (R254, R263). -/
def execRetransmitTimeout (flow : Fin 256) (seq : Word) (s : State) : Host.Outcome State Fault Refusal :=
  s.onNode (fun n =>
    match (n.outMsgs flow).find? (fun m => m.seq = seq.toNat && m.accepted && !m.reported) with
    | none => n
    | some m =>
      if covers (m.held ||| m.delivered ||| m.killed) (memberBits (n.members flow)) then n
      else if m.killing then
        (n.updOut flow m.seq (fun m => { m with lastProbe := n.cycle })) |> fun n =>
          { n with msg := { n.msg with probes := n.msg.probes ++ [(flow.val, m.seq, true)] } }
      else if m.transmitted then n.updOut flow m.seq (fun m => { m with sentOff := 0, retx := true })
      else n)

/-- MESSAGE_HANDING: held messages are handed in sequence order to their delivery queue when room allows (R259). -/
def execMessageHanding (inflow : Fin 256) (s : State) : Host.Outcome State Fault Refusal :=
  s.onNode (fun n => if n.on MSG_CTRL.EN then Node.handAll inflow 64 n else n)

/-- The host queue's next descriptor is taken (R278). -/
def Node.hostGet (n : Node) : Nat × Node :=
  let q := n.rd MSG_HQ.QUEUE
  if n.rd (MSG_DQ.OWNER q) = 8 then n.readDesc q else (0, n)

/-- MSG_HGET: a read of MSG_HGET takes the next descriptor of the host queue (R278, R677); the word keeps the value returned. -/
def execMsgHget (_by : Initiator) (s : State) : Host.Outcome State Fault Refusal :=
  s.onNode (fun n => let (a, n) := n.hostGet; n.wr MSG_HGET.DESC a)

/-- MSG_HACK: a write acknowledges the oldest read host descriptor once accepted (R260). -/
def Node.hostAckWrite (n : Node) : Node :=
  let q := n.rd MSG_HQ.QUEUE
  if n.rd (MSG_DQ.OWNER q) = 8 && n.acceptMode ≠ 0 && 0 < n.rd (MSG_DQ.READ q) then
    { n with msg := { n.msg with accq := n.msg.accq ++ [AccItem.hostAck q] } }
  else n

/-- MSG_HACK: the row's meaning. -/
def execMsgHack (by_ : Initiator) (s : State) : Host.Outcome State Fault Refusal :=
  s.onNode (fun n => n.mirrored by_ MSG_HACK.ACK.addr 1 (·.hostAckWrite))

/-- MSG_HWDR: a write to MSG_HWDR1 requests withdrawal of a sequence (R263, R278). -/
def execMsgHwdr (by_ : Initiator) (value : Word) (s : State) : Host.Outcome State Fault Refusal :=
  s.onNode (fun n => n.mirrored by_ MSG_HWDR1.SEQ.addr value.toNat (·.hostWithdraw value))

/-- LIFETIME_EXPIRY: a message's lifetime expires and it is reported or killed by probe (R263). -/
def execLifetimeExpiry (flow : Fin 256) (seq : Word) (s : State) : Host.Outcome State Fault Refusal :=
  s.onNode (·.expireMsg flow seq.toNat)

/-- LIFETIME_PERSIST: every 64 cycles MSG writes remaining lifetimes into JRNL (R262): the whole ms left, none below 1. -/
def execLifetimePersist (s : State) : Host.Outcome State Fault Refusal :=
  s.onNode (fun n =>
    (n.msg.out.filter (fun p => p.2.any (fun m => m.accepted && !m.reported && m.life ≠ 0))).foldl (fun n p =>
      (n.setOutMsgs p.1 ((n.outMsgs p.1).map (fun m => match m.expire with
        | some t => { m with life := max 1 ((t - n.now) / 1000000) }
        | none => m))).jchange (.outFlow p.1) 64) n)

/-- PARTIAL_DISCARD: a partial message is discarded 64 cycles after its last segment, its blocks freed (R257). -/
def execPartialDiscard (inflow : Fin 256) (seq : Word) (s : State) : Host.Outcome State Fault Refusal :=
  s.onNode (fun n =>
    let x := n.inFlow inflow
    match x.msgs.find? (fun m => m.seq = seq.toNat && !m.held && !m.accepting) with
    | none => n
    | some m => (n.storeFree m.block).setInFlow inflow { x with msgs := x.msgs.filter (·.seq ≠ m.seq) })

/-- ORPHAN_TIMEOUT: a destination absent for ORPHAN rounds makes MSG report UNRESOLVED, once (R266). -/
def execOrphanTimeout (flow : Fin 256) (seq : Word) (s : State) : Host.Outcome State Fault Refusal :=
  s.onNode (fun n =>
    match (n.outMsgs flow).find? (fun m => m.seq = seq.toNat && m.killing && !m.unresolved && !m.reported) with
    | none => n
    | some m =>
      let gone := (n.members flow).any (fun p => !bit (m.held ||| m.delivered ||| m.killed) p.1 && !n.uidPresent p.2)
      if gone then
        let n := (n.updOut flow m.seq (fun m => { m with unresolved := true })).wr (MSG_OFW3.UNRESOLVED flow) 1
        (n.report flow 6 m.seq false (m.delivered % 65536) (m.killed % 65536)).raise MSG_EVT.UNRESOLVED
      else n)

/-- JOURNAL_RING_WRITE: MSG writes a JRNL change record with its valid mark to the persistent ring (R249). -/
def execJournalRingWrite (s : State) : Host.Outcome State Fault Refusal := s.onNode (·.ringWrite)

/-- A write to MSG_OFW0 of the selected flow (R236, R271): the kind and the member list stay while the flow has outstanding messages; a
first opening gives the flow's record the node's own UID. -/
def Node.writeOutFlow (n : Node) (v : Word) : Node :=
  let f := n.rd MSG_OFSEL.FLOW
  let old := n.reg (MSG_OFW0.DKIND f).addr
  let busy := decide (n.outMsgs f ≠ [])
  let keep : Word := if busy then 0x003F0003 else 0
  let new := (v &&& 0x003FFF7F &&& ~~~ keep) ||| (old &&& keep)
  let n := n.setReg (MSG_OFW0.DKIND f).addr new
  let open_ := n.rd (MSG_OFW0.DKIND f) = 1 || n.rd (MSG_OFW0.DKIND f) = 2
  if open_ && Tab.get (fun _ => 0) n.msg.flowSrc f = 0 then
    ({ n with msg := { n.msg with flowSrc := Tab.set (fun _ => 0) n.msg.flowSrc f n.uid } } : Node).jchange (.outFlow f) 64
  else n.jchange (.outFlow f) 64

/-- A write to MSG_IFW0 of the selected flow (R240, R271): what names the source stays while the flow holds messages. Closing ends a
binding, so the flow can bind again (DESIGN CHOICE, log entry 12). -/
def Node.writeInFlow (n : Node) (v : Word) : Node :=
  let f := n.rd MSG_IFSEL.FLOW
  let old := n.reg (MSG_IFW0.DQ f).addr
  let busy := decide ((n.inFlow f).msgs ≠ [])
  let keep : Word := if busy then 0x8000FF10 else 0
  let new := (v &&& 0x8000FF1F &&& ~~~ keep) ||| (old &&& keep)
  let n := n.setReg (MSG_IFW0.DQ f).addr new
  let n := if n.on (MSG_IFW0.OPEN f) then n else n.wr (MSG_IFW4.BOUND f) 0
  n.jchange (.inFlow f) 64

/-- FLOW_OPEN: a flow is opened by writing its kind or OPEN field (R236). -/
def execFlowOpen (by_ : Initiator) (inbound : Bool) (value : Word) (s : State) : Host.Outcome State Fault Refusal :=
  s.onNode (fun n => n.mirrored by_ (if inbound then 0x40028084 else 0x40028064) value.toNat
    (fun n => if inbound then n.writeInFlow value else n.writeOutFlow value))

end Sys2Proof.Machine
end

