-- ==== Sys2Proof/Machine/CanPool.lean ====
section
/-! DEFINITION. The CAN queue pool, its guaranteed entries and the sync sequences (15_car_bus.md R549 to R570, R578; 06_messages.md R269,
R270; 08_cycle_engines.md R332 to R336). -/

namespace Sys2Proof.Machine

/-! ### Entries (R549, R551, R552) -/

/-- Address of pool entry `i`. -/
def poolAddr (i : Nat) : Nat := 0x207E0000 + 80 * i

/-- Word `w` of entry `i`. -/
def Node.canW (n : Node) (i w : Nat) : Nat := n.memLe (poolAddr i + 4 * w) 4

/-- Word `w` of entry `i` written. -/
def Node.canPut (n : Node) (i w v : Nat) : Node := n.memPut (poolAddr i + 4 * w) (leBytes 4 v)

/-- STATE of entry `i`: IDLE 0, ACCEPTING 1, QUEUED 2, TXING 3, DONE 4, ARMED 5, FULL 6. -/
def Node.canSt (n : Node) (i : Nat) : Nat := bits (n.canW i 2) 0 3

/-- Entry `i` in another state. -/
def Node.canGo (n : Node) (i st : Nat) : Node := n.canPut i 2 (setBits (n.canW i 2) 0 3 st)

/-- Entry `i` DONE with a CODE. -/
def Node.canDone (n : Node) (i code : Nat) : Node := n.canPut i 2 (setBits (setBits (n.canW i 2) 0 3 4) 4 4 code)

/-- GUAR, SYNCF and LAUNCH of entry `i`. -/
def Node.canGuar (n : Node) (i : Nat) : Bool := bit (n.canW i 1) 7
/-- SYNCF of entry `i`. -/
def Node.canSyncf (n : Node) (i : Nat) : Bool := bit (n.canW i 1) 8
/-- LAUNCH of entry `i`. -/
def Node.canLaunch (n : Node) (i : Nat) : Bool := bit (n.canW i 1) 9

/-- Channel and owner to which entry `i` is allocated. -/
def Node.poolOf (n : Node) (i : Nat) : Option (Nat × Nat) := Tab.get (fun _ => none) n.can.pool i

/-- What no register of channel `c` shows. -/
def Node.chan (n : Node) (c : Nat) : CanChan := Tab.get (fun _ => CanChan.empty) n.can.chans c

/-- `n` with the state of channel `c` changed. -/
def Node.updChan (n : Node) (c : Nat) (f : CanChan → CanChan) : Node :=
  { n with can := { n.can with chans := Tab.set (fun _ => CanChan.empty) n.can.chans c (f (n.chan c)) } }

/-! ### Order of the queue (R554) -/

/-- What arbitration compares, most significant bit first (ISO 11898-1): 11 identifier bits, RTR or SRR, IDE, 18 identifier bits, RTR. The
lower value wins. -/
def arbKey (w : Nat) : Nat :=
  let ide := bits w 29 1
  let rtr := bits w 30 1
  bits w 18 11 * 2 ^ 21 + (if ide = 1 then 1 else rtr) * 2 ^ 20 + ide * 2 ^ 19 + (if ide = 1 then bits w 0 18 * 2 + rtr else 0)

/-- The first element of a list whose key is least. -/
def lowestBy (key : Nat → Nat) : List Nat → Option Nat
  | [] => none
  | i :: t => match lowestBy key t with
    | none => some i
    | some j => if key j < key i then some j else some i

/-- The QUEUED entries of channel `c`, in READY order. -/
def Node.queuedOf (n : Node) (c : Nat) : List Nat := (n.chan c).order.filter (fun i => n.canSt i = 2)

/-- While the channel is BLOCKED, BLKENT follows the highest-priority queued entry (R562). -/
def Node.blockedRefresh (n : Node) (c : Nat) : Node :=
  if n.on (CAN_STATUS.BLOCKED c) then
    (match lowestBy (fun i => arbKey (n.canW i 0)) (n.queuedOf c) with
    | some i => n.wr (CAN_STATUS.BLKENT c) i
    | none => n)
  else n

/-- Error-passive or bus-off is entered: BLOCKED with any entry QUEUED (R562). -/
def Node.blockedEnter (n : Node) (c : Nat) : Node :=
  if n.queuedOf c = [] then n else ((n.wr (CAN_STATUS.BLOCKED c) 1).blockedRefresh c).raise (CAN_EVT.BLOCKED c)

/-- Entry `i` leaves the channel's queue, its launch and its sync release. -/
def Node.unorder (n : Node) (c i : Nat) : Node :=
  n.updChan c (fun k => { k with
    order := k.order.filter (· ≠ i), handed := k.handed.filter (· ≠ i), fired := k.fired.filter (· ≠ i)
    seq := k.seq.map (fun s => { s with left := s.left.filter (· ≠ i) })
    nextRel := k.nextRel.map (fun r => (r.1, r.2.1, r.2.2.filter (· ≠ i))) })

/-- Entry `i` QUEUED behind the channel's others, with no retry made. -/
def Node.canQueue (n : Node) (c i : Nat) : Node :=
  let n := n.canPut i 2 (setBits (setBits (n.canW i 2) 0 3 2) 4 12 0)
  (n.updChan c (fun k => { k with order := k.order.filter (· ≠ i) ++ [i] })).blockedRefresh c

/-! ### Errors and modes (R560 to R564) -/

/-- The error counters take new values; the error state follows (R560, R561, R562). -/
def Node.canErr (n : Node) (c tec rec : Nat) : Node :=
  let n := (n.wr (CAN_ERRCNT.TEC c) (sat 9 tec)).wr (CAN_ERRCNT.REC c) (sat 8 rec)
  let was := n.rd (CAN_STATUS.ESTATE c)
  if 2 ≤ was then n
  else if 255 < tec then
    let n := ((n.wr (CAN_STATUS.ESTATE c) 2).count (CAN_CNT_BUSOFF.VALUE c)).raise (CAN_EVT.BUSOFF c)
    n.blockedEnter c
  else if 127 < tec || 127 < rec then
    if was = 1 then n.blockedRefresh c else (((n.wr (CAN_STATUS.ESTATE c) 1).raise (CAN_EVT.PASSIVE c)).blockedEnter c)
  else ((n.wr (CAN_STATUS.ESTATE c) 0).wr (CAN_STATUS.BLOCKED c) 0)

/-- The error counters start at 0, error-active (R561, R564). -/
def Node.canErrClear (n : Node) (c : Nat) : Node :=
  (((n.wr (CAN_ERRCNT.TEC c) 0).wr (CAN_ERRCNT.REC c) 0).wr (CAN_STATUS.ESTATE c) 0).wr (CAN_STATUS.BLOCKED c) 0

/-- The effective mode (R547, R564, R571): a channel that is off stays off. -/
def Node.canMode (n : Node) (c : Nat) : Nat :=
  let m := n.rd (CAN_CTRL.MODE c)
  if m = 0 || 6 ≤ m || n.on (CAN_STATUS.TIMERR c) then 0
  else if n.rd PAIR_STATUS.STATE = 4 || (n.on (CAN_CTRL.OWNGATE c) && !n.ownPin) then 2
  else m

/-- Every channel's effective mode follows; one that becomes normal starts with its counters at 0 (R564); WITNESS shows a standby (R568). -/
def Node.canModes (n : Node) : Node :=
  (upTo 8).foldl (fun (n : Node) (c : Nat) =>
    let m := n.canMode c
    let n := n.wrB (CAN_STATUS.WITNESS c) (n.rd PAIR_STATUS.STATE = 4 && m ≠ 0)
    if n.rd (CAN_STATUS.EMODE c) = m then n
    else
      let n := n.wr (CAN_STATUS.EMODE c) m
      if m = 1 then n.canErrClear c else n) n

/-! ### Guaranteed records (R269, R270) -/

/-- The guaranteed records replaced; each changed one is journaled. -/
def Node.setCanRecs (n : Node) (l : List CanRec) : Node :=
  let old := n.msg.canRecs
  let slots := (old.filter (fun r => !l.contains r)).map (·.slot) ++ (l.filter (fun r => !old.contains r)).map (·.slot)
  (slots.eraseDups).foldl (fun (n : Node) (k : Nat) => n.jchange (.canRec k) 96) { n with msg := { n.msg with canRecs := l } }

/-- The guaranteed record in slot `k` of JRNL (log entry 11). -/
def Node.readCanRec (n : Node) (k : Nat) : Option CanRec :=
  let a := jrnlBase + 0x1B000 + 96 * k
  let st := n.memLe a 1
  if st = 0 || 4 < st then none
  else some ⟨k, n.memLe (a + 1) 1 % 8, n.memLe (a + 2) 2, n.memLe (a + 4) 4,
    if st = 1 then .submitted else if st = 2 then .accepted else if st = 3 then .launched else .complete,
    (upTo 18).map (fun w => BitVec.ofNat 32 (n.memLe (a + 8 + 4 * w) 4))⟩

/-- The guaranteed records as JRNL holds them, in submission order of each channel. -/
def Node.mirrorCanRecs (n : Node) : Node := { n with msg := { n.msg with canRecs := (upTo 512).filterMap n.readCanRec } }

/-- The guaranteed record of entry `i`. -/
def Node.canRec (n : Node) (i : Nat) : Option CanRec := n.msg.canRecs.find? (fun r => r.entry = i)

/-- The frame of entry `i` as its record holds it: words 0 and 1 and the data. -/
def Node.canFrame (n : Node) (i : Nat) : List Word :=
  [BitVec.ofNat 32 (n.canW i 0), BitVec.ofNat 32 (n.canW i 1)] ++ (upTo 16).map (fun k => BitVec.ofNat 32 (n.canW i (4 + k)))

/-- A free record slot. -/
def Node.freeCanSlot (n : Node) : Nat := ((upTo 512).find? (fun s => !n.msg.canRecs.any (fun r => r.slot = s))).getD 0

/-! ### Commands on entries (R551 to R553, R566, R567) -/

/-- Is the frame of entry `i` not one the channel may send (R552 CODE 6)? -/
def Node.canInvalid (n : Node) (c i : Nat) : Bool :=
  let w := n.canW i 1
  let fdf := bit w 4
  (8 < bits w 0 4 && !fdf) || (fdf && !n.on (CAN_CTRL.FDEN c)) || ((bit w 7 || bit w 8) && bit w 9) || (bit w 5 && !fdf)

/-- READY (R551, R552, R566, R269, R270). -/
def Node.canReady (n : Node) (c i : Nat) : Node :=
  if n.uceIn (poolAddr i) 80 then (n.canDone i 3).uncorrectable
  else if n.canInvalid c i then n.canDone i 6
  else if n.canGuar i then
    if 512 ≤ n.msg.canRecs.length then n.canDone i 5
    else if n.acceptMode = 0 then n.canDone i 4
    else
      let sub := ((n.chan c).subSeq + 1) % 4294967296
      let n := n.updChan c (fun k => { k with subSeq := sub })
      let n := n.canPut i 2 (setBits (setBits 0 0 3 1) 16 16 sub)
      let n := n.setCanRecs (n.msg.canRecs ++ [⟨n.freeCanSlot, c, i, sub, .submitted, n.canFrame i⟩])
      { n with msg := { n.msg with accq := n.msg.accq ++ [AccItem.canEntry i] } }
  else n.canQueue c i

/-- An entry's acceptance completes (R566). -/
def Node.canAccepted (n : Node) (i : Nat) : Node :=
  match n.poolOf i with
  | none => n
  | some (c, _) =>
    let n := n.setCanRecs (n.msg.canRecs.map (fun r => if r.entry = i then { r with state := .accepted } else r))
    n.canQueue c i

/-- An entry's acceptance is refused (R269). -/
def Node.canRefused (n : Node) (i code : Nat) : Node :=
  (n.setCanRecs (n.msg.canRecs.filter (fun r => r.entry ≠ i))).canDone i code

/-- ACK (R551, R566). -/
def Node.canAck (n : Node) (i : Nat) : Node :=
  if n.canSt i = 6 then n.canGo i 5
  else
    let n := if (n.canRec i).isSome then n.setCanRecs (n.msg.canRecs.filter (fun r => r.entry ≠ i)) else n
    n.canGo i 0

/-- ABORT of a QUEUED or ARMED entry (R551, R567). -/
def Node.canAbort (n : Node) (c i : Nat) : Node :=
  if n.canSt i = 5 then n.canGo i 0
  else
    let n := if (n.canRec i).isSome then n.setCanRecs (n.msg.canRecs.map (fun r => if r.entry = i then { r with state := .complete } else r)) else n
    ((n.unorder c i).canDone i 2).blockedRefresh c

/-- A command of CAN0_PCMD (R553): OP 0 READY, 1 ACK, 2 ABORT, 3 ARM; the result of CAN0_PCRES and the node after it. An entry handed to its
channel for a launch cannot be aborted (R556). -/
def Node.canCommand (n : Node) (owner op i : Nat) : Nat × Node :=
  match n.poolOf i with
  | none => (1, n)
  | some (c, o) =>
    if o ≠ owner then (1, n)
    else
      let st := n.canSt i
      if op = 0 then (if st = 0 then (0, n.canReady c i) else (2, n))
      else if op = 1 then (if st = 4 || st = 6 then (0, n.canAck i) else (2, n))
      else if op = 2 then (if st = 5 || (st = 2 && !(n.chan c).handed.contains i) then (0, n.canAbort c i) else (2, n))
      else (if st = 0 then (0, n.canGo i 5) else (2, n))

/-- The owner code of an initiator in the pool (R550). -/
def accessOwner : Initiator → Nat
  | .eng e => e
  | .unit => 9
  | _ => 8

/-- A write to CAN0_PCMD (R553, R578). -/
def Node.pcmdWrite (n : Node) (by_ : Initiator) (v : Word) : Node :=
  let n := n.setReg CAN0_PCMD.ENTRY.addr (v &&& 0x37FF)
  if !bit v.toNat 31 then n
  else
    let r := n.canCommand (accessOwner by_) (n.rd CAN0_PCMD.OP) (n.rd CAN0_PCMD.ENTRY)
    r.2.wr CAN0_PCRES.RESULT r.1

/-- The safe action of R339 on entry `i`: does engine `e` own it, and the node after (R553). -/
def Node.canSafe (n : Node) (e i : Nat) : Bool × Node :=
  match n.poolOf i with
  | none => (false, n)
  | some (c, o) =>
    if o ≠ e then (false, n)
    else if n.canSt i = 0 then (true, n.canReady c i)
    else if n.canSt i = 4 then (true, (n.canAck i).canReady c i)
    else (true, n)

/-! ### Allocation (R347, R550) -/

/-- Is no object of a run held? -/
def allFree {α : Type} (held : Nat → Option α) (first count : Nat) : Bool := (upTo count).all (fun k => (held (first + k)).isNone)

/-- Entry `i` allocated to a channel and an owner, IDLE; or freed, with what the channel holds of it. The uses follow. -/
def Node.poolSet (n : Node) (i : Nat) (o : Option (Nat × Nat)) : Node :=
  let n := match n.poolOf i with
    | some (c, w) =>
      let n := (n.unorder c i).wr (CAN_QUOTA.USE c) (n.rd (CAN_QUOTA.USE c) - 1)
      let n := if w < 8 then n.wr (ENG_QPOOL.USE w) (n.rd (ENG_QPOOL.USE w) - 1) else n
      n.wr CAN0_PUSE.USE (n.rd CAN0_PUSE.USE - 1)
    | none => n
  let n := { n with can := { n.can with pool := Tab.set (fun _ => none) n.can.pool i o } }
  match o with
  | some (c, w) =>
    let n := (n.canPut i 2 0).wr (CAN_QUOTA.USE c) (n.rd (CAN_QUOTA.USE c) + 1)
    let n := if w < 8 then n.wr (ENG_QPOOL.USE w) (n.rd (ENG_QPOOL.USE w) + 1) else n
    n.wr CAN0_PUSE.USE (n.rd CAN0_PUSE.USE + 1)
  | none => n

/-- The result of an operation of CAN0_PALLOC (R578), judged in the order owner, count, pool, held, owner's quota, channel's quota
(log entry 45). -/
def Node.pallocCode (n : Node) (free : Bool) (first count c owner : Nat) : Nat :=
  if 8 < owner then 7
  else if count = 0 then 6
  else if 1536 < first + count then 4
  else if free then (if (upTo count).all (fun k => n.poolOf (first + k) = some (c, owner)) then 0 else 5)
  else if !allFree n.poolOf first count then 3
  else if owner < 8 && n.rd (ENG_QPOOL.QUOTA owner) < n.rd (ENG_QPOOL.USE owner) + count then 1
  else if min 1536 (n.rd (CAN_QUOTA.QUOTA c)) < n.rd (CAN_QUOTA.USE c) + count then 2
  else 0

/-- A write to CAN0_PALLOC (R550, R578). -/
def Node.pallocWrite (n : Node) (v : Word) : Node :=
  let n := n.setReg CAN0_PALLOC.FIRST.addr (v &&& 0x5FFFFFFF)
  if !bit v.toNat 31 then n
  else
    let first := n.rd CAN0_PALLOC.FIRST
    let count := n.rd CAN0_PALLOC.COUNT
    let c := n.rd CAN0_PALLOC.CHAN
    let owner := n.rd CAN0_PALLOC.OWNER
    let free := n.on CAN0_PALLOC.FREE
    let code := n.pallocCode free first count c owner
    let n := (n.wr CAN0_PRES.RESULT code).raiseIf (code = 1) (ENG_EVT.QUOTA owner)
    if code ≠ 0 then n else (upTo count).foldl (fun (n : Node) (k : Nat) => n.poolSet (first + k) (if free then none else some (c, owner))) n

/-! ### Takeover and restart (R569) -/

/-- A record's entry is written back: its frame, STATE, CODE and sequence; QUEUED goes into the channel's order. -/
def Node.canPlace (n : Node) (r : CanRec) (state code : Nat) : Node :=
  let w := fun (k : Nat) => leBytes 4 (r.words.getD k 0).toNat
  let n := n.memPut (poolAddr r.entry) (w 0 ++ w 1 ++ leBytes 4 (setBits (setBits (setBits 0 0 3 state) 4 4 code) 16 16 r.sub) ++ leBytes 4 0
    ++ (upTo 16).flatMap (fun k => w (k + 2)))
  n.updChan r.chan (fun k => { k with
    order := if state = 2 then k.order.filter (· ≠ r.entry) ++ [r.entry] else k.order.filter (· ≠ r.entry)
    subSeq := max k.subSeq r.sub })

/-- Insert a record behind those of no higher submission sequence. -/
def insertRec (r : CanRec) : List CanRec → List CanRec
  | [] => [r]
  | q :: t => if r.sub < q.sub then r :: q :: t else q :: insertRec r t

/-- The guaranteed records in submission order of their channels. -/
def Node.recsInOrder (n : Node) : List CanRec := n.msg.canRecs.foldr insertRec []

/-- A new active node after takeover (R569). A record that the partner had only submitted counts as accepted: its acceptance rested on this
node holding it (DEDUCED from R434, log entry 46). -/
def Node.canTakeover (n : Node) : Node :=
  n.recsInOrder.foldl (fun (n : Node) (r : CanRec) =>
    let put (n : Node) (st : CanRecState) : Node := n.setCanRecs (n.msg.canRecs.map (fun q => if q.slot = r.slot then { q with state := st } else q))
    match r.state with
    | .submitted => (put n .accepted).canPlace r 2 0
    | .accepted => n.canPlace r 2 0
    | .launched =>
      if (n.chan r.chan).witnessed.contains r.sub then (put n .complete).canPlace r 4 0
      else (((put n .accepted).canPlace r 2 0).count (CAN_CNT_RESENT.VALUE r.chan)).raise (CAN_EVT.RESENT r.chan)
    | .complete => n.canPlace r 4 0) n

/-- A solo node at restart (R569): a launched record is never sent again. -/
def Node.canRestart (n : Node) : Node :=
  n.recsInOrder.foldl (fun (n : Node) (r : CanRec) =>
    let put (n : Node) (st : CanRecState) : Node := n.setCanRecs (n.msg.canRecs.map (fun q => if q.slot = r.slot then { q with state := st } else q))
    match r.state with
    | .submitted => (put n .accepted).canPlace r 2 0
    | .accepted => n.canPlace r 2 0
    | .launched => ((put n .complete).canPlace r 4 8).lapse 3 (r.chan + 65536 * r.entry)
    | .complete => n.canPlace r 4 0) n

/-! ### Sync sequences (R333 to R336) -/

/-- SYNCSTAT.ACTIVE of engine `e`: does a sequence of its run? -/
def Node.syncActive (n : Node) (e : Nat) : Node :=
  n.wrB (ENG_SYNCSTAT.ACTIVE e) ((upTo 8).any (fun c => match (n.chan c).seq with
    | some s => decide (s.eng = e)
    | none => false))

/-- A sequence of engine `e` begins on channel `c` with its output phase. -/
def Node.syncStart (n : Node) (c e since : Nat) (left : List Nat) : Node :=
  (n.updChan c (fun k => { k with seq := some ⟨e, since, .output, left, [], false⟩, nextRel := none })).syncActive e

/-- CYC releases the sync group of engine `e` (R333); a channel whose sequence still runs waits, and counts SYNCLATE (R335). -/
def Node.syncRelease (n : Node) (e : Nat) : Node :=
  if !n.on (ENG_SYNC.EN e) then n
  else
    ((upTo 8).filter (fun c => bit (n.rd (ENG_SYNC.CHAN e)) c)).foldl (fun (n : Node) (c : Nat) =>
      let left := (n.queuedOf c).filter (fun i => n.canSyncf i)
      let t := n.now
      let n := n.updChan c (fun k => { k with rels := k.rels + 1 })
      if (n.chan c).seq.isNone then n.syncStart c e t left
      else ((n.updChan c (fun k => { k with nextRel := some (e, t, left) })).count (ENG_CNT_SYNCLATE.VALUE e)).raise (ENG_EVT.SYNCLATE e)) n

/-- The filters of channel `c` marked as sync inputs. -/
def Node.syncFilters (n : Node) (c : Nat) : List Nat :=
  (upTo 64).filter (fun f => n.on (CAN_FW0.EN c f) && n.on (CAN_FW2.SYNCIN c f) && n.rd (CAN_FW2.COUNT c f) ≠ 0)

/-- A window of engine `e` on channel `c` has passed in which the filters `took` took a frame (R336). -/
def Node.syncMisses (n : Node) (c e : Nat) (took : List Nat) : Node :=
  let fs := n.syncFilters c
  let n := fs.foldl (fun (n : Node) (f : Nat) => n.updChan c (fun k => { k with
    misses := Tab.set (fun _ => 0) k.misses f (if took.contains f then 0 else Tab.get (fun _ => 0) k.misses f + 1) })) n
  let limit := max 1 (n.rd (ENG_SYNC.MISS e))
  let late := fs.any (fun f => limit ≤ Tab.get (fun _ => 0) (n.chan c).misses f)
  let b : Field := ⟨(ENG_SYNCSTAT.INMISS e).addr, c, 1⟩
  if late then (if n.on b then n else (n.wr b 1).raise (ENG_EVT.INMISS e))
  else if fs.all (fun f => took.contains f) then n.wr b 0 else n

/-- The sequence of channel `c` ends; a release that waited begins (R335). -/
def Node.syncEnd (n : Node) (c : Nat) : Node :=
  match (n.chan c).seq with
  | none => n
  | some s =>
    let n := (n.updChan c (fun k => { k with seq := none })).syncActive s.eng
    match (n.chan c).nextRel with
    | some r => n.syncStart c r.1 r.2.1 r.2.2
    | none => n

/-- The SYNC frame is withdrawn and the sequence ends without a window (R334, R336). -/
def Node.syncAbandon (n : Node) (c : Nat) : Node :=
  match (n.chan c).seq with
  | none => n
  | some s => ((n.wr ⟨(ENG_SYNCSTAT.ABANDON s.eng).addr, 8 + c, 1⟩ 1).syncMisses c s.eng []).syncEnd c

/-! ### Launches -/

/-- Every pending launch leaves the table, handed ones included (R533: reset, Lull, fencing). -/
def Node.launchesClear (n : Node) : Node :=
  let n := (upTo 8).foldl (fun (n : Node) (c : Nat) => n.updChan c (fun k => { k with handed := k.handed.filter (fun i => k.fired.contains i) })) n
  let n := n.eth.handed.foldl (fun (n : Node) (h : Nat × List Byte × Nat) => n.wr (ETH_LSC.STATE h.1) (n.rd (ETH_LSB.ARM h.1))) n
  let tdm := (upTo 4).foldl (fun (t : Tab TdmState) (p : Nat) =>
    Tab.set (fun _ => TdmState.empty) t p { Tab.get (fun _ => TdmState.empty) t p with handed := false }) n.tdm
  let n : Node := { n with eth := { n.eth with handed := [] }, tdm := tdm, time := { n.time with launches := [] } }
  n.wr TIME_LQ.PENDING 0

/-! ### The commands -/

/-- SYNC_QUEUE: every released entry has completed, or OUTTMO has passed: the SYNC frame is queued (R333). -/
def execSyncQueue (chan : Fin 8) (s : State) : Host.Outcome State Fault Refusal :=
  s.onNode (fun n => n.updChan chan (fun k => { k with seq := k.seq.map (fun q => if q.phase = .output then { q with phase := .queued } else q) }))

/-- SYNC_WITHDRAW: 2 × OUTTMO has passed since the release (R334). -/
def execSyncWithdraw (chan : Fin 8) (s : State) : Host.Outcome State Fault Refusal :=
  s.onNode (fun n => match (n.chan chan).seq with
    | none => n
    | some q =>
      if q.phase = .output || q.phase = .queued then n.syncAbandon chan
      else if q.phase = .sending then n.updChan chan (fun k => { k with seq := some { q with expired := true } })
      else n)

/-- INPUT_WINDOW_CLOSE: INWIN has passed since the SYNC frame (R333, R336). -/
def execInputWindowClose (chan : Fin 8) (s : State) : Host.Outcome State Fault Refusal :=
  s.onNode (fun n => match (n.chan chan).seq with
    | none => n
    | some q => if q.phase = .window then (n.syncMisses chan q.eng q.took).syncEnd chan else n)

/-- A restore from the ring after a flush that was cut short sets LAPSED (R38, R473). -/
def Node.shortLapse (n : Node) : Node := if n.on PWR_STATUS.SHORTHOLD then n.lapse 2 0 else n

/-- JOURNAL_RESTORE: a node without a synchronized partner restores JRNL from its ring (R250), guaranteed CAN records included (R569). -/
def execJournalRestore (s : State) : Host.Outcome State Fault Refusal :=
  s.onNode (fun n => if n.on PAIR_STATUS.SYNC || !n.on MSG_CTRL.PERSIST || !n.on (QSPI_STATUS.READY 1) then n
    else (n.journalRestore.canRestart).shortLapse)

/-- PALLOC_ALLOCATE: CAN0_PALLOC.GO with FREE 0 (R550). -/
def execPallocAllocate (by_ : Initiator) (value : Word) (s : State) : Host.Outcome State Fault Refusal :=
  s.onNode (fun n =>
    let v := (value &&& 0xBFFFFFFF) ||| 0x80000000
    n.mirrored by_ CAN0_PALLOC.GO.addr v.toNat (fun n => n.pallocWrite v))

/-- PALLOC_FREE: CAN0_PALLOC.GO with FREE 1 (R550). -/
def execPallocFree (by_ : Initiator) (value : Word) (s : State) : Host.Outcome State Fault Refusal :=
  s.onNode (fun n =>
    let v := value ||| 0xC0000000
    n.mirrored by_ CAN0_PALLOC.GO.addr v.toNat (fun n => n.pallocWrite v))

/-- A word of CAN0_PCMD with GO and an operation. -/
def pcmdWord (op : Nat) (value : Word) : Word := (value &&& 0x7FF) ||| BitVec.ofNat 32 (op * 4096) ||| 0x80000000

/-- One of the four commands of CAN0_PCMD, mirrored as the register write it is. -/
def Node.pcmdRow (n : Node) (by_ : Initiator) (op : Nat) (value : Word) : Node :=
  n.mirrored by_ CAN0_PCMD.GO.addr (pcmdWord op value).toNat (fun n => n.pcmdWrite by_ (pcmdWord op value))

/-- CAN_READY (R553). -/
def execCanReady (by_ : Initiator) (value : Word) (s : State) : Host.Outcome State Fault Refusal := s.onNode (fun n => n.pcmdRow by_ 0 value)

/-- CAN_ACK (R553). -/
def execCanAck (by_ : Initiator) (value : Word) (s : State) : Host.Outcome State Fault Refusal := s.onNode (fun n => n.pcmdRow by_ 1 value)

/-- CAN_ABORT (R553). -/
def execCanAbort (by_ : Initiator) (value : Word) (s : State) : Host.Outcome State Fault Refusal := s.onNode (fun n => n.pcmdRow by_ 2 value)

/-- CAN_ARM (R553). -/
def execCanArm (by_ : Initiator) (value : Word) (s : State) : Host.Outcome State Fault Refusal := s.onNode (fun n => n.pcmdRow by_ 3 value)

end Sys2Proof.Machine
end

