-- ==== Sys2Proof/Machine/Can.lean ====
section
/-! DEFINITION. The CAN channels: arbitration, transmission, reception, errors, sleep and launch (15_car_bus.md R547, R554 to R572). -/

namespace Sys2Proof.Machine

/-! ### Modes (R547, R564, R565) -/

/-- Is a channel's timing valid (R547)? -/
def Node.canTiming (n : Node) (c : Nat) : Bool :=
  let nq := n.rd (CAN_NBT.TSEG1 c) + n.rd (CAN_NBT.TSEG2 c) + 3
  let dq := n.rd (CAN_DBT.TSEG1 c) + n.rd (CAN_DBT.TSEG2 c) + 3
  8 ≤ nq && nq ≤ 385 && 5 ≤ dq && dq ≤ 49 && n.rd (CAN_NBT.SJW c) ≤ n.rd (CAN_NBT.TSEG2 c) && n.rd (CAN_DBT.SJW c) ≤ n.rd (CAN_DBT.TSEG2 c)
    && !(n.on (CAN_CTRL.TRIPLE c) && (n.rd (CAN_NBT.BRP c) + 1) * nq < 320)

/-- CTRL.SLEEP as written (R565): asleep at once when no frame is in progress, else at its end; awake again when it is cleared. -/
def Node.canSleep (n : Node) (c : Nat) : Node :=
  if !n.on (CAN_CTRL.SLEEP c) then n.wr (CAN_STATUS.ASLEEP c) 0
  else if (n.chan c).tx.isNone || 2 ≤ n.rd (CAN_STATUS.ESTATE c) then n.wr (CAN_STATUS.ASLEEP c) 1
  else n

/-- A write to CANn_CTRL (R547, R564, R565, R571): a channel leaves MODE off only while its timing is valid. -/
def Node.canCtrl (n : Node) (c : Nat) (v : Word) : Node :=
  let was := n.canMode c
  let n := n.setReg (CAN_CTRL.MODE c).addr (v &&& 0x00F31FFF)
  let on := n.rd (CAN_CTRL.MODE c) ≠ 0 && n.rd (CAN_CTRL.MODE c) < 6
  let bad := on && !n.canTiming c && was = 0
  let n := (n.wrB (CAN_STATUS.TIMERR c) bad).raiseIf bad (CAN_EVT.TIMERR c)
  n.canModes.canSleep c

/-- CAN_MODE_WRITE (R547). -/
def execCanModeWrite (by_ : Initiator) (chan : Fin 8) (value : Word) (s : State) : Host.Outcome State Fault Refusal :=
  s.onNode (fun n => n.mirrored by_ (CAN_CTRL.MODE chan).addr value.toNat (fun n => n.canCtrl chan value))

/-- CAN_SLEEP: CTRL.SLEEP is set (R565). -/
def execCanSleep (by_ : Initiator) (chan : Fin 8) (s : State) : Host.Outcome State Fault Refusal :=
  s.onNode (fun n =>
    let v := n.reg (CAN_CTRL.MODE chan).addr ||| 0x80
    n.mirrored by_ (CAN_CTRL.MODE chan).addr v.toNat (fun n => n.canCtrl chan v))

/-- CAN_RESUME: CTRL.SLEEP is cleared (R565). -/
def execCanResume (by_ : Initiator) (chan : Fin 8) (s : State) : Host.Outcome State Fault Refusal :=
  s.onNode (fun n =>
    let v := n.reg (CAN_CTRL.MODE chan).addr &&& 0xFFFFFF7F
    n.mirrored by_ (CAN_CTRL.MODE chan).addr v.toNat (fun n => n.canCtrl chan v))

/-- CANn_CMD (R561, R571). -/
def Node.canCmd (n : Node) (c : Nat) (v : Nat) : Node :=
  let n := if bit v 0 && n.rd (CAN_STATUS.ESTATE c) = 2 then n.wr (CAN_STATUS.ESTATE c) 3 else n
  if bit v 1 then
    ((n.queuedOf c).filter (fun i => !n.canGuar i && !(n.chan c).handed.contains i)).foldl (fun (n : Node) (i : Nat) => n.canAbort c i) n
  else n

/-- CAN_RECOVER (R561). -/
def execCanRecover (by_ : Initiator) (chan : Fin 8) (s : State) : Host.Outcome State Fault Refusal :=
  s.onNode (fun n => n.mirrored by_ (CAN_CMD.RECOVER chan).addr 1 (fun n => n.canCmd chan 1))

/-- CAN_ABORTALL (R571). -/
def execCanAbortall (by_ : Initiator) (chan : Fin 8) (s : State) : Host.Outcome State Fault Refusal :=
  s.onNode (fun n => n.mirrored by_ (CAN_CMD.RECOVER chan).addr 2 (fun n => n.canCmd chan 2))

/-- CAN_BUSOFF_RECOVERED: 128 recessive runs have been counted since RECOVER (R561). -/
def execCanBusoffRecovered (chan : Fin 8) (s : State) : Host.Outcome State Fault Refusal :=
  s.onNode (fun n => if n.rd (CAN_STATUS.ESTATE chan) = 3 then n.canErrClear chan else n)

/-! ### Arbitration (R554) -/

/-- May the channel send? -/
def Node.canSends (n : Node) (c : Nat) : Bool :=
  let m := n.rd (CAN_STATUS.EMODE c)
  (m = 1 || m = 4 || m = 5) && !n.on (CAN_CTRL.SLEEP c) && n.rd (CAN_STATUS.ESTATE c) < 2 && (n.chan c).tx.isNone

/-- The oldest guaranteed record of a channel that is not complete (R554). -/
def Node.oldestGuar (n : Node) (c : Nat) : Option Nat :=
  ((n.msg.canRecs.filter (fun r => r.chan = c && r.state ≠ .complete)).foldl (fun (b : Option CanRec) (r : CanRec) => match b with
    | some q => if r.sub < q.sub then some r else some q
    | none => some r) none).map (·.entry)

/-- The entries of a channel that may arbitrate (R554, R570). -/
def Node.canCandidates (n : Node) (c : Nat) : List Nat :=
  (n.queuedOf c).filter (fun i =>
    if n.canLaunch i then (n.chan c).fired.contains i
    else if n.canSyncf i && !((n.chan c).seq.map (fun s => s.left.contains i)).getD false then false
    else if n.canGuar i then !n.warning && n.oldestGuar c = some i
    else !(n.chan c).handed.contains i)

/-- The SYNC frame's identifier word, while it is queued (R333, R557). -/
def Node.syncWord (n : Node) (c : Nat) : Option Nat :=
  match (n.chan c).seq with
  | some s => if s.phase = .queued then some (n.rd (CAN_SYNCID.ID c) + n.rd (CAN_SYNCID.IDE c) * 2 ^ 29) else none
  | none => none

/-- The frame that an entry's words spell: identifier word, format word and data (R549). -/
def Node.entryFrame (n : Node) (i : Nat) : Word × Word × List Byte :=
  (BitVec.ofNat 32 (n.canW i 0), BitVec.ofNat 32 (n.canW i 1), n.memBytes (poolAddr i + 16) 64)

/-- An uncorrectable word in an entry at the taking (R24): a guaranteed entry is restored from the journal, any other completes with CODE 3. -/
def Node.canRepair (n : Node) (c i : Nat) : Bool × Node :=
  if !n.uceIn (poolAddr i) 80 then (true, n)
  else
    let n := n.uncorrectable
    match n.canRec i with
    | none => (false, ((n.unorder c i).canDone i 3).blockedRefresh c)
    | some r =>
      (true, n.memPut (poolAddr i) (leBytes 4 (r.words.getD 0 0).toNat ++ leBytes 4 (r.words.getD 1 0).toNat
        ++ leBytes 4 (setBits (setBits 0 0 3 2) 16 16 r.sub) ++ leBytes 4 0 ++ (r.words.drop 2).flatMap (fun w => leBytes 4 w.toNat)))

/-- The highest-priority candidate wins arbitration (R554, R566). -/
def Node.canWin (n : Node) (c : Nat) : Node :=
  if !n.canSends c then n
  else
    let best := lowestBy (fun i => arbKey (n.canW i 0)) (n.canCandidates c)
    let sync : Bool := match n.syncWord c with
      | none => false
      | some w => match best with
        | some i => arbKey w < arbKey (n.canW i 0)
        | none => true
    if sync then
      let n := n.updChan c (fun k => { k with
        tx := some .sync, frame := some (BitVec.ofNat 32 ((n.syncWord c).getD 0), BitVec.ofNat 32 (n.rd (CAN_SYNCID.LEN c)), leBytes (n.rd (CAN_SYNCID.LEN c)) k.rels)
        seq := k.seq.map (fun s => { s with phase := .sending }) })
      n.wr (CAN_STATUS.TXING c) 1
    else
      match best with
      | none => n
      | some i =>
        let r := n.canRepair c i
        if !r.1 then r.2
        else
          let n := r.2
          let n := if n.canGuar i then
              n.setCanRecs (n.msg.canRecs.map (fun q => if q.entry = i then { q with state := .launched } else q))
            else n
          let (ts, n) := n.freeWord
          let n := (n.canGo i 3).canPut i 3 ts
          let f := n.entryFrame i
          let n := n.updChan c (fun k => { k with tx := some (.entry i), frame := some f })
          (n.wr (CAN_STATUS.TXING c) 1).blockedRefresh c

/-- CAN_ARBITRATION_WIN (R554). -/
def execCanArbitrationWin (chan : Fin 8) (s : State) : Host.Outcome State Fault Refusal := s.onNode (fun n => n.canWin chan)

/-! ### Reception (R557 to R559, R568) -/

/-- Data bytes of a DLC. -/
def dlcLen (fdf : Bool) (dlc : Nat) : Nat :=
  if dlc ≤ 8 then dlc else if !fdf then 8 else (([12, 16, 20, 24, 32, 48, 64] : List Nat).getD (dlc - 9) 64)

/-- The DLC of a data length. -/
def dlcOf (len : Nat) : Nat := if len ≤ 8 then len else ((([12, 16, 20, 24, 32, 48, 64] : List Nat).findIdx (fun l => len ≤ l)) + 9)

/-- A received frame's identifier word (R549, R558): a base identifier in [28:18]. -/
def rxIdWord (f : CanRx) : Nat :=
  (if f.ide then f.id.toNat else f.id.toNat % 2048 * 2 ^ 18) + b2n f.ide * 2 ^ 29 + b2n f.rtr * 2 ^ 30

/-- A received frame's format word. -/
def rxFmtWord (f : CanRx) : Nat := dlcOf f.data.length + 16 * b2n f.fdf + 32 * b2n f.brs + 64 * b2n f.esi

/-- The lowest-numbered enabled filter that matches (R558). -/
def Node.canFilter (n : Node) (c : Nat) (w : Nat) : Option Nat :=
  (upTo 64).find? (fun f => n.on (CAN_FW0.EN c f) && n.rd (CAN_FW2.COUNT c f) ≠ 0
    && (bits w 0 29 ^^^ n.rd (CAN_FW0.ID c f)) &&& n.rd (CAN_FW1.MASK c f) = 0
    && (!n.on (CAN_FW1.IDEMASK c f) || bits w 29 1 = n.rd (CAN_FW0.IDE c f)))

/-- A received frame goes to its filter's ring, or is dropped (R558, R559). -/
def Node.canStore (n : Node) (c : Nat) (idw fmt : Nat) (data : List Byte) : Node :=
  match n.canFilter c idw with
  | none => n.count (CAN_CNT_NOMATCH.VALUE c)
  | some f =>
    let k := n.rd (CAN_FW2.COUNT c f)
    let pos := Tab.get (fun _ => 0) (n.chan c).ring f % k
    let i := n.rd (CAN_FW2.FIRST c f) + pos
    let mine := (n.poolOf i).map (·.1) = some c
    if 1536 ≤ i || !mine || n.canSt i ≠ 5 then (n.count (CAN_CNT_RXOVF.VALUE c)).raise (CAN_EVT.RXOVF c)
    else
      let open_ := n.on (CAN_FW2.SYNCIN c f) && ((n.chan c).seq.map (fun s => decide (s.phase = .window))).getD false
      let (ts, n) := n.freeWord
      let n := n.memPut (poolAddr i) (leBytes 4 idw ++ leBytes 4 (fmt + 1024 * b2n open_ + 65536 * f) ++ leBytes 4 6 ++ leBytes 4 ts ++ data.take 64)
      let n := n.updChan c (fun q => { q with
        ring := Tab.set (fun _ => 0) q.ring f ((pos + 1) % k)
        seq := if open_ then q.seq.map (fun s => { s with took := if s.took.contains f then s.took else s.took ++ [f] }) else q.seq })
      n.count (CAN_CNT_RXOK.VALUE c)

/-- A standby compares a frame with the oldest mirrored record of the channel in state launched (R568). -/
def Node.canWitness (n : Node) (c : Nat) (idw fmt : Nat) (data : List Byte) : Node :=
  if !n.on (CAN_STATUS.WITNESS c) then n
  else
    let l := ((upTo 512).filterMap n.readCanRec).filter (fun r => r.chan = c && r.state = .launched)
    match l.foldl (fun (b : Option CanRec) (r : CanRec) => match b with
      | some q => if r.sub < q.sub then some r else some q
      | none => some r) none with
    | none => n
    | some r =>
      let w0 := (r.words.getD 0 0).toNat
      let w1 := (r.words.getD 1 0).toNat
      let want := ((r.words.drop 2).flatMap (fun w => leBytes 4 w.toNat)).take (if bit w0 30 then 0 else dlcLen (bit w1 4) (bits w1 0 4))
      if bits w0 0 31 = idw && bits w1 0 6 = bits fmt 0 6 && want = data && !(n.chan c).witnessed.contains r.sub then
        (n.updChan c (fun k => { k with witnessed := k.witnessed ++ [r.sub] })).count (CAN_CNT_WITNESSED.VALUE c)
      else n

/-- REC after a good frame (ISO 11898-1): above 127 it takes an open value of 119 to 127. -/
def Node.recDown (n : Node) (c : Nat) : Node :=
  let r := n.rd (CAN_ERRCNT.REC c)
  if r = 0 then n
  else if r ≤ 127 then n.canErr c (n.rd (CAN_ERRCNT.TEC c)) (r - 1)
  else
    let (f, n) := n.freeWord
    n.canErr c (n.rd (CAN_ERRCNT.TEC c)) (119 + f % 9)

/-- A channel with something to send may have lost the arbitration to a frame that it hears: no row tells, so a free value (log entry 35). -/
def Node.arbLost (n : Node) (c : Nat) : Node :=
  if n.canSends c && (n.canCandidates c ≠ [] || (n.syncWord c).isSome) then
    let r := n.freeWord
    r.2.countBy (CAN_CNT_ARBLOST.VALUE c) (r.1 % 2)
  else n

/-- A frame on the bus (R558): an FD frame while FDEN is 0 is a protocol exception or a form error (R546). -/
def Node.canReceive (n : Node) (c : Nat) (f : CanRx) : Node :=
  let m := n.rd (CAN_STATUS.EMODE c)
  if m = 0 || m = 4 || n.on (CAN_STATUS.ASLEEP c) || 2 ≤ n.rd (CAN_STATUS.ESTATE c) then n
  else if f.fdf && !n.on (CAN_CTRL.FDEN c) then
    if n.on (CAN_CTRL.PXHD c) then n
    else
      let n := ((n.wr (CAN_ERRCNT.LEC c) 2).count (CAN_CNT_ERRFRAME.VALUE c))
      if m = 2 then n else n.canErr c (n.rd (CAN_ERRCNT.TEC c)) (n.rd (CAN_ERRCNT.REC c) + 1)
  else
    let n := n.arbLost c
    let n := if m = 2 then n else n.recDown c
    let n := n.canWitness c (rxIdWord f) (rxFmtWord f) f.data
    n.canStore c (rxIdWord f) (rxFmtWord f) f.data

/-- CAN_FRAME_RECEIVE (R558). -/
def execCanFrameReceive (chan : Fin 8) (f : CanRx) (s : State) : Host.Outcome State Fault Refusal := s.onNode (fun n => n.canReceive chan f)

/-! ### The end of a transmission (R555, R560, R563, R566, R570) -/

/-- The run of bit errors of an identifier (R563). -/
def Node.clashStep (n : Node) (c idw : Nat) (hit : Bool) : Node :=
  let key := idw % 2 ^ 30
  let run := if hit then Tab.get (fun _ => 0) (n.chan c).clashRun key + 1 else 0
  let limit := max 1 (n.rd (CAN_CTRL.CLASHN c))
  let n := n.updChan c (fun k => { k with clashRun := Tab.set (fun _ => 0) k.clashRun key (if run = limit then 0 else run) })
  if hit && run = limit then
    (((n.wr (CAN_CLASHID.ID c) (bits idw 0 29)).wr (CAN_CLASHID.IDE c) (bits idw 29 1)).count (CAN_CNT_CLASH.VALUE c)).raise (CAN_EVT.CLASH c)
  else n

/-- The channel sends nothing any more; a channel told to sleep is asleep now (R565). -/
def Node.canIdle (n : Node) (c : Nat) : Node :=
  let n := (n.updChan c (fun k => { k with tx := none, frame := none })).wr (CAN_STATUS.TXING c) 0
  if n.on (CAN_CTRL.SLEEP c) then n.wr (CAN_STATUS.ASLEEP c) 1 else n

/-- A frame sent: the entry is DONE with CODE 0; the SYNC frame opens the input window; a loopback channel receives its own frame (R333,
R555, R558, R566). -/
def Node.canSent (n : Node) (c : Nat) (t : CanTx) (f : Word × Word × List Byte) : Node :=
  let n := (n.canIdle c).count (CAN_CNT_TXOK.VALUE c)
  let n := n.clashStep c f.1.toNat false
  let n := n.canErr c (n.rd (CAN_ERRCNT.TEC c) - 1) (n.rd (CAN_ERRCNT.REC c))
  let data := if bit f.1.toNat 30 then [] else f.2.2.take (dlcLen (bit f.2.1.toNat 4) (bits f.2.1.toNat 0 4))
  let n := if 4 ≤ n.rd (CAN_STATUS.EMODE c) then n.canStore c (bits f.1.toNat 0 31) (bits f.2.1.toNat 0 7) data else n.emit (.can c) (leBytes 4 f.1.toNat ++ leBytes 4 f.2.1.toNat ++ data)
  match t with
  | .entry i =>
    let n := if n.canGuar i then
        n.setCanRecs (n.msg.canRecs.map (fun q => if q.entry = i then { q with state := .complete } else q))
      else n
    ((n.unorder c i).canDone i 0).blockedRefresh c
  | .sync => n.updChan c (fun k => { k with seq := k.seq.map (fun s => { s with phase := .window }) })

/-- A transmission ended in an error: one retry (R555, R560, R563). The row does not say which error: its kind, whether it came after the
arbitration field and whether an error-passive transmitter saw a dominant bit are free (log entry 35). -/
def Node.canFailed (n : Node) (c : Nat) (t : CanTx) (f : Word × Word × List Byte) : Node :=
  let (d, n) := n.freeWord
  let lec := d % 6 + 1
  let clash := (lec = 4 || lec = 5) && bit d 16
  let still := lec = 3 && n.rd (CAN_STATUS.ESTATE c) = 1 && !bit d 17
  let n := ((n.canIdle c).wr (CAN_ERRCNT.LEC c) lec).count (CAN_CNT_ERRFRAME.VALUE c)
  let n := n.clashStep c f.1.toNat clash
  let n := match t with
    | .entry i =>
      let tries := sat 8 (bits (n.canW i 2) 8 8 + 1)
      let n := n.canPut i 2 (setBits (n.canW i 2) 8 8 tries)
      if !n.canGuar i && !n.on (CAN_CTRL.UNLIM c) && n.rd (CAN_CTRL.RETRY c) < tries then
        ((n.unorder c i).canDone i 1).raise (CAN_EVT.RETRYLIM c)
      else n.canGo i 2
    | .sync =>
      match (n.chan c).seq with
      | some s => if s.expired then n.syncAbandon c else n.updChan c (fun k => { k with seq := some { s with phase := .queued } })
      | none => n
  if still then n.blockedRefresh c else n.canErr c (n.rd (CAN_ERRCNT.TEC c) + 8) (n.rd (CAN_ERRCNT.REC c))

/-- A transmission ends (R555). -/
def Node.canTxEnd (n : Node) (c : Nat) (r : CanTxResult) : Node :=
  match (n.chan c).tx with
  | none => n
  | some t =>
    let f := (n.chan c).frame.getD (0, 0, [])
    match r with
    | .ok => n.canSent c t f
    | .error => n.canFailed c t f

/-- CAN_TX_END (R555). -/
def execCanTxEnd (chan : Fin 8) (r : CanTxResult) (s : State) : Host.Outcome State Fault Refusal := s.onNode (fun n => n.canTxEnd chan r)

/-! ### Launch (R556) -/

/-- Is a channel unable to launch: off, asleep or bus-off (R556)? -/
def Node.canNoLaunch (n : Node) (c : Nat) : Bool :=
  n.rd (CAN_STATUS.EMODE c) = 0 || n.on (CAN_STATUS.ASLEEP c) || n.on (CAN_CTRL.SLEEP c) || 2 ≤ n.rd (CAN_STATUS.ESTATE c)

/-- TIME hands a launch of entry `i` (R556): is the target good, and the node after. A dropped QUEUED entry completes with CODE 7. -/
def Node.canHand (n : Node) (i : Nat) : Bool × Node :=
  match n.poolOf i with
  | none => (false, n)
  | some (c, _) =>
    if n.canSt i ≠ 2 || !n.canLaunch i then (false, n)
    else if n.canNoLaunch c then (false, ((n.unorder c i).canDone i 7).blockedRefresh c)
    else (true, n.updChan c (fun k => { k with handed := if k.handed.contains i then k.handed else k.handed ++ [i] }))

/-- A handed launch of entry `i` fires (R556). -/
def Node.canFire (n : Node) (i : Nat) : Bool × Node :=
  match n.poolOf i with
  | none => (false, n)
  | some (c, _) =>
    if !(n.chan c).handed.contains i then (false, n)
    else if n.canNoLaunch c then (false, ((n.unorder c i).canDone i 7).blockedRefresh c)
    else (true, n.updChan c (fun k => { k with fired := if k.fired.contains i then k.fired else k.fired ++ [i] }))

/-- A launch of entry `i` is withdrawn after the handing. -/
def Node.canUnhand (n : Node) (i : Nat) : Node :=
  match n.poolOf i with
  | none => n
  | some (c, _) => n.updChan c (fun k => { k with handed := k.handed.filter (· ≠ i), fired := k.fired.filter (· ≠ i) })

end Sys2Proof.Machine
end

