-- ==== Sys2Proof/Machine/Accept.lean ====
section
/-! DEFINITION. Acceptance of submitted work (01_architecture.md R33 to R36; 06_messages.md R243, R245, R250, R260, R269;
17_event_recorder.md R621). -/

namespace Sys2Proof.Machine

/-- Does JRNL content still wait for the partner (R33, R434)? -/
def Node.jrnlWaits (n : Node) : Bool :=
  n.pair.waiting.any (fun w => w.2.1 = 0x10) || n.pair.unacked.any (fun w => ((w.2.2.getD 2 0).toNat = 0x10))

/-- The mode in which item `a` may be accepted now: 1 pair, 2 solo, 0 none. A standby's own records are accepted under R34 alone (R621). -/
def Node.itemMode (n : Node) (a : AccItem) : Nat :=
  match a with
  | .record _ => if n.pairSt = 3 || n.pairSt = 4 then (if n.soloAccept then 2 else 0) else n.acceptMode
  | _ => n.acceptMode

/-- An item's acceptance completes. -/
def Node.acceptItem (n : Node) (a : AccItem) : Node :=
  match a with
  | .outbound f seq => n.acceptOut f seq
  | .inbound f seq => n.acceptIn f seq
  | .canEntry i => n.canAccepted i
  | .record seq => { n with evr := { n.evr with guarded := n.evr.guarded.map (fun g => if g.1 = seq then (g.1, g.2.1, g.2.2.1, true) else g) } }
  | .hostAck q => n.ackDesc q

/-- The oldest submission is accepted (R243: in submission order across the node), unless acceptances are held (R245). In pair mode the
partner has acknowledged every JRNL frame; in solo mode the valid marks of all its records, the acceptance included, are written (R250). -/
def Node.acceptNext (n : Node) : Node :=
  match n.msg.accq with
  | [] => n
  | a :: rest =>
    let m := n.itemMode a
    if n.msg.heldAcc || m = 0 || (m = 1 && n.jrnlWaits) then n
    else
      let n := ({ n with msg := { n.msg with accq := rest } } : Node).acceptItem a
      if m = 2 then (upTo n.msg.changes.length).foldl (fun (n : Node) _ => n.ringWrite) n else n

/-- ACCEPTANCE: acceptance of the oldest submission completes (R33, R34). -/
def execAcceptance (s : State) : Host.Outcome State Fault Refusal := s.onNode (·.acceptNext)

end Sys2Proof.Machine
end

