-- ==== Sys2Proof/Machine/Gust.lean ====
section
/-! DEFINITION. The Gust governor's operations (12_power.md R460 to R465, R482, R484), shared by GUST, CALM, the host registers and the
units that give gusts back. -/

namespace Sys2Proof.Machine

/-- The fixed cost of a class (R460). -/
def Node.gustCost (n : Node) (c : Nat) : Nat := n.rd (PWR_CLASS.COST (c - 1))

/-- R, the class-8 cost. -/
def Node.reserve (n : Node) : Nat := n.gustCost 8

/-- G, the granted total (R461). -/
def Node.granted (n : Node) : Nat := n.rd PWR_BUDGET.GRANTED

/-- The lowest free handle of 1 to 254 (DESIGN CHOICE, log entry 13: the spec does not say which). -/
def Node.freeHandle (n : Node) : Option Nat := ((upTo 254).map (· + 1)).find? (fun h => n.rd (PWR_GH.STATE h) = 0)

/-- The queue replaced; PWR_STATUS.QUEUED follows. -/
def Node.setGustQueue (n : Node) (q : List Nat) : Node :=
  ({ n with pwr := { n.pwr with queue := q } } : Node).wr PWR_STATUS.QUEUED q.length

/-- A handle's entry written (R484), its age starting now. -/
def Node.setHandle (n : Node) (h state cls owner : Nat) : Node :=
  let n := ((n.wr (PWR_GH.STATE h) state).wr (PWR_GH.CLASS h) cls).wr (PWR_GH.OWNER h) owner
  { n with pwr := { n.pwr with since := Tab.set (fun _ => 0) n.pwr.since h n.now } }

/-- Request rule 1 of R462: is a request of class `c` refused? -/
def Node.gustRefused (n : Node) (c : Nat) : Bool :=
  c = 0 || 8 ≤ c || !n.on (PWR_CLASS.EN (c - 1)) || n.warning || n.freeHandle.isNone || n.rd PWR_BUDGET.BUDGET < n.reserve + n.gustCost c

/-- A gust request (R462): handle, result (0 refused, 1 granted, 2 queued), and the node after it. -/
def Node.gustRequest (n : Node) (owner c : Nat) : Nat × Nat × Node :=
  let refuse : Nat × Nat × Node := (0, 0, (n.count PWR_CNT_REFUSED.VALUE).raise PWR_EVT.REFUSED)
  match n.freeHandle with
  | none => refuse
  | some h =>
    if n.gustRefused c then refuse
    else if n.pwr.queue = [] && n.granted + n.gustCost c ≤ n.rd PWR_BUDGET.BUDGET then
      let n := (n.setHandle h 1 c owner).wr PWR_BUDGET.GRANTED (n.granted + n.gustCost c)
      (h, 1, (n.wr PWR_STATUS.HELD (n.rd PWR_STATUS.HELD + 1)).count PWR_CNT_GRANTS.VALUE)
    else if n.on (PWR_CLASS.POLICY (c - 1)) && n.pwr.queue.length < 32 then
      let n := (n.setHandle h 2 c owner).setGustQueue (n.pwr.queue ++ [h])
      (h, 2, (n.wr PWR_STATUS.HELD (n.rd PWR_STATUS.HELD + 1)).count PWR_CNT_QUEUED.VALUE)
    else refuse

/-- Free a handle: a granted one leaves G, a queued one the queue (R462, R464). -/
def Node.gustFree (n : Node) (h : Nat) : Node :=
  let st := n.rd (PWR_GH.STATE h)
  if st = 0 || h = 255 then n
  else
    let n := if st = 1 then n.wr PWR_BUDGET.GRANTED (n.granted - n.gustCost (n.rd (PWR_GH.CLASS h))) else n
    let n := if st = 2 then n.setGustQueue (n.pwr.queue.filter (· ≠ h)) else n
    (n.setReg (PWR_GH.STATE h).addr 0).wr PWR_STATUS.HELD (n.rd PWR_STATUS.HELD - 1)

/-- CALM or PWR_HCALM by `owner` (R461, R462): 0 done, 1 handle not held by it. -/
def Node.gustCalm (n : Node) (owner h : Nat) : Nat × Node :=
  if h = 0 || h = 255 || n.rd (PWR_GH.STATE h) = 0 || n.rd (PWR_GH.OWNER h) ≠ owner then (1, n) else (0, n.gustFree h)

/-- Revoke a granted gust: it leaves G and stays allocated with state REVOKED (R464). -/
def Node.gustRevoke (n : Node) (h : Nat) : Node :=
  if n.rd (PWR_GH.STATE h) = 1 && h ≠ 255 then
    (n.wr PWR_BUDGET.GRANTED (n.granted - n.gustCost (n.rd (PWR_GH.CLASS h)))).wr (PWR_GH.STATE h) 3
  else n

/-- The handles whose entry satisfies a test. -/
def Node.handlesWhere (_n : Node) (p : Nat → Bool) : List Nat := ((upTo 254).map (· + 1)).filter p

/-- Every handle of an owner is freed, as CALM would (R338, R464). -/
def Node.gustFreeOwner (n : Node) (owner : Nat) : Node :=
  (n.handlesWhere (fun h => n.rd (PWR_GH.STATE h) ≠ 0 && n.rd (PWR_GH.OWNER h) = owner)).foldl Node.gustFree n

/-- Every handle but 255 is freed, as a fence, a Lull entry or a reset does (R464). -/
def Node.gustFreeAll (n : Node) : Node := (n.handlesWhere (fun h => n.rd (PWR_GH.STATE h) ≠ 0)).foldl Node.gustFree n

/-- Grants from the head of the queue while it fits; `k` bounds their number (R462, R463). -/
def Node.gustDrain : Nat → Node → Node
  | 0, n => n
  | k + 1, n =>
    match n.pwr.queue with
    | [] => n
    | h :: rest =>
      let c := n.rd (PWR_GH.CLASS h)
      if n.warning || n.rd PWR_BUDGET.BUDGET < n.granted + n.gustCost c || n.rd PWR_BUDGET.BUDGET < n.reserve + n.gustCost c then n
      else
        let n := (n.setHandle h 1 c (n.rd (PWR_GH.OWNER h))).setGustQueue rest
        Node.gustDrain k ((n.wr PWR_BUDGET.GRANTED (n.granted + n.gustCost c)).count PWR_CNT_GRANTS.VALUE)

/-- The number by which PWR_GHm.OWNER names an initiator (R484): the management agent acts as the host port (DEDUCED, log entry 14). -/
def ownerCode : Initiator → Nat
  | .eng e => e.val
  | .host => 8
  | .agent => 8
  | .jtag => 8
  | .unit => 0xF

/-- PWR_HREQ: the host request registers submit a gust request (R482): result in PWR_HRES. -/
def execPwrHreq (_by : Initiator) (value : Word) (s : State) : Host.Outcome State Fault Refusal :=
  s.onNode (fun n =>
    let n := n.wr PWR_HREQ.CLASS (value.toNat % 256)
    if bit value.toNat 31 then
      let (h, r, n) := n.gustRequest 8 (value.toNat % 256)
      (n.wr PWR_HRES.HANDLE h).wr PWR_HRES.RESULT r
    else n)

/-- GUST_QUEUE_GRANT: the head of the queue fits and is granted, then the next in the same way (R462). -/
def execGustQueueGrant (s : State) : Host.Outcome State Fault Refusal := s.onNode (Node.gustDrain 32)

end Sys2Proof.Machine
end

