-- ==== Sys2Proof/Machine/Line.lean ====
section
/-! DEFINITION. LINE: equalizers, loading tables and their negotiation, sounding, trims, deep calibration (02_barel_line.md). -/

namespace Sys2Proof.Machine

/-! ### Lines, attachments, handles -/

/-- The number of a line: 0 A, 1 B. -/
def lineNo : Line → Nat
  | .a => 0
  | .b => 1

/-- The line of an attachment: LINE0 and LINE2 are line A, LINE1 and LINE3 line B. -/
def attLine (att : Nat) : Nat := att % 2

/-- Attachment `att` met something in this cycle (R86): 0 beacon, 1 foreign beacon, 2 stranger, 3 erased symbol. -/
def Node.meets (n : Node) (att kind : Nat) : Node := { n with line := { n.line with met := n.line.met ++ [(att, kind)] } }

/-- The node's own number; 0 when unnumbered. -/
def Node.nodeNum (n : Node) : Nat := n.rd BAR_STATUS.NODE

/-- The handle field of a node number set. -/
def Node.setHandleOf (n : Node) (node h : Nat) : Node :=
  if node = 0 || 128 < node then n else n.wr ⟨0x40010400 + (node - 1) / 4 * 4, 8 * ((node - 1) % 4), 8⟩ h

/-- The record of node `node` on line `l` replaced; a node without a handle has none. -/
def Node.setPeer (n : Node) (l node : Nat) (p : PeerLine) : Node :=
  if n.handleOf node = 255 then n
  else { n with line := { n.line with peers := Tab.set (fun _ => PeerLine.empty) n.line.peers (256 * l + n.handleOf node) p } }

/-- The node's own line record. -/
def Node.own (n : Node) (l : Nat) : OwnLine := if l = 0 then n.line.ownA else n.line.ownB

/-- The node's own line record replaced. -/
def Node.setOwn (n : Node) (l : Nat) (o : OwnLine) : Node :=
  if l = 0 then { n with line := { n.line with ownA := o } } else { n with line := { n.line with ownB := o } }

/-- The CHAN entry of a node on a line (R60). -/
def Node.chanAddr (n : Node) (l node : Nat) : Nat := (if l = 0 then 0x206A0000 else 0x20740000) + n.handleOf node * 0x1400

/-! ### Tables -/

/-- A tone notched on a line (R49, R89)? -/
def Node.notched (n : Node) (l k : Nat) : Bool :=
  (upTo 16).any (fun m => n.on (LINE_NOTCH.EN l m) &&
    max 33 (n.rd (LINE_NOTCH.FIRST l m)) ≤ k && k ≤ min 1023 (n.rd (LINE_NOTCH.LAST l m)))

/-- The entries of a packed table: tone 33 first. -/
def unpackTable (bs : List Byte) : List Nat :=
  ((bs.flatMap (fun b => [b.toNat % 16, b.toNat / 16])).take 991).map (fun v => if 10 < v then 0 else v)

/-- 496 bytes of 991 entries. -/
def packTable (t : List Nat) : List Byte := (upTo 496).map (fun i => BitVec.ofNat 8 (nth t (2 * i) + 16 * nth t (2 * i + 1)))

/-- The bit sum of a table. -/
def tableSum (t : List Nat) : Nat := t.sum

/-- The default table of a line: 2 bits on every tone that is not notched. -/
def Node.defaultTable (n : Node) (l : Nat) : List Nat := (upTo 991).map (fun i => if n.notched l (i + 33) then 0 else 2)

/-- The null table. -/
def nullTable : List Nat := List.replicate 991 0

/-- The own current transmit table on a line: epoch 0 is the default table, which is not stored (R60). -/
def Node.ownTable (n : Node) (l : Nat) : List Nat :=
  let o := n.own l
  if o.isNull then nullTable
  else if o.epoch = 0 then n.defaultTable l
  else unpackTable (n.memBytes (n.chanAddr l n.nodeNum) 496)

/-- The current receive table of a peer. -/
def Node.peerTable (n : Node) (l node : Nat) : List Nat :=
  if (n.peer l node).epoch = 0 then n.defaultTable l
  else unpackTable (n.memBytes (n.chanAddr l node + 0xF80) 496)

/-- W of a slot with `d` data symbols, over the lines in service (R56, R58). -/
def Node.slotWords (n : Node) (d : Nat) : Nat :=
  let w := fun l => d * tableSum (n.ownTable l) / 4608
  match (n.own 0).isNull, (n.own 1).isNull with
  | false, false => min (w 0) (w 1)
  | false, true => w 0
  | true, false => w 1
  | true, true => 0

/-- The payload of a slot with `d` data symbols in bytes: data codewords, or robust symbols when no line is in service (R56, R57). -/
def Node.slotPayload (n : Node) (d : Nat) : Nat :=
  if (n.own 0).isNull && (n.own 1).isNull then 120 * d else 512 * n.slotWords d

/-- A loading unit goes in the node's next slot. -/
def Node.loadUnit (n : Node) (body : List Byte) : Node := { n with line := { n.line with units := n.line.units ++ [body] } }

/-- A LOAD_SET body (R73). -/
def Node.loadSetBody (n : Node) (l newEpoch ns count : Nat) (isNull reply : Bool) (t : List Nat) : List Byte :=
  [0x22] ++ leBytes 1 l ++ leBytes 1 n.nodeNum ++ leBytes 1 (newEpoch + 16 * (n.own l).epoch) ++ leBytes 4 ns
    ++ leBytes 2 (tableSum t) ++ leBytes 1 count ++ leBytes 1 (b2n isNull + 2 * b2n reply) ++ packTable t

/-- A LOAD_ACK body (R74). -/
def Node.loadAckBody (n : Node) (l tx epoch : Nat) (busy : Bool) (ns : Nat) : List Byte :=
  [0x23] ++ leBytes 1 l ++ leBytes 1 n.nodeNum ++ leBytes 1 tx ++ leBytes 1 (epoch + 16 * b2n busy) ++ leBytes 1 0 ++ leBytes 2 0 ++ leBytes 4 ns

/-- A LOAD_REQ body (R74). -/
def Node.loadReqBody (n : Node) (l tx epoch reason : Nat) : List Byte :=
  [0x24] ++ leBytes 1 l ++ leBytes 1 n.nodeNum ++ leBytes 1 tx ++ leBytes 1 epoch ++ leBytes 1 reason ++ leBytes 2 0

/-! ### Equalizer and noise (R62, R63); coefficients are pairs in units of 2^-13 -/

/-- `a / b` rounded to nearest, halves away from zero, for `b > 0` (DESIGN CHOICE, log entry 15). -/
def divRound (a : Int) (b : Nat) : Int := if 0 ≤ a then (2 * a + b) / (2 * b : Int) else -((2 * (-a) + b) / (2 * b : Int))

/-- A signed 16-bit value. -/
def signed16 (v : Nat) : Int := if v % 65536 < 32768 then (v % 65536 : Nat) else (v % 65536 : Nat) - (65536 : Int)

/-- A value limited to 16 signed bits. -/
def clip16 (v : Int) : Int := if v < -32768 then -32768 else if 32767 < v then 32767 else v

/-- The coefficients of a CHAN entry. -/
def Node.eqCoefs (n : Node) (l node : Nat) : List (Int × Int) :=
  (upTo 991).map (fun i => let a := n.chanAddr l node + 4 * i; (signed16 (n.memLe a 2), signed16 (n.memLe (a + 2) 2)))

/-- The bytes of coefficients. -/
def coefBytes (cs : List (Int × Int)) : List Byte :=
  cs.flatMap (fun c => leBytes 2 (BitVec.ofInt 16 (clip16 c.1)).toNat ++ leBytes 2 (BitVec.ofInt 16 (clip16 c.2)).toNat)

/-- E + (X / Y - E) / 2^s for X = `x` (units of 2^-13), rounded to nearest; unchanged where Y is 0. -/
def eqUpdate (x y e : Int × Int) (s : Nat) : Int × Int :=
  let d := (y.1 * y.1 + y.2 * y.2).toNat
  if d = 0 then e
  else
    let re := (x.1 * y.1 + x.2 * y.2) * 8192
    let im := (x.2 * y.1 - x.1 * y.2) * 8192
    let k : Nat := 2 ^ s
    (divRound (e.1 * d * (k - 1) + re) (d * k), divRound (e.2 * d * (k - 1) + im) (d * k))

/-- `k` bits of the PRBS with feedback taps `a` and `b` (1-based), state all ones at first; each bit out is the oldest of the register
(DESIGN CHOICE, log entry 15). -/
def prbs (a b : Nat) : Nat → Nat → List Nat
  | 0, _ => []
  | k + 1, st => bits st (a - 1) 1 :: prbs a b k ((2 * st + (bits st (a - 1) 1 + bits st (b - 1) 1) % 2) % 2 ^ a)

/-- Is even tone `k` one of the 32 that carry the pilot field (R51)? -/
def fieldTone (k : Nat) : Bool := 34 ≤ k && k ≤ 964 && (k - 34) % 30 = 0

/-- The known values of the even tones 34 to 1022 in units of 2^-13: none for a field tone (R51). -/
def pilotKnown : List (Option Int) :=
  let go := (upTo 495).foldl (fun (acc : List (Option Int) × List Nat) i =>
    if fieldTone (34 + 2 * i) then (none :: acc.1, acc.2)
    else ((some (if acc.2.headD 0 = 0 then 8192 else -8192)) :: acc.1, acc.2.tail)) ([], prbs 11 9 463 2047)
  go.1.reverse

/-- The known values of all 991 tones of a sounding symbol, (±1 ± j)/√2 in units of 2^-13 with 5793 for 8192/√2 (R53). -/
def soundingKnown : List (Int × Int) :=
  let bs := prbs 23 18 1982 8388607
  (upTo 991).map (fun i => (if nth bs (2 * i) = 0 then 5793 else -5793, if nth bs (2 * i + 1) = 0 then 5793 else -5793))

/-- A coefficient of a list, (0, 0) past the end. -/
def coef (cs : List (Int × Int)) (i : Nat) : Int × Int := cs.getD i (0, 0)

/-- The equalizer after a pilot (R62): known even tones move by 2^-s, then odd and field tones take the mean of their neighbours, tone 33
copies 34 and tone 1023 copies 1022. List index is tone - 33. -/
def pilotEq (cs bins : List (Int × Int)) (s : Nat) : List (Int × Int) :=
  let even := (upTo 495).map (fun i =>
    match pilotKnown.getD i none with
    | some x => eqUpdate (x, 0) (coef bins i) (coef cs (2 * i + 1)) s
    | none => coef cs (2 * i + 1))
  let mean := fun (a b : Int × Int) => (divRound (a.1 + b.1) 2, divRound (a.2 + b.2) 2)
  let isField := fun i => fieldTone (34 + 2 * i)
  let odd := fun (ev : List (Int × Int)) i => mean (coef ev i) (coef ev (i + 1))
  let even := (upTo 495).map (fun i => if isField i then mean (odd even (i - 1)) (odd even i) else coef even i)
  (upTo 991).map (fun i =>
    if i = 0 then coef even 0
    else if i = 990 then coef even 494
    else if i % 2 = 1 then coef even (i / 2)
    else mean (coef even (i / 2 - 1)) (coef even (i / 2)))

/-- |E|^2 in units of 2^-26. -/
def mag2 (c : Int × Int) : Nat := (c.1 * c.1 + c.2 * c.2).toNat

/-- Is the ratio `num / den` at least `h` half dB? -/
def ratioAtLeast (num den : Nat) (h : Int) : Bool :=
  if 0 ≤ h then 10 ^ h.toNat * den ^ 20 ≤ num ^ 20 else den ^ 20 ≤ num ^ 20 * 10 ^ (-h).toNat

/-- The SNR a loading entry needs, in half dB (R54). -/
def snrNeed (b : Nat) : Nat := nth [0, 6, 12, 20, 26, 33, 39, 45, 51, 57, 63] b

/-- The noise estimate a first valid pilot starts with, per group of 16 tones (R63): 1 / (max |E|^2 × 10^((6 + MARGIN/2)/10)), in units of
2^-32; the power of ten to 1/1024 by the 20th root found in 2^-10 steps. -/
def root20 (h : Nat) : Nat := ((upTo 400000).find? (fun v => 10 ^ h * 1024 ^ 20 ≤ v ^ 20)).getD 400000

/-- The starting noise of every group (R63). -/
def startNoise (cs : List (Int × Int)) (margin : Nat) : List Nat :=
  let r := root20 (12 + margin)
  (upTo 62).map (fun g =>
    let m := ((upTo 16).map (fun i => mag2 (coef cs (16 * g + i)))).foldl max 0
    if m = 0 then 0 else 2 ^ 68 / (m * r))

/-- The mean over group `g` of |Y - X / E|^2, in units of 2^-32 (R63). -/
def groupError (cs bins : List (Int × Int)) (g : Nat) : Nat :=
  let one := fun i =>
    let e := coef cs i
    let d := mag2 e
    if d = 0 then 0
    else
      let x := coef soundingKnown i
      let y := coef bins i
      let re := y.1 * d - (x.1 * e.1 + x.2 * e.2) * 8192
      let im := y.2 * d - (x.2 * e.1 - x.1 * e.2) * 8192
      (re * re + im * im).toNat * 64 / (d * d)
  let tones := (upTo 16).filter (fun i => 16 * g + i < 991)
  (tones.map (fun i => one (16 * g + i))).sum / max 1 tones.length

/-- The SNR of tone index `i` as a fraction: 1 / (|E|^2 × N) (R63). -/
def toneSnr (cs : List (Int × Int)) (noise : List Nat) (i : Nat) : Nat × Nat :=
  (2 ^ 58, max 1 (mag2 (coef cs i) * nth noise (i / 16)))

/-- The largest entry of 0 to `k` whose need plus the margin the SNR reaches. -/
def bestBits (num den : Nat) (margin : Nat) : Nat → Nat
  | 0 => 0
  | k + 1 => if ratioAtLeast num den (snrNeed (k + 1) + margin) then k + 1 else bestBits num den margin k

/-- The receiver's table Q for a peer (R63). -/
def Node.rxTable (n : Node) (l : Nat) (cs : List (Int × Int)) (noise : List Nat) : List Nat :=
  (upTo 991).map (fun i =>
    if n.notched l (i + 33) then 0
    else let s := toneSnr cs noise i; bestBits s.1 s.2 (n.rd (LINE_LOAD.MARGIN l)) 10)

/-- The lowest margin over the tones of table `t`, in half dB, from -128 to 127. -/
def lowestMargin (cs : List (Int × Int)) (noise t : List Nat) : Int :=
  let ok := fun (h : Int) => (upTo 991).all (fun i => nth t i = 0 ||
    (let s := toneSnr cs noise i; ratioAtLeast s.1 s.2 ((snrNeed (nth t i) : Int) + h)))
  match ((upTo 255).map (fun i : Nat => (127 : Int) - (i : Int))).find? ok with
  | some h => h
  | none => -128

/-! ### Pilots and soundings -/

/-- The tables of a peer are no longer held: LOAD_REQ goes in the next slot (R72). -/
def Node.tablesNotHeld (n : Node) (l node reason : Nat) : Node :=
  let p := n.peer l node
  (n.setPeer l node { p with held := false, eqSet := false, soundings := 0 }).loadUnit (n.loadReqBody l node p.epoch reason)

/-- The pending table of a peer becomes current and its pool entry is freed (R69). -/
def Node.promote (n : Node) (l node : Nat) : Node :=
  let p := n.peer l node
  match p.pend with
  | none => n
  | some (e, _, idx) =>
    let t := n.memBytes (n.chanAddr l n.nodeNum + 0x3E0 + 496 * idx) 496
    let n := n.memPut (n.chanAddr l node + 0xF80) t
    let n := n.setPeer l node { p with pend := none, epoch := e, held := true, bitSum := tableSum (unpackTable t), isNull := tableSum (unpackTable t) = 0 }
    let o := n.own l
    n.setOwn l { o with pool := o.pool.filter (·.1 ≠ idx) }

/-- CRC-8 of the pilot field (R52). -/
def pilotCrc (v : Nat) : Nat := crcFwd 8 7 0xFF (leBytes 3 v)

/-- A trim moved one code toward a target (R76). -/
def toward (cur target : Int) : Int := if cur < target then cur + 1 else if target < cur then cur - 1 else cur

/-- A signed 12-bit field. -/
def signed12 (v : Nat) : Int := if v < 2048 then v else (v : Int) - 4096

/-- A slot pilot received (R59, R62, R69 to R72, R76, R80). -/
def Node.pilot (n : Node) (r : PilotRx) : Node :=
  let l := attLine r.att
  if !n.on (LINE_CTRL.EN r.att) || n.attShed r.att then n
  else
    let n := if r.erased then (n.count (LINE_CNT_ERASED.VALUE r.att)).meets r.att 3 else n
    let v := r.field.toNat
    let node := v % 256
    if pilotCrc v ≠ v / 16777216 || 128 < node then
      let n := n.count (LINE_CNT_FIELDCRC.VALUE l)
      match (n.peer l r.owner).pend with
      | some (_, ns, _) => if ns ≤ n.cycle then n.promote l r.owner else n
      | none => n
    else
      let e := bits v 8 4
      let p := n.peer l node
      let n := n.setPeer l node { p with lastValid := n.cycle, snrSum := p.snrSum + r.snr, snrCount := p.snrCount + 1 }
      let n := match p.pend with
        | some (pe, _, _) => if pe = e then n.promote l node else n
        | none => n
      let p := n.peer l node
      let n := if p.held && (e = p.epoch || e = 0) then n
        else if p.held then (n.count (LINE_CNT_MISMATCH.VALUE l)).loadUnit (n.loadReqBody l node e 1)
        else n.loadUnit (n.loadReqBody l node e 2)
      if r.erased then n
      else
        let p := n.peer l node
        let cs := pilotEq (n.eqCoefs l node) r.bins (if p.eqSet then n.rd (LINE_CTRL.MU l) + 2 else 0)
        let n := if n.handleOf node = 255 then n else n.memPut (n.chanAddr l node) (coefBytes cs)
        let n := n.setPeer l node { p with eqSet := true, noise := if p.eqSet then p.noise else startNoise cs (n.rd (LINE_LOAD.MARGIN l)) }
        if n.on (LINE_TRIM.FREEZE r.att) then n
        else
          let o := toward (signed12 (n.rd (LINE_TRIM.OFFSET r.att))) r.refMean
          let g := toward (signed12 (n.rd (LINE_TRIM.GAIN r.att))) r.refGain
          (n.wr (LINE_TRIM.OFFSET r.att) (toWord o).toNat).wr (LINE_TRIM.GAIN r.att) (toWord g).toNat

/-- The current round: 16 cycles. -/
def Node.round (n : Node) : Nat := n.cycle / 16

/-- A sounding of peer `t` (R62 to R64). -/
def Node.sounding (n : Node) (r : SoundingRx) : Node :=
  let l := attLine r.att
  let t := r.node
  if !n.on (LINE_CTRL.EN r.att) || n.attShed r.att || n.handleOf t = 255 then n
  else
    let p := n.peer l t
    let old := n.eqCoefs l t
    let cs := (upTo 991).map (fun i => eqUpdate (coef soundingKnown i) (coef r.bins i) (coef old i) 1)
    let n := n.memPut (n.chanAddr l t) (coefBytes cs)
    let noise := (upTo 62).map (fun g => (7 * nth p.noise g + groupError old r.bins g) / 8)
    let p := { p with noise := noise, soundings := p.soundings + 1, meanSnr := r.meanSnr, minSnr := r.minSnr }
    let n := n.setPeer l t p
    let q := n.rxTable l cs noise
    let cur := n.peerTable l t
    let margin : Int := n.rd (LINE_LOAD.MARGIN l)
    let low := lowestMargin cs noise cur
    let urgent := decide (low < margin - 6) && p.urgentRound ≠ n.round + 1
    let gain := max 20 (tableSum cur / 50)
    let raise := decide (p.propSum + gain ≤ tableSum q) && decide (p.propRound + max 1 (n.rd (LINE_LOAD.HOLD l)) ≤ n.round) && decide (8 ≤ p.soundings)
    if !n.on (LINE_LOAD.AUTO l) || !(urgent || raise) then n
    else
      let body := [0x21] ++ leBytes 1 l ++ leBytes 1 n.nodeNum ++ leBytes 1 t ++ leBytes 4 n.cycle ++ leBytes 2 (tableSum q)
        ++ leBytes 1 (BitVec.ofInt 8 low).toNat ++ leBytes 1 (b2n urgent) ++ packTable q
      let n := n.setPeer l t { p with propSum := tableSum q, propRound := n.round, urgentRound := if urgent then n.round + 1 else p.urgentRound }
      if n.on CLK_STATUS.LINELOCK then n.loadUnit body else n

/-! ### Negotiation -/

/-- Node numbers present in roll-call (R127, R143). -/
def Node.presentNodes (n : Node) : List Nat := ((upTo 128).map (· + 1)).filter (fun k => bit (n.rd (BAR_RCPRES.BITS ((k - 1) / 32))) ((k - 1) % 32))

/-- The candidate table of a line: the tone-by-tone minimum of the stored proposals, and whether one was URGENT (R65). -/
def Node.candidate (n : Node) (l : Nat) : List Nat × Bool :=
  let ps := (n.dir.filter (fun r => r.num ≠ n.nodeNum && (n.peer l r.num).stored)).map (·.num)
  match ps.map (fun k => unpackTable (n.memBytes (n.chanAddr l k + 0x1170) 496)) with
  | [] => (n.ownTable l, false)
  | t :: ts => (ts.foldl (fun a b => List.zipWith min a b) t, ps.any (fun k => (n.peer l k).storedUrgent))

/-- The first multiple of 16 that is at least `c`. -/
def up16 (c : Nat) : Nat := (c + 15) / 16 * 16

/-- A round start on one line as transmitter (R65, R66). -/
def Node.loadRound (n : Node) (l : Nat) : Node :=
  let o := n.own l
  if o.switch.isSome || o.isNull || n.nodeNum = 0 then n
  else
    let (c, urgent) := n.candidate l
    let cur := n.ownTable l
    let below := (List.zip c cur).any (fun p => p.1 < p.2)
    if !(below || (101 * tableSum cur ≤ 100 * tableSum c && tableSum cur < tableSum c)) then n
    else
      let lead := if urgent then 32 else 48
      let epoch := o.epoch % 15 + 1
      let sw : LineSwitch := ⟨epoch, up16 (n.cycle + lead), lead, 1, false, n.presentNodes.filter (· ≠ n.nodeNum), false⟩
      let n := n.memPut (n.chanAddr l n.nodeNum + 0x1F0) (packTable c)
      n.setOwn l { o with switch := some sw }

/-- A peer's primary line at a round start (R59). -/
def Node.primaryRound (n : Node) (node : Nat) : Node :=
  let h := n.handleOf node
  let a := n.peer 0 node
  let b := n.peer 1 node
  let cur := Tab.get (fun _ => 0) n.line.primary h
  let usable := fun (p : PeerLine) => p.held && !p.isNull
  let mean := fun (p : PeerLine) => if p.snrCount = 0 then 0 else p.snrSum / p.snrCount
  let (mine, other) := if cur = 0 then (a, b) else (b, a)
  let swap := usable other && (!usable mine || mean mine + 4 < mean other)
  let n := { n with line := { n.line with primary := Tab.set (fun _ => 0) n.line.primary h (if swap then 1 - cur else cur) } }
  (n.setPeer 0 node { a with snrSum := 0, snrCount := 0 }).setPeer 1 node { b with snrSum := 0, snrCount := 0 }

/-- The LOAD_SET that a transmitter repeats in its slots through cycle N_s - 9 (R66, R68). -/
def Node.announcements (n : Node) : List (List Byte) :=
  (upTo 2).filterMap (fun l => match (n.own l).switch with
    | some sw => if n.cycle + 9 ≤ sw.ns then
        some (n.loadSetBody l sw.epoch sw.ns sw.count false false (unpackTable (n.memBytes (n.chanAddr l n.nodeNum + 0x1F0) 496)))
      else none
    | none => none)

/-- A LOAD_PROP for this node's transmissions (R73). -/
def Node.loadProp (n : Node) (body : List Byte) : Node :=
  let l := le body 1 1 % 2
  let r := le body 2 1
  if body.length < 508 || le body 3 1 ≠ n.nodeNum || n.nodeNum = 0 || n.handleOf r = 255 then n
  else
    let n := n.memPut (n.chanAddr l r + 0x1170) (slice body 12 496)
    n.setPeer l r { n.peer l r with stored := true, storedUrgent := bit (le body 11 1) 0 }

/-- A LOAD_SET of a transmitter (R67, R72, R73). -/
def Node.loadSet (n : Node) (body : List Byte) : Node :=
  let l := le body 1 1 % 2
  let t := le body 2 1
  if body.length < 508 || t = n.nodeNum || n.handleOf t = 255 || n.handleOf n.nodeNum = 255 then n
  else
    let epoch := le body 3 1 % 16
    let ns := le body 4 4
    let table := slice body 12 496
    let p := n.peer l t
    if bit (le body 11 1) 1 then
      let n := n.memPut (n.chanAddr l t + 0xF80) table
      n.setPeer l t { p with held := true, epoch := le body 3 1 / 16, bitSum := le body 8 2, isNull := bit (le body 11 1) 0 }
    else match p.pend with
      | some (e, _, idx) =>
        let n := n.setPeer l t { p with pend := some (e, ns, idx) }
        n.loadUnit (n.loadAckBody l t epoch false ns)
      | none =>
        if p.epoch = epoch && p.held then n.loadUnit (n.loadAckBody l t epoch false ns)
        else
          let o := n.own l
          match (upTo 8).find? (fun i => !o.pool.any (·.1 = i)) with
          | none => n.loadUnit (n.loadAckBody l t epoch true ns)
          | some i =>
            let n := n.memPut (n.chanAddr l n.nodeNum + 0x3E0 + 496 * i) table
            let n := (n.setOwn l { o with pool := o.pool ++ [(i, t)] }).setPeer l t { p with pend := some (epoch, ns, i) }
            n.loadUnit (n.loadAckBody l t epoch false ns)

/-- A LOAD_ACK of a receiver (R68, R74). -/
def Node.loadAck (n : Node) (body : List Byte) : Node :=
  let l := le body 1 1 % 2
  if body.length < 12 || le body 3 1 ≠ n.nodeNum then n
  else
    let o := n.own l
    match o.switch with
    | none => n
    | some sw =>
      if le body 8 4 ≠ sw.ns || le body 4 1 % 16 ≠ sw.epoch then n
      else
        let r := le body 2 1
        let busy := bit (le body 4 1) 4
        let n := n.setOwn l { o with switch := some { sw with busy := sw.busy || busy, wait := if busy then sw.wait else sw.wait.filter (· ≠ r) } }
        if r = 0 || 128 < r then n
        else
          let a := n.chanAddr l n.nodeNum + 0x1380 + (r - 1) / 8
          n.memPut a [BitVec.ofNat 8 ((n.memByte a).toNat ||| 2 ^ ((r - 1) % 8))]

/-- A LOAD_REQ: answered with LOAD_SET REPLY carrying the current table (R72). -/
def Node.loadReq (n : Node) (body : List Byte) : Node :=
  let l := le body 1 1 % 2
  if body.length < 8 || le body 3 1 ≠ n.nodeNum || n.nodeNum = 0 then n
  else n.loadUnit (n.loadSetBody l (n.own l).epoch 0 0 (n.own l).isNull true (n.ownTable l))

/-- The check at cycle N_s - 8 (R68): an incomplete set or a BUSY reply postpones, up to the fourth announcement. -/
def Node.ackCheck (n : Node) (l : Nat) : Node :=
  let o := n.own l
  match o.switch with
  | none => n
  | some sw =>
    if sw.wait = [] && !sw.busy then n.setOwn l { o with switch := some { sw with sure := true } }
    else if 4 ≤ sw.count then (n.setOwn l { o with switch := some { sw with sure := true } }).count (LINE_CNT_NOACK.VALUE l)
    else n.setOwn l { o with switch := some { sw with ns := sw.ns + sw.lead, count := sw.count + 1, busy := false } }

/-- From cycle N_s the new table and epoch are in use (R66). -/
def Node.loadSwitch (n : Node) (l : Nat) : Node :=
  let o := n.own l
  match o.switch with
  | none => n
  | some sw =>
    if n.cycle < sw.ns then n
    else
      let base := n.chanAddr l n.nodeNum
      let n := n.memPut base (n.memBytes (base + 0x1F0) 496)
      (n.setOwn l { o with epoch := sw.epoch, switch := none }).count (LINE_CNT_SWITCH.VALUE l)

/-- An uncorrectable word in a CHAN entry (R24, R72): counted, and the peer's tables are not held. -/
def Node.chanUce (n : Node) (a : Nat) : Node :=
  let l := if a < 0x20740000 then 0 else 1
  let h := (a - (if l = 0 then 0x206A0000 else 0x20740000)) / 0x1400
  let n := { n with uce := n.uce.filter (· ≠ a / 8 * 8) }
  let n := (n.count (LINE_CNT_CHANUCE.VALUE l)).sysFault 5
  match n.dir.find? (fun r => n.handleOf r.num = h) with
  | some r => if r.num = n.nodeNum then n else n.tablesNotHeld l r.num 2
  | none => n

/-- LINE rewrites the peer map at a commit (R61): a UID keeps its handle while it stays, a new one takes the lowest free handle. -/
def Node.remapPeers (n : Node) : Node :=
  let keep := n.line.handles.filter (fun h => n.dir.any (fun r => r.uid = h.1))
  let fresh := (n.dir.filter (fun r => !keep.any (·.1 = r.uid))).map (·.uid)
  let all := fresh.foldl (fun hs u => match (upTo 128).find? (fun h => !hs.any (fun (x : Nat × Nat) => x.2 = h)) with
    | some h => hs ++ [(u, h)]
    | none => hs) keep
  let gone := (upTo 128).filter (fun h => !keep.any (·.2 = h))
  let peers := gone.foldl (fun t h => Tab.set (fun _ => PeerLine.empty) (Tab.set (fun _ => PeerLine.empty) t h PeerLine.empty) (256 + h) PeerLine.empty) n.line.peers
  let n := { n with line := { n.line with handles := all, peers := peers } }
  let n := (upTo 128).foldl (fun n k => n.setHandleOf (k + 1) 255) n
  n.dir.foldl (fun n r => match all.find? (·.1 = r.uid) with
    | some h => n.setHandleOf r.num h.2
    | none => n) n

/-! ### Deep calibration (R77 to R79) -/

/-- Is an attachment in deep calibration? -/
def Node.calRunning (n : Node) (att : Nat) : Bool := 2 ≤ n.rd (LINE_CALSTAT.RESULT att) && n.rd (LINE_CALSTAT.RESULT att) ≤ 5

/-- Consecutive cycles with a beacon on a line. -/
def Node.beaconRun (n : Node) (l : Nat) : Nat := if l = 0 then n.line.beaconRunA else n.line.beaconRunB

/-- The other attachment of the same line. -/
def otherAtt (att : Nat) : Nat := (att + 2) % 4

/-- All conditions of R77 but the gust hold. -/
def Node.calReady (n : Node) (att : Nat) : Bool :=
  !((upTo 4).any (fun a => a ≠ att && n.calRunning a)) && 16 ≤ n.beaconRun (1 - attLine att) && !n.on INA_STATUS.INAUG && n.on (LINE_CTRL.EN att)

/-- Calibration begins with ISOLATE; in an intermediate node the other attachment of the line takes the full chain (R78). -/
def Node.calBegin (n : Node) (att : Nat) : Node :=
  let n := { n with line := { n.line with calDeferred := n.line.calDeferred.filter (· ≠ att), calAborted := n.line.calAborted.filter (· ≠ att) } }
  let n := (n.wr (LINE_CALSTAT.RESULT att) 2).wr (LINE_CTRL.RXMODE att) 0
  if n.on INA_STATUS.END then n else n.wr (LINE_CTRL.RXMODE (otherAtt att)) 1

/-- LINEn_CAL.START (R77): refused without its gust, deferred while another condition fails (RESULT 9 when the attachment is disabled:
DESIGN CHOICE, log entry 16). -/
def Node.calStart (n : Node) (att : Nat) : Node :=
  if n.calRunning att then n
  else if !n.gustGranted (n.rd (LINE_CAL.GUST att)) 2 then n.wr (LINE_CALSTAT.RESULT att) 7
  else if n.calReady att then n.calBegin att
  else
    let n := { n with line := { n.line with calDeferred := n.line.calDeferred.filter (· ≠ att) ++ [att] } }
    n.wr (LINE_CALSTAT.RESULT att) (if n.on (LINE_CTRL.EN att) then 1 else 9)

/-- The abort of R79: the running phase stops and RESTORE runs with the previous trims. -/
def Node.calAbort (n : Node) (att : Nat) : Node :=
  if n.calRunning att then
    ({ n with line := { n.line with calAborted := n.line.calAborted.filter (· ≠ att) ++ [att] } } : Node).wr (LINE_CALSTAT.RESULT att) 5
  else n

/-- LINEn_CAL.CANCEL: aborts, or withdraws a deferred request (R79, R92). -/
def Node.calCancel (n : Node) (att : Nat) : Node :=
  if n.line.calDeferred.contains att then
    ({ n with line := { n.line with calDeferred := n.line.calDeferred.filter (· ≠ att) } } : Node).wr (LINE_CALSTAT.RESULT att) 0
  else n.calAbort att

/-- A phase completes (R78): the next one, or the end with the full chain back. -/
def Node.calPhase (n : Node) (att : Nat) : Node :=
  let r := n.rd (LINE_CALSTAT.RESULT att)
  if r < 2 || 5 < r then n
  else if r < 5 then n.wr (LINE_CALSTAT.RESULT att) (r + 1)
  else
    let aborted := n.line.calAborted.contains att
    let n := { n with line := { n.line with calAborted := n.line.calAborted.filter (· ≠ att) } }
    let n := n.wr (LINE_CTRL.RXMODE att) 1
    let n := if n.on INA_STATUS.END then n else n.wr (LINE_CTRL.RXMODE (otherAtt att)) 0
    if aborted then n.wr (LINE_CALSTAT.RESULT att) 8
    else (n.wr (LINE_CALSTAT.RESULT att) 6).wr (LINE_CALSTAT.DONE att) (sat 16 (n.rd (LINE_CALSTAT.DONE att) + 1))

/-- Every running calibration aborts at the start of an inauguration (R79). -/
def Node.calInaug (n : Node) : Node := (upTo 4).foldl Node.calAbort n

/-- A line out of service for this transmitter takes the null table; it is told at once by LOAD_SET with NULL (R58: DEDUCED, log entry 17). -/
def Node.goNull (n : Node) (l : Nat) : Node :=
  let o := n.own l
  if o.isNull then n
  else
    let n := n.setOwn l { o with isNull := true, switch := none }
    n.loadUnit (n.loadSetBody l o.epoch 0 0 true true nullTable)

/-- The null table is left for the default table (log entry 17). -/
def Node.leaveNull (n : Node) (l : Nat) : Node :=
  let o := n.own l
  if !o.isNull then n
  else
    let n := n.setOwn l { o with isNull := false, epoch := 0 }
    n.loadUnit (n.loadSetBody l 0 0 0 false true (n.defaultTable l))

/-! ### The commands -/

/-- LINE_NULL_TABLE: the transmitter switches to the null table on a line (R58). -/
def execLineNullTable (line : Line) (s : State) : Host.Outcome State Fault Refusal := s.onNode (·.goNull (lineNo line))

/-- LINE_NULL_LEAVE: the transmitter leaves the null table (R58). -/
def execLineNullLeave (line : Line) (s : State) : Host.Outcome State Fault Refusal := s.onNode (·.leaveNull (lineNo line))

/-- PILOT_RECEIVE: a slot pilot selects the table and updates the equalizer (R62). -/
def execPilotReceive (p : PilotRx) (s : State) : Host.Outcome State Fault Refusal := s.onNode (·.pilot p)

/-- SOUNDING_RECEIVE: a peer's sounding updates equalizer and noise; the receiver computes its table (R63, R64). -/
def execSoundingReceive (p : SoundingRx) (s : State) : Host.Outcome State Fault Refusal := s.onNode (·.sounding p)

/-- SOUNDING_SEND: in S48 the node numbered (C mod N) + 1 sounds on both lines, raised by BOOST under a class-1 gust (R75). The output
names the level of each line in dBm/Hz + 85. -/
def execSoundingSend (s : State) : Host.Outcome State Fault Refusal :=
  s.onNode (fun n =>
    let level := fun l => let p := min 35 (n.rd (LINE_PSD.LEVEL l))
      if n.gustGranted (n.rd (LINE_PSD.GUST l)) 1 then min 35 (p + min 6 (n.rd (LINE_PSD.BOOST l))) else p
    if n.nodeNum ≠ 0 && n.dir ≠ [] && n.cycle % n.dir.length + 1 = n.nodeNum && !n.on BAR_STATUS.INAUG && !n.on INA_STATUS.INAUG then
      n.emit .sounding [BitVec.ofNat 8 (level 0), BitVec.ofNat 8 (level 1)]
    else n)

/-- LOAD_ROUND_START: at a round start primaries are chosen and a switch may be announced (R59, R65). -/
def execLoadRoundStart (s : State) : Host.Outcome State Fault Refusal :=
  s.onNode (fun n => (((n.dir.filter (fun r => r.num ≠ n.nodeNum)).foldl (fun n r => n.primaryRound r.num) n).loadRound 0).loadRound 1)

/-- LOAD_PROP: a transmitter stores a receiver's proposal (R73). -/
def execLoadProp (u : UnitRx) (s : State) : Host.Outcome State Fault Refusal := s.onNode (·.loadProp u.body)

/-- LOAD_SET: a receiver stores an announced table, or answers BUSY (R67). -/
def execLoadSet (u : UnitRx) (s : State) : Host.Outcome State Fault Refusal := s.onNode (·.loadSet u.body)

/-- LOAD_ACK: a transmitter records a receiver's acknowledgement (R68). -/
def execLoadAck (u : UnitRx) (s : State) : Host.Outcome State Fault Refusal := s.onNode (·.loadAck u.body)

/-- LOAD_REQ: answered with LOAD_SET REPLY (R72). -/
def execLoadReq (u : UnitRx) (s : State) : Host.Outcome State Fault Refusal := s.onNode (·.loadReq u.body)

/-- LOAD_ACK_CHECK: at N_s - 8 the acknowledgements are checked (R68). -/
def execLoadAckCheck (line : Line) (s : State) : Host.Outcome State Fault Refusal := s.onNode (·.ackCheck (lineNo line))

/-- LOAD_SWITCH: from N_s the new table is in use (R66). -/
def execLoadSwitch (line : Line) (s : State) : Host.Outcome State Fault Refusal := s.onNode (·.loadSwitch (lineNo line))

/-- PENDING_TABLE_TIMEOUT: at N_s + 16 the pending table is promoted (R69). -/
def execPendingTableTimeout (line : Line) (node : Nat) (s : State) : Host.Outcome State Fault Refusal :=
  s.onNode (fun n => match (n.peer (lineNo line) node).pend with
    | some (_, ns, _) => if ns + 16 ≤ n.cycle then n.promote (lineNo line) node else n
    | none => n)

/-- TABLES_NOT_HELD: 256 cycles without a valid pilot field (R72). -/
def execTablesNotHeld (line : Line) (node : Nat) (s : State) : Host.Outcome State Fault Refusal :=
  s.onNode (fun n =>
    let p := n.peer (lineNo line) node
    if p.held && p.lastValid + 256 ≤ n.cycle then n.tablesNotHeld (lineNo line) node 2 else n)

/-- CAL_START: deep calibration starts, is deferred or refused (R77). -/
def execCalStart (att : Fin 4) (s : State) : Host.Outcome State Fault Refusal := s.onNode (·.calStart att)

/-- CAL_CANCEL: aborts or withdraws (R79). -/
def execCalCancel (att : Fin 4) (s : State) : Host.Outcome State Fault Refusal := s.onNode (·.calCancel att)

/-- CAL_DEFERRED_START: a deferred calibration starts once all conditions hold, or is refused when its gust has ended (R77). -/
def execCalDeferredStart (att : Fin 4) (s : State) : Host.Outcome State Fault Refusal :=
  s.onNode (fun n =>
    if !n.line.calDeferred.contains att.val then n
    else if !n.gustGranted (n.rd (LINE_CAL.GUST att)) 2 then
      ({ n with line := { n.line with calDeferred := n.line.calDeferred.filter (· ≠ att.val) } } : Node).wr (LINE_CALSTAT.RESULT att) 7
    else if n.calReady att then n.calBegin att else n)

/-- CAL_PHASE_END: a phase completes (R78). -/
def execCalPhaseEnd (att : Fin 4) (s : State) : Host.Outcome State Fault Refusal := s.onNode (·.calPhase att)

/-- CAL_BEACON_LOSS: three cycles without a beacon on the other line abort (R79). -/
def execCalBeaconLoss (att : Fin 4) (s : State) : Host.Outcome State Fault Refusal := s.onNode (·.calAbort att)

end Sys2Proof.Machine
end

