-- ==== Sys2Proof/Machine/Guardian.lean ====
section
/-! DEFINITION. The guardian (03_barel_cycle.md R129 to R138, R146 to R149). -/

namespace Sys2Proof.Machine

/-- Does a window word apply to cycle `c` (R106, R132)? -/
def windowApplies (w c : Nat) : Bool :=
  bit w 31 && bits w 0 4 = c % 16 && c / 16 % 2 ^ bits w 16 3 = bits w 19 6

/-- Does a window word cover a position? -/
def windowCovers (w p : Nat) : Bool := bits w 4 6 ≤ p && p < bits w 4 6 + bits w 10 6

/-- The own or takeover windows in service. -/
def Node.windowsOf (n : Node) (tko : Bool) : List Nat :=
  (upTo 64).map (fun m => (n.reg (if tko then 0x4001E200 + 4 * m else 0x4001E100 + 4 * m)).toNat)

/-- Is cycle `c` one of the quiet cycles of a Squall (R507)? -/
def Node.quietAt (n : Node) (c : Nat) : Bool :=
  match n.bar.quiet with
  | some q => q ≤ c && c ≤ q + 4
  | none => false

/-- Is position `p` of cycle `c` open under the guardian's state (R133)? In the quiet cycles of a Squall nothing else is sent (R507). -/
def Node.posOpen (n : Node) (c p : Nat) : Bool :=
  let st := n.rd GRD_STATUS.STATE
  let cont := 45 ≤ p && p ≤ 47
  if n.quietAt c || n.on SYS_STATUS.BOOTFAIL then false
  else if st = 1 then cont
  else if st = 2 then
    let self := n.rd GRD_SELF.VALUE % 256
    let total := n.rd GRD_SELF.VALUE / 256
    cont || p = 49 || (p = 48 && total ≠ 0 && c % total + 1 = self) || (p ≤ 1 && n.on GRD_STATUS.LEAD)
      || (n.windowsOf false).any (fun w => windowApplies w c && windowCovers w p)
      || (n.on GRD_STATUS.TKO_EN && (n.windowsOf true).any (fun w => windowApplies w c && windowCovers w p))
  else false

/-- Is every position of a slot open? -/
def Node.slotOpen (n : Node) (c start len : Nat) : Bool := (upTo (len + 1)).all (fun i => n.posOpen c (start + i))

/-- The state a guardian with windows, or without, stands in. -/
def Node.grdHome (n : Node) : Nat := if n.rd GRD_COMPID.VALUE = 0 then 1 else 2

/-- The guardian's cycle passes to the next one (R129): counter, run without events, and the round's blocked count. -/
def Node.guardCycle (n : Node) : Node :=
  let c := (n.rd GRD_CYCLE.VALUE + 1) % 4294967296
  let n := (n.wr GRD_CYCLE.VALUE c).wr GRD_STATUS.HOLD (sat 8 (n.rd GRD_STATUS.HOLD + 1))
  let n := { n with grd := { n.grd with otherQuiet := n.grd.otherQuiet + 1, stretch := 0 } }
  if c % 16 = 0 then n.wr GRD_STATUS.BLOCKED 0 else n

/-- An alignment event (R130, R131, R134): `own` marks the node's own, or its own composition's, beacon. A guardian never aligned
takes the first event and its cycle number (DEDUCED, log entry 19). -/
def Node.guardAlign (n : Node) (cycle : Nat) (offset : Int) (own : Bool) : Node :=
  let st := n.rd GRD_STATUS.STATE
  if st = 0 then n
  else
    let fresh := st = 5 || !n.grd.everAligned
    if !fresh && (decide (4000 < offset.natAbs) || n.rd GRD_CYCLE.VALUE ≠ cycle) then
      (n.count GRD_ALIGNREJ.VALUE).wr GRD_STATUS.ALIGNED 0
    else
      let run := if own then 0 else n.grd.otherRun + 1
      let n := { n with grd := { n.grd with everAligned := true, otherRun := run, otherQuiet := if own then n.grd.otherQuiet else 0 } }
      let n := ((n.wr GRD_STATUS.ALIGNED 1).wr GRD_STATUS.HOLD 0).wr GRD_CYCLE.VALUE cycle
      let n := if st = 5 then n.wr GRD_STATUS.STATE n.grdHome else n
      if 2 ≤ run then n.wr GRD_STATUS.LEAD 0 else n

/-- 32 cycles without an accepted event: every window closes (R131). -/
def Node.guardUnaligned (n : Node) : Node :=
  let st := n.rd GRD_STATUS.STATE
  if 32 ≤ n.rd GRD_STATUS.HOLD && n.grd.everAligned && (st = 1 || st = 2) then (n.wr GRD_STATUS.STATE 5).wr GRD_STATUS.ALIGNED 0 else n

/-- Discard the staging set; counted (R135). -/
def Node.guardDiscard (n : Node) : Node :=
  let n := { n with grd := { n.grd with stage := none, commitAt := none } }
  ((n.wr GRD_STATUS.ARMED 0).wr GRD_ARMID.VALUE 0).count GRD_REFUSED.VALUE

/-- INA fills the staging set and arms it with an ID (R135). -/
def Node.guardArm (n : Node) (id : Nat) (st : GrdStage) : Node :=
  let n := { n with grd := { n.grd with stage := some st, armedAt := n.rd GRD_CYCLE.VALUE, commitAt := none } }
  (n.wr GRD_STATUS.ARMED 1).wr GRD_ARMID.VALUE id

/-- INA commits, quoting an ID and a commit cycle (R135): another ID, nothing armed, or a cycle less than 2 ahead is refused. -/
def Node.guardCommit (n : Node) (id cycle : Nat) : Node :=
  if n.grd.stage.isNone then n.count GRD_REFUSED.VALUE
  else if n.rd GRD_ARMID.VALUE ≠ id then n.guardDiscard
  else if cycle < n.cycle + 2 then n.guardDiscard
  else { n with grd := { n.grd with commitAt := some cycle } }

/-- 64 window words from `base` on take `ws`, the rest 0 (R148). -/
def Node.loadWindows (n : Node) (base : Nat) (ws : List Nat) : Node :=
  (upTo 64).foldl (fun n m => n.setReg (base + 4 * m) (BitVec.ofNat 32 (nth ws m))) n

/-- A staging set goes into service in guardian cycle `cycle` (R134, R135). -/
def Node.guardTake (n : Node) (st : GrdStage) (cycle : Nat) : Node :=
  let n := Node.loadWindows n 0x4001E100 st.own
  let n := Node.loadWindows n 0x4001E200 st.tko
  let n : Node := { n with grd := { n.grd with stage := none, commitAt := none, stretch := st.stretch } }
  let n := n.wr GRD_COMPID.VALUE (n.rd GRD_ARMID.VALUE)
  let n := n.wr GRD_STATUS.ARMED 0
  let n := n.wr GRD_ARMID.VALUE 0
  let n := n.wr GRD_CYCLE.VALUE cycle
  let n := n.wr GRD_SELF.VALUE (st.node + 256 * st.count)
  let n := n.wr GRD_ADVANCE.VALUE st.advance
  let n := n.wr GRD_STATUS.UNGUARDED (sat 8 st.unguarded)
  let n := if st.lead then n.wr GRD_STATUS.LEAD 1 else n
  if n.rd GRD_STATUS.STATE = 1 then n.wr GRD_STATUS.STATE 2 else n

/-- At the start of the commit cycle staging swaps into service: windows, counter, N, own number, ranging advance, LEAD (R134, R135). -/
def Node.guardSwap (n : Node) (cycle : Nat) : Node :=
  match n.grd.stage with
  | some st => if n.grd.commitAt.isSome then n.guardTake st cycle else n
  | none => n

/-- Enter LATCHED (R136): the record, and a takeover request left to PAIR (`askTakeover` in the guardian's callers). -/
def Node.guardLatch (n : Node) : Node :=
  let n := (n.wr GRD_STATUS.STATE 3).count GRD_LATCH.VALUE
  (n.fixedRecord 14 (leBytes 4 (n.rd GRD_CYCLE.VALUE) ++ leBytes 2 (n.rd GRD_STATUS.BLOCKED))).sysFault 6

/-- The guardian follows BAR_CTRL.EN (R131, R133, R139): out of OFF into a free cycle, or back to OFF. -/
def Node.guardEnable (n : Node) (en : Bool) : Node :=
  if en then (if n.rd GRD_STATUS.STATE = 0 then n.wr GRD_STATUS.STATE n.grdHome else n)
  else ({ n with grd := { n.grd with everAligned := false, otherRun := 0, otherQuiet := 0 } } : Node).wr GRD_STATUS.STATE 0

/-- GRD_CTRL.CLOSE (R137): CLOSED at once; a guardian that is OFF stays OFF. -/
def Node.guardClose (n : Node) : Node := if n.rd GRD_STATUS.STATE = 0 then n else n.wr GRD_STATUS.STATE 4

/-- GRD_CTRL.REARM leaves LATCHED or CLOSED (R137). -/
def Node.guardRearm (n : Node) : Node :=
  let st := n.rd GRD_STATUS.STATE
  if st = 3 || st = 4 then
    let n := n.wr GRD_STATUS.BLOCKED 0
    n.wr GRD_STATUS.STATE (if n.rd GRD_COMPID.VALUE = n.rd INA_COMPID.VALUE && n.rd GRD_COMPID.VALUE ≠ 0 then 2 else 1)
  else n

/-- GUARD_ALIGN: the guardian accepts or rejects an alignment event (R130). -/
def execGuardAlign (cycle : Word) (offset : Int) (own : Bool) (s : State) : Host.Outcome State Fault Refusal :=
  s.onNode (·.guardAlign cycle.toNat offset own)

/-- GUARD_UNALIGNED: 32 cycles without an accepted event (R131). -/
def execGuardUnaligned (s : State) : Host.Outcome State Fault Refusal := s.onGuard (·.guardUnaligned)

/-- GRD_ARM: INA arms the staging set it has filled with a composition ID (R135); with nothing staged there is nothing to arm. -/
def execGrdArm (id : Word) (s : State) : Host.Outcome State Fault Refusal :=
  s.onNode (fun n => match n.grd.stage with
    | some st => n.guardArm id.toNat st
    | none => n)

/-- GRD_COMMIT: INA commits the armed set, or it is refused (R135). -/
def execGrdCommit (id cycle : Word) (s : State) : Host.Outcome State Fault Refusal := s.onNode (·.guardCommit id.toNat cycle.toNat)

/-- GUARD_ARM_EXPIRE: an arm with no commit within 64 cycles is discarded and counted (R135). -/
def execGuardArmExpire (s : State) : Host.Outcome State Fault Refusal :=
  s.onGuard (fun n => if n.on GRD_STATUS.ARMED && n.grd.commitAt.isNone && n.grd.armedAt + 64 ≤ n.rd GRD_CYCLE.VALUE then n.guardDiscard else n)

/-- GUARD_SWAP: at the commit cycle staging swaps into service (R135). -/
def execGuardSwap (s : State) : Host.Outcome State Fault Refusal :=
  s.onGuard (fun n => match n.grd.commitAt with
    | some m => n.guardSwap (match n.ina.plan with
      | some p => if p.m = m then p.takes else m
      | none => m)
    | none => n)

/-- GRD_CLOSE: GRD_CTRL.CLOSE enters CLOSED at once (R137). -/
def execGrdClose (_by : Initiator) (s : State) : Host.Outcome State Fault Refusal := s.onNode (·.guardClose)

/-- GRD_REARM: GRD_CTRL.REARM leaves LATCHED or CLOSED (R137). -/
def execGrdRearm (_by : Initiator) (s : State) : Host.Outcome State Fault Refusal := s.onNode (·.guardRearm)

/-- GRD_FOREIGN_WRITE: a write to GRD_ARM or GRD_COMMIT from an engine, the host port or the management agent is ignored and counted (R149). -/
def execGrdForeignWrite (_by : Initiator) (_commit : Bool) (_value : Word) (s : State) : Host.Outcome State Fault Refusal :=
  s.onNode (·.count GRD_FOREIGNWR.VALUE)

end Sys2Proof.Machine
end

