-- ==== Sys2Proof/Machine/Sched.lean ====
section
/-! DEFINITION. The schedule table SCH (03_barel_cycle.md R105 to R107), node roles, roll-call presence and the role holder (R441). -/

namespace Sys2Proof.Machine

/-- Entry `i` of SCH. -/
def Node.sch (n : Node) (i : Nat) : SchEnt :=
  let w := fun k => (n.reg (0x4001C000 + 16 * i + 4 * k)).toNat
  ⟨w 0, w 1, w 2, w 3⟩

/-- Entry `i` of SCH written. -/
def Node.setSch (n : Node) (i : Nat) (e : SchEnt) : Node :=
  let put := fun (n : Node) (k v : Nat) => n.setReg (0x4001C000 + 16 * i + 4 * k) (BitVec.ofNat 32 v)
  put (put (put (put n 0 e.w0) 1 e.w1) 2 e.w2) 3 e.w3

def SchEnt.cycle (e : SchEnt) : Nat := bits e.w0 0 4
def SchEnt.start (e : SchEnt) : Nat := bits e.w0 4 6
def SchEnt.len (e : SchEnt) : Nat := bits e.w0 10 6
def SchEnt.kind (e : SchEnt) : Nat := bits e.w0 16 2
def SchEnt.period (e : SchEnt) : Nat := bits e.w0 18 3
def SchEnt.phase (e : SchEnt) : Nat := bits e.w0 21 6
def SchEnt.isValid (e : SchEnt) : Bool := bit e.w0 31
def SchEnt.car (e : SchEnt) : Nat := bits e.w1 0 7
def SchEnt.side (e : SchEnt) : Nat := bits e.w1 7 2
def SchEnt.role (e : SchEnt) : Nat := bits e.w1 9 1
def SchEnt.prio (e : SchEnt) : Nat := bits e.w1 12 4
def SchEnt.suspended (e : SchEnt) : Bool := bit e.w1 16
def SchEnt.label (e : SchEnt) : Nat := bits e.w2 0 16

/-- The claimant UID of a spare entry. -/
def SchEnt.claimant (e : SchEnt) : Nat := e.w2 + 4294967296 * e.w3

/-- The role code of an entry. -/
def SchEnt.roleCode (e : SchEnt) : Nat := bits e.w1 0 10

/-- The empty entry. -/
def SchEnt.empty : SchEnt := ⟨0, 0, 0, 0⟩

/-- Valid with valid KIND, PERIOD, PHASE and SIDE (R105). -/
def SchEnt.ok (e : SchEnt) : Bool :=
  e.isValid && decide (e.kind < 2) && decide (e.period < 7) && decide (e.phase < 2 ^ e.period) && decide (e.side ≠ 3)

/-- Does an entry apply to cycle `c` (R106)? -/
def SchEnt.applies (e : SchEnt) (c : Nat) : Bool := e.ok && e.cycle = c % 16 && c / 16 % 2 ^ e.period = e.phase

/-- Two valid entries conflict (R107). -/
def SchEnt.conflicts (e f : SchEnt) : Bool :=
  let m := min e.period f.period
  e.ok && f.ok && e.cycle = f.cycle && decide (e.start ≤ f.start + f.len) && decide (f.start ≤ e.start + e.len)
    && e.phase % 2 ^ m = f.phase % 2 ^ m

/-- Does a node of a car, side (1 B) and role (1 standby) hold the role of an entry (R106)? -/
def SchEnt.heldBy (e : SchEnt) (car : Nat) (sideB : Bool) (role : Nat) : Bool :=
  e.car = car && (e.side = 0 || e.side = (if sideB then 2 else 1)) && e.role = role

/-- The node's own car position; 0 before the first commit. -/
def Node.ownCar (n : Node) : Nat := n.rd INA_SELF.VALUE / 256 % 256

/-- Is the node on side B of its pair (PAIR_STATUS.SIDE)? -/
def Node.sideB (n : Node) : Bool := n.on PAIR_STATUS.SIDE

/-- The node's current role: 0 active, 1 standby. -/
def Node.roleNow (n : Node) : Nat := if n.isActive then 0 else 1

/-- Does the node hold the role of an entry? -/
def Node.holds (n : Node) (e : SchEnt) : Bool := n.ownCar ≠ 0 && e.heldBy n.ownCar n.sideB n.roleNow

/-- Does the node take part in the schedule: COMMITTED or MERGING? -/
def Node.committed (n : Node) : Bool := n.rd INA_STATUS.STATE = 6 || n.rd INA_STATUS.STATE = 7

/-- The directory record of a node number. -/
def Node.dirByNum (n : Node) (num : Nat) : Option DirRec := n.dir.find? (fun r => r.num = num)

/-- The UID of a node number; 0 none. -/
def Node.uidOf (n : Node) (num : Nat) : Nat := match n.dirByNum num with
  | some r => r.uid
  | none => 0

/-- The partner's node number of a node number (R165); 0 none. -/
def Node.partnerNum (n : Node) (num : Nat) : Nat :=
  match n.dirByNum num with
  | none => 0
  | some r => match n.dir.find? (fun q => q.car = r.car && q.num ≠ num) with
    | some q => q.num
    | none => 0

/-- Was a node detected in the last roll-call (R143)? -/
def Node.rcPresent (n : Node) (num : Nat) : Bool :=
  num ≠ 0 && num ≤ 128 && bit (n.reg (0x40018030 + (num - 1) / 32 * 4)).toNat ((num - 1) % 32)

/-- The node that holds the role of an entry (R441): of its car, by the latest active heartbeat values, else the directory's active node. -/
def Node.roleHolder (n : Node) (e : SchEnt) : Nat :=
  let cand := n.dir.filter (fun r => r.car = e.car && (e.side = 0 || e.side = (if r.sideB then 2 else 1)))
  let beat := fun (r : DirRec) => n.bar.hbActive.contains r.num
  let pair := n.dir.filter (fun r => r.car = e.car)
  let live := pair.filter beat
  let act : Option Nat := if live.length = 1 then live.head?.map (·.num)
    else (pair.find? (fun r => r.role = 0 || r.role = 1)).map (·.num)
  let want := fun (r : DirRec) => if e.role = 0 then some r.num = act else some r.num ≠ act
  match cand.find? want with
  | some r => r.num
  | none => 0

end Sys2Proof.Machine
end

