-- ==== Sys2Proof/Machine/Signals.lean ====
section
/-! DEFINITION. SIG: data sets, subscriptions, the process image, freshness, generations, views, commits, re-basing (05_signals.md). -/

namespace Sys2Proof.Machine

/-- A free value no greater than `k`: the next free word reduced (log entry 20). -/
def Node.freeUpTo (n : Node) (k : Nat) : Nat × Node := let r := n.freeWord; (r.1 % (k + 1), r.2)

/-! ### PIMG entries (R214) -/

/-- The address of PIMG entry `i`. -/
def pimgAddr (i : Nat) : Nat := 0x20300000 + 8 * i

/-- A status word's fields, put together. -/
def statWord (pub upd cls age : Nat) (stale forced local_ valid : Bool) : Nat :=
  pub % 256 + upd % 4096 * 256 + cls % 4 * 1048576 + age % 64 * 4194304 + b2n stale * 268435456 + b2n forced * 536870912
    + b2n local_ * 1073741824 + b2n valid * 2147483648

/-- Does data set `d` stand: VALID, a count, not refused (R202, R229)? -/
def Node.dsetOk (n : Node) (d : Nat) : Bool :=
  n.on (SIG_PUBW0.VALID d) && n.rd (SIG_PUBW1.COUNT d) ≠ 0 && !n.on (SIG_PUBW3.REFUSED d)

/-- The data sets that stand. -/
def Node.dsets (n : Node) : List Nat := (upTo 256).filter n.dsetOk

/-- The data set whose entries hold PIMG index `i`. -/
def Node.localOf (n : Node) (i : Nat) : Option Nat :=
  n.dsets.find? (fun d => n.rd (SIG_PUBW1.INDEX d) ≤ i && i < n.rd (SIG_PUBW1.INDEX d) + n.rd (SIG_PUBW1.COUNT d))

/-- Does a range in service cover PIMG index `i`? -/
def Node.subCovers (n : Node) (i : Nat) : Bool :=
  n.sig.svc.any (fun x => x.first.isSome && x.index ≤ i && i < x.index + x.count)

/-- An entry whose word is uncorrectable reads as value 0 with stale status (R24), counted and reported. -/
def Node.pimgScrub (n : Node) (i : Nat) : Node :=
  if !n.uceIn (pimgAddr i) 8 then n
  else
    let stat := match n.localOf i with
      | some d => statWord (n.rd (SIG_PUBW2.OWNER d)) 0 (n.rd (SIG_PUBW0.CLASS d)) 0 true false true true
      | none => statWord 0 0 0 0 true false false (n.subCovers i)
    (((n.memPut (pimgAddr i) (leBytes 4 0 ++ leBytes 4 stat)).count SIG_CNT_PIMGUCE.VALUE).raise SIG_EVT.UCE).sysFault 5

/-- The value of entry `i`. -/
def Node.pimgVal (n : Node) (i : Nat) : Nat := n.memLe (pimgAddr i) 4

/-- The status word of entry `i`. -/
def Node.pimgStat (n : Node) (i : Nat) : Nat := n.memLe (pimgAddr i + 4) 4

/-- Entry `i` written. -/
def Node.pimgPut (n : Node) (i v stat : Nat) : Node := n.memPut (pimgAddr i) (leBytes 4 v ++ leBytes 4 stat)

/-- The force in effect on entry `i`. -/
def Node.forceOn (n : Node) (i : Nat) : Option ForceRun := n.sig.forces.find? (fun f => f.index = i)

/-- Entry `i` takes a value and status; a forced entry keeps VALUE and FORCED and the value goes to UNDER (R344). -/
def Node.pimgTake (n : Node) (i v stat : Nat) : Node :=
  match n.forceOn i with
  | none => n.pimgPut i v stat
  | some f =>
    let n := n.setReg (ENG0_FW2.UNDER f.entry).addr (BitVec.ofNat 32 v)
    let n := { n with sig := { n.sig with forces := n.sig.forces.map (fun (g : ForceRun) => if g.entry = f.entry then { g with took := true } else g) } }
    n.pimgPut i (n.pimgVal i) (setBits stat 29 1 1)

/-! ### Identifiers (R201, R203, R211, R212) -/

/-- The first identifier of a car's range. -/
def carBase (car : Nat) : Nat := 0x80000 + (car - 1) * 0x2000

/-- The current absolute base identifier of data set `d`; none while a positional set has no car. -/
def Node.dsetBase (n : Node) (d : Nat) : Option Nat :=
  if n.on (SIG_PUBW0.POS d) then
    (if n.ownCar = 0 then none else some (carBase n.ownCar + n.rd (SIG_PUBW0.BASE d) % 0x2000))
  else some (n.rd (SIG_PUBW0.BASE d))

/-- SUBS: is identifier `i` subscribed? An uncorrectable word counts as not subscribed (R24). -/
def Node.subsBit (n : Node) (i : Nat) : Bool :=
  let a := 0x20380000 + i / 8
  !n.uceIn a 1 && bit (n.memByte a).toNat (i % 8)

/-- A SUBS bit written by SIG. -/
def Node.setSubs (n : Node) (i : Nat) (b : Bool) : Node :=
  let a := 0x20380000 + i / 8
  n.memPut a [BitVec.ofNat 8 (setBits (n.memByte a).toNat (i % 8) 1 (b2n b))]

/-- The first identifier and judgement of a range of the table (R720, R221): first (none: maps nothing yet) and RANGEERR. -/
def Node.judgeSub (n : Node) (r : Nat) (car : Option Nat) : Option Nat × Bool :=
  let mode := n.rd (SIG_SUBW0.MODE r)
  let f := n.rd (SIG_SUBW0.FIRST r)
  let count := n.rd (SIG_SUBW2.COUNT r)
  let idxBad := 65536 < n.rd (SIG_SUBW1.INDEX r) + count
  if mode = 1 then
    (car.map (fun c => carBase c + f % 0x2000), idxBad || 0x2000 < f % 0x2000 + count)
  else if mode = 2 then
    (some f, idxBad || 0x100000 < f + count || f < 0x80000 || 0x2000 < f % 0x2000 + count)
  else (some f, idxBad || 0x100000 < f + count)

/-- The own car position, none before the first commit. -/
def Node.ownCar? (n : Node) : Option Nat := if n.ownCar = 0 then none else some n.ownCar

/-- The range in the table's words: none when it is not in use or invalid. -/
def Node.tableSub (n : Node) (r : Nat) : Option SubSvc :=
  if n.on (SIG_SUBW0.VALID r) && n.rd (SIG_SUBW2.COUNT r) ≠ 0 && !n.on (SIG_SUBW3.RANGEERR r) then
    let mode := n.rd (SIG_SUBW0.MODE r)
    let orphan := n.on (SIG_SUBW3.ORPHAN r)
    let first := if orphan || (mode = 1 && n.ownCar = 0) then none else some (n.rd (SIG_SUBW3.CURFIRST r))
    some ⟨r, n.rd (SIG_SUBW1.INDEX r), n.rd (SIG_SUBW2.COUNT r), mode, n.rd (SIG_SUBW0.FIRST r), first,
      Tab.get (fun _ => []) n.sig.subUids r, orphan⟩
  else none

/-- A MODE 2 range binds to the car whose nodes hold its position now (R221). -/
def Node.bindSub (n : Node) (r : Nat) : Node :=
  let car := (n.rd (SIG_SUBW0.FIRST r) - 0x80000) / 0x2000 + 1
  let uids := if n.rd (SIG_SUBW0.MODE r) = 2 && 0x80000 ≤ n.rd (SIG_SUBW0.FIRST r) then (n.dir.filter (fun x => x.car = car)).map (·.uid) else []
  { n with sig := { n.sig with subUids := Tab.set (fun _ => []) n.sig.subUids r uids } }

/-- A write to SIG_SUBW0, 1 or 2 (R212, R230, R720): the word is stored and the range judged; a MODE 2 range binds to the car whose
nodes hold its position now (R221). The table takes effect at the next flip. -/
def Node.writeSub (n : Node) (w : Nat) (v : Word) : Node :=
  let r := n.rd SIG_SUBSEL.RANGE
  let a := winAddr (0x4002C044 + 4 * w) r
  let n := n.setReg a (v &&& (if w = 0 then 0x803FFFFF else if w = 1 then 0xFFFF else 0x1FFFF))
  let j := n.judgeSub r n.ownCar?
  let inUse := n.on (SIG_SUBW0.VALID r) && n.rd (SIG_SUBW2.COUNT r) ≠ 0
  let n := n.bindSub r
  let n := n.wr (SIG_SUBW3.CURFIRST r) (j.1.getD 0)
  (n.wrB (SIG_SUBW3.RANGEERR r) (inUse && j.2)).wr (SIG_SUBW3.ORPHAN r) 0

/-- The PIMG index and identifier of every entry that ranges in service map, lowest range first. -/
def svcEntries (svc : List SubSvc) : List (Nat × Nat) :=
  svc.flatMap (fun x => match x.first with
    | some f => (upTo x.count).map (fun k => (x.index + k, f + k))
    | none => [])

/-- The PIMG index that the lowest range in service gives an identifier (R212). -/
def svcMap (svc : List SubSvc) (i : Nat) : Option Nat :=
  (svc.find? (fun x => match x.first with
    | some f => f ≤ i && i < f + x.count
    | none => false)).map (fun x => x.index + (i - x.first.getD 0))

/-- The identifier that maps onto PIMG index `i`. -/
def svcIdent (svc : List SubSvc) (i : Nat) : Option Nat :=
  (svc.find? (fun x => x.first.isSome && x.index ≤ i && i < x.index + x.count)).map (fun x => x.first.getD 0 + (i - x.index))

/-- Two index or identifier runs meet. -/
def runsMeet (a k b m : Nat) : Bool := decide (a < b + m) && decide (b < a + k)

/-- The ranges in service become `svc` (R212, R214, R215): entries newly covered become valid and stale, entries no longer covered lose
VALID; OVERLAP is set in every range that shares an identifier with another or meets a LOCAL entry. -/
def Node.activate (n : Node) (svc : List SubSvc) : Node :=
  let old := n.sig.svc
  let n := { n with sig := { n.sig with svc := svc } }
  let n := (svcEntries svc).foldl (fun n p =>
    if (n.localOf p.1).isNone && !old.any (fun x => x.first.isSome && x.index ≤ p.1 && p.1 < x.index + x.count) then
      n.pimgPut p.1 0 (statWord 0 0 0 63 true false false true)
    else n) n
  let n := (svcEntries old).foldl (fun n p =>
    if (n.localOf p.1).isNone && !n.subCovers p.1 then n.pimgPut p.1 (n.pimgVal p.1) (setBits (n.pimgStat p.1) 31 1 0) else n) n
  let live := svc.filter (·.first.isSome)
  let overlaps := fun (x : SubSvc) =>
    live.any (fun y => y.range ≠ x.range && runsMeet (x.first.getD 0) x.count (y.first.getD 0) y.count)
      || n.dsets.any (fun d => runsMeet x.index x.count (n.rd (SIG_PUBW1.INDEX d)) (n.rd (SIG_PUBW1.COUNT d)))
  let laps := (live.filter overlaps).map (·.range)
  let fresh := laps.any (fun r => !n.on (SIG_SUBW3.OVERLAP r))
  let n := (upTo 1024).foldl (fun n r => n.wrB (SIG_SUBW3.OVERLAP r) (laps.contains r)) n
  n.raiseIf fresh SIG_EVT.OVERLAP

/-! ### Publications of the directory (R173, R174, R222) -/

/-- Does a publication cover identifier `i`? -/
def PubRec.has (p : PubRec) (i : Nat) : Bool := p.base ≤ i && i < p.base + p.count

/-- The UID of the publisher that the directory names for an identifier and that is not suppressed for it. -/
def Node.publisher (n : Node) (i : Nat) : Option Nat :=
  (n.sig.pubs.find? (fun p => !p.suppressed && p.has i
    && !n.sig.pubs.any (fun q => q.suppressed && q.uid = p.uid && q.has i))).map (·.uid)

/-- Is UID `u` the publisher `p` or its partner (R213)? -/
def Node.samePair (n : Node) (u p : Nat) : Bool := u ≠ 0 && (u = p || n.partnerUid p = u)

/-- The pair of a publisher, compared across a re-base: its UID and its partner's, in order. -/
def Node.pairOf (n : Node) (u : Nat) : Nat × Nat := let q := n.partnerUid u; (min u q, max u q)

/-- May this node send identifier `i`: the lead's list names it, or its partner (R173)? -/
def Node.mayPublish (n : Node) (i : Nat) : Bool :=
  match n.publisher i with
  | some u => n.samePair n.uid u
  | none => false

/-- A DIR_PUB record of the lead's list taken (R173, R174, R222, R223). -/
def Node.takePub (n : Node) (base cls count num : Nat) (suppressed : Bool) : Node :=
  let uid := n.uidOf num
  if uid = 0 || count = 0 then n
  else
    let keep := fun (p : PubRec) => !(runsMeet p.base p.count base count
      && (p.carried || (p.uid = uid && (p.suppressed = suppressed || p.suppressed))))
    let pubs := n.sig.pubs.filter keep ++ [⟨base, count, cls, uid, suppressed, false⟩]
    let n := { n with sig := { n.sig with pubs := pubs } }
    if !n.samePair n.uid uid then n
    else n.dsets.foldl (fun n d => match n.dsetBase d with
      | none => n
      | some b =>
        if !runsMeet b (n.rd (SIG_PUBW1.COUNT d)) base count then n
        else if suppressed then
          (n.raiseIf (!n.on (SIG_PUBW3.SUPPRESSED d)) SIG_EVT.DUPSUP).wr (SIG_PUBW3.SUPPRESSED d) 1
        else n.wr (SIG_PUBW3.SUPPRESSED d) 0) n

/-! ### Data sets (R202, R203, R205, R206) -/

/-- Is the declaration in the words of data set `d` refused (R202)? -/
def Node.dsetBad (n : Node) (d : Nat) : Bool :=
  let pos := n.on (SIG_PUBW0.POS d)
  let lo := if pos then n.rd (SIG_PUBW0.BASE d) % 0x2000 else n.rd (SIG_PUBW0.BASE d)
  let k := n.rd (SIG_PUBW1.COUNT d)
  let ix := n.rd (SIG_PUBW1.INDEX d)
  let others := n.dsets.filter (· ≠ d)
  (if pos then decide (0x2000 < lo + k) else decide (lo < 0x80000 && 0x80000 < lo + k) || decide (0x100000 < lo + k))
    || decide (65536 < ix + k)
    || others.any (fun o =>
      let olo := if n.on (SIG_PUBW0.POS o) then n.rd (SIG_PUBW0.BASE o) % 0x2000 else n.rd (SIG_PUBW0.BASE o)
      let sameSpace := if n.on (SIG_PUBW0.POS o) = pos then runsMeet lo k olo (n.rd (SIG_PUBW1.COUNT o))
        else match n.dsetBase d, n.dsetBase o with
          | some x, some y => runsMeet x k y (n.rd (SIG_PUBW1.COUNT o))
          | _, _ => false
      sameSpace || runsMeet ix k (n.rd (SIG_PUBW1.INDEX o)) (n.rd (SIG_PUBW1.COUNT o)))
    || decide (16384 < k + (others.map (fun o => n.rd (SIG_PUBW1.COUNT o))).sum)

/-- The status word of a LOCAL entry of data set `d`, other fields from `old` (R214). -/
def Node.localStat (n : Node) (d old : Nat) : Nat :=
  statWord (n.rd (SIG_PUBW2.OWNER d)) (bits old 8 12) (n.rd (SIG_PUBW0.CLASS d)) (bits old 22 6) (bit old 28) (bit old 29) true true

/-- A write to SIG_PUBW0, 1 or 2 in an inauguration (R202, R229): the word is stored, the declaration judged, and the LOCAL entries
follow. -/
def Node.writePub (n : Node) (w : Nat) (v : Word) : Node :=
  if !n.on INA_STATUS.INAUG then n
  else
    let d := n.rd SIG_PUBSEL.DSET
    let was := if n.dsetOk d then (upTo (n.rd (SIG_PUBW1.COUNT d))).map (· + n.rd (SIG_PUBW1.INDEX d)) else []
    let n := n.setReg (winAddr (0x4002C024 + 4 * w) d) (v &&& (if w = 0 then 0x807FFFFF else if w = 1 then 0x7FFFFFFF else 0xFFFF0007))
    let asked := n.on (SIG_PUBW0.VALID d) && n.rd (SIG_PUBW1.COUNT d) ≠ 0
    let bad := asked && n.dsetBad d
    let n := n.wrB (SIG_PUBW3.REFUSED d) bad
    let n := if asked then n.wrB SIG_STATUS.DECLERR bad else n
    let n := n.wr (SIG_PUBW3.ID d) ((n.dsetBase d).getD 0)
    let n := (was.filter (fun i => (n.localOf i).isNone)).foldl (fun n i =>
      let st := setBits (setBits (n.pimgStat i) 30 1 0) 0 8 0
      n.pimgPut i (n.pimgVal i) (if n.subCovers i then st else setBits st 31 1 0)) n
    let n := if n.dsetOk d then (upTo (n.rd (SIG_PUBW1.COUNT d))).foldl (fun n k =>
      let i := n.rd (SIG_PUBW1.INDEX d) + k
      n.pimgPut i (n.pimgVal i) (n.localStat d (n.pimgStat i))) n else n
    let n := n.wr SIG_STATUS.DSETS (sat 8 n.dsets.length)
    n.wr SIG_STATUS.PUBSIGS (sat 16 (n.dsets.map (fun d => n.rd (SIG_PUBW1.COUNT d))).sum)

/-- The class interval in cycles (R204). -/
def classInterval (c : Nat) : Nat := if c = 0 then 1 else if c = 1 then 16 else if c = 2 then 128 else 1024

/-- The SCH entries data set `d` is bound to (R205). -/
def Node.boundEntries (n : Node) (label : Nat) : List SchEnt :=
  ((upTo 512).map n.sch).filter (fun e => e.ok && e.kind = 0 && e.label = label && n.holds e)

/-- Does an entry that is bound apply to a cycle: memo over the 1,024 cycles that hold every pattern. -/
def boundCycles (es : List SchEnt) : List Nat := (upTo 1024).filter (fun c => es.any (·.applies c))

/-- The longest gap between consecutive cycles of a list that repeats every 1,024. -/
def longestGap (cs : List Nat) : Nat :=
  match cs with
  | [] => 0
  | c0 :: _ =>
    let nexts := cs.tail ++ [c0 + 1024]
    ((cs.zip nexts).map (fun p => p.2 - p.1)).foldl max 0

/-- The binding check of every data set at a commit (R206). -/
def Node.bindCheck (n : Node) : Node :=
  n.dsets.foldl (fun n d =>
    let cs := boundCycles (n.boundEntries (n.rd (SIG_PUBW2.LABEL d)))
    let unbound := decide (cs = [])
    let mis := !unbound && decide (classInterval (n.rd (SIG_PUBW0.CLASS d)) < longestGap cs)
    let n := (n.wrB (SIG_PUBW3.UNBOUND d) unbound).wrB (SIG_PUBW3.CLASSMIS d) mis
    (n.raiseIf unbound SIG_EVT.UNBOUND).raiseIf mis SIG_EVT.CLASSMIS) n

/-! ### Sending (R207 to R209, R223) -/

/-- The runs of identifiers of data set `d` that this node may send, from offset `from`: offset and length, split around suppressed ones. -/
def Node.sendRuns (n : Node) (d start : Nat) : List (Nat × Nat) :=
  match n.dsetBase d with
  | none => []
  | some b =>
    let offs := (upTo (n.rd (SIG_PUBW1.COUNT d))).filter (fun k => start ≤ k && n.mayPublish (b + k))
    offs.foldl (fun acc k => match acc.getLast? with
      | some (o, l) => if o + l = k then acc.dropLast ++ [(o, l + 1)] else acc ++ [(k, 1)]
      | none => [(k, 1)]) []

/-- How many identifiers of data set `d` have gone in cycle `c`. -/
def Node.sentOf (n : Node) (c d : Nat) : Nat :=
  if n.sig.sentCycle = c then ((n.sig.sent.find? (·.1 = d)).map (·.2)).getD 0 else 0

/-- The slot-assembly pass for entry `i` (R209): the values of every bound data set still to go in this cycle. -/
def Node.assemble (n : Node) (i : Nat) : Node :=
  let label := (n.sch i).label
  let c := n.cycle
  let runs := if !n.on SIG_CTRL.EN then [] else
    (n.dsets.filter (fun d => n.rd (SIG_PUBW2.LABEL d) = label)).flatMap (fun d =>
      (n.sendRuns d (n.sentOf c d)).map (fun r =>
        let ix := n.rd (SIG_PUBW1.INDEX d) + r.1
        (⟨d, ((n.dsetBase d).getD 0) + r.1, r.1, n.rd (SIG_PUBW0.CLASS d),
          (upTo r.2).map (fun k => (n.pimgVal (ix + k), bit (n.pimgStat (ix + k)) 29))⟩ : PassRun)))
  let touched := (n.dsets.filter (fun d => n.rd (SIG_PUBW2.LABEL d) = label)).flatMap (fun d =>
    (upTo (n.rd (SIG_PUBW1.COUNT d))).map (fun k => n.rd (SIG_PUBW1.INDEX d) + k))
  let n := if n.uce = [] then n else touched.foldl Node.pimgScrub n
  { n with sig := { n.sig with pass := some (i, c, runs) } }

/-- The slot bytes of a unit of `k` values. -/
def sigUnitSize (k : Nat) : Nat := 12 + 4 * k + 4 * ((k + 31) / 32)

/-- The most values, up to `k`, that fit `room` bytes (R208). -/
def sigFit (room : Nat) : Nat → Nat
  | 0 => 0
  | k + 1 => if sigUnitSize (k + 1) ≤ room then k + 1 else sigFit room k

/-- The words of the forced bitmap (R207). -/
def forcedWords : Nat → List Bool → List Byte
  | 0, _ => []
  | k + 1, fs => leBytes 4 (((upTo 32).map (fun j => if (fs.getD j false) then 2 ^ j else 0)).sum) ++ forcedWords k (fs.drop 32)

/-- The body of a data set unit (R207). -/
def sigBody (cls ident : Nat) (vals : List (Nat × Bool)) : List Byte :=
  [1] ++ leBytes 1 cls ++ leBytes 2 vals.length ++ leBytes 3 ident ++ [0] ++ vals.flatMap (fun v => leBytes 4 v.1)
    ++ forcedWords ((vals.length + 31) / 32) (vals.map (·.2))

/-- Units cut from runs into `room` bytes: bodies, how far each data set got, and the runs left. `fuel` bounds the units. -/
def cutUnits : Nat → Nat → List PassRun → List (List Byte) × List (Nat × Nat) × Nat
  | 0, room, _ => ([], [], room)
  | _, room, [] => ([], [], room)
  | fuel + 1, room, r :: rest =>
    let k := sigFit room (min 1984 r.vals.length)
    if k = 0 then ([], [], room)
    else
      let body := sigBody r.cls r.ident (r.vals.take k)
      let left := if k < r.vals.length then { r with ident := r.ident + k, offset := r.offset + k, vals := r.vals.drop k } :: rest else rest
      let t := cutUnits fuel (room - sigUnitSize k) left
      (body :: t.1, (r.dset, r.offset + k) :: t.2.1, t.2.2)

/-- The signal units of entry `i` for `room` bytes of its slot, and the room left (R205, R208, R209): the values of the pass made for it. -/
def Node.sigUnits (n : Node) (i room : Nat) : List (List Byte) × Nat × Node :=
  let c := n.cycle
  let n := match n.sig.pass with
    | some (j, pc, _) => if j = i && pc = c then n else n.assemble i
    | none => n.assemble i
  let runs := match n.sig.pass with
    | some (_, _, rs) => rs
    | none => []
  let t := cutUnits (16384 + runs.length) room runs
  let base := if n.sig.sentCycle = c then n.sig.sent else []
  let sent := t.2.1.foldl (fun (l : List (Nat × Nat)) p => l.filter (fun q => q.1 ≠ p.1) ++ [p]) base
  (t.1, t.2.2, { n with sig := { n.sig with pass := none, sentCycle := c, sent := sent } })

/-- The data units left out of a cycle's bound entries (R115, R208), found when the cycle's apply comes: each run still unsent of a data
set whose entry was granted to the node. -/
def Node.sigOmitted (n : Node) (c : Nat) : Nat :=
  if !n.on SIG_CTRL.EN then 0 else
  let labels := (n.bar.grants.filter (fun i => n.holds (n.sch i))).map (fun i => (n.sch i).label)
  ((n.dsets.filter (fun d => labels.contains (n.rd (SIG_PUBW2.LABEL d)))).map (fun d =>
    ((n.sendRuns d (n.sentOf c d)).map (fun r => (r.2 + 1983) / 1984)).sum)).sum

/-! ### Receiving (R211 to R213) -/

/-- A signal data set unit taken from `sender` (none: no sender found, R213). -/
def Node.sigTake (n : Node) (sender : Option Nat) (body : List Byte) : Node :=
  if !n.on SIG_CTRL.EN then n
  else match sender with
    | none => n.count SIG_CNT_FOREIGNPUB.VALUE
    | some node =>
      let k := min (le body 2 2) 1984
      let first := le body 4 3 % 0x100000
      let uid := n.uidOf node
      let wanted := (upTo k).filter (fun j => 8 + 4 * j + 4 ≤ body.length && n.subsBit ((first + j) % 0x100000))
      let good := fun j => match n.publisher ((first + j) % 0x100000) with
        | some p => n.samePair uid p
        | none => false
      let mine := wanted.filter good
      let foreign := wanted.any (fun j => !good j)
      let mapped := mine.filterMap (fun j => (svcMap n.sig.svc ((first + j) % 0x100000)).map (fun ix => (j, ix)))
      let lost := mine.length - mapped.length
      let vals := (mapped.filter (fun p => (n.localOf p.2).isNone)).map (fun p =>
        (⟨p.2, le body (8 + 4 * p.1) 4, node, le body 1 1 % 4, bit (le body (8 + 4 * k + 4 * (p.1 / 32)) 4) (p.1 % 32)⟩ : SigVal))
      let n := { n with sig := { n.sig with gen := n.sig.gen.filter (fun (v : SigVal) => !vals.any (fun u => u.index = v.index)) ++ vals } }
      let n := if foreign then n.count SIG_CNT_FOREIGNPUB.VALUE else n
      let n := n.countBy SIG_CNT_NOMAP.VALUE lost
      let n := n.raiseIf (decide (0 < lost)) SIG_EVT.NOMAP
      if mine = [] then n else n.count SIG_CNT_UNITS.VALUE

/-! ### Flips (R215, R216, R345) -/

/-- Do flips follow the backbone cycle (R216)? -/
def Node.sigNet (n : Node) : Bool := n.on BAR_CTRL.EN && n.committed

/-- Forces newly enabled or disabled take effect at an apply (R345). -/
def Node.applyForces (n : Node) : Node :=
  let want := (upTo 256).filter (fun e => n.on (ENG0_FW0.EN e) && n.rd (ENG0_FW0.KIND e) = 1)
  let target := fun e => n.rd (ENG0_FW0.TARGET e)
  let gone := n.sig.forces.filter (fun f => !(want.contains f.entry && target f.entry = f.index))
  let n := gone.foldl (fun n f =>
    let st := setBits (n.pimgStat f.index) 29 1 0
    let st := if bit st 30 || f.took then st else setBits st 28 1 1
    let n := { n with sig := { n.sig with forces := n.sig.forces.filter (·.entry ≠ f.entry) } }
    n.pimgPut f.index (n.reg (ENG0_FW2.UNDER f.entry).addr).toNat st) n
  want.foldl (fun n e =>
    let i := target e
    let v := (n.reg (ENG0_FW1.VALUE e).addr).toNat
    if n.sig.forces.any (·.entry = e) then n.pimgPut i v (setBits (n.pimgStat i) 29 1 1)
    else if n.sig.forces.any (·.index = i) then n
    else
      let n := n.setReg (ENG0_FW2.UNDER e).addr (BitVec.ofNat 32 (n.pimgVal i))
      let n := { n with sig := { n.sig with forces := n.sig.forces ++ [ForceRun.mk e i false] } }
      n.pimgPut i v (setBits (n.pimgStat i) 29 1 1)) n

/-- Freshness of one subscribed entry that took no value in this generation (R215). -/
def Node.ageEntry (n : Node) (c : Nat) (net : Bool) (i ident : Nat) : Node :=
  let n := n.pimgScrub i
  let st := n.pimgStat i
  let iv := classInterval (bits st 20 2)
  let last := Tab.get (fun _ => 0) n.sig.took i
  let age := if c % iv = 0 && last + iv ≤ c + 1 then min 63 (bits st 22 6 + 1) else bits st 22 6
  let absent := match n.publisher ident with
    | some u =>
      let nums := (n.dir.filter (fun r => n.samePair r.uid u)).map (·.num)
      !nums.any n.rcPresent
    | none => false
  let stale := bit st 28 || decide (max 1 (n.rd SIG_CTRL.STALE_N) ≤ age) || (net && n.on SIG_CTRL.RCSTALE && absent)
  n.pimgPut i (n.pimgVal i) (setBits (setBits st 22 6 age) 28 1 (b2n stale))

/-- One flip (R215, R216, R345): the table takes effect, the generation is applied, entries age, forces take effect. How long the apply
lasts is a free value within its bound (log entry 20). -/
def Node.sigFlip (n : Node) : Node :=
  let net := n.sigNet
  let c := if net then n.cycle else n.sig.localCyc + 1
  let omitted := if net then n.sigOmitted c else 0
  let n := n.countBy BAR_CNT_OVERFLOW.VALUE omitted
  let n := n.raiseIf (decide (0 < omitted)) BAR_EVT.OVERFLOW
  let gen := if net then n.sig.gen else []
  let n := { n with sig := { n.sig with gen := [], sent := [], localCyc := if net then n.sig.localCyc else c } }
  let n := n.activate ((upTo 1024).filterMap n.tableSub)
  let n := gen.foldl (fun n v =>
    if (n.localOf v.index).isSome || !n.subCovers v.index then n
    else
      let n := { n with sig := { n.sig with took := Tab.set (fun _ => 0) n.sig.took v.index (c + 1) } }
      n.pimgTake v.index v.value (statWord v.node c v.cls 0 false v.forced false true)) n
  let quiet := (svcEntries n.sig.svc).filter (fun p => (n.localOf p.1).isNone && !gen.any (·.index = p.1)
    && svcIdent n.sig.svc p.1 = some p.2)
  let n := quiet.foldl (fun n p => n.ageEntry c net p.1 p.2) n
  let n := n.applyForces
  let t := n.freeUpTo (min 2000 (200 + gen.length / 5))
  let n := t.2.wr SIG_APPLYMAX.VALUE (max (t.2.rd SIG_APPLYMAX.VALUE) t.1)
  (n.wr SIG_FLIPCYC.VALUE (c % 4294967296)).wr SIG_GEN.VALUE ((n.rd SIG_GEN.VALUE + 1) % 4294967296)

/-! ### Views and commits (R217 to R219) -/

/-- The engine that holds DMEM page `p` (R349, R362). -/
def Node.pageOwner (n : Node) (p : Nat) : Option Nat :=
  let v := bits (n.reg (0x40030840 + p / 8 * 4)).toNat (p % 8 * 4) 4
  if v < 8 then none else some (v % 8)

/-- DMEM page `p` given to an engine, or freed; its use follows (R347, R357). -/
def Node.setPage (n : Node) (p : Nat) (o : Option Nat) : Node :=
  let a := 0x40030840 + p / 8 * 4
  let was := n.pageOwner p
  let n := n.setReg a (BitVec.ofNat 32 (setBits (n.reg a).toNat (p % 8 * 4) 4 (match o with
    | some e => 8 + e
    | none => 0)))
  let n := match was with
    | some e => n.wr (ENG_QDMEM.USE e) (n.rd (ENG_QDMEM.USE e) - 1)
    | none => n
  match o with
  | some e => n.wr (ENG_QDMEM.USE e) (n.rd (ENG_QDMEM.USE e) + 1)
  | none => n

/-- The DMEM pages that engine `e`'s view covers. -/
def Node.viewPages (n : Node) (e : Nat) : List Nat :=
  let k := n.rd (SIG_VIEWB.COUNT e)
  let d := n.rd (SIG_VIEWC.DEST e)
  if k = 0 then [] else (upTo 256).filter (fun p => decide (8 * d < 4096 * (p + 1)) && decide (4096 * p < 8 * (d + k)))

/-- A write to SIG_VIEWnA, B or C (R218, R231, R349): the view is checked; a good one's free pages are allocated to its engine. -/
def Node.writeView (n : Node) (e w : Nat) (v : Word) : Node :=
  let n := n.setReg (0x4002C080 + 16 * e + 4 * w) (v &&& (if w = 0 then 0xFFFF else 0x1FFFF))
  let k := n.rd (SIG_VIEWB.COUNT e)
  let past := decide (131072 < n.rd (SIG_VIEWC.DEST e) + k) || decide (65536 < n.rd (SIG_VIEWA.FIRST e) + k)
  let held := (n.viewPages e).any (fun p => match n.pageOwner p with
    | some o => decide (o ≠ e)
    | none => false)
  let bad := k ≠ 0 && (past || held)
  let n := (n.wrB (SIG_VIEWD.VIEWERR e) bad).raiseIf bad SIG_EVT.VIEWERR
  if bad then n else (n.viewPages e).foldl (fun n p => if (n.pageOwner p).isNone then n.setPage p (some e) else n) n

/-- Is there a view to copy for engine `e`? -/
def Node.viewOk (n : Node) (e : Nat) : Bool := n.rd (SIG_VIEWB.COUNT e) ≠ 0 && !n.on (SIG_VIEWD.VIEWERR e)

/-- The view copy of engine `e` at its cycle start (R217); its duration is a free value within its bound (log entry 20). -/
def Node.viewCopy (n : Node) (e : Nat) : Node :=
  if !n.viewOk e then n
  else
    let k := n.rd (SIG_VIEWB.COUNT e)
    let first := n.rd (SIG_VIEWA.FIRST e)
    let n := if n.uce = [] then n else (upTo k).foldl (fun n i => n.pimgScrub (first + i)) n
    let n := n.memPut (0x20200000 + 8 * n.rd (SIG_VIEWC.DEST e)) (n.memBytes (pimgAddr first) (8 * k))
    let t := n.freeUpTo (100 + k / 5)
    t.2.wr (SIG_VIEWD.COPYTIME e) (sat 16 t.1)

/-- Does engine `e` own PIMG entry `i` (R210)? -/
def Node.ownsEntry (n : Node) (e i : Nat) : Bool :=
  match n.localOf i with
  | some d => n.rd (SIG_PUBW2.OWNER d) = e
  | none => false

/-- Values written to LOCAL entries of engine `e` in one commit (R219): UPD the current cycle, AGE 0. -/
def Node.sigCommit (n : Node) (e : Nat) (vals : List (Nat × Word)) : Node :=
  vals.foldl (fun n p => match n.localOf p.1 with
    | some d => if n.rd (SIG_PUBW2.OWNER d) ≠ e then n else
        let n := n.pimgScrub p.1
        n.pimgTake p.1 p.2.toNat (statWord e (if n.sigNet then n.cycle else n.sig.localCyc) (n.rd (SIG_PUBW0.CLASS d)) 0 false
          (bit (n.pimgStat p.1) 29) true true)
    | none => n) n

/-! ### Re-basing (R221, R222) -/

/-- Where the car of a set of UIDs stands in the directory. -/
def Node.carOfUids (n : Node) (uids : List Nat) : Option Nat := (n.dir.find? (fun r => uids.contains r.uid)).map (·.car)

/-- Subscription bits moved from old runs to new ones: all old bits are read and cleared before any new one is set. -/
def Node.moveSubs (n : Node) (moves : List (Option Nat × Option Nat × Nat × Bool)) : Node :=
  let marks := moves.flatMap (fun m => (upTo m.2.2.1).filterMap (fun k => match m.2.1 with
    | none => none
    | some f => if m.2.2.2 || (match m.1 with
        | some o => n.subsBit (o + k)
        | none => false) then some (f + k) else none))
  let n := moves.foldl (fun n m => match m.1 with
    | some o => (upTo m.2.2.1).foldl (fun n k => n.setSubs (o + k) false) n
    | none => n) n
  marks.foldl (fun n i => n.setSubs i true) n

/-- The new place of a range of the table after a commit: its words' first identifier, orphan, UIDs. -/
def Node.rebaseRange (n : Node) (firstCommit : Bool) (r : Nat) : Option Nat × Bool × List Nat :=
  let mode := n.rd (SIG_SUBW0.MODE r)
  let f := n.rd (SIG_SUBW0.FIRST r)
  if mode = 1 then (n.ownCar?.map (fun c => carBase c + f % 0x2000), false, [])
  else if mode = 2 then
    let uids := Tab.get (fun _ => []) n.sig.subUids r
    let cur := if firstCommit && uids = [] then some ((f - 0x80000) / 0x2000 + 1) else n.carOfUids uids
    match cur with
    | some c => if n.dir.any (fun x => x.car = c) then (some (carBase c + f % 0x2000), false, (n.dir.filter (fun x => x.car = c)).map (·.uid))
        else (none, true, uids)
    | none => (none, true, uids)
  else (some f, false, [])

/-- How a subscription range's base moves: from, to, its count, and whether it is a mode 1 range at a first commit. -/
def Node.subMove (n : Node) (firstCommit : Bool) (p : Nat × Option Nat × Bool × List Nat) : Option Nat × Option Nat × Nat × Bool :=
  let r := p.1
  let bad := n.on (SIG_SUBW3.RANGEERR r)
  let mode1First := n.rd (SIG_SUBW0.MODE r) = 1 && firstCommit
  ((if bad || mode1First || n.on (SIG_SUBW3.ORPHAN r) then none else some (n.rd (SIG_SUBW3.CURFIRST r))), (if bad then none else p.2.1),
    n.rd (SIG_SUBW2.COUNT r), mode1First)

/-- SIG at commit M (R206, R215, R221, R222): `oldDir` and `firstCommit` say what held before it; the directory, own car and number are
already the new ones. -/
def Node.sigRebase (n : Node) (oldDir : List DirRec) (firstCommit : Bool) : Node :=
  let oldPub := fun i => match n.publisher i with
    | some u =>
      let q := match oldDir.find? (·.uid = u) with
        | some r => ((oldDir.find? (fun x => x.car = r.car && x.uid ≠ u)).map (·.uid)).getD 0
        | none => 0
      some (min u q, max u q)
    | none => (none : Option (Nat × Nat))
  let olds := n.sig.svc.map (fun x => (x, (match x.first with
    | some f => (upTo x.count).map (fun k => oldPub (f + k))
    | none => [])))
  let carried := n.sig.pubs.filterMap (fun p => match n.dirByUid p.uid with
    | none => none
    | some r =>
      let was := ((oldDir.find? (·.uid = p.uid)).map (·.car)).getD r.car
      some { p with carried := true, base := if p.base < 0x80000 then p.base else p.base - carBase was + carBase r.car })
  let n := { n with sig := { n.sig with pubs := carried } }
  let n := n.dsets.foldl (fun n d => n.wr (SIG_PUBW3.ID d) ((n.dsetBase d).getD 0)) n
  let used := (upTo 1024).filter (fun r => n.on (SIG_SUBW0.VALID r) && n.rd (SIG_SUBW2.COUNT r) ≠ 0 && n.rd (SIG_SUBW0.MODE r) ≠ 0
    && n.rd (SIG_SUBW0.MODE r) ≠ 3)
  let plan := used.map (fun (r : Nat) => (r, n.rebaseRange firstCommit r))
  let moves := plan.map (n.subMove firstCommit)
  let n := n.moveSubs moves
  let lost := plan.any (fun p => p.2.2.1 && !n.on (SIG_SUBW3.ORPHAN p.1))
  let n := plan.foldl (fun n (p : Nat × Option Nat × Bool × List Nat) =>
    let n := (n.wr (SIG_SUBW3.CURFIRST p.1) (p.2.1.getD 0)).wrB (SIG_SUBW3.ORPHAN p.1) p.2.2.1
    let n := n.wrB (SIG_SUBW3.RANGEERR p.1) (n.judgeSub p.1 n.ownCar?).2
    { n with sig := { n.sig with subUids := Tab.set (fun _ => []) n.sig.subUids p.1 p.2.2.2 } }) n
  let n := n.raiseIf lost SIG_EVT.ORPHAN
  let svc := olds.map (fun o => match plan.find? (fun p => p.1 = o.1.range) with
    | some p => { o.1 with first := p.2.1, orphan := p.2.2.1, uids := p.2.2.2 }
    | none => o.1)
  let late := if firstCommit then (plan.filter (fun p => !olds.any (fun o => o.1.range = p.1))).filterMap (fun p => n.tableSub p.1) else []
  let n := (olds.zip svc).foldl (fun n (p : (SubSvc × List (Option (Nat × Nat))) × SubSvc) =>
    match p.1.1.first, p.2.first with
    | some _, some f => (upTo p.2.count).foldl (fun n k =>
        let now := (n.publisher (f + k)).map n.pairOf
        let i := p.2.index + k
        if (p.1.2.getD k none) = now || (n.localOf i).isSome then n
        else (n.pimgPut i 0 (setBits (setBits (n.pimgStat i) 22 6 63) 28 1 1))) n
    | some _, none => (upTo p.2.count).foldl (fun n k =>
        let i := p.2.index + k
        if (n.localOf i).isSome then n else n.pimgPut i (n.pimgVal i) (setBits (n.pimgStat i) 28 1 1)) n
    | _, _ => n) n
  let n := n.activate (svc ++ late)
  n.bindCheck

/-! ### Gateway payloads (R225, R226) -/

/-- The UDP payloads of gateway group `g`. -/
def Node.gwPayloads (n : Node) (g : Nat) : List (List Byte) :=
  let k := n.rd (SIG_GWW0.COUNT g)
  let first := n.rd (SIG_GWW0.FIRST g)
  let recs := (upTo (min k 4096)).filterMap (fun j =>
    let i := first + j
    if i ≤ 65535 && bit (n.pimgStat i) 31 then
      let ident := match n.localOf i with
        | some d => ((n.dsetBase d).getD 0) + (i - n.rd (SIG_PUBW1.INDEX d))
        | none => (svcIdent n.sig.svc i).getD 0
      some (leBytes 4 ident ++ leBytes 4 (n.pimgVal i) ++ leBytes 4 (n.pimgStat i))
    else none)
  let total := (recs.length + 120) / 121
  (upTo total).map (fun d =>
    let part := (recs.drop (121 * d)).take 121
    [1] ++ leBytes 1 g ++ leBytes 2 part.length ++ leBytes 2 d ++ leBytes 2 total ++ leBytes 4 n.cycle ++ leBytes 4 (n.rd BAR_COMPID.VALUE)
      ++ part.flatten)

/-! ### The commands -/

/-- DATA_SET_DECLARE: a write to SIG_PUBW0 to 2 declares a data set (R202, R229). -/
def execDataSetDeclare (by_ : Initiator) (w : Fin 3) (value : Word) (s : State) : Host.Outcome State Fault Refusal :=
  s.onNode (fun n =>
    if n.on INA_STATUS.INAUG then n.mirrored by_ (0x4002C024 + 4 * w.val) value.toNat (·.writePub w value) else n.writePub w value)

/-- SUBSCRIPTION_RANGE_WRITE: a write to SIG_SUBW0 to 2; the range is judged and maps from the next flip (R720, R212). -/
def execSubscriptionRangeWrite (by_ : Initiator) (w : Fin 3) (value : Word) (s : State) : Host.Outcome State Fault Refusal :=
  s.onNode (fun n => n.mirrored by_ (0x4002C044 + 4 * w.val) value.toNat (·.writeSub w value))

/-- VIEW_WRITE: a write to SIG_VIEWnA to C; the view is checked and its pages allocated (R218, R349). -/
def execViewWrite (by_ : Initiator) (e : Fin 8) (w : Fin 3) (value : Word) (s : State) : Host.Outcome State Fault Refusal :=
  s.onNode (fun n => n.mirrored by_ (0x4002C080 + 16 * e.val + 4 * w.val) value.toNat (·.writeView e w value))

/-- SIG_ASSEMBLY_PASS: one pass over PIMG reads a slot's values (R209). -/
def execSigAssemblyPass (entry : Nat) (s : State) : Host.Outcome State Fault Refusal := s.onNode (·.assemble entry)

/-- SIGNAL_DATA_SET: a data set unit of a slot is taken (R213). -/
def execSignalDataSet (d : DataUnitRx) (s : State) : Host.Outcome State Fault Refusal :=
  s.onNode (·.sigTake (if d.node = 0 then none else some d.node) d.body)

/-- SIG_APPLY: the cycle's generation is applied to PIMG (R216). -/
def execSigApply (s : State) : Host.Outcome State Fault Refusal := s.onNode (·.sigFlip)

end Sys2Proof.Machine
end

