-- ==== Sys2Proof/Machine/Audio.lean ====
section
/-! DEFINITION. AUD: streams, blocks, playout state, the matrix, zones, cancellers, generators (07_audio.md), and the lead's publisher and
stream lists (04_inauguration.md R173, R174, R283). Sample values reach the node by no command, so what a mix sums is a free value
unless it is silence (log entry 21). -/

namespace Sys2Proof.Machine

/-- The train time of the S0 boundary of cycle `c` (R285, R104), extrapolated from the last beacon. -/
def Node.cycleTime (n : Node) (c : Nat) : Word :=
  BitVec.ofNat 32 (n.rd BAR_TTSTAMP.VALUE) + toWord (((c : Int) - (n.bar.lastBeacon.getD c : Int)) * 1000000)

/-- A signed difference of two times modulo 2^32. -/
def timeDiff (a b : Word) : Int := signed32 (a - b).toNat

/-- The default of a receive entry. -/
def AudRx.empty : AudRx := {}

/-- The default of a transmit entry. -/
def AudTx.empty : AudTx := {}

/-- Receive entry `i`'s playout. -/
def Node.rxOf (n : Node) (i : Nat) : AudRx := Tab.get (fun _ => AudRx.empty) n.aud.rx i

/-- Receive entry `i`'s playout replaced. -/
def Node.setRx (n : Node) (i : Nat) (x : AudRx) : Node :=
  { n with aud := { n.aud with rx := Tab.set (fun _ => AudRx.empty) n.aud.rx i x } }

/-- Transmit entry `i`'s blocks. -/
def Node.txOf (n : Node) (i : Nat) : AudTx := Tab.get (fun _ => AudTx.empty) n.aud.tx i

/-- Transmit entry `i`'s blocks replaced. -/
def Node.setTx (n : Node) (i : Nat) (x : AudTx) : Node :=
  { n with aud := { n.aud with tx := Tab.set (fun _ => AudTx.empty) n.aud.tx i x } }

/-- `k` free bytes. -/
def Node.freeBytes : Nat → Node → List Byte × Node
  | 0, n => ([], n)
  | k + 1, n =>
    let r := n.freeWord
    let t := Node.freeBytes k r.2
    (BitVec.ofNat 8 r.1 :: t.1, t.2)

/-- AUD_STATUS.RXPRESENT follows the entries' states. -/
def Node.rxCount (n : Node) : Node :=
  n.wr AUD_STATUS.RXPRESENT ((upTo 256).filter (fun i => n.rd (AUD_RXW1.STATE i) = 1)).length

/-! ### The lead's lists and declarations (R173, R174, R283) -/

/-- A list cut into groups of `k`; `fuel` bounds their number. -/
def groups {α : Type} (k : Nat) : Nat → List α → List (List α)
  | 0, _ => []
  | fuel + 1, l => if l.isEmpty then [] else l.take k :: groups k fuel (l.drop k)

/-- A control unit goes in the node's next slot (R115). -/
def Node.inaUnit (n : Node) (body : List Byte) : Node := { n with ina := { n.ina with units := n.ina.units ++ [body] } }

/-- A record of DIR_PUB or PUB_DECL (R176). -/
def pubRecBytes (base cls count num : Nat) (sup : Bool) : List Byte :=
  leBytes 3 base ++ leBytes 1 cls ++ leBytes 2 count ++ leBytes 1 num ++ leBytes 1 (b2n sup)

/-- A record of DIR_STREAM or STREAM_DECL (R176). -/
def streamRecBytes (id fmt num : Nat) (dropped : Bool) : List Byte := leBytes 2 (id + 4096 * fmt) ++ leBytes 1 num ++ leBytes 1 (b2n dropped)

/-- The node number of a UID; 0 none. -/
def Node.numOf (n : Node) (uid : Nat) : Nat := match n.dirByUid uid with
  | some r => r.num
  | none => 0

/-- Records of 8 bytes after the 4-byte head of a unit body: base, class, count, number, flag. -/
def pubRecords (body : List Byte) : List (Nat × Nat × Nat × Nat × Bool) :=
  (upTo (min (le body 1 1) ((body.length - 4) / 8))).map (fun j =>
    let o := 4 + 8 * j
    (le body o 3 % 0x100000, le body (o + 3) 1 % 4, le body (o + 4) 2, le body (o + 6) 1, bit (le body (o + 7) 1) 0))

/-- Records of 4 bytes after the 4-byte head of a unit body: stream, format, number, flag. -/
def streamRecords (body : List Byte) : List (Nat × Nat × Nat × Bool) :=
  (upTo (min (le body 1 1) ((body.length - 4) / 4))).map (fun j =>
    let o := 4 + 4 * j
    (le body o 2 % 4096, le body o 2 / 4096, le body (o + 2) 1, bit (le body (o + 3) 1) 0))

/-- A publication declared to the lead by node `num` (R173, R174): listed, overlaps with other nodes' publications suppressed for the
higher number. -/
def Node.leadPub (n : Node) (num base cls count : Nat) : Node :=
  let uid := n.uidOf num
  if uid = 0 || count = 0 then n
  else
    let others := n.sig.pubs.filter (fun p => !p.suppressed && !p.carried && !n.samePair p.uid uid && runsMeet p.base p.count base count)
    let known := fun (p : PubRec) => n.sig.pubs.any (fun q => q.suppressed && (q.uid = uid || q.uid = p.uid) && runsMeet q.base q.count base count)
    let n := n.takePub base cls count num false
    others.foldl (fun n p =>
      let lo := max p.base base
      let k := min (p.base + p.count) (base + count) - lo
      let loser := max num (n.numOf p.uid)
      let fresh := !known p
      let n := n.takePub lo cls k loser true
      if fresh then ((n.count INA_CNT_DUPPUB.VALUE).raise INA_EVT.DUPPUB).fixedRecord 9
          (leBytes 8 uid ++ leBytes 8 p.uid ++ leBytes 4 lo ++ leBytes 2 k)
      else n) n

/-- The lead answers with DIR_PUB units of its list (R173). -/
def Node.sendDirPub (n : Node) : Node :=
  let live := n.sig.pubs.filter (fun p => !p.carried)
  (groups 30 (live.length + 1) live).foldl (fun n g =>
    n.inaUnit ([0x32] ++ leBytes 1 g.length ++ [0, 0] ++ g.flatMap (fun p => pubRecBytes p.base p.cls p.count (n.numOf p.uid) p.suppressed))) n

/-- Transmit entries of a stream. -/
def Node.txOfStream (n : Node) (id : Nat) : List Nat :=
  (upTo 64).filter (fun i => n.on (AUD_TXW0.EN i) && n.rd (AUD_TXW0.STREAM i) = id)

/-- A DIR_STREAM record of the lead's list taken (R282, R283, R284). -/
def Node.takeStream (n : Node) (id fmt num : Nat) (dropped : Bool) : Node :=
  let uid := n.uidOf num
  if uid = 0 then n
  else
    let keep := n.aud.streams.filter (fun s => s.id ≠ id || (s.uid ≠ uid && (dropped || s.dropped)))
    let n := { n with aud := { n.aud with streams := keep ++ [⟨id, fmt, uid, dropped⟩] } }
    let n := (upTo 256).foldl (fun n i =>
      if n.on (AUD_RXW0.EN i) && n.rd (AUD_RXW0.STREAM i) = id && n.rd (AUD_RXW1.STATE i) = 4 && !dropped then n.wr (AUD_RXW1.STATE i) 0 else n) n
    if !n.samePair n.uid uid then n
    else (n.txOfStream id).foldl (fun n i =>
      if dropped then
        if n.rd (AUD_TXW2.STATE i) = 3 then n
        else
          let winner := ((n.aud.streams.find? (fun s => s.id = id && s.uid ≠ uid && !s.dropped)).map (·.uid)).getD 0
          let n := (n.wr (AUD_TXW2.STATE i) 3).setTx i { n.txOf i with ending := true }
          if winner = 0 then n
          else (n.raise AUD_EVT.DUPSTREAM).fixedRecord 11 (leBytes 8 uid ++ leBytes 8 winner ++ leBytes 2 id)
      else if n.rd (AUD_TXW2.STATE i) = 4 then n else n.wr (AUD_TXW2.STATE i) 2) n

/-- A stream declared to the lead by node `num` (R283): the lower number keeps an identifier that two declare. -/
def Node.leadStream (n : Node) (num id fmt : Nat) : Node :=
  let uid := n.uidOf num
  match n.aud.streams.find? (fun s => s.id = id && !s.dropped && !n.samePair s.uid uid) with
  | none => n.takeStream id fmt num false
  | some s =>
    if num < n.numOf s.uid then (n.takeStream id s.fmt (n.numOf s.uid) true).takeStream id fmt num false
    else n.takeStream id fmt num true

/-- The lead answers with DIR_STREAM units of its list (R173). -/
def Node.sendDirStream (n : Node) : Node :=
  (groups 60 (n.aud.streams.length + 1) n.aud.streams).foldl (fun n g =>
    n.inaUnit ([0x33] ++ leBytes 1 g.length ++ [0, 0] ++ g.flatMap (fun s => streamRecBytes s.id s.fmt (n.numOf s.uid) s.dropped))) n

/-- Is the node the lead of its composition? -/
def Node.isLead (n : Node) : Bool := n.on INA_STATUS.LEAD

/-- The node declares publications: to the lead in PUB_DECL, or into its own list when it is the lead (R173). -/
def Node.declarePubs (n : Node) : Node :=
  if !n.isActive || !n.committed then n
  else
    let recs := n.dsets.filterMap (fun d => (n.dsetBase d).map (fun b => (b, n.rd (SIG_PUBW0.CLASS d), n.rd (SIG_PUBW1.COUNT d))))
    if recs.isEmpty then n
    else if n.isLead then (recs.foldl (fun n r => n.leadPub n.nodeNum r.1 r.2.1 r.2.2) n).sendDirPub
    else (groups 30 (recs.length + 1) recs).foldl (fun n g =>
      n.inaUnit ([0x34] ++ leBytes 1 g.length ++ [0, 0] ++ g.flatMap (fun r => pubRecBytes r.1 r.2.1 r.2.2 n.nodeNum false))) n

/-- The node declares the streams of transmit entries (R173, R282). -/
def Node.declareStreams (n : Node) (txs : List Nat) : Node :=
  let ok := txs.filter (fun i => n.on (AUD_TXW0.EN i) && (n.rd (AUD_TXW0.FORMAT i) = 1 || n.rd (AUD_TXW0.FORMAT i) = 2))
  if !n.isActive || !n.committed || ok.isEmpty then n
  else
    let n := ok.foldl (fun n i => if n.rd (AUD_TXW2.STATE i) = 4 then n else n.wr (AUD_TXW2.STATE i) 1) n
    if n.isLead then (ok.foldl (fun n i => n.leadStream n.nodeNum (n.rd (AUD_TXW0.STREAM i)) (n.rd (AUD_TXW0.FORMAT i))) n).sendDirStream
    else (groups 60 (ok.length + 1) ok).foldl (fun n g =>
      n.inaUnit ([0x35] ++ leBytes 1 g.length ++ [0, 0]
        ++ g.flatMap (fun i => streamRecBytes (n.rd (AUD_TXW0.STREAM i)) (n.rd (AUD_TXW0.FORMAT i)) n.nodeNum false))) n

/-! ### Transmit entries (R282, R285 to R289) -/

/-- A transmit entry stops: the last block it sends carries END (R287). -/
def Node.txStop (n : Node) (i : Nat) : Node :=
  let x := n.txOf i
  match x.blocks.getLast? with
  | some b => n.setTx i { x with blocks := x.blocks.dropLast ++ [{ b with end_ := true }], ending := false, resume := true }
  | none => n.setTx i { x with ending := decide (n.rd (AUD_TXW2.STATE i) = 2), resume := true }

/-- A write to AUD_TXW0 of the selected entry (R282, R316). -/
def Node.writeTx (n : Node) (v : Word) : Node :=
  let i := n.rd AUD_TXSEL.ENTRY
  let was := n.on (AUD_TXW0.EN i)
  let a := (AUD_TXW0.STREAM i).addr
  let n' := n.setReg a (if was then (v &&& 0x80000000) ||| (n.reg a &&& 0xFFFF) else v &&& 0x8000FFFF)
  if n'.on (AUD_TXW0.EN i) && !was then
    let n := n'.setTx i AudTx.empty
    if n.rd (AUD_TXW0.FORMAT i) = 1 || n.rd (AUD_TXW0.FORMAT i) = 2 then
      let n := n.wr (AUD_TXW2.STATE i) (if n.boundEntries (n.rd (AUD_TXW1.LABEL i)) = [] && n.committed then 4 else 1)
      n.declareStreams [i]
    else n.wr (AUD_TXW2.STATE i) 5
  else if was && !n'.on (AUD_TXW0.EN i) then (n'.txStop i).wr (AUD_TXW2.STATE i) 0
  else n'

/-- Is output `o` of the matrix fed by any enabled crosspoint? -/
def Node.outputFed (n : Node) (o : Nat) : Bool := (upTo 384).any (fun i => n.on (AUD_XW.EN (384 * o + i)))

/-- AUD closes the block of the current cycle of transmit entry `i` (R285 to R287). -/
def Node.closeBlock (n : Node) (i : Nat) : Node :=
  let x := n.txOf i
  let live := n.on AUD_CTRL.EN && !n.shed && n.on (AUD_TXW0.EN i) && (n.rd (AUD_TXW2.STATE i) = 1 || n.rd (AUD_TXW2.STATE i) = 2)
  let fmt := n.rd (AUD_TXW0.FORMAT i)
  if !(live || x.ending) || (fmt ≠ 1 && fmt ≠ 2) then n
  else
    let len := if fmt = 1 then 32 else 144
    let t := if n.outputFed i then Node.freeBytes len n else (List.replicate len 0, n)
    let n := t.2
    let seq := n.rd (AUD_TXW2.SEQ i)
    let b : AudBlock := ⟨n.cycleTime n.cycle + 2937500, seq, fmt, x.resume, x.ending, t.1⟩
    (n.setTx i { blocks := x.blocks ++ [b], resume := false, ending := false }).wr (AUD_TXW2.SEQ i) (seq + 1)

/-- The body of an audio block (R287). -/
def audBody (stream : Nat) (b : AudBlock) : List Byte :=
  [2] ++ leBytes 1 (b.fmt + 16 * b2n b.start + 32 * b2n b.end_) ++ leBytes 2 stream ++ leBytes 4 b.pres.toNat ++ leBytes 2 b.seq
    ++ [0, 0] ++ b.samples

/-- The node's own granted entries of this cycle (or, coasting, those of its SCH), by START (R109, R110). -/
def Node.ownSlots (n : Node) : List Nat :=
  let l := if n.on BAR_STATUS.COAST then (upTo 512).filter (fun i => (n.sch i).applies n.cycle && (n.sch i).kind = 0 && !(n.sch i).suspended)
    else n.bar.grants
  sortBy (fun a b => (n.sch a).start ≤ (n.sch b).start) (l.filter (fun i => n.holds (n.sch i)))

/-- Is entry `e` the first of this cycle's own slots bound to a label (R288)? -/
def Node.firstBound (n : Node) (label e : Nat) : Bool := (n.ownSlots.find? (fun i => (n.sch i).label = label)) = some e

/-- The audio unit bodies of entry `e` that fit `room` bytes, the room left, and the units left out (R115, R288). -/
def Node.audUnits (n : Node) (e room : Nat) : List (List Byte) × Nat × Nat × Node :=
  let ent := n.sch e
  let slotEnd := n.cycleTime n.cycle + toWord (20000 * ((ent.start + ent.len + 1 : Nat) : Int))
  let txs := (upTo 64).filter (fun i => n.rd (AUD_TXW1.LABEL i) = ent.label && n.firstBound ent.label e && (n.txOf i).blocks ≠ []
    && n.rd (AUD_TXW2.STATE i) ≠ 4)
  txs.foldl (fun (acc : List (List Byte) × Nat × Nat × Node) i =>
    let (us, room, out, n) := acc
    let x := n.txOf i
    let good := x.blocks.filter (fun b => 1200000 ≤ timeDiff b.pres slotEnd)
    let size := if n.rd (AUD_TXW0.FORMAT i) = 1 then 48 else 160
    let ask := min 2 good.length
    let k := min ask (room / size)
    let n := (n.setTx i { x with blocks := good.drop k }).countBy AUD_CNT_BLKTX.VALUE k
    (us ++ (good.take k).map (audBody (n.rd (AUD_TXW0.STREAM i))), room - k * size, out + (ask - k), n)) ([], room, 0, n)

/-- At each commit AUD checks each transmit entry's binding and declares again (R282, R289). -/
def Node.audCommit (n : Node) : Node :=
  let gone := n.aud.streams.filter (fun s => (n.dirByUid s.uid).isSome)
  let n := { n with aud := { n.aud with streams := gone } }
  let n := ((upTo 64).filter (fun i => n.on (AUD_TXW0.EN i) && n.rd (AUD_TXW2.STATE i) ≠ 5)).foldl (fun n i =>
    let es := n.boundEntries (n.rd (AUD_TXW1.LABEL i))
    let unbound := decide (es = [])
    let mis := !unbound && decide ((boundCycles es).length < 1024)
    let n := n.wrB (AUD_TXW2.RATEMIS i) mis
    let n := (n.raiseIf unbound AUD_EVT.UNBOUND).raiseIf mis AUD_EVT.RATEMIS
    if unbound then n.wr (AUD_TXW2.STATE i) 4
    else if n.rd (AUD_TXW2.STATE i) = 4 then n.wr (AUD_TXW2.STATE i) 1 else n) n
  n.declareStreams (upTo 64)

/-! ### Receive entries (R284, R291, R295, R296) -/

/-- A write to AUD_RXW0 of the selected entry (R284, R315). -/
def Node.writeRx (n : Node) (v : Word) : Node :=
  let i := n.rd AUD_RXSEL.ENTRY
  let id := v.toNat % 4096
  let a := (AUD_RXW0.STREAM i).addr
  if bit v.toNat 31 then
    if (upTo 256).any (fun j => j ≠ i && n.on (AUD_RXW0.EN j) && n.rd (AUD_RXW0.STREAM j) = id) then n.wr (AUD_RXW1.STATE i) 5
    else
      let named := n.aud.streams.any (fun s => s.id = id && !s.dropped)
      (((n.setReg a (v &&& 0x80000FFF)).setRx i AudRx.empty).wr (AUD_RXW1.STATE i) (if named then 0 else 4)).rxCount
  else (((n.setReg a (v &&& 0x80000FFF)).setRx i AudRx.empty).wr (AUD_RXW1.STATE i) 0).rxCount

/-- An audio block taken from `sender` (R284, R287, R295). -/
def Node.audTake (n : Node) (sender : Option Nat) (body : List Byte) : Node :=
  let id := le body 2 2 % 4096
  match (upTo 256).find? (fun i => n.on (AUD_RXW0.EN i) && n.rd (AUD_RXW0.STREAM i) = id) with
  | none => n
  | some i =>
    if !n.on AUD_CTRL.EN then n
    else
      let named := n.aud.streams.find? (fun s => s.id = id && !s.dropped)
      let ok := match sender, named with
        | some num, some s => n.samePair (n.uidOf num) s.uid
        | _, _ => false
      if !ok then n.count AUD_CNT_FOREIGNSTR.VALUE
      else
        let pres := BitVec.ofNat 32 (le body 4 4)
        let ahead := timeDiff pres n.time.train
        if ahead < 1000000 || 16000000 < ahead then
          ((n.count AUD_CNT_LATE.VALUE).count (AUD_RXW2.LATE i)).raise AUD_EVT.LATE
        else
          let fl := le body 1 1
          let b : AudBlock := ⟨pres, le body 8 2, fl % 16, bit fl 4, bit fl 5, body.drop 12⟩
          let x := n.rxOf i
          let n := n.setRx i { x with blocks := (x.blocks.filter (fun (c : AudBlock) => c.pres ≠ pres) ++ [b]).drop (x.blocks.length + 1 - 16) }
          let n := ((n.wr (AUD_RXW1.FORMAT i) b.fmt).wr (AUD_RXW1.SENDER i) (sender.getD 0)).wr (AUD_RXW1.SEQ i) b.seq
          n.count AUD_CNT_BLKRX.VALUE

/-- A receive entry at a mix period (R295, R296): the blocks whose first sample is presented within the next 2 ms are played; with none,
one more ms is missing. -/
def Node.rxMix (n : Node) (i : Nat) : Node :=
  let x := n.rxOf i
  let st := n.rd (AUD_RXW1.STATE i)
  let due := x.blocks.filter (fun b => timeDiff b.pres n.time.train < 2000000)
  let rest := x.blocks.filter (fun b => !(timeDiff b.pres n.time.train < 2000000))
  match due.getLast? with
  | some b =>
    let n := n.setRx i { x with blocks := rest, gap := 0, last := b.samples }
    n.wr (AUD_RXW1.STATE i) (if b.end_ then 0 else 1)
  | none =>
    if st = 1 || st = 2 then
      let n := n.setRx i { x with gap := x.gap + 1 }
      if x.gap < 8 then ((n.wr (AUD_RXW1.STATE i) 2).count (AUD_RXW2.CONCEAL i)).count AUD_CNT_CONCEAL.VALUE else n
    else n

/-- A concealed entry mutes more than 8 ms after its last sample (R296). -/
def Node.rxMute (n : Node) (i : Nat) : Node :=
  if n.rd (AUD_RXW1.STATE i) = 2 && 8 ≤ (n.rxOf i).gap then
    (((n.wr (AUD_RXW1.STATE i) 3).count AUD_CNT_MUTES.VALUE).raise AUD_EVT.MUTE).rxCount
  else n

/-! ### The matrix (R298 to R301) -/

/-- The crosspoint's word in AUDBUF (R310). -/
def xpAddr (k : Nat) : Nat := 0x2057A000 + 4 * k

/-- A crosspoint change queued (R300). -/
def Node.xpQueue (n : Node) (k : Nat) (mask v : Word) : Node :=
  { n with aud := { n.aud with queue := n.aud.queue ++ [(k, mask, v)] } }

/-- One queued change applied: refused when it would enable a 33rd crosspoint on its output (R299). -/
def Node.xpApply (n : Node) (k : Nat) (mask v : Word) : Node :=
  let a := (AUD_XW.GAIN k).addr
  let old := n.reg a
  let new := (old &&& ~~~ mask) ||| (v &&& mask)
  let was := bit old.toNat 31
  let now := bit new.toNat 31
  let o := k / 384
  if now && !was && 32 ≤ ((upTo 384).filter (fun i => n.on (AUD_XW.EN (384 * o + i)))).length then
    (n.count AUD_CNT_XREFUSED.VALUE).raise AUD_EVT.XFULL
  else
    let n := (n.setReg a new).memPut (xpAddr k) (leBytes 4 new.toNat)
    if now && !was then n.wr AUD_XCOUNT.VALUE (n.rd AUD_XCOUNT.VALUE + 1)
    else if was && !now then n.wr AUD_XCOUNT.VALUE (n.rd AUD_XCOUNT.VALUE - 1) else n

/-- Is input `i` silence for certain: a receive entry that plays nothing, a TDM port that is stopped, off its rate (R588) or framed with
fewer slots (R298), or a generator that is not running? -/
def Node.inputSilent (n : Node) (i : Nat) : Bool :=
  if i < 256 then !(n.rd (AUD_RXW1.STATE i) = 1 || n.rd (AUD_RXW1.STATE i) = 2)
  else if i < 320 then
    let p := (i - 256) / 16
    !n.on (TDM_STATUS.RUN p) || n.on (TDM_STATUS.LOCKERR p) || (!n.on (TDM_CTRL.SLOTS16 p) && 8 ≤ i % 16)
  else !n.on (AUD_GW0.RUN (i - 320))

/-- Activity of the inputs in this mix period (R301): whether the level of an input that carries samples exceeds the threshold is a free
value (log entry 21); activity holds for HANG × 10 ms after it. -/
def Node.activity (n : Node) : Node :=
  (upTo 384).foldl (fun n i =>
    let left := Tab.get (fun _ => 0) n.aud.hang i
    let t := if n.inputSilent i then (0, n) else n.freeWord
    let n := t.2
    let now := if t.1 % 2 = 1 then 10 * n.rd AUD_CTRL.HANG + 1 else left - 1
    { n with aud := { n.aud with hang := Tab.set (fun _ => 0) n.aud.hang i now } }) n

/-- P of every output (R301): the highest PRIO of its active enabled crosspoints, plus 1; 0 when none is active. -/
def Node.ducking (n : Node) : Node :=
  (upTo 128).foldl (fun n o =>
    let ps := (upTo 384).map (fun i => let k := 384 * o + i
      if n.on (AUD_XW.EN k) && Tab.get (fun _ => 0) n.aud.hang i ≠ 0 then n.rd (AUD_XW.PRIO k) + 1 else 0)
    { n with aud := { n.aud with duckP := Tab.set (fun _ => 0) n.aud.duckP o (ps.foldl max 0) } }) n

/-- The attenuation in dB that ducking gives crosspoint `k` (R301); none: muted. -/
def Node.duckDepth (n : Node) (k : Nat) : Option Nat :=
  let p := Tab.get (fun _ => 0) n.aud.duckP (k / 384)
  if n.rd (AUD_XW.PRIO k) + 1 < p then
    (if p = 8 || n.rd (AUD_XW.DUCK k) = 15 then none else some (3 * n.rd (AUD_XW.DUCK k)))
  else some 0

/-- The zone's staging coefficients swap into service (R302). -/
def Node.zoneSwap (n : Node) (z : Nat) : Node :=
  let n := (upTo 64).foldl (fun n k =>
    { n with aud := { n.aud with coefs := Tab.set (fun _ => 0) n.aud.coefs (64 * z + k) (n.reg (AUD_ZCDATA.DATA (64 * z + k)).addr) } }) n
  n.wr (AUD_ZCTRL.BANK z) (1 - n.rd (AUD_ZCTRL.BANK z))

/-- A generator stops (R308). -/
def Node.genStop (n : Node) (g : Nat) : Node :=
  let n := { n with aud := { n.aud with genStart := Tab.set (fun _ => 0) n.aud.genStart g 0 } }
  n.wr (AUD_GW0.RUN g) 0

/-- Which limiters reduce now: the spec states no result for the samples, so a free value for each limiter with something to play, and
not one that has nothing (log entry 21). -/
def Node.limiters (n : Node) : Node :=
  (upTo 128).foldl (fun (n : Node) (z : Nat) =>
    if n.on (AUD_ZCTRL.LIMEN z) && n.outputFed z then
      let r := n.freeUpTo 1
      r.2.wr (AUD_ZSTAT.LIMACT z) r.1
    else n.wr (AUD_ZSTAT.LIMACT z) 0) n

/-- One mix period (R295, R300 to R302, R308). -/
def Node.mix (n : Node) : Node :=
  if !n.on AUD_CTRL.EN || n.shed then n
  else
    let q := n.aud.queue
    let n := { n with aud := { n.aud with queue := [] } }
    let n := q.foldl (fun n c => n.xpApply c.1 c.2.1 c.2.2) n
    let zs := n.aud.commits
    let n := zs.foldl Node.zoneSwap { n with aud := { n.aud with commits := [] } }
    let gs := n.aud.stops
    let n := gs.foldl Node.genStop { n with aud := { n.aud with stops := [] } }
    let n := ((upTo 256).filter (fun i => n.on (AUD_RXW0.EN i))).foldl Node.rxMix n
    (n.activity.ducking.limiters).rxCount

/-- A TB_TRAIN step by `d` (R292): every held presentation time moves; the frame grid lies off its instants by less than half a frame
until the slew ends. -/
def Node.audStep (n : Node) (d : Int) : Node :=
  let mv := fun (b : AudBlock) => { b with pres := b.pres + toWord d }
  let rx := n.aud.rx.map (fun (p : Nat × AudRx) => (p.1, { p.2 with blocks := p.2.blocks.map mv }))
  let tx := n.aud.tx.map (fun (p : Nat × AudTx) => (p.1, { p.2 with blocks := p.2.blocks.map mv }))
  let n := { n with aud := { n.aud with rx := rx, tx := tx, alignedRun := 0 } }
  let r := (d * 3) % 62500
  let ofs := divRound (if r ≤ 31250 then r else r - 62500) 3
  let n := n.wr AUD_GRIDOFS.VALUE (toWord ofs).toNat
  if ofs = 0 then n
  else
    let n := n.wr AUD_STATUS.SLEW 1
    if 950 < ofs.natAbs && n.on AUD_STATUS.ALIGNED then (n.wr AUD_STATUS.ALIGNED 0).raise AUD_EVT.ALIGN else n

/-- What a step of TB_TRAIN since `was` does in AUD. -/
def Node.audFollow (n was : Node) : Node :=
  if n.time.stepsTrain = was.time.stepsTrain then n else n.audStep (signed32 (n.rd TIME_STEPTR.VALUE))

/-! ### Cancellers, generators, clips (R305 to R309) -/

/-- A write to AUD_ECnA (R305, R307, R321). -/
def Node.ecBurst (n : Node) (k : Nat) : Node :=
  let st := n.rd (AUD_ECB.STATE k)
  if n.on (AUD_ECA.EN k) && 1 ≤ st && st ≤ 3 && n.gustGranted (n.rd (AUD_ECB.GUST k)) 6 then
    ({ n with aud := { n.aud with burst := Tab.set (fun _ => 0) n.aud.burst k (n.now + 1) } } : Node).wr (AUD_ECB.STATE k) 4
  else n

/-- A write to AUD_ECnA (R305, R321). -/
def Node.writeEc (n : Node) (k : Nat) (v : Word) : Node :=
  let was := n.on (AUD_ECA.EN k)
  let n := n.setReg (AUD_ECA.MIC k).addr (v &&& 0x807F3F3F)
  let n := if n.on (AUD_ECA.EN k) && !was then
      let taken := (upTo 16).any (fun j => j ≠ k && n.on (AUD_ECA.EN j) && n.rd (AUD_ECB.STATE j) ≠ 5 && n.rd (AUD_ECA.MIC j) = n.rd (AUD_ECA.MIC k))
      (n.wr (AUD_ECB.STATE k) (if taken then 5 else 1)).wr (AUD_ECB.ERLE k) 0
    else if !n.on (AUD_ECA.EN k) then n.wr (AUD_ECB.STATE k) 0 else n
  if bit v.toNat 24 then n.ecBurst k else n

/-- A burst ends; adaptation goes on at the normal step (R307). -/
def Node.burstEnd (n : Node) (k : Nat) : Node :=
  if n.rd (AUD_ECB.STATE k) = 4 then
    ({ n with aud := { n.aud with burst := Tab.set (fun _ => 0) n.aud.burst k 0 } } : Node).wr (AUD_ECB.STATE k) (if 40 ≤ n.rd (AUD_ECB.ERLE k) then 2 else 1)
  else n

/-- The bursts that use gust `h` end (R307, R465). -/
def Node.audGustEnd (n : Node) (h : Nat) : Node :=
  ((upTo 16).filter (fun k => n.rd (AUD_ECB.GUST k) = h)).foldl Node.burstEnd n

/-- A write to AUD_GW4 of the selected generator (R308). -/
def Node.genStart (n : Node) (v : Word) : Node :=
  let g := n.rd AUD_GSEL.GEN
  let kind := n.rd (AUD_GW0.KIND g)
  if kind = 0 || 5 ≤ kind then n
  else
    let ahead := timeDiff v n.time.train
    let late := ahead < 5000000
    let least := n.time.train + 5000000
    let off := (least - BitVec.ofNat 32 (n.rd BAR_TTSTAMP.VALUE)).toNat % 1000000
    let t := if late then (if off = 0 then least else least + BitVec.ofNat 32 (1000000 - off)) else v
    let n := { n with aud := { n.aud with genStart := Tab.set (fun _ => 0) n.aud.genStart g t.toNat, stops := n.aud.stops.filter (· ≠ g) } }
    (n.wr (AUD_GW0.RUN g) 1).raiseIf late AUD_EVT.GLATE

/-- AUD_CLIPLEN.GO (R309). -/
def Node.clipGo (n : Node) : Node :=
  if n.on AUD_CLIPSTAT.BUSY then n
  else
    let src := n.rd AUD_CLIPSRC.SRC
    let len := 16 * n.rd AUD_CLIPLEN.LEN
    let dst := 16 * n.rd AUD_CLIPDST.DST
    let okSrc := (0x20200000 ≤ src && src + len ≤ 0x20300000) || (0x207E0000 ≤ src && src + len ≤ 0x20800000)
    if !okSrc || 0x4C000 < dst + len then (n.wr AUD_CLIPSTAT.ERR 1).raise AUD_EVT.CLIPERR
    else ({ n with aud := { n.aud with clip := some (src, dst, len) } } : Node).wr AUD_CLIPSTAT.BUSY 1 |>.wr AUD_CLIPSTAT.ERR 0

/-- The copy completes (R309). -/
def Node.clipDone (n : Node) : Node :=
  match n.aud.clip with
  | none => n
  | some (src, dst, len) =>
    let n := n.memPut (0x205D4000 + dst) (n.memBytes src len)
    let n := { n with aud := { n.aud with clip := none } }
    (n.wr AUD_CLIPSTAT.BUSY 0).wr AUD_CLIPSTAT.DONE (sat 16 (n.rd AUD_CLIPSTAT.DONE + 1))

/-- AUD stops (R313): streams send END, outputs go silent. -/
def Node.audOff (n : Node) : Node :=
  let n := n.wr AUD_CTRL.EN 0
  let n := ((upTo 64).filter (fun i => n.on (AUD_TXW0.EN i))).foldl (fun n i =>
    let n := n.txStop i
    if n.rd (AUD_TXW2.STATE i) = 2 then n.wr (AUD_TXW2.STATE i) 1 else n) n
  let n := { n with aud := { n.aud with rx := [], hang := [], duckP := [] } }
  let n := ((upTo 256).filter (fun i => n.rd (AUD_RXW1.STATE i) ≠ 5)).foldl (fun n i => n.wr (AUD_RXW1.STATE i) 0) n
  n.rxCount

/-- The shed actions of AUD (R470): every transmit entry sends an END, and the generators stop. The matrix, zones and cancellers stand
still while the actions last. -/
def Node.audShed (n : Node) : Node :=
  let n := ((upTo 64).filter (fun i => n.on (AUD_TXW0.EN i))).foldl Node.txStop n
  ((upTo 64).filter (fun g => n.on (AUD_GW0.RUN g))).foldl Node.genStop n

/-- An uncorrectable AUDBUF word (R24, R311). -/
def Node.audUce (n : Node) (a : Nat) : Node :=
  let n := { n with uce := n.uce.filter (· ≠ a / 8 * 8) }
  let n := ((n.count AUD_CNT_BUFUCE.VALUE).raise AUD_EVT.UCE).sysFault 5
  if 0x2057A000 ≤ a && a < 0x205AA000 then
    [0, 1].foldl (fun n j => n.xpApply ((a / 8 * 8 - 0x2057A000) / 4 + j) 0x80000000 0) n
  else n

/-! ### The commands -/

/-- AUDIO_BLOCK_CLOSE: AUD closes a stream's 1 ms block (R285). -/
def execAudioBlockClose (tx : Fin 64) (s : State) : Host.Outcome State Fault Refusal := s.onNode (·.closeBlock tx)

/-- AUDIO_BLOCK: a receiver takes an audio block (R284). -/
def execAudioBlock (d : DataUnitRx) (s : State) : Host.Outcome State Fault Refusal :=
  s.onNode (·.audTake (if d.node = 0 then none else some d.node) d.body)

/-- TX_ENTRY_ENABLE: a write to AUD_TXW0; when EN rises the stream is declared (R282). -/
def execTxEntryEnable (by_ : Initiator) (value : Word) (s : State) : Host.Outcome State Fault Refusal :=
  s.onNode (fun n => n.mirrored by_ 0x40040024 value.toNat (·.writeTx value))

/-- RX_ENTRY_ENABLE: a write to AUD_RXW0; a second entry of one stream is ignored as DUPLICATE (R284). -/
def execRxEntryEnable (by_ : Initiator) (value : Word) (s : State) : Host.Outcome State Fault Refusal :=
  s.onNode (fun n => n.mirrored by_ 0x40040014 value.toNat (·.writeRx value))

/-- AUD_MIX: one mix period (R295). -/
def execAudMix (s : State) : Host.Outcome State Fault Refusal := s.onNode (·.mix)

/-- CONCEAL_MUTE: after 8 ms without samples a receive entry mutes (R296). -/
def execConcealMute (rx : Fin 256) (s : State) : Host.Outcome State Fault Refusal := s.onNode (·.rxMute rx)

/-- AUD_XW_WRITE: a write to AUD_XW queues a change of every field of the selected crosspoint (R300, R317); indices past the matrix name none. -/
def Node.xwWrite (n : Node) (v : Word) : Node :=
  let i := n.rd AUD_XSEL.IN
  let o := n.rd AUD_XSEL.OUT
  if 384 ≤ i then n else n.xpQueue (384 * o + i) 0x8001FFFF v

/-- AUD_XW_WRITE: the row's meaning. -/
def execAudXwWrite (by_ : Initiator) (value : Word) (s : State) : Host.Outcome State Fault Refusal :=
  s.onNode (fun n => n.mirrored by_ 0x40040034 value.toNat (·.xwWrite value))

/-- ZONE_COMMIT: the selected zone's staging coefficients swap at the next mix period (R302). -/
def execZoneCommit (by_ : Initiator) (s : State) : Host.Outcome State Fault Refusal :=
  s.onNode (fun n => n.mirrored by_ 0x40040044 (n.look 0x40040044 ||| 0x10000).toNat (fun n =>
    let z := n.rd AUD_ZSEL.ZONE
    { n with aud := { n.aud with commits := n.aud.commits.filter (· ≠ z) ++ [z] } }))

/-- ANC_GAP_END: at the end of a programme gap the gain moves toward its target by at most 3 dB (R304). -/
def execAncGapEnd (zone : Fin 128) (noise : Nat) (s : State) : Host.Outcome State Fault Refusal :=
  s.onNode (fun n =>
    if zone.val < 64 || !n.on (AUD_ZCTRL.ANCEN zone) then n
    else
      let target := min (10 * n.rd (AUD_ZANC.MAXB zone)) (n.rd (AUD_ZANC.SLOPE zone) * (n.rd (AUD_ZANC.NREF zone) - sat 8 noise))
      let g := n.rd (AUD_ZSTAT.ANCGAIN zone)
      let g' := if g < target then min target (g + 30) else max target (g - 30)
      (((n.wr (AUD_ZSTAT.ANCGAIN zone) g').wr (AUD_ZSTAT.NOISE zone) (sat 8 noise)).wr (AUD_ZSTAT.GAPAGE zone) 0).wr (AUD_ZSTAT.HOLD zone) 0)

/-- ANC_HOLD: after 60 s without a gap the gain holds (R304). -/
def execAncHold (zone : Fin 128) (s : State) : Host.Outcome State Fault Refusal :=
  s.onNode (fun n =>
    if zone.val < 64 || !n.on (AUD_ZCTRL.ANCEN zone) then n
    else (n.wr (AUD_ZSTAT.HOLD zone) 1).wr (AUD_ZSTAT.GAPAGE zone) (max 60 (n.rd (AUD_ZSTAT.GAPAGE zone))))

/-- ECHO_DIVERGENCE: a canceller resets its taps (R306). -/
def execEchoDivergence (ec : Fin 16) (s : State) : Host.Outcome State Fault Refusal :=
  s.onNode (fun n =>
    let st := n.rd (AUD_ECB.STATE ec)
    if st = 0 || st = 5 then n
    else (((n.count AUD_CNT_ECRESET.VALUE).raise AUD_EVT.ECDIV).wr (AUD_ECB.ERLE ec) 0).wr (AUD_ECB.STATE ec) (if st = 4 then 4 else 1))

/-- EC_BURST: a convergence burst starts under a granted gust (R307). -/
def execEcBurst (by_ : Initiator) (ec : Fin 16) (s : State) : Host.Outcome State Fault Refusal :=
  s.onNode (fun n => n.mirrored by_ (AUD_ECA.EN ec).addr (n.reg (AUD_ECA.EN ec).addr ||| 0x1000000).toNat (·.ecBurst ec))

/-- BURST_END: the burst ends, its ERLE measured (R307). -/
def execBurstEnd (ec : Fin 16) (erle : Nat) (s : State) : Host.Outcome State Fault Refusal :=
  s.onNode (fun n => if n.rd (AUD_ECB.STATE ec) = 4 then (n.wr (AUD_ECB.ERLE ec) (sat 8 erle)).burstEnd ec else n)

/-- GENERATOR_START: a write to AUD_GW4 starts the selected generator (R308). -/
def execGeneratorStart (by_ : Initiator) (value : Word) (s : State) : Host.Outcome State Fault Refusal :=
  s.onNode (fun n => n.mirrored by_ 0x40040074 value.toNat (·.genStart value))

/-- GENERATOR_RUN_END: a generator reaches the end of its run (R308). -/
def execGeneratorRunEnd (gen : Fin 64) (s : State) : Host.Outcome State Fault Refusal := s.onNode (·.genStop gen)

/-- GENERATOR_STOP: a write to AUD_GSTOP; the generator stops at the next mix period (R319, R308). -/
def execGeneratorStop (by_ : Initiator) (value : Word) (s : State) : Host.Outcome State Fault Refusal :=
  s.onNode (fun n => n.mirrored by_ AUD_GSTOP.GEN.addr value.toNat (fun n =>
    { n with aud := { n.aud with stops := n.aud.stops.filter (· ≠ value.toNat % 64) ++ [value.toNat % 64] } }))

/-- CLIP_COPY: AUD_CLIPLEN.GO (R309). -/
def execClipCopy (by_ : Initiator) (s : State) : Host.Outcome State Fault Refusal :=
  s.onNode (fun n => n.mirrored by_ AUD_CLIPLEN.LEN.addr (n.reg AUD_CLIPLEN.LEN.addr ||| 0x80000000).toNat (·.clipGo))

/-- CLIP_COPY_DONE: the copy completes (R309). -/
def execClipCopyDone (s : State) : Host.Outcome State Fault Refusal := s.onNode (·.clipDone)

/-- AUD_ALIGNED: sixteen cycles within the bound of R290 (R292). -/
def execAudAligned (s : State) : Host.Outcome State Fault Refusal := s.onNode (·.wr AUD_STATUS.ALIGNED 1)

/-- SLEW_END: the slew toward the new grid ends (R292). -/
def execSlewEnd (s : State) : Host.Outcome State Fault Refusal := s.onNode (fun n => (n.wr AUD_STATUS.SLEW 0).wr AUD_GRIDOFS.VALUE 0)

/-- AUD_DISABLE: AUD_CTRL.EN is cleared (R313). -/
def execAudDisable (by_ : Initiator) (s : State) : Host.Outcome State Fault Refusal :=
  s.onNode (fun n => n.mirrored by_ AUD_CTRL.EN.addr (n.reg AUD_CTRL.EN.addr &&& 0xFFFFFFFE).toNat (·.audOff))

/-- ECHO_CANCELLER_ENABLE: a write to AUD_ECnA (R305). -/
def execEchoCancellerEnable (by_ : Initiator) (ec : Fin 16) (value : Word) (s : State) : Host.Outcome State Fault Refusal :=
  s.onNode (fun n => n.mirrored by_ (AUD_ECA.EN ec).addr value.toNat (·.writeEc ec value))

end Sys2Proof.Machine
end

