-- ==== Sys2Proof/Machine/Directory.lean ====
section
/-! DEFINITION. The node image's section table (R645, R646), the schedule template, SCH computed from template and directory (R167, R168),
guardian windows (R117, R132), node records (R165), keys (R152). -/

namespace Sys2Proof.Machine

/-! ### The image in a program bank (R645, R646) -/

/-- Base of the active program bank (R40). -/
def Node.bankBase (n : Node) : Nat := 0x20000000 + 0x100000 * n.rd PEX_STATUS.BANK

/-- Base of the inactive program bank. -/
def Node.otherBank (n : Node) : Nat := 0x20000000 + 0x100000 * (1 - n.rd PEX_STATUS.BANK)

/-- A section table entry (R646). -/
structure Section where
  kind : Nat
  engine : Nat
  offset : Nat
  length : Nat
  target : Nat
  crc : Nat
  deriving DecidableEq, Repr

/-- The section table of the image at `base`, at most 32 entries. -/
def Node.sections (n : Node) (base : Nat) : List Section :=
  (upTo (min 32 (n.memLe (base + 6) 2))).map (fun i =>
    let a := base + 0x80 + 24 * i
    ⟨n.memLe a 1, n.memLe (a + 1) 1, n.memLe (a + 4) 4, n.memLe (a + 8) 4, n.memLe (a + 12) 4, n.memLe (a + 16) 4⟩)

/-- The first section of a kind. -/
def Node.sectionOf (n : Node) (base kind : Nat) : Option Section := (n.sections base).find? (·.kind = kind)

/-! ### The schedule template (R167) -/

/-- A demand of the template, with the car that contributes it (0 fleet-wide). -/
structure Demand where
  car : Nat
  fleet : Bool
  kind : Nat
  side : Nat
  role : Nat
  len : Nat
  period : Nat
  prio : Nat
  label : Nat
  deriving DecidableEq, Repr

/-- The bytes of the template section in the active bank; empty when the image has none. -/
def Node.templateBytes (n : Node) : List Byte :=
  match n.sectionOf n.bankBase 4 with
  | some s => n.memBytes (n.bankBase + s.offset) s.length
  | none => []

/-- The first four bytes of the SHA-256 of the template (R164). -/
def Node.templateHash (n : Node) : Nat := ofLe ((sha256 n.templateBytes).take 4)

/-- A demand record of 8 bytes with its class. -/
def demandOf (b : List Byte) : Nat × Demand :=
  let f := le b 2 1
  let p := le b 4 1
  (le b 0 2, ⟨0, decide (le b 0 2 = 0xFFFF), f % 2, f / 2 % 4, f / 8 % 2, le b 3 1, p % 8, p / 16, le b 6 2⟩)

/-- The cars of a directory with the class of their lowest-numbered node (R167). -/
def carClasses (dir : List DirRec) : List (Nat × Nat) :=
  (upTo 65).filterMap (fun c =>
    let here := dir.filter (·.car = c)
    match here.foldl (fun (m : Option DirRec) r => match m with
      | some q => if r.num < q.num then some r else some q
      | none => some r) none with
    | some r => if c = 0 then none else some (c, r.cls)
    | none => none)

/-- Every demand that the template makes of a directory (R167). -/
def demandsOf (template : List Byte) (dir : List DirRec) : List Demand :=
  let recs := (groups 8 (template.length / 8) template).map demandOf
  recs.flatMap (fun d =>
    if d.1 = 0xFFFF then [d.2]
    else ((carClasses dir).filter (fun c => c.2 = d.1)).map (fun c => { d.2 with car := c.1 }))

/-- Is a demand malformed (R167)? -/
def Demand.bad (d : Demand) : Bool := d.period = 7 || d.side = 3 || (d.fleet && d.kind = 0)

/-- Does a node record satisfy car, side and role of an entry or demand: standby is pair role 2 (R106)? -/
def DirRec.fits (r : DirRec) (car side role : Nat) : Bool :=
  r.car = car && (side = 0 || side = (if r.sideB then 2 else 1)) && (if r.role = 2 then 1 else 0) = role

/-- The order of placement (R167). -/
def Demand.before (a b : Demand) : Bool :=
  let key := fun (d : Demand) => [d.prio, d.kind, d.car, d.side, d.role, d.label]
  decide (key a ≤ key b)

/-- The entry that a demand becomes at a place. -/
def Demand.entry (d : Demand) (cyc start phase : Nat) : SchEnt :=
  let len := if d.kind = 1 then 2 else d.len
  ⟨cyc + start * 16 + len % 64 * 1024 + d.kind * 65536 + d.period * 262144 + phase * 2097152 + 2147483648,
    d.car + d.side * 128 + d.role * 512 + d.prio * 4096, (if d.kind = 1 then 0 else d.label), 0⟩

/-- The most scheduled entries that can apply together with a place in one cycle (R167 grants). -/
def grantsAt (es : List SchEnt) (cyc period phase : Nat) : Nat :=
  ((upTo 64).map (fun r => if r % 2 ^ period = phase then
    (es.filter (fun e => e.ok && e.kind = 0 && e.cycle = cyc && r % 2 ^ e.period = e.phase)).length else 0)).foldl max 0

/-- Windows of the owner of a demand (R167): entries of its role, and every spare with CAR 0; for a fleet spare the fullest role of the
directory counts. -/
def windowsOfOwner (dir : List DirRec) (es : List SchEnt) (d : Demand) : Nat :=
  let count := fun (r : DirRec) => (es.filter (fun e => e.ok && (r.fits e.car e.side e.role || (e.kind = 1 && e.car = 0)))).length
  let owners := if d.car = 0 then dir else dir.filter (fun r => r.fits d.car d.side d.role)
  (owners.map count).foldl max 0

/-- The first place of a demand among entries, if any (R167). -/
def placeOf (dir : List DirRec) (es : List SchEnt) (d : Demand) : Option SchEnt :=
  if d.kind = 0 && (d.len = 0 || 39 < d.len) then none
  else if 512 ≤ es.length || 64 ≤ windowsOfOwner dir es d then none
  else
    let places := (upTo (2 ^ d.period)).flatMap (fun ph => (upTo 16).map (fun c => (ph, c)))
    places.findSome? (fun p =>
      let starts := if d.kind = 1 then [42] else (upTo (40 - d.len)).map (· + 2)
      match starts.find? (fun st => !es.any (fun e => (d.entry p.2 st p.1).conflicts e)) with
      | some st => if grantsAt es p.2 d.period p.1 < 20 then some (d.entry p.2 st p.1) else none
      | none => none)

/-- Does an entry carry a demand? -/
def SchEnt.carries (e : SchEnt) (d : Demand) : Bool :=
  e.kind = d.kind && e.car = d.car && e.side = d.side && e.role = d.role && e.prio = d.prio && e.period = d.period
    && (d.kind = 1 || (e.label = d.label && e.len = d.len))

/-- The demands left when each entry in service has taken one that it carries. -/
def unplaced (es : List SchEnt) (ds : List Demand) : List Demand :=
  (ds.foldl (fun (acc : List SchEnt × List Demand) d =>
    if acc.1.any (·.carries d) then (acc.1.eraseP (·.carries d), acc.2) else (acc.1, acc.2 ++ [d])) (es, [])).2

/-- SCH by R167 from the entries that stay: the final list, and the demands dropped as (label, car, kind). -/
def buildSch (template : List Byte) (dir : List DirRec) (service : List SchEnt) : List SchEnt × List (Nat × Nat × Nat) :=
  let stay := service.filter (fun e => e.car = 0 || dir.any (fun r => r.fits e.car e.side e.role))
  let all := demandsOf template dir
  let bads := (all.filter Demand.bad).map (fun d => (d.label, d.car, d.kind))
  let todo := (unplaced stay (sortBy Demand.before (all.filter (fun d => !d.bad)))).filter
    (fun d => d.fleet || dir.any (fun r => r.fits d.car d.side d.role))
  todo.foldl (fun (acc : List SchEnt × List (Nat × Nat × Nat)) d => match placeOf dir acc.1 d with
    | some e => (acc.1 ++ [e], acc.2)
    | none => (acc.1, acc.2 ++ [(d.label, d.car, d.kind)])) (stay, bads)

/-- The 16 bytes of an entry as SCH's CRC counts them: a spare's claimant as 0 (R168). -/
def SchEnt.crcBytes (e : SchEnt) : List Byte :=
  leBytes 4 e.w0 ++ leBytes 4 e.w1 ++ (if e.kind = 1 then leBytes 4 0 ++ leBytes 4 0 else leBytes 4 e.w2 ++ leBytes 4 e.w3)

/-- The CRC-32 of SCH over its 512 entries (R168). -/
def schCrc (es : List SchEnt) : Nat :=
  crc32 ((es.take 512).flatMap SchEnt.crcBytes ++ List.replicate (16 * (512 - es.length)) 0)

/-- Do two entries of a list conflict (R107, R169)? -/
def anyConflict : List SchEnt → Bool
  | [] => false
  | e :: t => t.any (e.conflicts ·) || anyConflict t

/-- The entries in service. -/
def Node.schList (n : Node) : List SchEnt := ((upTo 512).map n.sch).filter (·.isValid)

/-- SCH loaded: the list, then empty entries. -/
def Node.loadSch (n : Node) (es : List SchEnt) : Node :=
  (upTo 512).foldl (fun n i => n.setSch i (es.getD i SchEnt.empty)) n

/-! ### Guardian windows (R117, R132, R138) -/

/-- A guardian window word (R148). -/
def windowWord (cyc start len period phase : Nat) : Nat :=
  cyc + start * 16 + len * 1024 + period * 65536 + phase * 524288 + 2147483648

/-- Windows of the entries a role holds, and of every spare with CAR 0: merged where they share cycle, period and phase and touch, the
first 64 as words, and how many did not fit. -/
def windowsFor (es : List SchEnt) (holds : SchEnt → Bool) : List Nat × Nat :=
  let mine := sortBy (fun a b => decide ([a.cycle, a.period, a.phase, a.start] ≤ [b.cycle, b.period, b.phase, b.start])) (es.filter (fun e => e.ok && (holds e || (e.kind = 1 && e.car = 0))))
  let merged := mine.foldl (fun (acc : List (SchEnt × Nat × Nat)) e => match acc.getLast? with
    | some (f, lo, hi) =>
      if f.cycle = e.cycle && f.period = e.period && f.phase = e.phase && e.start ≤ hi + 1 then
        acc.dropLast ++ [(f, lo, max hi (e.start + e.len))]
      else acc ++ [(e, e.start, e.start + e.len)]
    | none => [(e, e.start, e.start + e.len)]) []
  ((merged.take 64).map (fun w => windowWord w.1.cycle w.2.1 (w.2.2 - w.2.1 + 1) w.1.period w.1.phase), merged.length - 64)

/-! ### Node records (R165) -/

/-- A node record from 16 bytes. -/
def dirOf (b : List Byte) : DirRec :=
  let f := le b 3 1
  { num := le b 0 1, car := le b 1 1, chain := le b 2 1, sideB := bit f 0, role := bits f 1 2, reversed := bit f 3, endNode := bit f 4,
    lead := bit f 5, reserved := bit f 6, delay := le b 4 2 % 4096, prio := le b 4 2 / 4096, cls := le b 6 2, uid := le b 8 8 }

/-- CRC-32 of a node list in number order (DIR_SUM, R176). -/
def dirCrc (dir : List DirRec) : Nat := crc32 ((sortBy (fun a b => a.num ≤ b.num) dir).flatMap dirBytes)

/-- The number of cars of a directory. -/
def carCount (dir : List DirRec) : Nat := ((upTo 256).filter (fun c => c ≠ 0 && dir.any (·.car = c))).length

/-- Reserved records for the partners named that have no number (R166): the next free numbers, in chain order, with the partner's car.
The reserved node takes the other side and the complementary pair role (DEDUCED, log entry 22). -/
def reservePartners (dir : List DirRec) (partners : List (Nat × Nat)) : List DirRec :=
  (sortBy (fun a b => a.chain ≤ b.chain) dir).foldl (fun acc r =>
    match partners.find? (·.1 = r.uid) with
    | some (_, p) =>
      if p = 0 || acc.any (·.uid = p) then acc
      else match ((upTo 129).filter (fun k => k ≠ 0 && !acc.any (·.num = k))).head? with
        | some k =>
          let other := if r.role = 1 then 2 else if r.role = 2 then 1 else 0
          acc ++ [{ r with num := k, uid := p, sideB := !r.sideB, role := other, endNode := false, lead := false, reserved := true, prio := 0 }]
        | none => acc
    | none => acc) dir

/-! ### Keys and frames (R122, R152) -/

/-- Is the fleet key sealed (R657)? -/
def Node.keySealed (n : Node) : Bool := bit (n.otpWord 18) 0

/-- A key derived from the fleet key (R152): label, composition ID, nonce. -/
def Node.derive (n : Node) (label : List Byte) (id nonce : Nat) : List Byte :=
  cmac (n.otpBytes 2 4) ([0x01] ++ label ++ [0x00] ++ leBytes 4 id ++ leBytes 8 nonce ++ [0x00, 0x80])

/-- The composition key of an ID and nonce. -/
def Node.compKey (n : Node) (id nonce : Nat) : List Byte := n.derive [0x48, 0x4C, 0x4E, 0x43] id nonce

/-- The join key. -/
def Node.joinKey (n : Node) : List Byte := n.derive [0x48, 0x4C, 0x4E, 0x4A] 0 0

/-- The composition ID held. -/
def Node.compId (n : Node) : Nat := n.rd INA_COMPID.VALUE

/-- The nonce in service. -/
def Node.nonce (n : Node) : Nat := n.rd64 INA_NONCE_LO.VALUE INA_NONCE_HI.VALUE

/-- The key of a composition ID the node can derive: join key for 0, its own, or the junction's part. -/
def Node.keyOf (n : Node) (id : Nat) : Option (List Byte) :=
  if id = 0 then some n.joinKey
  else if id = n.compId then some (n.compKey id n.nonce)
  else match n.ina.junction with
    | some j => if j.id = id then some (n.compKey id j.nonce) else none
    | none => none

/-- The node's role code (R105): car, side, role. -/
def Node.roleCode (n : Node) : Nat := n.ownCar % 128 + (if n.sideB then 2 else 1) * 128 + n.roleNow * 512

/-- A contention frame (R122) with CRC and tag; `key` signs it, `prio` goes in byte 20. -/
def Node.contBytes (n : Node) (key : List Byte) (prio type attempt id cyc : Nat) (spec : List Byte) : List Byte :=
  let head := leBytes 1 type ++ leBytes 1 attempt ++ leBytes 8 n.uid ++ leBytes 4 id ++ leBytes 4 cyc ++ leBytes 2 n.roleCode
    ++ leBytes 1 prio ++ [0] ++ (spec ++ List.replicate 22 0).take 22
  let body := head ++ leBytes 4 (crc32 head)
  body ++ tag64 key body

/-- A frame heard that fails its tag (R128): counted, its UID logged; the event at most once per 1,024 cycles and attachment. `kind` is
1 beacon, 2 contention frame. -/
def Node.stranger (n : Node) (att kind uid : Nat) : Node :=
  let n := n.count BAR_CNT_STRANGER.VALUE
  let n := n.wr64 BAR_STRUID_LO.VALUE BAR_STRUID_HI.VALUE uid
  let n := (n.wr BAR_STRSRC.ATTACH (2 ^ att)).wr BAR_STRSRC.KIND kind
  let n := (if kind = 1 then n.meets att 2 else n).wr (LINE_STATUS.FOREIGN_RUN att) 0
  let last := Tab.get (fun _ => 0) n.bar.strangerAt att
  if last ≠ 0 && n.cycle + 1 < last + 1024 then n
  else ({ n with bar := { n.bar with strangerAt := Tab.set (fun _ => 0) n.bar.strangerAt att (n.cycle + 1) } } : Node).raise BAR_EVT.STRANGER

/-- What the check of a contention frame gives. -/
inductive ContCheck where
  | undecoded
  | untagged
  | good
  deriving DecidableEq, Repr

/-- Check a contention frame (R122, R128); a JBEACON carries the nonce of its own key (R164). -/
def Node.checkCont (n : Node) (b : List Byte) : ContCheck :=
  if b.length ≠ 56 || crc32 (b.take 44) ≠ le b 44 4 then .undecoded
  else
    let id := le b 10 4
    let key := if le b 0 1 = 0x6A then some (n.compKey id (le b 22 8)) else n.keyOf id
    match key with
    | some k => if tag64 k (b.take 48) = b.drop 48 then .good else .untagged
    | none => .untagged

/-- Handle a contention frame of one type: `act` runs on a good one (R122, R124, R128). -/
def Node.onCont (n : Node) (f : ContRx) (type : Nat) (act : Node → Node) : Node :=
  match n.checkCont f.bytes with
  | .undecoded => n.count BAR_CNT_CONTBAD.VALUE
  | .untagged => n.stranger f.att 2 (le f.bytes 2 8)
  | .good => if le f.bytes 0 1 = type then act n else n

end Sys2Proof.Machine
end

