-- ==== Sys2Proof/Machine/Commit.lean ====
section
/-! DEFINITION. Line settings by node state (R44), preparing, announcing and making a commit (04_inauguration.md R153, R162 to R174,
R183, R186, R189 to R191). -/

namespace Sys2Proof.Machine

/-! ### Line settings (R44, R45) -/

/-- The rows of R44. -/
inductive LineMode where
  | listening
  | unnumbered
  | middle
  | endNode (rear : Bool)
  | only
  | off
  deriving DecidableEq, Repr

/-- One attachment's termination, receive mode (0 off, 1 full, 2 presence) and side (1 train, 2 outward). -/
def Node.setAtt (n : Node) (att : Nat) (term : Bool) (rx side : Nat) : Node :=
  ((n.wrB (LINE_CTRL.TERM att) term).wr (LINE_CTRL.RXMODE att) rx).wr (LINE_CTRL.SIDE att) side

/-- The settings of line `l` (R44); an end node's outward side is the rear when `rear`. -/
def Node.lineMode (n : Node) (l : Nat) (m : LineMode) : Node :=
  let f := l
  let r := l + 2
  match m with
  | .listening => ((n.wr (LINE_CTRL.RELAY_OPEN l) 0).setAtt f false 1 0).setAtt r false 2 0
  | .unnumbered => ((n.wr (LINE_CTRL.RELAY_OPEN l) 1).setAtt f true 1 0).setAtt r true 2 0
  | .middle => ((n.wr (LINE_CTRL.RELAY_OPEN l) 0).setAtt f false 1 1).setAtt r false 0 1
  | .endNode false => ((n.wr (LINE_CTRL.RELAY_OPEN l) 1).setAtt f true 2 2).setAtt r true 1 1
  | .endNode true => ((n.wr (LINE_CTRL.RELAY_OPEN l) 1).setAtt f true 1 1).setAtt r true 2 2
  | .only => ((n.wr (LINE_CTRL.RELAY_OPEN l) 1).setAtt f true 1 1).setAtt r true 2 2
  | .off => ((n.wr (LINE_CTRL.RELAY_OPEN l) 0).setAtt f false 0 0).setAtt r false 0 0

/-- Both lines in one setting. -/
def Node.bothLines (n : Node) (m : LineMode) : Node := (n.lineMode 0 m).lineMode 1 m

/-- Both lines as end node, outward to the rear or the front. -/
def Node.makeEnd (n : Node) (rear : Bool) : Node :=
  let n := (n.bothLines (.endNode rear)).wr INA_STATUS.END 1
  { n with ina := { n.ina with outward := some (if rear then 2 else 0) } }

/-- The attachments that drive their lines: full receive chain, enabled, driver allowed (R45, R85). -/
def Node.drivers (n : Node) : List Nat :=
  if n.on SYS_STATUS.BOOTFAIL then [] else
  (upTo 4).filter (fun a => n.rd (LINE_CTRL.RXMODE a) = 1 && n.on (LINE_CTRL.EN a) && n.on (LINE_CTRL.TXEN a) && !n.attShed a)

/-- A contention frame goes out in a cell on every line driven. -/
def Node.emitCont (n : Node) (cell : Nat) (bytes : List Byte) : Node :=
  n.drivers.foldl (fun n a => n.emit (.contention a cell) bytes) n

/-- INA_STATUS.STATE. -/
def Node.inaState (n : Node) : Nat := n.rd INA_STATUS.STATE

/-- INA enters a state. -/
def Node.inaGo (n : Node) (st : Nat) : Node := n.wr INA_STATUS.STATE st

/-- A change of INA's own state. -/
def Node.updIna (n : Node) (f : InaState → InaState) : Node := { n with ina := f n.ina }

/-- The outward attachment of line B, when the node is an end node. -/
def Node.outAtt (n : Node) : Option Nat := n.ina.outward.map (· + 1)

/-- A change of BAR's own state. -/
def Node.updBar (n : Node) (f : BarState → BarState) : Node := { n with bar := f n.bar }

/-- A command for the lead's beacons. -/
def Node.leadCmd (n : Node) (bytes : List Byte) : Node :=
  { n with bar := { n.bar with cmds := n.bar.cmds ++ [⟨(bytes ++ List.replicate 14 0).take 14, 0, n.cycle, none⟩] } }

/-- A change of AON's own state. -/
def Node.updLull (n : Node) (f : LullState → LullState) : Node := { n with lull := f n.lull }

/-- A ring or a commit is aborted at this node (R487, R493, R496, R500): back to RUN, the CAN sleep requests fall, loss declaration and fence
timer start from zero. -/
def Node.lullBack (n : Node) : Node :=
  let st := n.rd AON_LSTATUS.STATE
  if st = 0 || 4 ≤ st then n
  else
    let n := ((n.wr AON_LSTATUS.STATE 0).wr AON_LSTATUS.LATCHED 0).wr AON_CANSTB.REQ 0
    let n := n.updLull (fun l => { l with voted := none, latch := none, wakeReqDue := false, leadLatch := false, enterHeld := false, kTime := none })
    let n := n.updBar (fun b => { b with contenders := b.contenders.filter (fun k => k.type ≠ 0x61) })
    let n := if n.pair.stilled then { n with pair := { n.pair with stilled := false, heardAt := n.pair.heardAt.map (fun _ => n.now)
                                                                   echoMark := n.pair.echoMark.map (fun _ => n.now) } } else n
    (n.count AON_CNT_ABORTS.VALUE).raise AON_EVT.ABORT

/-- The lead ends its ring: LULL_ABORT with a cause and a node number, the LULL flag falls, the lead returns to RUN (R493, R494). -/
def Node.ringAbort (n : Node) (cause num : Nat) : Node :=
  match n.lull.ring with
  | none => n
  | some r =>
    let n := (n.leadCmd ([0x21] ++ leBytes 1 r.id ++ leBytes 1 cause ++ leBytes 1 num)).updBar (fun b => { b with lullFlag := false })
    let n := n.updLull (fun l => { l with ring := none })
    let n := { n with ina := { n.ina with units := n.ina.units.filter (fun u => le u 0 1 ≠ 0x40) } }
    if n.rd AON_LSTATUS.STATE = 0 then (n.count AON_CNT_ABORTS.VALUE).raise AON_EVT.ABORT else n.lullBack

/-- An inauguration begins at this node: INAUG, running calibrations abort (R42, R79); a ring before commit is aborted (R493). -/
def Node.inaugBegin (n : Node) : Node := ((n.wr INA_STATUS.INAUG 1).calInaug).ringAbort 5 0

/-- A trigger of R150; a ring before commit is aborted (R493). -/
def Node.inaTrigger (n : Node) : Node := ((n.raise INA_EVT.TRIG).calInaug).ringAbort 5 0

/-- Everything a walk or a prepared commit holds is forgotten. -/
def Node.walkReset (n : Node) : Node :=
  n.updIna (fun i => { i with
    walkUid := 0, walkPrio := 0, recs := [], partners := [], calling := 0, attempt := 0, cars := 0, walkEnded := false, callDue := false
    dirSent := 0, answers := [], taken := 0, answerDue := false, heardCand := false, dirNew := [], schNew := [], plan := none, dirSum := none })

/-- INA enters LISTEN (R154, R155). -/
def Node.enterListen (n : Node) : Node :=
  let n := (n.walkReset.inaugBegin.bothLines .listening).inaGo 1
  let n := n.updIna (fun i => { i with outward := none, junction := none, merge := none, outFrames := [], splitTrig := false })
  let n := ((n.wr INA_STATUS.LEAD 0).wr BAR_STATUS.LEAD 0).wr GRD_STATUS.LEAD 0
  ((n.wr INA_STATUS.END 0).wr INA_STATUS.DEPUTY 0).wr INA_STATUS.MPHASE 0

/-! ### Roles and records -/

/-- The node's pair role as records name it: 0 solo, 1 active, 2 standby. -/
def Node.pairRole (n : Node) : Nat :=
  if n.rd PAIR_STATUS.STATE = 0 || n.on PAIR_STATUS.SOLO then 0 else if n.isActive then 1 else 2

/-- A record's schedule role: 1 standby (R106). -/
def DirRec.schRole (r : DirRec) : Nat := if r.role = 2 then 1 else 0

/-- A list of values less than which a candidate's priority and UID are stronger (R154). -/
def stronger (prio uid prio' uid' : Nat) : Bool := decide (prio' < prio) || (prio = prio' && decide (uid < uid'))

/-- A new composition ID (R153): an entropy draw, moved on past 0, the ID in service and the IDs heard in the last 65,536 cycles. -/
def Node.newCompId (n : Node) : Nat × Node :=
  let (v, n) := n.entropy
  let heard := (n.ina.junction.toList.map (·.id)) ++ (n.bar.heardIds.filter (fun h => n.cycle < h.2 + 65536)).map (·.1)
  let bad := fun (x : Nat) => x = 0 || x = n.compId || heard.contains x
  (((upTo (heard.length + 3)).map (fun i => (v + i) % 4294967296)).find? (fun x => !bad x) |>.getD 1, n)

/-- The template's CAR positions moved: entries follow the UIDs of their car; a car that left takes no position (R191). -/
def mapCars (old new : List DirRec) (es : List SchEnt) : List SchEnt :=
  es.map (fun e =>
    if e.car = 0 then e
    else
      let here := old.filter (·.car = e.car)
      let into := here.findSome? (fun r => (new.find? (·.uid = r.uid)).map (·.car))
      { e with w1 := setBits e.w1 0 7 (into.getD 127) })

/-- Entries in service as a commit of a kind starts from (R167): none for cold (0) and merge (2). -/
def Node.serviceFor (n : Node) (kind : Nat) (dir : List DirRec) : List SchEnt :=
  if kind = 1 || kind = 3 then mapCars n.dir dir n.schList else []

/-- SCH that a commit yields. -/
def Node.schFor (n : Node) (kind : Nat) (dir : List DirRec) : List SchEnt × List (Nat × Nat × Nat) :=
  buildSch n.templateBytes dir (n.serviceFor kind dir)

/-- The guardian's staging set for this node (R132, R135, R138). -/
def Node.stageFor (n : Node) (dir : List DirRec) (es : List SchEnt) (stretch : Nat) : Option GrdStage :=
  (dir.find? (fun r => r.uid = n.uid && !r.reserved)).map (fun r =>
    let own := windowsFor es (fun e => e.heldBy r.car r.sideB r.schRole)
    let tko := match dir.find? (fun q => q.car = r.car && q.uid ≠ r.uid) with
      | some q => if r.role = 2 then (windowsFor es (fun e => e.heldBy q.car q.sideB q.schRole)).1 else []
      | none => []
    ⟨own.1, tko, 4 * r.delay, r.num, dir.length, r.lead, stretch, own.2⟩)

/-- Arm and commit the guardian for a plan; the plan stands ready (R135, R162, R171). -/
def Node.prepare (n : Node) (p : CommitPlan) : Node :=
  let stretch := match n.ina.merge with
    | some g => if p.kind = 2 then 4 * g.stretchLen else 0
    | none => 0
  match n.stageFor p.dir p.sch stretch with
  | none => n.updIna (fun i => { i with plan := some p })
  | some st => ((n.guardArm p.newId st).guardCommit p.newId p.m).updIna (fun i => { i with plan := some { p with ready := true } })

/-- INA refuses to commit (R169). -/
def Node.schRefuse (n : Node) : Node := (n.count INA_CNT_SCHMIS.VALUE).raise INA_EVT.SCHMIS

/-! ### Announcing (R102, R170, R176, R188) -/

/-- The COMMIT and COMMIT_KEY commands of a plan. -/
def Node.announce (n : Node) (p : CommitPlan) : Node :=
  (n.leadCmd ([0x10] ++ leBytes 4 p.m ++ leBytes 4 p.newId ++ leBytes 2 p.gen ++ leBytes 1 p.kind ++ leBytes 1 p.total ++ leBytes 1 p.cars)).leadCmd
    ([0x11] ++ leBytes 8 p.nonce ++ leBytes 4 p.takes ++ [0])

/-- DIR_NODE units of records (R176). -/
def Node.sendDirNodes (n : Node) (recs : List DirRec) : Node :=
  (groups 31 (recs.length + 1) recs).foldl (fun n g => n.inaUnit ([0x30] ++ leBytes 1 g.length ++ [0, 0] ++ g.flatMap dirBytes)) n

/-- DIR_SUM of a plan (R176). -/
def Node.sendDirSum (n : Node) (p : CommitPlan) : Node :=
  n.inaUnit ([0x36, 0, 0, 0] ++ leBytes 2 p.gen ++ leBytes 4 p.newId ++ leBytes 4 p.crc ++ leBytes 4 (dirCrc p.dir) ++ leBytes 1 p.total ++ leBytes 1 p.cars)

/-- The lead announces a commit of a kind over a directory, distributes `recs`, and prepares itself (R170, R175, R181). -/
def Node.leadCommit (n : Node) (kind m takes newId nonce gen : Nat) (dir recs : List DirRec) : Node :=
  let s := n.schFor kind dir
  let p : CommitPlan := ⟨m, takes, newId, nonce, gen, kind, dir.length, carCount dir, schCrc s.1, true, false, dir, s.1, s.2⟩
  if anyConflict s.1 then n.schRefuse
  else (((n.inaugBegin.announce p).sendDirNodes recs).sendDirSum p).prepare p

/-- A member tries to prepare: COMMIT, COMMIT_KEY, the node list and DIR_SUM must be there (R168 to R171). -/
def Node.tryPrepare (n : Node) : Node :=
  match n.ina.plan with
  | none => n
  | some p =>
    if p.ready || !p.keyed then n
    else match n.ina.dirSum with
      | none => n
      | some (gen, id, crc, nodes) =>
        if id ≠ p.newId || gen ≠ p.gen then n
        else
          let merged := (n.dir.filter (fun r => !n.ina.dirNew.any (·.uid = r.uid))) ++ n.ina.dirNew
          match [n.ina.dirNew, merged].find? (fun d => d.length = p.total && dirCrc d = nodes) with
          | none => n
          | some dir =>
            let s := n.schFor p.kind dir
            let explicit := (upTo 512).filterMap (fun i => (n.ina.schNew.find? (·.1 = i)).map (·.2))
            let es := if schCrc s.1 = crc && !anyConflict s.1 then some s
              else if explicit ≠ [] && schCrc explicit = crc && !anyConflict explicit then some (explicit, s.2) else none
            match es with
            | none => if n.ina.schNew = [] then n.schRefuse.updIna (fun i => { i with dirSum := none }) else n
            | some (es, drops) => n.prepare { p with dir := dir, sch := es, drops := drops, crc := crc }

/-! ### Making the commit (R171, R172, R183, R186) -/

/-- A dropped demand is reported (R186, R200). -/
def Node.dropReport (n : Node) (d : Nat × Nat × Nat) : Node :=
  let n := (upTo 15).foldl (fun n k => n.setReg (0x40020100 + 4 * (15 - k)) (n.reg (0x40020100 + 4 * (14 - k)))) n
  let n := n.setReg 0x40020100 (BitVec.ofNat 32 (d.1 % 65536 + d.2.1 % 128 * 65536 + d.2.2 % 2 * 16777216 + 2147483648))
  ((n.count INA_CNT_DROPS.VALUE).raise INA_EVT.DROP).fixedRecord 10 (leBytes 2 d.1 ++ leBytes 1 d.2.1 ++ leBytes 1 d.2.2)

/-- A cycle number moved by a difference of cycle numbers. -/
def moveCycle (d c : Nat) : Nat := (c + d) % 4294967296

/-- Every pending cycle-numbered time moves with the numbering (R183). -/
def Node.shiftCycles (n : Node) (d : Nat) : Node :=
  if d = 0 then n
  else
    let mv := moveCycle d
    let own := fun (o : OwnLine) => { o with switch := o.switch.map (fun w => { w with ns := mv w.ns }) }
    let peers := n.line.peers.map (fun p => (p.1, { p.2 with pend := p.2.pend.map (fun q => (q.1, mv q.2.1, q.2.2)) }))
    let outs := n.msg.out.map (fun f => (f.1, f.2.map (fun m => { m with lastSent := mv m.lastSent, lastProbe := mv m.lastProbe })))
    let ins := n.msg.inb.map (fun f => (f.1, { f.2 with msgs := f.2.msgs.map (fun m => { m with lastCycle := mv m.lastCycle }) }))
    let conts := n.bar.contenders.map (fun c => { c with sentIn := c.sentIn.map mv, span := mv c.span, next := mv c.next })
    let spares := n.bar.spares.map (fun s => { s with cycle := mv s.cycle })
    let n := { n with line := { n.line with ownA := own n.line.ownA, ownB := own n.line.ownB, peers := peers } }
    let n := { n with msg := { n.msg with out := outs, inb := ins } }
    { n with bar := { n.bar with contenders := conts, spares := spares, lastBeacon := none } }

/-- Claims carry to the entries of the new SCH (R172): the entries, and the claims kept as (old index, new index). -/
def carryClaims (old : List (Nat × SchEnt)) (oldDir dir : List DirRec) (new : List SchEnt) : List SchEnt × List (Nat × Nat) :=
  old.foldl (fun acc o =>
    let e := o.2
    if e.kind ≠ 1 || e.claimant = 0 || !dir.any (·.uid = e.claimant) then acc
    else
      let m := (mapCars oldDir dir [e]).getD 0 e
      let free := (upTo acc.1.length).filter (fun i =>
        let x := acc.1.getD i SchEnt.empty
        x.kind = 1 && x.claimant = 0 && x.w1 = m.w1 && x.period = m.period)
      match (free.find? (fun i => (acc.1.getD i SchEnt.empty).w0 = m.w0)).or free.head? with
      | some i => (listSet acc.1 i { acc.1.getD i SchEnt.empty with w2 := e.w2, w3 := e.w3 }, acc.2 ++ [(o.1, i)])
      | none => acc) (new, [])

/-- The line settings a record asks for (R44). -/
def Node.modesFor (n : Node) (dir : List DirRec) (r : DirRec) : Node :=
  let live := dir.filter (!·.reserved)
  if live.length = 1 then ((n.bothLines .only).wr INA_STATUS.END 1).updIna (fun i => { i with outward := some 2 })
  else if r.endNode then n.makeEnd (if live.all (fun q => r.chain ≤ q.chain) then r.reversed else !r.reversed)
  else ((n.bothLines .middle).wr INA_STATUS.END 0).updIna (fun i => { i with outward := none })

/-- The claims and BAR's own claim status after a commit (R172). -/
def Node.carryBar (n : Node) (kept : List (Nat × Nat)) : Node :=
  let moved := fun (i : Nat) => (kept.find? (·.1 = i)).map (·.2)
  let spares := n.bar.spares.filterMap (fun s => (moved s.entry).map (fun j => { s with entry := j }))
  let n := { n with bar := { n.bar with spares := spares } }
  if n.rd BAR_SPARESTAT.STATE ≠ 3 then n
  else match moved (n.rd BAR_SPARESTAT.ENTRY) with
    | some j => n.wr BAR_SPARESTAT.ENTRY j
    | none => (n.wr BAR_SPARESTAT.STATE 6).raise BAR_EVT.SPARE

/-- INA's registers at a commit (R195, R196). -/
def Node.commitRegs (n : Node) (p : CommitPlan) (r : DirRec) : Node :=
  let leadNum := ((p.dir.find? (·.lead)).map (·.num)).getD 0
  let n := n.setReg INA_SELF.VALUE.addr (BitVec.ofNat 32 (r.num % 256 + r.car % 256 * 256 + r.chain % 256 * 65536 + p.dir.length % 256 * 16777216))
  let n := n.wr INA_COUNT.VALUE (p.cars % 256 + (p.dir.filter (·.reserved)).length % 256 * 256 + leadNum % 256 * 65536)
  let n := ((n.wr INA_COMPID.VALUE p.newId).wr64 INA_NONCE_LO.VALUE INA_NONCE_HI.VALUE p.nonce).wr INA_GEN.VALUE p.gen
  let n := ((n.wr INA_DELAY.VALUE r.delay).wr INA_MCYCLE.VALUE p.takes).wr INA_STATUS.KIND p.kind
  let n := (n.wrB INA_STATUS.ORIENT r.reversed).wrB INA_STATUS.LEAD r.lead
  let n := ((n.wr BAR_COMPID.VALUE p.newId).wr BAR_GEN.VALUE p.gen).wr BAR_STATUS.NODE r.num
  let n := n.wrB BAR_STATUS.LEAD r.lead
  let leadUid := ((p.dir.find? (·.lead)).map (·.uid)).getD 0
  { n with bar := { n.bar with key := n.compKey p.newId p.nonce, leadUid := leadUid, leadNum := leadNum } }

/-- The commit of a plan at M (R171). -/
def Node.commitNow (n : Node) (p : CommitPlan) (r : DirRec) : Node :=
  let oldDir := n.dir
  let oldSch := (upTo 512).filterMap (fun i => if (n.sch i).isValid then some (i, n.sch i) else none)
  let first := !n.ina.everCommitted
  let wasLead := n.isLead
  let n := n.guardSwap p.takes
  let n := (n.shiftCycles ((p.takes + 4294967296 - p.m) % 4294967296)).wr BAR_CYCLE.VALUE p.takes
  let claims := carryClaims oldSch oldDir p.dir p.sch
  let n := (n.loadSch claims.1).carryBar claims.2
  let n := { n with dir := p.dir }
  let n := n.commitRegs p r
  let deputy := p.kind = 2 && wasLead && !r.lead
  let n := n.wrB INA_STATUS.DEPUTY deputy
  let n := if r.lead || deputy then n else n.wr GRD_STATUS.LEAD 0
  let n := if p.kind = 1 then n else
    let n := { n with bar := { n.bar with rcMiss := [], hbActive := [] } }
    (upTo 4).foldl (fun n m => (n.wr (BAR_RCPRES.BITS m) 0).wr (BAR_RCABS.BITS m) 0) n
  let n := { n with bar := { n.bar with contenders := n.bar.contenders.filter (fun c => c.type ≠ 0x60 && c.type ≠ 0x63) } }
  let n := n.updIna (fun i => { i with
    plan := none, dirNew := [], schNew := [], dirSum := none, recs := [], genMisRun := 0, splitTrig := false, everCommitted := true, heardCand := false })
  let n := n.wr INA_STATUS.INAUG 0
  let n := if p.kind = 2 then (n.inaGo 7).wr INA_STATUS.MPHASE 4 else ((n.inaGo 6).wr INA_STATUS.MPHASE 0).modesFor p.dir r
  let n := p.drops.foldl Node.dropReport n
  let n := n.remapPeers
  let n := n.sigRebase oldDir first
  let n := n.audCommit
  let n := n.declarePubs
  let n := n.count INA_CNT_COMMITS.VALUE
  let n := if p.kind = 0 then n.count INA_CNT_COLD.VALUE else n
  let n := n.raise INA_EVT.COMMIT
  if p.kind = 0 && r.lead then n.trainLead else n

/-- At cycle M a prepared node commits (R162, R171). -/
def Node.commitDue (n : Node) : Node :=
  match n.ina.plan with
  | none => n
  | some p =>
    if !p.ready || n.cycle ≠ p.m then n
    else match p.dir.find? (fun r => r.uid = n.uid && !r.reserved) with
      | some r => n.commitNow p r
      | none => n

/-- INAUGURATION_COMMIT: at cycle M the node commits windows, key, ID, numbers and re-bases (R171). -/
def execInaugurationCommit (s : State) : Host.Outcome State Fault Refusal := s.onNode (·.commitDue)

/-! ### Uncoupling (R150, R189 to R191) -/

/-- The directory neighbour on a side: towards the front or the rear, by chain order and orientation. -/
def Node.neighbour (n : Node) (rear : Bool) : Option DirRec :=
  match n.dirByUid n.uid with
  | none => none
  | some r =>
    let up := rear != r.reversed
    let live := sortBy (fun a b => a.chain ≤ b.chain) (n.dir.filter (!·.reserved))
    if up then live.find? (fun q => r.chain < q.chain) else (live.filter (fun q => q.chain < r.chain)).getLast?

/-- A node becomes an end node on the side where its neighbour has been absent from 3 roll-calls, once a trigger has occurred (R189). -/
def Node.splitCheck (n : Node) : Node :=
  if !n.ina.splitTrig || !n.committed then n
  else [false, true].foldl (fun n rear => match n.neighbour rear with
    | some q =>
      if 3 ≤ Tab.get (fun _ => 0) n.bar.rcMiss q.num && n.ina.outward ≠ some (if rear then 2 else 0) then
        (((n.makeEnd rear).count INA_CNT_SPLITS.VALUE).raise INA_EVT.SPLIT)
      else n
    | none => n) n

/-- An uncoupling trigger (R150). -/
def Node.uncouple (n : Node) : Node := ((n.updIna (fun i => { i with splitTrig := true })).inaTrigger).splitCheck

/-- A part without its lead takes its successor: present in the last roll-call, highest directory priority, lower UID (R190). -/
def Node.successor (n : Node) : Node :=
  let cand := n.dir.filter (fun r => !r.reserved && (r.uid = n.uid || n.rcPresent r.num) && r.num ≠ n.bar.leadNum)
  match cand.foldl (fun (best : Option DirRec) r => match best with
    | some b => if stronger r.prio r.uid b.prio b.uid then some r else some b
    | none => some r) none with
  | none => n
  | some r =>
    let me := r.uid = n.uid
    let n := { n with bar := { n.bar with leadUid := r.uid, leadNum := r.num } }
    let n := (n.wrB INA_STATUS.LEAD me).wrB BAR_STATUS.LEAD me
    let n := if me && 3 ≤ n.grd.otherQuiet then n.wr GRD_STATUS.LEAD 1 else n
    n.raise INA_EVT.SUCCESSOR

/-- The directory of a renumbering commit (R191): present nodes and the reservations of their cars, numbered and placed along the old
chain. -/
def Node.renumbered (n : Node) : List DirRec :=
  let here := sortBy (fun a b => a.chain ≤ b.chain) (n.dir.filter (fun r => !r.reserved && (r.uid = n.uid || n.rcPresent r.num)))
  let cars := (here.map (·.car)).eraseDups
  let carOf := fun (c : Nat) => (cars.idxOf c) + 1
  let last := here.length
  let live := (upTo last).filterMap (fun i => (here[i]?).map (fun r =>
    { r with num := i + 1, car := carOf r.car, chain := i + 1, endNode := i = 0 || i + 1 = last, lead := r.uid = n.uid }))
  let kept := n.dir.filter (fun r => cars.contains r.car && (r.reserved || !here.any (·.uid = r.uid)))
  live ++ (upTo kept.length).filterMap (fun i => (kept[i]?).map (fun r =>
    { r with num := last + i + 1, car := carOf r.car, reserved := true, endNode := false, lead := false }))

/-- The part's lead makes a renumbering commit (R191, R153). -/
def Node.renumber (n : Node) : Node :=
  if !n.isLead || !n.committed || n.ina.plan.isSome then n
  else
    let (id, n) := n.newCompId
    let (nonce, n) := n.entropy64
    let dir := n.renumbered
    n.leadCommit 3 (n.cycle + 24) (n.cycle + 24) id nonce ((n.rd INA_GEN.VALUE + 1) % 65536) dir dir

/-- RENUMBER_COMMIT_START: after an uncoupling trigger the part's lead makes a renumbering commit (R191). -/
def execRenumberCommitStart (s : State) : Host.Outcome State Fault Refusal :=
  s.onNode (fun n => if n.ina.splitTrig then n.renumber else n)

/-- INA_CMD_RENUMBER: on the lead, a renumbering commit (R194). -/
def execInaCmdRenumber (_by : Initiator) (s : State) : Host.Outcome State Fault Refusal := s.onNode (·.renumber)

end Sys2Proof.Machine
end

