-- ==== Sys2Proof/Machine/Inaug.lean ====
section
/-! DEFINITION. Cold inauguration, admission and the directory units (04_inauguration.md R150 to R176, R188, R193, R194). -/

namespace Sys2Proof.Machine

/-! ### LISTEN, WAIT and WALKING (R154 to R157) -/

/-- INA leaves OFF (R150, R653). -/
def Node.inaStart (n : Node) : Node :=
  if n.inaState = 0 && n.keySealed && n.rd PAIR_STATUS.STATE ≠ 1 then (n.enterListen).raise INA_EVT.TRIG else n

/-- INA_CTRL.EN set: LISTEN, held while PAIR negotiates and while no fleet key is sealed (R150, R653, R657). -/
def Node.inaEnable (n : Node) : Node := (n.wr INA_CTRL.EN 1).inaStart

/-- INA_CTRL.EN cleared: OFF (R193). -/
def Node.inaDisable (n : Node) : Node :=
  let n := ((n.wr INA_CTRL.EN 0).walkReset.bothLines .off).inaGo 0
  let n := n.updIna (fun i => { i with outward := none, junction := none, merge := none, outFrames := [], splitTrig := false })
  let n := ((n.wr INA_STATUS.LEAD 0).wr BAR_STATUS.LEAD 0).wr GRD_STATUS.LEAD 0
  let n := ((n.wr INA_STATUS.END 0).wr INA_STATUS.DEPUTY 0).wr INA_STATUS.MPHASE 0
  n.wrB INA_STATUS.INAUG (!n.ina.everCommitted)

/-- The node's own record as walking lead: number 1, car 1 (R158, R165). -/
def Node.ownRec (n : Node) (rear : Bool) : DirRec :=
  { num := 1, car := 1, chain := 1, sideB := n.sideB, role := n.pairRole, reversed := rear, endNode := true, lead := true, reserved := false
    delay := 0, prio := n.effPrio, cls := n.rd INA_CLASS.CLASS, uid := n.uid }

/-- The attachments that hold one termination (R156). -/
def Node.ends (n : Node) : List Nat := (upTo 4).filter (fun a => n.rd (LINE_STATUS.ZSENSE a) = 1)

/-- A candidate begins its walk (R156 to R158). -/
def Node.startWalk (n : Node) : Node :=
  let rear := !(n.ends.any (· < 2))
  let only := n.ends.any (fun a => n.ends.contains (otherAtt a))
  let n := if only then ((n.bothLines .only).wr INA_STATUS.END 1).updIna (fun i => { i with outward := some 2 }) else n.makeEnd rear
  let n := (n.inaGo 3).wr INA_STATUS.LEAD 1
  let n := n.updIna (fun i => { i with
    recs := [n.ownRec (if only then false else rear)], partners := [(n.uid, n.peerUid)], cars := 1, calling := 2, attempt := 1, callDue := true
    walkEnded := false, dirSent := 0, answers := [], dirNew := [], plan := none, walkUid := n.uid, walkPrio := n.effPrio })
  n.guardAlign (n.rd GRD_CYCLE.VALUE) 0 true

/-- A node in WAIT that holds one termination and follows no stronger candidate walks (R154, R156). -/
def Node.walkCheck (n : Node) : Node :=
  if n.inaState = 2 && n.ina.walkUid = 0 && n.ends ≠ [] then n.startWalk else n

/-- INA enters WAIT: relays open, both attachments terminated (R44, R154, R161). -/
def Node.enterWait (n : Node) (uid prio : Nat) : Node :=
  let n := ((n.walkReset.bothLines .unnumbered).inaGo 2).updIna (fun i => { i with walkUid := uid, walkPrio := prio, outward := none })
  (((n.wr INA_STATUS.LEAD 0).wr INA_STATUS.END 0).wr GRD_STATUS.LEAD 0).walkCheck

/-- LISTEN ends without any valid frame (R154). -/
def Node.listenEnd (n : Node) : Node := if n.inaState = 1 && !n.ina.heardCand then n.enterWait 0 0 else n

/-- ADMIT: the node asks the lead for admission by JOIN, or by HELLO when it holds the composition (R154, R164, R175). -/
def Node.askContention (n : Node) (type : Nat) (body : List Byte) : Node :=
  if n.bar.contenders.any (·.type = type) then n
  else { n with bar := { n.bar with contenders := n.bar.contenders ++ [⟨type, body, 0, none, 0, 0, 0⟩] } }

/-- The type-specific bytes of JOIN (R164). -/
def Node.joinBody (n : Node) : List Byte :=
  leBytes 8 n.peerUid ++ leBytes 1 (n.pairRole + 4 * b2n n.sideB) ++ leBytes 2 (n.rd INA_CLASS.CLASS)

/-- LISTEN hears a valid beacon of a composition of the fleet (R154). -/
def Node.listenHears (n : Node) (id : Nat) : Node :=
  if n.inaState ≠ 1 then n
  else
    let n := n.inaGo 5
    if n.ina.everCommitted && id = n.compId && n.nodeNum ≠ 0 then n.askContention 0x63 (leBytes 2 (n.rd INA_GEN.VALUE))
    else n.askContention 0x60 n.joinBody

/-- ZSENSE of an attachment changes after 3 cycles of the new class (R46, R150): a train-side change is an uncoupling trigger, an outward
one that leaves two terminations abandons a merge that is not decided. -/
def Node.zsense (n : Node) (att cls : Nat) : Node :=
  let was := n.rd (LINE_STATUS.ZSENSE att)
  let n := n.wr (LINE_STATUS.ZSENSE att) cls
  let out := n.ina.outward = some (att / 2 * 2)
  if n.inaState = 2 then n.walkCheck
  else if n.committed && was ≠ cls then
    if !out then n.uncouple
    else if was = 2 && n.ina.merge.isNone then
      let n := n.updIna (fun i => { i with junction := none, outFrames := [] })
      let n := n.wr INA_STATUS.MPHASE 0
      if n.inaState = 7 then n.inaGo 6 else n
    else n
  else n

/-! ### The walk (R157 to R163) -/

/-- A cold frame: composition ID 0, the join key, the walk's cycle number. -/
def Node.coldFrame (n : Node) (type : Nat) (spec : List Byte) : List Byte :=
  n.contBytes n.joinKey n.effPrio type 1 0 (n.rd GRD_CYCLE.VALUE) spec

/-- After the walk: the directory with reservations, as the lead broadcasts it (R160, R162, R166). -/
def Node.endWalk (n : Node) : Node :=
  let last := n.ina.recs.length
  let recs := n.ina.recs.map (fun r => if r.num = last then { r with endNode := true } else r)
  n.updIna (fun i => { i with walkEnded := true, calling := 0, callDue := false, recs := recs, dirNew := reservePartners recs i.partners })

/-- The lead fixes the commit of the walk, M 8 cycles on (R153, R162). -/
def Node.walkPlan (n : Node) (c : Nat) : Node :=
  let dir := n.ina.dirNew
  let s := n.schFor 0 dir
  if anyConflict s.1 then n.schRefuse.enterListen
  else
    let (id, n) := n.newCompId
    let (nonce, n) := n.entropy64
    n.prepare ⟨c + 8, c + 8, id, nonce, 1, 0, dir.length, carCount dir, schCrc s.1, true, false, dir, s.1, s.2⟩

/-- One cycle of the walking lead: CAND in cell 0, then CALL, END, three DIRREC or CCOMMIT (R157, R158, R160, R162). -/
def Node.walkCycle (n : Node) : Node :=
  if n.inaState ≠ 3 then n
  else
    let c := n.rd GRD_CYCLE.VALUE
    let n := n.guardAlign c 0 true
    let all := n.ina.walkEnded && n.ina.dirNew.length ≤ n.ina.dirSent
    let n := if all && n.ina.plan.isNone then n.walkPlan c else n
    let i := n.ina
    let flags := b2n (i.walkEnded && i.plan.isNone) + 2 * b2n i.plan.isSome
    let n := n.emitCont 0 (n.coldFrame 0x64 (leBytes 1 i.calling ++ leBytes 1 i.cars ++ leBytes 1 flags))
    let n :=
      match i.plan with
      | some p => n.emitCont 1 (n.coldFrame 0x69 (leBytes 4 p.m ++ leBytes 4 p.newId ++ leBytes 8 p.nonce ++ leBytes 4 p.crc ++ leBytes 1 p.total
          ++ leBytes 1 p.cars))
      | none =>
        if i.walkEnded then
          let three := (i.dirNew.drop i.dirSent).take 3
          let n := (upTo three.length).foldl (fun (n : Node) (k : Nat) => match three[k]? with
            | some r => n.emitCont (k + 1) (n.coldFrame 0x68 (dirBytes r))
            | none => n) n
          n.updIna (fun i => { i with dirSent := i.dirSent + three.length })
        else if i.calling = 0 then
          (n.emitCont 1 (n.coldFrame 0x67 (leBytes 1 i.recs.length))).endWalk
        else if i.callDue then
          (n.emitCont 1 (n.coldFrame 0x65 (leBytes 1 i.calling ++ leBytes 1 i.attempt))).updIna (fun i => { i with callDue := false })
        else n
    let n := n.guardCycle
    (n.wr BAR_CYCLE.VALUE (n.rd GRD_CYCLE.VALUE)).updIna (fun i => { i with walkCycle := i.walkCycle + 1 })

/-- The priority and sender of a contention frame. -/
def contUid (b : List Byte) : Nat := le b 2 8

/-- Byte 20 of a contention frame: the sender's priority. -/
def contPrio (b : List Byte) : Nat := le b 20 1

/-- CAND received (R154, R157, R161): the strongest lead heard is followed, its CAND is the guardian's beacon. -/
def Node.candRx (n : Node) (f : ContRx) : Node :=
  let uid := contUid f.bytes
  let prio := contPrio f.bytes
  let st := n.inaState
  let follow := fun (n : Node) =>
    let n := (n.guardAlign (le f.bytes 14 4) f.comb false).guardCycle
    (n.wr BAR_CYCLE.VALUE (n.rd GRD_CYCLE.VALUE)).updIna (fun i => { i with missRun := 0 })
  if st = 1 then n.updIna (fun i => { i with heardCand := true })
  else if st = 2 then
    if n.ina.walkUid = uid then follow n
    else if n.ina.walkUid = 0 || stronger prio uid n.ina.walkPrio n.ina.walkUid then
      follow (n.updIna (fun i => { i with walkUid := uid, walkPrio := prio, answers := [] }))
    else n
  else if st = 3 || st = 4 then
    if st = 4 && n.ina.walkUid = uid then follow n
    else if stronger prio uid n.ina.walkPrio n.ina.walkUid then follow (n.enterWait uid prio)
    else n
  else n

/-- ANSWER for the number taken, in cell 2 of the next cycle (R158, R164). -/
def Node.sendAnswer (n : Node) : Node :=
  let i := n.ina
  n.emitCont 2 (n.coldFrame 0x66 (leBytes 1 i.taken ++ leBytes 1 (b2n (decide (2 ≤ i.heardAt)) + 2 * n.pairRole + 8 * b2n n.sideB)
    ++ leBytes 8 n.peerUid ++ leBytes 2 (n.rd INA_CLASS.CLASS)))

/-- CALL received by an unnumbered node, or a repeat by the node it named (R154, R158, R161). -/
def Node.callRx (n : Node) (f : ContRx) : Node :=
  let uid := contUid f.bytes
  let num := le f.bytes 22 1
  let st := n.inaState
  if st = 2 && (n.ina.walkUid = 0 || n.ina.walkUid = uid) && !n.ina.answers.contains num && num ≠ 0 then
    let n := (n.bothLines .middle).inaGo 4
    (n.updIna (fun i => { i with walkUid := uid, walkPrio := contPrio f.bytes, taken := num, heardAt := f.att, answerDue := true })).sendAnswer
  else if st = 4 && n.ina.walkUid = uid && n.ina.taken = num then n.sendAnswer
  else n

/-- The walk ends at a limit (R160). -/
def Node.walkLimit (n : Node) : Node :=
  ((n.wr INA_STATUS.LIMIT 1).raise INA_EVT.LIMIT).updIna (fun i => { i with calling := 0, callDue := false })

/-- d of a frame whose comb lies `comb` ns after the boundary: half of it, in 4 ns units (R159, R165). -/
def delayOf (comb : Int) : Nat := min 4095 (comb.toNat / 8)

/-- ANSWER received: the walking lead numbers the node (R158 to R160); another node learns that the number is taken. -/
def Node.answerRx (n : Node) (f : ContRx) : Node :=
  let num := le f.bytes 22 1
  let flags := le f.bytes 23 1
  let uid := contUid f.bytes
  let partner := le f.bytes 24 8
  if n.inaState = 3 then
    if n.ina.walkEnded || num ≠ n.ina.calling || n.ina.recs.any (·.num = num) then n
    else
      let mate := if partner = 0 then none else n.ina.recs.find? (·.uid = partner)
      if mate.isNone && n.ina.cars = 64 then n.walkLimit
      else
        let car := match mate with
          | some m => m.car
          | none => n.ina.cars + 1
        let r : DirRec := { num := num, car := car, chain := num, sideB := bit flags 3, role := bits flags 1 2, reversed := bit flags 0
                            endNode := false, lead := false, reserved := false, delay := delayOf f.comb, prio := contPrio f.bytes
                            cls := le f.bytes 32 2, uid := uid }
        let n := n.updIna (fun i => { i with recs := i.recs ++ [r], partners := i.partners ++ [(uid, partner)], cars := max i.cars car })
        if num = 128 then n.walkLimit
        else n.updIna (fun i => { i with calling := num + 1, attempt := 1, callDue := true })
  else n.updIna (fun i => { i with answers := i.answers ++ [num] })

/-- A missing ANSWER: CALL again, and END after three (R158, R160). -/
def Node.callTimeout (n : Node) : Node :=
  if n.inaState ≠ 3 || n.ina.walkEnded || n.ina.calling = 0 || n.ina.callDue then n
  else if n.ina.attempt < 3 then n.updIna (fun i => { i with attempt := i.attempt + 1, callDue := true })
  else n.updIna (fun i => { i with calling := 0 })

/-- END received by the node it names: an end node, its train side where it heard its call (R160). -/
def Node.endRx (n : Node) (f : ContRx) : Node :=
  if n.inaState = 4 && n.ina.walkUid = contUid f.bytes && n.ina.taken = le f.bytes 22 1 then n.makeEnd (decide (n.ina.heardAt < 2)) else n

/-- 8 cycles without the lead's CAND (R154). -/
def Node.candLoss (n : Node) : Node := if n.inaState = 4 || (n.inaState = 2 && n.ina.walkUid ≠ 0) then n.enterWait 0 0 else n

/-- DIRREC received (R162). -/
def Node.dirrecRx (n : Node) (f : ContRx) : Node :=
  if n.inaState = 4 && n.ina.walkUid = contUid f.bytes then
    let r := dirOf (slice f.bytes 22 16)
    n.updIna (fun i => { i with dirNew := i.dirNew.filter (·.num ≠ r.num) ++ [r] })
  else n

/-- CCOMMIT received (R162, R168, R169): a node that holds every record computes SCH and arms its guardian when the CRC agrees. -/
def Node.ccommitRx (n : Node) (f : ContRx) : Node :=
  let b := f.bytes
  if n.inaState ≠ 4 || n.ina.walkUid ≠ contUid b || n.ina.plan.isSome then n
  else
    let dir := n.ina.dirNew
    if !dir.any (·.uid = n.uid) then n.enterListen
    else if dir.length ≠ le b 42 1 then n
    else
      let s := n.schFor 0 dir
      if anyConflict s.1 || schCrc s.1 ≠ le b 38 4 then n.schRefuse.enterListen
      else n.prepare ⟨le b 22 4, le b 22 4, le b 26 4, le b 30 8, 1, 0, le b 42 1, le b 43 1, le b 38 4, true, false, dir, s.1, s.2⟩

/-! ### Commands of a running composition (R170, R183, R184, R188) -/

/-- COMMIT: a commit is announced (R170). -/
def Node.commitCmd (n : Node) (a : List Byte) : Node :=
  let m := le a 0 4
  let kind := le a 10 1
  if n.isLead && n.ina.plan.isSome then n
  else
    let p : CommitPlan := ⟨m, m, le a 4 4, 0, le a 8 2, kind, le a 11 1, le a 12 1, 0, false, false, [], [], []⟩
    let n := n.inaugBegin
    let n := if kind = 2 && n.inaState = 6 then n.inaGo 7 else n
    (n.updIna (fun i => { i with plan := some p })).tryPrepare

/-- COMMIT_KEY: the new nonce and the number that M takes (R188). -/
def Node.commitKeyCmd (n : Node) (a : List Byte) : Node :=
  match n.ina.plan with
  | some p => if p.keyed then n else (n.updIna (fun i => { i with plan := some { p with nonce := le a 0 8, takes := le a 8 4, keyed := true } })).tryPrepare
  | none => n

/-- The merge that commands speak of. -/
def MergeRun.empty : MergeRun := ⟨false, 0, 0, 0, 0, 0, 0, false, 0, 0, 0, 0, 0, false, false⟩

/-- STRETCH: the cycle before M lasts L CLK_LINE samples (R183). -/
def Node.stretchCmd (n : Node) (a : List Byte) : Node :=
  let l := le a 4 4
  if l < 125000 || 375000 < l then n
  else
    let g := n.ina.merge.getD MergeRun.empty
    let n := n.updIna (fun i => { i with merge := some { g with stretchCycle := le a 0 4, stretchLen := l } })
    match n.grd.stage with
    | some st => { n with grd := { n.grd with stage := some { st with stretch := 4 * l } } }
    | none => n

/-- RELAY: the closure cycles and the junction nodes (R184). -/
def Node.relayCmd (n : Node) (a : List Byte) : Node :=
  let g := n.ina.merge.getD MergeRun.empty
  n.updIna (fun i => { i with merge := some { g with zA := le a 0 4, zB := le a 4 4, juncNode1 := le a 8 1, juncNode2 := le a 9 1 } })

/-- COLD: the cycle from which every node enters LISTEN (R188). -/
def Node.coldCmd (n : Node) (a : List Byte) : Node := (n.updIna (fun i => { i with coldAt := some (le a 0 4) })).inaTrigger

/-- The COLD command takes effect (R154). -/
def Node.coldNow (n : Node) : Node :=
  match n.ina.coldAt with
  | some c => if c ≤ n.cycle then (n.updIna (fun i => { i with coldAt := none })).enterListen else n
  | none => n

/-- INA_CMD.COLD on the lead (R194). -/
def Node.coldSend (n : Node) : Node :=
  if n.isLead && n.committed then
    (n.leadCmd ([0x14] ++ leBytes 4 (n.cycle + 16))).coldCmd (leBytes 4 (n.cycle + 16))
  else n

/-! ### Admission (R166, R175) -/

/-- CONT_ANSWER (R103, R124). -/
def Node.answerCont (n : Node) (result cyc uid : Nat) : Node := n.leadCmd ([0x01] ++ leBytes 1 result ++ leBytes 4 cyc ++ leBytes 8 uid)

/-- The lowest free number. -/
def freeNum (dir : List DirRec) : Option Nat := ((upTo 129).filter (fun k => k ≠ 0 && !dir.any (·.num = k))).head?

/-- A directory with a node admitted (R166): its reserved or held number, else the lowest free one; its partner's car, a given car, or the
one its delay places it at, the cars beyond moving up. None at a limit. -/
def admitTo (dir : List DirRec) (r : DirRec) (partner car : Nat) : Option (List DirRec) :=
  match dir.find? (·.uid = r.uid) with
  | some q =>
    some (dir.map (fun x => if x.uid = r.uid then
      { x with reserved := false, sideB := r.sideB, role := r.role, delay := if q.lead then 0 else r.delay, prio := r.prio, cls := r.cls } else x))
  | none =>
    match freeNum dir with
    | none => none
    | some k =>
      let mate := if partner = 0 then none else dir.find? (·.uid = partner)
      match mate, car with
      | some m, _ =>
        some (dir.map (fun x => if m.chain < x.chain then { x with chain := x.chain + 1 } else x) ++ [{ r with num := k, car := m.car, chain := m.chain + 1 }])
      | none, c =>
        let near := dir.filter (fun x => x.delay < r.delay)
        let ch := (near.map (·.chain)).foldl max 0
        let pos := if c ≠ 0 then c else (near.map (·.car)).foldl max 0 + 1
        let fresh := c = 0 || !dir.any (·.car = c)
        if fresh && 64 ≤ carCount dir then none
        else
          let moved := dir.map (fun x =>
            let x := if ch < x.chain then { x with chain := x.chain + 1 } else x
            if c = 0 && pos ≤ x.car then { x with car := x.car + 1 } else x)
          some (moved ++ [{ r with num := k, car := pos, chain := ch + 1 }])

/-- End nodes of a directory by chain order. -/
def markEnds (dir : List DirRec) : List DirRec :=
  let live := (dir.filter (!·.reserved)).map (·.chain)
  let lo := live.foldl min 255
  let hi := live.foldl max 0
  dir.map (fun r => { r with endNode := !r.reserved && (r.chain = lo || r.chain = hi) })

/-- The lead's admission commit over a changed directory (R175): ID and nonce stay. -/
def Node.admission (n : Node) (dir : List DirRec) : Node :=
  let dir := markEnds dir
  let changed := dir.filter (fun r => !n.dir.contains r)
  n.leadCommit 1 (n.cycle + 24) (n.cycle + 24) n.compId n.nonce ((n.rd INA_GEN.VALUE + 1) % 65536) dir changed

/-- Does the governing beacon open a kind (R100 byte 35)? -/
def Node.opens (n : Node) (k : Nat) : Bool := bit n.bar.contOpen k

/-- A contention frame answered by the lead: result 2 for a kind that was not open (R124). -/
def Node.leadTakes (n : Node) (f : ContRx) (kind : Nat) (act : Node → Node) : Node :=
  if !n.isLead || !n.committed then n
  else
    let uid := contUid f.bytes
    if !n.opens kind || n.ina.plan.isSome then n.answerCont 2 (le f.bytes 14 4) uid
    else act n

/-- JOIN received (R175): accepted by an admission commit, refused at a limit. -/
def Node.joinRx (n : Node) (f : ContRx) : Node :=
  n.leadTakes f 0 (fun n =>
    let uid := contUid f.bytes
    let flags := le f.bytes 30 1
    let (rev, n) := n.freeUpTo 1
    let r : DirRec := { num := 0, car := 0, chain := 0, sideB := bit flags 2, role := bits flags 0 2, reversed := rev = 1, endNode := false
                        lead := false, reserved := false, delay := delayOf f.comb, prio := contPrio f.bytes, cls := le f.bytes 31 2, uid := uid }
    match admitTo n.dir r (le f.bytes 22 8) 0 with
    | some dir => ((n.count BAR_CNT_CONTOK.VALUE).answerCont 0 (le f.bytes 14 4) uid).admission dir
    | none => (((n.wr INA_STATUS.LIMIT 1).raise INA_EVT.LIMIT).answerCont 1 (le f.bytes 14 4) uid))

/-- HELLO received (R175): the node's record is renewed. -/
def Node.helloRx (n : Node) (f : ContRx) : Node :=
  n.leadTakes f 3 (fun n =>
    let uid := contUid f.bytes
    if n.dir.any (fun r => r.uid = uid) then
      let dir := n.dir.map (fun r => if r.uid = uid then { r with prio := contPrio f.bytes, reserved := false } else r)
      ((n.count BAR_CNT_CONTOK.VALUE).answerCont 0 (le f.bytes 14 4) uid).admission dir
    else n.answerCont 1 (le f.bytes 14 4) uid)

/-! ### Directory units (R173, R176) -/

/-- Is a unit from the composition's lead? -/
def Node.fromLead (n : Node) (node : Nat) : Bool := node = n.bar.leadNum

/-- DIR_NODE received (R176). -/
def Node.dirNodeRx (n : Node) (u : UnitRx) : Node :=
  let k := le u.body 1 1
  if k = 0 || 31 < k || u.body.length ≠ 4 + 16 * k || !n.fromLead u.node then n
  else
    let recs := (groups 16 k (u.body.drop 4)).map dirOf
    (recs.foldl (fun n r => n.updIna (fun i => { i with dirNew := i.dirNew.filter (·.num ≠ r.num) ++ [r] })) n).tryPrepare

/-- DIR_SCH received: explicit entries to commit from (R169, R176). -/
def Node.dirSchRx (n : Node) (u : UnitRx) : Node :=
  let k := le u.body 1 1
  let first := le u.body 2 2
  if k = 0 || u.body.length ≠ 4 + 16 * k || !n.fromLead u.node then n
  else
    let es := (groups 16 k (u.body.drop 4)).map (fun b => (⟨le b 0 4, le b 4 4, le b 8 4, le b 12 4⟩ : SchEnt))
    let put := (upTo k).filterMap (fun j => (es[j]?).map (fun e => (first + j, e)))
    (n.updIna (fun i => { i with schNew := i.schNew.filter (fun x => !put.any (·.1 = x.1)) ++ put })).tryPrepare

/-- DIR_SUM received (R176). -/
def Node.dirSumRx (n : Node) (u : UnitRx) : Node :=
  if u.body.length ≠ 20 || !n.fromLead u.node then n
  else (n.updIna (fun i => { i with dirSum := some (le u.body 4 2, le u.body 6 4, le u.body 10 4, le u.body 14 4) })).tryPrepare

/-- PUB_DECL received: the lead lists the publisher and answers with its list (R173, R174). -/
def Node.pubDeclRx (n : Node) (u : UnitRx) : Node :=
  if !n.isLead then n
  else ((pubRecords u.body).foldl (fun n r => n.leadPub u.node r.1 r.2.1 r.2.2.1) n).sendDirPub

/-- STREAM_DECL received (R173, R283). -/
def Node.streamDeclRx (n : Node) (u : UnitRx) : Node :=
  if !n.isLead then n
  else ((streamRecords u.body).foldl (fun n r => n.leadStream u.node r.1 r.2.1) n).sendDirStream

/-- DIR_PUB received (R173, R174). -/
def Node.dirPubRx (n : Node) (u : UnitRx) : Node :=
  if !n.fromLead u.node then n
  else (pubRecords u.body).foldl (fun n r => n.takePub r.1 r.2.1 r.2.2.1 r.2.2.2.1 r.2.2.2.2) n

/-- DIR_STREAM received (R173, R283). -/
def Node.dirStreamRx (n : Node) (u : UnitRx) : Node :=
  if !n.fromLead u.node then n
  else (streamRecords u.body).foldl (fun n r => n.takeStream r.1 r.2.1 r.2.2.1 r.2.2.2) n

/-! ### The commands -/

/-- ZSENSE_CHANGE: an attachment's impedance class has held for 3 cycles (R46, R150). -/
def execZsenseChange (att : Fin 4) (cls : BitVec 2) (s : State) : Host.Outcome State Fault Refusal := s.onNode (·.zsense att cls.toNat)

/-- INA_ENABLE: INA_CTRL.EN set starts LISTEN (R150). -/
def execInaEnable (_by : Initiator) (s : State) : Host.Outcome State Fault Refusal := s.onNode (·.inaEnable)

/-- INA_DISABLE: INA_CTRL.EN cleared returns INA to OFF (R193). -/
def execInaDisable (_by : Initiator) (s : State) : Host.Outcome State Fault Refusal := s.onNode (·.inaDisable)

/-- LISTEN_TIMEOUT: INA_CTRL.LISTEN cycles without a valid frame (R154). -/
def execListenTimeout (s : State) : Host.Outcome State Fault Refusal := s.onNode (·.listenEnd)

/-- CAND_SEND: one cycle of the walking lead (R157). -/
def execCandSend (s : State) : Host.Outcome State Fault Refusal := s.onNode (·.walkCycle)

/-- CAND: a candidate's CAND is decoded (R161). -/
def execCand (f : ContRx) (s : State) : Host.Outcome State Fault Refusal := s.onNode (fun n => n.onCont f 0x64 (fun n => n.candRx f))

/-- CALL_FRAME: an unnumbered node decodes CALL(n) (R158). -/
def execCallFrame (f : ContRx) (s : State) : Host.Outcome State Fault Refusal := s.onNode (fun n => n.onCont f 0x65 (fun n => n.callRx f))

/-- ANSWER: the walking lead receives ANSWER (R158, R159). -/
def execAnswer (f : ContRx) (s : State) : Host.Outcome State Fault Refusal := s.onNode (fun n => n.onCont f 0x66 (fun n => n.answerRx f))

/-- CALL_TIMEOUT: no ANSWER came (R158). -/
def execCallTimeout (s : State) : Host.Outcome State Fault Refusal := s.onNode (·.callTimeout)

/-- END: the last numbered node becomes an end node (R160). -/
def execEndFrame (f : ContRx) (s : State) : Host.Outcome State Fault Refusal := s.onNode (fun n => n.onCont f 0x67 (fun n => n.endRx f))

/-- LEAD_CAND_LOSS: 8 cycles without the lead's CAND (R154). -/
def execLeadCandLoss (s : State) : Host.Outcome State Fault Refusal := s.onNode (·.candLoss)

/-- DIRREC: a directory record of the walk (R162). -/
def execDirrec (f : ContRx) (s : State) : Host.Outcome State Fault Refusal := s.onNode (fun n => n.onCont f 0x68 (fun n => n.dirrecRx f))

/-- CCOMMIT: the walk's commit (R162). -/
def execCcommit (f : ContRx) (s : State) : Host.Outcome State Fault Refusal := s.onNode (fun n => n.onCont f 0x69 (fun n => n.ccommitRx f))

/-- COMMIT: the beacon command that announces a commit (R170, R188). -/
def execCommit (args : List Byte) (s : State) : Host.Outcome State Fault Refusal := s.onNode (·.commitCmd args)

/-- COMMIT_KEY: the new nonce and the number of M (R188). -/
def execCommitKey (args : List Byte) (s : State) : Host.Outcome State Fault Refusal := s.onNode (·.commitKeyCmd args)

/-- STRETCH: the joining part's stretched cycle (R183). -/
def execStretch (args : List Byte) (s : State) : Host.Outcome State Fault Refusal := s.onNode (·.stretchCmd args)

/-- RELAY: closure cycles and junction nodes (R184). -/
def execRelay (args : List Byte) (s : State) : Host.Outcome State Fault Refusal := s.onNode (·.relayCmd args)

/-- COLD: the cycle to enter LISTEN (R188). -/
def execCold (args : List Byte) (s : State) : Host.Outcome State Fault Refusal := s.onNode (·.coldCmd args)

/-- COLD_EFFECTIVE: at that cycle every node enters LISTEN (R154). -/
def execColdEffective (s : State) : Host.Outcome State Fault Refusal := s.onNode (·.coldNow)

/-- INA_CMD_COLD: on the lead, COLD 16 cycles ahead (R194). -/
def execInaCmdCold (_by : Initiator) (s : State) : Host.Outcome State Fault Refusal := s.onNode (·.coldSend)

/-- JOIN: the lead accepts a joiner (R175). -/
def execJoin (f : ContRx) (s : State) : Host.Outcome State Fault Refusal := s.onNode (fun n => n.onCont f 0x60 (fun n => n.joinRx f))

/-- HELLO: the lead renews a record (R175). -/
def execHello (f : ContRx) (s : State) : Host.Outcome State Fault Refusal := s.onNode (fun n => n.onCont f 0x63 (fun n => n.helloRx f))

/-- HELLO_SEND: the generation has differed for 16 cycles (R175). -/
def execHelloSend (s : State) : Host.Outcome State Fault Refusal :=
  s.onNode (fun n => if n.inaState = 6 && 16 ≤ n.ina.genMisRun then n.askContention 0x63 (leBytes 2 (n.rd INA_GEN.VALUE)) else n)

/-- PUB_DECL: the lead receives a publication declaration (R173). -/
def execPubDecl (u : UnitRx) (s : State) : Host.Outcome State Fault Refusal := s.onNode (·.pubDeclRx u)

/-- STREAM_DECL: the lead receives a stream declaration (R173). -/
def execStreamDecl (u : UnitRx) (s : State) : Host.Outcome State Fault Refusal := s.onNode (·.streamDeclRx u)

/-- DIR_PUB: the lead's publisher list (R173). -/
def execDirPub (u : UnitRx) (s : State) : Host.Outcome State Fault Refusal := s.onNode (·.dirPubRx u)

/-- DIR_STREAM: the lead's stream list (R283). -/
def execDirStream (u : UnitRx) (s : State) : Host.Outcome State Fault Refusal := s.onNode (·.dirStreamRx u)

/-- DIR_NODE: directory node records (R176). -/
def execDirNode (u : UnitRx) (s : State) : Host.Outcome State Fault Refusal := s.onNode (·.dirNodeRx u)

/-- DIR_SCH: explicit SCH entries (R169). -/
def execDirSch (u : UnitRx) (s : State) : Host.Outcome State Fault Refusal := s.onNode (·.dirSchRx u)

/-- DIR_SUM: the directory summary (R176). -/
def execDirSum (u : UnitRx) (s : State) : Host.Outcome State Fault Refusal := s.onNode (·.dirSumRx u)

end Sys2Proof.Machine
end

