-- ==== Sys2Proof/Machine/Merge.lean ====
section
/-! DEFINITION. Coupling: junction frames, the merge decision, relay closure (04_inauguration.md R164, R177 to R187). -/

namespace Sys2Proof.Machine

/-- The record at an end of a part: the reference end, or the other. -/
def endRec (dir : List DirRec) (ref : Bool) : Option DirRec :=
  let live := sortBy (fun a b => a.chain ≤ b.chain) (dir.filter (!·.reserved))
  if ref then live.head? else live.getLast?

/-- The recorded priority of the lead of the composition in service (R151). -/
def Node.leadPrio (n : Node) : Nat := ((n.dir.find? (·.lead)).map (·.prio)).getD 0

/-- Does this part win (R179)? -/
def Node.winsOver (n : Node) (j : Junction) : Bool := stronger n.leadPrio n.compId j.prio j.id

/-- Is this part unable to merge now: INAUG, MERGE or LULL set, or merging disabled (R179, R193)? -/
def Node.mergeBusy (n : Node) : Bool :=
  n.on INA_STATUS.INAUG || n.on BAR_STATUS.INAUG || n.on BAR_STATUS.MERGE || n.on BAR_STATUS.LULL || !n.on INA_CTRL.MERGE_EN

/-- The JACK result for a junction: 1 limits, 2 template mismatch, 3 busy, 0 accepted (R179). -/
def Node.mergeVerdict (n : Node) (j : Junction) : Nat :=
  if 128 < n.dir.length + j.total || 64 < carCount n.dir + j.cars then 1
  else if j.hash ≠ n.templateHash then 2
  else if j.busy || n.mergeBusy then 3
  else 0

/-- A merge is refused: the reason is reported, relays stay open, and of the junction frames a JACK still goes out (R179). -/
def Node.mergeRefuse (n : Node) (result : Nat) : Node :=
  let n := ((n.wr INA_STATUS.REFUSE result).count INA_CNT_MERGEREF.VALUE).raise INA_EVT.MERGEREF
  let n := n.updIna (fun i => { i with
    merge := none, outFrames := i.outFrames.filter (fun x => x.1 = 0x6D), junction := i.junction.map (fun j => { j with records := [] }) })
  let n := n.wr INA_STATUS.MPHASE 0
  if n.inaState = 7 then n.inaGo 6 else n

/-- A pending or refused merge is abandoned (R150). -/
def Node.mergeAbandon (n : Node) : Node :=
  if 4 ≤ n.rd INA_STATUS.MPHASE then n
  else
    let n := n.updIna (fun i => { i with
      merge := none, junction := none, outFrames := [], plan := i.plan.filter (fun p => p.kind ≠ 2) })
    let n := n.wr INA_STATUS.MPHASE 0
    if n.inaState = 7 then (n.inaGo 6).wrB INA_STATUS.INAUG n.ina.plan.isSome else n

/-- A junction frame for the outward attachment, by JSEND when another node is the junction (R176, R180). -/
def Node.sendJunc (n : Node) (own type : Nat) (spec : List Byte) : Node :=
  let spec := (spec ++ List.replicate 22 0).take 22
  if own = n.nodeNum then n.updIna (fun i => { i with outFrames := i.outFrames ++ [(type, spec)] })
  else n.inaUnit ([0x38, 0, 0, 0] ++ spec ++ leBytes 1 type)

/-! ### The merged directory (R181) -/

/-- Records in order from the merged reference end, turned when `flip`. -/
def orderPart (dir : List DirRec) (flip : Bool) : List DirRec :=
  let up := sortBy (fun a b => a.chain ≤ b.chain) dir
  if flip then up.reverse.map (fun r => { r with reversed := !r.reversed }) else up

/-- The merged directory: the winning part from its far end, then the joining part from the junction on; `wRef`, `jRef`: the junction lies
at that part's reference end; `dw`, `dj` delays of the two junction nodes; `jd` junction delay. -/
def mergedDir (win join : List DirRec) (wRef jRef : Bool) (dw dj jd : Nat) : List DirRec :=
  let w := orderPart win wRef
  let j := (orderPart join (!jRef)).map (fun r => { r with lead := false, car := r.car + 64, delay := min 4095 (dw + jd + ((r.delay : Int) - dj).natAbs) })
  let all := w ++ j
  let cars := (all.map (·.car)).eraseDups
  let live := all.filter (!·.reserved)
  let place := fun (r : DirRec) (k ch : Nat) => { r with num := k + 1, car := cars.idxOf r.car + 1, chain := ch, endNode := !r.reserved && (k = 0 || k + 1 = live.length) }
  let res := all.filter (·.reserved)
  (upTo live.length).filterMap (fun i => (live[i]?).map (fun r => place r i (i + 1)))
    ++ (upTo res.length).filterMap (fun i => (res[i]?).map (fun r => place r (live.length + i) r.chain))

/-- The two measured offsets; the own one, where the lead is not the junction node, reaches it by no path the spec gives (free value). -/
def Node.ownOffset (n : Node) (j : Junction) : Int × Node :=
  match j.mine with
  | some x => (x, n)
  | none => let r := n.freeUpTo 999999; ((r.1 : Int), r.2)

/-- The merged directory as this lead builds it, and the node after it. -/
def Node.buildMerged (n : Node) (j : Junction) : List DirRec × Node :=
  let (mine, n) := n.ownOffset j
  let jd := ((mine + j.other) / 8).toNat
  let own := ((n.dirByNum j.own).map (·.delay)).getD 0
  let ownRef := (endRec n.dir true).map (·.num) = some j.own
  if n.winsOver j then (mergedDir n.dir j.records ownRef j.refEnd own j.delay jd, n)
  else (mergedDir j.records n.dir j.refEnd ownRef j.delay own jd, n)

/-- The numbers of the two junction nodes in a merged directory. -/
def Node.juncNumbers (n : Node) (j : Junction) (dir : List DirRec) : Nat × Nat :=
  let num := fun (u : Option DirRec) => match u with
    | some r => ((dir.find? (·.uid = r.uid)).map (·.num)).getD 0
    | none => 0
  let a := num (n.dirByNum j.own)
  let b := num (endRec j.records j.refEnd)
  (min a b, max a b)

/-! ### The leads (R179 to R183) -/

/-- JDECIDE of a merge (R164). -/
def Node.sendDecide (n : Node) (j : Junction) (g : MergeRun) : Node :=
  n.sendJunc j.own 0x6C (leBytes 4 g.newId ++ leBytes 8 g.nonce ++ leBytes 4 g.m ++ leBytes 4 g.zA ++ leBytes 2 g.gen)

/-- JACK of a result (R164). -/
def Node.sendJack (n : Node) (own id result cyc : Nat) (offset : Int) : Node :=
  n.sendJunc own 0x6D (leBytes 4 id ++ leBytes 1 result ++ leBytes 4 cyc ++ leBytes 4 (toWord offset).toNat)

/-- The winning lead, once it holds the joining part's list, decides (R181) or refuses (R179). -/
def Node.tryDecide (n : Node) : Node :=
  match n.ina.junction with
  | none => n
  | some j =>
    if !n.isLead || !n.winsOver j || n.ina.merge.isSome || j.total = 0 || j.records.length ≠ j.total then n
    else
      let v := n.mergeVerdict j
      if v ≠ 0 then (n.sendJack j.own 0 v 0 0).mergeRefuse v
      else
        let (id, n) := n.newCompId
        let (nonce, n) := n.entropy64
        let m := n.cycle + 32
        let g : MergeRun := { MergeRun.empty with wins := true, newId := id, nonce := nonce, m := m, zA := m + 16, zB := m + 32,
                                                  gen := (n.rd INA_GEN.VALUE + 1) % 65536, sentAt := n.cycle }
        ((n.updIna (fun i => { i with merge := some g })).wr INA_STATUS.MPHASE 3).sendDecide j g

/-- RELAY for the lead's beacons (R184, R188). -/
def Node.relaySend (n : Node) (g : MergeRun) : Node :=
  n.leadCmd ([0x13] ++ leBytes 4 g.zA ++ leBytes 4 g.zB ++ leBytes 1 g.juncNode1 ++ leBytes 1 g.juncNode2)

/-- δ and L in ns from the two offsets (R183). -/
def stretchOf (mine other : Int) : Nat × Nat :=
  let d := (((mine - other) / 2) % 1000000).toNat
  (d, if d < 500000 then 1000000 + d else d)

/-- JDECIDE at the joining lead (R179, R181, R183): JACK, and the commit in the joining part's numbering. -/
def Node.decideRx (n : Node) (b : List Byte) : Node :=
  match n.ina.junction with
  | none => n
  | some j =>
    if n.winsOver j then n
    else
      let v := n.mergeVerdict { j with busy := false }
      let id := le b 22 4
      let (mine, n) := n.ownOffset j
      let (d, l) := stretchOf mine j.other
      let m := (n.cycle + le b 34 4 + 4294967296 - le b 14 4 - (if 40000 ≤ d && d < 500000 then 1 else 0)) % 4294967296
      if v ≠ 0 then (n.sendJack j.own id v 0 mine).mergeRefuse v
      else if j.records.length ≠ j.total || n.ina.merge.isSome then n
      else
        let (dir, n) := n.buildMerged j
        let nums := n.juncNumbers j dir
        let g : MergeRun := { MergeRun.empty with newId := id, nonce := le b 26 8, m := le b 34 4, zA := le b 38 4, zB := le b 38 4 + 16,
                                                  gen := le b 42 2, acked := true, stretchCycle := m - 1, stretchLen := l / 4,
                                                  juncNode1 := nums.1, juncNode2 := nums.2, sentAt := n.cycle }
        let n := (n.updIna (fun i => { i with merge := some g })).wr INA_STATUS.MPHASE 3
        let n := n.sendJack j.own id 0 (m - 1) mine
        let n := if n.inaState = 6 then n.inaGo 7 else n
        let n := n.leadCommit 2 m g.m id g.nonce g.gen dir dir
        (n.leadCmd ([0x12] ++ leBytes 4 g.stretchCycle ++ leBytes 4 g.stretchLen)).relaySend g

/-- JACK at the winning lead: the commit is announced, or the merge is refused (R179, R181). -/
def Node.jackLead (n : Node) (b : List Byte) : Node :=
  match n.ina.junction, n.ina.merge with
  | some j, some g =>
    if !g.wins || g.acked then n
    else if le b 26 1 ≠ 0 then n.mergeRefuse (le b 26 1)
    else if le b 22 4 ≠ g.newId then n
    else
      let j := { j with other := signed32 (le b 31 4) }
      let (dir, n) := n.buildMerged j
      let nums := n.juncNumbers j dir
      let g := { g with acked := true, juncNode1 := nums.1, juncNode2 := nums.2 }
      let n := n.updIna (fun i => { i with merge := some g })
      let n := if n.inaState = 6 then n.inaGo 7 else n
      (n.leadCommit 2 g.m g.m g.newId g.nonce g.gen dir dir).relaySend g
  | _, _ => if le b 26 1 ≠ 0 && n.inaState = 7 then n.mergeRefuse (le b 26 1) else n

/-- A junction's data from a JBEACON (R164, R180). -/
def juncOf (b : List Byte) (old : Option Junction) (att own ours : Nat) (mine : Option Int) : Junction :=
  let id := le b 10 4
  let keep := old.filter (fun j => j.id = id)
  { id := id, nonce := le b 22 8, prio := contPrio b, total := le b 38 1, cars := le b 39 1, hash := le b 34 4
    busy := decide (le b 40 1 % 8 ≠ 0), refEnd := bit (le b 40 1) 3, delay := le b 41 2, attach := att
    records := (keep.map (·.records)).getD [], mine := mine, other := (keep.map (·.other)).getD 0, own := own, theirs := le b 14 4, ours := ours }

/-- A junction frame as a lead takes it (R180): from its junction node `own`. -/
def Node.leadFrame (n : Node) (b : List Byte) (own : Nat) (mine : Option Int) : Node :=
  let type := le b 0 1
  if type = 0x6A then
    let n := n.updIna (fun i => { i with junction := some (juncOf b i.junction 0 own n.cycle mine) })
    (if n.rd INA_STATUS.MPHASE = 0 then n.wr INA_STATUS.MPHASE 1 else n).tryDecide
  else if type = 0x6B then
    let r := dirOf (slice b 22 16)
    let n := n.updIna (fun i => { i with junction := i.junction.map (fun j =>
      { j with records := j.records.filter (·.num ≠ r.num) ++ [r], total := le b 38 1, other := signed32 (le b 39 4) }) })
    let full := match n.ina.junction with
      | some j => j.records.length = j.total
      | none => false
    (if full && n.rd INA_STATUS.MPHASE < 2 then n.wr INA_STATUS.MPHASE 2 else n).tryDecide
  else if type = 0x6C then n.decideRx b
  else if type = 0x6D then n.jackLead b
  else n

/-! ### The junction nodes (R177 to R180) -/

/-- A received junction frame goes to the lead (R180). -/
def Node.toLead (n : Node) (f : ContRx) : Node :=
  if n.isLead then n.leadFrame f.bytes n.nodeNum (some f.comb) else n.inaUnit ([0x37, 0, 0, 0] ++ f.bytes)

/-- The merge starts at a junction node (R150, R180): its part's records go out as JLIST, the JBEACON to the lead. -/
def Node.mergeStart (n : Node) : Node :=
  match n.ina.junction with
  | none => n
  | some j =>
    let n := (n.inaTrigger).inaGo 7
    let off := toWord (j.mine.getD 0)
    let lists := n.dir.map (fun r => (0x6B, dirBytes r ++ leBytes 1 n.dir.length ++ leBytes 4 off.toNat ++ [0]))
    let n := n.updIna (fun i => { i with outFrames := i.outFrames ++ lists })
    let n := if n.rd INA_STATUS.MPHASE = 0 then n.wr INA_STATUS.MPHASE 1 else n
    if n.isLead then n.tryDecide else n.inaUnit ([0x37, 0, 0, 0] ++ n.ina.juncFrame)

/-- A foreign beacon of composition `id` from lead `uid` heard at attachment `att` (R128, R178): counted, the ID noted, the run advanced. -/
def Node.foreignHeard (n : Node) (att id uid : Nat) : Node :=
  let was := Tab.get (fun _ => (0, 0, 0)) n.bar.foreign att
  let same := was.1 = id && n.cycle < was.2.2 + 16
  let run := if same then sat 8 (n.rd (LINE_STATUS.FOREIGN_RUN att) + 1) else 1
  let n := ((n.wr (LINE_STATUS.FOREIGN_RUN att) run).meets att 1).count BAR_CNT_STRANGER.VALUE
  { n with bar := { n.bar with foreign := Tab.set (fun _ => (0, 0, 0)) n.bar.foreign att (id, uid, n.cycle)
                               heardIds := n.bar.heardIds.filter (fun (h : Nat × Nat) => h.1 ≠ id) ++ [(id, n.cycle)] } }

/-- JBEACON heard on an outward attachment (R128, R178, R196). -/
def Node.jbeaconRx (n : Node) (f : ContRx) : Node :=
  if n.inaState = 1 then n.updIna (fun i => { i with heardCand := true })
  else if !n.committed || 4 ≤ n.rd INA_STATUS.MPHASE then n
  else if n.rd (LINE_CTRL.SIDE f.att) ≠ 2 then n.count BAR_CNT_STRANGER.VALUE
  else
    let b := f.bytes
    let id := le b 10 4
    let att : Nat := f.att
    let n := n.foreignHeard att id (contUid b)
    let run := n.rd (LINE_STATUS.FOREIGN_RUN att)
    let j := juncOf b n.ina.junction att n.nodeNum n.cycle (some f.comb)
    let n := n.updIna (fun i => { i with junction := some j, juncFrame := b })
    let n := n.wr INA_JUNCID.VALUE id
    let n := n.wr INA_JUNC.VALUE (j.prio % 16 + j.total * 256 + j.cars * 65536 + b2n (n.winsOver j) * 16777216)
    if run = 8 && n.ina.merge.isNone then n.mergeStart else n

/-- May the node send at the junction in this cycle (R177, R180)? Once both sides hold each other's JBEACON the winner sends in its even
cycles, the joining side where its S45 to S47 meet no even winner cycle's. -/
def Node.juncTurn (n : Node) : Bool :=
  match n.ina.junction with
  | none => true
  | some j =>
    if n.winsOver j then n.cycle % 2 = 0
    else decide (60000 ≤ (j.mine.getD 0).natAbs) || (j.theirs + n.cycle + 4294967296 - j.ours) % 2 = 1

/-- The type-specific bytes of JBEACON (R164). -/
def Node.jbeaconBody (n : Node) : List Byte :=
  let flags := b2n (n.on BAR_STATUS.INAUG || n.on INA_STATUS.INAUG) + 2 * b2n (n.on BAR_STATUS.MERGE) + 4 * b2n (n.on BAR_STATUS.LULL)
    + 8 * b2n ((endRec n.dir true).map (·.num) = some n.nodeNum)
  leBytes 8 n.nonce ++ leBytes 4 (n.cycleTime n.cycle).toNat ++ leBytes 4 n.templateHash ++ leBytes 1 n.dir.length ++ leBytes 1 (carCount n.dir)
    ++ leBytes 1 flags ++ leBytes 2 (n.rd INA_DELAY.VALUE)

/-- One cycle of an end node at the junction (R177, R180): waiting junction frames at its turn, up to four; else a JBEACON with
probability 1/2. -/
def Node.jbeaconCycle (n : Node) : Node :=
  match n.outAtt with
  | none => n
  | some att =>
    if !n.committed || !n.on INA_STATUS.END || 4 ≤ n.rd INA_STATUS.MPHASE then n
    else
      let frame := fun (n : Node) (type : Nat) (spec : List Byte) => n.contBytes (n.compKey n.compId n.nonce) n.leadPrio type 1 n.compId n.cycle spec
      if n.ina.outFrames ≠ [] then
        if n.juncTurn then
          let four := n.ina.outFrames.take 4
          let n := (upTo four.length).foldl (fun (n : Node) (k : Nat) => match four[k]? with
            | some x => n.emit (.contention att k) (frame n x.1 x.2)
            | none => n) n
          n.updIna (fun i => { i with outFrames := i.outFrames.drop 4 })
        else n
      else if n.ina.junction.isSome && !n.juncTurn then n
      else
        let (coin, n) := n.entropy
        if coin % 2 = 1 then
          let (cell, n) := n.entropy
          n.emit (.contention att (cell % 4)) (frame n 0x6A n.jbeaconBody)
        else n

/-- FOREIGN_RUN resets after 16 cycles without a foreign beacon (R178). -/
def Node.foreignReset (n : Node) (att : Nat) : Node :=
  let last := Tab.get (fun _ => (0, 0, 0)) n.bar.foreign att
  if last.2.2 + 16 ≤ n.cycle then n.wr (LINE_STATUS.FOREIGN_RUN att) 0 else n

/-- INA_CMD.MERGE: a refused merge is tried again (R179). -/
def Node.mergeRetry (n : Node) : Node :=
  match n.outAtt with
  | none => n
  | some att => if 8 ≤ n.rd (LINE_STATUS.FOREIGN_RUN att) && n.ina.merge.isNone && n.committed then n.mergeStart else n

/-- JACK heard at a junction node (R179): a refusal is reported here too. -/
def Node.jackRx (n : Node) (f : ContRx) : Node :=
  let result := le f.bytes 26 1
  if n.isLead then n.toLead f else if result ≠ 0 then (n.toLead f).mergeRefuse result else n.toLead f

/-- JSEND: the lead's frame for the junction (R176); a JACK that refuses ends the merge here. -/
def Node.jsendRx (n : Node) (u : UnitRx) : Node :=
  if !n.fromLead u.node || n.outAtt.isNone || u.body.length ≠ 27 then n
  else
    let type := le u.body 26 1
    let spec := slice u.body 4 22
    let n := n.updIna (fun i => { i with outFrames := i.outFrames ++ [(type, spec)] })
    if type = 0x6D && le spec 4 1 ≠ 0 then n.mergeRefuse (le spec 4 1) else n

/-- A JDECIDE without JACK in 8 cycles goes again with a later M (R181). -/
def Node.decideAgain (n : Node) : Node :=
  match n.ina.junction, n.ina.merge with
  | some j, some g =>
    if !g.wins || g.acked || n.cycle < g.sentAt + 8 then n
    else
      let m := n.cycle + 32
      let g := { g with m := m, zA := m + 16, zB := m + 32, sentAt := n.cycle }
      (n.updIna (fun i => { i with merge := some g })).sendDecide j g
  | _, _ => n

/-- The end of a merge, at Z_B (R154, R182, R184, R185). -/
def Node.mergeDone (n : Node) : Node :=
  let n := if n.on INA_STATUS.DEPUTY then (n.wr INA_STATUS.DEPUTY 0).wr GRD_STATUS.LEAD 0 else n
  let n := n.updIna (fun i => { i with merge := none, junction := none, outFrames := [], juncFrame := [] })
  let n := ((n.wr INA_STATUS.MPHASE 6).count INA_CNT_MERGES.VALUE).raise INA_EVT.MERGED
  if n.inaState = 7 then n.inaGo 6 else n

/-- RELAY_CLOSURE at Z_A or Z_B (R184). -/
def Node.closure (n : Node) (l : Nat) : Node :=
  match n.ina.merge with
  | none => n
  | some g =>
    let at_ := if l = 0 then g.zA else g.zB
    if n.cycle < at_ || (if l = 0 then g.closedA else g.closedB) || (l = 1 && !g.closedA) || n.rd INA_STATUS.MPHASE < 4 then n
    else
      let junction := n.nodeNum ≠ 0 && (n.nodeNum = g.juncNode1 || n.nodeNum = g.juncNode2)
      let n := if junction then n.lineMode l .middle else n
      let n := if junction && l = 1 then (n.wr INA_STATUS.END 0).updIna (fun i => { i with outward := none }) else n
      if l = 0 then (n.updIna (fun i => { i with merge := some { g with closedA := true } })).wr INA_STATUS.MPHASE 5 else n.mergeDone

/-! ### The commands -/

/-- RELAY_CLOSURE: at Z_A or Z_B the junction nodes close the line's relays (R184). -/
def execRelayClosure (line : Line) (s : State) : Host.Outcome State Fault Refusal := s.onNode (·.closure (lineNo line))

/-- INA_CMD_MERGE: retries a refused merge (R179, R194). -/
def execInaCmdMerge (_by : Initiator) (s : State) : Host.Outcome State Fault Refusal := s.onNode (·.mergeRetry)

/-- JBEACON_CYCLE: an end node at its outward attachment in S45 to S47 (R177). -/
def execJbeaconCycle (s : State) : Host.Outcome State Fault Refusal := s.onNode (·.jbeaconCycle)

/-- JBEACON: a valid JBEACON on an outward attachment counts as foreign (R178). -/
def execJbeacon (f : ContRx) (s : State) : Host.Outcome State Fault Refusal := s.onNode (fun n => n.onCont f 0x6A (fun n => n.jbeaconRx f))

/-- FOREIGN_RUN_RESET: 16 cycles without a foreign beacon (R178). -/
def execForeignRunReset (att : Fin 4) (s : State) : Host.Outcome State Fault Refusal := s.onNode (·.foreignReset att)

/-- MERGE_ABANDON: a pending or refused merge is abandoned (R150). -/
def execMergeAbandon (s : State) : Host.Outcome State Fault Refusal := s.onNode (·.mergeAbandon)

/-- JLIST: a record of the other part (R180). -/
def execJlist (f : ContRx) (s : State) : Host.Outcome State Fault Refusal := s.onNode (fun n => n.onCont f 0x6B (fun n => n.toLead f))

/-- JREPORT: a junction frame from the junction node (R180). -/
def execJreport (u : UnitRx) (s : State) : Host.Outcome State Fault Refusal :=
  s.onNode (fun n => if n.isLead && u.body.length = 60 then n.leadFrame (u.body.drop 4) u.node none else n)

/-- JSEND: the lead's frame for the junction (R176). -/
def execJsend (u : UnitRx) (s : State) : Host.Outcome State Fault Refusal := s.onNode (·.jsendRx u)

/-- JDECIDE: the merge decision reaches the joining part (R181). -/
def execJdecide (f : ContRx) (s : State) : Host.Outcome State Fault Refusal := s.onNode (fun n => n.onCont f 0x6C (fun n => n.toLead f))

/-- JACK: the answer of the joining part (R179). -/
def execJack (f : ContRx) (s : State) : Host.Outcome State Fault Refusal := s.onNode (fun n => n.onCont f 0x6D (fun n => n.jackRx f))

/-- JDECIDE_TIMEOUT: no JACK in 8 cycles (R181). -/
def execJdecideTimeout (s : State) : Host.Outcome State Fault Refusal := s.onNode (·.decideAgain)

end Sys2Proof.Machine
end

