-- ==== Sys2Proof/Machine/Barel.lean ====
section
/-! DEFINITION. BAR: the cycle, beacons sent and missed, contention, spare claims, roll-call (03_barel_cycle.md R97 to R128, R139 to R145). -/

namespace Sys2Proof.Machine

/-! ### The cycle -/

/-- Runs of cycles with a beacon on each line (R77): a line without one in the cycle that ends starts again. -/
def Node.lineRuns (n : Node) : Node :=
  let heard := fun (l : Nat) => n.line.met.any (fun m => m.2 = 0 && m.1 % 2 = l)
  { n with line := { n.line with beaconRunA := if heard 0 then n.line.beaconRunA + 1 else 0, beaconRunB := if heard 1 then n.line.beaconRunB + 1 else 0 } }

/-- The records of kind 9: remaining lifetimes of outstanding messages, at the place of the field in their JRNL record (R262, R435). -/
def Node.lifetimes (n : Node) : List (List Byte) :=
  n.msg.out.flatMap (fun f => (f.2.filter (fun m => m.accepted && m.life ≠ 0)).map (fun m =>
    deltaRec 9 8 (0x27000 + 64 * m.block + 32) (leBytes 4 (n.lifeLeft m))))

/-- Cycle `c` begins: BAR's counters of the cycle start again and the guardian counts on (R98, R129). -/
def Node.enterCycle (n : Node) (c : Nat) : Node :=
  let n := n.lineRuns
  let met := n.line.met
  let n := (upTo 4).foldl (fun (n : Node) (a : Nat) =>
    let n := (n.wrB (LINE_STATUS.BEACON a) (met.contains (a, 0))).wrB (LINE_STATUS.FOREIGN a) (met.contains (a, 1))
    (n.wrB (LINE_STATUS.STRANGER a) (met.contains (a, 2))).wrB (LINE_STATUS.IMPULSE a) (met.contains (a, 3))) n
  let n : Node := { n with line := { n.line with met := [] } }
  let n := (n.wr BAR_CYCLE.VALUE (c % 4294967296)).wr BAR_STATUS.ROUNDPOS (c % 16)
  let n := n.mirrorDelta n.lifetimes
  ((n.wr BAR_GRANT.SENT 0).updBar (fun b => { b with blockedPos := [], taken := [], sentSlots := [] })).guardCycle

/-- Is the node in the merge exception of R134: from M to Z_B, as lead or deputy? -/
def Node.mergeApart (n : Node) : Bool :=
  (n.rd INA_STATUS.MPHASE = 4 || n.rd INA_STATUS.MPHASE = 5) && (n.isLead || n.on INA_STATUS.DEPUTY)

/-! ### The lead's beacon (R100, R102, R108, R119) -/

/-- The entries a lead grants for cycle `c` (R108, R170): from the new SCH in the beacon of M - 1. -/
def Node.grantsFor (n : Node) (c : Nat) : List Nat × Nat :=
  let pick := fun (sch : Nat → SchEnt) => (sortBy (fun a b => (sch a).start ≤ (sch b).start) ((upTo 512).filter (fun i => (sch i).kind = 0 && (sch i).applies c && !(sch i).suspended)))
  match n.ina.plan with
  | some p => if p.ready && p.m = c then (pick (fun i => p.sch.getD i SchEnt.empty), p.gen) else (pick n.sch, n.rd BAR_GEN.VALUE)
  | none => (pick n.sch, n.rd BAR_GEN.VALUE)

/-- The spare entry granted for cycle `c` (R119). -/
def Node.spareFor (n : Node) (c : Nat) : Option Nat :=
  (n.bar.spares.find? (fun s => (n.sch s.entry).applies c && s.cycle + 32 ≤ c)).map (·.entry)

/-- Is the merged schedule running on separated parts (flag MERGE, R100, R182)? -/
def Node.mergeFlag (n : Node) : Bool := n.rd INA_STATUS.MPHASE = 4 || n.rd INA_STATUS.MPHASE = 5

/-- Was the lead of the directory replaced by a successor (flag SUCCESSOR, R100, R190)? -/
def Node.isSuccessor (n : Node) : Bool := n.isLead && !n.dir.any (fun r => r.lead && r.uid = n.uid)

/-- The contention control of a lead (R100; which kinds it opens is the model's choice, log entry 23): JOIN, SPARE and HELLO unless a
commit or a merge runs; WAKE from K to E - 1 (R494). -/
def Node.contControl (n : Node) : Nat :=
  if n.mergeFlag then 0
  else
    let free := n.ina.plan.isNone && !n.bar.lullFlag
    let wake := n.rd AON_LSTATUS.STATE = 3 && n.cycle < n.rd AON_LE.VALUE
    b2n free + 2 * b2n wake + 4 * b2n free + 8 * b2n free

/-- The beacon of cycle `c` (R100). -/
def Node.beaconBytes (n : Node) (c : Nat) (cmds : List (List Byte)) : List Byte :=
  let g := n.grantsFor (c + 1)
  let flags := b2n (n.on INA_STATUS.INAUG) + 2 * b2n n.mergeFlag + 4 * b2n n.isSuccessor + 8 * b2n n.bar.lullFlag
  let fields := (g.1.take 20).flatMap (leBytes 2)
  let spare := match n.spareFor (c + 1) with
    | some e => e + 32768
    | none => 0
  let head := [0x01] ++ leBytes 1 flags ++ leBytes 4 c ++ leBytes 1 (c % 16) ++ leBytes 1 n.bar.leadNum ++ leBytes 4 n.compId
    ++ leBytes 4 (n.cycleTime c).toNat ++ leBytes 8 n.bar.leadUid ++ leBytes 8 n.nonce ++ leBytes 2 g.2 ++ leBytes 1 (g.1.take 20).length
    ++ leBytes 1 n.contControl ++ (fields ++ List.replicate 40 0).take 40 ++ leBytes 2 spare ++ [0, 0]
    ++ ((cmds.getD 0 []) ++ List.replicate 14 0).take 14 ++ ((cmds.getD 1 []) ++ List.replicate 14 0).take 14
  let body := head ++ leBytes 4 (crc32 head)
  body ++ tag64 n.bar.key body

/-- The two commands of a beacon of cycle `c`, and what is left to send (R102, R494). -/
def cmdsOut (c : Nat) (cmds : List LeadCmd) : List (List Byte) × List LeadCmd :=
  let due := (cmds.filter (fun k => k.want ≤ c)).take 2
  let left := cmds.filterMap (fun k =>
    if !due.contains k then some k
    else match k.through with
      | some e => if e ≤ c then none else some k
      | none => if 1 ≤ k.sent then none else some { k with sent := k.sent + 1 })
  (due.map (·.bytes), left)

/-- The lead sends the beacon of the cycle that begins, and the next cycle follows (R98 to R100, R104, R130). -/
def Node.beaconSend (n : Node) : Node :=
  let c := n.cycle
  if !(n.isLead || n.on INA_STATUS.DEPUTY) || !n.committed || !n.on BAR_CTRL.EN || !n.posOpen c 0 then n
  else
    let n := if n.isLead then (n.wr BAR_TTSTAMP.VALUE n.time.train.toNat).updBar (fun b => { b with lastBeacon := some c }) else n
    let out := cmdsOut c n.bar.cmds
    let n := n.emit .beacon (n.beaconBytes c out.1)
    let g := n.grantsFor (c + 1)
    let n := n.updBar (fun b => { b with
      cmds := out.2, grants := g.1.take 20, govGen := g.2, contOpen := n.contControl, spareGrant := n.spareFor (c + 1), coastRun := 0, coastStop := false })
    let n := ((n.wr BAR_GRANT.G (g.1.take 20).length).wr BAR_STATUS.BEACON 1).wr BAR_STATUS.COAST 0
    let n := (n.wr BAR_STATUS.COAST_RUN 0).wr BAR_STATUS.GENMIS 0
    let n := (n.wrB BAR_STATUS.INAUG (n.on INA_STATUS.INAUG)).wrB BAR_STATUS.MERGE n.mergeFlag
    let n := (n.wrB BAR_STATUS.SUCCESSOR n.isSuccessor).wrB BAR_STATUS.LULL n.bar.lullFlag
    let n := n.guardAlign c 0 true
    let n := if n.isLead then n.trainLead else n
    n.enterCycle (c + 1)

/-! ### A cycle without a governing beacon (R110, R123, R150, R190) -/

/-- No valid governing beacon: BMISS, coasting, and at three the uncoupling trigger and the successor. A quiet cycle of a Squall does not
count (R507). -/
def Node.beaconMiss (n : Node) : Node :=
  let quiet := n.quietAt n.cycle
  let c := n.cycle + 1
  let n := n.updBar (fun b => { b with
    grants := [], spareGrant := none, contOpen := 0
    contenders := b.contenders.map (fun k => if k.sentIn.isSome && k.extended < 4 then { k with span := k.span + 1, extended := k.extended + 1 } else k) })
  let n := ((n.wr BAR_STATUS.BEACON 0).wr BAR_STATUS.COAST 1).wr BAR_STATUS.GENMIS 0
  let n := (n.wr BAR_GRANT.G 0).wr BAR_GRANT.SPARE 0
  let n := n.trainHoldover
  if quiet then n.enterCycle c
  else
    let run := n.bar.coastRun + 1
    let n := ((n.updBar (fun b => { b with coastRun := run })).count BAR_CNT_BMISS.VALUE).raise BAR_EVT.BMISS
    let n := n.wr BAR_STATUS.COAST_RUN (min 7 run)
    let n := if run = 3 then
        let n := n.raise BAR_EVT.COAST3
        let st := n.rd AON_LSTATUS.STATE
        if n.committed && !n.isLead && st ≠ 2 && st ≠ 3 then n.uncouple.successor else n
      else n
    n.enterCycle c

/-- 16 coasting cycles: no slot until a valid governing beacon (R110). -/
def Node.coastLimit (n : Node) : Node := if 16 ≤ n.bar.coastRun then n.updBar (fun b => { b with coastStop := true }) else n

/-! ### Contention (R122 to R124) -/

/-- The bit of the contention control that opens a frame type. -/
def kindBit (type : Nat) : Nat := if type = 0x60 then 0 else if type = 0x61 then 1 else if type = 0x62 then 2 else if type = 0x63 then 3 else 4

/-- One contender sends its attempt in a random cell (R123); a WAKE_REQ goes again in every cycle (R500). -/
def Node.contendOne (n : Node) (k : Contender) : Node :=
  let (cell, n) := n.entropy
  let inComp := n.nodeNum ≠ 0 && k.type ≠ 0x60
  let key := if inComp then n.compKey n.compId n.nonce else n.joinKey
  let bytes := n.contBytes key n.effPrio k.type (min 255 (k.attempt + 1)) (if inComp then n.compId else 0) n.cycle k.body
  let n := n.emitCont (cell % 4) bytes
  let n := n.updBar (fun b => { b with contenders := b.contenders.map (fun x =>
    if x.type ≠ k.type then x
    else if x.type = 0x61 then { x with attempt := x.attempt + 1, next := n.cycle + 1 }
    else { x with sentIn := some n.cycle, span := n.cycle + 4, extended := 0 }) })
  if k.type = 0x62 then ((n.wr BAR_SPARESTAT.STATE 1).wr BAR_SPARESTAT.ATTEMPTS (min 255 (k.attempt + 1))).raise BAR_EVT.SPARE else n

/-- Every contender whose kind the governing beacon opens, and whose time has come, sends (R123). -/
def Node.contentionSend (n : Node) : Node :=
  if !n.on BAR_STATUS.BEACON || !n.posOpen n.cycle 45 then n
  else (n.bar.contenders.filter (fun k => k.sentIn.isNone && k.next ≤ n.cycle && n.opens (kindBit k.type))).foldl Node.contendOne n

/-- A failed attempt: backoff, and CONTFAIL at the threshold (R123). -/
def Node.attemptFail (n : Node) (k : Contender) : Node :=
  let a := k.attempt + 1
  let e := min a (min 6 (n.rd BAR_CTRL.BACKOFF_MAX))
  let (v, n) := n.entropy
  let next := (k.sentIn.getD n.cycle) + 5 + v % 2 ^ e
  let n := n.updBar (fun b => { b with contenders := b.contenders.map (fun x =>
    if x.type = k.type then { x with attempt := a, sentIn := none, next := next } else x) })
  let n := if k.type = 0x62 then (n.wr BAR_SPARESTAT.STATE 2).raise BAR_EVT.SPARE else n
  n.raiseIf (a = n.rd BAR_CTRL.ATTEMPT_EVT) BAR_EVT.CONTFAIL

/-- Attempts whose answer span has passed fail (R123). -/
def Node.attemptsDue (n : Node) : Node :=
  (n.bar.contenders.filter (fun k => k.sentIn.isSome && k.span < n.cycle)).foldl Node.attemptFail n

/-- The contention sequence of a type ends. -/
def Node.endContender (n : Node) (type : Nat) : Node := n.updBar (fun b => { b with contenders := b.contenders.filter (fun k => k.type ≠ type) })

/-- CONT_ANSWER received (R103, R123, R124). -/
def Node.contAnswered (n : Node) (a : List Byte) : Node :=
  let result := le a 0 1
  if le a 5 8 ≠ n.uid then n
  else match n.bar.contenders.find? (fun k => k.sentIn = some (le a 1 4)) with
    | none => n
    | some k =>
      if result = 2 then n.attemptFail k
      else
        let n := n.endContender k.type
        if k.type = 0x62 && result = 1 then (n.wr BAR_SPARESTAT.STATE 4).raise BAR_EVT.SPARE else n

/-! ### Spare slots (R117 to R119) -/

/-- May a role code claim an entry (R118)? -/
def SchEnt.openTo (e : SchEnt) (rc : Nat) : Bool :=
  e.ok && e.kind = 1 && e.claimant = 0 && !e.suspended
    && (e.car = 0 || (e.car = rc % 128 && (e.side = 0 || e.side = rc / 128 % 4) && e.role = rc / 512 % 2))

/-- The lead gives an entry to a claimant: SPARE_CONFIRM, the claim, and the claimant's admission (R118, R119, R166, R175). -/
def Node.spareAccept (n : Node) (f : ContRx) (e : Nat) : Node :=
  let b := f.bytes
  let uid := contUid b
  let rc := le b 18 2
  let ent := n.sch e
  let r : DirRec := { num := 0, car := 0, chain := 0, sideB := decide (rc / 128 % 4 = 2), role := if rc / 512 % 2 = 1 then 2 else 0, reversed := false
                      endNode := false, lead := false, reserved := false, delay := delayOf f.comb, prio := contPrio b, cls := 0, uid := uid }
  let known := n.dir.any (fun q => q.uid = uid && !q.reserved)
  match (if known then some n.dir else admitTo n.dir r 0 (rc % 128)) with
  | none => n.answerCont 1 (le b 14 4) uid
  | some dir =>
    let num := ((dir.find? (·.uid = uid)).map (·.num)).getD 0
    let n := n.leadCmd ([0x02] ++ leBytes 1 num ++ leBytes 2 e ++ leBytes 2 ent.roleCode ++ leBytes 8 uid)
    let n := n.updBar (fun b => { b with spares := b.spares ++ [⟨e, uid, n.cycle, f.cell⟩] })
    let n := (n.setSch e { ent with w2 := uid % 4294967296, w3 := uid / 4294967296 }).count BAR_CNT_CONTOK.VALUE
    if known then n else n.admission dir

/-- SPARE_CLAIM at the lead (R118): the lowest entry for 0x1FF; of two claims in one cycle the lower cell wins. -/
def Node.spareClaimRx (n : Node) (f : ContRx) : Node :=
  n.leadTakes f 2 (fun n =>
    let want := le f.bytes 22 2 % 512
    let rc := le f.bytes 18 2
    let uid := contUid f.bytes
    let pick := if want = 0x1FF then (upTo 512).find? (fun i => (n.sch i).openTo rc)
      else if (n.sch want).openTo rc then some want else none
    match pick with
    | some e => n.spareAccept f e
    | none =>
      match n.bar.spares.find? (fun s => s.entry = want && s.cycle = n.cycle && (f.cell : Nat) < s.cell) with
      | some s =>
        let n := n.updBar (fun b => { b with
          spares := b.spares.filter (fun x => x ≠ s), cmds := b.cmds.filter (fun k => !(k.sent = 0 && le k.bytes 0 1 = 2 && le k.bytes 2 2 = want)) })
        let n := n.setSch want { n.sch want with w2 := 0, w3 := 0 }
        let n := n.answerCont 1 (le f.bytes 14 4) s.uid
        if (n.sch want).openTo rc then n.spareAccept f want else n.answerCont 1 (le f.bytes 14 4) uid
      | none => n.answerCont 1 (le f.bytes 14 4) uid)

/-- SPARE_CONFIRM received (R119). -/
def Node.spareConfirmRx (n : Node) (a : List Byte) : Node :=
  let e := le a 1 2 % 512
  let uid := le a 5 8
  let n := if (n.sch e).kind = 1 then n.setSch e { n.sch e with w2 := uid % 4294967296, w3 := uid / 4294967296 } else n
  if uid ≠ n.uid then n
  else
    let n := n.endContender 0x62
    (((n.wr BAR_SPARESTAT.STATE 3).wr BAR_SPARESTAT.ENTRY e).wr BAR_SPARESTAT.NODE (le a 0 1)).raise BAR_EVT.SPARE

/-- SPARE_RELEASE received (R119). -/
def Node.spareReleaseRx (n : Node) (a : List Byte) : Node :=
  let e := le a 1 2 % 512
  let uid := le a 5 8
  let n := if (n.sch e).kind = 1 && (n.sch e).claimant = uid then n.setSch e { n.sch e with w2 := 0, w3 := 0 } else n
  if uid = n.uid && n.rd BAR_SPARESTAT.STATE = 3 && n.rd BAR_SPARESTAT.ENTRY = e then (n.wr BAR_SPARESTAT.STATE 6).raise BAR_EVT.SPARE else n

/-- The lead releases a claim whose claimant has been absent for 128 roll-calls (R119). -/
def Node.spareAbsent (n : Node) (e : Nat) : Node :=
  match n.bar.spares.find? (fun s => s.entry = e) with
  | none => n
  | some s =>
    if !n.isLead || Tab.get (fun _ => 0) n.bar.rcMiss (n.numOf s.uid) < 128 then n
    else
      let n := n.leadCmd ([0x03, 0] ++ leBytes 2 e ++ [0, 0] ++ leBytes 8 s.uid)
      let n := n.updBar (fun b => { b with spares := b.spares.filter (fun x => x ≠ s) })
      n.setSch e { n.sch e with w2 := 0, w3 := 0 }

/-- BAR_SPARE.CLAIM (R142): a claim starts unless one is in progress. -/
def Node.spareStart (n : Node) : Node :=
  if n.bar.contenders.any (·.type = 0x62) then n
  else
    let n := n.askContention 0x62 (leBytes 2 (n.rd BAR_SPARE.ENTRY))
    ((n.wr BAR_SPARESTAT.STATE 1).wr BAR_SPARESTAT.ATTEMPTS 0).raise BAR_EVT.SPARE

/-- BAR_SPARE.CANCEL (R142). -/
def Node.spareCancel (n : Node) : Node :=
  if n.bar.contenders.any (·.type = 0x62) then ((n.endContender 0x62).wr BAR_SPARESTAT.STATE 5).raise BAR_EVT.SPARE else n

/-! ### Roll-call (R125 to R127) -/

/-- The tones that roll-call uses on a line: from 33 up, notched ones skipped (R125). -/
def Node.rcTones (n : Node) (l : Nat) : List Nat := ((upTo 991).map (· + 33)).filter (fun k => !n.notched l k)

/-- The seven tones of a node on a line; fewer when its group is not complete. -/
def Node.rcGroup (n : Node) (l node : Nat) : List Nat := ((n.rcTones l).drop (7 * (node - 1))).take 7

/-- The 35 three-tone subsets of a group in lexicographic order (R126). -/
def rcSubsets : List (Nat × Nat × Nat) :=
  (upTo 7).flatMap (fun a => (upTo 7).flatMap (fun b => (upTo 7).filterMap (fun c => if a < b && b < c then some (a, b, c) else none)))

/-- k of a node in cycle `c` (R126). -/
def Node.rcKey (n : Node) (c node : Nat) : Nat :=
  le (aes128 n.bar.key ([0x52, 0x43] ++ leBytes 4 c ++ leBytes 1 node ++ List.replicate 9 0)) 0 2 % 34

/-- The value d that PAIR supplies (R126, R425, R426, R433). -/
def Node.rcValue (n : Node) : Nat :=
  let st := n.rd PAIR_STATUS.STATE
  if !n.on PAIR_CTRL.EN || !n.pair.fresh then 32
  else if st = 2 || st = 5 then n.rd PAIR_HBSEQ.VALUE % 16
  else if st = 4 then 16 + n.rd PAIR_HBSEQ.VALUE % 16
  else 32

/-- S49: every numbered node sends its keyed subset on each line where its group is complete (R125, R126); the output names line, three
tones and d. -/
def Node.rollcallSend (n : Node) : Node :=
  let num := n.nodeNum
  let short := (n.rcTones 0).length < 896 || (n.rcTones 1).length < 896
  let n := n.wrB BAR_STATUS.RCSHORT short
  if num = 0 || !n.committed || !n.on BAR_CTRL.EN || !n.posOpen n.cycle 49 then n
  else
    let d := n.rcValue
    let w := (d + n.rcKey n.cycle num) % 34
    let s := rcSubsets.getD w (0, 1, 2)
    let n := [0, 1].foldl (fun (n : Node) (l : Nat) =>
      let g := n.rcGroup l num
      if g.length < 7 then n
      else n.emit .rollcall (leBytes 1 l ++ leBytes 2 (nth g s.1) ++ leBytes 2 (nth g s.2.1) ++ leBytes 2 (nth g s.2.2) ++ leBytes 1 d)) n
    let n := n.updBar (fun b => { b with rcSentActive := decide (d < 16), beatSent := decide (d < 16) || (b.beatSent && n.isActive) })
    { n with pair := { n.pair with fresh := false } }

/-- What one group shows: (detected with d and margin, bad). Levels are above the group's noise estimate, in 0.25 dB (R127). -/
def Node.rcDetect (n : Node) (l node : Nat) (levels : List (Nat × Nat)) : Option (Nat × Nat) × Bool :=
  let g := n.rcGroup l node
  if g.length < 7 then (none, false)
  else
    let lv := (upTo 7).map (fun i => (i, ((levels.find? (·.1 = nth g i)).map (·.2)).getD 0))
    let top := sortBy (fun a b => b.2 ≤ a.2) lv
    let weak := ((top.drop 2).head?.map (·.2)).getD 0
    let next := ((top.drop 3).head?.map (·.2)).getD 0
    if weak < 36 then (none, false)
    else if weak < next + 24 then (none, true)
    else
      let ix := sortBy (· ≤ ·) ((top.take 3).map (·.1))
      let w := rcSubsets.idxOf (nth ix 0, nth ix 1, nth ix 2)
      if 34 ≤ w then (none, true)
      else (some ((w + 34 - n.rcKey n.cycle node) % 34, weak - next), false)

/-- Roll-call of a line (R127): presence, d with the larger margin of the two lines, misses, active heartbeats (R441), bad groups. -/
def Node.rollcall (n : Node) (r : RollCallRx) : Node :=
  if n.bar.key = [] || !n.committed then n
  else
    let l := lineNo r.line
    let again := n.bar.rcCycle = some n.cycle
    let was := if again then n.bar.rcSeen else []
    let nums := (n.dir.filter (fun q => q.uid ≠ n.uid && !q.reserved)).map (·.num)
    let found := nums.map (fun k => (k, n.rcDetect l k r.tones))
    let seen := found.filterMap (fun x => x.2.1.map (fun d => (x.1, d.1, d.2)))
    let bad := (found.filter (·.2.2)).length
    let best := (was.filter (fun a => !seen.any (fun b => b.1 = a.1 && a.2.2 < b.2.2))) ++ seen.filter (fun b => !was.any (fun a => a.1 = b.1 && b.2.2 ≤ a.2.2))
    let n := n.countBy BAR_CNT_RCBAD.VALUE bad
    let here := fun (k : Nat) => best.any (·.1 = k) || k = n.nodeNum
    let n := nums.foldl (fun (n : Node) (k : Nat) =>
      let m := Tab.get (fun _ => 0) n.bar.rcMiss k
      let m' := if here k then 0 else if again then m else m + 1
      n.updBar (fun b => { b with rcMiss := Tab.set (fun _ => 0) b.rcMiss k m' })) n
    let n := n.updBar (fun b => { b with rcCycle := some n.cycle, rcSeen := best, hbActive := (best.filter (·.2.1 < 16)).map (·.1) ++ (if b.rcSentActive then [n.nodeNum] else []) })
    let n := (upTo 4).foldl (fun (n : Node) (m : Nat) =>
      n.wr (BAR_RCPRES.BITS m) ((upTo 32).foldl (fun a b => a + (if here (32 * m + b + 1) then 2 ^ b else 0)) 0)) n
    let n := (upTo 4).foldl (fun (n : Node) (m : Nat) =>
      let a := n.rd (BAR_RCABS.BITS m)
      n.wr (BAR_RCABS.BITS m) ((upTo 32).foldl (fun x b => x + (if bit a b && !here (32 * m + b + 1) then 2 ^ b else 0)) 0)) n
    n.splitCheck

/-- A node missed for RC_MISS cycles is absent (R127). -/
def Node.nodeAbsent (n : Node) (k : Nat) : Node :=
  if k = 0 || 128 < k || Tab.get (fun _ => 0) n.bar.rcMiss k < max 1 (n.rd BAR_CTRL.RC_MISS) then n
  else
    let f : Field := ⟨(BAR_RCABS.BITS ((k - 1) / 32)).addr, (k - 1) % 32, 1⟩
    if n.on f then n else (n.wr f 1).raise BAR_EVT.ABSENT

/-- A write to BAR_CTRL (R139): EN moves the guardian out of or into OFF. -/
def Node.barCtrl (n : Node) (v : Word) : Node :=
  let was := n.on BAR_CTRL.EN
  let n := n.setReg BAR_CTRL.EN.addr (v &&& 0x00FFFF71)
  if n.on BAR_CTRL.EN = was then n else n.guardEnable (n.on BAR_CTRL.EN)

/-! ### The commands -/

/-- BEACON_SEND: the lead's beacon (R100). -/
def execBeaconSend (s : State) : Host.Outcome State Fault Refusal := s.onNode (·.beaconSend)

/-- BEACON_MISS: a cycle without a valid governing beacon (R110). -/
def execBeaconMiss (s : State) : Host.Outcome State Fault Refusal := s.onNode (·.beaconMiss)

/-- COAST_LIMIT: 16 consecutive coasting cycles (R110). -/
def execCoastLimit (s : State) : Host.Outcome State Fault Refusal := s.onNode (·.coastLimit)

/-- CONT_ANSWER: the lead's answer to a contention frame (R103, R123). -/
def execContAnswer (args : List Byte) (s : State) : Host.Outcome State Fault Refusal := s.onNode (·.contAnswered args)

/-- SPARE_CONFIRM: a claim is accepted (R119). -/
def execSpareConfirm (args : List Byte) (s : State) : Host.Outcome State Fault Refusal := s.onNode (·.spareConfirmRx args)

/-- SPARE_RELEASE: a claim is released (R119). -/
def execSpareRelease (args : List Byte) (s : State) : Host.Outcome State Fault Refusal := s.onNode (·.spareReleaseRx args)

/-- SPARE_ABSENCE_RELEASE: the claimant was absent for 128 cycles (R119). -/
def execSpareAbsenceRelease (entry : Nat) (s : State) : Host.Outcome State Fault Refusal := s.onNode (·.spareAbsent entry)

/-- CONTENTION_SEND: contenders send in an open window (R123). -/
def execContentionSend (s : State) : Host.Outcome State Fault Refusal := s.onNode (·.contentionSend)

/-- CONTENTION_ATTEMPT_FAIL: no answer within the span (R123). -/
def execContentionAttemptFail (s : State) : Host.Outcome State Fault Refusal := s.onNode (·.attemptsDue)

/-- CONTBAD: a cell with energy fails decoding (R124). -/
def execContbad (_cell : Fin 4) (s : State) : Host.Outcome State Fault Refusal := s.onNode (·.count BAR_CNT_CONTBAD.VALUE)

/-- SPARE_CLAIM: the lead accepts or refuses a claim (R118). -/
def execSpareClaim (f : ContRx) (s : State) : Host.Outcome State Fault Refusal := s.onNode (fun n => n.onCont f 0x62 (fun n => n.spareClaimRx f))

/-- BAR_SPARE_CLAIM: BAR_SPARE.CLAIM (R142). -/
def execBarSpareClaim (s : State) : Host.Outcome State Fault Refusal := s.onNode (·.spareStart)

/-- BAR_SPARE_CANCEL: BAR_SPARE.CANCEL (R142). -/
def execBarSpareCancel (s : State) : Host.Outcome State Fault Refusal := s.onNode (·.spareCancel)

/-- ROLLCALL_SEND: the node's subset in S49 (R126). -/
def execRollcallSend (s : State) : Host.Outcome State Fault Refusal := s.onNode (·.rollcallSend)

/-- NODE_ABSENT: a node missed RC_MISS roll-calls (R127). -/
def execNodeAbsent (node : Nat) (s : State) : Host.Outcome State Fault Refusal := s.onNode (·.nodeAbsent node)

/-- BAR_ENABLE: a write to BAR_CTRL (R139). -/
def execBarEnable (_by : Initiator) (value : Word) (s : State) : Host.Outcome State Fault Refusal := s.onNode (·.barCtrl value)

end Sys2Proof.Machine
end

