-- ==== Sys2Proof/Machine/Gpio.lean ====
section
/-! DEFINITION. GPIO (16_local_interfaces.md R600, R601, R610; 08_cycle_engines.md R330, R344). -/

namespace Sys2Proof.Machine

/-- Is pin `p` an output (R610: MODE 0b11 acts as 0b00)? -/
def Node.pinOut (n : Node) (p : Nat) : Bool := n.rd (GPIO_PIN.MODE p) = 1 || n.rd (GPIO_PIN.MODE p) = 2

/-- Is pin `p` an output that owner code `o` owns? -/
def Node.pinOwned (n : Node) (o p : Nat) : Bool := n.pinOut p && n.rd (GPIO_PIN.OWNER p) = o

/-- The enabled force entry of a kind (2 input, 3 output) on pin `p`; the lowest. -/
def Node.gpioForce (n : Node) (kind p : Nat) : Option Nat :=
  (upTo 256).find? (fun e => n.on (ENG0_FW0.EN e) && n.rd (ENG0_FW0.KIND e) = kind && n.rd (ENG0_FW0.TARGET e) % 32 = p)

/-- One pin's IN and OUT as levels, modes and forces stand; an edge of IN raises its event (R344, R600, R610). A pin that is no output
drives nothing and reads 0 in OUT (DEDUCED, log entry 26). -/
def Node.pinRefresh (n : Node) (p : Nat) : Node :=
  let lv := bit n.gpio.level.toNat p
  let com := bit n.gpio.out.toNat p
  let i := match n.gpioForce 2 p with
    | some e => (bit (n.rd (ENG0_FW1.VALUE e)) 0, n.wr (ENG0_FW2.UNDER e) (b2n lv))
    | none => (lv, n)
  let o := match i.2.gpioForce 3 p with
    | some e => (bit (i.2.rd (ENG0_FW1.VALUE e)) 0, i.2.wr (ENG0_FW2.UNDER e) (b2n com))
    | none => (com, i.2)
  let n := o.2
  let was := n.on ⟨GPIO_IN.IN.addr, p, 1⟩
  let n := (n.wrB ⟨GPIO_IN.IN.addr, p, 1⟩ i.1).wrB ⟨GPIO_OUT.OUT.addr, p, 1⟩ (n.pinOut p && o.1)
  if (!was && i.1 && n.on (GPIO_PIN.RISE p)) || (was && !i.1 && n.on (GPIO_PIN.FALL p)) then n.raiseBit GPIO_EVT.EDGE p else n

/-- Every pin's IN and OUT. -/
def Node.gpioRefresh (n : Node) : Node := (upTo 32).foldl Node.pinRefresh n

/-- Committed levels of the pins of `mask` become those of `val`. -/
def Node.gpioDrive (n : Node) (mask val : Word) : Node :=
  ({ n with gpio := { n.gpio with out := (n.gpio.out &&& ~~~ mask) ||| (val &&& mask) } } : Node).gpioRefresh

/-- The output pins that owner code `o` owns, as a mask. -/
def Node.pinsOf (n : Node) (o : Nat) : Word :=
  BitVec.ofNat 32 ((upTo 32).foldl (fun a p => if n.pinOwned o p then a + 2 ^ p else a) 0)

/-- The host port's write to GPIO_SET or GPIO_CLR: host-owned outputs change at once, other bits are ignored (R600). -/
def Node.gpioHost (n : Node) (set : Bool) (v : Word) : Node :=
  n.gpioDrive (v &&& n.pinsOf 8) (if set then v else 0)

/-- Does every pin of `v` belong to engine `e` as an output (R330, R600)? -/
def Node.gpioMay (n : Node) (e : Nat) (v : Word) : Bool := v &&& ~~~ n.pinsOf e = 0

/-- A write to GPIO_PINn (R601, R610): a change of MODE to an output drives INIT at once. -/
def Node.pinWrite (n : Node) (p : Nat) (v : Word) : Node :=
  let was := n.pinOut p
  let n := n.setReg (GPIO_PIN.MODE p).addr (v &&& 0x3FF7F)
  let n := if !was && n.pinOut p then n.gpioDrive (BitVec.ofNat 32 (2 ^ p)) (BitVec.ofNat 32 (n.rd (GPIO_PIN.INIT p) * 2 ^ p)) else n
  n.gpioRefresh

/-- GPIO_INPUT_CHANGE: an input level has counted (R600). -/
def execGpioInputChange (pin : Fin 32) (level : Bool) (s : State) : Host.Outcome State Fault Refusal :=
  s.onNode (fun n =>
    let l := BitVec.ofNat 32 (setBits n.gpio.level.toNat pin.val 1 (b2n level))
    ({ n with gpio := { n.gpio with level := l } } : Node).pinRefresh pin)

/-- GPIO_MODE_WRITE: a write to GPIO_PINn (R601). -/
def execGpioModeWrite (by_ : Initiator) (pin : Fin 32) (value : Word) (s : State) : Host.Outcome State Fault Refusal :=
  s.onNode (fun n => n.mirrored by_ (GPIO_PIN.MODE pin).addr value.toNat (fun n => n.pinWrite pin value))

end Sys2Proof.Machine
end

