-- ==== Sys2Proof/Machine/Engine.lean ====
section
/-! DEFINITION. The cycle engines (08_cycle_engines.md): states, cycle start, commit, quotas, cells and the force table; and what a swap, a
patch or a handover does at CYC (10_program_exchange.md R404, R410; 11_pair_redundancy.md R446). -/

namespace Sys2Proof.Machine

/-- Engine `e` as no register shows it. -/
def Node.engRun (n : Node) (e : Nat) : EngRun := Tab.get (fun _ => EngRun.empty) n.eng e

/-- Engine `e`'s own state changed. -/
def Node.updEng (n : Node) (e : Nat) (f : EngRun → EngRun) : Node :=
  { n with eng := Tab.set (fun _ => EngRun.empty) n.eng e (f (n.engRun e)) }

/-- ENGn_STATUS.STATE (R326). -/
def Node.engSt (n : Node) (e : Nat) : Nat := n.rd (ENG_STATUS.STATE e)

/-- The delta record of an engine's state, sent when it has changed (R435 kind 6). STOPPEND is not part of it. -/
def Node.engTell (n : Node) (e : Nat) : Node :=
  let st := n.reg (ENG_STATUS.STATE e).addr &&& 0x1F0F
  let en := n.reg (ENG_ENTRY.VALUE e).addr
  if (n.engRun e).told = some (st, en) || !n.mirroring then n
  else (n.updEng e (fun r => { r with told := some (st, en) })).mirrorDelta [deltaRec 6 e 0 (leBytes 4 st.toNat ++ leBytes 4 en.toNat)]

/-- Engine `e` enters a state. -/
def Node.setEng (n : Node) (e st : Nat) : Node := (n.wr (ENG_STATUS.STATE e) st).engTell e

/-- Output shadow, GPIO shadow and the cycle's QACKs are discarded (R326, R338). -/
def Node.engDrop (n : Node) (e : Nat) : Node :=
  let n := n.updEng e (fun r => { r with shadow := [], gpioMask := 0, gpioVal := 0, dirty := [], timers := [], edges := [] })
  { n with msg := { n.msg with qacks := n.msg.qacks.filter (fun q => q.1 ≠ e) } }

/-! ### Cells and quotas (R347, R348, R351, R352) -/

/-- A timer cell new or cleared, held by an engine or free (R388). -/
def Node.timerClear (n : Node) (c : Nat) (o : Option Nat) : Node :=
  let n := n.setReg (TMR_TW0.KIND c).addr (match o with
    | some e => BitVec.ofNat 32 (256 + 32 * e)
    | none => 0)
  let n := (n.setReg (TMR_TW1.PRESET c).addr 0).setReg (TMR_TW2.VALUE c).addr 0
  { n with cellStart := Tab.set (fun _ => 0) n.cellStart c 0 }

/-- An edge cell new or cleared. -/
def Node.edgeClear (n : Node) (c : Nat) (o : Option Nat) : Node :=
  n.setReg (TMR_EW.PREV c).addr (match o with
    | some e => BitVec.ofNat 32 (16 + 2 * e)
    | none => 0)

/-- The engine that holds a timer cell. -/
def Node.timerOwner (n : Node) (c : Nat) : Option Nat := if n.on (TMR_TW0.HELD c) then some (n.rd (TMR_TW0.OWNER c)) else none

/-- The engine that holds an edge cell. -/
def Node.edgeOwner (n : Node) (c : Nat) : Option Nat := if n.on (TMR_EW.HELD c) then some (n.rd (TMR_EW.OWNER c)) else none

/-- A use count moved by an object's old and new owner. -/
def Node.useMove (n : Node) (use : Nat → Field) (was new : Option Nat) : Node :=
  let n := match was with
    | some e => n.wr (use e) (n.rd (use e) - 1)
    | none => n
  match new with
  | some e => n.wr (use e) (n.rd (use e) + 1)
  | none => n

/-- A timer cell given to an engine, or freed. -/
def Node.setTimer (n : Node) (o : Option Nat) (c : Nat) : Node :=
  let was := n.timerOwner c
  let n := (n.timerClear c o).useMove ENG_QTMR.USE was o
  n.wr TMR_USE.TIMERS (n.rd TMR_USE.TIMERS + b2n o.isSome - b2n was.isSome)

/-- An edge cell given to an engine, or freed. -/
def Node.setEdge (n : Node) (o : Option Nat) (c : Nat) : Node :=
  let was := n.edgeOwner c
  let n := (n.edgeClear c o).useMove ENG_QEDGE.USE was o
  n.wr TMR_USE.EDGES (n.rd TMR_USE.EDGES + b2n o.isSome - b2n was.isSome)

/-- The result of an allocation or freeing of `count` objects from `first` of `top` (R347, R362). -/
def allocCode (held : Nat → Option Nat) (free : Bool) (first count top e use quota : Nat) : Nat :=
  if count = 0 then 5
  else if top < first + count then 3
  else if free then (if (upTo count).all (fun k => held (first + k) = some e) then 0 else 4)
  else if !allFree held first count then 2
  else if quota < use + count then 1
  else 0

/-- A write to ENG0_DALLOC (R362). -/
def Node.dallocWrite (n : Node) (v : Word) : Node :=
  let n := n.setReg ENG0_DALLOC.FIRST.addr (v &&& 0x400FFFFF)
  if !bit v.toNat 31 then n
  else
    let first := n.rd ENG0_DALLOC.FIRST
    let count := n.rd ENG0_DALLOC.COUNT
    let e := n.rd ENG0_DALLOC.ENGINE
    let free := n.on ENG0_DALLOC.FREE
    let code := allocCode n.pageOwner free first count 256 e (n.rd (ENG_QDMEM.USE e)) (n.rd (ENG_QDMEM.QUOTA e))
    let n := (n.wr ENG0_DRES.RESULT code).raiseIf (code = 1) (ENG_EVT.QUOTA e)
    if code ≠ 0 then n else (upTo count).foldl (fun (n : Node) (k : Nat) => n.setPage (first + k) (if free then none else some e)) n

/-- A write to TMR_TALLOC (R364). -/
def Node.tallocWrite (n : Node) (v : Word) : Node :=
  let n := n.setReg TMR_TALLOC.FIRST.addr (v &&& 0x4FFFFFFF)
  if !bit v.toNat 31 then n
  else
    let first := n.rd TMR_TALLOC.FIRST
    let count := n.rd TMR_TALLOC.COUNT
    let e := n.rd TMR_TALLOC.ENGINE
    let free := n.on TMR_TALLOC.FREE
    let code := allocCode n.timerOwner free first count 4096 e (n.rd (ENG_QTMR.USE e)) (n.rd (ENG_QTMR.QUOTA e))
    let n := (n.wr TMR_TRES.RESULT code).raiseIf (code = 1) (ENG_EVT.QUOTA e)
    if code ≠ 0 then n else (upTo count).foldl (fun (n : Node) (k : Nat) => n.setTimer (if free then none else some e) (first + k)) n

/-- A write to TMR_EALLOC (R364). -/
def Node.eallocWrite (n : Node) (v : Word) : Node :=
  let n := n.setReg TMR_EALLOC.FIRST.addr (v &&& 0x7FFFFFFF)
  if !bit v.toNat 31 then n
  else
    let first := n.rd TMR_EALLOC.FIRST
    let count := n.rd TMR_EALLOC.COUNT
    let e := n.rd TMR_EALLOC.ENGINE
    let free := n.on TMR_EALLOC.FREE
    let code := allocCode n.edgeOwner free first count 8192 e (n.rd (ENG_QEDGE.USE e)) (n.rd (ENG_QEDGE.QUOTA e))
    let n := (n.wr TMR_ERES.RESULT code).raiseIf (code = 1) (ENG_EVT.QUOTA e)
    if code ≠ 0 then n else (upTo count).foldl (fun (n : Node) (k : Nat) => n.setEdge (if free then none else some e) (first + k)) n

/-! ### Cycle start (R326 to R328) -/

/-- A cycle start: CYCLAST and CYCMAX, empty shadows, the view copy, RUN at ENTRY. -/
def Node.cycleStart (n : Node) (e : Nat) : Node :=
  let n := match (n.engRun e).start with
    | some t =>
      let last := sat 20 ((n.now - t) / 1000)
      (n.wr (ENG_CYCLAST.VALUE e) last).wr (ENG_CYCMAX.VALUE e) (max last (n.rd (ENG_CYCMAX.VALUE e)))
    | none => n
  let n := (n.engDrop e).viewCopy e
  let gen := BitVec.ofNat 32 (n.rd SIG_GEN.VALUE)
  let cyc := BitVec.ofNat 32 n.cycle
  let pc := BitVec.ofNat 32 (n.rd (ENG_ENTRY.VALUE e) / 4 * 4)
  let t := n.now
  let n := n.updEng e (fun r => { r with pc := pc, start := some t, viewGen := gen, viewCyc := cyc })
  n.setEng e 1

/-- The registers and cells that START with CLEAN resets (R325, R352). -/
def Node.engClean (n : Node) (e : Nat) : Node :=
  let n := n.updEng e (fun r => { r with g := [] })
  let n := ((upTo 4096).filter (fun c => n.timerOwner c = some e)).foldl (fun (n : Node) (c : Nat) => n.timerClear c (some e)) n
  ((upTo 8192).filter (fun c => n.edgeOwner c = some e)).foldl (fun (n : Node) (c : Nat) => n.edgeClear c (some e)) n

/-- START takes effect in STOPPED, HALTED, OVERRUN and FAULT (R326); CYCMAX and RUNMAX start again (R356). -/
def Node.engBegin (n : Node) (e : Nat) (clean : Bool) : Node :=
  let st := n.engSt e
  if st = 0 || 4 ≤ st then
    let n := if clean then n.engClean e else n
    let n := ((n.wr (ENG_CYCMAX.VALUE e) 0).wr (ENG_RUNMAX.VALUE e) 0).wr (ENG_STATUS.STOPPEND e) 0
    let n := n.updEng e (fun r => { r with start := none })
    n.cycleStart e
  else n

/-! ### Arrival at a swap (R404) -/

/-- Is PEX ARMED or HOLDING? -/
def Node.pexArmed (n : Node) : Bool := n.rd PEX_STATUS.STATE = 5 || n.rd PEX_STATUS.STATE = 6

/-- Is engine `e` of the armed swap group? -/
def Node.inGroup (n : Node) (e : Nat) : Bool := n.pexArmed && bit (n.rd PEX_GROUP.GROUP) e

/-- A group engine has arrived. -/
def Node.pexArrive (n : Node) (e : Nat) : Node :=
  if !n.inGroup e then n
  else
    let t := n.now
    let n := n.wr PEX_GROUP.ARRIVED (setBits (n.rd PEX_GROUP.ARRIVED) e 1 1)
    let n := n.wr PEX_STATUS.STATE 6
    { n with pex := { n.pex with firstAt := some (n.pex.firstAt.getD t), lastAt := some t } }

/-- START, held while PEX is ARMED for an engine outside the group (R404). A group engine that starts is no longer arrived. -/
def Node.engStart (n : Node) (e : Nat) (clean : Bool) : Node :=
  if (n.pexArmed || n.rd PEX_STATUS.STATE = 7) && !bit (n.rd PEX_GROUP.GROUP) e then n.updEng e (fun r => { r with heldStart := some clean })
  else
    let n := if n.inGroup e && (n.engSt e = 0 || 4 ≤ n.engSt e) then
        n.wr PEX_GROUP.ARRIVED (setBits (n.rd PEX_GROUP.ARRIVED) e 1 0)
      else n
    n.engBegin e clean

/-- Held starts take effect (R404). -/
def Node.engHeldStarts (n : Node) : Node :=
  (upTo 8).foldl (fun (n : Node) (e : Nat) => match (n.engRun e).heldStart with
    | some clean => (n.updEng e (fun r => { r with heldStart := none })).engBegin e clean
    | none => n) n

/-- STOP (R326). -/
def Node.engStop (n : Node) (e : Nat) : Node :=
  if n.engSt e = 1 then n.wr (ENG_STATUS.STOPPEND e) 1
  else if n.engSt e = 2 then (n.setEng e 0).pexArrive e
  else n

/-- Every engine stops, holding its committed outputs (R439, R497). -/
def Node.engHalt (n : Node) : Node :=
  (upTo 8).foldl (fun (n : Node) (e : Nat) =>
    if n.engSt e = 1 || n.engSt e = 2 || n.engSt e = 3 then ((n.engDrop e).wr (ENG_STATUS.STOPPEND e) 0).setEng e 0 else n) n

/-- Is engine `e` to be held at CYC: by a swap, a patch or a handover (R404, R412, R446)? -/
def Node.engHolds (n : Node) (e : Nat) : Bool :=
  n.inGroup e || n.pair.handover.isSome || (match n.pex.patch with
    | some p => p.1.contains e
    | none => false)

/-- The engines of a list that are in HOLD enter WAIT, unless something else holds them. -/
def Node.engRelease (n : Node) (es : List Nat) : Node :=
  es.foldl (fun (n : Node) (e : Nat) => if n.engSt e = 3 && !n.engHolds e then n.setEng e 2 else n) n

/-- The swap aborts with a code (R410). -/
def Node.pexAbort (n : Node) (code : Nat) : Node :=
  if !n.pexArmed then n
  else
    let n := ((n.wr PEX_STATUS.STATE 3).wr PEX_STATUS.ERR code).wr PEX_GROUP.ARRIVED 0
    let n : Node := { n with pex := { n.pex with firstAt := none, lastAt := none } }
    let n := (n.count PEX_CNT_ABORTS.VALUE).raise PEX_EVT.ABORT
    (n.engRelease (upTo 8)).engHeldStarts

/-- A group engine stops for good before it has arrived (R410 code 10). -/
def Node.pexLost (n : Node) (e : Nat) : Node := if n.inGroup e && !bit (n.rd PEX_GROUP.ARRIVED) e then n.pexAbort 10 else n

/-! ### Commit (R329) -/

/-- The delta of a commit (R435 kinds 1 to 5). -/
def Node.commitDelta (n : Node) (e : Nat) (r : EngRun) : Node :=
  if !n.mirroring then n
  else
    let k1 := r.shadow.map (fun p => deltaRec 1 e p.1 (leBytes 4 (n.pimgVal p.1) ++ leBytes 4 (n.pimgStat p.1)))
    let pins := n.pinsOf e
    let k2 := if pins = 0 then [] else [deltaRec 2 e pins.toNat (leBytes 4 (n.gpio.out &&& pins).toNat)]
    let k3 := r.dirty.map (fun a => deltaRec 3 e a (n.memBytes a 64))
    let k4 := r.timers.map (fun c => deltaRec 4 e c (n.timerBytes c))
    let k5 := r.edges.map (fun c => deltaRec 5 e c (leBytes 4 (n.reg (TMR_EW.PREV c).addr).toNat))
    n.mirrorDelta (k1 ++ k2 ++ k3 ++ k4 ++ k5)

/-- The commit of CYC (R329): PIMG, GPIO, QACKs, the sync group; then WAIT, STOPPED or HOLD (R326). -/
def Node.engCyc (n : Node) (e : Nat) : Node :=
  let r := n.engRun e
  let run := sat 20 ((n.now - r.start.getD n.now) / 1000)
  let n := n.wr (ENG_RUNMAX.VALUE e) (max run (n.rd (ENG_RUNMAX.VALUE e)))
  let n := n.sigCommit e r.shadow
  let n := if r.gpioMask = 0 then n else n.gpioDrive r.gpioMask r.gpioVal
  let acks := n.msg.qacks.filter (fun q => q.1 = e)
  let n : Node := { n with msg := { n.msg with qacks := n.msg.qacks.filter (fun q => q.1 ≠ e) } }
  let n := acks.foldl (fun (n : Node) (q : Nat × Nat) => n.ackDesc q.2) n
  let n := (n.count (ENG_CNT_CYCLES.VALUE e)).wr (ENG_STATUS.SAFE e) 0
  let n := (n.updEng e (fun r => { r with beat := true })).commitDelta e r
  let n := (n.engDrop e).syncRelease e
  if n.on (ENG_STATUS.STOPPEND e) then ((n.wr (ENG_STATUS.STOPPEND e) 0).setEng e 0).pexArrive e
  else if n.engHolds e then (n.setEng e 3).pexArrive e
  else n.setEng e 2

/-- HALT (R326). -/
def Node.engHaltInstr (n : Node) (e : Nat) : Node :=
  let n := ((n.engDrop e).wr (ENG_STATUS.STOPPEND e) 0).setEng e 4
  let n := n.raiseIf (n.on (ENG_CTRL.RECHALT e)) (ENG_EVT.HALT e)
  n.pexLost e

/-- Has every engine that counts for heartbeats completed a CYC (R331, R405)? -/
def Node.beatOk (n : Node) : Bool :=
  (upTo 8).all (fun e => !n.on (ENG_CTRL.HB e) || (n.engSt e ≠ 1 && n.engSt e ≠ 2) || (n.engRun e).beat)

/-- The count of CYCs since the heartbeat starts again. -/
def Node.beatClear (n : Node) : Node := (upTo 8).foldl (fun (n : Node) (e : Nat) => n.updEng e (fun r => { r with beat := false })) n

/-! ### The force table (R343 to R346) -/

/-- The force indications follow (R346); a change raises the event (R346, R683). -/
def Node.forceRefresh (n : Node) : Node :=
  let k := ((upTo 256).filter (fun f => n.on (ENG0_FW0.EN f))).length
  let was := n.rd ENG0_FSTAT.ACTIVE
  let n := (n.wr ENG0_FSTAT.ACTIVE k).wr SYS_STATUS.FORCED (b2n (k ≠ 0))
  (n.raiseIf ((was ≠ 0) ≠ (k ≠ 0)) SYS_EVT.FORCED).gpioRefresh

/-- The force entries of a list, as delta records (R435 kind 8). -/
def Node.forceRecs (n : Node) (l : List Nat) : List (List Byte) :=
  l.map (fun f => deltaRec 8 0 f
    (leBytes 4 (n.reg (ENG0_FW0.EN f).addr).toNat ++ leBytes 4 (n.rd (ENG0_FW1.VALUE f)) ++ leBytes 4 (n.rd (ENG0_FW2.UNDER f))))

/-- A write to ENG0_FW0 or ENG0_FW1 of the selected entry; an engine's is ignored and counted (R343). -/
def Node.forceWrite (n : Node) (by_ : Initiator) (w : Nat) (v : Word) : Node :=
  match by_ with
  | .eng _ => n.count ENG0_FSTAT.FORCEWR
  | .jtag => n
  | .unit => n
  | _ =>
    let f := n.rd ENG0_FSEL.ENTRY
    let n := if w = 0 then n.setReg (ENG0_FW0.EN f).addr (v &&& 0x8003FFFF) else n.setReg (ENG0_FW1.VALUE f).addr v
    let n := n.forceRefresh
    n.mirrorDelta (n.forceRecs [f])

/-- ENG0_FCMD.CLEARALL (R346): every entry is disabled and cleared. UNDER stays until the next apply has used it. -/
def Node.forceClear (n : Node) (by_ : Initiator) : Node :=
  match by_ with
  | .eng _ => n.count ENG0_FSTAT.FORCEWR
  | .jtag => n
  | .unit => n
  | _ =>
    let held := (upTo 256).filter (fun f => n.reg (ENG0_FW0.EN f).addr ≠ 0 || n.rd (ENG0_FW1.VALUE f) ≠ 0)
    let n := held.foldl (fun (n : Node) (f : Nat) => (n.setReg (ENG0_FW0.EN f).addr 0).setReg (ENG0_FW1.VALUE f).addr 0) n
    let n := n.forceRefresh
    n.mirrorDelta (n.forceRecs held)

/-! ### Commands -/

/-- ENGn_CMD as written (R354). -/
def Node.engCommand (n : Node) (e : Nat) (v : Word) : Node :=
  let n := if bit v.toNat 0 then n.engStart e (bit v.toNat 1) else n
  if bit v.toNat 2 then n.engStop e else n

/-- A write to ENGn_SYNC (R332): channels of another engine's group are left clear. -/
def Node.syncWrite (n : Node) (e : Nat) (v : Word) : Node :=
  let taken := ((upTo 8).filter (· ≠ e)).foldl (fun (a : Nat) (k : Nat) => a ||| n.rd (ENG_SYNC.CHAN k)) 0
  let clash := v.toNat % 256 &&& taken
  let n := n.setReg (ENG_SYNC.CHAN e).addr (v &&& 0x00FF03FF &&& ~~~ BitVec.ofNat 32 clash)
  if clash ≠ 0 then n.wr (ENG_SYNCSTAT.SYNCERR e) 1 else n

/-- Does a sequence that engine `e` released still run or wait (R327)? -/
def Node.seqRuns (n : Node) (e : Nat) : Bool :=
  (upTo 8).any (fun c =>
    (match (n.chan c).seq with
      | some s => decide (s.eng = e)
      | none => false) ||
    (match (n.chan c).nextRel with
      | some s => decide (s.1 = e)
      | none => false))

/-- Are the conditions of R327 met? -/
def Node.mayStart (n : Node) (e : Nat) : Bool :=
  n.engSt e = 2 && decide ((match (n.engRun e).start with
    | some t => t + 1000 * min 1000000 (n.rd (ENG_MINCYC.VALUE e))
    | none => 0) ≤ n.now) && !(n.on (ENG_SYNC.WAITIN e) && n.seqRuns e)

/-- START: ENGn_CMD with START (R326). -/
def execStart (by_ : Initiator) (e : Fin 8) (s : State) : Host.Outcome State Fault Refusal :=
  s.onNode (fun n => n.mirrored by_ (ENG_CMD.START e).addr 1 (·.engCommand e 1))

/-- START_CLEAN: ENGn_CMD with START and CLEAN (R325, R354). -/
def execStartClean (by_ : Initiator) (e : Fin 8) (s : State) : Host.Outcome State Fault Refusal :=
  s.onNode (fun n => n.mirrored by_ (ENG_CMD.START e).addr 3 (·.engCommand e 3))

/-- STOP: ENGn_CMD with STOP (R326). -/
def execStop (by_ : Initiator) (e : Fin 8) (s : State) : Host.Outcome State Fault Refusal :=
  s.onNode (fun n => n.mirrored by_ (ENG_CMD.START e).addr 4 (·.engCommand e 4))

/-- CYCLE_START: an engine in WAIT whose conditions hold starts its next cycle (R327, R328). -/
def execCycleStart (e : Fin 8) (s : State) : Host.Outcome State Fault Refusal :=
  s.onNode (fun n => if n.mayStart e then n.cycleStart e else n)

/-- SYNC_GROUP_WRITE: a write to ENGn_SYNC (R332, R358). -/
def execSyncGroupWrite (by_ : Initiator) (e : Fin 8) (value : Word) (s : State) : Host.Outcome State Fault Refusal :=
  s.onNode (fun n => n.mirrored by_ (ENG_SYNC.CHAN e).addr value.toNat (·.syncWrite e value))

/-- FORCE_ENTRY_WRITE: a write to ENG0_FW0 or ENG0_FW1 (R343, R345). -/
def execForceEntryWrite (by_ : Initiator) (w : Fin 2) (value : Word) (s : State) : Host.Outcome State Fault Refusal :=
  s.onNode (·.forceWrite by_ w value)

/-- FORCE_CLEARALL: ENG0_FCMD.CLEARALL (R346, R363). -/
def execForceClearall (by_ : Initiator) (s : State) : Host.Outcome State Fault Refusal := s.onNode (·.forceClear by_)

/-- DMEM_ALLOCATE: ENG0_DALLOC with GO and FREE 0 (R347, R362). -/
def execDmemAllocate (by_ : Initiator) (value : Word) (s : State) : Host.Outcome State Fault Refusal :=
  s.onNode (fun n => n.mirrored by_ ENG0_DALLOC.FIRST.addr ((value &&& 0x3FFFFFFF) ||| 0x80000000).toNat
    (·.dallocWrite ((value &&& 0x3FFFFFFF) ||| 0x80000000)))

/-- DMEM_FREE: ENG0_DALLOC with GO and FREE 1 (R347, R362). -/
def execDmemFree (by_ : Initiator) (value : Word) (s : State) : Host.Outcome State Fault Refusal :=
  s.onNode (fun n => n.mirrored by_ ENG0_DALLOC.FIRST.addr (value ||| 0xC0000000).toNat (·.dallocWrite (value ||| 0xC0000000)))

/-- TIMER_ALLOCATE: TMR_TALLOC with GO and FREE 0 (R350, R364). -/
def execTimerAllocate (by_ : Initiator) (value : Word) (s : State) : Host.Outcome State Fault Refusal :=
  s.onNode (fun n => n.mirrored by_ TMR_TALLOC.FIRST.addr ((value &&& 0x3FFFFFFF) ||| 0x80000000).toNat
    (·.tallocWrite ((value &&& 0x3FFFFFFF) ||| 0x80000000)))

/-- TIMER_FREE: TMR_TALLOC with GO and FREE 1 (R364). -/
def execTimerFree (by_ : Initiator) (value : Word) (s : State) : Host.Outcome State Fault Refusal :=
  s.onNode (fun n => n.mirrored by_ TMR_TALLOC.FIRST.addr (value ||| 0xC0000000).toNat (·.tallocWrite (value ||| 0xC0000000)))

/-- EDGE_ALLOCATE: TMR_EALLOC with GO and FREE 0 (R350, R364). -/
def execEdgeAllocate (by_ : Initiator) (value : Word) (s : State) : Host.Outcome State Fault Refusal :=
  s.onNode (fun n => n.mirrored by_ TMR_EALLOC.FIRST.addr ((value &&& 0x3FFFFFFF) ||| 0x80000000).toNat
    (·.eallocWrite ((value &&& 0x3FFFFFFF) ||| 0x80000000)))

/-- EDGE_FREE: TMR_EALLOC with GO and FREE 1 (R364). -/
def execEdgeFree (by_ : Initiator) (value : Word) (s : State) : Host.Outcome State Fault Refusal :=
  s.onNode (fun n => n.mirrored by_ TMR_EALLOC.FIRST.addr (value ||| 0xC0000000).toNat (·.eallocWrite (value ||| 0xC0000000)))

end Sys2Proof.Machine
end

