-- ==== Sys2Proof/Machine/Image.lean ====
section
/-! DEFINITION. Checking a node image (18_startup_identity.md R645 to R648, R658) and reading the carry map and constant ranges of a
program bank. -/

namespace Sys2Proof.Machine

/-- Offset of the signature block. -/
def Node.imgSig (n : Node) (base : Nat) : Nat := n.memLe (base + 12) 4

/-- The digest of the image at `base` (R647). -/
def Node.imgDigest (n : Node) (base : Nat) : List Byte := sha256 (n.memBytes base (n.imgSig base))

/-- Check 2 of R648 apart from the header CRC: section count, S and length in range. -/
def imgBounds (count s len limit : Nat) : Bool :=
  2 ≤ count && count ≤ 32 && s % 16 = 0 && 0x400 ≤ s && len = s + 128 && len ≤ 1048576 && len ≤ limit

/-- Do two sections of a table overlap, of which neither is a constant range (R646)? -/
def Section.meets (a b : Section) : Bool :=
  a.kind ≠ 7 && b.kind ≠ 7 && decide (a.offset < b.offset + b.length) && decide (b.offset < a.offset + a.length)

/-- No two sections of the list overlap. -/
def noneMeet : List Section → Bool
  | [] => true
  | a :: t => t.all (fun b => !a.meets b) && noneMeet t

/-- Check 3 of R648: the section table. -/
def tableOk (s : Nat) (l : List Section) : Bool :=
  (match l with
    | h :: t => h.kind = 0 && h.offset = 0 && h.length = 0x400 && t.all (fun x => x.kind ≠ 0)
    | [] => false)
  && l.all (fun x => x.kind ≤ 7 && x.offset + x.length ≤ s)
  && noneMeet l
  && (l.filter (·.kind = 1)).length = 1
  && (l.filter (·.kind = 4)).length ≤ 1
  && (l.filter (·.kind = 6)).length ≤ 1

/-- Check 4 of R648: a section's CRC; the header's own lies in its last word (R645). -/
def Node.sectionCrcOk (n : Node) (base : Nat) (x : Section) : Bool :=
  if x.kind = 0 then x.crc = n.memLe (base + 0x3FC) 4 else x.crc = crc32 (n.memBytes (base + x.offset) x.length)

/-- Does a SYS_ID value of a header match the device's (R658)? -/
def idMatches (device v : Nat) : Bool := v ≠ 0 && v / 4096 % 1048576 = device / 4096 % 1048576 && bits v 8 4 ≤ bits device 8 4

/-- The device's SYS_ID (R658). -/
def Node.sysId (n : Node) : Nat := (n.reg SYS_ID.PART.addr).toNat

/-- The code of the first check of R648 that the image at `base` fails, 0 when it passes. `limit` is the room of its source; `bad` says
that the load met an uncorrectable word. -/
def Node.checkImage (n : Node) (base limit : Nat) (bad : Bool) : Nat :=
  let s := n.imgSig base
  let key := n.memBytes (base + s) 64
  if n.memLe base 4 ≠ 0x47494D48 || n.memLe (base + 4) 2 ≠ 1 then 1
  else if n.memLe (base + 0x3FC) 4 ≠ crc32 (n.memBytes base 0x3FC)
    || !imgBounds (n.memLe (base + 6) 2) s (n.memLe (base + 8) 4) limit then 2
  else if !tableOk s (n.sections base) then 3
  else if !(n.sections base).all (n.sectionCrcOk base) then 4
  else if bad || n.uceIn base (s + 128) then 5
  else if !n.on OTP_LOCK.KEYHASH || sha256 key ≠ n.otpBytes 10 8 then 6
  else if !ecdsaVerify key (n.memBytes (base + s + 64) 64) (n.imgDigest base) then 7
  else if !(upTo 4).any (fun i => idMatches n.sysId (n.memLe (base + 16 + 4 * i) 4)) then 8
  else 0

/-- The first 8 bytes of an image's digest, in the two hash registers (R416, R647). -/
def Node.hashWrite (n : Node) (lo hi : Field) (base : Nat) : Node :=
  let h := n.imgDigest base
  (n.wr lo (le h 0 4)).wr hi (le h 4 4)

/-- An image of a QSPI_BOOT slot copied into a bank (R398, R399, R648): as many bytes as the header names, at most 1 MB. -/
def Node.loadSlot (n : Node) (slotB : Bool) (base : Nat) : Node :=
  let off := if slotB then n.qspi.sizeB / 2 else 0
  let len := ofLe (n.flashBytes .boot (off + 8) 4)
  n.memPut base (n.flashBytes .boot off (min len 1048576))

/-- Bytes of a slot's half of QSPI_BOOT (R591). -/
def Node.slotRoom (n : Node) : Nat := n.qspi.sizeB / 2

/-- The data initializer sections copied to their DMEM targets (R643 step 5, R430 step 2). -/
def Node.copyInits (n : Node) : Node :=
  ((n.sections n.bankBase).filter (·.kind = 3)).foldl (fun (n : Node) (x : Section) =>
    n.memPut x.target (n.memBytes (n.bankBase + x.offset) x.length)) n

/-- ENG0 started on the setup program (R643 step 5, R430 step 3). -/
def Node.startSetup (n : Node) : Node :=
  match n.sectionOf n.bankBase 1 with
  | some x => ((n.wr (ENG_ENTRY.VALUE 0) x.offset).wr (ENG_LIMIT.VALUE 0) 1000000).engBegin 0 true
  | none => n

/-! ### The carry map (R401, R402) -/

/-- Record `i` of the carry map at `a`. -/
def Node.carryRec (n : Node) (a i : Nat) : CarryRec :=
  let r := a + 32 + 16 * i
  ⟨n.memLe r 1, n.memLe (r + 1) 1 % 8, n.memLe (r + 2) 2, n.memLe (r + 4) 4, n.memLe (r + 8) 4, n.memLe (r + 12) 2, n.memLe (r + 14) 2⟩

/-- The carry map of the image in a bank is read into PEX (R399, R401, R416). -/
def Node.readMap (n : Node) (base : Nat) : Node :=
  match n.sectionOf base 6 with
  | none => ({ n with pex := { n.pex with map := [], mapFrom := 0, carried := 0, initialized := 0 } } : Node).wr PEX_GROUP.GROUP 0
  | some x =>
    let a := base + x.offset
    let l := (upTo (n.memLe (a + 14) 2)).map (n.carryRec a)
    let from_ := n.memLe (a + 4) 8
    let carried := n.memLe (a + 16) 4
    let init := n.memLe (a + 20) 4
    let group := n.memLe (a + 12) 1
    let n : Node := { n with pex := { n.pex with map := l, mapFrom := from_, carried := carried, initialized := init } }
    (n.wr PEX_GROUP.GROUP group).wr PEX_GROUP.ARRIVED 0

/-- Does an address of the active bank lie in a constant range of the header (R412)? -/
def Node.inConst (n : Node) (off : Nat) : Bool :=
  (n.sections n.bankBase).any (fun x => x.kind = 7 && decide (x.offset ≤ off) && decide (off + 4 ≤ x.offset + x.length))

end Sys2Proof.Machine
end

