-- ==== Sys2Proof/Machine/Pair.lean ====
section
/-! DEFINITION. Pair redundancy and takeover (11_pair_redundancy.md): roles, heartbeats and echoes, synchronization, loss, fence, takeover,
handover, rehearsal, BIST. Deltas and snapshots received stand in Mirror.lean. -/

namespace Sys2Proof.Machine

/-! ### What a gust's end stops (R465) -/

/-- The operation that a revoked or freed gust was granted to stops (R465). Classes 1, 5 and 7 look at the gust when they start. -/
def Node.gustStops (n : Node) (h : Nat) : Node :=
  let n := (upTo 4).foldl (fun (n : Node) (att : Nat) => if n.rd (LINE_CAL.GUST att) = h then n.calAbort att else n) n
  let n := n.audGustEnd h
  let n := if n.rd EVR_FLUSH.VALUE = h && (n.evr.flush = some .full || n.evr.flush = some .command) then
      ({ n with evr := { n.evr with flush := none } } : Node).wr EVR_STATUS.STATE 2
    else n
  if n.rd PAIR_STATUS.BIST = 1 && n.rd PAIR_CTRL.BISTGUST = h then n.wr PAIR_STATUS.BIST 3 else n

/-- Every gust is freed and what it was granted to stops (R464). -/
def Node.gustsOff (n : Node) : Node :=
  let held := n.handlesWhere (fun h => n.rd (PWR_GH.STATE h) = 1)
  held.foldl Node.gustStops n.gustFreeAll

/-! ### Outputs and small changes -/

/-- The level of OWN; the effective modes of the CAN channels follow (R564). -/
def Node.setOwnPin (n : Node) (b : Bool) : Node := ({ n with ownPin := b } : Node).canModes

/-- PAIR_STATUS.STATE; the effective modes of the CAN channels follow (R564). -/
def Node.pairGo (n : Node) (st : Nat) : Node := (n.wr PAIR_STATUS.STATE st).canModes

/-- The four payload bytes of a number. -/
def le4 (v : Nat) : List Byte := leBytes 4 (v % 4294967296)

/-- A heartbeat sequence later than another, modulo 2^32 (R427). -/
def seqLater (a b : Nat) : Bool := let d := (a + 4294967296 - b) % 4294967296; 0 < d && d < 2147483648

/-- A NEG frame (R422). -/
def Node.sendNeg (n : Node) : Node :=
  let st := n.pairSt
  n.linkPlain 3 (leBytes 8 n.uid ++ leBytes 4 (n.rd PEX_ACTHASH_LO.VALUE) ++ leBytes 4 (n.rd PEX_ACTHASH_HI.VALUE)
    ++ leBytes 1 (n.rd PAIR_STATUS.STRAP + 2 * b2n (st = 2 || st = 5) + 4 * n.rd PAIR_STATUS.SIDE + 8 * b2n (st = 4)) ++ [0, 0, 0])

/-- An HB frame (R422); PROBATION is also set while a handover that rehearses is pending (DEDUCED, log entry 27). -/
def Node.sendHb (n : Node) (again : Bool) : Node :=
  let prob := n.pair.probation.isSome || (match n.pair.handover with
    | some h => h.rehearse
    | none => false)
  n.linkPlain 1 (le4 (n.rd PAIR_HBSEQ.VALUE) ++ le4 n.now ++ le4 n.pair.deltaNo
    ++ leBytes 1 (1 + 2 * b2n n.pair.handover.isSome + 4 * b2n prob + 8 * b2n again) ++ [0, 0, 0])

/-- An ECHO frame naming a heartbeat sequence (R422, R426). -/
def Node.sendEcho (n : Node) (seq : Nat) : Node :=
  let st := n.pairSt
  n.linkPlain 2 (le4 seq ++ le4 n.pair.applied
    ++ leBytes 1 (b2n (st = 4) + 2 * n.rd PAIR_STATUS.SUSPECT + 4 * b2n (n.rd PAIR_STATUS.BIST = 1) + 8 * b2n (st = 3)) ++ List.replicate 7 0)

/-- An event raised because a path left service (R452). -/
def Node.pairDegraded (n : Node) : Node := n.raise PAIR_EVT.DEGRADED

/-- Into RESYNC (R432, R453). -/
def Node.toResync (n : Node) : Node :=
  let n := if n.pairSt = 3 then n else n.count PAIR_CNT_RESYNCS.VALUE
  let t := n.now
  let n := ((n.pairGo 3).wr PAIR_STATUS.SYNC 0).wr PAIR_STATUS.SOLO 0
  (n.updPair (fun p => { p with syncSince := some t, longTold := false, parts := [] })).refreshMode

/-- Held acceptances go on (R245). -/
def Node.unholdAcc (n : Node) : Node :=
  (({ n with msg := { n.msg with heldAcc := false } } : Node).wr MSG_STATUS.HELDACC 0).refreshMode

/-- A held INA enable is applied once negotiation has ended (R653). -/
def Node.inaUnhold (n : Node) : Node := if n.on INA_CTRL.EN then n.inaStart else n

/-! ### Snapshots (R437) -/

/-- The blocks whose registers are mirrored (R435): SIG, MSG, AUD, TDM, CAN, ETH, GPIO, TIME, ENG, TMR. -/
def mirroredAddr (a : Nat) : Bool :=
  let b := a % 4294967296 / 4096
  b = 0x4002C || b = 0x40028 || b = 0x40040 || (0x40048 ≤ b && b ≤ 0x4004B) || (0x40050 ≤ b && b ≤ 0x40057) || b = 0x40060
    || b = 0x40005 || b = 0x40007 || (0x40030 ≤ b && b ≤ 0x40037) || b = 0x40038

/-- The head of a SNAP frame: region in byte 0, for a DMEM page its engine plus 1 in byte 1, then the address or index (log entry 25). -/
def snapHead (region a : Nat) : List Byte := le4 region ++ le4 a

/-- SNAP frames for `len` bytes of SRAM from `a`, at most 2,040 in each; `k` bounds their number. -/
def snapRun (region : Nat) : Nat → Nat → Nat → List (List Byte)
  | 0, _, _ => []
  | k + 1, a, len => if len = 0 then [] else (snapHead region a ++ le4 (min len 2040)) :: snapRun region k (a + 2040) (len - 2040)

/-- The words a register row describes that software writes. -/
def RegSpec.words (d : RegSpec) : List Nat :=
  if d.rw = 0 && d.rwl = 0 then []
  else (upTo d.insts).flatMap (fun i => (upTo d.count).map (fun k => d.base + d.instStride * i + d.stride * k))

/-- What the snapshot holds, in the order of R437: JRNL, DMEM pages held, LOCAL entries, timer and edge cells, registers, force table. -/
def Node.snapList (n : Node) : List (List Byte) :=
  let j := snapRun 1 90 jrnlBase 0x27000 ++ n.msg.used.flatMap (fun r => snapRun 1 3 (blockAddr r.1) (64 * r.2))
  let d := (upTo 256).flatMap (fun p => match n.pageOwner p with
    | some e => snapRun (2 + 256 * (e + 1)) 3 (0x20200000 + 4096 * p) 4096
    | none => [])
  let s := n.dsets.flatMap (fun k => snapRun 3 300 (pimgAddr (n.rd (SIG_PUBW1.INDEX k))) (8 * n.rd (SIG_PUBW1.COUNT k)))
  let t := ((upTo 4096).filter (fun c => (n.timerOwner c).isSome)).map (fun c => snapHead 4 c ++ le4 0)
  let e := ((upTo 8192).filter (fun c => (n.edgeOwner c).isSome)).map (fun c => snapHead 5 c ++ le4 0)
  let plain := ((allRegs.flatMap RegSpec.words).filter mirroredAddr).map (fun a => snapHead 6 a ++ le4 0)
  let win := ((n.regs.map (·.1)).filter (fun a => 4294967296 ≤ a && mirroredAddr a)).map (fun a =>
    snapHead 6 (a % 4294967296) ++ le4 (a / 4294967296))
  let f := ((upTo 256).filter (fun k => n.on (ENG0_FW0.EN k))).map (fun k => snapHead 7 k ++ le4 0)
  j ++ d ++ s ++ t ++ e ++ plain ++ win ++ f

/-- The active node starts to synchronize its partner (R437). -/
def Node.snapStart (n : Node) : Node :=
  if n.pair.snapQueued || !n.mirroring || n.on PAIR_STATUS.IMGMIS then n
  else
    let l := n.snapList.map (fun b => (4, 0x30, b))
    let t := n.now
    let n := n.updPair (fun p => { p with snapQueued := true, syncSince := some t, longTold := false, waiting := p.waiting ++ l })
    (Node.linkPump n.pair.waiting.length n).lagUpdate

/-- Have all SNAP frames been acknowledged? -/
def Node.snapAcked (n : Node) : Bool :=
  !n.pair.waiting.any (fun x => x.2.1 = 0x30) && !n.pair.unacked.any (fun x => le x.2.2 0 1 = 0x30)

/-- Synchronization is complete (R437): at the standby it enters STANDBY, at the active pair acceptance returns. -/
def Node.syncDone (n : Node) : Node :=
  let ms := sat 16 ((n.now - n.pair.syncSince.getD n.now) / 1000000)
  let n := ((n.wr PAIR_STATUS.SYNC 1).wr PAIR_SYNCTIME.VALUE ms).raise PAIR_EVT.SYNC
  (n.updPair (fun p => { p with syncSince := none, snapQueued := false })).refreshMode

/-! ### Roles (R428, R432) -/

/-- The role is settled as active (R428). -/
def Node.settleActive (n : Node) (solo : Bool) : Node :=
  let t := n.now
  let n := ((n.pairGo 2).wrB PAIR_STATUS.SOLO solo).setOwnPin true
  let n := n.updPair (fun p => { p with echoMark := if solo then none else some t, sent := [] })
  n.refreshMode.inaUnhold

/-- The role is settled as standby: RESYNC, every engine stops at its next WAIT (R428, R654). -/
def Node.settleStandby (n : Node) : Node :=
  let n := n.toResync
  ((upTo 8).foldl (fun (n : Node) (e : Nat) => n.engStop e) n).inaUnhold

/-- Reliable numbering restarts and what was queued is discarded (R717). -/
def Node.linkRestart (n : Node) : Node :=
  (n.updPair (fun p => { p with nextSeq := 1, unacked := [], waiting := [], rxSeq := 0, parts := [], snapQueued := false })).lagUpdate

/-- Does this node have the stronger preference (R428)? -/
def Node.stronger (n : Node) (p : NegInfo) : Bool :=
  if n.on PAIR_STATUS.STRAP != p.prefers then n.on PAIR_STATUS.STRAP else n.uid < p.uid

/-- A partner's NEG (R428, R429, R431, R717). A settled node answers a NEG that claims no active role (DEDUCED, log entry 28). -/
def Node.negRx (n : Node) (b : List Byte) : Node :=
  let fl := le b 16 1
  let p : NegInfo := ⟨le b 0 8, slice b 8 8, bit fl 0, bit fl 1, bit fl 2, bit fl 3⟩
  if p.uid ≠ n.peerUid then
    if n.pairSt = 1 then (n.wr PAIR_STATUS.PEERMIS 1).raise PAIR_EVT.PEERMIS else n
  else
    let mis := p.hash ≠ leBytes 4 (n.rd PEX_ACTHASH_LO.VALUE) ++ leBytes 4 (n.rd PEX_ACTHASH_HI.VALUE)
    let was := n.on PAIR_STATUS.IMGMIS
    let n := (n.wrB PAIR_STATUS.IMGMIS mis).raiseIf (mis && !was) PAIR_EVT.IMGMIS
    let n := n.updPair (fun q => { q with peer := some p })
    if n.pairSt = 1 then
      if p.claims then n.settleStandby
      else if n.stronger p then n.settleActive false
      else n.settleStandby
    else
      let n := n.linkRestart
      let n := if n.pairSt = 2 || n.pairSt = 5 then ((n.wr PAIR_STATUS.SYNC 0).refreshMode).unholdAcc else n
      if p.claims then n else n.sendNeg

/-! ### Heartbeats and echoes (R425 to R427) -/

/-- A fresh heartbeat of the active partner (R427, R432): FENCED passes to RESYNC, and a standby whose link had left service meanwhile too
(DEDUCED, log entry 29). -/
def Node.freshHb (n : Node) (seq : Nat) : Node :=
  let t := n.now
  let n := ((n.wr PAIR_HBSEQ.VALUE seq).count PAIR_CNT_HB.VALUE).updPair (fun p => { p with heardAt := some t, fresh := true })
  if n.pairSt = 6 || (n.pairSt = 4 && !n.on PAIR_STATUS.LINK) then n.toResync else n

/-- A fresh echo (R427): the echo mark is the send time of the heartbeat it names; held acceptances go on (R245). -/
def Node.freshEcho (n : Node) (seq sentAt : Nat) : Node :=
  let n := ((n.wr PAIR_ECHOSEQ.VALUE seq).count PAIR_CNT_ECHO.VALUE).updPair (fun p => { p with echoMark := some sentAt })
  (n.wr PAIR_STATUS.SOLO 0).unholdAcc

/-- The partner's value in a roll-call (R426, R427): `d` as decoded. -/
def Node.pairRoll (n : Node) (d : Nat) : Node :=
  let st := n.pairSt
  if st = 2 && 16 ≤ d && d < 32 then
    match (n.pair.sent.filter (fun x => x.1 % 16 = d - 16 && n.now ≤ x.2 + 4000000)).getLast? with
    | some x => if seqLater x.1 (n.rd PAIR_ECHOSEQ.VALUE) then n.freshEcho x.1 x.2 else n
    | none => n
  else if (st = 3 || st = 4 || st = 6) && d < 16 then
    let k := (d + 16 - n.rd PAIR_HBSEQ.VALUE % 16) % 16
    if k = 0 then n else n.freshHb ((n.rd PAIR_HBSEQ.VALUE + k) % 4294967296)
  else n

/-- The partner's presence in a roll-call (R424, R443, R127). -/
def Node.pairPresent (n : Node) (here : Bool) : Node :=
  if !n.on PAIR_CTRL.EN then n
  else
    let t := n.now
    let n := if here then n.updPair (fun p => { p with rcAt := some t }) else n
    let was := n.on PAIR_STATUS.RCPATH
    let n := n.wrB PAIR_STATUS.RCPATH here
    if was && !here then n.pairDegraded else n

/-- An HB frame decoded by the standby (R426, R427). The HB that no longer shows PROBATION ends a rehearsal as passed (R447). -/
def Node.hbRx (n : Node) (b : List Byte) : Node :=
  let seq := le b 0 4
  let fl := le b 12 1
  let st := n.pairSt
  if st = 3 || st = 4 || st = 6 then
    let n := if !bit fl 3 && seqLater seq (n.rd PAIR_HBSEQ.VALUE) then n.freshHb seq else n
    let n := if n.pair.rehearsing && st = 4 && !bit fl 2 then (n.wr PAIR_STATUS.RESULT 1).updPair (fun p => { p with rehearsing := false }) else n
    let n := n.updPair (fun p => { p with probation := if bit fl 1 && bit fl 2 then some 0 else none })
    n.sendEcho seq
  else n

/-- An ECHO frame decoded by the active (R427, R436, R437): freshness, the partner's flags, deltas applied. -/
def Node.echoRx (n : Node) (b : List Byte) : Node :=
  let seq := le b 0 4
  let fl := le b 8 1
  if n.pairSt ≠ 2 then n
  else
    let n := n.wrB PAIR_STATUS.PSUSPECT (bit fl 1)
    let n := match n.pair.sent.find? (fun x => x.1 = seq) with
      | some x => if seqLater seq (n.rd PAIR_ECHOSEQ.VALUE) || n.pair.echoMark.isNone then n.freshEcho seq x.2 else n
      | none => n
    let applied := le b 4 4
    let n := match n.pex.marker with
      | some d => if seqLater d applied then n else ({ n with pex := { n.pex with marker := none } } : Node)
      | none => n
    let n := if !bit fl 0 && n.on PAIR_STATUS.SYNC then (n.wr PAIR_STATUS.SYNC 0).refreshMode else n
    if bit fl 3 && !n.on PAIR_STATUS.SYNC then n.snapStart else n

/-- A tick of 250 µs (R424, R425): a heartbeat if every counting engine has completed a CYC, else REPEAT; a negotiating node sends NEG, a
standby an ECHO. -/
def Node.heartbeat (n : Node) : Node :=
  let st := n.pairSt
  if st = 1 then n.sendNeg
  else if st = 2 then
    let ok := n.beatOk
    let n := n.beatClear
    let n := n.updPair (fun p => { p with unqualified := !ok })
    if ok then
      let seq := (n.rd PAIR_HBSEQ.VALUE + 1) % 4294967296
      let t := n.now
      let n := (n.wr PAIR_HBSEQ.VALUE seq).count PAIR_CNT_HB.VALUE
      (n.updPair (fun p => { p with sent := (p.sent ++ [(seq, t)]).drop (p.sent.length - 63), fresh := true })).sendHb false
    else n.sendHb true
  else if st = 3 || st = 4 || st = 6 then n.sendEcho (n.rd PAIR_HBSEQ.VALUE)
  else n

/-! ### Loss, fence, takeover (R438 to R441) -/

/-- The node fences (R439, R138, R464, R533, R245). -/
def Node.fence (n : Node) : Node :=
  let n := (n.pairGo 6).setOwnPin false
  let n := (n.guardClose.wr GRD_STATUS.TKO_EN 0).engHalt.gustsOff
  let n : Node := { n with time := { n.time with launches := [] } }
  let n := (n.wr TIME_LQ.PENDING 0).wr PAIR_STATUS.SYNC 0
  let n := n.updPair (fun p => { p with echoMark := none, handover := none, probation := none, snapQueued := false })
  let n := n.wr PAIR_STATUS.PROBATION 0
  let held := if n.msg.heldAcc then n.msg.accq else []
  let n := held.foldl (fun (n : Node) (a : AccItem) => match a with
    | .outbound f seq => n.unsubmit f seq
    | .canEntry i => n.canRefused i 8
    | .record seq => n.releaseRecord seq
    | _ => n) n
  let n : Node := { n with msg := { n.msg with accq := n.msg.accq.filter (fun a => !held.contains a) } }
  ((n.raise PAIR_EVT.FENCE).count PAIR_CNT_FENCES.VALUE).unholdAcc

/-- Steps 3 to 5 of a takeover (R440): TKO_EN, OWN, engines, heartbeats. -/
def Node.takeRole (n : Node) : Node :=
  let n := (n.wr GRD_STATUS.TKO_EN 1).setOwnPin true
  let gap := sat 16 ((n.now - n.pair.heardAt.getD n.now) / 1000)
  let n := (n.wr PAIR_GAPLAST.VALUE gap).wr PAIR_TKOCYC.VALUE n.cycle
  let n := (upTo 8).foldl (fun (n : Node) (e : Nat) =>
    let w := (Tab.get (fun _ => 0) n.pair.engStat e).toNat
    let st := bits w 0 3
    if 1 ≤ st && st ≤ 3 then
      let n := n.updEng e (fun r => { r with g := [], start := none })
      (n.wr (ENG_STATUS.STATE e) 2).cycleStart e
    else if 4 ≤ st then ((n.wr (ENG_STATUS.SAFE e) (bits w 3 1)).wr (ENG_STATUS.CAUSE e) (bits w 8 5)).setEng e st
    else n) n
  let t := n.now
  let n := (n.pairGo 2).updPair (fun p => { p with sent := [], echoMark := some t, fresh := false })
  (n.raise PAIR_EVT.TAKEOVER).count PAIR_CNT_TAKEOVERS.VALUE

/-- Takeover after a declaration (R440, R569, R627): solo acceptance, DEGRADED. -/
def Node.takeover (n : Node) : Node :=
  let n := (n.pairGo 5).updPair (fun p => { p with parts := [], syncSince := none, snapQueued := false })
  let n := (n.wr PAIR_STATUS.SYNC 0).wr PAIR_STATUS.LINK 0
  let n := n.journalTake.mirrorCanRecs.canTakeover.recordTakeover.refreshMode
  n.takeRole.unholdAcc

/-! ### Requests and handover (R445 to R447) -/

/-- Who asks for a takeover. -/
inductive Asker where
  | engine
  | guardian
  | command
  | rehearse
  | back
  deriving DecidableEq, Repr

/-- The code with which a request is refused, 0 when it is not (R445, R447). -/
def Node.requestCode (n : Node) (a : Asker) : Nat :=
  let lull := n.rd AON_LSTATUS.STATE
  if n.pairSt ≠ 2 || !n.on PAIR_STATUS.SYNC || n.on PAIR_STATUS.SOLO then 1
  else if !n.on PAIR_STATUS.LINK then 2
  else if (a = .engine || a = .guardian) && n.on PAIR_STATUS.PSUSPECT then 3
  else if a ≠ .back && n.pair.probation.isSome then 4
  else if n.on INA_STATUS.INAUG || lull = 1 || lull = 2 then 5
  else if n.pexArmed || n.rd PEX_STATUS.STATE = 7 then 6
  else if n.warning then 7
  else 0

/-- A request refused (R445). -/
def Node.requestRefuse (n : Node) (rehearse : Bool) (code : Nat) : Node :=
  let n := (n.wr PAIR_STATUS.REFUSE code).raise PAIR_EVT.REFUSED
  if rehearse then n.wr PAIR_STATUS.RESULT 3 else n

/-- A takeover request (R445): refused, or a handover begins (R446) and an HB frame shows it (log entry 27). One under way is not asked
for again. -/
def Node.askTakeover (n : Node) (a : Asker) : Node :=
  if n.pair.handover.isSome then n
  else
    let code := n.requestCode a
    if code ≠ 0 then n.requestRefuse (a = .rehearse) code
    else
      let t := n.now
      (n.updPair (fun p => { p with handover := some ⟨t, decide (a = .rehearse), decide (a = .back), decide (a = .engine ∨ a = .guardian ∨ a = .back)⟩ })).sendHb true

/-- Every engine has arrived for a handover (R446). -/
def Node.allArrived (n : Node) : Bool := (upTo 8).all (fun e => n.engSt e ≠ 1 && n.engSt e ≠ 2)

/-- All engines have arrived: the MARK, OWN off, STANDBY with SYNC (R446). Engines held stop; their states stay known for a takeover. -/
def Node.handMark (n : Node) (h : HandRun) : Node :=
  let n := n.linkSend 3 0x21 ([2, 0, 0, 0] ++ le4 n.pair.deltaNo)
  let n := n.setOwnPin false
  let states := (upTo 8).foldl (fun (t : Tab Word) (e : Nat) => Tab.set (fun _ => 0) t e (n.reg (ENG_STATUS.STATE e).addr)) []
  let t := n.now
  let n := n.updPair (fun p => { p with
    handover := none, probation := none, rehearsing := h.rehearse, engStat := states, echoMark := none, heardAt := some t
    applied := p.deltaNo, fresh := false })
  let n := ((n.pairGo 4).wr PAIR_STATUS.SYNC 1).wr PAIR_STATUS.PROBATION 0
  let n := if h.suspect then n.wr PAIR_STATUS.SUSPECT 1 else n
  (n.engHalt.wr GRD_STATUS.TKO_EN 0).refreshMode

/-- A handover MARK received by the standby (R446, R447): steps 3 to 5 of R440; the former active is synchronized. -/
def Node.markHandover (n : Node) : Node :=
  if n.pairSt ≠ 4 then n
  else
    let reh := n.pair.probation.isSome
    let back := n.pair.rehearsing
    let n := n.pairGo 5
    let n := n.journalTake.mirrorCanRecs.canTakeover.recordTakeover
    let n := n.takeRole
    let t := n.now
    let n := ((n.wr PAIR_STATUS.SYNC 1).wrB PAIR_STATUS.PROBATION reh).updPair (fun p => { p with
      probation := if reh then some t else none, rehearsing := false })
    let n := if back then n.wr PAIR_STATUS.RESULT 2 else n
    n.refreshMode

/-- Probation fails (R447): the new active hands back and marks itself SUSPECT. -/
def Node.probationFail (n : Node) : Node :=
  if n.pairSt = 2 && n.pair.probation.isSome then
    let n := (n.updPair (fun p => { p with probation := none })).wr PAIR_STATUS.PROBATION 0
    let n := ((n.wr PAIR_STATUS.RESULT 2).wr PAIR_STATUS.SUSPECT 1).count PAIR_CNT_SWAPBACKS.VALUE
    (n.raise PAIR_EVT.SWAPBACK).askTakeover .back
  else n

/-! ### Link service (R420, R424, R443) -/

/-- The link path leaves service (R424, R436, R443). A standby goes to RESYNC only once its partner is known to live: one that hears
nothing declares loss instead (DEDUCED, log entry 29). -/
def Node.linkLeft (n : Node) : Node :=
  if !n.on PAIR_STATUS.LINK then n
  else
    let n := (n.wr PAIR_STATUS.LINK 0).pairDegraded
    if n.pairSt = 2 then
      let n := (n.wr PAIR_STATUS.SYNC 0).updPair (fun p => { p with snapQueued := false })
      let held := n.msg.accq ≠ [] && n.rd MSG_STATUS.MODE = 1
      let n := if held then ({ n with msg := { n.msg with heldAcc := true } } : Node).wr MSG_STATUS.HELDACC 1 else n
      n.refreshMode
    else n.refreshMode

/-- A frame decoded on the link: its type, sequence and payload, after what every valid frame does (R421 to R424). -/
def Node.frameRx (n : Node) (f : PairRx) : Option (Nat × Nat × List Byte) × Node :=
  let b := f.bytes
  if !n.on PAIR_CTRL.EN || !n.pair.locked then (none, n)
  else if b.length < 16 || b.length ≠ 16 + le b 2 2 || le b (b.length - 4) 4 ≠ crc32 (b.take (b.length - 4)) then
    (none, n.count PAIR_CNT_LINKCRC.VALUE)
  else
    let ty := le b 0 1
    if !(([1, 2, 3, 0x10, 0x20, 0x21, 0x30] : List Nat).contains ty) then (none, n.count PAIR_CNT_LINKCRC.VALUE)
    else
      let t := n.now
      let back := n.pairSt = 4 && !n.on PAIR_STATUS.LINK
      let n := (n.updPair (fun p => { p with lastValid := some t })).wr PAIR_STATUS.LINK 1
      let n := if back then n.toResync else n
      let n := n.linkAcked (le b 8 4)
      (some (ty, le b 4 4, slice b 12 (b.length - 16)), n)

/-- A reliable frame in order is taken and the acknowledgement advances; another is discarded (R423). -/
def Node.inOrder (n : Node) (seq : Nat) (f : Node → Node) : Node :=
  if seq = (n.pair.rxSeq + 1) % 4294967296 then
    let n := f n
    let n := n.updPair (fun p => { p with rxSeq := seq })
    if n.pairSt = 3 || n.pairSt = 4 then n.sendEcho (n.rd PAIR_HBSEQ.VALUE) else n
  else n

/-- The common part of a frame row: the frame is received, and one of the row's type has its effect. -/
def Node.onFrame (n : Node) (f : PairRx) (ty : Nat) (g : Node → List Byte → Node) : Node :=
  let r := n.frameRx f
  match r.1 with
  | some x => if x.1 = ty then (if ty < 16 then g r.2 x.2.2 else r.2.inOrder x.2.1 (fun n => g n x.2.2)) else r.2
  | none => r.2

/-! ### Assumption (R430) -/

/-- Every object that an engine holds is freed (R430 step 1). -/
def Node.freeAllObjects (n : Node) : Node :=
  let n := (upTo 256).foldl (fun (n : Node) (p : Nat) => if (n.pageOwner p).isSome then n.setPage p none else n) n
  let n := ((upTo 4096).filter (fun c => (n.timerOwner c).isSome)).foldl (fun (n : Node) (c : Nat) => n.setTimer none c) n
  let n := ((upTo 8192).filter (fun c => (n.edgeOwner c).isSome)).foldl (fun (n : Node) (c : Nat) => n.setEdge none c) n
  ((upTo 1536).filter (fun i => match n.poolOf i with
    | some o => decide (o.2 < 8)
    | none => false)).foldl (fun (n : Node) (i : Nat) => n.poolSet i none) n

/-- A standby whose link is down assumes the active role (R430). -/
def Node.assume (n : Node) : Node :=
  let n := ((n.freeAllObjects.copyInits).engHalt).startSetup
  let n := ((n.pairGo 2).wr PAIR_STATUS.SOLO 1).setOwnPin true
  let n := (n.wr GRD_STATUS.TKO_EN 1).updPair (fun p => { p with sent := [], echoMark := none, syncSince := none })
  (n.raise PAIR_EVT.ASSUME).refreshMode

/-! ### Commands -/

/-- PAIR_CTRL.EN set (R432, R717). -/
def Node.pairOn (n : Node) : Node :=
  if n.on PAIR_CTRL.EN then n
  else
    let t := n.now
    let n := (n.wr PAIR_CTRL.EN 1).linkRestart
    let n := (n.pairGo 1).updPair (fun p => { p with
      negSince := t, peer := none, lastValid := none, heardAt := none, rcAt := none, echoMark := none, sent := [], fresh := false })
    n.refreshMode.sendNeg

/-- PAIR_CTRL.EN cleared (R432, R433). -/
def Node.pairOff (n : Node) : Node :=
  let n := ((n.wr PAIR_CTRL.EN 0).pairGo 0).setOwnPin false
  let n := (((n.wr PAIR_STATUS.LINK 0).wr PAIR_STATUS.RCPATH 0).wr PAIR_STATUS.SYNC 0).wr PAIR_STATUS.SOLO 0
  let n := (n.wr PAIR_STATUS.PROBATION 0).updPair (fun p => { p with
    handover := none, probation := none, echoMark := none, peer := none, syncSince := none, snapQueued := false, unacked := [], waiting := [] })
  (n.engRelease (upTo 8)).unholdAcc.inaUnhold

/-- PAIR_ENABLE: PAIR_CTRL.EN set (R717, R432). -/
def execPairEnable (_by : Initiator) (s : State) : Host.Outcome State Fault Refusal := s.onNode Node.pairOn

/-- PAIR_DISABLE: PAIR_CTRL.EN cleared (R432, R433). -/
def execPairDisable (_by : Initiator) (s : State) : Host.Outcome State Fault Refusal := s.onNode Node.pairOff

/-- HB: an HB frame (R426, R427). -/
def execHb (f : PairRx) (s : State) : Host.Outcome State Fault Refusal := s.onNode (fun n => n.onFrame f 1 Node.hbRx)

/-- ECHO: an ECHO frame (R427). -/
def execEcho (f : PairRx) (s : State) : Host.Outcome State Fault Refusal := s.onNode (fun n => n.onFrame f 2 Node.echoRx)

/-- NEG: a NEG frame (R428, R717). -/
def execNeg (f : PairRx) (s : State) : Host.Outcome State Fault Refusal := s.onNode (fun n => n.onFrame f 3 Node.negRx)

/-- JRNL: a journal change written to JRNL, and to the standby's own ring (R434, R248). -/
def execJrnl (f : PairRx) (s : State) : Host.Outcome State Fault Refusal :=
  s.onNode (fun n => n.onFrame f 0x10 (fun n b =>
    let off := le b 0 4
    let data := slice b 8 (le b 4 2)
    if n.pairSt = 3 || n.pairSt = 4 then
      let n := n.memPut (jrnlBase + off) data
      let n := if 0x1B000 ≤ off && off < 0x27000 then n.mirrorCanRecs else n
      n.jchange (.bytes off data.length) data.length
    else n))

/-- LINK_LOCK_LOSS: no valid character for 1 µs (R420, R424). -/
def execLinkLockLoss (s : State) : Host.Outcome State Fault Refusal :=
  s.onNode (fun n => if n.pair.locked then
    ((n.updPair (fun p => { p with locked := false })).count PAIR_CNT_LOCKLOSS.VALUE).linkLeft else n)

/-- LINK_LOCK_REGAIN: valid characters are decoded again (R420, R704). -/
def execLinkLockRegain (s : State) : Host.Outcome State Fault Refusal := s.onNode (·.updPair (fun p => { p with locked := true }))

/-- LINK_RETRANSMIT: 20 µs without the acknowledgement advancing (R423): every unacknowledged frame again, with RETX. -/
def execLinkRetransmit (s : State) : Host.Outcome State Fault Refusal :=
  s.onNode (fun n =>
    let t := n.now
    let n := n.pair.unacked.foldl (fun (n : Node) (u : Nat × Nat × List Byte) =>
      (n.emit .pair (pairFrame (le u.2.2 0 1) u.1 n.pair.rxSeq true (slice u.2.2 12 (u.2.2.length - 16)))).count PAIR_CNT_LINKRETX.VALUE) n
    n.updPair (fun p => { p with unacked := p.unacked.map (fun u => (u.1, t, u.2.2)) }))

/-- LINK_OUT_OF_SERVICE: 600 µs without a valid frame (R424). -/
def execLinkOutOfService (s : State) : Host.Outcome State Fault Refusal := s.onNode (·.linkLeft)

/-- HEARTBEAT_TICK: 250 µs of TB_LOCAL have passed (R425). An unqualified tick fails probation (R447). -/
def execHeartbeatTick (s : State) : Host.Outcome State Fault Refusal :=
  s.onNode (fun n => let n := n.heartbeat; if n.pairSt = 2 && n.pair.unqualified then n.probationFail else n)

/-- NEG_TIMEOUT: 100 ms without a valid frame settle the role by the strap (R428). -/
def execNegTimeout (s : State) : Host.Outcome State Fault Refusal :=
  s.onNode (fun n => if n.pairSt = 1 && n.pair.lastValid.isNone then (if n.on PAIR_STATUS.STRAP then n.settleActive true else n.settleStandby) else n)

/-- ASSUME: a standby with the link down and no active heartbeat in roll-call for 64 cycles (R430). -/
def execAssume (s : State) : Host.Outcome State Fault Refusal :=
  s.onNode (fun n => if (n.pairSt = 3 || n.pairSt = 4) && !n.on PAIR_STATUS.LINK && n.on PAIR_CTRL.ASSUME then n.assume else n)

/-- LOSS_DECLARATION: 2.0 ms without a fresh heartbeat on either path (R438, R440); in RESYNC no takeover follows; not from K on (R496). -/
def execLossDeclaration (s : State) : Host.Outcome State Fault Refusal :=
  s.onNode (fun n =>
    if n.pair.stilled then n
    else if n.pairSt = 4 then (n.raise PAIR_EVT.DECLARE).takeover
    else if n.pairSt = 3 then n.raise PAIR_EVT.DECLARE
    else n)

/-- FENCE_TIMEOUT: the fence timer expires 2.5 ms after the echo mark (R439). -/
def execFenceTimeout (s : State) : Host.Outcome State Fault Refusal :=
  s.onGuard (fun n => if n.pairSt = 2 && !n.on PAIR_STATUS.SOLO && n.pair.echoMark.isSome && !n.pair.stilled then n.fence else n)

/-- PARTNER_LOST: 2.0 ms with nothing from the partner on either path (R439, R245). -/
def execPartnerLost (s : State) : Host.Outcome State Fault Refusal :=
  s.onNode (fun n =>
    if n.pairSt = 2 && !n.on PAIR_STATUS.SOLO then
      let n := (n.wr PAIR_STATUS.SOLO 1).wr PAIR_STATUS.SYNC 0
      let n := n.updPair (fun p => { p with echoMark := none, snapQueued := false })
      (n.raise PAIR_EVT.PARTNERLOST).unholdAcc
    else n)

/-- HANDOVER: PAIR_CMD.HANDOVER (R445, R446). -/
def execHandover (_by : Initiator) (s : State) : Host.Outcome State Fault Refusal := s.onNode (·.askTakeover .command)

/-- HANDOVER_MARK: all engines have arrived (R446). -/
def execHandoverMark (s : State) : Host.Outcome State Fault Refusal :=
  s.onNode (fun n => match n.pair.handover with
    | some h => if n.pairSt = 2 && n.allArrived then n.handMark h else n
    | none => n)

/-- HOLDWAIT_TIMEOUT: HOLDWAIT passes before all engines have arrived (R446). -/
def execHoldwaitTimeout (s : State) : Host.Outcome State Fault Refusal :=
  s.onNode (fun n => match n.pair.handover with
    | some h =>
      if n.allArrived then n
      else ((n.updPair (fun p => { p with handover := none })).engRelease (upTo 8)).requestRefuse h.rehearse 8
    | none => n)

/-- REHEARSE: PAIR_CMD.REHEARSE (R447). -/
def execRehearse (_by : Initiator) (s : State) : Host.Outcome State Fault Refusal := s.onNode (·.askTakeover .rehearse)

/-- PROBATION_FAIL: one of the failures of R447 within the 2 s. -/
def execProbationFail (_cause : ProbationCause) (s : State) : Host.Outcome State Fault Refusal := s.onNode (·.probationFail)

/-- PROBATION_END: 2 s have passed without a failure (R447). -/
def execProbationEnd (s : State) : Host.Outcome State Fault Refusal :=
  s.onNode (fun n => if n.pairSt = 2 && n.pair.probation.isSome then
    ((n.updPair (fun p => { p with probation := none })).wr PAIR_STATUS.PROBATION 0).wr PAIR_STATUS.RESULT 1 else n)

/-- PAIR_CMD.BIST (R449, R655): in RESYNC or STANDBY with a granted gust of class 3. -/
def Node.pairBist (n : Node) : Node :=
  if (n.pairSt = 3 || n.pairSt = 4) && n.gustGranted (n.rd PAIR_CTRL.BISTGUST) 3 then (n.wr PAIR_STATUS.BIST 1).toResync
  else n.wr PAIR_STATUS.BIST 3

/-- PAIR_BIST: PAIR_CMD.BIST (R448). -/
def execPairBist (_by : Initiator) (s : State) : Host.Outcome State Fault Refusal := s.onNode (·.pairBist)

/-- BIST_DONE: the test has ended; the node synchronizes again (R448). -/
def execBistDone (failed : Bool) (s : State) : Host.Outcome State Fault Refusal :=
  s.onNode (fun n => if n.rd PAIR_STATUS.BIST = 1 then (n.wr PAIR_STATUS.BIST (if failed then 4 else 2)).toResync else n)

/-- CLEARSUSPECT: PAIR_CMD.CLEARSUSPECT (R446, R449). -/
def execClearsuspect (_by : Initiator) (s : State) : Host.Outcome State Fault Refusal := s.onNode (·.wr PAIR_STATUS.SUSPECT 0)

/-- PAIR_RESYNC: PAIR_CMD.RESYNC on the standby (R432, R449). -/
def execPairResync (_by : Initiator) (s : State) : Host.Outcome State Fault Refusal :=
  s.onNode (fun n => if n.pairSt = 4 then n.toResync else n)

/-- SYNC_COMPLETE: every section is acknowledged and the backlog lies below 32 KB (R437). -/
def execSyncComplete (s : State) : Host.Outcome State Fault Refusal :=
  s.onNode (fun n =>
    if n.pairSt = 3 && n.on PAIR_STATUS.LINK && !n.on PAIR_STATUS.IMGMIS && n.rd PAIR_STATUS.BIST ≠ 1 then (n.pairGo 4).syncDone
    else if n.pairSt = 2 && n.pair.snapQueued && n.snapAcked && n.rd PAIR_MIRLAG.VALUE < 32768 then n.syncDone
    else n)

/-- RESYNCLONG: synchronization is not complete after 2 s (R437). -/
def execResynclong (s : State) : Host.Outcome State Fault Refusal :=
  s.onNode (fun n => if n.pair.syncSince.isSome && !n.pair.longTold then
    (n.updPair (fun p => { p with longTold := true })).raise PAIR_EVT.RESYNCLONG else n)

end Sys2Proof.Machine
end

