-- ==== Sys2Proof/Machine/Trap.lean ====
section
/-! DEFINITION. An engine that enters OVERRUN or FAULT (08_cycle_engines.md R337 to R342), and the guardian's block (03_barel_cycle.md R136). -/

namespace Sys2Proof.Machine

/-- The entries of engine `e`'s safe table of a kind (R339): target and value. -/
def Node.safeEntries (n : Node) (e kind : Nat) : List (Nat × Word) :=
  ((upTo 64).filter (fun m => n.rd (ENG_SAFEA.KIND e m) = kind)).map (fun m =>
    (n.rd (ENG_SAFEA.TARGET e m), n.reg (ENG_SAFEB.VALUE e m).addr))

/-- The safe table of engine `e` is applied (R339): its LOCAL entries in one commit, its pins, its CAN frames; what it does not own is
skipped and counted. -/
def Node.safeApply (n : Node) (e : Nat) : Node :=
  let k1 := n.safeEntries e 1
  let mine := k1.filter (fun p => n.ownsEntry e p.1)
  let k2 := n.safeEntries e 2
  let pins := k2.filter (fun p => n.pinOwned e (p.1 % 32))
  let n := n.countBy (ENG_CNT_SAFESKIP.VALUE e) (k1.length - mine.length + (k2.length - pins.length))
  let n := n.sigCommit e mine
  let n := pins.foldl (fun (n : Node) (p : Nat × Word) =>
    n.gpioDrive (BitVec.ofNat 32 (2 ^ (p.1 % 32))) (BitVec.ofNat 32 (b2n (bit p.2.toNat 0) * 2 ^ (p.1 % 32)))) n
  let n := (n.safeEntries e 3).foldl (fun (n : Node) (p : Nat × Word) =>
    let r := n.canSafe e (p.1 % 2048)
    if r.1 then r.2 else r.2.count (ENG_CNT_SAFESKIP.VALUE e)) n
  n.commitDelta e { (EngRun.empty) with shadow := mine }

/-- Engine `e` enters OVERRUN (cause 1) or FAULT (R338, R341): its cycle is discarded, its safe table applied, its gusts released, the
stop recorded, and PAIR asked for a takeover under TKO. -/
def Node.engTrap (n : Node) (e cause addr : Nat) : Node :=
  let n := n.engDrop e
  let n := (n.wr (ENG_FAULTPC.VALUE e) ((n.bankBase + (n.engRun e).pc.toNat) % 4294967296)).wr (ENG_FAULTADDR.VALUE e) (addr % 4294967296)
  let n := ((n.wr (ENG_STATUS.SAFE e) 1).wr (ENG_STATUS.CAUSE e) cause).wr (ENG_STATUS.STOPPEND e) 0
  let st := if cause = 1 then 5 else 6
  let n := (n.wr (ENG_STATUS.STATE e) st).safeApply e
  let n := n.engTell e
  let held := n.handlesWhere (fun h => n.rd (PWR_GH.STATE h) = 1 && n.rd (PWR_GH.OWNER h) = e)
  let n := held.foldl Node.gustStops (n.gustFreeOwner e)
  let n := if cause = 1 then (n.count (ENG_CNT_OVERRUNS.VALUE e)).raise (ENG_EVT.OVERRUN e)
    else (n.count (ENG_CNT_FAULTS.VALUE e)).raise (ENG_EVT.FAULT e)
  let n := n.fixedRecord 13 (leBytes 1 e ++ leBytes 1 st ++ leBytes 1 cause ++ [0] ++ leBytes 4 (n.rd (ENG_FAULTPC.VALUE e))
    ++ leBytes 4 (n.rd (ENG_FAULTADDR.VALUE e)))
  let n := (n.pexLost e).probationFail
  if n.on (ENG_CTRL.TKO e) then n.askTakeover .engine else n

/-- WATCHDOG_OVERRUN: the time since the cycle start reaches ENGn_LIMIT (R337, R338). -/
def execWatchdogOverrun (e : Fin 8) (s : State) : Host.Outcome State Fault Refusal :=
  s.onNode (fun n => if n.engSt e = 1 then n.engTrap e 1 0 else n)

/-- GUARD_BLOCKED: a transmit request in a position that no window opens (R136); at 16 in one round the guardian latches. -/
def execGuardBlocked (position : Nat) (s : State) : Host.Outcome State Fault Refusal :=
  s.onNode (fun n =>
    let st := n.rd GRD_STATUS.STATE
    if (st ≠ 1 && st ≠ 2) || n.posOpen n.cycle position || n.bar.blockedPos.contains position then n
    else
      let n := n.updBar (fun b => { b with blockedPos := b.blockedPos ++ [position] })
      let k := sat 8 (n.rd GRD_STATUS.BLOCKED + 1)
      let n := (n.wr GRD_STATUS.BLOCKED k).count GRD_BLOCKED.VALUE
      if k < 16 then n
      else
        let n := n.guardLatch.probationFail
        if n.on GRD_CTRL.LATCH_TKO then n.askTakeover .guardian else n)

end Sys2Proof.Machine
end

