-- ==== Sys2Proof/Machine/Exchange.lean ====
section
/-! DEFINITION. Program exchange and patches (10_program_exchange.md R398 to R413). -/

namespace Sys2Proof.Machine

/-- PEX_STATUS.STATE (R415). -/
def Node.pexSt (n : Node) : Nat := n.rd PEX_STATUS.STATE

/-- The engines of the swap group. -/
def Node.group (n : Node) : List Nat := (upTo 8).filter (fun e => bit (n.rd PEX_GROUP.GROUP) e)

/-! ### Load and arm -/

/-- PEX_LOAD.GO (R399): a source in flash is copied into the inactive bank; a GO while PEX is busy does nothing. -/
def Node.pexLoad (n : Node) : Node :=
  let st := n.pexSt
  if st ≠ 0 && st ≠ 3 && st ≠ 4 then n
  else
    let src := n.rd PEX_LOAD.SRC
    let n : Node := { n with pex := { n.pex with slot := if src = 2 then 0 else if src = 1 then 2 else 1 } }
    if src = 2 then n.wr PEX_STATUS.STATE 2
    else (n.loadSlot (src = 1) n.otherBank).wr PEX_STATUS.STATE 1

/-- Verification ends (R399): VERIFIED with the map read, or FAILED. -/
def Node.pexVerify (n : Node) : Node :=
  if n.pexSt ≠ 1 && n.pexSt ≠ 2 then n
  else
    let limit := if n.pexSt = 1 then n.slotRoom else 1048576
    if n.checkImage n.otherBank limit false = 0 then
      ((n.wr PEX_STATUS.STATE 3).hashWrite PEX_NEWHASH_LO.VALUE PEX_NEWHASH_HI.VALUE n.otherBank).readMap n.otherBank
    else ((n.wr PEX_STATUS.STATE 4).count PEX_CNT_VERIFYFAIL.VALUE).raise PEX_EVT.VERIFYFAIL

/-- Does a kind 5, 6 or 7 record's range fail its check (R403 code 4)? -/
def Node.rangeBad (n : Node) (r : CarryRec) : Bool :=
  let own := fun (held : Nat → Option Nat) => (upTo r.b).any (fun k => match held (r.a + k) with
    | some e => decide (e ≠ r.eng)
    | none => false)
  (r.kind = 5 && (decide (256 < r.a + r.b) || own n.pageOwner || decide (n.rd (ENG_QDMEM.QUOTA r.eng) < r.b)))
  || (r.kind = 6 && (decide (4096 < r.a + r.b) || own n.timerOwner || decide (n.rd (ENG_QTMR.QUOTA r.eng) < r.b)))
  || (r.kind = 7 && (decide (8192 < r.a + r.b) || own n.edgeOwner || decide (n.rd (ENG_QEDGE.QUOTA r.eng) < r.b)))

/-- PEX_CMD.ARM (R403, R404): the first code that applies, or ARMED. Whether the standby holds the image (code 6) is nothing the link
tells: a free value (log entry 30). -/
def Node.pexArm (n : Node) : Node :=
  let refuse := fun (n : Node) (c : Nat) => n.wr PEX_STATUS.ERR c
  let free := n.freeWord
  let code :=
    if n.pexSt ≠ 3 then 1
    else if n.pex.mapFrom ≠ n.rd64 PEX_ACTHASH_LO.VALUE PEX_ACTHASH_HI.VALUE then 2
    else if (upTo 8).any (fun e => 1 ≤ n.engSt e && n.engSt e ≤ 3 && !bit (n.rd PEX_GROUP.GROUP) e) then 3
    else if n.pex.map.any n.rangeBad then 4
    else if 65536 < n.pex.carried + n.pex.initialized then 5
    else if n.on PAIR_STATUS.SYNC && bit free.1 0 then 6
    else if n.pex.patch.isSome then 7
    else if n.warning then 8
    else 0
  let n := if n.on PAIR_STATUS.SYNC then free.2 else n
  if code ≠ 0 then refuse n code
  else
    let here := (n.group.filter (fun e => n.engSt e = 0 || 4 ≤ n.engSt e)).foldl (fun (a : Nat) (e : Nat) => a + 2 ^ e) 0
    let n := ((n.wr PEX_STATUS.STATE 5).wr PEX_STATUS.ERR 0).wr PEX_GROUP.ARRIVED here
    { n with pex := { n.pex with firstAt := none, lastAt := none, readDone := false } }

/-! ### The copy (R406, R407) -/

/-- A timer cell as READ takes it: TW0, TW1, TW2 and start. -/
def Node.timerState (n : Node) (c : Nat) : Word × Word × Word × Nat :=
  (n.reg (TMR_TW0.KIND c).addr, n.reg (TMR_TW1.PRESET c).addr, n.reg (TMR_TW2.VALUE c).addr, Tab.get (fun _ => 0) n.cellStart c)

/-- A carried timer cell put into its new place (R407); another kind resets it. -/
def Node.timerCarry (n : Node) (r : CarryRec) (s : Word × Word × Word × Nat) : Node :=
  let kind := bits s.1.toNat 0 3
  let want := r.lenA % 8
  if want ≠ 0 && kind ≠ 0 && want ≠ kind then
    ((n.timerClear r.b (some r.eng)).count PEX_CNT_KINDRESET.VALUE).raise PEX_EVT.KINDRESET
  else
    let n := n.setReg (TMR_TW0.KIND r.b).addr ((s.1 &&& 0x1F) ||| BitVec.ofNat 32 (256 + 32 * r.eng))
    let n := (n.setReg (TMR_TW1.PRESET r.b).addr s.2.1).setReg (TMR_TW2.VALUE r.b).addr s.2.2.1
    { n with cellStart := Tab.set (fun _ => 0) n.cellStart r.b s.2.2.2 }

/-- The initializer byte of a DMEM address in the image at `base`, if a section gives it (R406 step 3). -/
def Node.initByte (n : Node) (base a : Nat) : Option Byte :=
  ((n.sections base).find? (fun x => x.kind = 3 && x.target ≤ a && a < x.target + x.length)).map (fun x =>
    n.memByte (base + x.offset + (a - x.target)))

/-- The remainder of a longer new variable takes its initializer bytes. -/
def Node.initRest (n : Node) (base : Nat) (r : CarryRec) : Node :=
  (upTo (r.lenB - r.lenA)).foldl (fun (n : Node) (i : Nat) => match n.initByte base (r.b + r.lenA + i) with
    | some v => n.memPut (r.b + r.lenA + i) [v]
    | none => n) n

/-- Steps 1 to 6 of R406. -/
def Node.swapApply (n : Node) : Node :=
  let map := n.pex.map
  let base := n.otherBank
  let carry := (map.filter (·.kind = 1)).map (fun r => (r, n.memBytes r.a (min r.lenA r.lenB)))
  let timers := (map.filter (·.kind = 2)).map (fun r => (r, n.timerState r.a))
  let edges := (map.filter (·.kind = 3)).map (fun r => (r, n.rd (TMR_EW.PREV r.a)))
  let mine := fun (o : Option Nat) => match o with
    | some e => bit (n.rd PEX_GROUP.GROUP) e
    | none => false
  let freeT := (upTo 4096).filter (fun c => mine (n.timerOwner c))
  let freeE := (upTo 8192).filter (fun c => mine (n.edgeOwner c))
  let freeP := (upTo 256).filter (fun p => mine (n.pageOwner p))
  let n := freeP.foldl (fun (n : Node) (p : Nat) => n.setPage p none) n
  let n := freeT.foldl (fun (n : Node) (c : Nat) => n.setTimer none c) n
  let n := freeE.foldl (fun (n : Node) (c : Nat) => n.setEdge none c) n
  let n := map.foldl (fun (n : Node) (r : CarryRec) =>
    if r.kind = 5 then (upTo r.b).foldl (fun (n : Node) (k : Nat) => n.setPage (r.a + k) (some r.eng)) n
    else if r.kind = 6 then (upTo r.b).foldl (fun (n : Node) (k : Nat) => n.setTimer (some r.eng) (r.a + k)) n
    else if r.kind = 7 then (upTo r.b).foldl (fun (n : Node) (k : Nat) => n.setEdge (some r.eng) (r.a + k)) n
    else n) n
  let n := carry.foldl (fun (n : Node) (x : CarryRec × List Byte) => (n.memPut x.1.b x.2).initRest base x.1) n
  let n := (map.filter (·.kind = 4)).foldl (fun (n : Node) (r : CarryRec) => n.memPut r.b (n.memBytes (base + r.a) r.lenB)) n
  let n := timers.foldl (fun (n : Node) (x : CarryRec × (Word × Word × Word × Nat)) => n.timerCarry x.1 x.2) n
  let n := edges.foldl (fun (n : Node) (x : CarryRec × Nat) => n.wr (TMR_EW.PREV x.1.b) x.2) n
  let n := map.foldl (fun (n : Node) (r : CarryRec) =>
    if r.kind = 8 then n.wr (ENG_ENTRY.VALUE r.eng) (r.b % 1048576)
    else if r.kind = 9 then (upTo 64).foldl (fun (n : Node) (m : Nat) =>
      (n.setReg (ENG_SAFEA.TARGET r.eng m).addr (BitVec.ofNat 32 (n.memLe (base + r.a + 8 * m) 4) &&& 0x3FFFF)).setReg
        (ENG_SAFEB.VALUE r.eng m).addr (BitVec.ofNat 32 (n.memLe (base + r.a + 8 * m + 4) 4))) n
    else n) n
  let n := n.group.foldl (fun (n : Node) (e : Nat) => n.updEng e (fun r => { r with g := [] })) n
  let n : Node := { n with pex := { n.pex with slot := n.boot.slot }, boot := { n.boot with slot := n.pex.slot } }
  let lo := n.rd PEX_ACTHASH_LO.VALUE
  let hi := n.rd PEX_ACTHASH_HI.VALUE
  let n := (n.wr PEX_ACTHASH_LO.VALUE (n.rd PEX_NEWHASH_LO.VALUE)).wr PEX_ACTHASH_HI.VALUE (n.rd PEX_NEWHASH_HI.VALUE)
  ((n.wr PEX_NEWHASH_LO.VALUE lo).wr PEX_NEWHASH_HI.VALUE hi).wr PEX_STATUS.BANK (1 - n.rd PEX_STATUS.BANK)

/-- Does READ meet an uncorrectable word, in DMEM or in the carry map (R410 code 13)? -/
def Node.readUce (n : Node) : Bool :=
  n.uce ≠ [] && ((n.pex.map.any (fun r => r.kind = 1 && n.uceIn r.a (min r.lenA r.lenB))) || (match n.sectionOf n.otherBank 6 with
    | some x => n.uceIn (n.otherBank + x.offset) x.length
    | none => false))

/-- Every group engine has arrived (R406): the range check again, READ, and the copy; in pair mode the marker goes to the standby (R411). -/
def Node.swapCopy (n : Node) : Node :=
  if !n.pexArmed || !n.group.all (fun e => bit (n.rd PEX_GROUP.ARRIVED) e) then n
  else if n.pex.map.any n.rangeBad then n.pexAbort 12
  else if n.readUce then n.pexAbort 13
  else
    let t := n.now
    let n := n.wr PEX_STATUS.STATE 7
    let n : Node := { n with pex := { n.pex with readDone := true, lastAt := some (n.pex.lastAt.getD t) } }
    let n := if n.on PAIR_STATUS.SYNC && n.mirroring then
        let d := n.pair.deltaNo
        let n : Node := { n with pex := { n.pex with marker := some d } }
        n.linkSend 3 0x21 ([1, 0, 0, 0] ++ le4 d)
      else n
    n.swapApply

/-- The copy is complete (R406 step 7, R409): release, IDLE, DONE; it waits for the standby's acknowledgement (R411). -/
def Node.swapDone (n : Node) : Node :=
  if n.pexSt ≠ 7 || n.pex.marker.isSome then n
  else
    let hold := sat 16 ((n.now - n.pex.lastAt.getD n.now) / 100)
    let n := (n.wr PEX_HOLDLAST.VALUE hold).wr PEX_HOLDMAX.VALUE (max hold (n.rd PEX_HOLDMAX.VALUE))
    let n := ((n.wr PEX_STATUS.STATE 0).wr PEX_SWAPCYC.VALUE n.cycle).wr PEX_STATUS.PATCHED 0
    let n := n.wr PEX_GROUP.ARRIVED 0
    let n : Node := { n with pex := { n.pex with firstAt := none, lastAt := none, readDone := false } }
    let n := (n.count PEX_CNT_SWAPS.VALUE).raise PEX_EVT.DONE
    (n.engRelease (upTo 8)).engHeldStarts

/-! ### Patches (R412) -/

/-- The SRAM address of patch word `i`, if the patch may write it (R412). -/
def Node.patchAddr (n : Node) (es : List Nat) (i : Nat) : Option Nat :=
  let a := n.rd (PEX_PADDR.ADDR i) / 4 * 4
  if a < 0x100000 then (if n.inConst a then some (n.bankBase + a) else none)
  else if 0x20200000 ≤ a && a < 0x20300000 then
    match n.pageOwner ((a - 0x20200000) / 4096) with
    | some e => if es.contains e then some a else none
    | none => none
  else none

/-- PEX_PCTRL with GO (R412): refused, or the named engines are to be held. A GO while a patch waits does nothing. -/
def Node.patchGo (n : Node) (v : Word) : Node :=
  let n := n.setReg PEX_PCTRL.COUNT.addr (v &&& 0xFF1F)
  let k := min 16 (n.rd PEX_PCTRL.COUNT)
  let es := (upTo 8).filter (fun e => bit (n.rd PEX_PCTRL.ENG) e)
  if !bit v.toNat 31 || k = 0 || n.pex.patch.isSome then n
  else if 5 ≤ n.pexSt then (n.wr PEX_PSTAT.STATE 3).wr PEX_PSTAT.ERR 3
  else
    let ws := (upTo k).filterMap (fun i => (n.patchAddr es i).map (fun a => (a, n.reg (PEX_PDATA.DATA i).addr)))
    if ws.length < k then (n.wr PEX_PSTAT.STATE 3).wr PEX_PSTAT.ERR 1
    else ({ n with pex := { n.pex with patch := some (es, ws) } } : Node).wr PEX_PSTAT.STATE 1 |>.wr PEX_PSTAT.ERR 0

/-- Have the engines of a list arrived at their CYC, or stopped? -/
def Node.stillAll (n : Node) (es : List Nat) : Bool := es.all (fun e => n.engSt e ≠ 1 && n.engSt e ≠ 2)

/-- The named engines have arrived: the words are written, mirrored, and the engines released (R412, R413). -/
def Node.patchApply (n : Node) (es : List Nat) (ws : List (Nat × Word)) : Node :=
  let n := ws.foldl (fun (n : Node) (w : Nat × Word) => n.memPut w.1 (leBytes 4 w.2.toNat)) n
  let n := n.mirrorDelta (ws.map (fun w => deltaRec 3 (es.headD 0) w.1 (leBytes 4 w.2.toNat)))
  let n : Node := { n with pex := { n.pex with patch := none } }
  let n := (n.wr PEX_PSTAT.STATE 2).wr PEX_STATUS.PATCHED 1
  ((n.count PEX_CNT_PATCHES.VALUE).raise PEX_EVT.PATCH).engRelease es

/-! ### Commands -/

/-- PEX_LOAD: PEX_LOAD.GO (R399). -/
def execPexLoad (_by : Initiator) (s : State) : Host.Outcome State Fault Refusal := s.onNode (·.pexLoad)

/-- LOAD_VERIFY_DONE: load and verification end (R399). -/
def execLoadVerifyDone (s : State) : Host.Outcome State Fault Refusal := s.onNode (·.pexVerify)

/-- PEX_ARM: PEX_CMD.ARM (R403). -/
def execPexArm (_by : Initiator) (s : State) : Host.Outcome State Fault Refusal := s.onNode (·.pexArm)

/-- PEX_ABORT: PEX_CMD.ABORT (R410 code 11). -/
def execPexAbort (_by : Initiator) (s : State) : Host.Outcome State Fault Refusal := s.onNode (·.pexAbort 11)

/-- SWAP_COPY: every group engine has arrived (R406). -/
def execSwapCopy (s : State) : Host.Outcome State Fault Refusal := s.onNode (·.swapCopy)

/-- SWAP_DONE: the copy is complete (R409). -/
def execSwapDone (s : State) : Host.Outcome State Fault Refusal := s.onNode (·.swapDone)

/-- PEX_WAIT_TIMEOUT: PEX_WAIT has passed since the first arrival (R410 code 9, R412). -/
def execPexWaitTimeout (s : State) : Host.Outcome State Fault Refusal :=
  s.onNode (fun n =>
    if n.pexArmed then (if n.group.all (fun e => bit (n.rd PEX_GROUP.ARRIVED) e) then n else n.pexAbort 9)
    else match n.pex.patch with
      | some p =>
        if n.stillAll p.1 then n
        else
          let n : Node := { n with pex := { n.pex with patch := none } }
          ((n.wr PEX_PSTAT.STATE 3).wr PEX_PSTAT.ERR 2).engRelease p.1
      | none => n)

/-- STANDBY_ACK_TIMEOUT: the hold bound has passed without the standby's acknowledgement (R411). -/
def execStandbyAckTimeout (s : State) : Host.Outcome State Fault Refusal :=
  s.onNode (fun n => match n.pex.marker with
    | some _ =>
      let n : Node := { n with pex := { n.pex with marker := none } }
      let n := ((n.wr PEX_STATUS.STBYLATE 1).raise PEX_EVT.STBYLATE).wr PAIR_STATUS.SYNC 0
      (n.updPair (fun p => { p with snapQueued := false })).refreshMode
    | none => n)

/-- PATCH: a write to PEX_PCTRL with GO (R412). -/
def execPatch (_by : Initiator) (value : Word) (s : State) : Host.Outcome State Fault Refusal :=
  s.onNode (·.patchGo (value ||| 0x80000000))

/-- PATCH_APPLY: the named engines have arrived (R412). -/
def execPatchApply (s : State) : Host.Outcome State Fault Refusal :=
  s.onNode (fun n => match n.pex.patch with
    | some p => if n.stillAll p.1 then n.patchApply p.1 p.2 else n
    | none => n)

/-- MARK: a swap marker (R411) or a handover marker (R446) received by the standby. A standby without the verified image enters RESYNC. -/
def execMark (f : PairRx) (s : State) : Host.Outcome State Fault Refusal :=
  s.onNode (fun n => n.onFrame f 0x21 (fun n b =>
    let kind := le b 0 1
    if kind = 2 then n.markHandover
    else if kind = 1 && n.pairSt = 4 then
      (if n.pexSt = 3 then (n.swapApply.wr PEX_STATUS.STATE 0).wr PEX_SWAPCYC.VALUE n.cycle else n.toResync)
    else n))

end Sys2Proof.Machine
end

