-- ==== Sys2Proof/Machine/Recorder.lean ====
section
/-! DEFINITION. The recorder area and the recorder's commands (17_event_recorder.md R613, R618 to R634). The places of the header's fields
are the model's own (log entry 31). -/

namespace Sys2Proof.Machine

/-- The start of the recorder area in QSPI_PER (R592, R623). -/
def areaBase : Nat := 0x210000

/-- Bytes of the recorder area. -/
def Node.areaBytes (n : Node) (off len : Nat) : List Byte := n.flashBytes .per (areaBase + off) len

/-- Bytes written to the recorder area. -/
def Node.areaPut (n : Node) (off : Nat) (bs : List Byte) : Node := n.flashPut .per (areaBase + off) bs

/-- Slots of the area, N + M (R623). -/
def Node.areaSlots (n : Node) : Nat := if n.on (QSPI_STATUS.READY 1) then (n.qspi.sizeP - areaBase - 0x4000) / 384 else 0

/-- M in service; 0 until the area is formatted or rebuilt. -/
def Node.rolling (n : Node) : Nat := n.rd EVR_AREAM.VALUE

/-- The slot of record `s` (R625). -/
def recSlot (frozen rolling s : Nat) : Nat := if s ≤ frozen then s - 1 else frozen + (s - frozen - 1) % rolling

/-- The offset of a slot. -/
def slotOff (slot : Nat) : Nat := 0x4000 + 384 * slot

/-- Is this a record with a good length, CRC and valid mark (R616)? -/
def recValid (bs : List Byte) : Bool :=
  let l := le bs 0 2
  48 ≤ l && l ≤ 384 && l % 16 = 0 && le bs (l - 4) 4 = 0x45565252 && le bs (l - 8) 4 = crc32 (bs.take (l - 8))

/-- The area sequence of a record. -/
def recSeq (bs : List Byte) : Nat := le bs 4 8

/-- The slot's bytes. -/
def Node.slotBytes (n : Node) (slot : Nat) : List Byte := n.areaBytes (slotOff slot) 384

/-- The slot's old valid mark set to 0 (R625, R626). -/
def Node.zeroMark (n : Node) (slot : Nat) : Node :=
  let l := le (n.areaBytes (slotOff slot) 2) 0 2
  if 48 ≤ l && l ≤ 384 then n.areaPut (slotOff slot + l - 4) [0, 0, 0, 0] else n

/-- The slots that hold valid records, with their sequences. -/
def Node.slotSeqs (n : Node) (slots : List Nat) : List (Nat × Nat) :=
  slots.filterMap (fun i =>
    let b := n.slotBytes i
    if recValid b then some (i, recSeq b) else none)

/-! ### The area header (R624) -/

/-- A header copy: write count, N, M, next area sequence, operating time in ms, power-cycle count, clear log count, collector table. -/
structure EvrHeader where
  writes : Nat
  frozen : Nat
  rolling : Nat
  next : Nat
  opMs : Nat
  cycles : Nat
  logCount : Nat
  collector : List (Nat × Nat)

/-- The bytes of a header copy; the CRC-32 covers all before it. -/
def hdrBytes (h : EvrHeader) : List Byte :=
  let b := leBytes 4 0x41525645 ++ leBytes 4 h.writes ++ leBytes 4 h.frozen ++ leBytes 4 h.rolling ++ leBytes 8 h.next ++ leBytes 8 h.opMs
    ++ leBytes 4 h.cycles ++ leBytes 4 h.logCount ++ leBytes 4 h.collector.length
    ++ h.collector.flatMap (fun p => leBytes 8 p.1 ++ leBytes 8 p.2)
  let b := b ++ List.replicate (2092 - b.length) 0
  b ++ leBytes 4 (crc32 b)

/-- The header copy at an offset, when valid. -/
def Node.hdrCopy (n : Node) (off : Nat) : Option EvrHeader :=
  let b := n.areaBytes off 2096
  if le b 0 4 = 0x41525645 && le b 2092 4 = crc32 (b.take 2092) then
    some ⟨le b 4 4, le b 8 4, le b 12 4, le b 16 8, le b 24 8, le b 32 4, le b 36 4,
      (upTo (min 128 (le b 40 4))).map (fun i => (le b (44 + 16 * i) 8, le b (52 + 16 * i) 8))⟩
  else none

/-- The valid copy with the higher write count. -/
def Node.hdrNewest (n : Node) : Option EvrHeader :=
  match n.hdrCopy 0 with
  | none => n.hdrCopy 0x1000
  | some a =>
    match n.hdrCopy 0x1000 with
    | none => some a
    | some b => some (if a.writes < b.writes then b else a)

/-- The area header written to the copy that is not the newest (R624). -/
def Node.writeHeader (n : Node) : Node :=
  let w := (n.hdrNewest.map (·.writes)).getD 0
  let off := w % 2 * 4096
  n.areaPut off (hdrBytes ⟨w + 1, n.evr.frozen, n.rolling, n.evrSeq, n.evr.opNs / 1000000, n.evr.powerCycles, n.evr.logCount,
    n.evr.collector⟩)

/-! ### Flush -/

/-- EVR_STATUS.STATE when no flush or clear runs (R635). -/
def Node.evrRest (n : Node) : Node :=
  n.wr EVR_STATUS.STATE (if !n.on EVR_CTRL.EN then 0 else if n.evr.held then 5 else if n.rolling = 0 then 1 else 2)

/-- A record written to its slot: the old valid mark first, its own last (R625). -/
def Node.writeSlot (n : Node) (seq : Nat) (bs : List Byte) : Node :=
  let slot := recSlot n.evr.frozen n.rolling seq
  ((if seq ≤ n.evr.frozen then n else n.zeroMark slot).areaPut (slotOff slot) bs).releaseRecord seq

/-- One staged record flushed. A staging slot with an uncorrectable word: the record is taken from MSG when MSG has accepted it, else it
is dropped and the next LOSS record reports it (R24). -/
def Node.flushOne (n : Node) (r : StagedRec) : Node :=
  if !n.uceIn (stageAddr r.seq) r.len then n.writeSlot r.seq (n.memBytes (stageAddr r.seq) r.len)
  else
    let n := (n.count EVR_CNT_BUFUCE.VALUE).uncorrectable
    match n.evr.guarded.find? (fun g => g.1 = r.seq && g.2.2.2) with
    | some g => n.writeSlot r.seq (n.memBytes (blockAddr (g.2.1 + 1)) r.len)
    | none =>
      let n := n.count EVR_CNT_LOST.VALUE
      { n with evr := { n.evr with lossFirst := if n.evr.lossCount = 0 then r.seq else n.evr.lossFirst
                                   lossCount := n.evr.lossCount + 1 } }

/-- A flush to its end (R619): the unflushed records in sequence order, then the area header; then the records that waited for room are
committed (R620). -/
def Node.flushAll (n : Node) : Node :=
  let n := n.evr.unflushed.foldl Node.flushOne n
  let n := ({ n with evr := { n.evr with unflushed := [], flush := none } } : Node).wr EVR_STATUS.UNFLUSHED 0
  let n := (n.writeHeader.count EVR_CNT_FLUSHES.VALUE).evrRest
  let w := n.evr.waiting
  w.foldl (fun (n : Node) (x : WaitRec) => n.commitWith Node.raise x true) { n with evr := { n.evr with waiting := [] } }

/-- EVR_FLUSH_DONE: a flush other than the power-fail flush ends (R619). -/
def execEvrFlushDone (s : State) : Host.Outcome State Fault Refusal :=
  s.onNode (fun n => match n.evr.flush with
    | none => n
    | some .powerFail => n
    | some _ => n.flushAll)

/-- EVR_FLUSH_CMD: EVR_CMD.FLUSH starts a flush while EVR_FLUSH.GUST names a granted class-4 gust (R619). -/
def execEvrFlushCmd (_by : Initiator) (s : State) : Host.Outcome State Fault Refusal :=
  s.onNode (fun n => if n.flushGust then n.startFlush .command else n)

/-! ### Clear log -/

/-- The clear log entry `i`, when valid: sequence of the CLEAR record, challenge, records invalidated (R634). -/
def Node.clearEntry (n : Node) (i : Nat) : Option (Nat × Nat × Nat) :=
  let b := n.areaBytes (0x2000 + 48 * i) 48
  if le b 44 4 = 0x45565243 && le b 40 4 = crc32 (b.take 40) then some (le b 0 8, le b 16 8, le b 24 4) else none

/-- Valid entries of the clear log. -/
def Node.clearEntries (n : Node) : List Nat := (upTo 64).filter (fun i => (n.clearEntry i).isSome)

/-- The rolling slots. -/
def Node.rollingSlots (n : Node) : List Nat := (upTo n.rolling).map (n.evr.frozen + ·)

/-- Steps 3 and 4 of a clear (R633): every rolling slot's valid mark is zeroed and the CLEAR record is committed. -/
def Node.clearEnd (n : Node) (index challenge gone : Nat) : Node :=
  let n := n.rollingSlots.foldl Node.zeroMark n
  (n.fixedRecord 7 (leBytes 4 index ++ leBytes 4 gone ++ leBytes 8 challenge)).raise EVR_EVT.CLEARED

/-- A clear in full (R633). -/
def Node.clearAll (n : Node) (challenge : Nat) : Node :=
  let n := n.flushAll
  let gone := (n.slotSeqs n.rollingSlots).length
  let i := n.evr.logCount
  let b := leBytes 8 n.evrSeq ++ leBytes 8 n.stamp ++ leBytes 8 challenge ++ leBytes 4 gone ++ List.replicate 12 0
  let n := n.areaPut (0x2000 + 48 * i) (b ++ leBytes 4 (crc32 b) ++ leBytes 4 0x45565243)
  let n := ({ n with evr := { n.evr with logCount := i + 1 } } : Node).wr EVR_CLRCMD.LOGCOUNT (i + 1)
  n.clearEnd i challenge gone

/-- CHALLENGE_ISSUE: a read of EVR_CLRCHAL_LO issues a challenge; within 10 s of a wrong response it reads 0 (R632). -/
def Node.challengeIssue (n : Node) : Node :=
  if n.now < n.evr.lockedUntil then n.wr64 EVR_CLRCHAL_LO.VALUE EVR_CLRCHAL_HI.VALUE 0
  else
    let (c, n) := n.entropy64
    { n.wr64 EVR_CLRCHAL_LO.VALUE EVR_CLRCHAL_HI.VALUE c with evr := { n.evr with challenge := some (c, n.now) } }

/-- The response to a challenge (R632). -/
def Node.clearResponse (n : Node) (challenge : Nat) : List Byte :=
  tag64 (n.otpBytes 6 4) ([0x45, 0x56, 0x52, 0x43] ++ leBytes 8 n.uid ++ leBytes 8 challenge ++ leBytes 1 n.evr.logCount ++ [0, 0, 0])

/-- EVR_CLRCMD.GO (R632, R633): refused while the log is full; a challenge serves one use; a clear key that is not sealed makes every
response wrong (R657). -/
def Node.clearGo (n : Node) : Node :=
  if n.rd EVR_STATUS.STATE ≠ 2 && n.rd EVR_STATUS.STATE ≠ 3 then n
  else if 64 ≤ n.evr.logCount then n.wr EVR_CLRCMD.RESULT 3
  else
    let good := match n.evr.challenge with
      | none => none
      | some (c, at_) =>
        if n.now ≤ at_ + 60000000000 && bit (n.otpWord 18) 1
            && n.clearResponse c = leBytes 4 (n.rd EVR_CLRRESP_LO.VALUE) ++ leBytes 4 (n.rd EVR_CLRRESP_HI.VALUE) then some c else none
    let n := { n with evr := { n.evr with challenge := none } }
    match good with
    | some c => (n.wr EVR_CLRCMD.RESULT 1).clearAll c
    | none =>
      let n := { n with evr := { n.evr with lockedUntil := n.now + 10000000000 } }
      (((n.wr64 EVR_CLRCHAL_LO.VALUE EVR_CLRCHAL_HI.VALUE 0).wr EVR_CLRCMD.RESULT 2).count EVR_CNT_CLRFAIL.VALUE).raise EVR_EVT.CLRFAIL

/-- CHALLENGE_ISSUE: a read of EVR_CLRCHAL_LO (R632). -/
def execChallengeIssue (_by : Initiator) (s : State) : Host.Outcome State Fault Refusal := s.onNode (·.challengeIssue)

/-- CHALLENGE_EXPIRY: 60 s have passed since the issue (R632). -/
def execChallengeExpiry (s : State) : Host.Outcome State Fault Refusal :=
  s.onNode (fun n => { n with evr := { n.evr with challenge := none } })

/-- CLEAR: EVR_CLRCMD.GO (R633). -/
def execClear (_by : Initiator) (s : State) : Host.Outcome State Fault Refusal := s.onNode (·.clearGo)

/-! ### Format and start -/

/-- Would this N place every record in its slot? -/
def slotsFit (total frozen : Nat) (recs : List (Nat × Nat)) : Bool :=
  frozen + 256 ≤ total && recs.all (fun r => r.2 ≠ 0 && recSlot frozen (total - frozen) r.2 = r.1)

/-- N, M and what the slots say of the next sequence (R626): N is the first number, EVR_AREA.N tried before the others, that puts every
valid record where it lies (DESIGN CHOICE, log entry 32: the spec does not say how N is found again). -/
def Node.rebuild (n : Node) : Node :=
  let total := n.areaSlots
  let recs := n.slotSeqs (upTo total)
  if recs = [] then n
  else
    match (n.rd EVR_AREA.VALUE :: upTo total).find? (fun k => slotsFit total k recs) with
    | none => n
    | some k =>
      let last := recs.foldl (fun (a : Nat × Nat) (r : Nat × Nat) => if a.2 < r.2 then r else a) (0, 0)
      let st := le (n.slotBytes last.1) 28 8
      let copies := (recs.map (fun r => n.slotBytes r.1)).filter (fun b => le b 2 1 = 3)
      let coll := copies.foldl (fun (l : List (Nat × Nat)) (b : List Byte) =>
        (le b 20 8, max (le b 12 8) (((l.find? (fun p => p.1 = le b 20 8)).map (·.2)).getD 0)) :: l.filter (fun p => p.1 ≠ le b 20 8)) []
      let n := { n with evr := { n.evr with frozen := k, opNs := st % 2 ^ 40 * 1000000, powerCycles := st / 2 ^ 40
                                            collector := coll.take 128, logCount := n.clearEntries.length } }
      let n := ((n.wr EVR_AREAM.VALUE (total - k)).wr64 EVR_SEQ_LO.VALUE EVR_SEQ_HI.VALUE (last.2 + 1)).wr EVR_STATUS.REBUILT 1
      n.writeHeader.raise EVR_EVT.REBUILT

/-- Valid records from the header's next sequence onward are counted (R624). -/
def Node.countSlots : Nat → Node → Node
  | 0, n => n
  | k + 1, n =>
    let b := n.slotBytes (recSlot n.evr.frozen n.rolling n.evrSeq)
    if recValid b && recSeq b = n.evrSeq then Node.countSlots k (n.wr64 EVR_SEQ_LO.VALUE EVR_SEQ_HI.VALUE (n.evrSeq + 1)) else n

/-- The area opened: from the newest valid header, else rebuilt (R624, R626). -/
def Node.openArea (n : Node) : Node :=
  if n.areaSlots = 0 then n
  else
    match n.hdrNewest with
    | none => n.rebuild
    | some h =>
      let n := { n with evr := { n.evr with frozen := h.frozen, opNs := h.opMs * 1000000, powerCycles := h.cycles, logCount := h.logCount
                                            collector := h.collector } }
      let n := (n.wr EVR_AREAM.VALUE h.rolling).wr64 EVR_SEQ_LO.VALUE EVR_SEQ_HI.VALUE h.next
      let n := { n with evr := { n.evr with logCount := max n.evr.logCount n.clearEntries.length } }
      Node.countSlots (h.frozen + h.rolling) n

/-- Accepted records whose valid mark was not written are stored in their own slots, unless a slot holds the record already (R627). -/
def Node.handRecords (n : Node) : Node :=
  if n.rolling = 0 then n
  else
    let l := n.journal.records
    let n := l.foldl (fun (n : Node) (r : Nat × List Byte) =>
      let b := n.slotBytes (recSlot n.evr.frozen n.rolling r.1)
      let n := if recValid b && recSeq b = r.1 then n.releaseRecord r.1 else n.writeSlot r.1 r.2
      if n.evrSeq ≤ r.1 then n.wr64 EVR_SEQ_LO.VALUE EVR_SEQ_HI.VALUE (r.1 + 1) else n) n
    { n with journal := { n.journal with records := [] } }

/-- A clear that lost its CLEAR record is completed (R634): the last valid log entry names a sequence not yet given. -/
def Node.finishClear (n : Node) : Node :=
  if n.rolling = 0 then n
  else
    match n.clearEntries.getLast? with
    | none => n
    | some i =>
      match n.clearEntry i with
      | some (s, c, gone) => if n.evrSeq ≤ s then n.clearEnd i c gone else n
      | none => n

/-- The first EN after reset or wake (R615 START, R624, R627, R628, R634). -/
def Node.evrStart (n : Node) : Node :=
  let n := n.openArea
  let n := { n with evr := { n.evr with started := true, powerCycles := n.evr.powerCycles + 1 } }
  let n := if n.evrSeq = 0 then n.wr64 EVR_SEQ_LO.VALUE EVR_SEQ_HI.VALUE 1 else n
  let n := ((n.wr EVR_CLRCMD.LOGCOUNT n.evr.logCount).evrRest.handRecords).finishClear
  n.fixedRecord 12 (leBytes 1 (n.rd PWR_PORSRC.VALUE) ++ [0] ++ leBytes 2 (n.reg AON_WSRC.SQUALL.addr).toNat
    ++ leBytes 1 (n.rd SYS_BOOTSTAT0.SOURCE) ++ [0, 0, 0] ++ leBytes 4 (n.reg SYS_ID.PART.addr).toNat)

/-- A write to EVR_CTRL (R624, R635). -/
def Node.evrCtrl (n : Node) (v : Word) : Node :=
  let n := (n.wrB EVR_CTRL.EN (bit v.toNat 0)).wrB EVR_CTRL.COLLECT (bit v.toNat 1)
  if !n.on EVR_CTRL.EN then ({ n with evr := { n.evr with flush := none } } : Node).evrRest
  else if !n.evr.started then n.evrStart
  else if n.rd EVR_STATUS.STATE = 0 then n.evrRest
  else n

/-- EVR_ENABLE: EVR_CTRL.EN is written to 1 (R624). -/
def execEvrEnable (_by : Initiator) (s : State) : Host.Outcome State Fault Refusal :=
  s.onNode (fun n => n.evrCtrl (BitVec.ofNat 32 (setBits (n.reg EVR_CTRL.EN.addr).toNat 0 1 1)))

/-- EVR_CMD.FORMAT (R626). -/
def Node.evrFormat (n : Node) : Node :=
  let total := n.areaSlots
  let k := n.rd EVR_AREA.VALUE
  if n.hdrNewest.isSome || (n.slotSeqs (upTo (min total k))).any (fun r => r.2 ≤ k) || n.clearEntries ≠ [] || total < k + 256 then
    n.wr EVR_STATUS.ERR 1
  else
    let n := (upTo total).foldl Node.zeroMark n
    let n := ({ n with evr := { n.evr with frozen := k } } : Node).wr EVR_AREAM.VALUE (total - k)
    let n := if n.evrSeq = 0 then n.wr64 EVR_SEQ_LO.VALUE EVR_SEQ_HI.VALUE 1 else n
    let n := (n.wr EVR_STATUS.ERR 0).writeHeader.writeHeader
    if n.rd EVR_STATUS.STATE = 1 then n.evrRest else n

/-- EVR_FORMAT (R626). -/
def execEvrFormat (_by : Initiator) (s : State) : Host.Outcome State Fault Refusal := s.onNode (·.evrFormat)

/-! ### Reading and collecting -/

/-- EVR_READ: EVR_RDCMD.GO starts the copy (R631). -/
def execEvrRead (_by : Initiator) (s : State) : Host.Outcome State Fault Refusal := s.onNode (fun n => n.wr EVR_RDCMD.RESULT 1)

/-- The record of a sequence: from staging while it is there, else from QSPI_PER (R631). -/
def Node.findRecord (n : Node) (s : Nat) : Option (List Byte) :=
  let b := n.memBytes (stageAddr s) 384
  if !n.uceIn (stageAddr s) 384 && recValid b && recSeq b = s then some (b.take (le b 0 2))
  else
    let c := n.slotBytes (recSlot n.evr.frozen n.rolling s)
    if n.rolling ≠ 0 && s ≠ 0 && recValid c && recSeq c = s then some (c.take (le c 0 2)) else none

/-- EVR_READ_DONE: the copy ends; the record stands in the read window (R618, R631). -/
def execEvrReadDone (s : State) : Host.Outcome State Fault Refusal :=
  s.onNode (fun n =>
    if n.rd EVR_RDCMD.RESULT ≠ 1 then n
    else
      match n.findRecord (n.rd64 EVR_RDSEQ_LO.VALUE EVR_RDSEQ_HI.VALUE) with
      | some b => (n.memPut 0x20690000 b).wr EVR_RDCMD.RESULT 2
      | none => n.wr EVR_RDCMD.RESULT 3)

/-- The collector table after a copy from `uid` (R630): a new UID replaces the least recently used entry whose UID is not in the
directory, the least recently used one when all are. -/
def Node.collectorTable (n : Node) (uid seq : Nat) : List (Nat × Nat) :=
  let l := n.evr.collector.filter (fun p => p.1 ≠ uid)
  if l.length < 128 then (uid, seq) :: l
  else
    let out := ((l.filter (fun p => !n.dir.any (fun r => r.uid = p.1))).getLast?).getD (l.getLastD (0, 0))
    (uid, seq) :: l.filter (fun p => p.1 ≠ out.1)

/-- Is `len` bytes at `a` within DMEM, JRNL or GENBUF (R629)? -/
def colAddrOk (a len : Nat) : Bool :=
  (0x20200000 ≤ a && a + len ≤ 0x20300000) || (0x203A0000 ≤ a && a + len ≤ 0x204A0000) || (0x207E0000 ≤ a && a + len ≤ 0x20800000)

/-- EVR_COLCMD.GO (R629, R630). -/
def Node.collect (n : Node) : Node :=
  let a := n.rd EVR_COLADDR.VALUE
  let b := n.memBytes a (n.memLe a 2)
  let st := n.rd EVR_STATUS.STATE
  if !n.on EVR_CTRL.COLLECT || st = 0 then n.wr EVR_COLCMD.RESULT 4
  else if !colAddrOk a (max 48 (min 384 b.length)) then n.wr EVR_COLCMD.RESULT 3
  else if n.uceIn a b.length || !recValid b then n.wr EVR_COLCMD.RESULT 1
  else if ((n.evr.collector.find? (fun p => p.1 = le b 20 8)).map (fun p => decide (le b 12 8 ≤ p.2))).getD false then
    ((n.wr EVR_COLCMD.RESULT 2).count EVR_CNT_COLDUP.VALUE).raise EVR_EVT.COLDUP
  else if n.evr.held || st = 4 then (n.count EVR_CNT_MISSED.VALUE).lossNote
  else if (65536 < stagedBytes n.evr.unflushed + b.length || 1024 < n.evr.unflushed.length + 1) && !n.flushGust then
    (n.count EVR_CNT_LOST.VALUE).lossNote
  else
    let n := n.commitLoss Node.raise
    let n := n.stageCopy (copyBytes b 3 n.evrSeq 1 n.evrSeq)
    let n := { n with evr := { n.evr with collector := n.collectorTable (le b 20 8) (le b 12 8) } }
    (n.wr EVR_COLCMD.RESULT 0).count EVR_CNT_COLLECTED.VALUE

/-- COLLECT (R629). -/
def execCollect (_by : Initiator) (s : State) : Host.Outcome State Fault Refusal := s.onNode (·.collect)

/-- A write to EVR_SADDR (R613). -/
def Node.snapAddr (n : Node) (v : Word) : Node :=
  let a := v.toNat
  if a < 0x40000000 || 0x4007FFFF < a || a % 4 ≠ 0 || a = 0x4000701C || a = 0x4000702C then n.raise EVR_EVT.SNAPERR
  else n.wr (EVR_SADDR.ADDR (32 * n.rd EVR_TSEL.TRIGGER + n.rd EVR_SSEL.ENTRY)) a

/-- SNAPSHOT_ADDRESS_WRITE (R613). -/
def execSnapshotAddressWrite (_by : Initiator) (value : Word) (s : State) : Host.Outcome State Fault Refusal :=
  s.onNode (fun n => n.snapAddr value)

end Sys2Proof.Machine
end

