-- ==== Sys2Proof/Machine/Power.lean ====
section
/-! DEFINITION. The budget, the supply monitor and the power-fail flush (12_power.md R463 to R478). The monitor's filters run outside the
model: a row tells that a crossing has counted (log entry 33). -/

namespace Sys2Proof.Machine

/-- CALM or PWR_HCALM on a handle: the operation that used a granted gust stops as at a revocation (R460, R462, R465). -/
def Node.calmHandle (n : Node) (owner h : Nat) : Nat × Node :=
  let was := n.rd (PWR_GH.STATE h)
  let r := n.gustCalm owner h
  if r.1 = 0 && was = 1 then (0, r.2.gustStops h) else r

/-- PWR_HCALM: frees or withdraws a host-owned handle (R482). -/
def Node.hcalm (n : Node) (v : Word) : Node :=
  let r := n.calmHandle 8 (v.toNat % 256)
  r.2.wr PWR_HCALM.ERR r.1

/-- PWR_HCALM (R482). -/
def execPwrHcalm (_by : Initiator) (value : Word) (s : State) : Host.Outcome State Fault Refusal := s.onNode (fun n => n.hcalm value)

/-- BUDGET_WRITE: a new budget; it revokes nothing, and what it lets fit is granted by the queue (R463). Ignored under LOCK (R478). -/
def Node.writeBudget (n : Node) (v : Word) : Node := if n.on PWR_CTRL.LOCK then n else n.wr PWR_BUDGET.BUDGET (v.toNat % 1024)

/-- BUDGET_WRITE (R463). -/
def execBudgetWrite (_by : Initiator) (value : Word) (s : State) : Host.Outcome State Fault Refusal := s.onNode (fun n => n.writeBudget value)

/-- GUST_MAXHOLD: a granted gust has been held for MAXHOLD and is revoked (R464); classes 7 and 8 have none. -/
def Node.gustExpire (n : Node) (h : Nat) : Node :=
  let c := n.rd (PWR_GH.CLASS h)
  if n.rd (PWR_GH.STATE h) ≠ 1 || c = 0 || 7 ≤ c || n.rd (PWR_CLASS.MAXHOLD (c - 1)) = 0 then n
  else ((n.gustRevoke h).gustStops h |>.count PWR_CNT_EXPIRED.VALUE).raise PWR_EVT.EXPIRE

/-- GUST_MAXHOLD (R464). -/
def execGustMaxhold (handle : Fin 256) (s : State) : Host.Outcome State Fault Refusal := s.onNode (fun n => n.gustExpire handle)

/-- A write to PWR_MON (R467, R479): ignored, with LEVELERR, when the reset level would lie less than 50 mV below the warning level. -/
def Node.writeMon (n : Node) (v : Word) : Node :=
  if n.on PWR_CTRL.LOCK then n
  else if min 40 (bits v.toNat 0 6) < min 40 (bits v.toNat 8 6) + 5 then (n.wr PWR_STATUS.LEVELERR 1).raise PWR_EVT.LEVELERR
  else (n.setReg PWR_MON.WARN.addr (v &&& 0x0F0F3F3F)).wr PWR_STATUS.LEVELERR 0

/-- PWR_MON_WRITE (R467). -/
def execPwrMonWrite (_by : Initiator) (value : Word) (s : State) : Host.Outcome State Fault Refusal := s.onNode (fun n => n.writeMon value)

/-- PWR_LOCK: PWR_CTRL.LOCK is written to 1 (R478). -/
def execPwrLock (_by : Initiator) (s : State) : Host.Outcome State Fault Refusal := s.onNode (fun n => n.wr PWR_CTRL.LOCK 1)

/-- The filter run in ns (R479). -/
def Node.filterNs (n : Node) : Nat := max 1 (n.rd PWR_MON.FILTER) * 1000

/-- Does handle `h` carry an erase that has begun (R469)? -/
def Node.eraseOn (n : Node) (h : Nat) : Bool :=
  (n.qspi.eraseB.map (·.gust)) = some h || (n.qspi.eraseP.map (·.gust)) = some h

/-- A revocation at a warning (R464, R485). -/
def Node.warnRevoke (n : Node) (h : Nat) : Node :=
  if n.rd (PWR_GH.STATE h) = 2 then n.gustFree h
  else if n.rd (PWR_GH.STATE h) = 1 && !(n.rd (PWR_GH.CLASS h) = 7 && n.eraseOn h) then
    (((n.gustRevoke h).gustStops h).count PWR_CNT_REVOKED.VALUE).raise PWR_EVT.REVOKE
  else n

/-- An erase that would end later than 2 ms after the warning is suspended; how long an erase still takes is not given, so a free value says
whether it is (R469). -/
def Node.eraseSuspend (n : Node) (k : Nat) : Node :=
  if (if k = 0 then n.qspi.eraseB else n.qspi.eraseP).isNone || n.on (QSPI_STATUS.SUSPENDED k) then n
  else
    let (f, n) := n.freeWord
    if f % 2 = 0 then n else ((n.wr (QSPI_STATUS.SUSPENDED k) 1).wr (QSPI_STATUS.ERASING k) 0).raise (QSPI_EVT.SUSPEND k)

/-- The actions of a warning (R468, R469, R470), in their order. -/
def Node.supplyWarning (n : Node) (mv : Nat) : Node :=
  if n.rd PWR_STATUS.STATE = 1 then n
  else
    let first := n.rd PWR_STATUS.STATE = 0
    let n := ((n.wr PWR_LEVEL.VALUE mv).wr PWR_STATUS.STATE 1).wr PWR_STATUS.BELOW 1
    let n := { n with pwr := { n.pwr with dipStart := if first then some (n.now - n.filterNs) else n.pwr.dipStart, warnSeq := n.evrSeq } }
    let n := ((n.wr PWR_STATUS.SHORTHOLD 0).count PWR_CNT_WARNS.VALUE).raise PWR_EVT.WARN
    let n := n.fixedRecord 2 (leBytes 2 (mv % 4096))
    let n := if n.rd EVR_STATUS.STATE = 0 then n
      else ({ n with evr := { n.evr with held := true, flush := some .powerFail } } : Node).wr EVR_STATUS.STATE 5
    let n := (n.wr MSG_STATUS.POWERHOLD 1).pexAbort 14
    let n := (n.handlesWhere (fun h => n.rd (PWR_GH.STATE h) ≠ 0)).foldl Node.warnRevoke n
    let n := ({ n with pwr := { n.pwr with flushStart := n.now } } : Node).wr PWR_STATUS.FLUSHING 1
    let n := ((n.wr PWR_STATUS.FLUSHED 0).wr PWR_STATUS.SHED 1).audShed
    (n.eraseSuspend 0).eraseSuspend 1

/-- SUPPLY_WARNING (R468). -/
def execSupplyWarning (millivolt : Nat) (s : State) : Host.Outcome State Fault Refusal := s.onGuard (fun n => n.supplyWarning millivolt)

/-- The journal delta is written to the ring in whole (R471). -/
def Node.ringAll (n : Node) : Node := (upTo n.msg.changes.length).foldl (fun (n : Node) _ => n.ringWrite) n

/-- The records staged in EVRBUF are flushed, when there is an area to write them to (R471). -/
def Node.recordsOut (n : Node) : Node :=
  if n.rd EVR_STATUS.STATE = 0 then n else if n.rolling = 0 then n.evrRest else n.flushAll

/-- POWER_FAIL_FLUSH_DONE: the journal delta and the staged records are written (R471); EVR commits records again (R622). -/
def Node.flushDone (n : Node) : Node :=
  if !n.on PWR_STATUS.FLUSHING then n
  else
    let n := n.ringAll
    let n := { n with evr := { n.evr with held := false, flush := none } }
    let n := (n.recordsOut.wr PWR_STATUS.FLUSHING 0).wr PWR_STATUS.FLUSHED 1
    n.wr PWR_FLUSHLAST.VALUE (sat 16 ((n.now - n.pwr.flushStart) / 1000))

/-- POWER_FAIL_FLUSH_DONE (R471). -/
def execPowerFailFlushDone (s : State) : Host.Outcome State Fault Refusal := s.onNode (·.flushDone)

/-- SUPPLY_RECOVERING: the rising crossing of the warning level counts (R475). -/
def Node.supplyRising (n : Node) (mv : Nat) : Node :=
  if n.rd PWR_STATUS.STATE ≠ 1 then n
  else
    let n := ((n.wr PWR_LEVEL.VALUE mv).wr PWR_STATUS.STATE 2).wr PWR_STATUS.BELOW 0
    { n with pwr := { n.pwr with riseAt := n.now - n.filterNs } }

/-- SUPPLY_RECOVERING (R475). -/
def execSupplyRecovering (millivolt : Nat) (s : State) : Host.Outcome State Fault Refusal := s.onGuard (fun n => n.supplyRising millivolt)

/-- A suspended erase resumes (R594). -/
def Node.eraseResume (n : Node) (k : Nat) : Node :=
  if n.on (QSPI_STATUS.SUSPENDED k) then (n.wr (QSPI_STATUS.SUSPENDED k) 0).wr (QSPI_STATUS.ERASING k) 1 else n

/-- SUPPLY_NORMAL: shed units resume, and the dip is recorded (R475, R476). -/
def Node.supplyNormal (n : Node) (lowest : Nat) : Node :=
  if n.rd PWR_STATUS.STATE ≠ 2 then n
  else
    let us := sat 32 ((n.pwr.riseAt - n.pwr.dipStart.getD n.pwr.riseAt) / 1000)
    let n := ((n.wr PWR_STATUS.STATE 0).wr PWR_STATUS.SHED 0).wr MSG_STATUS.POWERHOLD 0
    let n := { n with pwr := { n.pwr with dipStart := none } }
    let n := ((n.wr PWR_DIPLAST.VALUE us).count PWR_CNT_DIPS.VALUE).raise PWR_EVT.RECOVER
    let n := n.fixedRecord 3 (leBytes 4 us ++ leBytes 2 lowest ++ leBytes 2 (n.rd PWR_FLUSHLAST.VALUE))
    (n.eraseResume 0).eraseResume 1

/-- SUPPLY_NORMAL (R475). -/
def execSupplyNormal (lowest : Nat) (s : State) : Host.Outcome State Fault Refusal := s.onGuard (fun n => n.supplyNormal lowest)

end Sys2Proof.Machine
end

