-- ==== Sys2Proof/Machine/Reset.lean ====
section
/-! DEFINITION. The reset sources and what a reset leaves (18_startup_identity.md R641; 12_power.md R456 to R458, R473; R679). -/

namespace Sys2Proof.Machine

/-- Is the register of class Always-on (R679): every AON register with its window entries, and PWR_PORSRC? -/
def alwaysOn (a : Nat) : Bool := a % 4294967296 / 4096 = 0x40003 || a = PWR_PORSRC.VALUE.addr

/-- The node held in reset by a source, as SYS_RSTCAUSE numbers them: everything but AON starts again, the devices and OTP keep their
contents (R641). A lead's ring ends with the lead. -/
def Node.resetMain (n : Node) (source : Nat) : Node :=
  let regs := n.regs.filter (fun p => alwaysOn p.1)
  let lull := { n.lull with voted := none, wakeHeard := [], squallAt := none, ring := none }
  let n' : Node := { regs := regs, qboot := n.qboot, qper := n.qper, otp := n.otp, journal := n.journal, lull := lull, freeCtr := n.freeCtr
                     out := n.out
                     boot := { held := true, sources := if n.boot.held then n.boot.sources ++ [source] else [source]
                               shortHold := n.boot.shortHold } }
  if n.lull.ring.isSome && n.rd AON_LSTATUS.STATE ≤ 2 then n'.wr AON_LSTATUS.STATE 0 else n'

/-- A VDD_AON POR: the whole node, AON included; FIRST tells of it (R457, R514, R641). -/
def Node.resetAll (n : Node) : Node :=
  let n' : Node := { qboot := n.qboot, qper := n.qper, otp := n.otp, journal := n.journal, freeCtr := n.freeCtr, out := n.out
                     boot := { held := true, sources := [0], shortHold := n.boot.shortHold } }
  n'.wr AON_WSRC.FIRST 7

/-- VDD_AON_POR (R457, R641). -/
def execVddAonPor (s : State) : Host.Outcome State Fault Refusal := s.always (·.resetAll)

/-- A main-rail POR: the detectors are recorded, but for the one expected while MAIN_EN is low (R456, R458). -/
def Node.railPor (n : Node) (detectors : BitVec 7) : Node :=
  if n.lull.asleep || detectors = 0 then n else (n.resetMain 1).wr PWR_PORSRC.VALUE detectors.toNat

/-- MAIN_RAIL_POR (R456). -/
def execMainRailPor (detectors : BitVec 7) (s : State) : Host.Outcome State Fault Refusal := s.always (fun n => n.railPor detectors)

/-- NRESET: a low pulse of at least 1 µs counts (R641). -/
def execNreset (ns : Nat) (s : State) : Host.Outcome State Fault Refusal :=
  s.always (fun n => if n.lull.asleep || ns < 1000 then n else n.resetMain 2)

/-- The reset level is crossed (R467). A flush not complete leaves its mark for the next start-up (R473). -/
def Node.supplyReset (n : Node) : Node :=
  if n.lull.asleep then n
  else
    let short := n.rd PWR_STATUS.STATE ≠ 0 && !n.on PWR_STATUS.FLUSHED
    let n := { n with boot := { n.boot with shortHold := n.boot.shortHold || short } }
    n.resetMain 3

/-- SUPPLY_RESET (R467). -/
def execSupplyReset (_millivolt : Nat) (s : State) : Host.Outcome State Fault Refusal := s.always (·.supplyReset)

/-- SYS_CTRL.SWRST (R681): from the host port or the management agent only; any other write is ignored and counted. -/
def Node.softReset (n : Node) (by_ : Initiator) : Node :=
  match by_ with
  | .host => n.resetMain 4
  | .agent => n.resetMain 4
  | _ => n.count SYS_CNT_SWRSTIGN.VALUE

/-- SWRST (R681). -/
def execSwrst (by_ : Initiator) (s : State) : Host.Outcome State Fault Refusal := s.onNode (fun n => n.softReset by_)

end Sys2Proof.Machine
end

