-- ==== Sys2Proof/Machine/Lull.lean ====
section
/-! DEFINITION. Lull, wake and the Squall (13_lull_and_wake.md R487 to R510). -/

namespace Sys2Proof.Machine

/-- AON_LSTATUS.STATE (R487). -/
def Node.lullSt (n : Node) : Nat := n.rd AON_LSTATUS.STATE

/-- AON_LSTATUS.STATE written. -/
def Node.lullGo (n : Node) (st : Nat) : Node := n.wr AON_LSTATUS.STATE st

/-! ### The vote (R490, R491) -/

/-- The program's vote: reason and vote (R490, R511). -/
def Node.programVote (n : Node) : Nat × Nat :=
  let v := n.rd AON_LCTRL.VOTE
  if v = 1 || v = 2 then (0, v) else (max 16 (n.rd AON_LCTRL.REASON), 0)

/-- Is a wake input that counts asserted at the vote? A row tells when an input became active, none when it ended, so a free value answers
for an input that has been active (log entry 34). -/
def Node.wakeAsserted (n : Node) : Bool × Node :=
  if n.lull.wakeHeard.any (fun i => n.on (if i = 0 then AON_WCTRL.WIN0EN else AON_WCTRL.WIN1EN)) then
    let (f, n) := n.freeWord
    (f % 2 = 1, n)
  else (false, n)

/-- The node's reply: reason and vote; the lowest applicable hardware reason makes it a refusal (R490, R491). -/
def Node.lullVote (n : Node) : (Nat × Nat) × Node :=
  let pex := n.rd PEX_STATUS.STATE
  let pair := n.rd PAIR_STATUS.STATE
  if n.warning then ((2, 0), n)
  else if 5 ≤ pex && pex ≤ 7 then ((3, 0), n)
  else if n.on PAIR_CTRL.EN && (pair = 3 || pair = 5 || (!n.on PAIR_STATUS.SYNC && !n.on PAIR_STATUS.SOLO)) then ((4, 0), n)
  else if n.on INA_STATUS.INAUG then ((5, 0), n)
  else
    let r := n.wakeAsserted
    if r.1 then ((6, 0), r.2) else (r.2.programVote, r.2)

/-- A LULL_REPLY body (R489). -/
def Node.replyBody (n : Node) (ring vote reason : Nat) : List Byte :=
  [0x41] ++ leBytes 1 ring ++ leBytes 1 n.nodeNum ++ leBytes 1 vote ++ leBytes 1 reason ++ [0, 0, 0] ++ leBytes 8 n.uid

/-- The node's vote takes effect: LASTREASON, and CONSENTED or RUN (R487, R511). -/
def Node.voted (n : Node) (ring : Nat) (r : Nat × Nat) : Node :=
  let n := (n.wr AON_LSTATUS.LASTREASON r.1).updLull (fun l => { l with voted := some (ring, r.2) })
  n.lullGo (if r.2 = 0 then 0 else 2)

/-- A node takes part in a ring (R516, R517). -/
def Node.ringJoin (n : Node) (ring : Nat) : Node :=
  let n := (n.wr AON_LSTATUS.RINGID ring).updLull (fun l => { l with awakeVotes := [], voted := none })
  ((n.lullGo 1).count AON_CNT_RINGS.VALUE).raise AON_EVT.RING

/-- LULL_TOKEN: the addressed node votes (R490). -/
def Node.tokenRx (n : Node) (u : UnitRx) : Node :=
  if u.body.length ≠ 8 || u.node ≠ n.bar.leadNum || le u.body 2 1 ≠ n.nodeNum || n.nodeNum = 0 || !n.committed || 3 ≤ n.lullSt then n
  else
    let ring := le u.body 1 1
    let r := (n.ringJoin ring).lullVote
    (r.2.voted ring r.1).inaUnit (n.replyBody ring r.1.2 r.1.1)

/-! ### The lead's ring (R488, R493 to R495) -/

/-- The entry of the holdout log that takes a UID (R495). -/
def Node.holdEntry (n : Node) (uid : Nat) : Nat :=
  let has := (upTo 8).find? (fun i => n.rd (AON_HOINFO.COUNT i) ≠ 0 && n.rd64 (AON_HOUID_LO.UID_LO i) (AON_HOUID_HI.UID_HI i) = uid)
  match has with
  | some i => i
  | none =>
    match (upTo 8).find? (fun i => n.rd (AON_HOINFO.COUNT i) = 0) with
    | some i => i
    | none =>
      let least := (upTo 8).foldl (fun (a : Nat) (i : Nat) => min a (n.rd (AON_HOINFO.COUNT i))) 65535
      ((n.lull.holdOrder.find? (fun i => n.rd (AON_HOINFO.COUNT i) = least))).getD 0

/-- A refusal or timeout is logged (R495). -/
def Node.holdout (n : Node) (uid num reason : Nat) : Node :=
  let i := n.holdEntry uid
  let same := n.rd (AON_HOINFO.COUNT i) ≠ 0 && n.rd64 (AON_HOUID_LO.UID_LO i) (AON_HOUID_HI.UID_HI i) = uid
  let k := if same then sat 16 (n.rd (AON_HOINFO.COUNT i) + 1) else 1
  let n := if same then n else n.updLull (fun l => { l with holdOrder := l.holdOrder.filter (· ≠ i) ++ [i] })
  let n := n.wr64 (AON_HOUID_LO.UID_LO i) (AON_HOUID_HI.UID_HI i) uid
  let n := ((n.wr (AON_HOINFO.NODE i) num).wr (AON_HOINFO.REASON i) reason).wr (AON_HOINFO.COUNT i) k
  (n.raise AON_EVT.HOLDOUT).fixedRecord 8 (leBytes 8 uid ++ leBytes 1 num ++ leBytes 1 reason ++ leBytes 2 k)

/-- A refusal ends the ring (R493). -/
def Node.ringRefused (n : Node) (uid num reason cause : Nat) : Node := (n.holdout uid num reason).ringAbort cause num

/-- Does the commit leave the node of a record asleep (R503)? -/
def Node.sleeps (n : Node) (votes : List (Nat × Nat)) (r : DirRec) : Bool :=
  let awake := fun (num : Nat) => votes.any (fun v => v.1 = num && v.2 = 2)
  !r.reserved && r.uid ≠ n.uid && !r.endNode && !awake r.num
    && !(n.dir.any (fun q => q.car = r.car && q.uid ≠ r.uid && awake q.num)) && votes.any (fun v => v.1 = r.num)

/-- K at this node (R496): the wake sources are armed, CAN sleep is requested, loss declaration and fence timer stand still, and a swap not
past READ aborts. -/
def Node.lullK (n : Node) (e ring kind : Nat) : Node :=
  let partner := n.lull.awakeVotes ≠ []
  let own := n.lull.voted = some (ring, 2)
  let awake := kind = 1 && (own || partner || n.isLead || n.on INA_STATUS.END)
  let n := (((n.wr AON_LK.VALUE (e - 8)).wr AON_LE.VALUE e).wr AON_LSTATUS.PARTIAL kind).wr AON_LSTATUS.RINGID ring
  let n := ((n.wrB AON_LSTATUS.AWAKE awake).wr AON_LSTATUS.LATCHED 0).lullGo 3
  let n := ((n.wr AON_CANSTB.REQ (n.rd AON_CANSTB.EN)).wr AON_CANSTB.ACK 0).wr AON_CANSTB.FORCED 0
  let n := n.updLull (fun l => { l with kTime := some n.now, partialKind := kind = 1, latch := none, wakeReqDue := false, leadLatch := false,
                                        enterHeld := false })
  let n := { n with pair := { n.pair with stilled := true } }
  ((n.pexAbort 15).count AON_CNT_COMMITS.VALUE).raise AON_EVT.COMMIT

/-- The lead commits: LULL_COMMIT in every beacon from K, the next one, to E - 1 (R494). -/
def Node.ringCommit (n : Node) (r : RingRun) : Node :=
  let e := n.cycle + 8
  let kind := b2n (r.votes.any (fun v => v.2 = 2))
  let cmd : LeadCmd := ⟨([0x20] ++ leBytes 4 e ++ leBytes 1 r.id ++ leBytes 1 kind ++ List.replicate 7 0), 0, n.cycle, some (e - 1)⟩
  let n := n.updBar (fun b => { b with cmds := cmd :: b.cmds })
  let left := if kind = 1 then (n.dir.filter (n.sleeps r.votes)).map (·.num) else n.lull.leftAsleep
  let n := n.updLull (fun l => { l with ring := none, leftAsleep := left })
  n.lullK e r.id kind

/-- The numbers a ring addresses, rising (R488). -/
def Node.ringNumbers (n : Node) : List Nat :=
  let l := n.dir.filter (fun r => !r.reserved && (!n.lull.leftAsleep.contains r.num || n.rcPresent r.num))
  sortBy (fun a b => a ≤ b) (l.map (·.num))

/-- The ring goes on after number `r.at_`: the next number gets the token, the lead itself votes without one, and after the last number the
ring commits (R488, R490, R494). `fuel` bounds the numbers passed. -/
def Node.ringNext : Nat → Node → Node
  | 0, n => n
  | k + 1, n =>
    match n.lull.ring with
    | none => n
    | some r =>
      match n.ringNumbers.find? (fun m => r.at_ < m) with
      | none => n.ringCommit r
      | some m =>
        let n := n.updLull (fun l => { l with ring := some { r with at_ := m, tokenAt := some n.cycle } })
        if m = n.nodeNum then
          let v := n.lullVote
          let n := v.2.voted r.id v.1
          if v.1.2 = 0 then n.ringRefused n.uid m v.1.1 1
          else Node.ringNext k (n.updLull (fun l => { l with ring := some { r with at_ := m, tokenAt := none, votes := r.votes ++ [(m, v.1.2)] } }))
        else n.inaUnit ([0x40] ++ leBytes 1 r.id ++ leBytes 1 m ++ [0] ++ leBytes 4 r.start)

/-- AON_LCTRL.RING on the lead (R488). -/
def Node.ringStart (n : Node) : Node :=
  if !n.isLead || !n.committed || n.lull.ring.isSome || n.lullSt ≠ 0 then n
  else
    let id := (n.rd AON_LSTATUS.RINGID + 1) % 256
    let n := (n.ringJoin id).updBar (fun b => { b with lullFlag := true })
    Node.ringNext 129 (n.updLull (fun l => { l with ring := some ⟨id, n.cycle, 0, none, []⟩ }))

/-- LULL_REPLY: at the lead, the reply to its token or a refusal that a consenting node sends unasked; elsewhere a partner's vote to stay
awake is kept (R490, R492, R503). -/
def Node.replyRx (n : Node) (u : UnitRx) : Node :=
  let ring := le u.body 1 1
  let num := le u.body 2 1
  let vote := le u.body 3 1
  let reason := le u.body 4 1
  let uid := le u.body 8 8
  if u.body.length ≠ 16 then n
  else
    let n := if vote = 2 && ring = n.rd AON_LSTATUS.RINGID && uid = n.partnerUid n.uid then n.updLull (fun l => { l with awakeVotes := [num] }) else n
    match n.lull.ring with
    | none => n
    | some r =>
      if r.id ≠ ring || !n.isLead then n
      else if vote ≠ 1 && vote ≠ 2 then n.ringRefused uid num reason 1
      else if num = r.at_ && r.tokenAt.isSome then
        Node.ringNext 129 (n.updLull (fun l => { l with ring := some { r with tokenAt := none, votes := r.votes ++ [(num, vote)] } }))
      else n

/-- LULL_REPLY_TIMEOUT: no reply within 10 cycles (R490). -/
def Node.replyTimeout (n : Node) : Node :=
  match n.lull.ring with
  | none => n
  | some r =>
    if r.tokenAt.isNone then n
    else n.ringRefused (((n.dirByNum r.at_).map (·.uid)).getD 0) r.at_ 1 2

/-- The VOTE, AUTO and REASON fields are written; a consent withdrawn before commit is told the lead (R492). -/
def Node.voteWrite (n : Node) (v : Word) : Node :=
  let n := n.setReg AON_LCTRL.VOTE.addr (v &&& 0x0000FF1C)
  if n.lullSt ≠ 2 || n.programVote.2 ≠ 0 then n
  else
    let ring := n.rd AON_LSTATUS.RINGID
    let r := n.programVote
    let n := n.voted ring r
    if n.lull.ring.isSome then n.ringRefused n.uid n.nodeNum r.1 1 else n.inaUnit (n.replyBody ring 0 r.1)

/-- LULL_RING (R488). -/
def execLullRing (_by : Initiator) (s : State) : Host.Outcome State Fault Refusal := s.onNode (·.ringStart)

/-- LULL_ABORT_CMD: the lead's program aborts the ring before commit (R493). -/
def execLullAbortCmd (_by : Initiator) (s : State) : Host.Outcome State Fault Refusal := s.onNode (fun n => n.ringAbort 4 0)

/-- AON_LCTRL.ENTER, held until E (R497, R511). -/
def Node.enterWrite (n : Node) : Node := if n.lullSt = 3 then n.updLull (fun l => { l with enterHeld := true }) else n

/-- LULL_ENTER_CMD (R497). -/
def execLullEnterCmd (_by : Initiator) (s : State) : Host.Outcome State Fault Refusal := s.onNode (·.enterWrite)

/-- LULL_TOKEN (R490). -/
def execLullToken (u : UnitRx) (s : State) : Host.Outcome State Fault Refusal := s.onNode (fun n => if le u.body 0 1 = 0x40 then n.tokenRx u else n)

/-- LULL_REPLY (R490). -/
def execLullReply (u : UnitRx) (s : State) : Host.Outcome State Fault Refusal := s.onNode (fun n => if le u.body 0 1 = 0x41 then n.replyRx u else n)

/-- LULL_REPLY_TIMEOUT (R490). -/
def execLullReplyTimeout (s : State) : Host.Outcome State Fault Refusal := s.onNode (·.replyTimeout)

/-- VOTE_CHANGE (R492). -/
def execVoteChange (_by : Initiator) (value : Word) (s : State) : Host.Outcome State Fault Refusal := s.onNode (fun n => n.voteWrite value)

/-- LULL_COMMIT decoded (R494, R496): its first beacon counts. -/
def Node.commitLull (n : Node) (a : List Byte) : Node :=
  if !n.committed || 3 ≤ n.lullSt then n else n.lullK (le a 0 4) (le a 4 1) (le a 5 1)

/-- LULL_COMMIT (R496). -/
def execLullCommit (args : List Byte) (s : State) : Host.Outcome State Fault Refusal := s.onNode (fun n => n.commitLull args)

/-- LULL_ABORT (R493). -/
def execLullAbort (_args : List Byte) (s : State) : Host.Outcome State Fault Refusal := s.onNode (·.lullBack)

/-! ### Entry (R497, R498, R503) -/

/-- The force table as saved at entry (R592). -/
def Node.forceTable (n : Node) : List Byte :=
  let b := leBytes 4 256 ++ leBytes 4 (n.rd AON_LSTATUS.RINGID) ++ List.replicate 8 0
    ++ (upTo 256).flatMap (fun f => leBytes 4 (n.reg (ENG0_FW0.EN f).addr).toNat ++ leBytes 4 (n.rd (ENG0_FW1.VALUE f)) ++ [0, 0, 0, 0])
  b ++ leBytes 4 (crc32 b) ++ leBytes 4 0x46435246

/-- The entry steps of R497, to MAIN_EN low: the rails fall and AON alone runs on. -/
def Node.lullEnter (n : Node) (forced : Bool) : Node :=
  let n := if n.on PWR_STATUS.FLUSHING then n.flushDone else n
  let n := ((n.lullGo 4).wrB AON_LSTATUS.FORCED forced).guardClose
  let n : Node := { n.engHalt.gustsOff with time := { n.time with launches := [] } }
  let n := if n.on (QSPI_STATUS.READY 1) then n.flashPut .per 0x1000 n.forceTable else n
  let n := n.ringAll.fixedRecord 5 (leBytes 1 (n.rd AON_LSTATUS.RINGID) ++ leBytes 1 (b2n forced))
  let n := n.recordsOut
  let n := n.wr AON_CANREL.STBY (n.rd AON_CANREL.STBY ||| n.rd AON_CANSTB.EN)
  let n := (n.lullGo 0).updLull (fun l => { l with asleep := true, fellAt := n.now, entrySince := some n.now })
  n.resetMain 5

/-- A node kept awake goes back to RUN at E; the lead clears LULL (R503). -/
def Node.stayAwake (n : Node) : Node :=
  let n := n.updLull (fun l => { l with kTime := none, latch := none, wakeReqDue := false, leadLatch := false, enterHeld := false })
  let n := { n with pair := { n.pair with stilled := false, heardAt := n.pair.heardAt.map (fun _ => n.now), echoMark := n.pair.echoMark.map (fun _ => n.now) } }
  (n.updBar (fun b => { b with lullFlag := false, contenders := b.contenders.filter (fun k => k.type ≠ 0x61) })).lullGo 0

/-- LULL_ENTRY_START: from E with ENTER or AUTO; at once for a consent that has missed three beacons (R496, R497). -/
def Node.entryStart (n : Node) : Node :=
  let lost := 3 ≤ n.bar.coastRun && (n.lullSt = 2 || n.lullSt = 3)
  if n.lullSt = 3 && n.on AON_LSTATUS.AWAKE && n.rd AON_LE.VALUE ≤ n.cycle then n.stayAwake
  else if lost || (n.lullSt = 3 && n.rd AON_LE.VALUE ≤ n.cycle && (n.lull.enterHeld || n.on AON_LCTRL.AUTO)) then n.lullEnter false
  else n

/-- LULL_ENTRY_START (R497). -/
def execLullEntryStart (s : State) : Host.Outcome State Fault Refusal := s.onNode (·.entryStart)

/-- LULL_FAILSAFE: entry has not started by AON_FS.LULL after the start of K (R498). -/
def Node.entryForced (n : Node) : Node :=
  if n.lullSt ≠ 3 then n
  else if n.on AON_LSTATUS.AWAKE then n.stayAwake
  else ((n.count AON_CNT_FSENTRIES.VALUE).raise AON_EVT.FSENTRY).lullEnter true

/-- LULL_FAILSAFE (R498). -/
def execLullFailsafe (s : State) : Host.Outcome State Fault Refusal := s.onNode (·.entryForced)

/-! ### CAN_STB (R499, R512) -/

/-- A write to AON_CANSTB: EN, and the channels acknowledged of those requested go to standby (R499). -/
def Node.canstbWrite (n : Node) (v : Word) : Node :=
  let n := n.wr AON_CANSTB.EN (bits v.toNat 16 8)
  let a := bits v.toNat 8 8 &&& n.rd AON_CANSTB.REQ
  (n.wr AON_CANSTB.ACK (n.rd AON_CANSTB.ACK ||| a)).wr AON_CANREL.STBY (n.rd AON_CANREL.STBY ||| a)

/-- CANSTB_ACK (R499). -/
def execCanstbAck (_by : Initiator) (value : Word) (s : State) : Host.Outcome State Fault Refusal := s.onNode (fun n => n.canstbWrite value)

/-- CANSTB_FAILSAFE: requested channels without an acknowledgement are forced to standby (R499). -/
def Node.canstbForce (n : Node) : Node :=
  let m := n.rd AON_CANSTB.REQ &&& (255 - n.rd AON_CANSTB.ACK)
  if m = 0 then n
  else ((n.wr AON_CANSTB.FORCED (n.rd AON_CANSTB.FORCED ||| m)).wr AON_CANREL.STBY (n.rd AON_CANREL.STBY ||| m)).raise AON_EVT.CANSTBFS

/-- CANSTB_FAILSAFE (R499). -/
def execCanstbFailsafe (s : State) : Host.Outcome State Fault Refusal := s.onNode (·.canstbForce)

/-- CANREL: CAN_STB of the named channels returns to normal level (R512). -/
def Node.canRelease (n : Node) (v : Word) : Node := n.wr AON_CANREL.STBY (n.rd AON_CANREL.STBY &&& (255 - v.toNat % 256))

/-- CANREL (R512). -/
def execCanrel (_by : Initiator) (value : Word) (s : State) : Host.Outcome State Fault Refusal := s.onNode (fun n => n.canRelease value)

/-! ### Wake (R500, R501, R508 to R510) -/

/-- A source's bit in AON_WSRC and its FIRST code (R514). -/
def wakeCode : WakeSource → Nat × Nat
  | .squall att => (att.val, 1)
  | .wakeIn i => (4 + i.val, 2 + i.val)
  | .rtc => (6, 4)
  | .pair => (7, 5)
  | .wakeReq => (8, 6)

/-- Is a source enabled in AON_WCTRL (R508, R513)? -/
def Node.wakeEnabled (n : Node) : WakeSource → Bool
  | .squall att => bit (n.rd AON_WCTRL.SQATT) att.val
  | .wakeIn i => n.on (if i.val = 0 then AON_WCTRL.WIN0EN else AON_WCTRL.WIN1EN)
  | .rtc => n.on AON_WCTRL.RTCEN
  | .pair => n.on AON_WCTRL.PAIREN
  | .wakeReq => true

/-- The source recorded in AON_WSRC, FIRST when no bit was set, and AON_WTIME (R509). -/
def Node.wakeNote (n : Node) (src : WakeSource) : Node :=
  let c := wakeCode src
  let w := (n.reg AON_WSRC.SQUALL.addr).toNat
  let n := if bits w 0 10 = 0 then (n.wr AON_WSRC.FIRST c.2).wr AON_WTIME.VALUE (n.rd AON_RTCS.VALUE) else n
  n.wr ⟨AON_WSRC.SQUALL.addr, c.1, 1⟩ 1

/-- MAIN_EN rises (R487, R510). -/
def Node.mainRise (n : Node) : Node :=
  let n := (n.updLull (fun l => { l with asleep := false, latch := none })).wr AON_LSTATUS.LATCHED 0
  (n.count AON_CNT_WAKES.VALUE).raise AON_EVT.WAKE

/-- The lead gives up the entry for a wake: LULL_ABORT with cause 3 from the next beacon through E - 1 (R500). -/
def Node.wakeAbort (n : Node) (num : Nat) : Node :=
  let cmd : LeadCmd := ⟨[0x21] ++ leBytes 1 (n.rd AON_LSTATUS.RINGID) ++ [3] ++ leBytes 1 num ++ List.replicate 10 0, 0, n.cycle, some (n.rd AON_LE.VALUE - 1)⟩
  let n := n.updBar (fun b => { b with cmds := cmd :: b.cmds.filter (fun k => le k.bytes 0 1 ≠ 0x20), lullFlag := false })
  n.lullBack

/-- A wake event latched from K on (R500): an early one is told the lead, or held by it for the abort. -/
def Node.wakeLatch (n : Node) (src : WakeSource) (l num : Nat) : Node :=
  let n := (n.wakeNote src).wr AON_LSTATUS.LATCHED 1
  let n := if n.lull.latch.isNone then (n.updLull (fun s => { s with latch := some (l, (wakeCode src).2) })).wr AON_WCYC.VALUE l else n
  if n.rd AON_LK.VALUE + 1 < l then n
  else if n.isLead then
    let n := n.updLull (fun s => { s with leadLatch := true })
    if n.cycle + 3 ≤ n.rd AON_LE.VALUE then n.wakeAbort num else n
  else
    let body := leBytes 4 l ++ leBytes 1 (n.rd AON_WSRC.FIRST) ++ leBytes 1 (n.rd AON_LSTATUS.RINGID)
    let k : Contender := ⟨0x61, body, 0, none, 0, 0, n.cycle⟩
    let n := n.updLull (fun s => { s with wakeReqDue := true })
    if n.bar.contenders.any (fun c => c.type = 0x61) then n else n.updBar (fun b => { b with contenders := b.contenders ++ [k] })

/-- A wake source occurs (R500, R509, R510): in LULL AON raises MAIN_EN; from K on it is latched; before K only a wake input's level matters. -/
def Node.wakeEvent (n : Node) (src : WakeSource) : Node :=
  let heard := match src with
    | .wakeIn i => n.updLull (fun l => { l with wakeHeard := if l.wakeHeard.contains i.val then l.wakeHeard else l.wakeHeard ++ [i.val] })
    | _ => n
  if !n.wakeEnabled src then (if n.lull.asleep then n else heard)
  else if n.lull.asleep then (n.wakeNote src).mainRise
  else if n.boot.held then n
  else if n.lullSt = 3 || n.lullSt = 4 then heard.wakeLatch src n.cycle n.nodeNum
  else heard

/-- WAKE_EVENT (R509). -/
def execWakeEvent (src : WakeSource) (s : State) : Host.Outcome State Fault Refusal := s.always (fun n => n.wakeEvent src)

/-- WAKE_REQ decoded (R500, R501): the lead latches it and answers. -/
def Node.wakeReqRx (n : Node) (f : ContRx) : Node :=
  if !n.isLead then n
  else
    let uid := contUid f.bytes
    let result := if n.opens 1 then 0 else 2
    let n := n.answerCont result (le f.bytes 14 4) uid
    if n.lullSt ≠ 3 || result ≠ 0 || le f.bytes 27 1 ≠ n.rd AON_LSTATUS.RINGID then n
    else (n.count BAR_CNT_CONTOK.VALUE).wakeLatch .wakeReq (le f.bytes 22 4) (((n.dirByUid uid).map (·.num)).getD 0)

/-- WAKE_REQ (R500). -/
def execWakeReq (f : ContRx) (s : State) : Host.Outcome State Fault Refusal := s.onNode (fun n => n.onCont f 0x61 (fun n => n.wakeReqRx f))

/-- LATCHED_WAKE_RISE: 2 ms after MAIN_EN fell with a latched wake (R510). -/
def Node.latchedRise (n : Node) : Node :=
  if n.lull.asleep && n.lull.latch.isSome then (n.wr AON_WSRC.LATE 1).mainRise else n

/-- LATCHED_WAKE_RISE (R510). -/
def execLatchedWakeRise (s : State) : Host.Outcome State Fault Refusal := s.always (·.latchedRise)

/-! ### The Squall (R505 to R507) -/

/-- A Squall goes out from the front attachments (R505, R507). -/
def Node.squallOut (n : Node) : Node := (n.emit .squall []).count AON_CNT_SQSENT.VALUE

/-- AON_SQ.SEND (R507). -/
def Node.squallRequest (n : Node) : Node :=
  let st := n.inaState
  if n.on BAR_CTRL.EN && (st = 1 || st = 2) && 16 ≤ n.bar.coastRun then n.squallOut.wr AON_SQ.SENDSTAT 0
  else if n.isLead && st = 6 then
    let q := n.cycle + 8
    let n := (n.leadCmd ([0x22] ++ leBytes 4 q)).updBar (fun b => { b with quiet := some q })
    (n.updLull (fun l => { l with squallAt := some q })).wr AON_SQ.SENDSTAT 1
  else (n.wr AON_SQ.SENDSTAT 2).raise AON_EVT.SQREFUSED

/-- SQUALL_REQUEST (R507). -/
def execSquallRequest (_by : Initiator) (s : State) : Host.Outcome State Fault Refusal := s.onNode (·.squallRequest)

/-- The SQUALL command decoded: cycles Q to Q + 4 are quiet (R494, R507). -/
def Node.squallRx (n : Node) (a : List Byte) : Node := if n.committed then n.updBar (fun b => { b with quiet := some (le a 0 4) }) else n

/-- SQUALL (R507). -/
def execSquall (args : List Byte) (s : State) : Host.Outcome State Fault Refusal := s.onNode (fun n => n.squallRx args)

/-- SQUALL_EMIT: at S0 of cycle Q (R507). -/
def Node.squallEmit (n : Node) : Node :=
  match n.lull.squallAt with
  | some q => if q ≤ n.cycle then (n.squallOut.wr AON_SQ.SENDSTAT 0).updLull (fun l => { l with squallAt := none }) else n
  | none => n

/-- SQUALL_EMIT (R507). -/
def execSquallEmit (s : State) : Host.Outcome State Fault Refusal := s.onNode (·.squallEmit)

/-- Do the last 8 windows of a detector match the table (R506)? -/
def squallMatched (w : List SquallWindow) : Bool := 8 ≤ w.length && ((w.reverse).take 8).all (·.match_)

/-- SQUALL_RECOGNIZED: a selected detector has recognized a Squall; it is a wake source (R506, R508). -/
def Node.squallHeard (n : Node) (att : Fin 4) (w : List SquallWindow) : Node :=
  if !bit (n.rd AON_WCTRL.SQATT) att.val || !squallMatched w then n else (n.count AON_CNT_SQHEARD.VALUE).wakeEvent (.squall att)

/-- SQUALL_RECOGNIZED (R506). -/
def execSquallRecognized (att : Fin 4) (windows : List SquallWindow) (s : State) : Host.Outcome State Fault Refusal :=
  s.always (fun n => n.squallHeard att windows)

end Sys2Proof.Machine
end

