-- ==== Sys2Proof/Machine/Sram.lean ====
section
/-! DEFINITION. The SRAM on the fabric (01_architecture.md R23, R24, R715; 08_cycle_engines.md R349; 10_program_exchange.md R400): who may
write where, uncorrectable words as an initiator meets them, and a write of fewer than 8 bytes. -/

namespace Sys2Proof.Machine

/-- Does `a` to `a + len - 1` lie within one SRAM region (R23)? -/
def oneRegion (a len : Nat) : Bool :=
  ([(0x20000000, 0x20100000), (0x20100000, 0x20200000), (0x20200000, 0x20300000), (0x20300000, 0x20380000), (0x20380000, 0x203A0000),
    (0x203A0000, 0x204A0000), (0x204A0000, 0x20620000), (0x20620000, 0x206A0000), (0x206A0000, 0x207E0000),
    (0x207E0000, 0x20800000)] : List (Nat × Nat)).any (fun r => r.1 ≤ a && a + len ≤ r.2)

/-- Is `a` an SRAM address? -/
def isSram (a : Nat) : Bool := 0x20000000 ≤ a && a < 0x20800000

/-- Is `a` in DMEM? -/
def isDmem (a : Nat) : Bool := 0x20200000 ≤ a && a < 0x20300000

/-- May an initiator write `len` bytes of SRAM at `a` (R23, R349, R370)? The inactive bank is the host port's, agent's and JTAG's while PEX
lets it be written (R400, log entry 14). -/
def Node.sramMay (n : Node) (by_ : Initiator) (a len : Nat) : Bool :=
  let eng (e : Nat) : Bool := (upTo ((a % 4096 + len + 4095) / 4096)).all (fun i => n.pageOwner ((a - 0x20200000) / 4096 + i) = some e)
  let inside (lo hi : Nat) : Bool := lo ≤ a && a + len ≤ hi
  if inside 0x20380000 0x203A0000 || inside 0x207E0000 0x20800000 then true
  else if inside 0x20200000 0x20300000 then
    (match by_ with
    | .eng e => eng e
    | _ => true)
  else if n.on SYS_STATUS.HOSTWAIT && inside 0x20000000 0x20100000 then
    (match by_ with
    | .eng _ => false
    | _ => true)
  else if inside n.otherBank (n.otherBank + 0x100000) then
    (match by_ with
    | .eng _ => false
    | _ => n.rd PEX_STATUS.STATE = 0 || n.rd PEX_STATUS.STATE = 3 || n.rd PEX_STATUS.STATE = 4)
  else false

/-- The owner of the region of the uncorrectable word at `a` handles it (R24); afterwards PIMG, JRNL, AUDBUF and CHAN words are good. -/
def Node.uceHandle (n : Node) (a : Nat) : Node :=
  if 0x20300000 ≤ a && a < 0x20380000 then n.pimgScrub ((a - 0x20300000) / 8)
  else if 0x20380000 ≤ a && a < 0x203A0000 then ((n.count SIG_CNT_SUBSUCE.VALUE).raise SIG_EVT.UCE).sysFault 5
  else if 0x203A0000 ≤ a && a < 0x204A0000 then n.jrnlRepair a
  else if 0x204A0000 ≤ a && a < 0x20620000 then n.audUce a
  else if 0x20620000 ≤ a && a < 0x206A0000 then (n.count EVR_CNT_BUFUCE.VALUE).uncorrectable
  else if 0x206A0000 ≤ a && a < 0x207E0000 then n.chanUce a
  else if 0x207E0000 ≤ a && a < 0x207FE000 then
    (match n.poolOf ((a - 0x207E0000) / 80) with
    | some (c, _) => (n.canRepair c ((a - 0x207E0000) / 80)).2
    | none => n.uncorrectable)
  else n.uncorrectable

/-- Every uncorrectable word that `len` bytes at `a` meet is handled by its owner. -/
def Node.uceMeet (n : Node) (a len : Nat) : Node := (n.uce.filter (fun w => w < a + len && a < w + 8)).foldl Node.uceHandle n

/-- A write of up to 8 bytes at `a` by an initiator (R715): where it does not cover a 64-bit word that is uncorrectable, the owner handles
the word, and the bytes that the write leaves are 0 unless the owner restored them. -/
def Node.busPut (n : Node) (a : Nat) (bs : List Byte) : Node :=
  let w := a / 8 * 8
  if bs.length = 8 && a = w then n.memPut a bs
  else if n.uceIn a bs.length then
    let n := n.uceHandle w
    let n := if n.uceIn w 8 then n.memPut w (List.replicate 8 0) else n
    n.memPut a bs
  else n.memPut a bs

/-- A word write at `a` by an initiator that may write there; a write to the inactive bank returns PEX to IDLE (R400). -/
def Node.sramWrite (n : Node) (a : Nat) (bs : List Byte) : Node :=
  let n := n.busPut a bs
  if n.otherBank ≤ a && a < n.otherBank + 0x100000 then ({ n with pex := { n.pex with slot := 0 } } : Node).wr PEX_STATUS.STATE 0 else n

end Sys2Proof.Machine
end

