-- ==== Sys2Proof/Machine/Qspi.lean ====
section
/-! DEFINITION. The quad SPI controllers (16_local_interfaces.md R590 to R595, R609): erases with their intent records, and copies. -/

namespace Sys2Proof.Machine

/-- Number of a controller in the register space. -/
def qNo : QCtl → Nat
  | .boot => 0
  | .per => 1

/-- `n` with a change of the controllers' state. -/
def Node.updQspi (n : Node) (f : QspiState → QspiState) : Node := { n with qspi := f n.qspi }

/-- The size of a controller's device in bytes; 0 when it was not identified (R590). -/
def Node.qSize (n : Node) (c : QCtl) : Nat :=
  if !n.on (QSPI_STATUS.READY (qNo c)) then 0
  else match c with
    | .boot => n.qspi.sizeB
    | .per => n.qspi.sizeP

/-- The erase under way on a controller. -/
def Node.qErase (n : Node) (c : QCtl) : Option EraseRun := match c with
  | .boot => n.qspi.eraseB
  | .per => n.qspi.eraseP

/-- `n` with the erase of a controller replaced. -/
def Node.setErase (n : Node) (c : QCtl) (e : Option EraseRun) : Node := match c with
  | .boot => n.updQspi (fun q => { q with eraseB := e })
  | .per => n.updQspi (fun q => { q with eraseP := e })

/-- The copy under way on a controller. -/
def Node.qCopy (n : Node) (c : QCtl) : Option CopyRun := match c with
  | .boot => n.qspi.copyB
  | .per => n.qspi.copyP

/-- `n` with the copy of a controller replaced. -/
def Node.setCopy (n : Node) (c : QCtl) (r : Option CopyRun) : Node := match c with
  | .boot => n.updQspi (fun q => { q with copyB := r })
  | .per => n.updQspi (fun q => { q with copyP := r })

/-! ### Intent records (R593): their places in the QSPI_PER header are the model's own (log entry 42) -/

/-- Offset of a controller's intent record. -/
def intentAt (c : QCtl) : Nat := 0x100 * (qNo c + 1)

/-- Mark of an intent record. -/
def intentMark : Nat := 0x54454E49

/-- An intent record written into the QSPI_PER header. -/
def Node.intentPut (n : Node) (c : QCtl) (first count : Nat) : Node :=
  if n.qSize .per = 0 then n
  else (n.flashPut .per (intentAt c) (leBytes 4 intentMark ++ leBytes 4 (qNo c) ++ leBytes 4 first ++ leBytes 4 count)).wr
    (QSPI_STATUS.INTENT (qNo c)) 1

/-- A controller's intent record cleared. -/
def Node.intentClear (n : Node) (c : QCtl) : Node :=
  if n.qSize .per = 0 then n
  else (n.flashPut .per (intentAt c) (List.replicate 16 0)).wr (QSPI_STATUS.INTENT (qNo c)) 0

/-- The intent record of a controller, if one is held. -/
def Node.intentOf (n : Node) (c : QCtl) : Option (Nat × Nat) :=
  let b := n.flashBytes .per (intentAt c) 16
  if le b 0 4 = intentMark && le b 4 4 = qNo c then some (le b 8 4, le b 12 4) else none

/-! ### Erases -/

/-- Does an erase of `len` bytes from `a` lie where it may not (R593, R594)? -/
def Node.eraseRange (n : Node) (c : QCtl) (a len : Nat) : Bool :=
  let meets (lo hi : Nat) : Bool := a < hi && lo < a + len
  len = 0 || a % 4096 ≠ 0 || n.qSize c < a + len || (match c with
    | .per => meets 0 0x1000 || meets areaBase (n.qSize .per) || (n.on MSG_CTRL.PERSIST && meets 0x10000 0x210000)
    | .boot =>
      let half := n.qSize .boot / 2
      (n.boot.slot = 1 && meets 0 half) || (n.boot.slot = 2 && meets half (2 * half)))

/-- STATUS.ERR of a controller. -/
def Node.qErr (n : Node) (c : QCtl) (code : Nat) : Node := n.wr (QSPI_STATUS.ERR (qNo c)) code

/-- A write to QSPIx_ERASE1 (R593, R609): GO starts an erase, or it is refused; while one runs a GO does nothing (log entry 43). -/
def Node.eraseWrite (n : Node) (c : QCtl) (v : Word) : Node :=
  let k := qNo c
  let n := n.setReg (QSPI_ERASE1.COUNT k).addr (v &&& 0xFFFFFF)
  if !bit v.toNat 31 || (n.qErase c).isSome then n
  else
    let g := n.rd (QSPI_ERASE1.GUST k)
    let a := n.rd (QSPI_ERASE0.VALUE k)
    let units := n.rd (QSPI_ERASE1.COUNT k)
    if !n.gustGranted g 7 then n.qErr c 1
    else if n.eraseRange c a (4096 * units) then n.qErr c 2
    else (((n.qErr c 0).intentPut c a units).setErase c (some ⟨a, units, g⟩)).wr (QSPI_STATUS.ERASING k) 1

/-- Bytes of a device erased (R593: 0xFF). Bytes of the journal ring take its records with them. -/
def Node.eraseBytes (n : Node) (c : QCtl) (a len : Nat) : Node :=
  match c with
  | .boot => { n with qboot := n.qboot.filter (fun p => p.1 < a || a + len ≤ p.1) }
  | .per =>
    let n := { n with qper := n.qper.filter (fun p => p.1 < a || a + len ≤ p.1) }
    if a < 0x210000 && 0x10000 < a + len then { n with journal := {} } else n

/-- A device error of a controller (R609). -/
def Node.devError (n : Node) (c : QCtl) : Node := ((n.qErr c 3).count (QSPI_DEVERRS.VALUE (qNo c))).raise (QSPI_EVT.DEVERR (qNo c))

/-- An erase ends (R593): its intent record is cleared and its gust freed. After a device error, how many of its units are erased is a free
value (log entry 43). -/
def Node.eraseDone (n : Node) (c : QCtl) (devError : Bool) : Node :=
  match n.qErase c with
  | none => n
  | some e =>
    let k := qNo c
    if n.on (QSPI_STATUS.SUSPENDED k) then n
    else
      let w := if devError then n.freeWord else (e.count, n)
      let n := w.2.eraseBytes c e.first (4096 * (if devError then w.1 % (e.count + 1) else e.count))
      let n := ((n.intentClear c).setErase c none).wr (QSPI_STATUS.ERASING k) 0
      let n := if n.gustGranted e.gust 7 then n.gustFree e.gust else n
      if devError then n.devError c else (n.count (QSPI_ERASES.VALUE k)).raise (QSPI_EVT.ERASEDONE k)

/-! ### Copies -/

/-- COPYSTAT of a controller: a result without a transfer. -/
def Node.copyResult (n : Node) (c : QCtl) (code : Nat) : Node :=
  ((n.wr (QSPI_COPYSTAT.RESULT (qNo c)) code).wr (QSPI_COPYSTAT.BUSY (qNo c)) 0).wr (QSPI_STATUS.BUSY (qNo c)) 0

/-- A write to QSPIx_COPY2 (R595, R609): GO starts a copy, or it is refused before any byte moves; while one runs a GO does nothing
(log entry 43). -/
def Node.copyWrite (n : Node) (by_ : Initiator) (c : QCtl) (v : Word) : Node :=
  let k := qNo c
  if !bit v.toNat 31 then n.setReg (QSPI_COPY2.LEN k).addr (v &&& 0x401FFFFF)
  else if (n.qCopy c).isSome then n
  else
    let n := n.setReg (QSPI_COPY2.LEN k).addr (v &&& 0x401FFFFF)
    let len := n.rd (QSPI_COPY2.LEN k)
    let a := n.rd (QSPI_COPY0.VALUE k)
    let d := n.rd (QSPI_COPY1.VALUE k)
    let prog := n.on (QSPI_COPY2.DIR k)
    let dma := 0x20200000 ≤ a && a + len ≤ 0x20300000 || 0x20380000 ≤ a && a + len ≤ 0x203A0000 || 0x207E0000 ≤ a && a + len ≤ 0x20800000
    if len = 0 || 1048576 < len || n.qSize c < d + len || (prog && c = .per) then n.copyResult c 2
    else if prog && !(0x20000000 ≤ a && a + len ≤ 0x20800000) then (n.copyResult c 1).busError by_
    else if !prog && !(dma && n.sramMay by_ a len) then (n.copyResult c 1).busError by_
    else ((n.setCopy c (some ⟨prog, a, d, len⟩)).wr (QSPI_COPYSTAT.BUSY k) 1).wr (QSPI_STATUS.BUSY k) 1

/-- A page programmed over what the device holds: programming only clears bits (R595: the range must already be erased). -/
def progBytes (old new : List Byte) : List Byte := List.zipWith (· &&& ·) old new

/-- A copy ends (R595). Programming writes the whole of each 256-byte page the range touches, bytes beyond the range as erased. -/
def Node.copyDone (n : Node) (c : QCtl) (devError : Bool) : Node :=
  match n.qCopy c with
  | none => n
  | some r =>
    let n := n.setCopy c none
    if devError then (n.copyResult c 3).devError c
    else if r.program then
      let n := n.uceMeet r.sram r.len
      let lo := r.dev / 256 * 256
      let hi := (r.dev + r.len + 255) / 256 * 256
      let src := List.replicate (r.dev - lo) (0xFF : Byte) ++ n.memBytes r.sram r.len ++ List.replicate (hi - (r.dev + r.len)) (0xFF : Byte)
      (n.flashPut c lo (progBytes (n.flashBytes c lo (hi - lo)) src)).copyResult c 0
    else (n.memPut r.sram (n.flashBytes c r.dev r.len)).copyResult c 0

/-! ### The commands -/

/-- QSPI_ERASE: ERASE1.GO (R593). -/
def execQspiErase (_by : Initiator) (ctl : QCtl) (value : Word) (s : State) : Host.Outcome State Fault Refusal :=
  s.onNode (fun n => n.eraseWrite ctl (value ||| 0x80000000))

/-- QSPI_ERASE_DONE: an erase ends (R593). -/
def execQspiEraseDone (ctl : QCtl) (devError : Bool) (s : State) : Host.Outcome State Fault Refusal := s.onNode (fun n => n.eraseDone ctl devError)

/-- QSPI_COPY_READ: COPY2.GO with DIR 0 (R595). -/
def execQspiCopyRead (by_ : Initiator) (ctl : QCtl) (value : Word) (s : State) : Host.Outcome State Fault Refusal :=
  s.onNode (fun n => n.copyWrite by_ ctl ((value &&& 0xBFFFFFFF) ||| 0x80000000))

/-- QSPI_COPY_PROGRAM: COPY2.GO with DIR 1 (R595). -/
def execQspiCopyProgram (by_ : Initiator) (ctl : QCtl) (value : Word) (s : State) : Host.Outcome State Fault Refusal :=
  s.onNode (fun n => n.copyWrite by_ ctl (value ||| 0xC0000000))

/-- QSPI_COPY_DONE: a copy ends (R595). -/
def execQspiCopyDone (ctl : QCtl) (devError : Bool) (s : State) : Host.Outcome State Fault Refusal := s.onNode (fun n => n.copyDone ctl devError)

end Sys2Proof.Machine
end

