-- ==== Sys2Proof/Machine/Boot.lean ====
section
/-! DEFINITION. Start-up (18_startup_identity.md R641 to R651, R655 to R657, R661 to R663; 16_local_interfaces.md R590, R594), the PLL
reports (R612, R687, R688). -/

namespace Sys2Proof.Machine

/-- A field of the boot state changed. -/
def Node.updBoot (n : Node) (f : BootState → BootState) : Node := { n with boot := f n.boot }

/-! ### Steps 0 to 3 of R643 -/

/-- The reset is released (R642, R679, R682, R473): causes, straps, the crystal's clocks, a short hold-up found. A node no reset holds
yet stands as VDD_AON POR left it. -/
def Node.released (n : Node) (b : BootInput) : Node :=
  let n := if n.boot.held then n else n.resetAll
  let n := n.boot.sources.foldl (fun (n : Node) (i : Nat) => n.wr ⟨SYS_RSTCAUSE.AONPOR.addr, i, 1⟩ 1) n
  let n := n.updBoot (fun x => { x with held := false, sysLost := false })
  let n := (n.wr SYS_BOOTCTL.BOOT (2 * b2n b.boot1 + b2n b.boot0)).wrB SYS_BOOTCTL.PAIRROLE b.pairRole
  let n := n.wrB PAIR_STATUS.STRAP b.pairRole
  let n := (((n.wr CLK_STATUS.XTAL 1).wr CLK_STATUS.SYSLOCK 1).wr CLK_STATUS.ETHRDY 1).wr CLK_STATUS.QSPIRDY 1
  if n.boot.shortHold then
    (((n.updBoot (fun x => { x with shortHold := false })).wr PWR_STATUS.SHORTHOLD 1).count PWR_CNT_SHORTHOLD.VALUE).raise PWR_EVT.SHORTHOLD
  else n

/-- Step 1: OTP is read (R661, R662). -/
def Node.readOtp (n : Node) (corr : Nat) : Node :=
  let n := (n.wr OTP_UID_LO.VALUE (n.otpWord 0)).wr OTP_UID_HI.VALUE (n.otpWord 1)
  let n := (upTo 8).foldl (fun (n : Node) (k : Nat) => n.wr (OTP_KEYHASH.VALUE k) (n.otpWord (10 + k))) n
  let n := n.setReg OTP_LOCK.ALL.addr (BitVec.ofNat 32 (n.otpWord 18) &&& 0x3F)
  (n.wr OTP_STATUS.CORR (sat 8 corr)).wr OTP_STATUS.READY 1

/-- Is a size, in bytes, one of the device table (R590), whole powers of two of a MB? -/
def sizeOk (lo v : Nat) : Bool := [lo, 8, 16, 32, 64].any (fun k => decide (lo ≤ k) && v = k * 1048576)

/-- A device that answers with a size of the table is ready; how CFG is set is the controller's (free value), but for 4-byte addresses
above 16 MB (R590). -/
def Node.identify (n : Node) (c : QCtl) (lo : Nat) (size : Option Nat) : Node :=
  match size with
  | none => n
  | some v =>
    if !sizeOk lo v then n
    else
      let k := qNo c
      let w := n.freeWord
      let n := w.2.setReg (QSPI_CFG.DIV k).addr (BitVec.ofNat 32 (w.1 % 128 + 128 * b2n (decide (16 * 1048576 < v))))
      let n := (n.wr (QSPI_STATUS.READY k) 1).wr (QSPI_STATUS.SIZE k) (Nat.log2 (v / 1048576))
      match c with
      | .boot => n.updQspi (fun q => { q with sizeB := v })
      | .per => n.updQspi (fun q => { q with sizeP := v })

/-- A recorded erase is restarted whole and completed (R594). -/
def Node.eraseAgain (n : Node) (c : QCtl) : Node :=
  if n.qSize .per = 0 || n.qSize c = 0 then n
  else match n.intentOf c with
    | none => n
    | some (a, units) =>
      let n := (n.eraseBytes c a (4096 * units)).intentClear c
      ((n.count (QSPI_ERASES.VALUE (qNo c))).raise (QSPI_EVT.ERASEDONE (qNo c))).raise (QSPI_EVT.RESUMED (qNo c))

/-- Step 2: both devices identified, recorded erases completed (R590, R594). -/
def Node.devices (n : Node) (b : BootInput) : Node :=
  (((n.identify .boot 8 b.bootSize).identify .per 4 b.perSize).eraseAgain .boot).eraseAgain .per

/-- BOOTFAIL with its cause (R650, R683): the node waits for the host (R651). -/
def Node.bootFail (n : Node) (cause : Nat) : Node :=
  let n := (n.wr SYS_BOOTSTAT0.BOOTFAIL 1).wr SYS_BOOTSTAT0.CAUSE cause
  (n.wr SYS_STATUS.BOOTFAIL 1).wr SYS_STATUS.HOSTWAIT 1

/-! ### Steps 4 and 5 -/

/-- The saved force table is restored after a wake, and its valid mark zeroed (R346, R592). -/
def Node.forceRestore (n : Node) : Node :=
  if n.qSize .per = 0 then n
  else
    let b := n.flashBytes .per 0x1000 3096
    if le b 3092 4 ≠ 0x46435246 || le b 3088 4 ≠ crc32 (b.take 3088) then n
    else
      let n := (upTo 256).foldl (fun (n : Node) (f : Nat) =>
        (n.setReg (ENG0_FW0.EN f).addr (BitVec.ofNat 32 (le b (16 + 12 * f) 4) &&& 0x8003FFFF)).setReg
          (ENG0_FW1.VALUE f).addr (BitVec.ofNat 32 (le b (20 + 12 * f) 4))) n
      (n.forceRefresh).flashPut .per 0x1C14 [0, 0, 0, 0]

/-- Step 5: a verified image runs (R643, R683). -/
def Node.runImage (n : Node) (source : Nat) : Node :=
  let n := ((n.wr SYS_BOOTSTAT0.SOURCE source).wr SYS_BOOTSTAT0.CAUSE 0).hashWrite PEX_ACTHASH_LO.VALUE PEX_ACTHASH_HI.VALUE n.bankBase
  let n := (n.wr SYS_STATUS.BOOTFAIL 0).wr SYS_STATUS.HOSTWAIT 0
  let n := (n.updBoot (fun x => { x with slot := if source = 3 then 0 else source, loaded := true })).copyInits
  let n := if n.on SYS_RSTCAUSE.WAKE then n.forceRestore else n
  n.startSetup

/-- Step 4 for one slot (R648, R649): the image is loaded and checked; the code stands in SYS_BOOTSTAT. -/
def Node.trySlot (n : Node) (slotB bad : Bool) : Bool × Node :=
  let n := if n.qSize .boot = 0 then n else n.loadSlot slotB n.bankBase
  let code := if n.qSize .boot = 0 then 1 else n.checkImage n.bankBase n.slotRoom bad
  let n := n.wr (if slotB then SYS_BOOTSTAT0.SLOTB else SYS_BOOTSTAT0.SLOTA) (if code = 0 then 15 else code)
  (code = 0, n)

/-- Step 4: the preferred slot, then the other (R642, R649, R650). An uncorrectable word that a load meets is met in the first. -/
def Node.bootSlots (n : Node) (firstB bad : Bool) : Node :=
  let (ok, n) := n.trySlot firstB bad
  if ok then n.runImage (if firstB then 2 else 1)
  else
    let (ok, n) := n.trySlot (!firstB) false
    if ok then n.runImage (if firstB then 1 else 2) else n.bootFail 10

/-- The boot sequence (R642, R643, R650, R651, R655). -/
def Node.bootRun (n : Node) (b : BootInput) : Node :=
  let n := ((n.released b).readOtp b.otpCorr).devices b
  let bist := (b.boot1 && b.boot0) || n.on OTP_LOCK.BOOTBIST
  let n := if bist then (n.wr SYS_BOOTSTAT0.BIST 1).wr SYS_BOOTSTAT0.BISTCORR (sat 12 b.bistCorr) else n
  if b.romUce then n.bootFail 11
  else match (if bist then b.bistBad else none) with
    | some a => (n.wr SYS_BOOTSTAT1.BISTADDR a).bootFail 9
    | none =>
      if b.boot1 && !b.boot0 then (n.wr SYS_BOOTSTAT0.CAUSE 12).wr SYS_STATUS.HOSTWAIT 1
      else n.bootSlots (!b.boot1 && b.boot0) b.loadUce

/-- Reset is released (R641, R643): with the main rails up, a node that a reset holds, or that has not booted since power-up, boots. -/
def Node.release (n : Node) (b : BootInput) : Node :=
  if n.lull.asleep || (!n.boot.held && n.on OTP_STATUS.READY) then n else n.bootRun b

/-- RESET_RELEASE: straps latched, boot ROM up to starting ENG0 (R643). -/
def execResetRelease (b : BootInput) (s : State) : Host.Outcome State Fault Refusal := s.always (fun n => n.release b)

/-- SYS_BOOTCTL.GO (R651, R684): from the host port, while the boot ROM waits for a host image. -/
def Node.bootGo (n : Node) (by_ : Initiator) : Node :=
  if by_ ≠ .host || !n.on SYS_STATUS.HOSTWAIT then n
  else
    let code := n.checkImage n.bankBase 1048576 false
    let n := n.wr SYS_BOOTSTAT0.HOST (if code = 0 then 15 else code)
    if code = 0 then n.runImage 3 else n.bootFail 10

/-- BOOTCTL_GO (R651). -/
def execBootctlGo (by_ : Initiator) (s : State) : Host.Outcome State Fault Refusal := s.onNode (fun n => n.bootGo by_)

/-! ### OTP (R656, R657, R662, R663) -/

/-- May an initiator program OTP (R657)? -/
def Node.otpMay (n : Node) (by_ : Initiator) : Bool :=
  match by_ with
  | .host => true
  | .jtag => !n.on OTP_LOCK.JTAG
  | _ => false

/-- Is a word refused (R657)? -/
def Node.otpRefused (n : Node) (w : Nat) : Bool :=
  n.otpDone w || w ≤ 1 || decide (19 ≤ w) || n.on OTP_LOCK.ALL || (2 ≤ w && w ≤ 5 && n.on OTP_LOCK.FLEETKEY)
    || (6 ≤ w && w ≤ 9 && n.on OTP_LOCK.CLEARKEY) || (10 ≤ w && w ≤ 17 && n.on OTP_LOCK.KEYHASH)

/-- OTP_PADDR.GO (R657, R663): a GO while a word is being programmed does nothing. -/
def Node.otpGo (n : Node) (by_ : Initiator) : Node :=
  if !n.otpMay by_ || n.on OTP_STATUS.BUSY then n
  else if n.otpRefused (n.rd OTP_PADDR.WORD) then n.wr OTP_STATUS.RESULT 1
  else n.wr OTP_STATUS.BUSY 1

/-- Programming ends (R657, R662): the word is programmed; after a failed verify its value is free. Lock bits take effect at once. -/
def Node.otpDoneNow (n : Node) (verified : Bool) : Node :=
  if !n.on OTP_STATUS.BUSY then n
  else
    let w := n.rd OTP_PADDR.WORD
    let v := if verified then (n.rd OTP_PDATA.DATA, n) else n.freeWord
    let n := (v.2.wr OTP_STATUS.BUSY 0).wr OTP_STATUS.RESULT (if verified then 0 else 2)
    let n : Node := { n with otp := Tab.set (fun _ => none) n.otp w (some (BitVec.ofNat 32 v.1)) }
    if w = 18 then n.setReg OTP_LOCK.ALL.addr (BitVec.ofNat 32 v.1 &&& 0x3F) else n

/-- OTP_PROGRAM (R657). -/
def execOtpProgram (by_ : Initiator) (s : State) : Host.Outcome State Fault Refusal := s.onNode (fun n => n.otpGo by_)

/-- OTP_PROGRAM_DONE (R657). -/
def execOtpProgramDone (verified : Bool) (s : State) : Host.Outcome State Fault Refusal := s.onNode (fun n => n.otpDoneNow verified)

/-! ### PLLs (R48, R612, R687, R688) -/

/-- A PLL's lock bit, 0 SYS, 1 LINE, 2 AUD, 3 PER. -/
def pllBit (k : Nat) : Field := ⟨CLK_STATUS.SYSLOCK.addr, k, 1⟩

/-- A PLL loses lock: its counter, event and system fault code; without PLL_SYS what CLK_SYS clocks stands still. -/
def Node.pllLost (n : Node) (k : Nat) : Node :=
  let n := (n.wr (pllBit k) 0).count ⟨CLK_CNT_SYSUNLOCK.VALUE.addr + 4 * k, 0, 32⟩
  let n := (n.raiseBit CLK_EVT.UNLOCK k).sysFault (k + 1)
  if k = 0 then n.updBoot (fun x => { x with sysLost := true }) else n

/-- PLL_UNLOCK (R612). -/
def execPllUnlock (pll : Fin 4) (s : State) : Host.Outcome State Fault Refusal := s.onGuard (fun n => n.pllLost pll)

/-- PLL_LINE_LOCK: residual within 0.1 ppm (R48). -/
def execPllLineLock (s : State) : Host.Outcome State Fault Refusal := s.onNode (fun n => n.wr CLK_STATUS.LINELOCK 1)

/-- A PLL other than PLL_LINE locks again (R687). -/
def Node.pllBack (n : Node) (k : Nat) : Node :=
  if k = 1 then n
  else if k = 0 then (n.wr (pllBit 0) 1).updBoot (fun x => { x with sysLost := false })
  else n.wr (pllBit k) 1

/-- PLL_LOCK (R687). -/
def execPllLock (pll : Fin 4) (s : State) : Host.Outcome State Fault Refusal := s.onGuard (fun n => n.pllBack pll)

end Sys2Proof.Machine
end

