-- ==== Sys2Proof/Machine/Eth.lean ====
section
/-! DEFINITION. The Ethernet switch (16_local_interfaces.md R579 to R586, R603 to R607; 05_signals.md R225, R226): queues, forwarding,
the rings of the internal port, launch slots, MDIO, and the transparent clock's corrections (14_time.md R535 to R539). -/

namespace Sys2Proof.Machine

/-- Number of a switch port. -/
def ethNo : EthPort → Nat
  | .eth0 => 0
  | .eth1 => 1
  | .int => 2

/-- `n` with a change of ETH's state. -/
def Node.updEth (n : Node) (f : EthState → EthState) : Node := { n with eth := f n.eth }

/-- Is external port `p` on (R579, R603)? -/
def Node.ethOn (n : Node) (p : Nat) : Bool :=
  let m := if p = 0 then n.rd ETH_CTRL.P0MODE else n.rd ETH_CTRL.P1MODE
  n.on ETH_CTRL.EN && (m = 1 || m = 2)

/-- Has external port `p` link? -/
def Node.ethLink (n : Node) (p : Nat) : Bool := n.ethOn p && n.on (ETH_PSTAT.LINK p)

/-- The egress queue of port `p`. -/
def Node.ethQ (n : Node) (p : Nat) : List EthFrame := if p = 0 then n.eth.q0 else n.eth.q1

/-- `n` with the egress queue of port `p` replaced. -/
def Node.setEthQ (n : Node) (p : Nat) (q : List EthFrame) : Node := n.updEth (fun x => if p = 0 then { x with q0 := q } else { x with q1 := q })

/-- A frame's place behind the frame being sent: at the head of the high queue, at its end, or at the end of the low queue (R581, R585). -/
def ethInsert (f : EthFrame) (head : Bool) : List EthFrame → List EthFrame
  | [] => [f]
  | c :: q =>
    if head then c :: f :: q
    else if f.high then c :: (q.takeWhile (·.high) ++ f :: q.dropWhile (·.high))
    else c :: (q ++ [f])

/-- A frame offered to the queue of port `p`: dropped and counted when the port would hold more than 96 KB (R581). -/
def Node.ethPut (n : Node) (p : Nat) (f : EthFrame) (head : Bool) : Node :=
  if 98304 < ((n.ethQ p).map (·.bytes.length)).sum + f.bytes.length then (n.count ETH_CNT_DROPBUF.VALUE).raise ETH_EVT.DROPBUF
  else n.setEthQ p (ethInsert f head (n.ethQ p))

/-! ### Frame fields -/

/-- A frame with its frame check sequence appended. -/
def withFcs (f : List Byte) : List Byte := f ++ leBytes 4 (crc32 f)

/-- Is a frame's frame check sequence right? -/
def fcsOk (f : List Byte) : Bool := 18 ≤ f.length && le f (f.length - 4) 4 = crc32 (f.take (f.length - 4))

/-- Offset of the ethertype: after one IEEE 802.1Q tag where there is one. -/
def typeOff (f : List Byte) : Nat := if be f 12 2 = 0x8100 then 16 else 12

/-- The node's own MAC address, as the number its six bytes spell most significant first (R604; byte 0 in bits [7:0]: log entry 36). -/
def Node.ownMac (n : Node) : Nat := ofBe (leBytes 2 (n.rd ETH_MAC_HI.VALUE) ++ leBytes 4 (n.rd ETH_MAC_LO.VALUE))

/-- Does an IPv4 header without options or fragments start at `o`? -/
def plainIp (f : List Byte) (o : Nat) : Bool := be f o 1 = 0x45 && bits (be f (o + 6) 2) 0 14 = 0

/-- Is a UDP destination port one of PTP's? -/
def ptpPort (v : Nat) : Bool := v = 319 || v = 320

/-- The offset of the PTP header of a frame in an encapsulation that R535 recognizes, whatever its versionPTP. -/
def Node.ptpOff (n : Node) (f : List Byte) : Option Nat :=
  let o := typeOff f + 2
  let t := be f (typeOff f) 2
  if t = 0x88F7 && n.on TIME_TC.L2EN then some o
  else if t = 0x0800 && plainIp f o && be f (o + 9) 1 = 17 && ptpPort (be f (o + 22) 2) && n.on TIME_TC.UDPEN then some (o + 28)
  else none

/-- Is a frame PTP in a form that R535 names as not corrected: UDP over IPv6, IPv4 with options or fragments, two tags? -/
def ptpForeign (f : List Byte) : Bool :=
  let o := typeOff f + 2
  let t := be f (typeOff f) 2
  let udp4 (o : Nat) : Bool := be f (o + 9) 1 = 17 && ptpPort (be f (o + 4 * bits (be f o 1) 0 4 + 2) 2)
  if t = 0x86DD then be f (o + 6) 1 = 17 && ptpPort (be f (o + 42) 2)
  else if t = 0x0800 then !plainIp f o && udp4 o
  else if t = 0x8100 && typeOff f = 16 then
    be f 20 2 = 0x88F7 || (be f 20 2 = 0x0800 && udp4 22) || (be f 20 2 = 0x86DD && be f 28 1 = 17 && ptpPort (be f 64 2))
  else false

/-- messageType of the PTP header at `o`. -/
def ptpType (f : List Byte) (o : Nat) : Nat := be f o 1 % 16

/-- Is versionPTP of the header at `o` 2? -/
def ptpV2 (f : List Byte) (o : Nat) : Bool := be f (o + 1) 1 % 16 = 2

/-- Is a frame a PTP event message (Sync, Delay_Req, Pdelay_Req, Pdelay_Resp)? -/
def Node.ptpEvent (n : Node) (f : List Byte) : Bool :=
  match n.ptpOff f with
  | some o => ptpV2 f o && ptpType f o < 4
  | none => false

/-- Does a frame go in the high queue: a PTP event message, or PCP 6 or 7 (R581)? -/
def Node.highFrame (n : Node) (f : List Byte) : Bool := n.ptpEvent f || (be f 12 2 = 0x8100 && 6 ≤ be f 14 2 / 8192)

/-! ### The transparent clock -/

/-- The two-step entries of egress port `p` (R537). -/
def Node.twoStep (n : Node) (p : Nat) : List TwoStep := if p = 0 then n.time.twoStep0 else n.time.twoStep1

/-- `n` with the two-step entries of port `p` replaced; TIME_TC.TWOSTEP counts both ports' (R543). -/
def Node.setTwoStep (n : Node) (p : Nat) (l : List TwoStep) : Node :=
  let n := if p = 0 then { n with time := { n.time with twoStep0 := l } } else { n with time := { n.time with twoStep1 := l } }
  n.wr TIME_TC.TWOSTEP (n.time.twoStep0.length + n.time.twoStep1.length)

/-- A frame with residence added to the correctionField of the header at `o`, the UDP checksum set to 0 and the FCS computed again
(R535, R536). -/
def addResidence (f : List Byte) (o : Nat) (residence : Int) : List Byte :=
  let body := f.take (f.length - 4)
  let c := ((be body (o + 8) 8 : Int) + residence * 65536).emod 18446744073709551616
  let body := body.take (o + 8) ++ beBytes 8 c.toNat ++ body.drop (o + 16)
  let t := typeOff f
  let body := if be f t 2 = 0x0800 then body.take (t + 2 + 26) ++ [0, 0] ++ body.drop (t + 2 + 28) else body
  withFcs body

/-- A PTP frame leaves egress port `p` with the timestamps of its ingress and egress on TB_PTP: the frame sent, and the node after
(R535 to R537). -/
def Node.tcPass (n : Node) (p : Nat) (f : List Byte) (tin tout : Word) : List Byte × Node :=
  if !n.on TIME_TC.EN then (f, n)
  else
    match n.ptpOff f with
    | none => (f, if ptpForeign f then n.count TIME_CNT_TCUNCORR.VALUE else n)
    | some o =>
      if !ptpV2 f o then (f, n.count TIME_CNT_TCUNCORR.VALUE)
      else
        let res := signed32 (tout - tin).toNat
        let dom := be f (o + 4) 1
        let src := be f (o + 20) 10
        let sq := be f (o + 30) 2
        let two := bit (be f (o + 6) 1) 1
        let t := ptpType f o
        if t = 1 || (t = 0 && !two) then (addResidence f o res, n.count TIME_CNT_TCCORR.VALUE)
        else if t = 0 then
          let l := (n.twoStep p).filter (fun x => !(x.domain = dom && x.source = src && x.seqId = sq))
          let full := decide (32 ≤ l.length)
          let n := n.setTwoStep p ((if full then l.drop 1 else l) ++ [⟨dom, src, sq, res, n.now⟩])
          (f, if full then n.count TIME_CNT_TCFULL.VALUE else n)
        else if t = 8 then
          match (n.twoStep p).find? (fun x => x.domain = dom && x.source = src && x.seqId = sq) with
          | some x => (addResidence f o x.residence, (n.setTwoStep p ((n.twoStep p).filter (· ≠ x))).count TIME_CNT_TCCORR.VALUE)
          | none => (f, n.count TIME_CNT_TCFUPMISS.VALUE)
        else (f, n)

/-! ### Forwarding -/

/-- The MAC address learned for `mac`: its port. -/
def Node.macPort (n : Node) (mac : Nat) : Option Nat := (n.eth.macs.find? (fun m => m.1 = mac)).map (·.2.1)

/-- A source address learned on port `p` (R580); a full table learns no new address (log entry 37). -/
def Node.macLearn (n : Node) (mac p : Nat) : Node :=
  if !n.on ETH_CTRL.LEARN || bit (mac / 1099511627776) 0 then n
  else
    let rest := n.eth.macs.filter (fun m => m.1 ≠ mac)
    if rest.length < 2048 then n.updEth (fun x => { x with macs := rest ++ [(mac, p, n.now)] }) else n

/-- The external ports to which a frame from port `from_` (2: internal) goes: its learned port, or every other one with link (R580). A
frame for the node's own address, and one whose learned port is where it came from, goes to none. -/
def Node.ethTargets (n : Node) (from_ : Nat) (f : List Byte) : List Nat :=
  let dst := be f 0 6
  if dst = n.ownMac && dst ≠ 0 then []
  else
    match (if bit (dst / 1099511627776) 0 then none else n.macPort dst) with
    | some p => if p = from_ || !n.ethOn p then [] else [p]
    | none => ([0, 1] : List Nat).filter (fun p => p ≠ from_ && n.ethLink p)

/-- A frame queued at each of `ports`; the transmit descriptor goes with the lowest one's copy (R583). FWD counts the frame once. -/
def Node.ethSend (n : Node) (ports : List Nat) (f : List Byte) (desc : Option Nat) (tin : Option Word) : Node :=
  let high := n.highFrame f
  let n := ports.foldl (fun (n : Node) (p : Nat) =>
    n.ethPut p ⟨f, high, if ports.head? = some p then desc else none, none, tin⟩ false) n
  if ports = [] then n else n.count ETH_CNT_FWD.VALUE

/-! ### Rings (R583) -/

/-- Do `len` bytes from `a` lie in DMEM or in GENBUF? -/
def ethMem (a len : Nat) : Bool :=
  (0x20200000 ≤ a && a + len ≤ 0x20300000) || (0x207E0000 ≤ a && a + len ≤ 0x20800000)

/-- Address of descriptor `i` of a ring. -/
def descAddr (ring i : Nat) : Nat := ring + 16 * i

/-- The next descriptor's number. -/
def ringStep (count i : Nat) : Nat := if count ≤ i + 1 then 0 else i + 1

/-- A frame for the internal port goes to the receive ring, without its FCS; a descriptor of software's drops it (R583). A ring or a buffer
outside DMEM and GENBUF takes no frame (log entry 38). -/
def Node.rxRing (n : Node) (from_ : Nat) (f : List Byte) (ts : Word) : Node :=
  let c := n.rd ETH_RXCNT.COUNT
  let i := n.rd ETH_RXCNT.NEXT
  let d := descAddr (n.rd ETH_RXRING.VALUE) i
  if c = 0 || 256 < c || !ethMem d 16 then n
  else if n.uceIn d 16 then n.uncorrectable
  else if !bit (n.memByte (d + 6)).toNat 0 then (n.count ETH_CNT_RXFULL.VALUE).raise ETH_EVT.RXFULL
  else if !ethMem (n.memLe d 4) 1536 then n
  else
    let body := f.take (f.length - 4)
    let flags := 2 + 4 * b2n (n.ptpOff f).isSome + 8 * from_
    let n := n.memPut (n.memLe d 4) body
    let n := n.memPut (d + 4) (leBytes 2 body.length ++ leBytes 1 flags ++ [0] ++ leBytes 4 ts.toNat ++ leBytes 4 0)
    n.wr ETH_RXCNT.NEXT (ringStep c i)

/-- A transmit descriptor goes back to software: its timestamp, whether it is valid, and ERR (R583). -/
def Node.txReturn (n : Node) (i : Nat) (ts : Option Word) (err : Bool) : Node :=
  let d := descAddr (n.rd ETH_TXRING.VALUE) i
  if !ethMem d 16 then n
  else
    let n := n.memPut (d + 6) (leBytes 1 (2 * b2n ts.isSome + 4 * b2n err))
    match ts with
    | some t => n.memPut (d + 8) (leBytes 4 t.toNat)
    | none => n

/-- Is transmit descriptor `i` still with a frame in a queue? -/
def Node.txBusy (n : Node) (i : Nat) : Bool := (n.eth.q0 ++ n.eth.q1).any (fun f => f.desc = some i)

/-- One transmit descriptor at NEXT, if it belongs to ETH: its frame is queued, or refused with ERR (R583). `none` ends the scan. -/
def Node.txOne (n : Node) : Option Node :=
  let c := n.rd ETH_TXCNT.COUNT
  let i := n.rd ETH_TXCNT.NEXT
  let d := descAddr (n.rd ETH_TXRING.VALUE) i
  if c = 0 || 256 < c || !ethMem d 16 || n.uceIn d 16 || n.txBusy i || !bit (n.memByte (d + 6)).toNat 0 then none
  else
    let len := n.memLe (d + 4) 2
    let a := n.memLe d 4
    let mask := (n.memByte (d + 7)).toNat % 4
    let m := n.wr ETH_TXCNT.NEXT (ringStep c i)
    if len < 60 || 1532 < len || !ethMem a len then some (m.txReturn i none true)
    else if n.uceIn a len then some (m.uncorrectable.txReturn i none true)
    else
      let f := withFcs (n.memBytes a len)
      let ports := if mask = 0 then n.ethTargets 2 f else ([0, 1] : List Nat).filter (fun p => bit mask p && n.ethOn p)
      let m := m.ethSend ports f (some i) none
      some (if m.txBusy i then m else m.txReturn i none (ports ≠ []))

/-- TXKICK: descriptors are taken until one belongs to software or the ring is done (R583, R604). -/
def Node.txScan : Nat → Node → Node
  | 0, n => n
  | k + 1, n =>
    match n.txOne with
    | some m => Node.txScan k m
    | none => n

/-! ### IPv4, ARP and UDP of the internal port (R582) -/

/-- A one's complement checksum over bytes. -/
def ipSum (bs : List Byte) : Nat :=
  let rec words : List Byte → Nat
    | a :: b :: t => 256 * a.toNat + b.toNat + words t
    | [a] => 256 * a.toNat
    | [] => 0
  let s := words bs
  let s := s / 65536 + s % 65536
  let s := s / 65536 + s % 65536
  65535 - (s / 65536 + s % 65536)

/-- A frame put out by the internal port itself, padded to 60 bytes, forwarded by address. -/
def Node.intSend (n : Node) (f : List Byte) : Node :=
  let f := withFcs (padTo 60 f)
  n.ethSend (n.ethTargets 2 f) f none none

/-- An IPv4 packet from the node's own address; the identification and the time to live are the implementation's (free, log entry 39). -/
def Node.ipSend (n : Node) (mac dst proto : Nat) (data : List Byte) : Node :=
  let w := n.freeWord
  let n := w.2
  let head (sum : Nat) : List Byte := [0x45, 0] ++ beBytes 2 (20 + data.length) ++ beBytes 2 (w.1 % 65536) ++ [0, 0] ++
    beBytes 1 (w.1 / 65536) ++ beBytes 1 proto ++ beBytes 2 sum ++ beBytes 4 (n.rd ETH_IP.VALUE) ++ beBytes 4 dst
  n.intSend (beBytes 6 mac ++ beBytes 6 n.ownMac ++ [8, 0] ++ head (ipSum (head 0)) ++ data)

/-- A UDP datagram from the node's own address (R226: the checksum is computed normally). -/
def Node.udpSend (n : Node) (mac dst sport dport : Nat) (payload : List Byte) : Node :=
  let len := 8 + payload.length
  let pseudo := beBytes 4 (n.rd ETH_IP.VALUE) ++ beBytes 4 dst ++ [0, 17] ++ beBytes 2 len
  let udp (sum : Nat) : List Byte := beBytes 2 sport ++ beBytes 2 dport ++ beBytes 2 len ++ beBytes 2 sum ++ payload
  let sum := ipSum (pseudo ++ udp 0)
  n.ipSend mac dst 17 (udp (if sum = 0 then 65535 else sum))

/-- An ARP packet: operation, target MAC and address. -/
def Node.arpSend (n : Node) (op mac ip : Nat) : Node :=
  let dst := if op = 1 then 0xFFFFFFFFFFFF else mac
  n.intSend (beBytes 6 dst ++ beBytes 6 n.ownMac ++ [8, 6, 0, 1, 8, 0, 6, 4] ++ beBytes 2 op ++ beBytes 6 n.ownMac ++
    beBytes 4 (n.rd ETH_IP.VALUE) ++ beBytes 6 (if op = 1 then 0 else mac) ++ beBytes 4 ip)

/-- The address that is resolved for a destination: itself in the subnet, else the router's (R582). -/
def Node.nextHop (n : Node) (dst : Nat) : Nat :=
  if dst &&& n.rd ETH_MASK.VALUE = n.rd ETH_IP.VALUE &&& n.rd ETH_MASK.VALUE then dst else n.rd ETH_ROUTER.VALUE

/-- The MAC address of a destination from the ARP cache. Where there is none, a request goes out and the cache waits for the answer; a full
cache gives up its entry asked for longest ago (log entry 37). -/
def Node.arpAsk (n : Node) (dst : Nat) : Option Nat × Node :=
  let hop := n.nextHop dst
  match n.eth.arp.find? (fun e => e.1 = hop) with
  | some e =>
    let n := n.updEth (fun x => { x with arp := e :: x.arp.filter (fun y => y.1 ≠ hop) })
    (e.2, if e.2 = none then n.arpSend 1 0 hop else n)
  | none => (none, (n.updEth (fun x => { x with arp := ((hop, none) :: x.arp).take 16 })).arpSend 1 0 hop)

/-- The gateway sends one group (R225, R226): a datagram that cannot be queued, its destination unresolved or no port or room for it,
counts in GWDROP. -/
def Node.gwSend (n : Node) (g : Nat) : Node :=
  let period := max 1 (min 1000 (n.rd (SIG_GWW2.PERIOD g)))
  if !n.on SIG_CTRL.GWEN || !n.on (SIG_GWW2.EN g) || n.rd (SIG_GWW0.COUNT g) = 0 || n.shed || n.cycle % period ≠ 0 then n
  else
    let n := if n.uce = [] then n else (upTo (min 4096 (n.rd (SIG_GWW0.COUNT g)))).foldl (fun (n : Node) (j : Nat) => n.pimgScrub (n.rd (SIG_GWW0.FIRST g) + j)) n
    let port := n.rd (SIG_GWW2.PORT g)
    let dst := n.rd (SIG_GWW1.DEST g)
    (n.gwPayloads g).foldl (fun (n : Node) (p : List Byte) =>
      let r := n.arpAsk dst
      match r.1 with
      | none => (r.2.count SIG_CNT_GWDROP.VALUE).raise SIG_EVT.GWDROP
      | some mac =>
        let before := ((n.eth.q0 ++ n.eth.q1).length)
        let m := r.2.udpSend mac dst port port p
        if (m.eth.q0 ++ m.eth.q1).length = before then (m.count SIG_CNT_GWDROP.VALUE).raise SIG_EVT.GWDROP else m.count SIG_CNT_GWSENT.VALUE) n

/-! ### Launch slots (R585, R606) -/

/-- A write to ETH_LSnB: STATE follows ARM while no launch is handed (DEDUCED, log entry 40). -/
def Node.lsbWrite (n : Node) (k : Nat) (v : Word) : Node :=
  let n := n.setReg (ETH_LSB.LEN k).addr (v &&& 0x80F307FF)
  if n.rd (ETH_LSC.STATE k) = 2 then n
  else if n.on (ETH_LSB.ARM k) then n.wr (ETH_LSC.STATE k) 1
  else if n.rd (ETH_LSC.STATE k) = 1 then n.wr (ETH_LSC.STATE k) 0 else n

/-- TIME hands a launch of slot `k` (R585): is the target good, and the node after, with the frame read. -/
def Node.ethHand (n : Node) (k : Nat) : Bool × Node :=
  let len := n.rd (ETH_LSB.LEN k)
  let a := n.rd (ETH_LSA.ADDR k)
  let ports := n.rd (ETH_LSB.PORTS k)
  let linked := ([0, 1] : List Nat).any (fun p => bit ports p && n.ethLink p)
  if !n.on (ETH_LSB.ARM k) || !linked || !ethMem a len || len < 60 || 1532 < len || n.uceIn a len then (false, n)
  else
    let f := withFcs (n.memBytes a len)
    (true, (n.updEth (fun x => { x with handed := x.handed.filter (fun h => h.1 ≠ k) ++ [(k, f, ports)] })).wr (ETH_LSC.STATE k) 2)

/-- A handed launch of slot `k` fires: its frame goes at the head of the high queue of each named port (R585). -/
def Node.ethFire (n : Node) (k : Nat) : Bool × Node :=
  match n.eth.handed.find? (fun h => h.1 = k) with
  | none => (false, n)
  | some (_, f, mask) =>
    let ports := ([0, 1] : List Nat).filter (fun p => bit mask p)
    let n := n.updEth (fun x => { x with handed := x.handed.filter (fun h => h.1 ≠ k) })
    (true, ports.foldl (fun (n : Node) (p : Nat) => n.ethPut p ⟨f, true, none, if ports.head? = some p then some k else none, none⟩ true) n)

/-- A launch of slot `k` is withdrawn after the handing: the slot is armed again. -/
def Node.ethUnhand (n : Node) (k : Nat) : Node :=
  if n.eth.handed.any (fun h => h.1 = k) then
    (n.updEth (fun x => { x with handed := x.handed.filter (fun h => h.1 ≠ k) })).wr (ETH_LSC.STATE k) (n.rd (ETH_LSB.ARM k))
  else n

/-- The timestamp of port `p` on TB_PTP: the one taken where its base is TB_PTP, else the base's value now (R536, R543). -/
def Node.ptpStamp (n : Node) (p : Nat) (ts : Word) : Word :=
  if (if p = 0 then n.rd TIME_ETHTS.ETH0 else n.rd TIME_ETHTS.ETH1) = 1 then ts else n.base 1

/-- The frame being sent leaves port `p` with egress timestamp `ts` (R536, R583, R585). -/
def Node.ethSent (n : Node) (p : Nat) (ts : Word) : Node :=
  match n.ethQ p with
  | [] => n
  | f :: q =>
    let n := n.setEthQ p q
    let r := match f.tin with
      | some t => n.tcPass p f.bytes t (n.ptpStamp p ts)
      | none => (f.bytes, n)
    let n := r.2.emit (.eth p) r.1
    let n := match f.desc with
      | some i => n.txReturn i (some ts) false
      | none => n
    match f.slot with
    | some k => ((n.wr (ETH_LSD.TS k) ts.toNat).wr (ETH_LSC.STATE k) 3).wr (ETH_LSB.ARM k) 0
    | none => n

/-! ### Links and MDIO -/

/-- A port's link bit; a change raises its event (R607). -/
def Node.setLink (n : Node) (p : Nat) (up : Bool) : Node :=
  if n.on (ETH_PSTAT.LINK p) = up then n else (n.wrB (ETH_PSTAT.LINK p) up).raiseBit ETH_EVT.LINK p

/-- A write to ETH_MDIO (R586, R605): GO starts one operation unless one runs. -/
def Node.mdioWrite (n : Node) (v : Word) : Node :=
  if n.on ETH_MDIO.BUSY then n
  else
    let n := n.setReg ETH_MDIO.PHY.addr (v &&& 0x7FF)
    if bit v.toNat 31 then
      (n.wr ETH_MDIO.BUSY 1).emit .mdio (leBytes 1 (n.rd ETH_MDIO.PHY) ++ leBytes 1 (n.rd ETH_MDIO.REG) ++ leBytes 1 (n.rd ETH_MDIO.WRITE)
        ++ (if n.on ETH_MDIO.WRITE then leBytes 2 (n.rd ETH_MDIODATA.DATA) else []))
    else n

/-! ### The commands -/

/-- GATEWAY_SEND: an enabled group is read and sent (R225). -/
def execGatewaySend (group : Fin 64) (s : State) : Host.Outcome State Fault Refusal := s.onNode (fun n => n.gwSend group)

/-- TXKICK: ETH_TXKICK.GO scans the transmit ring (R604). -/
def execTxkick (by_ : Initiator) (s : State) : Host.Outcome State Fault Refusal :=
  s.onNode (fun n => n.mirrored by_ ETH_TXKICK.GO.addr 1 (fun n => if n.on ETH_CTRL.EN then n.txScan 256 else n))

/-- ARP_REFRESH: an ARP cache entry is asked for again (R582). -/
def execArpRefresh (entry : Fin 16) (s : State) : Host.Outcome State Fault Refusal :=
  s.onNode (fun n => match n.eth.arp[entry.val]? with
    | some e => n.arpSend 1 0 e.1
    | none => n)

/-- ADDRESS_AGEING: a learned address ages out; AGE 0 keeps it (R580, R603). -/
def execAddressAgeing (mac : Nat) (s : State) : Host.Outcome State Fault Refusal :=
  s.onNode (fun n => if n.rd ETH_CTRL.AGE = 0 then n else n.updEth (fun x => { x with macs := x.macs.filter (fun m => m.1 ≠ mac) }))

/-- MDIO_READ: ETH_MDIO.GO with WRITE 0 (R586). -/
def execMdioRead (by_ : Initiator) (value : Word) (s : State) : Host.Outcome State Fault Refusal :=
  s.onNode (fun n => n.mirrored by_ ETH_MDIO.GO.addr value.toNat (fun n => n.mdioWrite ((value &&& 0xFFFFFBFF) ||| 0x80000000)))

/-- MDIO_WRITE: ETH_MDIO.GO with WRITE 1 (R586). -/
def execMdioWrite (by_ : Initiator) (value : Word) (s : State) : Host.Outcome State Fault Refusal :=
  s.onNode (fun n => n.mirrored by_ ETH_MDIO.GO.addr value.toNat (fun n => n.mdioWrite (value ||| 0x80000400)))

/-- MDIO_DONE: an MDIO operation completes (R586, R605). -/
def execMdioDone (data : BitVec 16) (s : State) : Host.Outcome State Fault Refusal :=
  s.onNode (fun n =>
    if !n.on ETH_MDIO.BUSY then n
    else
      let n := n.wr ETH_MDIO.BUSY 0
      if n.on ETH_MDIO.WRITE then n else n.wr ETH_MDIODATA.DATA data.toNat)

/-- MDIO_POLL: register 1 of a PHY as polled; its bit 2 is the link's (IEEE 802.3 clause 22); polling stops while shed (R586). -/
def execMdioPoll (port : Fin 2) (reg1 : BitVec 16) (s : State) : Host.Outcome State Fault Refusal :=
  s.onNode (fun n => if n.on ETH_MDIOPOLL.EN && !n.shed then n.setLink port (bit reg1.toNat 2) else n)

/-- LINK_CHANGE: an external port's link as its PCS reports it (R603, R607). -/
def execLinkChange (port : Fin 2) (up : Bool) (speed : BitVec 2) (anDone pcsFault : Bool) (s : State) : Host.Outcome State Fault Refusal :=
  s.onNode (fun n =>
    let n := (n.wr (ETH_PSTAT.SPEED port) speed.toNat).wrB (ETH_PSTAT.ANDONE port) anDone
    (n.wrB (ETH_PSTAT.FAULT port) pcsFault).setLink port up)

/-- ETH_FRAME_SENT: the frame being sent has left its port (R583, R585). -/
def execEthFrameSent (port : EthPort) (ts : Word) (s : State) : Host.Outcome State Fault Refusal :=
  s.onNode (fun n => if port = .int then n else n.ethSent (ethNo port) ts)

end Sys2Proof.Machine
end

