-- ==== Sys2Proof/Machine/Tdm.lean ====
section
/-! DEFINITION. The serial audio ports (16_local_interfaces.md R587 to R589, R608). -/

namespace Sys2Proof.Machine

/-- What no register of TDM port `p` shows. -/
def Node.tdmSt (n : Node) (p : Nat) : TdmState := Tab.get (fun _ => TdmState.empty) n.tdm p

/-- `n` with the state of TDM port `p` changed. -/
def Node.updTdm (n : Node) (p : Nat) (f : TdmState → TdmState) : Node :=
  { n with tdm := Tab.set (fun _ => TdmState.empty) n.tdm p (f (n.tdmSt p)) }

/-- Port `p`'s frames begin (R589): a master on the grid, or at its launch with GRIDOFF; a slave with the board's. -/
def Node.tdmStart (n : Node) (p : Nat) (launched : Bool) : Node :=
  let n := (n.wr (TDM_STATUS.RUN p) 1).wrB (TDM_STATUS.GRIDOFF p) launched
  (n.updTdm p (fun x => { x with frac := 0, handed := false })).raise (TDM_EVT.START p)

/-- Port `p` stops at the end of the frame in progress, which still counts (R589). -/
def Node.tdmStop (n : Node) (p : Nat) : Node :=
  let n := if n.on (TDM_STATUS.RUN p) then n.count (TDM_FRAMES.VALUE p) else n
  let n := ((n.wr (TDM_STATUS.RUN p) 0).wr (TDM_STATUS.GRIDOFF p) 0).wr (TDM_STATUS.LOCK p) 0
  (n.wr (TDM_STATUS.LOCKERR p) 0).updTdm p (fun _ => TdmState.empty)

/-- A write to TDMn_CTRL (R589, R608). A slave counts as within range until a frame rate outside it is found (log entry 41). -/
def Node.tdmCtrl (n : Node) (p : Nat) (v : Word) : Node :=
  let n := n.setReg (TDM_CTRL.EN p).addr (v &&& 0xFFF)
  if !n.on (TDM_CTRL.EN p) then n.tdmStop p
  else if n.on (TDM_STATUS.RUN p) then n
  else if !n.on (TDM_CTRL.MASTER p) then (n.wr (TDM_STATUS.LOCK p) 1).tdmStart p false
  else if n.on (TDM_CTRL.LAUNCH p) then n
  else n.tdmStart p false

/-- One CLK_SYS period of a running port's frames (R587), at the nominal rate or a slave's offset (log entry 41). -/
def Node.tdmTick (n : Node) (p : Nat) : Node :=
  if !n.on (TDM_STATUS.RUN p) then n
  else
    let v := n.rd (TDM_STATUS.PPM p)
    let ppm : Int := if n.on (TDM_CTRL.MASTER p) then 0 else if v < 32768 then v else (v : Int) - 65536
    let f := (n.tdmSt p).frac + 96000 * (1000000 + ppm).toNat
    let n := n.updTdm p (fun x => { x with frac := f % 1000000000000000 })
    if 1000000000000000 ≤ f then n.count (TDM_FRAMES.VALUE p) else n

/-- TIME hands port `p` a kind 3 launch of engine `e` (R589): is the target good, and the node after. -/
def Node.tdmHand (n : Node) (p e : Nat) : Bool × Node :=
  if n.on (TDM_CTRL.EN p) && n.on (TDM_CTRL.MASTER p) && !n.on (TDM_STATUS.RUN p) && n.rd (TDM_CTRL.OWNER p) = e then
    (true, n.updTdm p (fun x => { x with handed := true }))
  else (false, n)

/-- A handed launch of port `p` fires: its first FS at the launch time (R530, R589). -/
def Node.tdmFire (n : Node) (p : Nat) : Bool × Node :=
  if (n.tdmSt p).handed then (true, n.tdmStart p true) else (false, n)

/-- A launch of port `p` is withdrawn after the handing. -/
def Node.tdmUnhand (n : Node) (p : Nat) : Node := n.updTdm p (fun x => { x with handed := false })

/-- A slave's frame rate, as measured (R588, R608). -/
def Node.tdmRate (n : Node) (p : Nat) (ppm : Int) : Node := n.wr (TDM_STATUS.PPM p) (ppm.emod 65536).toNat

/-- TDM_ENABLE: TDMn_CTRL is written with EN 1 (R589). -/
def execTdmEnable (by_ : Initiator) (port : Fin 4) (value : Word) (s : State) : Host.Outcome State Fault Refusal :=
  s.onNode (fun n => n.mirrored by_ (TDM_CTRL.EN port).addr value.toNat (fun n => n.tdmCtrl port (value ||| 1)))

/-- TDM_DISABLE: TDMn_CTRL is written with EN 0 (R589). -/
def execTdmDisable (by_ : Initiator) (port : Fin 4) (value : Word) (s : State) : Host.Outcome State Fault Refusal :=
  s.onNode (fun n => n.mirrored by_ (TDM_CTRL.EN port).addr value.toNat (fun n => n.tdmCtrl port (value &&& 0xFFFFFFFE)))

/-- TDM_LOCKERR: a slave's frame rate lies outside 48 kHz ± 1,000 ppm (R588). -/
def execTdmLockerr (port : Fin 4) (ppm : Int) (s : State) : Host.Outcome State Fault Refusal :=
  s.onNode (fun n =>
    if !n.on (TDM_STATUS.RUN port) || n.on (TDM_CTRL.MASTER port) || ppm.natAbs ≤ 1000 then n
    else
      let n := n.tdmRate port ppm
      if n.on (TDM_STATUS.LOCKERR port) then n
      else (((n.wr (TDM_STATUS.LOCKERR port) 1).wr (TDM_STATUS.LOCK port) 0).count (TDM_LOCKERRS.VALUE port)).raise (TDM_EVT.LOCKERR port))

/-- TDM_LOCK_REGAIN: a slave's rate has been within range for 16 consecutive frames (R588). -/
def execTdmLockRegain (port : Fin 4) (ppm : Int) (s : State) : Host.Outcome State Fault Refusal :=
  s.onNode (fun n =>
    if !n.on (TDM_STATUS.RUN port) || n.on (TDM_CTRL.MASTER port) || 1000 < ppm.natAbs then n
    else ((n.tdmRate port ppm).wr (TDM_STATUS.LOCKERR port) 0).wr (TDM_STATUS.LOCK port) 1)

end Sys2Proof.Machine
end

