-- ==== Sys2Proof/Machine/Launch.lean ====
section
/-! DEFINITION. Timed launches, steps of TB_UTC and TB_PTP, and the transparent clock's rows (14_time.md R529 to R539, R542, R543). -/

namespace Sys2Proof.Machine

/-- How far launch `l` lies ahead of its base, in ns (R393: a signed difference modulo 2^32). -/
def Node.ahead (n : Node) (l : Launch) : Int := signed32 (l.time - n.base l.base).toNat

/-- The unit judges and takes a launch of a kind and index at the handing (R531, R556, R585, R589). -/
def Node.unitHand (n : Node) (l : Launch) : Bool × Node :=
  if l.kind = 1 then n.canHand l.index else if l.kind = 2 then n.ethHand l.index else n.tdmHand l.index l.eng

/-- The unit fires a launch it was handed. -/
def Node.unitFire (n : Node) (l : Launch) : Bool × Node :=
  if l.kind = 1 then n.canFire l.index else if l.kind = 2 then n.ethFire l.index else n.tdmFire l.index

/-- The unit gives up a launch it was handed. -/
def Node.unitUnhand (n : Node) (l : Launch) : Node :=
  if !l.handed then n else if l.kind = 1 then n.canUnhand l.index else if l.kind = 2 then n.ethUnhand l.index else n.tdmUnhand l.index

/-- TIME hands launch `l` of the table; a target that cannot be launched drops it with NOTARGET (R530, R531). -/
def Node.handLaunch (n : Node) (l : Launch) : Node :=
  if l.handed then n
  else
    let r := n.unitHand l
    if r.1 then r.2.setLaunches (r.2.time.launches.map (fun x => if x = l then { x with handed := true } else x))
    else (r.2.setLaunches (r.2.time.launches.erase l)).count TIME_CNT_NOTARGET.VALUE

/-- A handed launch fires and leaves the table (R530, R531, R533). -/
def Node.fireLaunch (n : Node) (l : Launch) : Node :=
  let late := l.late || decide (n.ahead l < 0)
  let r := n.unitFire l
  let n := r.2.setLaunches (r.2.time.launches.erase l)
  if !r.1 then n.count TIME_CNT_NOTARGET.VALUE
  else
    let n := n.count TIME_CNT_LAUNCHED.VALUE
    if late then (n.count TIME_CNT_LATE.VALUE).raise TIME_EVT.LATE else n

/-- A new launch in the table, handed at once when its time lies less than 20 µs ahead or has passed (R529, R531). -/
def Node.addLaunch (n : Node) (l : Launch) : Node :=
  let n := n.setLaunches (n.time.launches ++ [l])
  if n.ahead l < 20000 || l.late then n.handLaunch l else n

/-- Insert a launch behind those that are due no later. -/
def insertDue (d : Launch → Int) (l : Launch) : List Launch → List Launch
  | [] => [l]
  | x :: t => if d l < d x then l :: x :: t else x :: insertDue d l t

/-- The launches on base `code` after its step from `before` to its value now (R532): passed ones fire at once in time order, late; those
that would lie 2^31 ns or more ahead are removed. -/
def Node.launchesStepped (n : Node) (code : Nat) (before : Word) : Node :=
  let delta := signed32 (n.base code - before).toNat
  let was := fun (l : Launch) => signed32 (l.time - before).toNat
  let mine := n.time.launches.filter (fun l => l.base = code)
  let passed := (mine.filter (fun l => 0 < was l && was l - delta ≤ 0)).foldr (insertDue was) []
  let gone := mine.filter (fun l => 2147483648 ≤ was l - delta)
  let n := gone.foldl (fun (n : Node) (l : Launch) =>
    (((n.unitUnhand l).setLaunches (n.time.launches.erase l)).count TIME_CNT_STEPCANCEL.VALUE).raise TIME_EVT.STEPCANCEL) n
  passed.foldl (fun (n : Node) (l : Launch) =>
    let late : Launch := { l with late := true }
    let n := n.setLaunches (n.time.launches.map (fun x => if x = l then late else x))
    let n := n.handLaunch late
    let h : Launch := { late with handed := true }
    if n.time.launches.contains h then n.fireLaunch h else n) n

/-- A step of TB_UTC by `d` (R532, R534). -/
def Node.utcStep (n : Node) (d : Word) : Node :=
  let before := n.time.utc
  let n := { n with time := { n.time with utc := before + d } }
  (n.stepped 3 before (before + d)).launchesStepped 3 before

/-- A step of TB_PTP by `d` (R532, R534, R538). -/
def Node.ptpStepBy (n : Node) (d : Word) : Node :=
  let before := n.time.ptp
  let n := { n with time := { n.time with ptp := before + d, ptpPending := none } }
  ((n.wr TIME_STATUS.PTPSTEPPEND 0).stepped 1 before (before + d)).launchesStepped 1 before

/-- Does a PTP event message lie between ingress and egress in the switch (R538)? -/
def Node.eventInSwitch (n : Node) : Bool := (n.eth.q0 ++ n.eth.q1).any (fun f => f.tin.isSome && n.ptpEvent f.bytes)

/-- A TB_PTP step asked for: it waits while an event message is in the switch, and steps that wait add up (R538). -/
def Node.ptpStepAsk (n : Node) (d : Word) : Node :=
  let total := d + n.time.ptpPending.getD 0
  if n.eventInSwitch then ({ n with time := { n.time with ptpPending := some total } } : Node).wr TIME_STATUS.PTPSTEPPEND 1
  else n.ptpStepBy total

/-- A write to TIME_LCANCEL (R533, R543). -/
def Node.lcancel (n : Node) (v : Word) : Node :=
  let n := n.setReg TIME_LCANCEL.INDEX.addr (v &&& 0xFFFFF)
  if !bit v.toNat 31 then n
  else
    let hit := n.time.launches.filter (fun l => l.kind = n.rd TIME_LCANCEL.KIND && l.index = n.rd TIME_LCANCEL.INDEX)
    let n := hit.foldl Node.unitUnhand n
    n.setLaunches (n.time.launches.filter (fun l => !hit.contains l))

/-- A PTP message crosses the switch (R535 to R537). -/
def Node.ptpCross (n : Node) (r : PtpRx) : Node :=
  let out := 1 - r.ingress.val
  if !n.ethOn r.ingress || !n.ethLink out then n
  else if !fcsOk r.bytes then n.count ETH_CNT_DROPFCS.VALUE
  else
    let x := n.tcPass out r.bytes r.tin r.tout
    (x.2.emit (.eth out) x.1).count ETH_CNT_FWD.VALUE

/-! ### The commands -/

/-- UTCSET: a write to TIME_UTCSET steps TB_UTC (R532); the partner is given the step (R435). -/
def execUtcset (by_ : Initiator) (value : Word) (s : State) : Host.Outcome State Fault Refusal :=
  s.onNode (fun n => n.mirrored by_ TIME_UTCSET.VALUE.addr (value - n.time.utc).toNat (fun n => n.utcStep (value - n.time.utc)))

/-- PTPSTEP: a write to TIME_PTPSTEP asks for a step of TB_PTP (R538). -/
def execPtpstep (by_ : Initiator) (value : Word) (s : State) : Host.Outcome State Fault Refusal :=
  s.onNode (fun n => n.mirrored by_ TIME_PTPSTEP.OFFSET.addr value.toNat (fun n => n.ptpStepAsk value))

/-- PTP_STEP_APPLY: the waiting step takes effect (R538). -/
def execPtpStepApply (s : State) : Host.Outcome State Fault Refusal :=
  s.onNode (fun n => match n.time.ptpPending with
    | some d => if n.eventInSwitch then n else n.ptpStepBy d
    | none => n)

/-- LAUNCH_HAND: TIME hands a launch 20 µs before its time (R530). -/
def execLaunchHand (i : Nat) (s : State) : Host.Outcome State Fault Refusal :=
  s.onNode (fun n => match n.time.launches[i]? with
    | some l => if n.ahead l ≤ 20000 then n.handLaunch l else n
    | none => n)

/-- LAUNCH_FIRE: a handed launch fires, never before its time (R530, R531). -/
def execLaunchFire (i : Nat) (s : State) : Host.Outcome State Fault Refusal :=
  s.onNode (fun n => match n.time.launches[i]? with
    | some l => if l.handed && (n.ahead l ≤ 0 || l.late) then n.fireLaunch l else n
    | none => n)

/-- LCANCEL: TIME_LCANCEL.GO removes every pending launch of a target (R533). -/
def execLcancel (by_ : Initiator) (value : Word) (s : State) : Host.Outcome State Fault Refusal :=
  s.onNode (fun n => n.mirrored by_ TIME_LCANCEL.GO.addr value.toNat (fun n => n.lcancel (value ||| 0x80000000)))

/-- PTP_EVENT_FRAME: a PTP message crosses the transparent clock (R536). -/
def execPtpEventFrame (r : PtpRx) (s : State) : Host.Outcome State Fault Refusal := s.onNode (fun n => n.ptpCross r)

/-- TWO_STEP_TIMEOUT: the oldest two-step entry of an egress port is freed after 1 s (R537). -/
def execTwoStepTimeout (port : Fin 2) (s : State) : Host.Outcome State Fault Refusal :=
  s.onNode (fun n => n.setTwoStep port ((n.twoStep port).drop 1))

end Sys2Proof.Machine
end

