-- ==== Sys2Proof/Machine/Slots.lean ====
section
/-! DEFINITION. What a node receives and sends in the cycle: beacons, slots, roll-call (03_barel_cycle.md R98 to R116, R127, R128). -/

namespace Sys2Proof.Machine

/-! ### Beacons received (R101 to R103, R128) -/

/-- A malformed beacon, command or unit (R103, R114, R144). -/
def Node.malformed (n : Node) : Node := (n.count BAR_CNT_MALFORMED.VALUE).raise BAR_EVT.MALFORMED

/-- What the check of a beacon gives (R101, R128): foreign is one authenticated under its own ID and nonce that is not the node's. -/
inductive BeaconCheck where
  | badCrc
  | badTag
  | malformed
  | foreign
  | own
  deriving DecidableEq, Repr

/-- Are the grants of a beacon distinct? -/
def distinct : List Nat → Bool
  | [] => true
  | a :: t => !t.contains a && distinct t

/-- The SCH entries a beacon grants. -/
def beaconGrants (b : List Byte) : List Nat := (upTo (min 20 (le b 34 1))).map (fun i => le b (36 + 2 * i) 2 % 512)

/-- The check of a beacon (R100, R101). A node in LISTEN or ADMIT takes any composition of the fleet (R154). -/
def Node.checkBeacon (n : Node) (b : List Byte) : BeaconCheck :=
  let id := le b 8 4
  let mine := n.committed && id = n.compId
  let key := if mine then n.bar.key else n.compKey id (le b 24 8)
  if b.length ≠ 120 || crc32 (b.take 108) ≠ le b 108 4 then .badCrc
  else if key = [] || tag64 key (b.take 112) ≠ b.drop 112 then .badTag
  else if le b 6 1 % 16 ≠ le b 2 4 % 16 || 20 < le b 34 1 || !distinct (beaconGrants b) then .malformed
  else if mine || n.inaState = 1 || n.inaState = 5 then .own
  else .foreign

/-- A command of a governing beacon (R102, R103, R188, R494): code and the 13 argument bytes. -/
def Node.command (n : Node) (c : List Byte) : Node :=
  let a := c.drop 1
  match le c 0 1 with
  | 0x00 => n
  | 0x01 => n.contAnswered a
  | 0x02 => n.spareConfirmRx a
  | 0x03 => n.spareReleaseRx a
  | 0x10 => n.commitCmd a
  | 0x11 => n.commitKeyCmd a
  | 0x12 => n.stretchCmd a
  | 0x13 => n.relayCmd a
  | 0x14 => n.coldCmd a
  | 0x20 => n.commitLull a
  | 0x21 => n.lullBack
  | 0x22 => n.squallRx a
  | _ => n.malformed

/-- A command acted on once for each combination of code and arguments (R102). -/
def Node.commandOnce (n : Node) (c : List Byte) : Node :=
  if le c 0 1 = 0 || n.bar.acted.contains c then n else (n.updBar (fun b => { b with acted := b.acted ++ [c] })).command c

/-- Is this the first beacon in the joining part after a merge commit (R183, R523)? -/
def Node.mergeBeacon (n : Node) : Bool :=
  n.rd INA_STATUS.MPHASE = 4 && (match n.ina.merge with
    | some g => !g.wins && g.stretchLen ≠ 0
    | none => false)

/-- The merge's step of TB_TRAIN has been made. -/
def Node.mergeStepped (n : Node) : Node :=
  n.updIna (fun i => { i with merge := i.merge.map (fun g => if g.wins then g else { g with stretchLen := 0 }) })

/-- The generation that is the node's own in cycle `c` (R109, R170). -/
def Node.genAt (n : Node) (c : Nat) : Nat :=
  match n.ina.plan with
  | some p => if p.ready && p.m = c then p.gen else n.rd BAR_GEN.VALUE
  | none => n.rd BAR_GEN.VALUE

/-- The beacon governs the next cycle (R99, R109, R140 to R142). -/
def Node.governed (n : Node) (b : List Byte) (c : Nat) : Node :=
  let spare := le b 76 2
  let gen := le b 32 2
  let fl := le b 1 1
  let n := n.updBar (fun x => { x with
    grants := beaconGrants b, govGen := gen, contOpen := le b 35 1, coastRun := 0, coastStop := false, lastBeacon := some c
    spareGrant := if bit spare 15 then some (spare % 512) else none, leadUid := le b 16 8, leadNum := le b 7 1 })
  let n := ((n.wr BAR_STATUS.BEACON 1).wr BAR_STATUS.COAST 0).wr BAR_STATUS.COAST_RUN 0
  let n := (n.wrB BAR_STATUS.INAUG (bit fl 0)).wrB BAR_STATUS.MERGE (bit fl 1)
  let n := (n.wrB BAR_STATUS.SUCCESSOR (bit fl 2)).wrB BAR_STATUS.LULL (bit fl 3)
  let n := (n.wr BAR_GRANT.G (le b 34 1)).wr BAR_TTSTAMP.VALUE (le b 12 4)
  let own := bit spare 15 && n.rd BAR_SPARESTAT.STATE = 3 && n.rd BAR_SPARESTAT.ENTRY = spare % 512
  let n := n.wrB BAR_GRANT.SPARE own
  let mis := n.committed && gen ≠ n.genAt ((c + 1) % 4294967296)
  let n := (n.wrB BAR_STATUS.GENMIS mis).updIna (fun i => { i with genMisRun := if mis then i.genMisRun + 1 else 0 })
  if mis then (n.count BAR_CNT_GENMIS.VALUE).raise BAR_EVT.GENMIS else n

/-- A node in LISTEN or ADMIT follows the composition it hears (R154): its key and its lead. -/
def Node.follow (n : Node) (b : List Byte) : Node :=
  if n.inaState = 1 then (n.listenHears (le b 8 4)).updBar (fun x => { x with key := n.compKey (le b 8 4) (le b 24 8) })
  else if n.inaState = 5 then n.updBar (fun x => { x with key := n.compKey (le b 8 4) (le b 24 8) })
  else n

/-- A valid beacon of the node's composition (R98, R99, R104, R130, R42): it governs the next cycle, aligns the guardian, steers train
time, and its commands act; the next cycle begins. -/
def Node.beaconTake (n : Node) (r : BeaconRx) : Node :=
  let b := r.bytes
  let c := le b 2 4
  let apart := n.mergeApart && le b 16 8 = n.bar.leadUid && le b 24 8 = n.nonce
  if n.isLead || n.on INA_STATUS.DEPUTY then n.guardAlign c r.offset apart
  else
    let was := n
    let n := (n.follow b).governed b c
    let n := n.guardAlign c r.offset false
    let merge := n.mergeBeacon
    let n := (n.trainBeacon r.captured (BitVec.ofNat 32 (le b 12 4)) merge).audFollow was
    let n := if merge then n.mergeStepped else n
    let n := if bit (le b 1 1) 0 && n.committed && !n.on INA_STATUS.INAUG then n.inaugBegin else n
    let n := (n.commandOnce (slice b 80 14)).commandOnce (slice b 94 14)
    (n.enterCycle ((c + 1) % 4294967296)).attemptsDue

/-- A foreign beacon at an attachment (R128): on an outward attachment or the presence detector its run counts, a run of 8 triggers the
coupling; on the train side it is counted and reported. -/
def Node.beaconForeign (n : Node) (att : Nat) (b : List Byte) : Node :=
  if n.rd (LINE_CTRL.SIDE att) = 2 || n.rd (LINE_CTRL.RXMODE att) = 2 then
    let n := n.foreignHeard att (le b 8 4) (le b 16 8)
    if n.rd (LINE_STATUS.FOREIGN_RUN att) = 8 && n.ina.merge.isNone && n.committed then n.mergeStart else n
  else
    let n := n.count BAR_CNT_STRANGER.VALUE
    n.updBar (fun x => { x with heardIds := x.heardIds.filter (fun (h : Nat × Nat) => h.1 ≠ le b 8 4) ++ [(le b 8 4, n.cycle)] })

/-- A beacon received (R101, R128). The copy of the other line in the same cycle only marks its attachment. -/
def Node.beaconRx (n : Node) (r : BeaconRx) : Node :=
  let att : Nat := r.att
  let b := r.bytes
  if !n.on (LINE_CTRL.EN att) || n.rd (LINE_CTRL.RXMODE att) = 0 || n.attShed att then n
  else match n.checkBeacon b with
    | .badCrc => n.count BAR_CNT_BCRC.VALUE
    | .badTag => (n.count BAR_CNT_BTAG.VALUE).stranger att 1 (le b 16 8)
    | .malformed => n.malformed
    | .foreign => n.beaconForeign att b
    | .own =>
      let n := n.meets att 0
      if !n.on BAR_CTRL.EN || n.bar.lastBeacon = some (le b 2 4) then n else n.beaconTake r

/-! ### Slots sent (R106, R109 to R115) -/

/-- The slot bytes of a unit with body length `l`: prefix, body, trailer of a control unit, padding (R113). -/
def unitSize (control : Bool) (l : Nat) : Nat := (4 + l + (if control then 12 else 0) + 3) / 4 * 4

/-- Bodies from the front while their control units fit `room` bytes, and those left. -/
def fitUnits : Nat → List (List Byte) → List (List Byte) × List (List Byte)
  | _, [] => ([], [])
  | room, b :: t =>
    let s := unitSize true b.length
    if s ≤ room then let r := fitUnits (room - s) t; (b :: r.1, r.2) else ([], b :: t)

/-- The room that control units of `bs` take. -/
def unitsSize (control : Bool) (bs : List (List Byte)) : Nat := (bs.map (fun b => unitSize control b.length)).sum

/-- A unit as it stands in a slot whose header begins with `head` (R113). -/
def unitBytes (key head : List Byte) (control : Bool) (body : List Byte) : List Byte :=
  let pre := leBytes 2 body.length ++ leBytes 1 (b2n control) ++ [0]
  let crc := leBytes 4 (crc32 (pre ++ body))
  let full := if control then pre ++ body ++ crc ++ tag64 key (head.take 12 ++ pre ++ body ++ crc) else pre ++ body
  full ++ List.replicate (unitSize control body.length - full.length) 0

/-- May the node send a slot of entry `i` in this cycle: granted, or coasting (R109, R110, R117, R441)? -/
def Node.maySlot (n : Node) (i : Nat) : Bool :=
  let e := n.sch i
  let gov := n.on BAR_STATUS.BEACON && !n.on BAR_STATUS.GENMIS
  let ask := if e.kind = 1 then
      gov && n.bar.spareGrant = some i && n.rd BAR_SPARESTAT.STATE = 3 && n.rd BAR_SPARESTAT.ENTRY = i && e.claimant = n.uid
    else if n.on BAR_STATUS.BEACON then gov && n.bar.grants.contains i && n.holds e
    else n.on BAR_STATUS.COAST && !n.bar.coastStop && decide (n.bar.coastRun ≤ 16) && !e.suspended && n.holds e
  let tookOver := match n.dirByUid n.uid with
    | some r => r.role = 2 && n.isActive && n.on PAIR_CTRL.EN
    | none => false
  n.committed && n.on BAR_CTRL.EN && decide (i < 512) && e.applies n.cycle && ask && n.slotOpen n.cycle e.start e.len
    && !n.bar.sentSlots.contains i && (!tookOver || n.bar.beatSent) && (n.drivers.filter (fun a => !n.attShed a)) ≠ []

/-- The 40-byte slot header (R112). -/
def Node.slotHeader (n : Node) (i used : Nat) (robust : Bool) : List Byte :=
  let e := n.sch i
  let h := [0x02] ++ leBytes 1 n.nodeNum ++ leBytes 2 i ++ leBytes 4 n.cycle ++ leBytes 4 n.compId ++ leBytes 2 e.roleCode
    ++ leBytes 2 used ++ leBytes 8 n.uid ++ leBytes 1 (b2n robust + 2 * b2n (e.kind = 1)) ++ List.replicate 11 0
  h ++ leBytes 4 (crc32 h)

/-- Loading, inauguration and Lull units that fit `room` bytes: at most 1,024 bytes of loading units (R115). -/
def Node.firstUnits (n : Node) (room : Nat) : List (List Byte) × Node :=
  let load := fitUnits (min 1024 room) (n.announcements ++ n.line.units)
  let kept := load.2.drop (n.announcements.length - load.1.length)
  let left := room - unitsSize true load.1
  let ina := fitUnits left n.ina.units
  let n : Node := { n with line := { n.line with units := kept }, ina := { n.ina with units := ina.2 } }
  (load.1 ++ ina.1, n)

/-- A slot of entry `i` filled in the order of R115 and sent on both lines (R111 to R115). -/
def Node.slotSend (n : Node) (i : Nat) : Node :=
  if !n.maySlot i then n
  else
    let e := n.sch i
    let robust := n.slotWords e.len = 0
    let room := n.slotPayload e.len - 40
    let n := if n.rd AON_LSTATUS.STATE = 3 && n.cycle + 1 = n.rd AON_LE.VALUE then
        ((upTo 64).filter (fun t => n.on (AUD_TXW0.EN t))).foldl Node.txStop n
      else n
    let (first, n) := n.firstUnits room
    let room := room - unitsSize true first
    let (sig, room, n) := if n.on SIG_CTRL.EN && e.kind = 0 then n.sigUnits i room else ([], room, n)
    let (aud, room, out, n) := if n.on AUD_CTRL.EN && e.kind = 0 then n.audUnits i room else ([], room, 0, n)
    let n := (n.countBy BAR_CNT_OVERFLOW.VALUE out).raiseIf (decide (0 < out)) BAR_EVT.OVERFLOW
    let (msg, n) := n.msgFill room
    let used := 40 + unitsSize true first + unitsSize false (sig ++ aud) + unitsSize true msg
    let head := n.slotHeader i used robust
    let put := fun (control : Bool) (bs : List (List Byte)) => bs.flatMap (unitBytes n.bar.key head control)
    let n := n.emit (.slot i) (head ++ put true first ++ put false (sig ++ aud) ++ put true msg)
    (n.wr BAR_GRANT.SENT (sat 5 (n.rd BAR_GRANT.SENT + 1))).updBar (fun b => { b with sentSlots := b.sentSlots ++ [i] })

/-! ### Slots received (R57, R59, R72, R113, R114, R116, R213) -/

/-- A unit of a slot as the walk finds it: offset, CONTROL, prefix and body, trailer CRC, trailer tag. -/
structure UnitSeen where
  off : Nat
  control : Bool
  pre : List Byte
  body : List Byte
  crc : Nat
  tag : List Byte
  deriving DecidableEq, Repr

/-- The units of a payload from offset `o` up to `stop` (R113, R116); `fuel` bounds their number. -/
def walkUnits (p : List Byte) (stop : Nat) : Nat → Nat → List UnitSeen
  | 0, _ => []
  | fuel + 1, o =>
    let l := le p o 2
    let control := bit (le p (o + 2) 1) 0
    let whole := 4 + l + (if control then 12 else 0)
    if stop < o + 4 || l = 0 || 8192 < l || stop < o + whole then []
    else ⟨o, control, slice p o 4, slice p (o + 4) l, le p (o + 4 + l) 4, slice p (o + 8 + l) 8⟩ :: walkUnits p stop fuel (o + unitSize control l)

/-- The sender of a slot (R213): the header's node when its CRC holds, the node whose valid pilot was decoded in this cycle, else the role
holder of the entry; 0 none. -/
def Node.slotSender (n : Node) (l i : Nat) (hdr : Bool) (p : List Byte) : Nat :=
  let e := n.sch i
  let owner := if e.kind = 1 then n.numOf e.claimant else n.roleHolder e
  let heard := fun (k : Nat) => k ≠ 0 && (n.peer l k).lastValid = n.cycle && n.cycle ≠ 0
  if hdr then le p 1 1
  else if heard owner then owner
  else if heard (n.partnerNum owner) then n.partnerNum owner
  else if e.applies n.cycle then owner else 0

/-- Does a receiver take a sender's data units from line `l` (R59): its primary line, or the other when the pilot is absent there? -/
def Node.dataLine (n : Node) (l node : Nat) : Bool :=
  let p := Tab.get (fun _ => 0) n.line.primary (n.handleOf node)
  l = p || (n.peer p node).lastValid ≠ n.cycle || !(n.peer p node).held

/-- A control unit delivered by its type (R114); a reserved type is malformed. -/
def Node.control (n : Node) (u : UnitRx) : Node :=
  match le u.body 0 1 with
  | 0x10 => n.msgSeg u.body
  | 0x11 => n.msgAck u.body
  | 0x12 => n.msgProbe u.body
  | 0x21 => n.loadProp u.body
  | 0x22 => n.loadSet u.body
  | 0x23 => n.loadAck u.body
  | 0x24 => n.loadReq u.body
  | 0x30 => n.dirNodeRx u
  | 0x31 => n.dirSchRx u
  | 0x32 => n.dirPubRx u
  | 0x33 => n.dirStreamRx u
  | 0x34 => n.pubDeclRx u
  | 0x35 => n.streamDeclRx u
  | 0x36 => n.dirSumRx u
  | 0x37 => if n.isLead && u.body.length = 60 then n.leadFrame (u.body.drop 4) u.node none else n
  | 0x38 => n.jsendRx u
  | 0x40 => n.tokenRx u
  | 0x41 => n.replyRx u
  | _ => n.malformed

/-- One unit of a slot (R59, R113, R114, R116). -/
def Node.unitRx (r : SlotRx) (sender : Nat) (n : Node) (u : UnitSeen) : Node :=
  let l := attLine r.att
  let type := le u.body 0 1
  let data := type = 1 || type = 2
  let key := (r.entry, u.off)
  let mark := fun (n : Node) => n.updBar (fun b => { b with taken := b.taken ++ [key] })
  if data = u.control then n.malformed
  else if n.bar.taken.contains key then n
  else if data then
    if !n.dataLine l sender then n
    else
      let from? := if sender = 0 then none else some sender
      if type = 1 then (mark n).sigTake from? u.body else (mark n).audTake from? u.body
  else if crc32 (u.pre ++ u.body) ≠ u.crc then n.count BAR_CNT_UCRC.VALUE
  else if n.bar.key = [] || tag64 n.bar.key (r.payload.take 12 ++ u.pre ++ u.body ++ leBytes 4 u.crc) ≠ u.tag then n.count BAR_CNT_UTAG.VALUE
  else (mark n).control ⟨le r.payload 1 1, if l = 0 then .a else .b, u.body⟩

/-- A slot payload received (R57, R72, R116): nothing from a peer whose tables are not held unless the slot is robust. -/
def Node.slotRx (n : Node) (r : SlotRx) : Node :=
  let att : Nat := r.att
  let l := attLine att
  let p := r.payload
  if !n.on (LINE_CTRL.EN att) || n.rd (LINE_CTRL.RXMODE att) ≠ 1 || n.attShed att || !n.on BAR_CTRL.EN then n
  else
    let hdr := 40 ≤ p.length && crc32 (p.take 36) = le p 36 4
    let sender := n.slotSender l r.entry hdr p
    let chan := n.chanAddr l sender
    let known := n.handleOf sender ≠ 255
    let n := if known && n.uceIn chan 0x1400 then n.chanUce ((n.uce.find? (fun w => w < chan + 0x1400 && chan < w + 8)).getD chan) else n
    let robust := hdr && bit (le p 24 1) 0
    if !robust && (!n.on CLK_STATUS.LINELOCK || (known && !(n.peer l sender).held)) then n
    else
      let n := if hdr then n else n.count BAR_CNT_HDRCRC.VALUE
      let stop := if hdr then min (le p 14 2) p.length else p.length
      (walkUnits p stop p.length 40).foldl (Node.unitRx r sender) n

/-! ### Roll-call received (R127) -/

/-- S49 of a line: presence, PAIR's value and path (R126, R127, R424, R427). -/
def Node.rollcallRx (n : Node) (r : RollCallRx) : Node :=
  let n := n.rollcall r
  let k := n.partnerNum n.nodeNum
  if k = 0 || n.bar.key = [] || !n.committed then n
  else
    let n := n.pairPresent (n.rcPresent k)
    match n.bar.rcSeen.find? (fun s => s.1 = k) with
    | some s => n.pairRoll s.2.1
    | none => n

/-! ### The commands -/

/-- BEACON_RECEIVE: a beacon is received and checked; a valid one governs the next cycle (R101). -/
def execBeaconReceive (r : BeaconRx) (s : State) : Host.Outcome State Fault Refusal := s.onNode (·.beaconRx r)

/-- SLOT_SEND: the node sends in a slot it may use (R109). -/
def execSlotSend (entry : Nat) (s : State) : Host.Outcome State Fault Refusal := s.onNode (·.slotSend entry)

/-- SLOT_RECEIVE: a slot payload's units are walked and delivered (R116). -/
def execSlotReceive (r : SlotRx) (s : State) : Host.Outcome State Fault Refusal := s.onNode (·.slotRx r)

/-- ROLLCALL_RECEIVE: the nodes detected in S49 and their values (R127). -/
def execRollcallReceive (r : RollCallRx) (s : State) : Host.Outcome State Fault Refusal := s.onNode (·.rollcallRx r)

end Sys2Proof.Machine
end

