-- ==== Sys2Proof/Machine/Bus.lean ====
section
/-! DEFINITION. The register space on the fabric (20_register_map.md R674 to R678; 00_scope.md R9): what a read returns, what a write does,
which writes the partner is told of, and the rows REGISTER_WRITE, COUNTER_CLEAR, GPIO_SET and GPIO_CLR. -/

namespace Sys2Proof.Machine

/-! ### The space -/

/-- Is `a` in the register space (R675)? -/
def isReg (a : Nat) : Bool := 0x40000000 ≤ a && a < 0x40080000

/-- Does `a` lie inside a block (R674)? -/
def inBlock (a : Nat) : Bool :=
  let b := a / 4096
  (0x40000 ≤ b && b ≤ 0x40007) || (0x40010 ≤ b && b ≤ 0x40013) || b = 0x40018 || (0x4001C ≤ b && b ≤ 0x4001E) || b = 0x40020 || b = 0x40024
    || b = 0x40028 || b = 0x4002C || (0x40030 ≤ b && b ≤ 0x40038) || b = 0x4003C || b = 0x40040 || (0x40048 ≤ b && b ≤ 0x4004B)
    || (0x40050 ≤ b && b ≤ 0x40057) || b = 0x40060 || b = 0x40070

/-- The row of the register at `a`; none for an unassigned offset. -/
def specOf (a : Nat) : Option RegSpec := allRegs.find? (fun d => d.covers a)

/-- An unassigned offset was accessed (R675). -/
def Node.unassigned (n : Node) : Node := (n.count SYS_CNT_UNASSIGN.VALUE).raise SYS_EVT.UNASSIGN

/-! ### Reads -/

/-- A read of the word at `a` inside a block: its value, and the node after it. Only MSG_HGET and EVR_CLRCHAL_LO change anything (R677). -/
def Node.regRead (n : Node) (a : Nat) : Word × Node :=
  if (specOf a).isNone then (0, n.unassigned)
  else if a = MSG_HGET.DESC.addr then
    let r := n.hostGet
    (BitVec.ofNat 32 r.1, r.2.wr MSG_HGET.DESC r.1)
  else if a = EVR_CLRCHAL_LO.VALUE.addr then
    let n := n.challengeIssue
    (n.look a, n)
  else (n.look a, n)

/-! ### Writes -/

/-- The word at a register after a write of `v` under its access codes (R9): RW and, while an inauguration lets it, RWL bits take the
value; 1s clear W1C bits and set W1S bits; RO and WO bits stay. -/
def RegSpec.after (d : RegSpec) (inaug : Bool) (old v : Word) : Word :=
  let set := BitVec.ofNat 32 (d.rw ||| (if inaug then d.rwl else 0))
  ((((old &&& ~~~ set) ||| (v &&& set)) &&& ~~~ (v &&& BitVec.ofNat 32 d.w1c)) ||| (v &&& BitVec.ofNat 32 d.w1s))

/-- A write under the access codes alone. -/
def Node.regPlain (n : Node) (a : Nat) (v : Word) : Node :=
  match specOf a with
  | none => n
  | some d => n.setReg (n.home a) (d.after (n.on INA_STATUS.INAUG) (n.reg (n.home a)) v)

/-- The counters that 1s in `v` name are cleared (R95 and the other counter tables). -/
def Node.clearCounters (n : Node) (r : ClearRow) (a : Nat) (v : Word) : Node :=
  let first := r.first + (a - r.addr)
  (upTo r.count).foldl (fun (n : Node) (i : Nat) => if bit v.toNat i then n.setReg (first + 4 * i) 0 else n) n

/-- The CNT_CLR register at `a`, if it is one. -/
def clearOf (a : Nat) : Option ClearRow :=
  clearRows.find? (fun r => r.addr ≤ a && (a - r.addr) % r.instStride = 0 && (a - r.addr) / r.instStride < r.insts)

/-- Does a flow hold the member list `l` and messages with it? -/
def Node.listBusy (n : Node) (l : Nat) : Bool :=
  n.msg.out.any (fun p => p.2 ≠ [] && n.rd (MSG_OFW0.DKIND p.1) = 2 && n.rd (MSG_OFW0.MLIST p.1) = l)

/-- An engine's write to GPIO_SET or GPIO_CLR reaches its shadow (R330, R600). -/
def Node.gpioShadow (n : Node) (e : Nat) (set : Bool) (v : Word) : Node :=
  n.updEng e (fun r => { r with
    gpioMask := r.gpioMask ||| v
    gpioVal := if set then r.gpioVal ||| v else r.gpioVal &&& ~~~ v })

/-- A write to GPIO_SET or GPIO_CLR (R600). -/
def Node.gpioWrite (n : Node) (by_ : Initiator) (set : Bool) (v : Word) : Node :=
  match by_ with
  | .eng e =>
    if n.gpioMay e v then n.gpioShadow e set v
    else if n.engSt e = 1 then n.engTrap e 12 (if set then GPIO_SET.SET.addr else GPIO_CLR.CLR.addr)
    else n
  | _ => n.gpioHost set v

/-- Writes to LINE, BAR, GRD and INA that do more than store; none for the others. -/
def Node.writeTrain (n : Node) (a : Nat) (v : Word) : Option Node :=
  let plain := n.regPlain a v
  let b := fun (i : Nat) => bit v.toNat i
  if 0x40010000 ≤ a && a < 0x40014000 && a % 4096 = 0x60 then
    let k := (a - 0x40010000) / 4096
    let n := if b 0 then plain.calStart k else plain
    some (if b 1 then n.calCancel k else n)
  else if a = BAR_CTRL.EN.addr then some (n.barCtrl v)
  else if a = BAR_SPARE.ENTRY.addr then
    let n := if b 31 then plain.spareStart else plain
    some (if b 30 then n.spareCancel else n)
  else if a = GRD_CTRL.LATCH_TKO.addr then
    let n := if b 9 then plain.guardRearm else plain
    some (if b 8 then n.guardClose else n)
  else if a = GRD_ARM.ID.addr || a = GRD_COMMIT.ID.addr then some (n.count GRD_FOREIGNWR.VALUE)
  else if a = INA_CTRL.EN.addr then
    let was := n.on INA_CTRL.EN
    some (if b 0 && !was then plain.inaEnable else if !b 0 && was then plain.inaDisable else plain)
  else if a = INA_CMD.COLD.addr then
    let n := if b 0 then n.coldSend else n
    let n := if b 1 then n.renumber else n
    some (if b 2 then n.mergeRetry else n)
  else none

/-- Writes to SIG and MSG that do more than store. -/
def Node.writeMsg (n : Node) (a : Nat) (v : Word) : Option Node :=
  let plain := n.regPlain a v
  if 0x4002C024 ≤ a && a ≤ 0x4002C02C then some (n.writePub ((a - 0x4002C024) / 4) v)
  else if 0x4002C044 ≤ a && a ≤ 0x4002C04C then some (n.writeSub ((a - 0x4002C044) / 4) v)
  else if 0x4002C080 ≤ a && a < 0x4002C100 && a % 16 ≠ 12 then some (n.writeView ((a - 0x4002C080) / 16) (a % 16 / 4) v)
  else if a = MSG_CTRL.EN.addr then some plain.refreshMode
  else if a = 0x40028064 then some (n.writeOutFlow v)
  else if a = 0x40028068 || a = 0x4002806C then
    let f := n.rd MSG_OFSEL.FLOW
    some (if n.outMsgs f ≠ [] then n else plain.jchange (.outFlow f) 64)
  else if a = 0x40028084 then some (n.writeInFlow v)
  else if a = 0x40028088 || a = 0x4002808C then
    let f := n.rd MSG_IFSEL.FLOW
    some (if (n.inFlow f).msgs ≠ [] then n else plain.jchange (.inFlow f) 64)
  else if a = 0x4002809C || a = 0x400280A0 then some (if n.listBusy (n.rd MSG_MLSEL.LIST) then n else plain.jchange .members 8)
  else if 0x400280C0 ≤ a && a < 0x40028100 then some (if n.rd (MSG_DQ.DEPTH ((a - 0x400280C0) / 4)) ≠ 0 then n else plain)
  else if a = MSG_HPUT3.EXPECT.addr then some (n.hostPut v)
  else if a = MSG_HACK.ACK.addr then some (if bit v.toNat 0 then n.hostAckWrite else n)
  else if a = MSG_HWDR1.SEQ.addr then some (n.hostWithdraw v)
  else none

/-- Writes to AUD that do more than store. -/
def Node.writeAud (n : Node) (a : Nat) (v : Word) : Option Node :=
  let plain := n.regPlain a v
  let z := n.rd AUD_ZSEL.ZONE
  if a = AUD_CTRL.EN.addr then some (if n.on AUD_CTRL.EN && !bit v.toNat 0 then plain.audOff else plain)
  else if a = 0x40040014 then some (n.writeRx v)
  else if a = 0x40040024 then some (n.writeTx v)
  else if a = 0x40040034 then some (n.xwWrite v)
  else if a = 0x40040044 then
    some (if bit v.toNat 16 then { plain with aud := { plain.aud with commits := plain.aud.commits.filter (· ≠ z) ++ [z] } } else plain)
  else if a = 0x4004004C then some (if 5 ≤ n.rd AUD_ZCSEL.COEF then n else plain)
  else if a = 0x40040074 then some (n.genStart v)
  else if a = AUD_GSTOP.GEN.addr then
    some { n with aud := { n.aud with stops := n.aud.stops.filter (· ≠ v.toNat % 64) ++ [v.toNat % 64] } }
  else if a = AUD_CLIPLEN.LEN.addr then some (if bit v.toNat 31 then plain.clipGo else plain)
  else if 0x40040100 ≤ a && a < 0x40040180 && a % 8 = 0 then some (n.writeEc ((a - 0x40040100) / 8) v)
  else none

/-- Writes to ENG, TMR and PEX that do more than store. -/
def Node.writeEng (n : Node) (by_ : Initiator) (a : Nat) (v : Word) : Option Node :=
  let plain := n.regPlain a v
  let e := (a - 0x40030000) / 4096
  if 0x40030000 ≤ a && a < 0x40038000 && a % 4096 = 4 then some (n.engCommand e v)
  else if 0x40030000 ≤ a && a < 0x40038000 && a % 4096 = 0x50 then some (n.syncWrite e v)
  else if a = ENG0_DALLOC.FIRST.addr then some (n.dallocWrite v)
  else if a = 0x40030904 then some (n.forceWrite by_ 0 v)
  else if a = 0x40030908 then some (n.forceWrite by_ 1 v)
  else if a = ENG0_FCMD.CLEARALL.addr then some (if bit v.toNat 0 then n.forceClear by_ else n)
  else if a = TMR_TALLOC.FIRST.addr then some (n.tallocWrite v)
  else if a = TMR_EALLOC.FIRST.addr then some (n.eallocWrite v)
  else if a = PEX_LOAD.SRC.addr then some (if bit v.toNat 31 then plain.pexLoad else plain)
  else if a = PEX_CMD.ARM.addr then
    let n := if bit v.toNat 0 then n.pexArm else n
    some (if bit v.toNat 1 then n.pexAbort 11 else n)
  else if a = PEX_PCTRL.COUNT.addr then some (n.patchGo v)
  else none

/-- PAIR_CMD as written (R449). -/
def Node.pairCommand (n : Node) (v : Word) : Node :=
  let b := fun (i : Nat) => bit v.toNat i
  let n := if b 0 then n.askTakeover .command else n
  let n := if b 1 then n.askTakeover .rehearse else n
  let n := if b 2 then n.pairBist else n
  let n := if b 3 then n.wr PAIR_STATUS.SUSPECT 0 else n
  if b 4 && n.pairSt = 4 then n.toResync else n

/-- Writes to PAIR, PWR, AON and TIME that do more than store. -/
def Node.writePower (n : Node) (a : Nat) (v : Word) : Option Node :=
  let plain := n.regPlain a v
  let b := fun (i : Nat) => bit v.toNat i
  if a = PAIR_CTRL.EN.addr then
    let was := n.on PAIR_CTRL.EN
    let n := plain.wrB PAIR_CTRL.EN was
    some (if b 0 && !was then n.pairOn else if !b 0 && was then n.pairOff else n)
  else if a = PAIR_CMD.HANDOVER.addr then some (n.pairCommand v)
  else if a = PWR_BUDGET.BUDGET.addr then some (n.writeBudget v)
  else if a = PWR_MON.WARN.addr then some (n.writeMon v)
  else if a = PWR_HREQ.CLASS.addr then
    some (if b 31 then
        let r := plain.gustRequest 8 (v.toNat % 256)
        (r.2.2.wr PWR_HRES.HANDLE r.1).wr PWR_HRES.RESULT r.2.1
      else plain)
  else if a = PWR_HCALM.HANDLE.addr then some (n.hcalm v)
  else if 0x40001040 ≤ a && a < 0x40001060 then some (if n.on PWR_CTRL.LOCK then n else plain)
  else if a = AON_LCTRL.RING.addr then
    let n := n.voteWrite v
    let n := if b 0 then n.ringStart else n
    let n := if b 1 then n.ringAbort 4 0 else n
    some (if b 16 then n.enterWrite else n)
  else if a = AON_CANSTB.ACK.addr then some (n.canstbWrite v)
  else if a = AON_CANREL.RELEASE.addr then some (n.canRelease v)
  else if a = AON_SQ.THRESH.addr then some (if b 31 then plain.squallRequest else plain)
  else if a = AON_RTCS.VALUE.addr then some { plain with lull := { plain.lull with rtcNs := 0 } }
  else if a = TIME_SNAP.GO.addr then some (if b 0 then n.timeSnap else n)
  else if a = TIME_UTCSET.VALUE.addr then some (n.utcStep (v - n.time.utc))
  else if a = TIME_PTPSTEP.OFFSET.addr then some (n.ptpStepAsk v)
  else if a = TIME_LCANCEL.INDEX.addr then some (n.lcancel v)
  else none

/-- Writes to CAN, ETH, TDM, QSPI and GPIO that do more than store. -/
def Node.writeLocal (n : Node) (by_ : Initiator) (a : Nat) (v : Word) : Option Node :=
  let c := (a - 0x40050000) / 4096
  let ctl := if a / 0x800 % 2 = 1 then QCtl.per else QCtl.boot
  if 0x40050000 ≤ a && a < 0x40058000 && a % 4096 = 0 then some (n.canCtrl c v)
  else if 0x40050000 ≤ a && a < 0x40058000 && a % 4096 = 4 then some (n.canCmd c v.toNat)
  else if a = CAN0_PALLOC.FIRST.addr then some (n.pallocWrite v)
  else if a = CAN0_PCMD.ENTRY.addr then some (n.pcmdWrite by_ v)
  else if a = ETH_TXKICK.GO.addr then some (if bit v.toNat 0 && n.on ETH_CTRL.EN then n.txScan 256 else n)
  else if a = ETH_MDIO.PHY.addr then some (n.mdioWrite v)
  else if 0x40060100 ≤ a && a < 0x40060180 && a % 16 = 4 then some (n.lsbWrite ((a - 0x40060100) / 16) v)
  else if 0x40048000 ≤ a && a < 0x4004C000 && a % 4096 = 0 then some (n.tdmCtrl ((a - 0x40048000) / 4096) v)
  else if 0x40006000 ≤ a && a < 0x40007000 && a % 0x800 = 0xC then some (n.eraseWrite ctl v)
  else if 0x40006000 ≤ a && a < 0x40007000 && a % 0x800 = 0x18 then some (n.copyWrite by_ ctl v)
  else if 0x40005040 ≤ a && a < 0x400050C0 then some (n.pinWrite ((a - 0x40005040) / 4) v)
  else if a = GPIO_SET.SET.addr then some (n.gpioWrite by_ true v)
  else if a = GPIO_CLR.CLR.addr then some (n.gpioWrite by_ false v)
  else none

/-- Writes to EVR, OTP and SYS that do more than store. -/
def Node.writeSys (n : Node) (by_ : Initiator) (a : Nat) (v : Word) : Option Node :=
  let plain := n.regPlain a v
  let b := fun (i : Nat) => bit v.toNat i
  if a = EVR_CTRL.EN.addr then some (n.evrCtrl v)
  else if a = EVR_CMD.FLUSH.addr then
    let n := if b 0 && n.flushGust then n.startFlush .command else n
    some (if b 1 then n.evrFormat else n)
  else if a = 0x40070050 then some (n.snapAddr v)
  else if a = EVR_RDCMD.GO.addr then some (if b 31 then n.wr EVR_RDCMD.RESULT 1 else n)
  else if a = EVR_CLRCMD.GO.addr then some (if b 0 then n.clearGo else n)
  else if a = EVR_COLCMD.GO.addr then some (if b 0 then n.collect else n)
  else if a = OTP_PADDR.WORD.addr then
    some (if !n.otpMay by_ then n else if b 31 then plain.otpGo by_ else plain)
  else if a = OTP_PDATA.DATA.addr then some (if n.otpMay by_ then plain else n)
  else if a = SYS_CTRL.SWRST.addr then some (if b 0 then n.softReset by_ else n)
  else if a = SYS_BOOTCTL.GO.addr then some (if b 0 then n.bootGo by_ else n)
  else none

/-- What a write of `v` to the register at `a` does at this node. -/
def Node.regWrite (n : Node) (by_ : Initiator) (a : Nat) (v : Word) : Node :=
  match clearOf a with
  | some r => n.clearCounters r a v
  | none =>
    (((((((n.writeTrain a v).orElse fun _ => n.writeMsg a v).orElse fun _ => n.writeAud a v).orElse fun _ => n.writeEng by_ a v).orElse
      fun _ => n.writePower a v).orElse fun _ => n.writeLocal by_ a v).orElse fun _ => n.writeSys by_ a v).getD (n.regPlain a v)

/-- Is the write mirrored (R435 kind 7)? Force table writes go as kind 8, and an RWL register ignores the write outside an inauguration. -/
def Node.mirrors (n : Node) (d : RegSpec) (a : Nat) : Bool :=
  mirroredAddr a && !(0x40030904 ≤ a && a ≤ 0x40030910) && !(d.rw = 0 && d.rwl ≠ 0 && !n.on INA_STATUS.INAUG)

/-- A write to the register space inside a block by an initiator (R675, R678), and its mirror record (R435, R718): TB_UTC is mirrored as
the step it makes (R669). -/
def Node.busWrite (n : Node) (by_ : Initiator) (a : Nat) (v : Word) : Node :=
  match specOf a with
  | none => n.unassigned
  | some d =>
    let told := if a = TIME_UTCSET.VALUE.addr then (v - n.time.utc).toNat else v.toNat
    if n.mirrors d a then n.mirrored by_ a told (fun n => n.regWrite by_ a v) else n.regWrite by_ a v

/-- A word write to the register space: a bus error outside every block (R675), nothing at an address that is no word's. -/
def Node.portWrite (n : Node) (by_ : Initiator) (a : Nat) (v : Word) : Node :=
  if !isReg a || !inBlock a || a % 4 ≠ 0 then n.busError by_ else n.busWrite by_ a v

/-- REGISTER_WRITE: a write to a register (R678). -/
def execRegisterWrite (by_ : Initiator) (addr : Nat) (value : Word) (s : State) : Host.Outcome State Fault Refusal :=
  s.onNode (fun n => n.portWrite by_ addr value)

/-- COUNTER_CLEAR: 1s written to a CNT_CLR register clear its counters (R95); an address of another register names none. -/
def execCounterClear (by_ : Initiator) (addr : Nat) (value : Word) (s : State) : Host.Outcome State Fault Refusal :=
  s.onNode (fun n => if (clearOf addr).isSome then n.busWrite by_ addr value else n)

/-- GPIO_SET: 1s set owned outputs (R600). -/
def execGpioSet (by_ : Initiator) (value : Word) (s : State) : Host.Outcome State Fault Refusal :=
  s.onNode (fun n => n.busWrite by_ GPIO_SET.SET.addr value)

/-- GPIO_CLR: 1s clear owned outputs (R600). -/
def execGpioClr (by_ : Initiator) (value : Word) (s : State) : Host.Outcome State Fault Refusal :=
  s.onNode (fun n => n.busWrite by_ GPIO_CLR.CLR.addr value)

end Sys2Proof.Machine
end

