-- ==== Sys2Proof/Machine/Mirror.lean ====
section
/-! DEFINITION. What the standby does with the active node's deltas and snapshots (11_pair_redundancy.md R435 to R437, R718). The inner layout
of the records is the model's own (log entry 25). -/

namespace Sys2Proof.Machine

/-- A mirrored register write (R718): RW and RWL fields take the value, the allocation registers act, TB_UTC and TB_PTP step, a crosspoint
word queues its change; no other action happens. -/
def Node.regMirror (n : Node) (a : Nat) (v : Word) : Node :=
  if a = ENG0_DALLOC.FIRST.addr || a = TMR_TALLOC.FIRST.addr || a = TMR_EALLOC.FIRST.addr || a = CAN0_PALLOC.FIRST.addr || a = 0x40040034 then
    n.regWrite .unit a v
  else if a = TIME_UTCSET.VALUE.addr then n.utcStep v
  else if a = TIME_PTPSTEP.OFFSET.addr then n.ptpStepAsk v
  else
    match specOf a with
    | none => n
    | some d =>
      let m := d.rw ||| d.rwl
      if m = 0 || !mirroredAddr a then n
      else
        let was := n.rd INA_STATUS.INAUG
        ((n.wr INA_STATUS.INAUG 1).regWrite .unit a (v &&& BitVec.ofNat 32 m)).wr INA_STATUS.INAUG was

/-- The state of a timer cell as its 20 bytes give it. -/
def Node.timerPut (n : Node) (c : Nat) (b : List Byte) : Node :=
  let w := le b 0 4
  let o := if bit w 8 then some (bits w 5 3) else none
  let n := if n.timerOwner c = o then n else n.setTimer o c
  let n := n.setReg (TMR_TW0.KIND c).addr (BitVec.ofNat 32 w)
  let n := (n.wr (TMR_TW1.PRESET c) (le b 4 4)).wr (TMR_TW2.VALUE c) (le b 8 4)
  { n with cellStart := Tab.set (fun _ => 0) n.cellStart c (if le b 12 4 = 0 then 0 else n.now / 1000 + 1 - le b 16 4) }

/-- The state of an edge cell. -/
def Node.edgePut (n : Node) (c w : Nat) : Node :=
  let o := if bit w 4 then some (bits w 1 3) else none
  let n := if n.edgeOwner c = o then n else n.setEdge o c
  n.setReg (TMR_EW.PREV c).addr (BitVec.ofNat 32 w)

/-- A force table entry (R346). -/
def Node.forcePut (n : Node) (f : Nat) (b : List Byte) : Node :=
  let n := n.setReg (ENG0_FW0.EN f).addr (BitVec.ofNat 32 (le b 0 4))
  ((n.wr (ENG0_FW1.VALUE f) (le b 4 4)).wr (ENG0_FW2.UNDER f) (le b 8 4)).forceRefresh

/-- One delta record applied (R435). -/
def Node.deltaApply (n : Node) (kind eng idx : Nat) (b : List Byte) : Node :=
  if kind = 1 then n.pimgPut (idx % 65536) (le b 0 4) (le b 4 4)
  else if kind = 2 then n.gpioDrive (BitVec.ofNat 32 idx) (BitVec.ofNat 32 (le b 0 4))
  else if kind = 3 then (if isDmem idx && idx + b.length ≤ 0x20300000 then n.memPut idx b else n)
  else if kind = 4 then n.timerPut (idx % 4096) b
  else if kind = 5 then n.edgePut (idx % 8192) (le b 0 4)
  else if kind = 6 then
    let n := n.updPair (fun p => { p with engStat := Tab.set (fun _ => 0) p.engStat (eng % 8) (BitVec.ofNat 32 (le b 0 4)) })
    n.wr (ENG_ENTRY.VALUE (eng % 8)) (le b 4 4)
  else if kind = 7 then (if b.length = 12 then n.xpQueue (le b 0 4) (BitVec.ofNat 32 (le b 4 4)) (BitVec.ofNat 32 (le b 8 4))
    else n.regMirror idx (BitVec.ofNat 32 (le b 0 4)))
  else if kind = 8 then n.forcePut (idx % 256) b
  else if kind = 9 then n.memPut (jrnlBase + idx % 0x100000) b
  else n

/-- The records of a delta part applied in order; `k` bounds their number. -/
def Node.deltaRecs : Nat → Node → List Byte → Node
  | 0, n, _ => n
  | k + 1, n, b =>
    if b.length < 8 then n
    else
      let len := le b 2 2
      Node.deltaRecs k (n.deltaApply (le b 0 1) (le b 1 1) (le b 4 4) (slice b 8 len)) (b.drop (8 + len))

/-- Bytes of delta parts held and not applied. -/
def Node.backlog (n : Node) : Nat := (n.pair.parts.map (fun p => p.2.2.2.length)).sum

/-- A DELTA frame's payload (R435, R436): number, part, parts, records. A delta is applied once every part is held; all its frames come in
order, so deltas are applied in order. A backlog over 256 KB sends the standby to RESYNC. -/
def Node.deltaRx (n : Node) (b : List Byte) : Node :=
  if n.pairSt ≠ 3 && n.pairSt ≠ 4 then n
  else
    let d := le b 0 4
    let total := le b 6 2
    let n := n.updPair (fun p => { p with parts := p.parts.filter (fun x => x.1 = d && x.2.1 ≠ le b 4 2) ++ [(d, le b 4 2, total, b.drop 8)] })
    if n.pair.parts.length < total then (if 262144 < n.backlog then n.toResync else n)
    else
      let parts := sortBy (fun x y => x.2.1 ≤ y.2.1) n.pair.parts
      let n := n.updPair (fun p => { p with parts := [], applied := d })
      parts.foldl (fun (n : Node) (x : Nat × Nat × Nat × List Byte) => Node.deltaRecs x.2.2.2.length n x.2.2.2) n

/-- A register word of a snapshot: the bits that software writes, and in SIG the words that go with them. -/
def Node.snapReg (n : Node) (a k : Nat) (v : Word) : Node :=
  if k = 0 then n.regMirror a v
  else
    match specOf a with
    | none => n
    | some d =>
      let m := if a / 4096 = 0x4002C then (0xFFFFFFFF : Word) else BitVec.ofNat 32 (d.rw ||| d.rwl)
      let h := winAddr a (k - 1)
      let n := n.setReg h ((n.reg h &&& ~~~ m) ||| (v &&& m))
      if a = 0x4002C044 then n.bindSub (k - 1) else n

/-- A SNAP frame's payload (R437). -/
def Node.snapRx (n : Node) (b : List Byte) : Node :=
  if n.pairSt ≠ 3 && n.pairSt ≠ 4 then n
  else
    let region := le b 0 1
    let a := le b 4 4
    let data := b.drop 8
    if region = 1 then
      let off := a - jrnlBase
      let n := n.memPut (jrnlBase + off % 0x100000) data
      let n := if 0x1B000 ≤ off && off < 0x27000 then n.mirrorCanRecs else n
      n.jchange (.bytes off data.length) data.length
    else if region = 2 then
      let p := (a - 0x20200000) / 4096 % 256
      let o := if le b 1 1 = 0 then none else some ((le b 1 1 - 1) % 8)
      let n := if n.pageOwner p = o then n else n.setPage p o
      if isDmem a && a + data.length ≤ 0x20300000 then n.memPut a data else n
    else if region = 3 then (if 0x20300000 ≤ a && a + data.length ≤ 0x20380000 then n.memPut a data else n)
    else if region = 4 then n.timerPut (a % 4096) data
    else if region = 5 then n.edgePut (a % 8192) (le data 0 4)
    else if region = 6 then n.snapReg a (le data 0 4) (BitVec.ofNat 32 (le data 4 4))
    else if region = 7 then n.forcePut (a % 256) data
    else n

/-- DELTA: a part of a commit delta from the active node (R436). -/
def execDelta (f : PairRx) (s : State) : Host.Outcome State Fault Refusal := s.onNode (fun n => n.onFrame f 0x20 Node.deltaRx)

/-- SNAP: a snapshot frame (R437). -/
def execSnap (f : PairRx) (s : State) : Host.Outcome State Fault Refusal := s.onNode (fun n => n.onFrame f 0x30 Node.snapRx)

end Sys2Proof.Machine
end

