-- ==== Sys2Proof/Machine/Operands.lean ====
section
/-! DEFINITION. What every Galek instruction shares (09_galek_isa.md R367 to R381): registers, the fetch and its causes, legal words, loads
and stores with their causes in the order of R381. -/

namespace Sys2Proof.Machine

/-! ### Registers and the program counter (R367, R368) -/

/-- Register `r` of engine `e`; g0 reads as 0. -/
def Node.g (n : Node) (e : Nat) (r : Reg) : Word := if r = 0 then 0 else Tab.get (fun _ => 0) (n.engRun e).g r.val

/-- Register `r` of engine `e` written; a write to g0 is discarded. -/
def Node.setG (n : Node) (e : Nat) (r : Reg) (v : Word) : Node :=
  if r = 0 then n else n.updEng e (fun k => { k with g := Tab.set (fun _ => 0) k.g r.val v })

/-- The program counter of engine `e`. -/
def Node.pcOf (n : Node) (e : Nat) : Word := (n.engRun e).pc

/-- The program counter of engine `e` set. -/
def Node.jump (n : Node) (e : Nat) (t : Word) : Node := n.updEng e (fun k => { k with pc := t })

/-- On to the next word. -/
def Node.advance (n : Node) (e : Nat) : Node := n.jump e (n.pcOf e + 4)

/-- Register `rd` written and on to the next word. -/
def Node.finish (n : Node) (e : Nat) (rd : Reg) (v : Word) : Node := (n.setG e rd v).advance e

/-! ### Legal words (R373 to R375, R395) -/

/-- Is a word an instruction of the tables, its unused fields 0? -/
def galekLegal (w : Word) : Bool :=
  let v := w.toNat
  let op := bits v 26 6
  let rd := bits v 21 5
  let ra := bits v 16 5
  let rb := bits v 11 5
  let func := bits v 0 11
  let imm := bits v 0 16
  if op = 0 then func ≤ 0x00D || (0x010 ≤ func && func ≤ 0x012) || (0x014 ≤ func && func ≤ 0x01B) || (func = 0x01C && rb = 0)
  else if op ≤ 6 then true
  else if op ≤ 8 then ra = 0
  else if op < 0x10 then false
  else if op = 0x18 || op = 0x19 then rd = 0
  else if op = 0x20 then func ≤ 1 && rd = 0 && rb = 0
  else if op < 0x2E then true
  else if op = 0x2E then ra = 0 && imm < 4096
  else if op ≤ 0x30 then imm < 8192
  else if op = 0x31 || op = 0x34 || (0x36 ≤ op && op ≤ 0x38) then func = 0
  else if op ≤ 0x33 then ra = 0 && imm < 16
  else if op = 0x35 then ra = 0 && imm < 4
  else if op = 0x39 then ra = 0 && imm < 256
  else if op = 0x3A then imm = 0
  else if op = 0x3B then (func ≤ 2 && rd = 0 && ra = 0 && rb = 0) || func = 3
  else if op = 0x3C then imm < 64
  else if op = 0x3D then ra = 0 && imm < 6
  else false

/-! ### Execution (R376, R381) -/

/-- Engine `e` executes an instruction with effect `f`: only in RUN; a fetch outside the bank raises FETCH and an uncorrectable word ECC,
before anything else. That the word at the program counter is the row's instruction the row itself says (log entry 44). -/
def Node.galek (n : Node) (e : Nat) (f : Node → Node) : Node :=
  let pc := (n.pcOf e).toNat
  if n.engSt e ≠ 1 then n
  else if 0xFFFFC < pc then n.engTrap e 4 0
  else if n.uceIn (n.bankBase + pc) 4 then n.uncorrectable.engTrap e 6 0
  else f n

/-- An instruction that only computes `rd`. -/
def Node.compute (n : Node) (e : Nat) (rd : Reg) (f : Node → Word) : Node := n.galek e (fun n => n.finish e rd (f n))

/-! ### Data addresses (R369 to R372) -/

/-- The address of a load or store. -/
def Node.dataAddr (n : Node) (e : Nat) (ra : Reg) (imm : BitVec 16) : Nat := (n.g e ra + imm.signExtend 32).toNat

/-- The cause of a load of `len` bytes at `a`: 0 none, ALIGN, ACCESS or ECC (R370 to R372, R381). -/
def Node.loadCause (n : Node) (a len : Nat) : Nat :=
  if a % len ≠ 0 then 3
  else if !(isSram a || (len = 4 && isReg a && inBlock a)) then 5
  else if isDmem a && n.uceIn a len then 6
  else 0

/-- The bytes a read of SRAM gives an engine: an uncorrectable word that its owner does not restore reads as 0 (R372). -/
def Node.sramRead (n : Node) (a len : Nat) : List Byte × Node :=
  if n.uceIn a len then
    let n := n.uceMeet a len
    ((upTo len).map (fun i => if n.uceIn (a + i) 1 then 0 else n.memByte (a + i)), n)
  else (n.memBytes a len, n)

/-- What a load returns, and the node after it. -/
def Node.loadData (n : Node) (a len : Nat) : Nat × Node :=
  if isReg a then
    let r := n.regRead a
    (r.1.toNat, r.2)
  else
    let r := n.sramRead a len
    (ofLe r.1, r.2)

/-- A data fault: an address in the register space outside every block is a bus error too (R675), an uncorrectable word a system fault. -/
def Node.dataFault (n : Node) (e cause a : Nat) : Node :=
  let n := if cause = 5 && isReg a && !inBlock a then n.raise SYS_EVT.BUSERR |>.sysFault 7 else if cause = 6 then n.uncorrectable else n
  n.engTrap e cause a

/-- A load of `len` bytes into `rd`, extended by `ext` (R384). -/
def Node.load (n : Node) (e : Nat) (rd ra : Reg) (imm : BitVec 16) (len : Nat) (ext : Nat → Word) : Node :=
  n.galek e (fun n =>
    let a := n.dataAddr e ra imm
    let c := n.loadCause a len
    if c ≠ 0 then n.dataFault e c a
    else
      let r := n.loadData a len
      r.2.finish e rd (ext r.1))

/-- The cause of a store of `len` bytes of `v` at `a`: 0 none, ALIGN, ACCESS or GPIO (R370, R371, R330). -/
def Node.storeCause (n : Node) (e : Fin 8) (a len : Nat) (v : Word) : Nat :=
  if a % len ≠ 0 then 3
  else if !(n.sramMay (.eng e) a len || (len = 4 && isReg a && inBlock a)) then 5
  else if (a = GPIO_SET.SET.addr || a = GPIO_CLR.CLR.addr) && !n.gpioMay e v then 12
  else 0

/-- A store carried out: DMEM blocks stored go with the next commit's delta (R435). -/
def Node.storeData (n : Node) (e : Fin 8) (a len : Nat) (v : Word) : Node :=
  if isReg a then n.busWrite (.eng e) a v
  else
    let n := n.sramWrite a (leBytes len v.toNat)
    let block := a / 64 * 64
    if isDmem a then n.updEng e (fun k => if k.dirty.contains block then k else { k with dirty := k.dirty ++ [block] }) else n

/-- A store of the low `len` bytes of `rd` (R384). -/
def Node.store (n : Node) (e : Fin 8) (rd ra : Reg) (imm : BitVec 16) (len : Nat) : Node :=
  n.galek e (fun n =>
    let a := n.dataAddr e ra imm
    let v := n.g e rd
    let c := n.storeCause e a len v
    if c ≠ 0 then n.dataFault e c a else (n.advance e).storeData e a len v)

/-- The bytes of `len` bytes at `a` sign-extended. -/
def signed (len : Nat) (v : Nat) : Word := if len = 1 then (BitVec.ofNat 8 v).signExtend 32 else (BitVec.ofNat 16 v).signExtend 32

/-- The words of `len` bytes at `a` that are uncorrectable are taken as 0; what such a word holds no read shows (R372). -/
def Node.zeroUce (n : Node) (a len : Nat) : Node :=
  (n.uce.filter (fun w => w < a + len && a < w + 8)).foldl (fun (n : Node) (w : Nat) =>
    { n with mem := putBytes memBlank n.mem w (List.replicate 8 0) }) n

/-- Do `len` bytes at `a` lie wholly in DMEM or wholly in GENBUF (R391)? -/
def inBuffers (a len : Nat) : Bool :=
  (0x20200000 ≤ a && a + len ≤ 0x20300000) || (0x207E0000 ≤ a && a + len ≤ 0x20800000)

end Sys2Proof.Machine
end

