-- ==== Sys2Proof/Machine/HostPort.lean ====
section
/-! DEFINITION. The host port (16_local_interfaces.md R596 to R599; 20_register_map.md R675, R684 to R686): transactions, their CRC-16,
the checks before a write, refused reads, and the status byte. -/

namespace Sys2Proof.Machine

/-- The CRC-16 of R597. -/
def hostCrc (bs : List Byte) : Nat := crcFwd 16 0x1021 0xFFFF bs

/-- The word count of a transaction's header (R597). -/
def hostWords (bs : List Byte) : Nat := be bs 1 1 + 1

/-- How many bytes the host sends of the transaction whose bytes so far are `bs` (R597). -/
def hostLength (bs : List Byte) : Nat := if be bs 0 1 = 1 && 2 ≤ bs.length then 8 + 4 * hostWords bs else 8

/-- Is the transaction's CRC-16 right? -/
def hostCrcOk (bs : List Byte) : Bool := be bs (hostLength bs - 2) 2 = hostCrc (bs.take (hostLength bs - 2))

/-- The end of the register block at `a` (R674). -/
def blockEnd (a : Nat) : Nat := if 0x4001C000 ≤ a && a < 0x4001E000 then 0x4001E000 else (a / 4096 + 1) * 4096

/-- May the host port or the agent write the word at `a` (R23, R343, R599)? -/
def Node.hostMayWrite (n : Node) (by_ : Initiator) (a : Nat) : Bool := n.sramMay by_ a 4 || (isReg a && inBlock a)

/-- May `len` bytes from `a` be read: one SRAM region or one block (R599)? -/
def hostMayRead (a len : Nat) : Bool := (isSram a && oneRegion a len) || (isReg a && inBlock a && a + len ≤ blockEnd a)

/-- One word of a write that passed its checks. A reset that an earlier word brought about ends the transaction. -/
def Node.hostPutWord (n : Node) (by_ : Initiator) (a : Nat) (v : Word) : Node :=
  if !n.running then n else if isReg a then n.busWrite by_ a v else n.sramWrite a (leBytes 4 v.toNat)

/-- The words of a write, in address order (R599). -/
def Node.hostPutWords (n : Node) (by_ : Initiator) (a : Nat) (bs : List Byte) (words : Nat) : Node :=
  (upTo words).foldl (fun (n : Node) (i : Nat) => n.hostPutWord by_ (a + 4 * i) (BitVec.ofNat 32 (be bs (6 + 4 * i) 4))) n

/-- One word of a read, most significant byte first. An uncorrectable SRAM word goes to its owner (R24); what is sent of one that the owner
does not restore the spec leaves open (log entry 53). -/
def Node.hostGetWord (n : Node) (a : Nat) : List Byte × Node :=
  if isReg a then
    let r := n.regRead a
    (beBytes 4 r.1.toNat, r.2)
  else
    let n := n.uceMeet a 4
    if n.uceIn a 4 then
      let w := n.freeWord
      (beBytes 4 w.1, w.2)
    else ((n.memBytes a 4).reverse, n)

/-- The words of a read. -/
def Node.hostGetWords (n : Node) (a words : Nat) : List Byte × Node :=
  (upTo words).foldl (fun (r : List Byte × Node) (i : Nat) =>
    let w := r.2.hostGetWord (a + 4 * i)
    (r.1 ++ w.1, w.2)) ([], n)

/-- A marker and what follows it, with the node's CRC-16. -/
def hostMarked (bs : List Byte) : List Byte := bs ++ beBytes 2 (hostCrc bs)

/-- The fill bytes before a marker: 0 to 8, their number free (R597, log entry 53). -/
def Node.hostFill (n : Node) (bs : List Byte) : List Byte × Node :=
  let w := n.freeWord
  (List.replicate (w.1 % 9) 0xFF ++ bs, w.2)

/-- What a whole transaction with a right CRC-16 does: was a word written, was it refused, the bytes answered, and the node after. -/
def Node.transact (n : Node) (by_ : Initiator) (bs : List Byte) : Bool × Bool × List Byte × Node :=
  let a := be bs 2 4
  let words := hostWords bs
  if be bs 0 1 = 1 then
    if a % 4 = 0 && (upTo words).all (fun i => n.hostMayWrite by_ (a + 4 * i)) then (true, false, [], n.hostPutWords by_ a bs words)
    else (false, true, [], n.busError by_)
  else if be bs 0 1 = 2 then
    if a % 4 = 0 && hostMayRead a (4 * words) then
      let r := n.hostGetWords a words
      let f := r.2.hostFill (hostMarked (0x5A :: r.1))
      (false, false, f.1, f.2)
    else
      let f := (n.busError by_).hostFill (hostMarked [0xE1])
      (false, true, f.1, f.2)
  else (false, false, hostMarked [0x5A], n)

/-- The status byte of the next transaction (R598). -/
def Node.hostStatus (n : Node) (mode3 : Bool) (b : Nat) : Node := (n.wr SYS_HOSTSTAT.NEXT (0xA0 + b)).wrB SYS_HOSTSTAT.MODE3 mode3

/-- A transaction that HOST_nCS cut off: nothing is performed (R596). -/
def Node.hostCut (n : Node) (mode3 : Bool) : Node := (((n.count SYS_CNT_HOSTABT.VALUE).raise SYS_EVT.HOSTABT).hostStatus mode3 8).emit .host
  (leBytes 1 (n.rd SYS_HOSTSTAT.NEXT))

/-- A host-port transaction from the fall of HOST_nCS to its rise (R596 to R599). Byte 0 of what the node sends is the status byte about
the previous transaction; bytes after the last are ignored. -/
def Node.hostRun (n : Node) (mode3 : Bool) (bs : List Byte) : Node :=
  let status := leBytes 1 (n.rd SYS_HOSTSTAT.NEXT)
  if bs.length < hostLength bs then n.hostCut mode3
  else if !hostCrcOk bs then (((n.count SYS_CNT_HOSTCRC.VALUE).raise SYS_EVT.HOSTCRC).hostStatus mode3 2).emit .host status
  else
    let r := n.transact .host bs
    let m := r.2.2.2.emit .host (status ++ r.2.2.1)
    if !m.running then m
    else if r.2.1 then ((m.count SYS_CNT_HOSTREF.VALUE).raise SYS_EVT.HOSTREF).hostStatus mode3 4
    else (m.count SYS_CNT_HOSTOK.VALUE).hostStatus mode3 (b2n r.1)

/-- The transaction of a row that names command byte `cmd`; bytes that spell another command are another row's. -/
def Node.hostCommand (n : Node) (cmd : Nat) (mode3 : Bool) (bs : List Byte) : Node := if be bs 0 1 = cmd then n.hostRun mode3 bs else n

/-- HOST_WRITE: a write transaction (R599). -/
def execHostWrite (mode3 : Bool) (bytes : List Byte) (s : State) : Host.Outcome State Fault Refusal :=
  s.onNode (fun n => n.hostCommand 1 mode3 bytes)

/-- HOST_READ: a read transaction (R597, R599). -/
def execHostRead (mode3 : Bool) (bytes : List Byte) (s : State) : Host.Outcome State Fault Refusal :=
  s.onNode (fun n => n.hostCommand 2 mode3 bytes)

/-- HOST_STATUS: a status transaction (R597). -/
def execHostStatus (mode3 : Bool) (bytes : List Byte) (s : State) : Host.Outcome State Fault Refusal :=
  s.onNode (fun n => n.hostCommand 3 mode3 bytes)

/-- HOST_ABORT: HOST_nCS rises before the last byte (R596); bytes that make a whole transaction are no abort. -/
def execHostAbort (mode3 : Bool) (bytes : List Byte) (s : State) : Host.Outcome State Fault Refusal :=
  s.onNode (fun n => if bytes.length < hostLength bytes then n.hostCut mode3 else n)

end Sys2Proof.Machine
end

