-- ==== Sys2Proof/Machine/Agent.lean ====
section
/-! DEFINITION. Frames received by the switch (16_local_interfaces.md R579, R580, R582, R583), what the internal port answers itself, and
the management agent (R584). -/

namespace Sys2Proof.Machine

/-! ### The management agent -/

/-- Does a source address match ETH_ALLOW under ETH_ALLOWM (R584)? -/
def Node.mgmtAllows (n : Node) (src : Nat) : Bool :=
  src &&& n.rd ETH_ALLOWM.VALUE = n.rd ETH_ALLOW.VALUE &&& n.rd ETH_ALLOWM.VALUE

/-- Is a UDP destination port the agent's? -/
def Node.mgmtPort (n : Node) (port : Nat) : Bool := n.on ETH_MGMT.EN && n.rd ETH_MGMT.PORT = port

/-- A payload is one whole host-port transaction with a right CRC-16. -/
def mgmtGood (payload : List Byte) : Bool :=
  1 ≤ be payload 0 1 && be payload 0 1 ≤ 3 && hostLength payload ≤ payload.length && hostCrcOk payload

/-- A datagram for the agent: performed and its answer, or none where it is dropped and counted (R584). -/
def Node.mgmtRun (n : Node) (src : Nat) (payload : List Byte) : Option (List Byte) × Node :=
  if n.mgmtAllows src && mgmtGood payload then
    let r := n.transact .agent payload
    (some r.2.2.1, r.2.2.2)
  else (none, (n.count ETH_CNT_MGMTREJ.VALUE).raise ETH_EVT.MGMTREJ)

/-- The agent's work on a datagram, answered to `mac`. -/
def Node.mgmtServe (n : Node) (mac src srcPort : Nat) (payload : List Byte) : Node :=
  let port := n.rd ETH_MGMT.PORT
  let r := n.mgmtRun src payload
  match r.1 with
  | some answer => if r.2.running then r.2.udpSend mac src port srcPort answer else r.2
  | none => r.2

/-! ### The internal port -/

/-- The sender's IPv4 address of a packet at `o`. -/
def ipSrc (f : List Byte) (o : Nat) : Nat := be f (o + 12) 4

/-- The sender's MAC address of a frame. -/
def macSrc (f : List Byte) : Nat := be f 6 6

/-- Is the packet at `o` IPv4 in one piece and without options, whole in the frame, and for the node's own address? -/
def Node.ownIp (n : Node) (f : List Byte) (o : Nat) : Bool :=
  be f (typeOff f) 2 = 0x0800 && plainIp f o && 20 ≤ be f (o + 2) 2 && o + be f (o + 2) 2 + 4 ≤ f.length && be f (o + 16) 4 = n.rd ETH_IP.VALUE
    && be f 0 6 = n.ownMac

/-- ARP at `o` for Ethernet and IPv4 that asks for or answers the node's own address (R582). -/
def Node.ownArp (n : Node) (f : List Byte) (o : Nat) : Bool :=
  be f (typeOff f) 2 = 0x0806 && be f o 6 = 0x000108000604 && be f (o + 24) 4 = n.rd ETH_IP.VALUE

/-- An ARP answer fills the cache's entry that waits for it. -/
def Node.arpFill (n : Node) (ip mac : Nat) : Node :=
  n.updEth (fun x => { x with arp := x.arp.map (fun e => if e.1 = ip then (ip, some mac) else e) })

/-- The answer to an ICMP echo request: its message with type 0 (R582). -/
def echoReply (msg : List Byte) : List Byte :=
  let rest := msg.drop 4
  [0, 0] ++ beBytes 2 (ipSum ([0, 0, 0, 0] ++ rest)) ++ rest

/-- A frame for the internal port: ARP, echo and the agent's datagrams are answered; every other frame goes to the receive ring (R582 to
R584). -/
def Node.intReceive (n : Node) (from_ : Nat) (f : List Byte) (ts : Word) : Node :=
  let o := typeOff f + 2
  let proto := be f (o + 9) 1
  let udp := o + 20
  if n.ownArp f o && be f (o + 6) 2 = 1 then n.arpSend 2 (be f (o + 8) 6) (be f (o + 14) 4)
  else if n.ownArp f o && be f (o + 6) 2 = 2 then n.arpFill (be f (o + 14) 4) (be f (o + 8) 6)
  else if n.ownIp f o && proto = 1 && be f (o + 20) 2 = 0x0800 then
    n.ipSend (macSrc f) (ipSrc f o) 1 (echoReply (slice f (o + 20) (be f (o + 2) 2 - 20)))
  else if n.ownIp f o && proto = 17 && n.mgmtPort (be f (udp + 2) 2) && 8 ≤ be f (udp + 4) 2 && be f (udp + 4) 2 + 20 ≤ be f (o + 2) 2 then
    n.mgmtServe (macSrc f) (ipSrc f o) (be f udp 2) (slice f (udp + 8) (be f (udp + 4) 2 - 8))
  else n.rxRing from_ f ts

/-- Does the internal port receive a frame: for its own MAC address, a broadcast, or PTP (R580)? -/
def Node.intWants (n : Node) (f : List Byte) : Bool :=
  be f 0 6 = n.ownMac || be f 0 6 = 0xFFFFFFFFFFFF || (n.ptpOff f).isSome

/-! ### Reception -/

/-- A frame stored whole from external port `p` (R580): forwarded, then received by the internal port. -/
def Node.ethForward (n : Node) (p : Nat) (f : List Byte) (ts : Word) : Node :=
  let n := n.macLearn (macSrc f) p
  let tin := if n.on TIME_TC.EN then some (n.ptpStamp p ts) else none
  let n := n.ethSend (n.ethTargets p f) f none tin
  if n.intWants f then n.intReceive p f ts else n

/-- A frame arrives at external port `p` (R579, R580). -/
def Node.ethReceive (n : Node) (p : Nat) (f : List Byte) (ts : Word) : Node :=
  if !n.ethOn p then n
  else if 1536 < f.length then n.count ETH_CNT_OVERSIZE.VALUE
  else if !fcsOk f then n.count ETH_CNT_DROPFCS.VALUE
  else n.ethForward p f ts

/-! ### The commands -/

/-- ETH_FRAME_RECEIVE: a frame at an external port (R580). What the internal port sends comes from its own ring and is no frame received
(R583). -/
def execEthFrameReceive (r : EthRx) (s : State) : Host.Outcome State Fault Refusal :=
  s.onNode (fun n => if r.port = .int then n else n.ethReceive (ethNo r.port) r.bytes r.ts)

/-- MGMT_DATAGRAM: a UDP datagram given to the agent with no frame beside it (R584). The answer goes to the MAC address that the ARP cache
holds for its way, else to one the model leaves free (log entry 54). -/
def execMgmtDatagram (src : Word) (srcPort dstPort : Nat) (payload : List Byte) (s : State) : Host.Outcome State Fault Refusal :=
  s.onNode (fun n =>
    if !n.mgmtPort dstPort then n
    else
      let hi := n.freeWord
      let lo := hi.2.freeWord
      let mac := ((n.eth.arp.find? (fun e => e.1 = n.nextHop src.toNat)).bind (·.2)).getD (hi.1 % 65536 * 4294967296 + lo.1)
      lo.2.mgmtServe mac src.toNat srcPort payload)

end Sys2Proof.Machine
end

