-- ==== Sys2Proof/Machine/Alu.lean ====
section
/-! DEFINITION. Galek ALU and immediate instructions, illegal words (09_galek_isa.md R374, R382, R383). -/

namespace Sys2Proof.Machine

/-- Leading zero bits of the low `k` bits of `v`. -/
def leadingZeros : Nat → Nat → Nat
  | 0, _ => 0
  | k + 1, v => if bit v k then 0 else 1 + leadingZeros k v

/-- 1 or 0. -/
def flag (b : Bool) : Word := if b then 1 else 0

/-- A register operation with two sources. -/
def Node.alu (n : Node) (e : Nat) (rd ra rb : Reg) (f : Word → Word → Word) : Node := n.compute e rd (fun n => f (n.g e ra) (n.g e rb))

/-- A division: ARITH when the divisor is 0 (R382). -/
def Node.divide (n : Node) (e : Nat) (rd ra rb : Reg) (f : Word → Word → Word) : Node :=
  n.galek e (fun n => if n.g e rb = 0 then n.engTrap e 13 0 else n.finish e rd (f (n.g e ra) (n.g e rb)))

/-- ILLEGAL_INSTRUCTION: a word that R373 to R375 and R395 do not allow raises ILLEGAL. -/
def execIllegalInstruction (e : Fin 8) (word : Word) (s : State) : Host.Outcome State Fault Refusal :=
  s.onNode (fun n => if galekLegal word then n else n.galek e (fun n => n.engTrap e 2 0))

/-- ADD (R382). -/
def execAdd (e : Fin 8) (rd ra rb : Reg) (s : State) : Host.Outcome State Fault Refusal :=
  s.onNode (fun n => n.alu e rd ra rb (fun a b => a + b))

/-- SUB (R382). -/
def execSub (e : Fin 8) (rd ra rb : Reg) (s : State) : Host.Outcome State Fault Refusal :=
  s.onNode (fun n => n.alu e rd ra rb (fun a b => a - b))

/-- AND (R382). -/
def execAnd (e : Fin 8) (rd ra rb : Reg) (s : State) : Host.Outcome State Fault Refusal :=
  s.onNode (fun n => n.alu e rd ra rb (fun a b => a &&& b))

/-- OR (R382). -/
def execOr (e : Fin 8) (rd ra rb : Reg) (s : State) : Host.Outcome State Fault Refusal :=
  s.onNode (fun n => n.alu e rd ra rb (fun a b => a ||| b))

/-- XOR (R382). -/
def execXor (e : Fin 8) (rd ra rb : Reg) (s : State) : Host.Outcome State Fault Refusal :=
  s.onNode (fun n => n.alu e rd ra rb (fun a b => a ^^^ b))

/-- NOR (R382). -/
def execNor (e : Fin 8) (rd ra rb : Reg) (s : State) : Host.Outcome State Fault Refusal :=
  s.onNode (fun n => n.alu e rd ra rb (fun a b => ~~~ (a ||| b)))

/-- SLT (R382). -/
def execSlt (e : Fin 8) (rd ra rb : Reg) (s : State) : Host.Outcome State Fault Refusal :=
  s.onNode (fun n => n.alu e rd ra rb (fun a b => flag (a.slt b)))

/-- SLTU (R382). -/
def execSltu (e : Fin 8) (rd ra rb : Reg) (s : State) : Host.Outcome State Fault Refusal :=
  s.onNode (fun n => n.alu e rd ra rb (fun a b => flag (a.ult b)))

/-- SLL (R382). -/
def execSll (e : Fin 8) (rd ra rb : Reg) (s : State) : Host.Outcome State Fault Refusal :=
  s.onNode (fun n => n.alu e rd ra rb (fun a b => a <<< (b.toNat % 32)))

/-- SRL (R382). -/
def execSrl (e : Fin 8) (rd ra rb : Reg) (s : State) : Host.Outcome State Fault Refusal :=
  s.onNode (fun n => n.alu e rd ra rb (fun a b => a >>> (b.toNat % 32)))

/-- SRA (R382). -/
def execSra (e : Fin 8) (rd ra rb : Reg) (s : State) : Host.Outcome State Fault Refusal :=
  s.onNode (fun n => n.alu e rd ra rb (fun a b => a.sshiftRight (b.toNat % 32)))

/-- MUL (R382). -/
def execMul (e : Fin 8) (rd ra rb : Reg) (s : State) : Host.Outcome State Fault Refusal :=
  s.onNode (fun n => n.alu e rd ra rb (fun a b => a * b))

/-- MULH (R382). -/
def execMulh (e : Fin 8) (rd ra rb : Reg) (s : State) : Host.Outcome State Fault Refusal :=
  s.onNode (fun n => n.alu e rd ra rb (fun a b => ((a.signExtend 64 * b.signExtend 64) >>> 32).setWidth 32))

/-- MULHU (R382). -/
def execMulhu (e : Fin 8) (rd ra rb : Reg) (s : State) : Host.Outcome State Fault Refusal :=
  s.onNode (fun n => n.alu e rd ra rb (fun a b => ((a.setWidth 64 * b.setWidth 64) >>> 32).setWidth 32))

/-- MIN (R382). -/
def execMin (e : Fin 8) (rd ra rb : Reg) (s : State) : Host.Outcome State Fault Refusal :=
  s.onNode (fun n => n.alu e rd ra rb (fun a b => if a.slt b then a else b))

/-- MAX (R382). -/
def execMax (e : Fin 8) (rd ra rb : Reg) (s : State) : Host.Outcome State Fault Refusal :=
  s.onNode (fun n => n.alu e rd ra rb (fun a b => if a.slt b then b else a))

/-- MINU (R382). -/
def execMinu (e : Fin 8) (rd ra rb : Reg) (s : State) : Host.Outcome State Fault Refusal :=
  s.onNode (fun n => n.alu e rd ra rb (fun a b => if a.ult b then a else b))

/-- MAXU (R382). -/
def execMaxu (e : Fin 8) (rd ra rb : Reg) (s : State) : Host.Outcome State Fault Refusal :=
  s.onNode (fun n => n.alu e rd ra rb (fun a b => if a.ult b then b else a))

/-- DIV: signed, rounded toward zero (R382). -/
def execDiv (e : Fin 8) (rd ra rb : Reg) (s : State) : Host.Outcome State Fault Refusal :=
  s.onNode (fun n => n.divide e rd ra rb BitVec.sdiv)

/-- DIVU: unsigned (R382). -/
def execDivu (e : Fin 8) (rd ra rb : Reg) (s : State) : Host.Outcome State Fault Refusal :=
  s.onNode (fun n => n.divide e rd ra rb BitVec.udiv)

/-- REM: signed remainder with the sign of ra (R382). -/
def execRem (e : Fin 8) (rd ra rb : Reg) (s : State) : Host.Outcome State Fault Refusal :=
  s.onNode (fun n => n.divide e rd ra rb BitVec.srem)

/-- REMU: unsigned remainder (R382). -/
def execRemu (e : Fin 8) (rd ra rb : Reg) (s : State) : Host.Outcome State Fault Refusal :=
  s.onNode (fun n => n.divide e rd ra rb BitVec.umod)

/-- SLLI: the count is the rb field (R382). -/
def execSlli (e : Fin 8) (rd ra : Reg) (sh : BitVec 5) (s : State) : Host.Outcome State Fault Refusal :=
  s.onNode (fun n => n.compute e rd (fun n => n.g e ra <<< sh.toNat))

/-- SRLI: the count is the rb field (R382). -/
def execSrli (e : Fin 8) (rd ra : Reg) (sh : BitVec 5) (s : State) : Host.Outcome State Fault Refusal :=
  s.onNode (fun n => n.compute e rd (fun n => n.g e ra >>> sh.toNat))

/-- SRAI: the count is the rb field (R382). -/
def execSrai (e : Fin 8) (rd ra : Reg) (sh : BitVec 5) (s : State) : Host.Outcome State Fault Refusal :=
  s.onNode (fun n => n.compute e rd (fun n => (n.g e ra).sshiftRight sh.toNat))

/-- CLZ: leading zero bits, 0 to 32 (R382). -/
def execClz (e : Fin 8) (rd ra : Reg) (s : State) : Host.Outcome State Fault Refusal :=
  s.onNode (fun n => n.compute e rd (fun n => BitVec.ofNat 32 (leadingZeros 32 (n.g e ra).toNat)))

/-- ADDI (R383). -/
def execAddi (e : Fin 8) (rd ra : Reg) (imm : BitVec 16) (s : State) : Host.Outcome State Fault Refusal :=
  s.onNode (fun n => n.compute e rd (fun n => n.g e ra + imm.signExtend 32))

/-- ANDI (R383). -/
def execAndi (e : Fin 8) (rd ra : Reg) (imm : BitVec 16) (s : State) : Host.Outcome State Fault Refusal :=
  s.onNode (fun n => n.compute e rd (fun n => n.g e ra &&& imm.setWidth 32))

/-- ORI (R383). -/
def execOri (e : Fin 8) (rd ra : Reg) (imm : BitVec 16) (s : State) : Host.Outcome State Fault Refusal :=
  s.onNode (fun n => n.compute e rd (fun n => n.g e ra ||| imm.setWidth 32))

/-- XORI (R383). -/
def execXori (e : Fin 8) (rd ra : Reg) (imm : BitVec 16) (s : State) : Host.Outcome State Fault Refusal :=
  s.onNode (fun n => n.compute e rd (fun n => n.g e ra ^^^ imm.setWidth 32))

/-- SLTI (R383). -/
def execSlti (e : Fin 8) (rd ra : Reg) (imm : BitVec 16) (s : State) : Host.Outcome State Fault Refusal :=
  s.onNode (fun n => n.compute e rd (fun n => flag ((n.g e ra).slt (imm.signExtend 32))))

/-- SLTIU (R383). -/
def execSltiu (e : Fin 8) (rd ra : Reg) (imm : BitVec 16) (s : State) : Host.Outcome State Fault Refusal :=
  s.onNode (fun n => n.compute e rd (fun n => flag ((n.g e ra).ult (imm.setWidth 32))))

/-- LUI (R383). -/
def execLui (e : Fin 8) (rd : Reg) (imm : BitVec 16) (s : State) : Host.Outcome State Fault Refusal :=
  s.onNode (fun n => n.compute e rd (fun _ => imm.setWidth 32 <<< 16))

/-- ADDPC: base of the active bank, offset of this instruction and the signed immediate (R383). -/
def execAddpc (e : Fin 8) (rd : Reg) (imm : BitVec 16) (s : State) : Host.Outcome State Fault Refusal :=
  s.onNode (fun n => n.compute e rd (fun n => BitVec.ofNat 32 n.bankBase + n.pcOf e + imm.signExtend 32))

end Sys2Proof.Machine
end

