-- ==== Sys2Proof/Machine/Cells.lean ====
section
/-! DEFINITION. Galek process image, timers, counters and edges (09_galek_isa.md R386 to R389; 05_signals.md R217 to R219; 08_cycle_engines.md
R347, R352, R353). -/

namespace Sys2Proof.Machine

/-! ### Process image (R386) -/

/-- The PIMG index that ra and the immediate name. -/
def Node.pimgIndex (n : Node) (e : Nat) (ra : Reg) (imm : BitVec 16) : Nat := (n.g e ra + imm.setWidth 32).toNat

/-- The DMEM address of word `w` of PIMG entry `i` in the view of engine `e`; none outside the view (R217, R218). -/
def Node.viewAddr (n : Node) (e i w : Nat) : Option Nat :=
  let first := n.rd (SIG_VIEWA.FIRST e)
  if n.viewOk e && first ≤ i && i < first + n.rd (SIG_VIEWB.COUNT e) then
    some (0x20200000 + 8 * n.rd (SIG_VIEWC.DEST e) + 8 * (i - first) + 4 * w)
  else none

/-- PGET and PSTAT: word `w` of an entry in the view. -/
def Node.viewGet (n : Node) (e : Nat) (rd ra : Reg) (imm : BitVec 16) (w : Nat) : Node :=
  n.galek e (fun n =>
    let i := n.pimgIndex e ra imm
    match n.viewAddr e i w with
    | none => n.engTrap e 8 i
    | some a => if n.uceIn a 4 then n.uncorrectable.engTrap e 6 i else n.finish e rd (BitVec.ofNat 32 (n.memLe a 4)))

/-- The output shadow with entry `i` at `v`: a later PPUT replaces the value in place (R219). -/
def shadowPut (i : Nat) (v : Word) : List (Nat × Word) → List (Nat × Word)
  | [] => [(i, v)]
  | p :: t => if p.1 = i then (i, v) :: t else p :: shadowPut i v t

/-- PGET (R386). -/
def execPget (e : Fin 8) (rd ra : Reg) (imm : BitVec 16) (s : State) : Host.Outcome State Fault Refusal :=
  s.onNode (fun n => n.viewGet e rd ra imm 0)

/-- PSTAT (R386). -/
def execPstat (e : Fin 8) (rd ra : Reg) (imm : BitVec 16) (s : State) : Host.Outcome State Fault Refusal :=
  s.onNode (fun n => n.viewGet e rd ra imm 1)

/-- PPUT (R210, R219, R386): OWNER, counted by SIG, or SHADOW, or the shadow takes the value. -/
def execPput (e : Fin 8) (rd ra : Reg) (imm : BitVec 16) (s : State) : Host.Outcome State Fault Refusal :=
  s.onNode (fun n => n.galek e (fun n =>
    let i := n.pimgIndex e ra imm
    let sh := (n.engRun e).shadow
    if 65535 < i || !n.ownsEntry e i then ((n.count SIG_CNT_OWNTRAP.VALUE).raise SIG_EVT.OWNTRAP).engTrap e 7 i
    else if 2048 ≤ sh.length && !sh.any (fun p => p.1 = i) then n.engTrap e 9 i
    else
      let v := n.g e rd
      (n.updEng e (fun k => { k with shadow := shadowPut i v k.shadow })).advance e))

/-! ### Timers and counters (R387 to R389) -/

/-- What a cell holds after an execution: shown value, start of a running timer in µs, Q. -/
structure CellOut where
  value : Nat
  start : Option Nat
  q : Bool
  deriving DecidableEq, Repr

/-- One execution of a cell of kind 1 TON, 2 TOF, 3 TPL, 4 CTU, 5 CTD (R388): inputs, preset, stored input, value, start and time. -/
def cellStep (kind : Nat) (inn rst : Bool) (pt : Nat) (prev : Bool) (value : Nat) (start : Option Nat) (now : Nat) : CellOut :=
  if kind = 1 then
    (if !inn then ⟨0, none, false⟩
    else
      match start with
      | none => ⟨0, some now, pt = 0⟩
      | some s => ⟨min (now - s) pt, some s, pt ≤ min (now - s) pt⟩)
  else if kind = 2 then
    (if inn then ⟨0, none, true⟩
    else if prev then ⟨0, some now, 0 < pt⟩
    else
      match start with
      | none => ⟨value, none, false⟩
      | some s => ⟨min (now - s) pt, some s, min (now - s) pt < pt⟩)
  else if kind = 3 then
    let start := if inn && !prev && start.isNone then some now else start
    match start with
    | none => ⟨if inn then value else 0, none, false⟩
    | some s =>
      let et := min (now - s) pt
      ⟨et, if et < pt then some s else none, et < pt⟩
  else if kind = 4 then
    let cv := if rst then 0 else if inn && !prev && value < 0xFFFFFFFF then value + 1 else value
    ⟨cv, none, pt ≤ cv⟩
  else
    let cv := if rst then pt else if inn && !prev && 0 < value then value - 1 else value
    ⟨cv, none, cv = 0⟩

/-- The value a cell shows: elapsed time of a running timer, live, at most its preset, or the count (R365, R389). -/
def Node.cellShown (n : Node) (c : Nat) : Word := n.elapsed c

/-- A timer instruction of `kind` on cell `c` (R387, R388). -/
def Node.timer (n : Node) (e : Nat) (kind : Nat) (rd ra rb : Reg) (c : Nat) : Node :=
  n.galek e (fun n =>
    let was := n.rd (TMR_TW0.KIND c)
    if n.timerOwner c ≠ some e || (was ≠ 0 && was ≠ kind) then n.engTrap e 10 c
    else
      let inp := (n.g e ra).toNat
      let pt := (n.g e rb).toNat
      let s := Tab.get (fun _ => 0) n.cellStart c
      let o := cellStep kind (bit inp 0) (bit inp 1) pt (n.on (TMR_TW0.IN c)) (n.rd (TMR_TW2.VALUE c)) (if s = 0 then none else some (s - 1))
        (n.now / 1000)
      let n := ((n.wr (TMR_TW0.KIND c) kind).wrB (TMR_TW0.IN c) (bit inp 0)).wrB (TMR_TW0.Q c) o.q
      let n := (n.wr (TMR_TW1.PRESET c) pt).wr (TMR_TW2.VALUE c) o.value
      let n := { n with cellStart := Tab.set (fun _ => 0) n.cellStart c ((o.start.map (· + 1)).getD 0) }
      let n := n.updEng e (fun k => if k.timers.contains c then k else { k with timers := k.timers ++ [c] })
      n.finish e rd (BitVec.ofNat 32 (b2n o.q)))

/-- TON (R388). -/
def execTon (e : Fin 8) (rd ra rb : Reg) (cell : BitVec 12) (s : State) : Host.Outcome State Fault Refusal :=
  s.onNode (fun n => n.timer e 1 rd ra rb cell.toNat)

/-- TOF (R388). -/
def execTof (e : Fin 8) (rd ra rb : Reg) (cell : BitVec 12) (s : State) : Host.Outcome State Fault Refusal :=
  s.onNode (fun n => n.timer e 2 rd ra rb cell.toNat)

/-- TPL (R388). -/
def execTpl (e : Fin 8) (rd ra rb : Reg) (cell : BitVec 12) (s : State) : Host.Outcome State Fault Refusal :=
  s.onNode (fun n => n.timer e 3 rd ra rb cell.toNat)

/-- CTU (R388). -/
def execCtu (e : Fin 8) (rd ra rb : Reg) (cell : BitVec 12) (s : State) : Host.Outcome State Fault Refusal :=
  s.onNode (fun n => n.timer e 4 rd ra rb cell.toNat)

/-- CTD (R388). -/
def execCtd (e : Fin 8) (rd ra rb : Reg) (cell : BitVec 12) (s : State) : Host.Outcome State Fault Refusal :=
  s.onNode (fun n => n.timer e 5 rd ra rb cell.toNat)

/-- TVAL (R389). -/
def execTval (e : Fin 8) (rd : Reg) (cell : BitVec 12) (s : State) : Host.Outcome State Fault Refusal :=
  s.onNode (fun n => n.galek e (fun n =>
    if n.timerOwner cell.toNat ≠ some e.val then n.engTrap e 10 cell.toNat else n.finish e rd (n.cellShown cell.toNat)))

/-- EDR and EDF: an edge toward `level` (R389). -/
def Node.edge (n : Node) (e : Nat) (level : Bool) (rd ra : Reg) (c : Nat) : Node :=
  n.galek e (fun n =>
    if n.edgeOwner c ≠ some e then n.engTrap e 10 c
    else
      let inp := bit (n.g e ra).toNat 0
      let hit := inp = level && n.on (TMR_EW.PREV c) != level
      let n := (n.wrB (TMR_EW.PREV c) inp).updEng e (fun k => if k.edges.contains c then k else { k with edges := k.edges ++ [c] })
      n.finish e rd (BitVec.ofNat 32 (b2n hit)))

/-- EDR (R389). -/
def execEdr (e : Fin 8) (rd ra : Reg) (cell : BitVec 13) (s : State) : Host.Outcome State Fault Refusal :=
  s.onNode (fun n => n.edge e true rd ra cell.toNat)

/-- EDF (R389). -/
def execEdf (e : Fin 8) (rd ra : Reg) (cell : BitVec 13) (s : State) : Host.Outcome State Fault Refusal :=
  s.onNode (fun n => n.edge e false rd ra cell.toNat)

end Sys2Proof.Machine
end

