-- ==== Sys2Proof/Machine/MemFlow.lean ====
section
/-! DEFINITION. Galek loads, stores and control flow (09_galek_isa.md R384, R385). -/

namespace Sys2Proof.Machine

/-- LD.B (R384). -/
def execLdB (e : Fin 8) (rd ra : Reg) (imm : BitVec 16) (s : State) : Host.Outcome State Fault Refusal :=
  s.onNode (fun n => n.load e rd ra imm 1 (signed 1))

/-- LD.BU (R384). -/
def execLdBu (e : Fin 8) (rd ra : Reg) (imm : BitVec 16) (s : State) : Host.Outcome State Fault Refusal :=
  s.onNode (fun n => n.load e rd ra imm 1 (BitVec.ofNat 32))

/-- LD.H (R384). -/
def execLdH (e : Fin 8) (rd ra : Reg) (imm : BitVec 16) (s : State) : Host.Outcome State Fault Refusal :=
  s.onNode (fun n => n.load e rd ra imm 2 (signed 2))

/-- LD.HU (R384). -/
def execLdHu (e : Fin 8) (rd ra : Reg) (imm : BitVec 16) (s : State) : Host.Outcome State Fault Refusal :=
  s.onNode (fun n => n.load e rd ra imm 2 (BitVec.ofNat 32))

/-- LD.W (R384). -/
def execLdW (e : Fin 8) (rd ra : Reg) (imm : BitVec 16) (s : State) : Host.Outcome State Fault Refusal :=
  s.onNode (fun n => n.load e rd ra imm 4 (BitVec.ofNat 32))

/-- ST.B (R384). -/
def execStB (e : Fin 8) (rd ra : Reg) (imm : BitVec 16) (s : State) : Host.Outcome State Fault Refusal :=
  s.onNode (fun n => n.store e rd ra imm 1)

/-- ST.H (R384). -/
def execStH (e : Fin 8) (rd ra : Reg) (imm : BitVec 16) (s : State) : Host.Outcome State Fault Refusal :=
  s.onNode (fun n => n.store e rd ra imm 2)

/-- ST.W (R384). -/
def execStW (e : Fin 8) (rd ra : Reg) (imm : BitVec 16) (s : State) : Host.Outcome State Fault Refusal :=
  s.onNode (fun n => n.store e rd ra imm 4)

/-- A compare-and-branch (R385): by signed words from the branch itself when `c` holds. -/
def Node.branch (n : Node) (e : Nat) (x y : Reg) (off : BitVec 16) (c : Word → Word → Bool) : Node :=
  n.galek e (fun n => if c (n.g e x) (n.g e y) then n.jump e (n.pcOf e + off.signExtend 32 <<< 2) else n.advance e)

/-- A jump to the code offset `t` (R371, R381): FETCH when bits [31:20] are not 0, then ALIGN. -/
def Node.jumpTo (n : Node) (e : Nat) (t : Word) (f : Node → Node) : Node :=
  if 0xFFFFF < t.toNat then n.engTrap e 4 t.toNat
  else if t.toNat % 4 ≠ 0 then n.engTrap e 3 t.toNat
  else (f n).jump e t

/-- B (R385). -/
def execB (e : Fin 8) (off : BitVec 21) (s : State) : Host.Outcome State Fault Refusal :=
  s.onNode (fun n => n.galek e (fun n => n.jump e (n.pcOf e + off.signExtend 32 <<< 2)))

/-- CALL (R385). -/
def execCall (e : Fin 8) (off : BitVec 21) (s : State) : Host.Outcome State Fault Refusal :=
  s.onNode (fun n => n.galek e (fun n => (n.setG e 31 (n.pcOf e + 4)).jump e (n.pcOf e + off.signExtend 32 <<< 2)))

/-- BEQ (R385). -/
def execBeq (e : Fin 8) (x y : Reg) (off : BitVec 16) (s : State) : Host.Outcome State Fault Refusal :=
  s.onNode (fun n => n.branch e x y off (fun a b => a = b))

/-- BNE (R385). -/
def execBne (e : Fin 8) (x y : Reg) (off : BitVec 16) (s : State) : Host.Outcome State Fault Refusal :=
  s.onNode (fun n => n.branch e x y off (fun a b => a ≠ b))

/-- BLT (R385). -/
def execBlt (e : Fin 8) (x y : Reg) (off : BitVec 16) (s : State) : Host.Outcome State Fault Refusal :=
  s.onNode (fun n => n.branch e x y off BitVec.slt)

/-- BGE (R385). -/
def execBge (e : Fin 8) (x y : Reg) (off : BitVec 16) (s : State) : Host.Outcome State Fault Refusal :=
  s.onNode (fun n => n.branch e x y off (fun a b => !a.slt b))

/-- BLTU (R385). -/
def execBltu (e : Fin 8) (x y : Reg) (off : BitVec 16) (s : State) : Host.Outcome State Fault Refusal :=
  s.onNode (fun n => n.branch e x y off BitVec.ult)

/-- BGEU (R385). -/
def execBgeu (e : Fin 8) (x y : Reg) (off : BitVec 16) (s : State) : Host.Outcome State Fault Refusal :=
  s.onNode (fun n => n.branch e x y off (fun a b => !a.ult b))

/-- RET (R385). -/
def execRet (e : Fin 8) (ra : Reg) (s : State) : Host.Outcome State Fault Refusal :=
  s.onNode (fun n => n.galek e (fun n => n.jumpTo e (n.g e ra) (fun n => n)))

/-- CALLR: the target is read before the link is written (R385). -/
def execCallr (e : Fin 8) (ra : Reg) (s : State) : Host.Outcome State Fault Refusal :=
  s.onNode (fun n => n.galek e (fun n => n.jumpTo e (n.g e ra) (fun n => n.setG e 31 (n.pcOf e + 4))))

end Sys2Proof.Machine
end

