-- ==== Sys2Proof/Machine/Units.lean ====
section
/-! DEFINITION. Galek instructions that act on the node's units, and the system instructions (09_galek_isa.md R390 to R395, R326, R329,
R378). -/

namespace Sys2Proof.Machine

/-! ### Messages (R390, R391) -/

/-- QPUT once its block has been read: LENGTH comes before any check of the buffer. -/
def Node.qputGo (n : Node) (e : Nat) (rd rb : Reg) (w0 buf life expect : Nat) : Node :=
  let f := bits w0 0 8
  let len := bits w0 16 13
  let done := fun (n : Node) (code seq : Nat) => (n.setG e rb (BitVec.ofNat 32 seq)).finish e rd (BitVec.ofNat 32 code)
  let code := n.submitCode e f len (bits life 0 27) expect
  if 0 < len && len ≤ 4096 && !inBuffers buf len then n.engTrap e 5 buf
  else if code = 0 && isDmem buf && n.uceIn buf len then n.uncorrectable.engTrap e 6 buf
  else
    let n := if code = 0 && n.uceIn buf len then (n.uceMeet buf len).zeroUce buf len else n
    let seq := n.rd (MSG_OFW4.NEXTSEQ f)
    let r := n.submit e f buf len (bits life 0 27) expect
    done r.2 r.1 (if r.1 = 0 then seq else 0)

/-- QPUT (R242, R390, R391). -/
def execQput (e : Fin 8) (rd ra rb : Reg) (s : State) : Host.Outcome State Fault Refusal :=
  s.onNode (fun n => n.galek e (fun n =>
    let a := (n.g e ra).toNat
    if a % 4 ≠ 0 then n.engTrap e 3 a
    else if !inBuffers a 16 then n.engTrap e 5 a
    else if isDmem a && n.uceIn a 16 then n.uncorrectable.engTrap e 6 a
    else
      let r := n.sramRead a 16
      r.2.qputGo e rd rb (le r.1 0 4) (le r.1 4 4) (le r.1 8 4) (le r.1 12 4)))

/-- QGET (R260, R390). -/
def execQget (e : Fin 8) (rd : Reg) (queue : Fin 16) (s : State) : Host.Outcome State Fault Refusal :=
  s.onNode (fun n => n.galek e (fun n =>
    if n.rd (MSG_DQ.OWNER queue) ≠ e.val then n.engTrap e 11 0
    else
      let r := n.readDesc queue
      r.2.finish e rd (BitVec.ofNat 32 r.1)))

/-- QACK: the oldest read descriptor that no QACK of the cycle names yet; it takes effect at CYC (R260, R390). -/
def execQack (e : Fin 8) (rd : Reg) (queue : Fin 16) (s : State) : Host.Outcome State Fault Refusal :=
  s.onNode (fun n => n.galek e (fun n =>
    let given := (n.msg.qacks.filter (fun q => q = (e.val, queue.val))).length
    if n.rd (MSG_DQ.OWNER queue) ≠ e.val then n.engTrap e 11 0
    else if n.rd (MSG_DQ.READ queue) ≤ given then n.finish e rd 1
    else ({ n with msg := { n.msg with qacks := n.msg.qacks ++ [(e.val, queue.val)] } } : Node).finish e rd 0))

/-- QWDR (R263, R390). -/
def execQwdr (e : Fin 8) (rd ra rb : Reg) (s : State) : Host.Outcome State Fault Refusal :=
  s.onNode (fun n => n.galek e (fun n =>
    let r := n.withdraw e ((n.g e ra).toNat % 256) (n.g e rb).toNat
    r.2.finish e rd (BitVec.ofNat 32 r.1)))

/-! ### Time, audio and power leave (R392, R393) -/

/-- TRD (R392). -/
def execTrd (e : Fin 8) (rd : Reg) (base : Fin 4) (s : State) : Host.Outcome State Fault Refusal :=
  s.onNode (fun n => n.compute e rd (fun n => n.base base))

/-- Does engine `e` hold the launch target of a kind and index (R393)? -/
def Node.holdsTarget (n : Node) (e kind index : Nat) : Bool :=
  if kind = 1 then index < 1536 && ((n.poolOf index).map (fun o => decide (o.2 = e))).getD false
  else if kind = 2 then index < 8 && n.rd (ETH_LSB.OWNER index) = e
  else if kind = 3 then index < 4 && n.rd (TDM_CTRL.OWNER index) = e
  else false

/-- TLN (R393, R529, R531): a target with a bit above [21:0] set is invalid (log entry 92). A time not 1 ns ahead or more has passed, and is
answered so before the table's room is looked at. -/
def execTln (e : Fin 8) (rd ra rb : Reg) (s : State) : Host.Outcome State Fault Refusal :=
  s.onNode (fun n => n.galek e (fun n =>
    let w := (n.g e ra).toNat
    let l : Launch := ⟨bits w 20 2, n.g e rb, bits w 16 4, bits w 0 16, e, false, false⟩
    if bits w 22 10 ≠ 0 || !n.holdsTarget e l.kind l.index then n.finish e rd 1
    else if n.ahead l ≤ 0 then (n.addLaunch { l with late := true }).finish e rd 3
    else if 256 ≤ n.time.launches.length then n.finish e rd 2
    else (n.addLaunch l).finish e rd 0))

/-- AROUTE and AGAIN: a crosspoint change of the bits of `mask` (R300, R392), mirrored as kind 7 (R435). -/
def Node.crosspoint (n : Node) (e : Nat) (rd ra rb : Reg) (mask : Word) : Node :=
  n.galek e (fun n =>
    let w := (n.g e ra).toNat
    let v := n.g e rb
    let k := 384 * bits w 16 7 + bits w 0 9
    if 384 ≤ bits w 0 9 then n.finish e rd 1
    else
      let n := (n.xpQueue k mask v).mirrorDelta [deltaRec 7 e 0x40040034 (leBytes 4 k ++ leBytes 4 mask.toNat ++ leBytes 4 v.toNat)]
      n.finish e rd 0)

/-- AROUTE (R392). -/
def execAroute (e : Fin 8) (rd ra rb : Reg) (s : State) : Host.Outcome State Fault Refusal :=
  s.onNode (fun n => n.crosspoint e rd ra rb 0x8001FC00)

/-- AGAIN (R392). -/
def execAgain (e : Fin 8) (rd ra rb : Reg) (s : State) : Host.Outcome State Fault Refusal :=
  s.onNode (fun n => n.crosspoint e rd ra rb 0x3FF)

/-- GUST (R392, R462). -/
def execGust (e : Fin 8) (rd : Reg) (cls : BitVec 8) (s : State) : Host.Outcome State Fault Refusal :=
  s.onNode (fun n => n.galek e (fun n =>
    let r := n.gustRequest e cls.toNat
    r.2.2.finish e rd (BitVec.ofNat 32 (r.1 + 256 * r.2.1))))

/-- CALM (R392, R462). -/
def execCalm (e : Fin 8) (rd ra : Reg) (s : State) : Host.Outcome State Fault Refusal :=
  s.onNode (fun n => n.galek e (fun n =>
    let r := n.calmHandle e ((n.g e ra).toNat % 256)
    r.2.finish e rd (BitVec.ofNat 32 r.1)))

/-! ### System instructions (R394, R395) -/

/-- CYC (R329). -/
def execCyc (e : Fin 8) (s : State) : Host.Outcome State Fault Refusal := s.onNode (fun n => n.galek e (fun n => n.engCyc e))

/-- FENCE: every store has completed in this model, so the engine goes on (R378). -/
def execFence (e : Fin 8) (s : State) : Host.Outcome State Fault Refusal := s.onNode (fun n => n.galek e (fun n => n.advance e))

/-- HALT (R326). -/
def execHalt (e : Fin 8) (s : State) : Host.Outcome State Fault Refusal := s.onNode (fun n => n.galek e (fun n => n.engHaltInstr e))

/-- A CRC-32 continued over bytes, complemented before and after (R394). -/
def crcOn (crc : Nat) (bs : List Byte) : Nat :=
  (bs.foldl (fun c b => crcReflByte 0xEDB88320 8 (c ^^^ b.toNat)) (crc ^^^ 0xFFFFFFFF)) ^^^ 0xFFFFFFFF

/-- CRC32 (R394): ACCESS, ECC, or the CRC; a length of 0 leaves rd as it is. -/
def execCrc32 (e : Fin 8) (rd ra rb : Reg) (s : State) : Host.Outcome State Fault Refusal :=
  s.onNode (fun n => n.galek e (fun n =>
    let a := (n.g e ra).toNat
    let len := (n.g e rb).toNat
    if len = 0 then n.advance e
    else if !oneRegion a len then n.engTrap e 5 a
    else if isDmem a && n.uceIn a len then n.uncorrectable.engTrap e 6 a
    else
      let r := n.sramRead a len
      r.2.finish e rd (BitVec.ofNat 32 (crcOn (n.g e rd).toNat r.1))))

/-- REC (R394, R611, R620, R622): refused when the recorder commits or keeps no record for it. -/
def execRecTrg (e : Fin 8) (rd ra : Reg) (trigger : Fin 64) (s : State) : Host.Outcome State Fault Refusal :=
  s.onNode (fun n => n.galek e (fun n =>
    if !n.on (EVR_TW0.EN trigger) || n.rd (EVR_TW0.KIND trigger) ≠ 2 then n.finish e rd 1
    else
      let seq := n.evrSeq
      let kept := n.evr.waiting.length
      let n := n.fireWith Node.raise (n.g e ra).toNat trigger
      n.finish e rd (if n.evrSeq = seq && n.evr.waiting.length ≤ kept then 2 else 0)))

/-- RSR (R395): another selector raises ILLEGAL. -/
def execRsr (e : Fin 8) (rd : Reg) (sel : BitVec 4) (s : State) : Host.Outcome State Fault Refusal :=
  s.onNode (fun n => n.galek e (fun n =>
    let r := n.engRun e
    if sel = 0 then n.finish e rd (BitVec.ofNat 32 e.val)
    else if sel = 1 then n.finish e rd (BitVec.ofNat 32 (n.rd (ENG_CNT_CYCLES.VALUE e)))
    else if sel = 2 then n.finish e rd (BitVec.ofNat 32 (r.start.getD 0))
    else if sel = 3 then n.finish e rd r.viewGen
    else if sel = 4 then n.finish e rd r.viewCyc
    else if sel = 5 then n.finish e rd (BitVec.ofNat 32 (n.rd PEX_STATUS.BANK))
    else n.engTrap e 2 0))

end Sys2Proof.Machine
end

