-- ==== Sys2Proof/Machine/Dispatch.lean ====
section
/-! DEFINITION. `exec`: one arm per command, each one direct call of its meaning. -/

namespace Sys2Proof.Machine

def exec (i : Instr) (s : State) : Host.Outcome State Fault Refusal :=
  match i with
  | .vddAonPor => Sys2Proof.Machine.execVddAonPor s
  | .mainRailPor detectors => Sys2Proof.Machine.execMainRailPor detectors s
  | .nreset ns => Sys2Proof.Machine.execNreset ns s
  | .swrst by_ => Sys2Proof.Machine.execSwrst by_ s
  | .resetRelease b => Sys2Proof.Machine.execResetRelease b s
  | .bootctlGo by_ => Sys2Proof.Machine.execBootctlGo by_ s
  | .otpProgram by_ => Sys2Proof.Machine.execOtpProgram by_ s
  | .otpProgramDone verified => Sys2Proof.Machine.execOtpProgramDone verified s
  | .pllUnlock pll => Sys2Proof.Machine.execPllUnlock pll s
  | .pllLineLock => Sys2Proof.Machine.execPllLineLock s
  | .hostWrite mode3 bytes => Sys2Proof.Machine.execHostWrite mode3 bytes s
  | .hostRead mode3 bytes => Sys2Proof.Machine.execHostRead mode3 bytes s
  | .hostStatus mode3 bytes => Sys2Proof.Machine.execHostStatus mode3 bytes s
  | .hostAbort mode3 bytes => Sys2Proof.Machine.execHostAbort mode3 bytes s
  | .registerWrite by_ addr value => Sys2Proof.Machine.execRegisterWrite by_ addr value s
  | .counterClear by_ addr value => Sys2Proof.Machine.execCounterClear by_ addr value s
  | .acceptance => Sys2Proof.Machine.execAcceptance s
  | .zsenseChange att cls => Sys2Proof.Machine.execZsenseChange att cls s
  | .lineNullTable line => Sys2Proof.Machine.execLineNullTable line s
  | .lineNullLeave line => Sys2Proof.Machine.execLineNullLeave line s
  | .pilotReceive p => Sys2Proof.Machine.execPilotReceive p s
  | .soundingReceive p => Sys2Proof.Machine.execSoundingReceive p s
  | .soundingSend => Sys2Proof.Machine.execSoundingSend s
  | .loadRoundStart => Sys2Proof.Machine.execLoadRoundStart s
  | .loadProp u => Sys2Proof.Machine.execLoadProp u s
  | .loadSet u => Sys2Proof.Machine.execLoadSet u s
  | .loadAck u => Sys2Proof.Machine.execLoadAck u s
  | .loadReq u => Sys2Proof.Machine.execLoadReq u s
  | .loadAckCheck line => Sys2Proof.Machine.execLoadAckCheck line s
  | .loadSwitch line => Sys2Proof.Machine.execLoadSwitch line s
  | .pendingTableTimeout line node => Sys2Proof.Machine.execPendingTableTimeout line node s
  | .tablesNotHeld line node => Sys2Proof.Machine.execTablesNotHeld line node s
  | .calStart att => Sys2Proof.Machine.execCalStart att s
  | .calCancel att => Sys2Proof.Machine.execCalCancel att s
  | .calDeferredStart att => Sys2Proof.Machine.execCalDeferredStart att s
  | .calPhaseEnd att => Sys2Proof.Machine.execCalPhaseEnd att s
  | .calBeaconLoss att => Sys2Proof.Machine.execCalBeaconLoss att s
  | .beaconSend => Sys2Proof.Machine.execBeaconSend s
  | .beaconReceive r => Sys2Proof.Machine.execBeaconReceive r s
  | .beaconMiss => Sys2Proof.Machine.execBeaconMiss s
  | .coastLimit => Sys2Proof.Machine.execCoastLimit s
  | .contAnswer args => Sys2Proof.Machine.execContAnswer args s
  | .spareConfirm args => Sys2Proof.Machine.execSpareConfirm args s
  | .spareRelease args => Sys2Proof.Machine.execSpareRelease args s
  | .spareAbsenceRelease entry => Sys2Proof.Machine.execSpareAbsenceRelease entry s
  | .slotSend entry => Sys2Proof.Machine.execSlotSend entry s
  | .slotReceive r => Sys2Proof.Machine.execSlotReceive r s
  | .contentionSend => Sys2Proof.Machine.execContentionSend s
  | .contentionAttemptFail => Sys2Proof.Machine.execContentionAttemptFail s
  | .contbad cell => Sys2Proof.Machine.execContbad cell s
  | .spareClaim f => Sys2Proof.Machine.execSpareClaim f s
  | .barSpareClaim => Sys2Proof.Machine.execBarSpareClaim s
  | .barSpareCancel => Sys2Proof.Machine.execBarSpareCancel s
  | .rollcallSend => Sys2Proof.Machine.execRollcallSend s
  | .rollcallReceive r => Sys2Proof.Machine.execRollcallReceive r s
  | .nodeAbsent node => Sys2Proof.Machine.execNodeAbsent node s
  | .guardAlign cycle offset own => Sys2Proof.Machine.execGuardAlign cycle offset own s
  | .guardUnaligned => Sys2Proof.Machine.execGuardUnaligned s
  | .grdArm id => Sys2Proof.Machine.execGrdArm id s
  | .grdCommit id cycle => Sys2Proof.Machine.execGrdCommit id cycle s
  | .guardArmExpire => Sys2Proof.Machine.execGuardArmExpire s
  | .guardSwap => Sys2Proof.Machine.execGuardSwap s
  | .guardBlocked position => Sys2Proof.Machine.execGuardBlocked position s
  | .grdClose by_ => Sys2Proof.Machine.execGrdClose by_ s
  | .grdRearm by_ => Sys2Proof.Machine.execGrdRearm by_ s
  | .grdForeignWrite by_ commit value => Sys2Proof.Machine.execGrdForeignWrite by_ commit value s
  | .inaEnable by_ => Sys2Proof.Machine.execInaEnable by_ s
  | .inaDisable by_ => Sys2Proof.Machine.execInaDisable by_ s
  | .listenTimeout => Sys2Proof.Machine.execListenTimeout s
  | .cand f => Sys2Proof.Machine.execCand f s
  | .callFrame f => Sys2Proof.Machine.execCallFrame f s
  | .answer f => Sys2Proof.Machine.execAnswer f s
  | .callTimeout => Sys2Proof.Machine.execCallTimeout s
  | .endFrame f => Sys2Proof.Machine.execEndFrame f s
  | .leadCandLoss => Sys2Proof.Machine.execLeadCandLoss s
  | .dirrec f => Sys2Proof.Machine.execDirrec f s
  | .ccommit f => Sys2Proof.Machine.execCcommit f s
  | .inaugurationCommit => Sys2Proof.Machine.execInaugurationCommit s
  | .commit args => Sys2Proof.Machine.execCommit args s
  | .commitKey args => Sys2Proof.Machine.execCommitKey args s
  | .stretch args => Sys2Proof.Machine.execStretch args s
  | .relay args => Sys2Proof.Machine.execRelay args s
  | .relayClosure line => Sys2Proof.Machine.execRelayClosure line s
  | .cold args => Sys2Proof.Machine.execCold args s
  | .coldEffective => Sys2Proof.Machine.execColdEffective s
  | .inaCmdCold by_ => Sys2Proof.Machine.execInaCmdCold by_ s
  | .inaCmdRenumber by_ => Sys2Proof.Machine.execInaCmdRenumber by_ s
  | .inaCmdMerge by_ => Sys2Proof.Machine.execInaCmdMerge by_ s
  | .join f => Sys2Proof.Machine.execJoin f s
  | .hello f => Sys2Proof.Machine.execHello f s
  | .helloSend => Sys2Proof.Machine.execHelloSend s
  | .renumberCommitStart => Sys2Proof.Machine.execRenumberCommitStart s
  | .pubDecl u => Sys2Proof.Machine.execPubDecl u s
  | .streamDecl u => Sys2Proof.Machine.execStreamDecl u s
  | .dirPub u => Sys2Proof.Machine.execDirPub u s
  | .dirStream u => Sys2Proof.Machine.execDirStream u s
  | .dirNode u => Sys2Proof.Machine.execDirNode u s
  | .dirSch u => Sys2Proof.Machine.execDirSch u s
  | .dirSum u => Sys2Proof.Machine.execDirSum u s
  | .jbeaconCycle => Sys2Proof.Machine.execJbeaconCycle s
  | .jbeacon f => Sys2Proof.Machine.execJbeacon f s
  | .foreignRunReset att => Sys2Proof.Machine.execForeignRunReset att s
  | .mergeAbandon => Sys2Proof.Machine.execMergeAbandon s
  | .jlist f => Sys2Proof.Machine.execJlist f s
  | .jreport u => Sys2Proof.Machine.execJreport u s
  | .jsend u => Sys2Proof.Machine.execJsend u s
  | .jdecide f => Sys2Proof.Machine.execJdecide f s
  | .jack f => Sys2Proof.Machine.execJack f s
  | .jdecideTimeout => Sys2Proof.Machine.execJdecideTimeout s
  | .dataSetDeclare by_ w value => Sys2Proof.Machine.execDataSetDeclare by_ w value s
  | .subscriptionRangeWrite by_ w value => Sys2Proof.Machine.execSubscriptionRangeWrite by_ w value s
  | .viewWrite by_ e w value => Sys2Proof.Machine.execViewWrite by_ e w value s
  | .sigAssemblyPass entry => Sys2Proof.Machine.execSigAssemblyPass entry s
  | .signalDataSet d => Sys2Proof.Machine.execSignalDataSet d s
  | .sigApply => Sys2Proof.Machine.execSigApply s
  | .gatewaySend group => Sys2Proof.Machine.execGatewaySend group s
  | .hostSubmit by_ value => Sys2Proof.Machine.execHostSubmit by_ value s
  | .msgSeg u => Sys2Proof.Machine.execMsgSeg u s
  | .msgAck u => Sys2Proof.Machine.execMsgAck u s
  | .msgProbe u => Sys2Proof.Machine.execMsgProbe u s
  | .probeTimer flow => Sys2Proof.Machine.execProbeTimer flow s
  | .retransmitTimeout flow seq => Sys2Proof.Machine.execRetransmitTimeout flow seq s
  | .messageHanding inflow => Sys2Proof.Machine.execMessageHanding inflow s
  | .msgHget by_ => Sys2Proof.Machine.execMsgHget by_ s
  | .msgHack by_ => Sys2Proof.Machine.execMsgHack by_ s
  | .msgHwdr by_ value => Sys2Proof.Machine.execMsgHwdr by_ value s
  | .lifetimeExpiry flow seq => Sys2Proof.Machine.execLifetimeExpiry flow seq s
  | .lifetimePersist => Sys2Proof.Machine.execLifetimePersist s
  | .partialDiscard inflow seq => Sys2Proof.Machine.execPartialDiscard inflow seq s
  | .orphanTimeout flow seq => Sys2Proof.Machine.execOrphanTimeout flow seq s
  | .journalRingWrite => Sys2Proof.Machine.execJournalRingWrite s
  | .journalRestore => Sys2Proof.Machine.execJournalRestore s
  | .audioBlockClose tx => Sys2Proof.Machine.execAudioBlockClose tx s
  | .audioBlock d => Sys2Proof.Machine.execAudioBlock d s
  | .txEntryEnable by_ value => Sys2Proof.Machine.execTxEntryEnable by_ value s
  | .rxEntryEnable by_ value => Sys2Proof.Machine.execRxEntryEnable by_ value s
  | .audMix => Sys2Proof.Machine.execAudMix s
  | .concealMute rx => Sys2Proof.Machine.execConcealMute rx s
  | .audXwWrite by_ value => Sys2Proof.Machine.execAudXwWrite by_ value s
  | .zoneCommit by_ => Sys2Proof.Machine.execZoneCommit by_ s
  | .ancGapEnd zone noise => Sys2Proof.Machine.execAncGapEnd zone noise s
  | .ancHold zone => Sys2Proof.Machine.execAncHold zone s
  | .echoDivergence ec => Sys2Proof.Machine.execEchoDivergence ec s
  | .ecBurst by_ ec => Sys2Proof.Machine.execEcBurst by_ ec s
  | .burstEnd ec erle => Sys2Proof.Machine.execBurstEnd ec erle s
  | .generatorStart by_ value => Sys2Proof.Machine.execGeneratorStart by_ value s
  | .generatorRunEnd gen => Sys2Proof.Machine.execGeneratorRunEnd gen s
  | .generatorStop by_ value => Sys2Proof.Machine.execGeneratorStop by_ value s
  | .clipCopy by_ => Sys2Proof.Machine.execClipCopy by_ s
  | .clipCopyDone => Sys2Proof.Machine.execClipCopyDone s
  | .audAligned => Sys2Proof.Machine.execAudAligned s
  | .slewEnd => Sys2Proof.Machine.execSlewEnd s
  | .audDisable by_ => Sys2Proof.Machine.execAudDisable by_ s
  | .start by_ e => Sys2Proof.Machine.execStart by_ e s
  | .startClean by_ e => Sys2Proof.Machine.execStartClean by_ e s
  | .stop by_ e => Sys2Proof.Machine.execStop by_ e s
  | .cycleStart e => Sys2Proof.Machine.execCycleStart e s
  | .watchdogOverrun e => Sys2Proof.Machine.execWatchdogOverrun e s
  | .syncQueue chan => Sys2Proof.Machine.execSyncQueue chan s
  | .syncWithdraw chan => Sys2Proof.Machine.execSyncWithdraw chan s
  | .inputWindowClose chan => Sys2Proof.Machine.execInputWindowClose chan s
  | .syncGroupWrite by_ e value => Sys2Proof.Machine.execSyncGroupWrite by_ e value s
  | .forceEntryWrite by_ w value => Sys2Proof.Machine.execForceEntryWrite by_ w value s
  | .forceClearall by_ => Sys2Proof.Machine.execForceClearall by_ s
  | .dmemAllocate by_ value => Sys2Proof.Machine.execDmemAllocate by_ value s
  | .dmemFree by_ value => Sys2Proof.Machine.execDmemFree by_ value s
  | .timerAllocate by_ value => Sys2Proof.Machine.execTimerAllocate by_ value s
  | .timerFree by_ value => Sys2Proof.Machine.execTimerFree by_ value s
  | .edgeAllocate by_ value => Sys2Proof.Machine.execEdgeAllocate by_ value s
  | .edgeFree by_ value => Sys2Proof.Machine.execEdgeFree by_ value s
  | .illegalInstruction e word => Sys2Proof.Machine.execIllegalInstruction e word s
  | .add e rd ra rb => Sys2Proof.Machine.execAdd e rd ra rb s
  | .sub e rd ra rb => Sys2Proof.Machine.execSub e rd ra rb s
  | .and e rd ra rb => Sys2Proof.Machine.execAnd e rd ra rb s
  | .or e rd ra rb => Sys2Proof.Machine.execOr e rd ra rb s
  | .xor e rd ra rb => Sys2Proof.Machine.execXor e rd ra rb s
  | .nor e rd ra rb => Sys2Proof.Machine.execNor e rd ra rb s
  | .slt e rd ra rb => Sys2Proof.Machine.execSlt e rd ra rb s
  | .sltu e rd ra rb => Sys2Proof.Machine.execSltu e rd ra rb s
  | .sll e rd ra rb => Sys2Proof.Machine.execSll e rd ra rb s
  | .srl e rd ra rb => Sys2Proof.Machine.execSrl e rd ra rb s
  | .sra e rd ra rb => Sys2Proof.Machine.execSra e rd ra rb s
  | .slli e rd ra sh => Sys2Proof.Machine.execSlli e rd ra sh s
  | .srli e rd ra sh => Sys2Proof.Machine.execSrli e rd ra sh s
  | .srai e rd ra sh => Sys2Proof.Machine.execSrai e rd ra sh s
  | .mul e rd ra rb => Sys2Proof.Machine.execMul e rd ra rb s
  | .mulh e rd ra rb => Sys2Proof.Machine.execMulh e rd ra rb s
  | .mulhu e rd ra rb => Sys2Proof.Machine.execMulhu e rd ra rb s
  | .div e rd ra rb => Sys2Proof.Machine.execDiv e rd ra rb s
  | .divu e rd ra rb => Sys2Proof.Machine.execDivu e rd ra rb s
  | .rem e rd ra rb => Sys2Proof.Machine.execRem e rd ra rb s
  | .remu e rd ra rb => Sys2Proof.Machine.execRemu e rd ra rb s
  | .min e rd ra rb => Sys2Proof.Machine.execMin e rd ra rb s
  | .max e rd ra rb => Sys2Proof.Machine.execMax e rd ra rb s
  | .minu e rd ra rb => Sys2Proof.Machine.execMinu e rd ra rb s
  | .maxu e rd ra rb => Sys2Proof.Machine.execMaxu e rd ra rb s
  | .clz e rd ra => Sys2Proof.Machine.execClz e rd ra s
  | .addi e rd ra imm => Sys2Proof.Machine.execAddi e rd ra imm s
  | .andi e rd ra imm => Sys2Proof.Machine.execAndi e rd ra imm s
  | .ori e rd ra imm => Sys2Proof.Machine.execOri e rd ra imm s
  | .xori e rd ra imm => Sys2Proof.Machine.execXori e rd ra imm s
  | .slti e rd ra imm => Sys2Proof.Machine.execSlti e rd ra imm s
  | .sltiu e rd ra imm => Sys2Proof.Machine.execSltiu e rd ra imm s
  | .lui e rd imm => Sys2Proof.Machine.execLui e rd imm s
  | .addpc e rd imm => Sys2Proof.Machine.execAddpc e rd imm s
  | .ldB e rd ra imm => Sys2Proof.Machine.execLdB e rd ra imm s
  | .ldBu e rd ra imm => Sys2Proof.Machine.execLdBu e rd ra imm s
  | .ldH e rd ra imm => Sys2Proof.Machine.execLdH e rd ra imm s
  | .ldHu e rd ra imm => Sys2Proof.Machine.execLdHu e rd ra imm s
  | .ldW e rd ra imm => Sys2Proof.Machine.execLdW e rd ra imm s
  | .stB e rd ra imm => Sys2Proof.Machine.execStB e rd ra imm s
  | .stH e rd ra imm => Sys2Proof.Machine.execStH e rd ra imm s
  | .stW e rd ra imm => Sys2Proof.Machine.execStW e rd ra imm s
  | .b e off => Sys2Proof.Machine.execB e off s
  | .call e off => Sys2Proof.Machine.execCall e off s
  | .beq e x y off => Sys2Proof.Machine.execBeq e x y off s
  | .bne e x y off => Sys2Proof.Machine.execBne e x y off s
  | .blt e x y off => Sys2Proof.Machine.execBlt e x y off s
  | .bge e x y off => Sys2Proof.Machine.execBge e x y off s
  | .bltu e x y off => Sys2Proof.Machine.execBltu e x y off s
  | .bgeu e x y off => Sys2Proof.Machine.execBgeu e x y off s
  | .ret e ra => Sys2Proof.Machine.execRet e ra s
  | .callr e ra => Sys2Proof.Machine.execCallr e ra s
  | .pget e rd ra imm => Sys2Proof.Machine.execPget e rd ra imm s
  | .pstat e rd ra imm => Sys2Proof.Machine.execPstat e rd ra imm s
  | .pput e rd ra imm => Sys2Proof.Machine.execPput e rd ra imm s
  | .ton e rd ra rb cell => Sys2Proof.Machine.execTon e rd ra rb cell s
  | .tof e rd ra rb cell => Sys2Proof.Machine.execTof e rd ra rb cell s
  | .tpl e rd ra rb cell => Sys2Proof.Machine.execTpl e rd ra rb cell s
  | .ctu e rd ra rb cell => Sys2Proof.Machine.execCtu e rd ra rb cell s
  | .ctd e rd ra rb cell => Sys2Proof.Machine.execCtd e rd ra rb cell s
  | .tval e rd cell => Sys2Proof.Machine.execTval e rd cell s
  | .edr e rd ra cell => Sys2Proof.Machine.execEdr e rd ra cell s
  | .edf e rd ra cell => Sys2Proof.Machine.execEdf e rd ra cell s
  | .qput e rd ra rb => Sys2Proof.Machine.execQput e rd ra rb s
  | .qget e rd queue => Sys2Proof.Machine.execQget e rd queue s
  | .qack e rd queue => Sys2Proof.Machine.execQack e rd queue s
  | .qwdr e rd ra rb => Sys2Proof.Machine.execQwdr e rd ra rb s
  | .trd e rd base => Sys2Proof.Machine.execTrd e rd base s
  | .tln e rd ra rb => Sys2Proof.Machine.execTln e rd ra rb s
  | .aroute e rd ra rb => Sys2Proof.Machine.execAroute e rd ra rb s
  | .again e rd ra rb => Sys2Proof.Machine.execAgain e rd ra rb s
  | .gust e rd cls => Sys2Proof.Machine.execGust e rd cls s
  | .calm e rd ra => Sys2Proof.Machine.execCalm e rd ra s
  | .cyc e => Sys2Proof.Machine.execCyc e s
  | .fence e => Sys2Proof.Machine.execFence e s
  | .halt e => Sys2Proof.Machine.execHalt e s
  | .crc32 e rd ra rb => Sys2Proof.Machine.execCrc32 e rd ra rb s
  | .recTrg e rd ra trigger => Sys2Proof.Machine.execRecTrg e rd ra trigger s
  | .rsr e rd sel => Sys2Proof.Machine.execRsr e rd sel s
  | .pexLoad by_ => Sys2Proof.Machine.execPexLoad by_ s
  | .loadVerifyDone => Sys2Proof.Machine.execLoadVerifyDone s
  | .pexArm by_ => Sys2Proof.Machine.execPexArm by_ s
  | .pexAbort by_ => Sys2Proof.Machine.execPexAbort by_ s
  | .swapCopy => Sys2Proof.Machine.execSwapCopy s
  | .swapDone => Sys2Proof.Machine.execSwapDone s
  | .pexWaitTimeout => Sys2Proof.Machine.execPexWaitTimeout s
  | .standbyAckTimeout => Sys2Proof.Machine.execStandbyAckTimeout s
  | .patch by_ value => Sys2Proof.Machine.execPatch by_ value s
  | .patchApply => Sys2Proof.Machine.execPatchApply s
  | .pairEnable by_ => Sys2Proof.Machine.execPairEnable by_ s
  | .pairDisable by_ => Sys2Proof.Machine.execPairDisable by_ s
  | .hb f => Sys2Proof.Machine.execHb f s
  | .echo f => Sys2Proof.Machine.execEcho f s
  | .neg f => Sys2Proof.Machine.execNeg f s
  | .jrnl f => Sys2Proof.Machine.execJrnl f s
  | .delta f => Sys2Proof.Machine.execDelta f s
  | .mark f => Sys2Proof.Machine.execMark f s
  | .snap f => Sys2Proof.Machine.execSnap f s
  | .linkLockLoss => Sys2Proof.Machine.execLinkLockLoss s
  | .linkRetransmit => Sys2Proof.Machine.execLinkRetransmit s
  | .linkOutOfService => Sys2Proof.Machine.execLinkOutOfService s
  | .heartbeatTick => Sys2Proof.Machine.execHeartbeatTick s
  | .negTimeout => Sys2Proof.Machine.execNegTimeout s
  | .assume => Sys2Proof.Machine.execAssume s
  | .lossDeclaration => Sys2Proof.Machine.execLossDeclaration s
  | .fenceTimeout => Sys2Proof.Machine.execFenceTimeout s
  | .partnerLost => Sys2Proof.Machine.execPartnerLost s
  | .handover by_ => Sys2Proof.Machine.execHandover by_ s
  | .handoverMark => Sys2Proof.Machine.execHandoverMark s
  | .holdwaitTimeout => Sys2Proof.Machine.execHoldwaitTimeout s
  | .rehearse by_ => Sys2Proof.Machine.execRehearse by_ s
  | .probationFail cause => Sys2Proof.Machine.execProbationFail cause s
  | .probationEnd => Sys2Proof.Machine.execProbationEnd s
  | .pairBist by_ => Sys2Proof.Machine.execPairBist by_ s
  | .bistDone failed => Sys2Proof.Machine.execBistDone failed s
  | .clearsuspect by_ => Sys2Proof.Machine.execClearsuspect by_ s
  | .pairResync by_ => Sys2Proof.Machine.execPairResync by_ s
  | .syncComplete => Sys2Proof.Machine.execSyncComplete s
  | .resynclong => Sys2Proof.Machine.execResynclong s
  | .pwrHreq by_ value => Sys2Proof.Machine.execPwrHreq by_ value s
  | .pwrHcalm by_ value => Sys2Proof.Machine.execPwrHcalm by_ value s
  | .gustQueueGrant => Sys2Proof.Machine.execGustQueueGrant s
  | .budgetWrite by_ value => Sys2Proof.Machine.execBudgetWrite by_ value s
  | .gustMaxhold handle => Sys2Proof.Machine.execGustMaxhold handle s
  | .pwrMonWrite by_ value => Sys2Proof.Machine.execPwrMonWrite by_ value s
  | .pwrLock by_ => Sys2Proof.Machine.execPwrLock by_ s
  | .supplyWarning millivolt => Sys2Proof.Machine.execSupplyWarning millivolt s
  | .supplyReset millivolt => Sys2Proof.Machine.execSupplyReset millivolt s
  | .supplyRecovering millivolt => Sys2Proof.Machine.execSupplyRecovering millivolt s
  | .supplyNormal lowest => Sys2Proof.Machine.execSupplyNormal lowest s
  | .powerFailFlushDone => Sys2Proof.Machine.execPowerFailFlushDone s
  | .lullRing by_ => Sys2Proof.Machine.execLullRing by_ s
  | .lullAbortCmd by_ => Sys2Proof.Machine.execLullAbortCmd by_ s
  | .lullEnterCmd by_ => Sys2Proof.Machine.execLullEnterCmd by_ s
  | .lullToken u => Sys2Proof.Machine.execLullToken u s
  | .lullReply u => Sys2Proof.Machine.execLullReply u s
  | .lullReplyTimeout => Sys2Proof.Machine.execLullReplyTimeout s
  | .voteChange by_ value => Sys2Proof.Machine.execVoteChange by_ value s
  | .lullCommit args => Sys2Proof.Machine.execLullCommit args s
  | .lullAbort args => Sys2Proof.Machine.execLullAbort args s
  | .lullEntryStart => Sys2Proof.Machine.execLullEntryStart s
  | .lullFailsafe => Sys2Proof.Machine.execLullFailsafe s
  | .canstbAck by_ value => Sys2Proof.Machine.execCanstbAck by_ value s
  | .canstbFailsafe => Sys2Proof.Machine.execCanstbFailsafe s
  | .canrel by_ value => Sys2Proof.Machine.execCanrel by_ value s
  | .wakeEvent src => Sys2Proof.Machine.execWakeEvent src s
  | .wakeReq f => Sys2Proof.Machine.execWakeReq f s
  | .latchedWakeRise => Sys2Proof.Machine.execLatchedWakeRise s
  | .squallRequest by_ => Sys2Proof.Machine.execSquallRequest by_ s
  | .squall args => Sys2Proof.Machine.execSquall args s
  | .squallEmit => Sys2Proof.Machine.execSquallEmit s
  | .squallRecognized att windows => Sys2Proof.Machine.execSquallRecognized att windows s
  | .timeSnap by_ => Sys2Proof.Machine.execTimeSnap by_ s
  | .utcset by_ value => Sys2Proof.Machine.execUtcset by_ value s
  | .ptpstep by_ value => Sys2Proof.Machine.execPtpstep by_ value s
  | .ptpStepApply => Sys2Proof.Machine.execPtpStepApply s
  | .launchHand index => Sys2Proof.Machine.execLaunchHand index s
  | .launchFire index => Sys2Proof.Machine.execLaunchFire index s
  | .lcancel by_ value => Sys2Proof.Machine.execLcancel by_ value s
  | .baseWrap base => Sys2Proof.Machine.execBaseWrap base s
  | .ptpEventFrame f => Sys2Proof.Machine.execPtpEventFrame f s
  | .twoStepTimeout port => Sys2Proof.Machine.execTwoStepTimeout port s
  | .pallocAllocate by_ value => Sys2Proof.Machine.execPallocAllocate by_ value s
  | .pallocFree by_ value => Sys2Proof.Machine.execPallocFree by_ value s
  | .canReady by_ value => Sys2Proof.Machine.execCanReady by_ value s
  | .canAck by_ value => Sys2Proof.Machine.execCanAck by_ value s
  | .canAbort by_ value => Sys2Proof.Machine.execCanAbort by_ value s
  | .canArm by_ value => Sys2Proof.Machine.execCanArm by_ value s
  | .canRecover by_ chan => Sys2Proof.Machine.execCanRecover by_ chan s
  | .canAbortall by_ chan => Sys2Proof.Machine.execCanAbortall by_ chan s
  | .canArbitrationWin chan => Sys2Proof.Machine.execCanArbitrationWin chan s
  | .canTxEnd chan r => Sys2Proof.Machine.execCanTxEnd chan r s
  | .canFrameReceive chan f => Sys2Proof.Machine.execCanFrameReceive chan f s
  | .canBusoffRecovered chan => Sys2Proof.Machine.execCanBusoffRecovered chan s
  | .canSleep by_ chan => Sys2Proof.Machine.execCanSleep by_ chan s
  | .canResume by_ chan => Sys2Proof.Machine.execCanResume by_ chan s
  | .ethFrameReceive r => Sys2Proof.Machine.execEthFrameReceive r s
  | .txkick by_ => Sys2Proof.Machine.execTxkick by_ s
  | .mgmtDatagram src srcPort dstPort payload => Sys2Proof.Machine.execMgmtDatagram src srcPort dstPort payload s
  | .arpRefresh entry => Sys2Proof.Machine.execArpRefresh entry s
  | .addressAgeing mac => Sys2Proof.Machine.execAddressAgeing mac s
  | .mdioRead by_ value => Sys2Proof.Machine.execMdioRead by_ value s
  | .mdioWrite by_ value => Sys2Proof.Machine.execMdioWrite by_ value s
  | .mdioDone data => Sys2Proof.Machine.execMdioDone data s
  | .mdioPoll port reg1 => Sys2Proof.Machine.execMdioPoll port reg1 s
  | .linkChange port up speed anDone pcsFault => Sys2Proof.Machine.execLinkChange port up speed anDone pcsFault s
  | .tdmEnable by_ port value => Sys2Proof.Machine.execTdmEnable by_ port value s
  | .tdmDisable by_ port value => Sys2Proof.Machine.execTdmDisable by_ port value s
  | .tdmLockerr port ppm => Sys2Proof.Machine.execTdmLockerr port ppm s
  | .tdmLockRegain port ppm => Sys2Proof.Machine.execTdmLockRegain port ppm s
  | .qspiErase by_ ctl value => Sys2Proof.Machine.execQspiErase by_ ctl value s
  | .qspiEraseDone ctl devError => Sys2Proof.Machine.execQspiEraseDone ctl devError s
  | .qspiCopyRead by_ ctl value => Sys2Proof.Machine.execQspiCopyRead by_ ctl value s
  | .qspiCopyProgram by_ ctl value => Sys2Proof.Machine.execQspiCopyProgram by_ ctl value s
  | .qspiCopyDone ctl devError => Sys2Proof.Machine.execQspiCopyDone ctl devError s
  | .gpioInputChange pin level => Sys2Proof.Machine.execGpioInputChange pin level s
  | .gpioSet by_ value => Sys2Proof.Machine.execGpioSet by_ value s
  | .gpioClr by_ value => Sys2Proof.Machine.execGpioClr by_ value s
  | .gpioModeWrite by_ pin value => Sys2Proof.Machine.execGpioModeWrite by_ pin value s
  | .evrEnable by_ => Sys2Proof.Machine.execEvrEnable by_ s
  | .evrFlushCmd by_ => Sys2Proof.Machine.execEvrFlushCmd by_ s
  | .evrFlushDone => Sys2Proof.Machine.execEvrFlushDone s
  | .evrFormat by_ => Sys2Proof.Machine.execEvrFormat by_ s
  | .evrRead by_ => Sys2Proof.Machine.execEvrRead by_ s
  | .evrReadDone => Sys2Proof.Machine.execEvrReadDone s
  | .challengeIssue by_ => Sys2Proof.Machine.execChallengeIssue by_ s
  | .challengeExpiry => Sys2Proof.Machine.execChallengeExpiry s
  | .clear by_ => Sys2Proof.Machine.execClear by_ s
  | .collect by_ => Sys2Proof.Machine.execCollect by_ s
  | .snapshotAddressWrite by_ value => Sys2Proof.Machine.execSnapshotAddressWrite by_ value s
  | .barEnable by_ value => Sys2Proof.Machine.execBarEnable by_ value s
  | .canModeWrite by_ chan value => Sys2Proof.Machine.execCanModeWrite by_ chan value s
  | .flowOpen by_ inbound value => Sys2Proof.Machine.execFlowOpen by_ inbound value s
  | .echoCancellerEnable by_ ec value => Sys2Proof.Machine.execEchoCancellerEnable by_ ec value s
  | .candSend => Sys2Proof.Machine.execCandSend s
  | .ethFrameSent port ts => Sys2Proof.Machine.execEthFrameSent port ts s
  | .pllLock pll => Sys2Proof.Machine.execPllLock pll s
  | .linkLockRegain => Sys2Proof.Machine.execLinkLockRegain s

end Sys2Proof.Machine
end

