-- ==== Sys2Proof/Machine/Tick.lean ====
section
/-! DEFINITION. What happens with time while no command waits: one CLK_SYS period (2 ns) of the counters that only time drives
(14_time.md R518 to R520, R716; 13_lull_and_wake.md R514; 16_local_interfaces.md R587). -/

namespace Sys2Proof.Machine

/-- The RTC counts 2 ns: AON_RTCS holds whole seconds, and the fraction the rest (R514). It runs whatever the main rails and the resets do. -/
def Node.rtcTick (n : Node) : Node :=
  let f := n.lull.rtcNs + 2
  if f < 1000000000 then { n with lull := { n.lull with rtcNs := f } }
  else ({ n with lull := { n.lull with rtcNs := f - 1000000000 } } : Node).wr AON_RTCS.VALUE ((n.rd AON_RTCS.VALUE + 1) % 4294967296)

/-- One CLK_SYS period of the whole node (log entry 2). -/
def Node.idle (n : Node) : Node :=
  let n := n.rtcTick
  if !n.running then n else (upTo 4).foldl Node.tdmTick n.tick

end Sys2Proof.Machine
end

