-- ==== Sys2Proof/Safety.lean ====
section
/-! DEFINITION. The terms the statements use: what it is for a command to complete, to complete with an effect, and to leave the rest
alone. -/

namespace Sys2Proof.Machine

/-- Command `c` on `s` completes: the next state has `s`'s queue and a node that meets `P`. -/
def Does (c : Instr) (s : State) (P : Node → Prop) : Prop := ∃ m, exec c s = .next { s with node := m } ∧ P m

/-- Command `c` on `s` completes, and `m` is the node after it. -/
def Answers (c : Instr) (s : State) (m : Node) : Prop := exec c s = .next { s with node := m }

/-- Engine `e` runs, and the word at its program counter can be fetched (R368, R376, R381). -/
abbrev Fetches (n : Node) (e : Fin 8) : Prop :=
  n.running = true ∧ n.engSt e = 1 ∧ (n.pcOf e).toNat ≤ 0xFFFFC ∧ n.uceIn (n.bankBase + (n.pcOf e).toNat) 4 = false

/-- Nothing differs but what engine `e` holds of itself. -/
def OnlyEngine (e : Fin 8) (n m : Node) : Prop := { m with eng := n.eng } = n ∧ ∀ x : Nat, x ≠ e.val → m.engRun x = n.engRun x

/-- Galek instruction `c` of engine `e` writes `v` to `rd` (nothing where `rd` is g0) and goes on to the next word; no other register of
the engine and nothing else of the node changes. -/
def Computes (c : Instr) (s : State) (e : Fin 8) (rd : Reg) (v : Word) : Prop :=
  Does c s (fun m => m.g e rd = (if rd = 0 then 0 else v) ∧ (∀ r : Reg, r ≠ rd → m.g e r = s.node.g e r)
    ∧ m.pcOf e = s.node.pcOf e + 4 ∧ OnlyEngine e s.node m)

/-- Galek instruction `c` of engine `e` goes on at `t`; no register and nothing else of the node changes. -/
def Jumps (c : Instr) (s : State) (e : Fin 8) (t : Word) : Prop :=
  Does c s (fun m => m.pcOf e = t ∧ (∀ r : Reg, m.g e r = s.node.g e r) ∧ OnlyEngine e s.node m)

/-- Store `c` of engine `e` writes the bytes `bs` from `a` on, no other byte and no register, and goes on to the next word. -/
def StoresBytes (c : Instr) (s : State) (e : Fin 8) (a : Nat) (bs : List Byte) : Prop :=
  Does c s (fun m => (∀ i (h : i < bs.length), m.memByte (a + i) = bs[i])
    ∧ (∀ x, x < a ∨ a + bs.length ≤ x → m.memByte x = s.node.memByte x)
    ∧ m.pcOf e = s.node.pcOf e + 4 ∧ (∀ r : Reg, m.g e r = s.node.g e r) ∧ OnlyEngine e s.node { m with mem := s.node.mem, uce := s.node.uce })

/-- A cell as an execution leaves it: kind, stored input, Q, preset, shown value, and the start of a running timer in µs plus 1 (0: it does
not run). -/
structure CellAfter where
  kind : Nat
  inn : Bool
  q : Bool
  preset : Nat
  value : Nat
  start : Nat

/-- Instruction `c` of engine `e` executes timer cell `k`: the cell after it, Q in `rd`, and nothing else but the engine's next word and its
note that the cell is to be mirrored. -/
def ExecutesCell (c : Instr) (s : State) (e : Fin 8) (rd : Reg) (k : Nat) (x : CellAfter) : Prop :=
  Does c s (fun m => m.rd (TMR_TW0.KIND k) = x.kind ∧ m.on (TMR_TW0.IN k) = x.inn ∧ m.on (TMR_TW0.Q k) = x.q
    ∧ m.rd (TMR_TW1.PRESET k) = x.preset ∧ m.rd (TMR_TW2.VALUE k) = x.value ∧ Tab.get (fun _ => 0) m.cellStart k = x.start
    ∧ (∀ a, a ≠ (TMR_TW0.KIND k).addr → a ≠ (TMR_TW1.PRESET k).addr → a ≠ (TMR_TW2.VALUE k).addr → m.reg a = s.node.reg a)
    ∧ (∀ j, j ≠ k → Tab.get (fun _ => 0) m.cellStart j = Tab.get (fun _ => 0) s.node.cellStart j)
    ∧ m.g e rd = (if rd = 0 then 0 else if x.q then 1 else 0) ∧ (∀ r : Reg, r ≠ rd → m.g e r = s.node.g e r)
    ∧ m.pcOf e = s.node.pcOf e + 4 ∧ m.mem = s.node.mem)

/-- The saturating counter `f` has advanced by 1 from `n` to `m`. -/
def Counted (f : Field) (n m : Node) : Prop := m.rd f = min (n.rd f + 1) (2 ^ f.width - 1)

/-- R421, R423: frame `f` is good and of type `ty`: the link has lock, length, type and CRC-32 are right. -/
abbrev Node.goodFrame (n : Node) (f : PairRx) (ty : Nat) : Prop :=
  n.on PAIR_CTRL.EN = true ∧ n.pair.locked = true ∧ f.bytes.length = 16 + le f.bytes 2 2 ∧ le f.bytes 0 1 = ty
    ∧ le f.bytes (f.bytes.length - 4) 4 = crc32 (f.bytes.take (f.bytes.length - 4))

/-- The event words of the units with one instance, and the enable words that follow them (R684, R685 and the register tables). -/
def eventWords : List Nat := [0x400000C0, 0x400000C4, 0x40001060, 0x40001064, 0x400020C0, 0x400020C4, 0x40003060, 0x40003064, 0x400050C0, 0x400050C4,
  0x400070C0, 0x400070C4, 0x40018060, 0x40018064, 0x40020070, 0x40020074, 0x40024060, 0x40024064, 0x40028140, 0x40028144, 0x4002C140, 0x4002C144,
  0x4003C060, 0x4003C064, 0x400401C0, 0x400401C4, 0x400600C0, 0x400600C4, 0x400700C0, 0x400700C4]

/-- R122, R128: contention frame `f` is good and of type `ty`: length, CRC and tag are right. -/
abbrev Node.goodCont (n : Node) (f : ContRx) (ty : Nat) : Prop := n.checkCont f.bytes = .good ∧ le f.bytes 0 1 = ty

/-- The rows that act on a node held in reset: the resets themselves, the release, and what AON alone hears (R456, R457, R467, R487, R641). -/
def Instr.actsHeld : Instr → Bool
  | .vddAonPor => true
  | .mainRailPor _ => true
  | .nreset _ => true
  | .supplyReset _ => true
  | .resetRelease _ => true
  | .wakeEvent _ => true
  | .latchedWakeRise => true
  | .squallRecognized _ _ => true
  | _ => false

/-- The node of `s` is held in reset and as `n0` is, but for the RTC's count; no command that could change that waits. -/
def HeldAs (n0 : Node) (s : State) : Prop :=
  s.node.boot.held = true ∧ (∀ c, c ∈ s.pending → Instr.actsHeld c = false) ∧ (∀ a, a ≠ AON_RTCS.VALUE.addr → s.node.reg a = n0.reg a)
    ∧ { s.node with regs := n0.regs, lull := { s.node.lull with rtcNs := n0.lull.rtcNs } } = n0

end Sys2Proof.Machine
end

