-- ==== Sys2Proof/Certificates/Slice0/Obligations.lean ====
section
/-! DEFINITION. The statements for the provers. -/

open Sys2Proof Sys2Proof.Machine

/-! ### Galek: registers -/

/-- R382, R383: the register and immediate instructions: each writes what its row of the table says to `rd`; the divisions by a divisor other than 0,
rounded toward zero, the remainder with the sign of `ra`. -/
def Obligations.RegisterInstructions : Prop :=
  ∀ (s : State) (e : Fin 8) (rd ra rb : Reg) (sh : BitVec 5) (imm : BitVec 16), Fetches s.node e →
    let a := s.node.g e ra
    let b := s.node.g e rb
    let k := b.toNat % 32
    Computes (.add e rd ra rb) s e rd (BitVec.ofNat 32 (a.toNat + b.toNat))
    ∧ Computes (.sub e rd ra rb) s e rd (BitVec.ofInt 32 (a.toInt - b.toInt))
    ∧ Computes (.and e rd ra rb) s e rd (a &&& b)
    ∧ Computes (.or e rd ra rb) s e rd (a ||| b)
    ∧ Computes (.xor e rd ra rb) s e rd (a ^^^ b)
    ∧ Computes (.nor e rd ra rb) s e rd (~~~ (a ||| b))
    ∧ Computes (.slt e rd ra rb) s e rd (if a.toInt < b.toInt then 1 else 0)
    ∧ Computes (.sltu e rd ra rb) s e rd (if a.toNat < b.toNat then 1 else 0)
    ∧ Computes (.sll e rd ra rb) s e rd (BitVec.ofNat 32 (a.toNat * 2 ^ k))
    ∧ Computes (.srl e rd ra rb) s e rd (BitVec.ofNat 32 (a.toNat / 2 ^ k))
    ∧ Computes (.sra e rd ra rb) s e rd (BitVec.ofInt 32 (a.toInt / 2 ^ k))
    ∧ Computes (.mul e rd ra rb) s e rd (BitVec.ofNat 32 (a.toNat * b.toNat))
    ∧ Computes (.mulh e rd ra rb) s e rd (BitVec.ofInt 32 (a.toInt * b.toInt / 4294967296))
    ∧ Computes (.mulhu e rd ra rb) s e rd (BitVec.ofNat 32 (a.toNat * b.toNat / 4294967296))
    ∧ Computes (.min e rd ra rb) s e rd (if a.toInt < b.toInt then a else b)
    ∧ Computes (.max e rd ra rb) s e rd (if a.toInt < b.toInt then b else a)
    ∧ Computes (.minu e rd ra rb) s e rd (if a.toNat < b.toNat then a else b)
    ∧ Computes (.maxu e rd ra rb) s e rd (if a.toNat < b.toNat then b else a)
    ∧ (b ≠ 0 →
        Computes (.div e rd ra rb) s e rd (BitVec.ofInt 32 (a.toInt.tdiv b.toInt))
        ∧ Computes (.divu e rd ra rb) s e rd (BitVec.ofNat 32 (a.toNat / b.toNat))
        ∧ Computes (.rem e rd ra rb) s e rd (BitVec.ofInt 32 (a.toInt.tmod b.toInt))
        ∧ Computes (.remu e rd ra rb) s e rd (BitVec.ofNat 32 (a.toNat % b.toNat)))
    ∧ Computes (.slli e rd ra sh) s e rd (BitVec.ofNat 32 (a.toNat * 2 ^ sh.toNat))
    ∧ Computes (.srli e rd ra sh) s e rd (BitVec.ofNat 32 (a.toNat / 2 ^ sh.toNat))
    ∧ Computes (.srai e rd ra sh) s e rd (BitVec.ofInt 32 (a.toInt / 2 ^ sh.toNat))
    ∧ Computes (.clz e rd ra) s e rd (BitVec.ofNat 32 (32 - a.toNat.size))
    ∧ Computes (.addi e rd ra imm) s e rd (BitVec.ofInt 32 (a.toInt + imm.toInt))
    ∧ Computes (.andi e rd ra imm) s e rd (a &&& BitVec.ofNat 32 imm.toNat)
    ∧ Computes (.ori e rd ra imm) s e rd (a ||| BitVec.ofNat 32 imm.toNat)
    ∧ Computes (.xori e rd ra imm) s e rd (a ^^^ BitVec.ofNat 32 imm.toNat)
    ∧ Computes (.slti e rd ra imm) s e rd (if a.toInt < imm.toInt then 1 else 0)
    ∧ Computes (.sltiu e rd ra imm) s e rd (if a.toNat < imm.toNat then 1 else 0)
    ∧ Computes (.lui e rd imm) s e rd (BitVec.ofNat 32 (imm.toNat * 65536))
    ∧ Computes (.addpc e rd imm) s e rd (BitVec.ofInt 32 (s.node.bankBase + (s.node.pcOf e).toInt + imm.toInt))

/-! ### Galek: memory and control flow -/

/-- R384, R370, R677, R23, R349: loads from SRAM of a word that can be read and stores that the engine may make; a word load of a register gives what
it reads as and changes nothing, but for the two registers that a read acts on. -/
def Obligations.LoadsAndStores : Prop :=
  ∀ (s : State) (e : Fin 8) (rd ra : Reg) (imm : BitVec 16), Fetches s.node e →
    let a := (s.node.g e ra + imm.signExtend 32).toNat
    let b := s.node.memByte
    let v := (s.node.g e rd).toNat
    (isSram a = true →
      (s.node.uceIn a 1 = false → Computes (.ldB e rd ra imm) s e rd ((b a).signExtend 32) ∧ Computes (.ldBu e rd ra imm) s e rd ((b a).setWidth 32))
      ∧ (a % 2 = 0 → s.node.uceIn a 2 = false → Computes (.ldH e rd ra imm) s e rd ((b (a + 1) ++ b a).signExtend 32)
          ∧ Computes (.ldHu e rd ra imm) s e rd ((b (a + 1) ++ b a).setWidth 32))
      ∧ (a % 4 = 0 → s.node.uceIn a 4 = false → Computes (.ldW e rd ra imm) s e rd (b (a + 3) ++ b (a + 2) ++ b (a + 1) ++ b a)))
    ∧ (isReg a = true → inBlock a = true → (specOf a).isSome = true → a % 4 = 0 → a ≠ MSG_HGET.DESC.addr → a ≠ EVR_CLRCHAL_LO.VALUE.addr →
      Computes (.ldW e rd ra imm) s e rd (s.node.look a))
    ∧ (s.node.sramMay (.eng e) a 1 = true → s.node.uceIn a 1 = false → StoresBytes (.stB e rd ra imm) s e a (leBytes 1 v))
    ∧ (s.node.sramMay (.eng e) a 2 = true → a % 2 = 0 → s.node.uceIn a 2 = false → StoresBytes (.stH e rd ra imm) s e a (leBytes 2 v))
    ∧ (s.node.sramMay (.eng e) a 4 = true → a % 4 = 0 → s.node.uceIn a 4 = false → StoresBytes (.stW e rd ra imm) s e a (leBytes 4 v))

/-- R385, R371: branches, taken by signed words from the instruction itself; calls and returns: g31 takes the address after the call, as a code
offset. -/
def Obligations.ControlFlow : Prop :=
  ∀ (s : State) (e : Fin 8) (x y ra : Reg) (off : BitVec 16) (off21 : BitVec 21), Fetches s.node e →
    let a := s.node.g e x
    let b := s.node.g e y
    let t := s.node.g e ra
    let pc := s.node.pcOf e
    let taken := pc + BitVec.ofInt 32 (4 * off.toInt)
    let Links := fun (c : Instr) (t : Word) => Does c s (fun m => m.pcOf e = t ∧ m.g e 31 = pc + 4
      ∧ (∀ r : Reg, r ≠ 31 → m.g e r = s.node.g e r) ∧ OnlyEngine e s.node m)
    Jumps (.b e off21) s e (pc + BitVec.ofInt 32 (4 * off21.toInt))
    ∧ Jumps (.beq e x y off) s e (if a = b then taken else pc + 4)
    ∧ Jumps (.bne e x y off) s e (if a ≠ b then taken else pc + 4)
    ∧ Jumps (.blt e x y off) s e (if a.toInt < b.toInt then taken else pc + 4)
    ∧ Jumps (.bge e x y off) s e (if b.toInt ≤ a.toInt then taken else pc + 4)
    ∧ Jumps (.bltu e x y off) s e (if a.toNat < b.toNat then taken else pc + 4)
    ∧ Jumps (.bgeu e x y off) s e (if b.toNat ≤ a.toNat then taken else pc + 4)
    ∧ Links (.call e off21) (pc + BitVec.ofInt 32 (4 * off21.toInt))
    ∧ (t.toNat ≤ 0xFFFFF → t.toNat % 4 = 0 → Jumps (.ret e ra) s e t ∧ Links (.callr e ra) t)

/-! ### Galek: process image, timers, edges -/

/-- R386, R217, R219: PGET and PSTAT read the two words of an entry in the view; PPUT puts its value in the output shadow alone. -/
def Obligations.ProcessImage : Prop :=
  ∀ (s : State) (e : Fin 8) (rd ra : Reg) (imm : BitVec 16), Fetches s.node e →
    let i := (s.node.g e ra + imm.setWidth 32).toNat
    let first := s.node.rd (SIG_VIEWA.FIRST e)
    let entry := 0x20200000 + 8 * s.node.rd (SIG_VIEWC.DEST e) + 8 * (i - first)
    let old := (s.node.engRun e).shadow
    (s.node.rd (SIG_VIEWB.COUNT e) ≠ 0 → s.node.on (SIG_VIEWD.VIEWERR e) = false → first ≤ i → i < first + s.node.rd (SIG_VIEWB.COUNT e) →
      (s.node.uceIn entry 4 = false → Computes (.pget e rd ra imm) s e rd (BitVec.ofNat 32 (s.node.memLe entry 4)))
      ∧ (s.node.uceIn (entry + 4) 4 = false → Computes (.pstat e rd ra imm) s e rd (BitVec.ofNat 32 (s.node.memLe (entry + 4) 4))))
    ∧ (i ≤ 65535 → s.node.ownsEntry e i = true → (old.length < 2048 ∨ old.any (fun p => p.1 = i) = true) →
        Does (.pput e rd ra imm) s (fun m =>
          (m.engRun e).shadow.find? (fun p => p.1 = i) = some (i, s.node.g e rd)
          ∧ (∀ j, j ≠ i → (m.engRun e).shadow.find? (fun p => p.1 = j) = old.find? (fun p => p.1 = j))
          ∧ m.pcOf e = s.node.pcOf e + 4 ∧ (∀ r : Reg, m.g e r = s.node.g e r) ∧ OnlyEngine e s.node m))

/-- R387, R388: the three timers on a cell of the engine, new or of their kind: TON starts with IN and shows the time since, TOF starts when
IN falls, TPL starts when IN rises and runs its time; each shows at most its preset.
R388, R389: the two counters count rises of CU or CD and take their reset or load from bit 1 of `ra`; TVAL reads what a cell shows;
EDR and EDF tell a rise and a fall against the stored input. -/
def Obligations.TimersCountersEdges : Prop :=
  (∀ (s : State) (e : Fin 8) (rd ra rb : Reg) (cell : BitVec 12), Fetches s.node e →
      let k := cell.toNat
      let inn := (s.node.g e ra).getLsbD 0
      let pt := (s.node.g e rb).toNat
      let us := s.node.now / 1000
      let start := Tab.get (fun _ => 0) s.node.cellStart k
      let run := min (us - (start - 1)) pt
      let prev := s.node.on (TMR_TW0.IN k)
      let shown := s.node.rd (TMR_TW2.VALUE k)
      let kind := s.node.rd (TMR_TW0.KIND k)
      s.node.timerOwner k = some e.val →
        (kind = 0 ∨ kind = 1 → ExecutesCell (.ton e rd ra rb cell) s e rd k
          (if !inn then ⟨1, false, false, pt, 0, 0⟩
           else if start = 0 then ⟨1, true, pt = 0, pt, 0, us + 1⟩
           else ⟨1, true, pt ≤ run, pt, run, start⟩))
        ∧ (kind = 0 ∨ kind = 2 → ExecutesCell (.tof e rd ra rb cell) s e rd k
          (if inn then ⟨2, true, true, pt, 0, 0⟩
           else if prev then ⟨2, false, 0 < pt, pt, 0, us + 1⟩
           else if start = 0 then ⟨2, false, false, pt, shown, 0⟩
           else ⟨2, false, run < pt, pt, run, start⟩))
        ∧ (kind = 0 ∨ kind = 3 → ExecutesCell (.tpl e rd ra rb cell) s e rd k
          (if start = 0 then
             (if inn && !prev then ⟨3, true, 0 < pt, pt, 0, if 0 < pt then us + 1 else 0⟩ else ⟨3, inn, false, pt, if inn then shown else 0, 0⟩)
           else ⟨3, inn, run < pt, pt, run, if run < pt then start else 0⟩)))
  ∧ (∀ (s : State) (e : Fin 8) (rd ra rb : Reg) (cell : BitVec 12) (edge : BitVec 13), Fetches s.node e →
      let k := cell.toNat
      let inn := (s.node.g e ra).getLsbD 0
      let rst := (s.node.g e ra).getLsbD 1
      let pt := (s.node.g e rb).toNat
      let rise := inn && !s.node.on (TMR_TW0.IN k)
      let cv := s.node.rd (TMR_TW2.VALUE k)
      let kind := s.node.rd (TMR_TW0.KIND k)
      let up := if rst then 0 else if rise && decide (cv < 0xFFFFFFFF) then cv + 1 else cv
      let down := if rst then pt else if rise && decide (0 < cv) then cv - 1 else cv
      let prev := s.node.on (TMR_EW.PREV edge.toNat)
      let Edge := fun (c : Instr) (q : Bool) => Does c s (fun m => m.on (TMR_EW.PREV edge.toNat) = inn
        ∧ m.g e rd = (if rd = 0 then 0 else if q then 1 else 0) ∧ (∀ r : Reg, r ≠ rd → m.g e r = s.node.g e r)
        ∧ (∀ a, a ≠ (TMR_EW.PREV edge.toNat).addr → m.reg a = s.node.reg a) ∧ m.pcOf e = s.node.pcOf e + 4 ∧ m.mem = s.node.mem)
      (s.node.timerOwner k = some e.val →
        (kind = 0 ∨ kind = 4 → ExecutesCell (.ctu e rd ra rb cell) s e rd k ⟨4, inn, pt ≤ up, pt, up, 0⟩)
        ∧ (kind = 0 ∨ kind = 5 → ExecutesCell (.ctd e rd ra rb cell) s e rd k ⟨5, inn, down = 0, pt, down, 0⟩)
        ∧ Computes (.tval e rd cell) s e rd (s.node.elapsed k))
      ∧ (s.node.edgeOwner edge.toNat = some e.val → Edge (.edr e rd ra edge) (inn && !prev) ∧ Edge (.edf e rd ra edge) (!inn && prev)))

/-! ### Galek: messages, time, audio, power leave, system -/

/-- R390, R391, R242: a QPUT whose block and buffer can be read: on SUBMITTED the message waits for its acceptance, the sequence advances,
and the registers take the code and the sequence; a refusal leaves the flow as it is. -/
def Obligations.Submission : Prop :=
  ∀ (s : State) (e : Fin 8) (rd ra rb : Reg), Fetches s.node e →
    let n := s.node
    let a := (n.g e ra).toNat
    let w := fun (i : Nat) => n.memLe (a + 4 * i) 4
    let f := w 0 % 256
    let len := w 0 / 65536 % 8192
    let code := n.submitCode e f len (w 2 % 134217728) (w 3)
    let seq := n.rd (MSG_OFW4.NEXTSEQ f)
    a % 4 = 0 → inBuffers a 16 = true → n.uceIn a 16 = false → n.uceIn (w 1) len = false →
      (len = 0 ∨ 4096 < len ∨ inBuffers (w 1) len = true) →
      (code = 0 → Does (.qput e rd ra rb) s (fun m => m.g e rd = 0 ∧ (rb ≠ rd → rb ≠ 0 → m.g e rb = BitVec.ofNat 32 seq)
          ∧ (m.outMsgs f).map (·.seq) = (n.outMsgs f).map (·.seq) ++ [seq] ∧ m.rd (MSG_OFW4.NEXTSEQ f) = seqAdd seq 1
          ∧ m.msg.accq = n.msg.accq ++ [.outbound f seq] ∧ m.pcOf e = n.pcOf e + 4))
      ∧ (code ≠ 0 → Does (.qput e rd ra rb) s (fun m => (rd ≠ 0 → m.g e rd = BitVec.ofNat 32 code) ∧ (rb ≠ rd → m.g e rb = 0)
          ∧ m.outMsgs f = n.outMsgs f ∧ m.rd (MSG_OFW4.NEXTSEQ f) = seq ∧ m.pcOf e = n.pcOf e + 4))

/-- R390, R260, R263: QGET reads the next unread descriptor, QACK notes an acknowledgement for CYC, QWDR starts a kill of a message that no
destination holds. -/
def Obligations.QueueInstructions : Prop :=
  ∀ (s : State) (e : Fin 8) (rd ra rb : Reg) (q : Fin 16), Fetches s.node e →
    let n := s.node
    let l := n.dq q
    let read := (l.filter (·.read)).length
    let given := (n.msg.qacks.filter (fun x => x = (e.val, q.val))).length
    let f := (n.g e ra).toNat % 256
    let seq := (n.g e rb).toNat
    let kind := n.rd (MSG_OFW0.DKIND f)
    (n.rd (MSG_DQ.OWNER q) = e.val →
      (16 ≤ read ∨ l.length ≤ read → Computes (.qget e rd q) s e rd 0)
      ∧ (read < 16 → read < l.length → Does (.qget e rd q) s (fun m =>
          (rd ≠ 0 → m.g e rd = BitVec.ofNat 32 (dqAddr q (Tab.get (fun _ => 0) n.msg.qHead q + read)))
          ∧ (m.dq q)[read]? = l[read]?.map (fun d => { d with read := true }) ∧ (∀ i, i ≠ read → (m.dq q)[i]? = l[i]?)
          ∧ m.pcOf e = n.pcOf e + 4))
      ∧ (n.rd (MSG_DQ.READ q) ≤ given → Computes (.qack e rd q) s e rd 1)
      ∧ (given < n.rd (MSG_DQ.READ q) → Does (.qack e rd q) s (fun m => m.msg.qacks = n.msg.qacks ++ [(e.val, q.val)]
          ∧ m.g e rd = 0 ∧ m.dq q = l ∧ m.regs = n.regs ∧ m.pcOf e = n.pcOf e + 4)))
    ∧ ((kind ≠ 1 ∧ kind ≠ 2) ∨ n.rd (MSG_OFW0.OWNER f) ≠ e.val → Computes (.qwdr e rd ra rb) s e rd 1)
    ∧ (kind = 1 ∨ kind = 2 → n.rd (MSG_OFW0.OWNER f) = e.val →
        ((n.outMsgs f).find? (fun m => m.seq = seq && m.accepted && !m.reported) = none → Computes (.qwdr e rd ra rb) s e rd 10)
        ∧ (∀ x, (n.outMsgs f).find? (fun m => m.seq = seq && m.accepted && !m.reported) = some x →
            x.killing = false → x.transmitted = true → x.held = 0 → x.delivered = 0 → memberBits (n.members f) ≠ 0 →
            Does (.qwdr e rd ra rb) s (fun m => m.g e rd = 0 ∧ m.msg.probes = n.msg.probes ++ [(f, seq, true)]
              ∧ m.outMsgs f = (n.outMsgs f).map (fun y => if y.seq = seq then { y with cause := some .withdrawn, killing := true, lastProbe := n.cycle }
                  else y))))

/-- R392, R393: TRD reads a time base; TLN takes a launch of a target the engine holds; AROUTE and AGAIN queue a change of a crosspoint's
bits. -/
def Obligations.TimeAndAudioInstructions : Prop :=
  ∀ (s : State) (e : Fin 8) (rd ra rb : Reg) (base : Fin 4), Fetches s.node e →
    let n := s.node
    let w := (n.g e ra).toNat
    let v := n.g e rb
    let l : Launch := ⟨w / 1048576 % 4, v, w / 65536 % 16, w % 65536, e, false, false⟩
    let xp := 384 * (w / 65536 % 128) + w % 512
    let Queues := fun (c : Instr) (mask : Word) => Does c s (fun m => m.aud.queue = n.aud.queue ++ [(xp, mask, v)] ∧ m.g e rd = 0
      ∧ (∀ r : Reg, r ≠ rd → m.g e r = n.g e r) ∧ m.pcOf e = n.pcOf e + 4)
    Computes (.trd e rd base) s e rd
      (if base = 0 then n.time.train else if base = 1 then n.time.ptp else if base = 2 then BitVec.ofNat 32 n.now else n.time.utc)
    ∧ (n.holdsTarget e l.kind l.index = false → Computes (.tln e rd ra rb) s e rd 1)
    ∧ (n.holdsTarget e l.kind l.index = true → 256 ≤ n.time.launches.length → Computes (.tln e rd ra rb) s e rd 2)
    ∧ (n.holdsTarget e l.kind l.index = true → n.time.launches.length < 256 → 20000 ≤ n.ahead l →
        Does (.tln e rd ra rb) s (fun m => m.time.launches = n.time.launches ++ [l] ∧ m.rd TIME_LQ.PENDING = n.time.launches.length + 1
          ∧ m.g e rd = 0 ∧ m.pcOf e = n.pcOf e + 4))
    ∧ (w % 512 < 384 → Queues (.aroute e rd ra rb) 0x8001FC00 ∧ Queues (.again e rd ra rb) 0x3FF)
    ∧ (384 ≤ w % 512 → Computes (.aroute e rd ra rb) s e rd 1 ∧ Computes (.again e rd ra rb) s e rd 1)

/-- R394, R326, R329, R378, R395: FENCE goes on; CRC32 continues a CRC over bytes; CYC ends the cycle; HALT halts; REC asks for a record;
on an enabled trigger of kind 2 it stages one record when
the recorder is recording, nothing is held off or missed and staging stays below its flush mark (R620); RSR reads by selector. -/
def Obligations.SystemInstructions : Prop :=
  ∀ (s : State) (e : Fin 8) (rd ra rb : Reg) (trigger : Fin 64), Fetches s.node e →
    let n := s.node
    let a := (n.g e ra).toNat
    let len := (n.g e rb).toNat
    Jumps (.fence e) s e (n.pcOf e + 4)
    ∧ (len = 0 → Jumps (.crc32 e rd ra rb) s e (n.pcOf e + 4))
    ∧ (len ≠ 0 → oneRegion a len = true → n.uceIn a len = false →
        Computes (.crc32 e rd ra rb) s e rd (BitVec.ofNat 32 (crcOn (n.g e rd).toNat (n.memBytes a len))))
    ∧ Does (.cyc e) s (fun m => m.engSt e = (if n.on (ENG_STATUS.STOPPEND e) then 0 else if n.engHolds e then 3 else 2)
        ∧ (m.engRun e).shadow = [] ∧ m.on (ENG_STATUS.STOPPEND e) = false)
    ∧ (n.pexArmed = false → Does (.halt e) s (fun m => m.engSt e = 4 ∧ (m.engRun e).shadow = [] ∧ (m.engRun e).gpioMask = 0
        ∧ (∀ r : Reg, m.g e r = n.g e r)))
    ∧ (n.on (EVR_TW0.EN trigger) = false ∨ n.rd (EVR_TW0.KIND trigger) ≠ 2 → Computes (.recTrg e rd ra trigger) s e rd 1)
    ∧ (n.on (EVR_TW0.EN trigger) = true → n.rd (EVR_TW0.KIND trigger) = 2 → n.rd EVR_STATUS.STATE = 0 →
        Computes (.recTrg e rd ra trigger) s e rd 2)
    ∧ Computes (.rsr e rd 0) s e rd (BitVec.ofNat 32 e.val)
    ∧ Computes (.rsr e rd 1) s e rd (BitVec.ofNat 32 (n.rd (ENG_CNT_CYCLES.VALUE e)))
    ∧ Computes (.rsr e rd 2) s e rd (BitVec.ofNat 32 ((n.engRun e).start.getD 0))
    ∧ Computes (.rsr e rd 3) s e rd (n.engRun e).viewGen
    ∧ Computes (.rsr e rd 4) s e rd (n.engRun e).viewCyc
    ∧ Computes (.rsr e rd 5) s e rd (BitVec.ofNat 32 (n.rd PEX_STATUS.BANK))
    ∧ (n.on (EVR_TW0.EN trigger) = true → n.rd (EVR_TW0.KIND trigger) = 2 → n.rd EVR_STATUS.STATE = 2 → n.evr.held = false →
        Tab.get (fun _ => 0) n.evr.lastFired trigger.val = 0 → n.evr.lossCount = 0 → n.on (EVR_TW0.FLUSH trigger) = false →
        stagedBytes n.evr.unflushed + 1024 ≤ 49152 → n.evr.unflushed.length < 700 → n.evrSeq + 1 < 18446744073709551616 →
        Does (.recTrg e rd ra trigger) s (fun m => m.g e rd = 0 ∧ m.evrSeq = n.evrSeq + 1
          ∧ m.evr.unflushed.length = n.evr.unflushed.length + 1 ∧ m.pcOf e = n.pcOf e + 4))

/-! ### Power leave and the supply -/

/-- R462, R392, R482: a request for a gust of class `c` that passes rule 1: granted at once when it fits and nothing waits, else queued where
the class queues and there is room; a refused one changes no handle. GUST asks for an engine, PWR_HREQ for the host.
R462, R392, R482: a gust handed back by its holder leaves the table, and G when it was granted; a handle not held is error 1 and changes
nothing. -/
def Obligations.GustRequestsAndReturns : Prop :=
  (∀ (s : State) (e : Fin 8) (rd : Reg) (cls : BitVec 8) (by_ : Initiator) (v : Word) (h : Nat),
      let n := s.node
      let c := cls.toNat
      let fits := n.rd PWR_BUDGET.GRANTED + n.rd (PWR_CLASS.COST (c - 1)) ≤ n.rd PWR_BUDGET.BUDGET
      let Granted := fun (owner : Nat) (m : Node) => m.rd (PWR_GH.STATE h) = 1 ∧ m.rd (PWR_GH.CLASS h) = c ∧ m.rd (PWR_GH.OWNER h) = owner
        ∧ m.rd PWR_BUDGET.GRANTED = n.rd PWR_BUDGET.GRANTED + n.rd (PWR_CLASS.COST (c - 1)) ∧ m.pwr.queue = n.pwr.queue
      let Queued := fun (owner : Nat) (m : Node) => m.rd (PWR_GH.STATE h) = 2 ∧ m.rd (PWR_GH.CLASS h) = c ∧ m.rd (PWR_GH.OWNER h) = owner
        ∧ m.rd PWR_BUDGET.GRANTED = n.rd PWR_BUDGET.GRANTED ∧ m.pwr.queue = n.pwr.queue ++ [h]
      let Refused := fun (m : Node) => (∀ x, x < 256 → m.rd (PWR_GH.STATE x) = n.rd (PWR_GH.STATE x)) ∧ m.rd PWR_BUDGET.GRANTED = n.rd PWR_BUDGET.GRANTED
        ∧ m.pwr.queue = n.pwr.queue
      (Fetches n e →
        (n.gustRefused c = true → Does (.gust e rd cls) s (fun m => m.g e rd = 0 ∧ Refused m))
        ∧ (n.gustRefused c = false → n.freeHandle = some h →
          (n.pwr.queue = [] → fits → Does (.gust e rd cls) s (fun m => (rd ≠ 0 → m.g e rd = BitVec.ofNat 32 (h + 256)) ∧ Granted e m))
          ∧ (n.pwr.queue ≠ [] ∨ ¬ fits → n.on (PWR_CLASS.POLICY (c - 1)) = true → n.pwr.queue.length < 32 →
              Does (.gust e rd cls) s (fun m => (rd ≠ 0 → m.g e rd = BitVec.ofNat 32 (h + 512)) ∧ Queued e m))))
      ∧ (n.running = true → v.getLsbD 31 = true → v.toNat % 256 = c →
        (n.gustRefused c = true → Does (.pwrHreq by_ v) s (fun m => m.rd PWR_HRES.RESULT = 0 ∧ Refused m))
        ∧ (n.gustRefused c = false → n.freeHandle = some h →
          (n.pwr.queue = [] → fits → Does (.pwrHreq by_ v) s (fun m => m.rd PWR_HRES.HANDLE = h ∧ m.rd PWR_HRES.RESULT = 1 ∧ Granted 8 m))
          ∧ (n.pwr.queue ≠ [] ∨ ¬ fits → n.on (PWR_CLASS.POLICY (c - 1)) = true → n.pwr.queue.length < 32 →
              Does (.pwrHreq by_ v) s (fun m => m.rd PWR_HRES.HANDLE = h ∧ m.rd PWR_HRES.RESULT = 2 ∧ Queued 8 m)))))
  ∧ (∀ (s : State) (e : Fin 8) (rd ra : Reg) (by_ : Initiator) (v : Word) (h : Fin 255),
      let n := s.node
      let st := n.rd (PWR_GH.STATE h)
      let Freed := fun (m : Node) => m.rd (PWR_GH.STATE h) = 0
        ∧ m.rd PWR_BUDGET.GRANTED = n.rd PWR_BUDGET.GRANTED - (if st = 1 then n.rd (PWR_CLASS.COST (n.rd (PWR_GH.CLASS h) - 1)) else 0)
        ∧ (st = 2 → m.pwr.queue = n.pwr.queue.filter (· ≠ h.val))
      (Fetches n e → (n.g e ra).toNat % 256 = h →
        (h.val = 0 ∨ st = 0 ∨ n.rd (PWR_GH.OWNER h) ≠ e → Computes (.calm e rd ra) s e rd 1)
        ∧ (h.val ≠ 0 → st ≠ 0 → n.rd (PWR_GH.OWNER h) = e → Does (.calm e rd ra) s (fun m => m.g e rd = 0 ∧ Freed m)))
      ∧ (n.running = true → v.toNat % 256 = h →
        (h.val = 0 ∨ st = 0 ∨ n.rd (PWR_GH.OWNER h) ≠ 8 → Answers (.pwrHcalm by_ v) s (n.wr PWR_HCALM.ERR 1))
        ∧ (h.val ≠ 0 → st ≠ 0 → n.rd (PWR_GH.OWNER h) = 8 → Does (.pwrHcalm by_ v) s (fun m => m.rd PWR_HCALM.ERR = 0 ∧ Freed m))))

/-- R462, R463, R464: the governor's own acts: the head of the queue that fits is granted; a new budget takes effect at once unless locked;
a granted gust held for its class's MAXHOLD is revoked and its handle stays. -/
def Obligations.GustGovernor : Prop :=
  ∀ (s : State) (h : Fin 255) (rest : List Nat) (by_ : Initiator) (v : Word), s.node.running = true →
    let n := s.node
    let c := n.rd (PWR_GH.CLASS h)
    let cost := n.rd (PWR_CLASS.COST (c - 1))
    (n.pwr.queue = [h.val] → n.rd PWR_STATUS.STATE = 0 → n.rd PWR_BUDGET.GRANTED + cost ≤ n.rd PWR_BUDGET.BUDGET →
        n.rd (PWR_CLASS.COST 7) + cost ≤ n.rd PWR_BUDGET.BUDGET →
        Does .gustQueueGrant s (fun m => m.rd (PWR_GH.STATE h) = 1 ∧ m.rd (PWR_GH.CLASS h) = c ∧ m.pwr.queue = [] ∧ m.rd PWR_STATUS.QUEUED = 0
          ∧ m.rd PWR_BUDGET.GRANTED = n.rd PWR_BUDGET.GRANTED + cost))
    ∧ (n.pwr.queue = h.val :: rest → n.rd PWR_BUDGET.BUDGET < n.rd PWR_BUDGET.GRANTED + cost → Answers .gustQueueGrant s n)
    ∧ Does (.budgetWrite by_ v) s (fun m => m.rd PWR_BUDGET.BUDGET = (if n.on PWR_CTRL.LOCK then n.rd PWR_BUDGET.BUDGET else v.toNat % 1024)
        ∧ m.rd PWR_BUDGET.GRANTED = n.rd PWR_BUDGET.GRANTED ∧ m.pwr = n.pwr)
    ∧ (n.rd (PWR_GH.STATE h) = 1 → 1 ≤ c → c ≤ 6 → n.rd (PWR_CLASS.MAXHOLD (c - 1)) ≠ 0 →
        Does (.gustMaxhold ⟨h.val, by omega⟩) s (fun m => m.rd (PWR_GH.STATE h) = 3 ∧ m.rd PWR_BUDGET.GRANTED = n.rd PWR_BUDGET.GRANTED - cost))

/-- R467 to R471, R475, R476, R478, R479: the monitor's levels: a reset level less than 50 mV below the warning level is refused with LEVELERR, and LOCK keeps
the levels and the budget; a counted crossing of the warning level enters WARNING with the flush asked for and the shed actions in force; the
flush's end clears FLUSHING; the rising crossing enters RECOVERING, and the way back to NORMAL ends the shed actions. -/
def Obligations.SupplyMonitor : Prop :=
  ∀ (s : State) (by_ : Initiator) (v : Word) (mv : Nat),
    let n := s.node
    let warn := min 40 (v.toNat % 64)
    let reset := min 40 (v.toNat / 256 % 64)
    (n.running = true →
      (n.on PWR_CTRL.LOCK = false → reset + 5 ≤ warn →
          Does (.pwrMonWrite by_ v) s (fun m => m.reg PWR_MON.WARN.addr = v &&& 0x0F0F3F3F ∧ m.on PWR_STATUS.LEVELERR = false
            ∧ (∀ a, a ≠ PWR_MON.WARN.addr → a ≠ PWR_STATUS.LEVELERR.addr → m.reg a = n.reg a)))
      ∧ (n.on PWR_CTRL.LOCK = false → warn < reset + 5 → Does (.pwrMonWrite by_ v) s (fun m => m.on PWR_STATUS.LEVELERR = true
            ∧ m.on PWR_EVT.LEVELERR = true ∧ m.reg PWR_MON.WARN.addr = n.reg PWR_MON.WARN.addr))
      ∧ (n.on PWR_CTRL.LOCK = true → Answers (.pwrMonWrite by_ v) s n ∧ Answers (.budgetWrite by_ v) s n)
      ∧ Does (.pwrLock by_) s (fun m => m.on PWR_CTRL.LOCK = true ∧ (∀ a, a ≠ PWR_CTRL.LOCK.addr → m.reg a = n.reg a) ∧ m.mem = n.mem))
    ∧ (n.boot.held = false → n.rd PWR_STATUS.STATE ≠ 1 → Does (.supplyWarning mv) s (fun m => m.rd PWR_STATUS.STATE = 1
        ∧ m.on PWR_STATUS.BELOW = true ∧ m.on PWR_STATUS.SHED = true ∧ m.on PWR_STATUS.FLUSHING = true ∧ m.on PWR_STATUS.FLUSHED = false
        ∧ m.on MSG_STATUS.POWERHOLD = true ∧ m.on PWR_EVT.WARN = true))
    ∧ (n.boot.held = false → n.rd PWR_STATUS.STATE = 1 → Does (.supplyRecovering mv) s (fun m => m.rd PWR_STATUS.STATE = 2
        ∧ m.on PWR_STATUS.BELOW = false ∧ m.on PWR_STATUS.SHED = n.on PWR_STATUS.SHED))
    ∧ (n.boot.held = false → n.rd PWR_STATUS.STATE = 2 → Does (.supplyNormal mv) s (fun m => m.rd PWR_STATUS.STATE = 0
        ∧ m.on PWR_STATUS.SHED = false ∧ m.on MSG_STATUS.POWERHOLD = false ∧ m.on PWR_EVT.RECOVER = true
        ∧ m.rd PWR_DIPLAST.VALUE = sat 32 ((n.pwr.riseAt - n.pwr.dipStart.getD n.pwr.riseAt) / 1000)))
    ∧ (n.running = true → n.on PWR_STATUS.FLUSHING = true → Does .powerFailFlushDone s (fun m => m.on PWR_STATUS.FLUSHING = false
        ∧ m.on PWR_STATUS.FLUSHED = true))

/-! ### Reset and start-up -/

/-- R641, R679, R456, R467, R681: what each reset leaves: the node held, every register outside the always-on class at its reset word, SRAM
empty, the QSPI devices and OTP as they were; a VDD_AON POR resets AON too. -/
def Obligations.ResetLeaves : Prop :=
  ∀ (s : State) (ns mv : Nat) (detectors : BitVec 7) (by_ : Initiator),
    let n := s.node
    let Held := fun (m : Node) => m.boot.held = true ∧ m.mem = [] ∧ m.qboot = n.qboot ∧ m.qper = n.qper ∧ m.otp = n.otp
    let Main := fun (m : Node) => Held m ∧ ∀ a, alwaysOn a = false → m.reg a = resetWord a
    Does .vddAonPor s (fun m => Held m ∧ ∀ a, a ≠ AON_WSRC.FIRST.addr → m.reg a = resetWord a)
    ∧ (n.lull.asleep = false →
        (detectors ≠ 0 → Does (.mainRailPor detectors) s (fun m => Main m ∧ m.rd PWR_PORSRC.VALUE = detectors.toNat))
        ∧ (1000 ≤ ns → Does (.nreset ns) s Main) ∧ Does (.supplyReset mv) s Main)
    ∧ (n.running = true → (by_ = .host ∨ by_ = .agent → Does (.swrst by_) s Main)
        ∧ (by_ ≠ .host → by_ ≠ .agent → Answers (.swrst by_) s (n.count SYS_CNT_SWRSTIGN.VALUE)))

/-- R642, R643, R651: with BOOT1 high and BOOT0 low, no device answering and nothing found wrong, the released node runs and waits for the
host with cause 12; SYS_BOOTCTL.GO from the host then checks the host image, fails with cause 10, or runs it. -/
def Obligations.HostBoot : Prop :=
  ∀ (s : State) (b : BootInput),
    let n := s.node
    (n.boot.held = true → n.lull.asleep = false → n.boot.shortHold = false → n.qspi = {} →
      b.boot1 = true → b.boot0 = false → b.bootSize = none → b.perSize = none → b.romUce = false → b.bistBad = none →
      Does (.resetRelease b) s (fun m => m.running = true ∧ m.on SYS_STATUS.HOSTWAIT = true ∧ m.rd SYS_BOOTSTAT0.CAUSE = 12
        ∧ m.rd SYS_BOOTCTL.BOOT = 2 ∧ m.rd OTP_UID_LO.VALUE = n.otpWord 0 ∧ m.on OTP_STATUS.READY = true))
    ∧ (n.running = true → n.on SYS_STATUS.HOSTWAIT = true →
        let code := n.checkImage n.bankBase 1048576 false
        (code = 0 → Answers (.bootctlGo .host) s ((n.wr SYS_BOOTSTAT0.HOST 15).runImage 3))
        ∧ (code ≠ 0 → Does (.bootctlGo .host) s (fun m => m.rd SYS_BOOTSTAT0.HOST = code % 16 ∧ m.rd SYS_BOOTSTAT0.CAUSE = 10
            ∧ m.on SYS_STATUS.BOOTFAIL = true ∧ m.on SYS_STATUS.HOSTWAIT = true)))

/-- R48, R612, R656, R657, R662, R663, R687, R688: a word is programmed once: the host port's GO on a word that may be programmed starts, any other word is
refused with result 1, and the end writes the word and clears BUSY; a lost lock clears its bit and counts; without PLL_SYS the logic on
CLK_SYS stands until it locks again. -/
def Obligations.OtpAndPlls : Prop :=
  ∀ (s : State) (k : Fin 4),
    let n := s.node
    let w := n.rd OTP_PADDR.WORD
    (n.running = true →
      (n.on OTP_STATUS.BUSY = false →
        (n.otpRefused w = true → Answers (.otpProgram .host) s (n.wr OTP_STATUS.RESULT 1))
        ∧ (n.otpRefused w = false → Answers (.otpProgram .host) s (n.wr OTP_STATUS.BUSY 1)))
      ∧ (n.otpDone w = true → n.otpRefused w = true) ∧ (w ≤ 1 → n.otpRefused w = true) ∧ (n.on OTP_LOCK.ALL = true → n.otpRefused w = true)
      ∧ (n.on OTP_STATUS.BUSY = true → Does (.otpProgramDone true) s (fun m => m.otpDone w = true ∧ m.otpWord w = n.rd OTP_PDATA.DATA
          ∧ m.on OTP_STATUS.BUSY = false ∧ m.rd OTP_STATUS.RESULT = 0 ∧ ∀ x, x ≠ w → m.otpWord x = n.otpWord x))
      ∧ Does .pllLineLock s (fun m => m.rd (pllBit 1) = 1 ∧ ∀ a, a ≠ (pllBit 1).addr → m.reg a = n.reg a))
    ∧ (n.boot.held = false →
      Does (.pllUnlock k) s (fun m => m.rd (pllBit k) = 0 ∧ m.on ⟨CLK_EVT.UNLOCK.addr, k, 1⟩ = true
          ∧ m.rd ⟨CLK_CNT_SYSUNLOCK.VALUE.addr + 4 * k, 0, 32⟩ = min (n.rd ⟨CLK_CNT_SYSUNLOCK.VALUE.addr + 4 * k, 0, 32⟩ + 1) 0xFFFFFFFF
          ∧ m.running = (if k = 0 then false else n.running))
      ∧ (k ≠ 1 → Does (.pllLock k) s (fun m => m.rd (pllBit k) = 1 ∧ (k = 0 → m.running = true)
          ∧ ∀ a, a ≠ (pllBit k).addr → m.reg a = n.reg a)))

/-! ### Cycle engines -/

/-- R325, R326, R328, R354, R404: START begins a cycle at the entry in STOPPED, HALTED, OVERRUN and FAULT, with CLEAN on cleared registers and
cells; an engine outside an armed swap group keeps its START; STOP takes effect in WAIT, and at the end of the cycle in RUN.
R327, R328, R356: the next cycle starts in WAIT when MINCYC has passed, and not while a sync sequence of the engine runs that it waits
for: at the entry, with empty shadows and the last cycle's length; otherwise nothing happens. -/
def Obligations.EngineRuns : Prop :=
  (∀ (s : State) (by_ : Initiator) (e : Fin 8), s.node.running = true →
      let n := s.node
      let Begun := fun (m : Node) => m.engSt e = 1 ∧ m.pcOf e = BitVec.ofNat 32 (n.rd (ENG_ENTRY.VALUE e) / 4 * 4) ∧ (m.engRun e).shadow = []
        ∧ (m.engRun e).gpioMask = 0 ∧ (m.engRun e).start = some n.now ∧ m.rd (ENG_CYCMAX.VALUE e) = 0 ∧ m.rd (ENG_RUNMAX.VALUE e) = 0
        ∧ m.on (ENG_STATUS.STOPPEND e) = false
      (n.engSt e = 0 ∨ 4 ≤ n.engSt e → n.rd PEX_STATUS.STATE < 5 →
        Does (.start by_ e) s (fun m => Begun m ∧ ∀ r : Reg, m.g e r = n.g e r)
        ∧ Does (.startClean by_ e) s (fun m => Begun m ∧ (∀ r : Reg, m.g e r = 0)
            ∧ (∀ c, c < 4096 → n.timerOwner c = some e.val → m.rd (TMR_TW0.KIND c) = 0 ∧ m.timerOwner c = some e.val
                ∧ Tab.get (fun _ => 0) m.cellStart c = 0)
            ∧ (∀ c, c < 8192 → n.edgeOwner c = some e.val → m.on (TMR_EW.PREV c) = false ∧ m.edgeOwner c = some e.val)))
      ∧ (n.rd PEX_STATUS.STATE = 5 → bit (n.rd PEX_GROUP.GROUP) e = false →
          Does (.start by_ e) s (fun m => (m.engRun e).heldStart = some false ∧ m.engSt e = n.engSt e)
          ∧ Does (.startClean by_ e) s (fun m => (m.engRun e).heldStart = some true ∧ m.engSt e = n.engSt e))
      ∧ (n.engSt e = 1 → Does (.stop by_ e) s (fun m => m.engSt e = 1 ∧ m.on (ENG_STATUS.STOPPEND e) = true ∧ m.pcOf e = n.pcOf e))
      ∧ (n.engSt e = 2 → Does (.stop by_ e) s (fun m => m.engSt e = 0 ∧ ∀ r : Reg, m.g e r = n.g e r)))
  ∧ (∀ (s : State) (e : Fin 8) (t : Nat), s.node.running = true → s.node.engSt e = 2 → (s.node.engRun e).start = some t →
      let n := s.node
      let due := t + 1000 * min 1000000 (n.rd (ENG_MINCYC.VALUE e)) ≤ n.now
      (due → n.on (ENG_SYNC.WAITIN e) = false ∨ n.seqRuns e = false →
        Does (.cycleStart e) s (fun m => m.engSt e = 1 ∧ m.pcOf e = BitVec.ofNat 32 (n.rd (ENG_ENTRY.VALUE e) / 4 * 4)
          ∧ (m.engRun e).shadow = [] ∧ (m.engRun e).gpioMask = 0 ∧ (m.engRun e).start = some n.now
          ∧ m.rd (ENG_CYCLAST.VALUE e) = sat 20 ((n.now - t) / 1000) ∧ (∀ r : Reg, m.g e r = n.g e r)))
      ∧ (¬ due ∨ (n.on (ENG_SYNC.WAITIN e) = true ∧ n.seqRuns e = true) → Answers (.cycleStart e) s n))

/-- R337, R338, R341, R374, R381, R368: OVERRUN and FAULT. The engine's cycle is discarded, STATUS takes the state, the cause and SAFE, FAULTPC
the address, FAULTADDR the data address where there is one, and its event is raised; its registers stay. A word of no table is cause 2, a misaligned word access 3, a program
counter past the bank 4, an address outside memory and registers 5, an entry outside the view 8, an entry not owned 7, a division by 0 13. -/
def Obligations.EngineFaults : Prop :=
  ∀ (s : State) (e : Fin 8) (rd ra rb : Reg) (imm : BitVec 16) (word : Word),
    let n := s.node
    let Trapped := fun (c : Instr) (cause addr : Nat) => Does c s (fun m => m.engSt e = (if cause = 1 then 5 else 6)
      ∧ m.rd (ENG_STATUS.CAUSE e) = cause ∧ m.on (ENG_STATUS.SAFE e) = true ∧ m.rd (ENG_FAULTADDR.VALUE e) = addr
      ∧ m.rd (ENG_FAULTPC.VALUE e) = (n.bankBase + (n.pcOf e).toNat) % 4294967296 ∧ (m.engRun e).shadow = [] ∧ (m.engRun e).gpioMask = 0
      ∧ m.on (if cause = 1 then ENG_EVT.OVERRUN e else ENG_EVT.FAULT e) = true ∧ (∀ r : Reg, m.g e r = n.g e r))
    let a := (n.g e ra + imm.signExtend 32).toNat
    let i := (n.g e ra + imm.setWidth 32).toNat
    n.pexArmed = false →
      (n.running = true → n.engSt e = 1 → Trapped (.watchdogOverrun e) 1 0
        ∧ (0xFFFFC < (n.pcOf e).toNat → Trapped (.add e rd ra rb) 4 0))
      ∧ (Fetches n e →
          (galekLegal word = false → Trapped (.illegalInstruction e word) 2 0)
          ∧ (a % 4 ≠ 0 → Trapped (.ldW e rd ra imm) 3 a ∧ Trapped (.stW e rd ra imm) 3 a)
          ∧ (a % 4 = 0 → isSram a = false → isReg a = false → Trapped (.ldW e rd ra imm) 5 a ∧ Trapped (.stW e rd ra imm) 5 a)
          ∧ (n.viewAddr e i 0 = none → Trapped (.pget e rd ra imm) 8 i)
          ∧ (n.ownsEntry e i = false → Trapped (.pput e rd ra imm) 7 i)
          ∧ (n.g e rb = 0 → Trapped (.div e rd ra rb) 13 0 ∧ Trapped (.remu e rd ra rb) 13 0))

/-- R332 to R334, R336: ENGn_SYNC leaves another engine's channels clear and says so; the SYNC frame is queued once the output phase ends, it
is withdrawn with ABANDON while it waits, and the sequence ends with its input window. -/
def Obligations.SyncSequences : Prop :=
  ∀ (s : State) (by_ : Initiator) (e c : Fin 8) (v : Word) (q : SyncRun), s.node.running = true →
    let n := s.node
    let taken := ((upTo 8).filter (· ≠ e.val)).foldl (fun (a : Nat) (k : Nat) => a ||| n.rd (ENG_SYNC.CHAN k)) 0
    Does (.syncGroupWrite by_ e v) s (fun m => m.rd (ENG_SYNC.CHAN e) = v.toNat % 256 - (v.toNat % 256 &&& taken)
        ∧ m.on (ENG_SYNC.EN e) = bit v.toNat 8 ∧ m.rd (ENG_SYNC.MISS e) = bits v.toNat 16 8
        ∧ (v.toNat % 256 &&& taken ≠ 0 → m.on (ENG_SYNCSTAT.SYNCERR e) = true))
    ∧ ((n.chan c).seq = some q →
        (q.phase = .output → Does (.syncQueue c) s (fun m => (m.chan c).seq = some { q with phase := .queued } ∧ m.regs = n.regs))
        ∧ (q.eng < 8 → (n.chan c).nextRel = none → q.phase = .output ∨ q.phase = .queued → Does (.syncWithdraw c) s (fun m => (m.chan c).seq = none
            ∧ m.on ⟨(ENG_SYNCSTAT.ABANDON q.eng).addr, 8 + c, 1⟩ = true))
        ∧ (q.phase = .window → (n.chan c).nextRel = none → Does (.inputWindowClose c) s (fun m => (m.chan c).seq = none)))

/-- R343, R345, R346: the host port writes a force entry and clears the table; the indications follow; an engine's write is ignored and
counted. -/
def Obligations.ForceTable : Prop :=
  ∀ (s : State) (e : Fin 8) (w : Fin 2) (v : Word), s.node.running = true →
    let n := s.node
    let f := n.rd ENG0_FSEL.ENTRY
    let Shown := fun (m : Node) => m.rd ENG0_FSTAT.ACTIVE = ((upTo 256).filter (fun k => m.on (ENG0_FW0.EN k))).length
      ∧ m.on SYS_STATUS.FORCED = decide (m.rd ENG0_FSTAT.ACTIVE ≠ 0)
    Does (.forceEntryWrite .host w v) s (fun m => m.reg (if w = 0 then (ENG0_FW0.EN f).addr else (ENG0_FW1.VALUE f).addr)
        = (if w = 0 then v &&& 0x8003FFFF else v) ∧ Shown m
        ∧ ∀ k, k < 256 → k ≠ f → m.reg (ENG0_FW0.EN k).addr = n.reg (ENG0_FW0.EN k).addr ∧ m.rd (ENG0_FW1.VALUE k) = n.rd (ENG0_FW1.VALUE k))
    ∧ Does (.forceClearall .host) s (fun m => Shown m ∧ ∀ k, k < 256 → m.reg (ENG0_FW0.EN k).addr = 0 ∧ m.rd (ENG0_FW1.VALUE k) = 0)
    ∧ Answers (.forceEntryWrite (.eng e) w v) s (n.count ENG0_FSTAT.FORCEWR)
    ∧ Answers (.forceClearall (.eng e)) s (n.count ENG0_FSTAT.FORCEWR)

/-- R347, R348, R350, R362, R364: DMEM pages, timer cells and edge cells. The result says what stands in the way, in its order; on 0 every
object of the run is the engine's, or free, and its use has moved by their number; otherwise no owner changes. -/
def Obligations.Allocation : Prop :=
  ∀ (s : State) (by_ : Initiator) (v : Word), s.node.running = true →
    let n := s.node
    let w := v.toNat
    let Allocates := fun (c : Instr) (res use : Field) (quota : Nat) (owner : Node → Nat → Option Nat) (first count top e : Nat) =>
      let code := if count = 0 then 5 else if top < first + count then 3 else if ∃ k, k < count ∧ owner n (first + k) ≠ none then 2
        else if quota < n.rd use + count then 1 else 0
      Does c s (fun m => m.rd res = code ∧ (code ≠ 0 → m.rd use = n.rd use ∧ ∀ k, k < top → owner m k = owner n k)
        ∧ (code = 0 → m.rd use = n.rd use + count
            ∧ ∀ k, k < top → owner m k = (if first ≤ k ∧ k < first + count then some e else owner n k)))
    let Frees := fun (c : Instr) (res use : Field) (owner : Node → Nat → Option Nat) (first count top e : Nat) =>
      let code := if count = 0 then 5 else if top < first + count then 3 else if ∃ k, k < count ∧ owner n (first + k) ≠ some e then 4 else 0
      Does c s (fun m => m.rd res = code ∧ (code ≠ 0 → m.rd use = n.rd use ∧ ∀ k, k < top → owner m k = owner n k)
        ∧ (code = 0 → m.rd use = n.rd use - count ∧ ∀ k, k < top → owner m k = (if first ≤ k ∧ k < first + count then none else owner n k)))
    let d := bits w 17 3
    let t := bits w 25 3
    let x := bits w 27 3
    Allocates (.dmemAllocate by_ v) ENG0_DRES.RESULT (ENG_QDMEM.USE d) (n.rd (ENG_QDMEM.QUOTA d)) Node.pageOwner (bits w 0 8) (bits w 8 9) 256 d
    ∧ Frees (.dmemFree by_ v) ENG0_DRES.RESULT (ENG_QDMEM.USE d) Node.pageOwner (bits w 0 8) (bits w 8 9) 256 d
    ∧ Allocates (.timerAllocate by_ v) TMR_TRES.RESULT (ENG_QTMR.USE t) (n.rd (ENG_QTMR.QUOTA t)) Node.timerOwner (bits w 0 12) (bits w 12 13) 4096 t
    ∧ Frees (.timerFree by_ v) TMR_TRES.RESULT (ENG_QTMR.USE t) Node.timerOwner (bits w 0 12) (bits w 12 13) 4096 t
    ∧ Allocates (.edgeAllocate by_ v) TMR_ERES.RESULT (ENG_QEDGE.USE x) (n.rd (ENG_QEDGE.QUOTA x)) Node.edgeOwner (bits w 0 13) (bits w 13 14) 8192 x
    ∧ Frees (.edgeFree by_ v) TMR_ERES.RESULT (ENG_QEDGE.USE x) Node.edgeOwner (bits w 0 13) (bits w 13 14) 8192 x

/-! ### Program exchange -/

/-- R399, R403, R410, R415: a load takes an idle unit to LOADING or VERIFYING and fills the inactive bank from QSPI_BOOT; verification ends
in VERIFIED or FAILED by the checks of the image; ARM answers the first code that applies, or arms; ABORT takes an armed swap back to
VERIFIED. With a synchronized partner whether it holds the image is open, so ARM may then also answer 6 (log entry 30). -/
def Obligations.ExchangeCommands : Prop :=
  ∀ (s : State) (by_ : Initiator) (e : Fin 8), s.node.running = true →
    let n := s.node
    let st := n.rd PEX_STATUS.STATE
    let src := n.rd PEX_LOAD.SRC
    let off := if src = 1 then n.qspi.sizeB / 2 else 0
    let found := n.checkImage n.otherBank (if st = 1 then n.qspi.sizeB / 2 else 1048576) false
    let code := if st ≠ 3 then 1 else if n.pex.mapFrom ≠ n.rd64 PEX_ACTHASH_LO.VALUE PEX_ACTHASH_HI.VALUE then 2
      else if (upTo 8).any (fun x => 1 ≤ n.engSt x && n.engSt x ≤ 3 && !bit (n.rd PEX_GROUP.GROUP) x) then 3
      else if n.pex.map.any n.rangeBad then 4 else if 65536 < n.pex.carried + n.pex.initialized then 5
      else if n.pex.patch.isSome then 7 else if n.rd PWR_STATUS.STATE ≠ 0 then 8 else 0
    let Armed := fun (m : Node) => m.rd PEX_STATUS.STATE = 5 ∧ m.rd PEX_STATUS.ERR = 0
      ∧ ∀ x, x < 8 → bit (m.rd PEX_GROUP.ARRIVED) x = (bit (n.rd PEX_GROUP.GROUP) x && (decide (n.engSt x = 0) || decide (4 ≤ n.engSt x)))
    let Refused := fun (c : Nat) (m : Node) => m.rd PEX_STATUS.ERR = c ∧ m.rd PEX_STATUS.STATE = st ∧ m.pex = n.pex
    (st = 0 ∨ st = 3 ∨ st = 4 →
      (src = 2 → Does (.pexLoad by_) s (fun m => m.rd PEX_STATUS.STATE = 2 ∧ m.mem = n.mem))
      ∧ (src ≠ 2 → Does (.pexLoad by_) s (fun m => m.rd PEX_STATUS.STATE = 1
          ∧ ∀ x, x < min (ofLe (n.flashBytes .boot (off + 8) 4)) 1048576 → m.memByte (n.otherBank + x) = n.flashByte .boot (off + x))))
    ∧ (st ≠ 0 → st ≠ 3 → st ≠ 4 → Answers (.pexLoad by_) s n)
    ∧ (st = 1 ∨ st = 2 →
      (found = 0 → Does .loadVerifyDone s (fun m => m.rd PEX_STATUS.STATE = 3
          ∧ m.rd64 PEX_NEWHASH_LO.VALUE PEX_NEWHASH_HI.VALUE = le (n.imgDigest n.otherBank) 0 8))
      ∧ (found ≠ 0 → Does .loadVerifyDone s (fun m => m.rd PEX_STATUS.STATE = 4 ∧ m.on PEX_EVT.VERIFYFAIL = true)))
    ∧ (n.on PAIR_STATUS.SYNC = false ∨ (1 ≤ code ∧ code ≤ 5) → (code = 0 → Does (.pexArm by_) s Armed) ∧ (code ≠ 0 → Does (.pexArm by_) s (Refused code)))
    ∧ (n.on PAIR_STATUS.SYNC = true → code = 0 ∨ 7 ≤ code → Does (.pexArm by_) s (fun m => (if code = 0 then Armed m else Refused code m) ∨ Refused 6 m))
    ∧ (st = 5 ∨ st = 6 → n.pair.handover = none → n.pex.patch = none → (n.engRun e).heldStart = none →
        Does (.pexAbort by_) s (fun m => m.rd PEX_STATUS.STATE = 3 ∧ m.rd PEX_STATUS.ERR = 11 ∧ m.rd PEX_GROUP.ARRIVED = 0 ∧ m.on PEX_EVT.ABORT = true
          ∧ m.engSt e = (if n.engSt e = 3 then 2 else n.engSt e)))
    ∧ (st ≠ 5 → st ≠ 6 → Answers (.pexAbort by_) s n)

/-- R406, R407, R409, R410, R411: with every engine of the group arrived the copy exchanges the banks and the hashes, clears the group's
registers and carries variables; its end leaves IDLE and releases the engines; a swap whose engines do not arrive in PEX_WAIT aborts with
code 9; a standby that does not acknowledge in time costs SYNC.
R412, R413: a patch of one word waits for its engines when it may write the word, and is refused otherwise; once they have stopped the
word is written and they are released; one whose engines do not stop in PEX_WAIT is given up. -/
def Obligations.SwapHoldAndPatch : Prop :=
  (∀ (s : State) (e : Fin 8) (r : CarryRec) (d : Nat), s.node.running = true →
      let n := s.node
      let st := n.rd PEX_STATUS.STATE
      let arrived := ∀ x, x < 8 → bit (n.rd PEX_GROUP.GROUP) x = true → bit (n.rd PEX_GROUP.ARRIVED) x = true
      let free := n.pair.handover = none ∧ n.pex.patch = none ∧ (n.engRun e).heldStart = none
      (st = 5 ∨ st = 6 → arrived → (∀ x, x ∈ n.pex.map → x.eng < 8 ∧ n.rangeBad x = false) → n.uce = [] →
        Does .swapCopy s (fun m => m.rd PEX_STATUS.STATE = 7 ∧ m.rd PEX_STATUS.BANK = 1 - n.rd PEX_STATUS.BANK
          ∧ m.rd PEX_ACTHASH_LO.VALUE = n.rd PEX_NEWHASH_LO.VALUE ∧ m.rd PEX_ACTHASH_HI.VALUE = n.rd PEX_NEWHASH_HI.VALUE
          ∧ m.rd PEX_NEWHASH_LO.VALUE = n.rd PEX_ACTHASH_LO.VALUE ∧ m.rd PEX_NEWHASH_HI.VALUE = n.rd PEX_ACTHASH_HI.VALUE
          ∧ (∀ g : Reg, m.g e g = (if bit (n.rd PEX_GROUP.GROUP) e then 0 else n.g e g))
          ∧ (n.pex.map = [r] → r.kind = 1 → r.lenB = r.lenA → m.memBytes r.b r.lenA = n.memBytes r.a r.lenA)))
      ∧ (st = 7 → n.pex.marker = none → free → Does .swapDone s (fun m => m.rd PEX_STATUS.STATE = 0 ∧ m.on PEX_STATUS.PATCHED = false
          ∧ m.rd PEX_SWAPCYC.VALUE = n.cycle ∧ m.on PEX_EVT.DONE = true
          ∧ m.rd PEX_HOLDLAST.VALUE = sat 16 ((n.now - n.pex.lastAt.getD n.now) / 100) ∧ m.engSt e = (if n.engSt e = 3 then 2 else n.engSt e)))
      ∧ (st = 5 ∨ st = 6 → ¬ arrived → free → Does .pexWaitTimeout s (fun m => m.rd PEX_STATUS.STATE = 3 ∧ m.rd PEX_STATUS.ERR = 9
          ∧ m.rd PEX_GROUP.ARRIVED = 0 ∧ m.on PEX_EVT.ABORT = true ∧ m.engSt e = (if n.engSt e = 3 then 2 else n.engSt e)))
      ∧ (n.pex.marker = some d → Does .standbyAckTimeout s (fun m => m.pex.marker = none ∧ m.on PEX_STATUS.STBYLATE = true
          ∧ m.on PEX_EVT.STBYLATE = true ∧ m.on PAIR_STATUS.SYNC = false)))
  ∧ (∀ (s : State) (by_ : Initiator) (v : Word) (es : List Nat) (a : Nat) (w : Word), s.node.running = true →
      let n := s.node
      let st := n.rd PEX_STATUS.STATE
      let named := (upTo 8).filter (fun e => bit v.toNat (8 + e))
      let ok := n.patchAddr named 0
      (v.toNat % 32 = 1 → n.pex.patch = none →
        (5 ≤ st → Does (.patch by_ v) s (fun m => m.rd PEX_PSTAT.STATE = 3 ∧ m.rd PEX_PSTAT.ERR = 3 ∧ m.pex = n.pex))
        ∧ (st < 5 → ok = none → Does (.patch by_ v) s (fun m => m.rd PEX_PSTAT.STATE = 3 ∧ m.rd PEX_PSTAT.ERR = 1 ∧ m.pex = n.pex))
        ∧ (st < 5 → ok = some a → Does (.patch by_ v) s (fun m => m.rd PEX_PSTAT.STATE = 1 ∧ m.rd PEX_PSTAT.ERR = 0
            ∧ m.pex.patch = some (named, [(a, n.reg (PEX_PDATA.DATA 0).addr)]) ∧ m.mem = n.mem)))
      ∧ (n.pex.patch = some (es, [(a, w)]) → n.pair.handover = none → st < 5 →
          ((∀ e, e ∈ es → n.engSt e ≠ 1 ∧ n.engSt e ≠ 2) → (∀ e, e ∈ es → e < 8) → 0x20000000 ≤ a → a + 4 ≤ 0x20300000 →
            Does .patchApply s (fun m => m.pex.patch = none ∧ m.rd PEX_PSTAT.STATE = 2 ∧ m.on PEX_STATUS.PATCHED = true ∧ m.on PEX_EVT.PATCH = true
              ∧ m.memBytes a 4 = leBytes 4 w.toNat ∧ (∀ e, e ∈ es → m.engSt e = (if n.engSt e = 3 then 2 else n.engSt e))
              ∧ ∀ x, 0x20000000 ≤ x → x < 0x20300000 → x < a ∨ a + 4 ≤ x → m.memByte x = n.memByte x))
          ∧ ((∃ e, e ∈ es ∧ (n.engSt e = 1 ∨ n.engSt e = 2)) → Does .pexWaitTimeout s (fun m => m.pex.patch = none
              ∧ m.rd PEX_PSTAT.STATE = 3 ∧ m.rd PEX_PSTAT.ERR = 2 ∧ m.mem = n.mem))))

/-! ### Pair redundancy -/

/-- R426 to R429, R717: the frames without numbers. A standby takes a later heartbeat that is not a repeat; the active node takes a later
echo of a heartbeat it sent as its echo mark, and leaves solo; a negotiating node takes its role from the partner's NEG, and reports one
that is not its partner. A frame whose CRC fails is counted and has no other effect. -/
def Obligations.PairFrames : Prop :=
  ∀ (s : State) (f : PairRx) (x : Nat × Nat), s.node.running = true →
    let n := s.node
    let p := slice f.bytes 12 (f.bytes.length - 16)
    let seq := le p 0 4
    let claims := bit (le p 16 1) 1
    let prefers := bit (le p 16 1) 0
    let stronger := if n.on PAIR_STATUS.STRAP ≠ prefers then n.on PAIR_STATUS.STRAP else decide (n.uid < le p 0 8)
    (n.goodFrame f 1 → n.rd PAIR_STATUS.STATE = 3 ∨ n.rd PAIR_STATUS.STATE = 4 → bit (le p 12 1) 3 = false →
        seqLater seq (n.rd PAIR_HBSEQ.VALUE) = true →
        Does (.hb f) s (fun m => m.rd PAIR_HBSEQ.VALUE = seq ∧ m.pair.heardAt = some n.now ∧ m.pair.fresh = true
          ∧ m.pair.lastValid = some n.now ∧ m.on PAIR_STATUS.LINK = true))
    ∧ (n.goodFrame f 2 → n.rd PAIR_STATUS.STATE = 2 → n.pair.sent.find? (fun y => y.1 = seq) = some x →
        seqLater seq (n.rd PAIR_ECHOSEQ.VALUE) = true →
        Does (.echo f) s (fun m => m.rd PAIR_ECHOSEQ.VALUE = seq ∧ m.pair.echoMark = some x.2 ∧ m.on PAIR_STATUS.SOLO = false
          ∧ m.on PAIR_STATUS.PSUSPECT = bit (le p 8 1) 1 ∧ m.msg.heldAcc = false))
    ∧ (n.goodFrame f 3 → n.rd PAIR_STATUS.STATE = 1 → le p 0 8 = n.peerUid →
        Does (.neg f) s (fun m => m.rd PAIR_STATUS.STATE = (if !claims && stronger then 2 else 3) ∧ (!claims && stronger → m.ownPin = true)))
    ∧ (n.goodFrame f 3 → n.rd PAIR_STATUS.STATE = 1 → le p 0 8 ≠ n.peerUid →
        Does (.neg f) s (fun m => m.rd PAIR_STATUS.STATE = 1 ∧ m.on PAIR_STATUS.PEERMIS = true ∧ m.on PAIR_EVT.PEERMIS = true))
    ∧ (n.on PAIR_CTRL.EN = true → n.pair.locked = true → 16 ≤ f.bytes.length →
        le f.bytes (f.bytes.length - 4) 4 ≠ crc32 (f.bytes.take (f.bytes.length - 4)) →
        ∀ c, (c = Instr.hb f ∨ c = .echo f ∨ c = .neg f ∨ c = .jrnl f ∨ c = .delta f ∨ c = .snap f ∨ c = .mark f) →
          Answers c s (n.count PAIR_CNT_LINKCRC.VALUE))

/-- R423, R434 to R437, R446, R411: the numbered frames, taken in order at a standby: a journal change, a delta of one part with stored
bytes, a snapshot of PIMG bytes, and the two markers: the handover's makes the node active, the swap's exchanges its banks. A frame out
of order changes none of this. The layouts of the payloads inside are the model's own (log entry 25). -/
def Obligations.MirrorFrames : Prop :=
  ∀ (s : State) (f : PairRx), s.node.running = true →
    let n := s.node
    let p := slice f.bytes 12 (f.bytes.length - 16)
    let seq := le f.bytes 4 4
    let st := n.rd PAIR_STATUS.STATE
    let next := (n.pair.rxSeq + 1) % 4294967296
    let j := jrnlBase + le p 0 4
    let data := slice p 8 (le p 4 2)
    let r := p.drop 8
    let len := le r 2 2
    st = 3 ∨ st = 4 →
      (n.goodFrame f 0x10 → seq = next → Does (.jrnl f) s (fun m => m.memBytes j data.length = data ∧ m.pair.rxSeq = seq))
      ∧ (n.goodFrame f 0x20 → seq = next → n.pair.parts = [] → le p 6 2 = 1 → le r 0 1 = 3 → r.length = 8 + len →
          isDmem (le r 4 4) = true → le r 4 4 + len ≤ 0x20300000 →
          Does (.delta f) s (fun m => m.memBytes (le r 4 4) len = slice r 8 len ∧ m.pair.applied = le p 0 4 ∧ m.pair.rxSeq = seq))
      ∧ (n.goodFrame f 0x30 → seq = next → le p 0 1 = 3 → 0x20300000 ≤ le p 4 4 → le p 4 4 + r.length ≤ 0x20380000 →
          Does (.snap f) s (fun m => m.memBytes (le p 4 4) r.length = r ∧ m.pair.rxSeq = seq))
      ∧ (n.goodFrame f 0x21 → seq = next → n.on PAIR_STATUS.LINK = true → st = 4 →
          (le p 0 1 = 2 → Does (.mark f) s (fun m => m.rd PAIR_STATUS.STATE = 2 ∧ m.ownPin = true ∧ m.on GRD_STATUS.TKO_EN = true
            ∧ m.on PAIR_STATUS.SYNC = true ∧ m.pair.rxSeq = seq))
          ∧ (le p 0 1 = 1 → n.rd PEX_STATUS.STATE = 3 → (∀ x, x ∈ n.pex.map → x.eng < 8 ∧ n.rangeBad x = false) → Does (.mark f) s (fun m => m.rd PEX_STATUS.STATE = 0
              ∧ m.rd PEX_STATUS.BANK = 1 - n.rd PEX_STATUS.BANK ∧ m.rd PEX_SWAPCYC.VALUE = n.cycle ∧ m.rd PAIR_STATUS.STATE = 4))
          ∧ (le p 0 1 = 1 → n.rd PEX_STATUS.STATE ≠ 3 → Does (.mark f) s (fun m => m.rd PAIR_STATUS.STATE = 3 ∧ m.on PAIR_STATUS.SYNC = false)))
      ∧ (seq ≠ next → st = 3 ∨ n.on PAIR_STATUS.LINK = true → (n.goodFrame f 0x10 → Does (.jrnl f) s (fun m => m.mem = n.mem ∧ m.pair.rxSeq = n.pair.rxSeq))
          ∧ (n.goodFrame f 0x20 → Does (.delta f) s (fun m => m.mem = n.mem ∧ m.pair.rxSeq = n.pair.rxSeq))
          ∧ (n.goodFrame f 0x30 → Does (.snap f) s (fun m => m.mem = n.mem ∧ m.pair.rxSeq = n.pair.rxSeq)))

/-- R420, R423 to R425, R436, R245: the link's service and the heartbeat's tick: losing lock or 600 µs of silence takes the link out of service, with SYNC
gone at the active node and acceptances held; unacknowledged frames go again with RETX; a tick sends NEG, a heartbeat, a repeat or an
echo. -/
def Obligations.PairLinkService : Prop :=
  ∀ (s : State), s.node.running = true →
    let n := s.node
    let st := n.rd PAIR_STATUS.STATE
    let Out := fun (m : Node) => m.on PAIR_STATUS.LINK = false ∧ m.on PAIR_EVT.DEGRADED = true
      ∧ (st = 2 → m.on PAIR_STATUS.SYNC = false ∧ (n.msg.accq ≠ [] → n.rd MSG_STATUS.MODE = 1 → m.msg.heldAcc = true ∧ m.on MSG_STATUS.HELDACC = true))
    (n.on PAIR_STATUS.LINK = true → Does .linkOutOfService s Out)
    ∧ (n.on PAIR_STATUS.LINK = false → Answers .linkOutOfService s n)
    ∧ (n.on PAIR_STATUS.LINK = true → n.pair.locked = true → Does .linkLockLoss s (fun m => Out m ∧ m.pair.locked = false
        ∧ m.rd PAIR_CNT_LOCKLOSS.VALUE = min (n.rd PAIR_CNT_LOCKLOSS.VALUE + 1) 0xFFFFFFFF))
    ∧ Does .linkLockRegain s (fun m => m.pair = { n.pair with locked := true } ∧ m.regs = n.regs)
    ∧ Does .linkRetransmit s (fun m => m.out = n.out ++ n.pair.unacked.map (fun u =>
          ⟨.pair, pairFrame (le u.2.2 0 1) u.1 n.pair.rxSeq true (slice u.2.2 12 (u.2.2.length - 16))⟩)
        ∧ m.pair.unacked = n.pair.unacked.map (fun u => (u.1, n.now, u.2.2)))
    ∧ (st = 1 ∨ st = 3 ∨ st = 4 ∨ st = 6 → Does .heartbeatTick s (fun m => m.out.length = n.out.length + 1 ∧ m.regs = n.regs))
    ∧ (st = 2 → n.beatOk = true → Does .heartbeatTick s (fun m => m.rd PAIR_HBSEQ.VALUE = (n.rd PAIR_HBSEQ.VALUE + 1) % 4294967296
        ∧ m.out.length = n.out.length + 1 ∧ m.pair.sent.getLast? = some (m.rd PAIR_HBSEQ.VALUE, n.now) ∧ ∀ e, e < 8 → (m.engRun e).beat = false))
    ∧ (st = 2 → n.beatOk = false → n.pair.probation = none → Does .heartbeatTick s (fun m => m.regs = n.regs ∧ m.out.length = n.out.length + 1
        ∧ m.pair.sent = n.pair.sent))

/-- R428, R430, R432, R433, R437, R717: enabling PAIR negotiates and disabling turns it off with OWN low; 100 ms without a frame settle the
role by the strap; the end of synchronization makes a standby, and a standby alone with a dead link may assume the active role.
R438 to R440, R245, R464: a standby that declares loss takes over; in RESYNC it only declares; an active node whose fence timer expires fences,
with everything it drives off; in solo it does not; a partner heard on no path puts the active node in solo. -/
def Obligations.PairRolesAndFence : Prop :=
  (∀ (s : State) (by_ : Initiator), s.node.running = true →
      let n := s.node
      let st := n.rd PAIR_STATUS.STATE
      (n.on PAIR_CTRL.EN = false → Does (.pairEnable by_) s (fun m => m.on PAIR_CTRL.EN = true ∧ m.rd PAIR_STATUS.STATE = 1 ∧ m.pair.peer = none
          ∧ m.pair.nextSeq = 1 ∧ m.pair.rxSeq = 0 ∧ m.out.length = n.out.length + 1))
      ∧ Does (.pairDisable by_) s (fun m => m.on PAIR_CTRL.EN = false ∧ m.rd PAIR_STATUS.STATE = 0 ∧ m.ownPin = false
          ∧ m.on PAIR_STATUS.LINK = false ∧ m.on PAIR_STATUS.SYNC = false ∧ m.on PAIR_STATUS.SOLO = false ∧ m.pair.handover = none)
      ∧ (st = 1 → n.pair.lastValid = none → Does .negTimeout s (fun m => m.rd PAIR_STATUS.STATE = (if n.on PAIR_STATUS.STRAP then 2 else 3)
          ∧ (n.on PAIR_STATUS.STRAP = true → m.on PAIR_STATUS.SOLO = true ∧ m.ownPin = true)))
      ∧ (st = 3 → n.on PAIR_STATUS.LINK = true → n.on PAIR_STATUS.IMGMIS = false → n.rd PAIR_STATUS.BIST ≠ 1 →
          Does .syncComplete s (fun m => m.rd PAIR_STATUS.STATE = 4 ∧ m.on PAIR_STATUS.SYNC = true ∧ m.on PAIR_EVT.SYNC = true
            ∧ m.rd PAIR_SYNCTIME.VALUE = sat 16 ((n.now - n.pair.syncSince.getD n.now) / 1000000)))
      ∧ (st = 2 → n.pair.snapQueued = true → n.snapAcked = true → n.rd PAIR_MIRLAG.VALUE < 32768 →
          Does .syncComplete s (fun m => m.rd PAIR_STATUS.STATE = 2 ∧ m.on PAIR_STATUS.SYNC = true))
      ∧ (n.pair.syncSince ≠ none → n.pair.longTold = false → Does .resynclong s (fun m => m.on PAIR_EVT.RESYNCLONG = true
          ∧ m.rd PAIR_STATUS.STATE = st ∧ m.pair.longTold = true))
      ∧ (st = 3 ∨ st = 4 → n.on PAIR_STATUS.LINK = false → n.on PAIR_CTRL.ASSUME = true → Does .assume s (fun m => m.rd PAIR_STATUS.STATE = 2
          ∧ m.on PAIR_STATUS.SOLO = true ∧ m.ownPin = true ∧ m.on GRD_STATUS.TKO_EN = true ∧ m.on PAIR_EVT.ASSUME = true
          ∧ ∀ c, c < 4096 → m.timerOwner c = none)))
  ∧ (∀ (s : State),
      let n := s.node
      let st := n.rd PAIR_STATUS.STATE
      (n.running = true → n.pair.stilled = false →
        (st = 4 → Does .lossDeclaration s (fun m => m.rd PAIR_STATUS.STATE = 2 ∧ m.ownPin = true ∧ m.on GRD_STATUS.TKO_EN = true
          ∧ m.on PAIR_EVT.DECLARE = true ∧ m.on PAIR_EVT.TAKEOVER = true ∧ m.on PAIR_STATUS.SYNC = false ∧ m.on PAIR_STATUS.LINK = false
          ∧ m.rd PAIR_TKOCYC.VALUE = n.cycle ∧ m.rd PAIR_GAPLAST.VALUE = sat 16 ((n.now - n.pair.heardAt.getD n.now) / 1000)))
        ∧ (st = 3 → Does .lossDeclaration s (fun m => m.rd PAIR_STATUS.STATE = 3 ∧ m.on PAIR_EVT.DECLARE = true ∧ m.ownPin = n.ownPin)))
      ∧ (n.pair.stilled = true → Answers .lossDeclaration s n)
      ∧ (n.boot.held = false → st = 2 →
        (n.on PAIR_STATUS.SOLO = false → n.pair.echoMark ≠ none → n.pair.stilled = false → n.rd GRD_STATUS.STATE ≠ 0 →
          Does .fenceTimeout s (fun m => m.rd PAIR_STATUS.STATE = 6 ∧ m.ownPin = false ∧ m.rd GRD_STATUS.STATE = 4
            ∧ m.on GRD_STATUS.TKO_EN = false ∧ m.time.launches = [] ∧ m.on PAIR_STATUS.SYNC = false ∧ m.on PAIR_EVT.FENCE = true
            ∧ (∀ e, e < 8 → m.engSt e = (if 1 ≤ n.engSt e ∧ n.engSt e ≤ 3 then 0 else n.engSt e))
            ∧ ∀ h, 1 ≤ h → h < 255 → m.rd (PWR_GH.STATE h) = 0))
        ∧ (n.on PAIR_STATUS.SOLO = true → Answers .fenceTimeout s n))
      ∧ (n.running = true → st = 2 → n.on PAIR_STATUS.SOLO = false → Does .partnerLost s (fun m => m.rd PAIR_STATUS.STATE = 2
          ∧ m.on PAIR_STATUS.SOLO = true ∧ m.on PAIR_STATUS.SYNC = false ∧ m.on PAIR_EVT.PARTNERLOST = true ∧ m.msg.heldAcc = false
          ∧ m.pair.echoMark = none)))

/-- R445 to R447: a handover or a rehearsal begins when nothing of R445 stands in its way, and is refused with its code otherwise; with
every engine arrived the role passes; engines that do not arrive in HOLDWAIT end it with code 8; probation ends passed or fails. -/
def Obligations.Handover : Prop :=
  ∀ (s : State) (by_ : Initiator) (cause : ProbationCause) (h : HandRun), s.node.running = true →
    let n := s.node
    let st := n.rd PAIR_STATUS.STATE
    let lull := n.rd AON_LSTATUS.STATE
    let code := if st ≠ 2 ∨ n.on PAIR_STATUS.SYNC = false ∨ n.on PAIR_STATUS.SOLO = true then 1 else if n.on PAIR_STATUS.LINK = false then 2
      else if n.pair.probation ≠ none then 4 else if n.on INA_STATUS.INAUG = true ∨ lull = 1 ∨ lull = 2 then 5
      else if n.rd PEX_STATUS.STATE = 5 ∨ n.rd PEX_STATUS.STATE = 6 ∨ n.rd PEX_STATUS.STATE = 7 then 6
      else if n.rd PWR_STATUS.STATE ≠ 0 then 7 else 0
    let Refused := fun (c : Nat) (m : Node) => m.rd PAIR_STATUS.REFUSE = c ∧ m.on PAIR_EVT.REFUSED = true ∧ m.pair.handover = none
      ∧ m.rd PAIR_STATUS.STATE = st
    (n.pair.handover = none → code = 0 →
      Does (.handover by_) s (fun m => m.pair.handover = some ⟨n.now, false, false, false⟩ ∧ m.regs = n.regs)
      ∧ Does (.rehearse by_) s (fun m => m.pair.handover = some ⟨n.now, true, false, false⟩ ∧ m.regs = n.regs))
    ∧ (n.pair.handover = none → code ≠ 0 → Does (.handover by_) s (Refused code)
        ∧ Does (.rehearse by_) s (fun m => Refused code m ∧ m.rd PAIR_STATUS.RESULT = 3))
    ∧ (n.pair.handover = some h → st = 2 → (∀ e, e < 8 → n.engSt e ≠ 1 ∧ n.engSt e ≠ 2) → Does .handoverMark s (fun m =>
        m.rd PAIR_STATUS.STATE = 4 ∧ m.ownPin = false ∧ m.on PAIR_STATUS.SYNC = true ∧ m.on GRD_STATUS.TKO_EN = false
        ∧ m.pair.handover = none ∧ m.pair.rehearsing = h.rehearse ∧ (h.suspect = true → m.on PAIR_STATUS.SUSPECT = true)
        ∧ ∀ e, e < 8 → m.engSt e = (if n.engSt e = 3 then 0 else n.engSt e)))
    ∧ (n.pair.handover = some h → (∃ e, e < 8 ∧ (n.engSt e = 1 ∨ n.engSt e = 2)) → Does .holdwaitTimeout s (fun m =>
        Refused 8 m ∧ (n.rd PEX_STATUS.STATE < 5 → n.pex.patch = none → ∀ e, e < 8 → m.engSt e = (if n.engSt e = 3 then 2 else n.engSt e))))
    ∧ (st = 2 → n.pair.probation ≠ none →
        Does (.probationFail cause) s (fun m => m.rd PAIR_STATUS.RESULT = 2 ∧ m.on PAIR_STATUS.SUSPECT = true ∧ m.on PAIR_STATUS.PROBATION = false
          ∧ m.on PAIR_EVT.SWAPBACK = true ∧ m.pair.probation = none)
        ∧ Does .probationEnd s (fun m => m.rd PAIR_STATUS.RESULT = 1 ∧ m.on PAIR_STATUS.PROBATION = false ∧ m.pair.probation = none
          ∧ ∀ a, a ≠ PAIR_STATUS.RESULT.addr → m.reg a = n.reg a))

/-- R432, R446, R448, R449: the pair commands of a standby: BIST with its gust, and its end, resynchronize; RESYNC does at a standby;
CLEARSUSPECT clears SUSPECT. -/
def Obligations.PairCommands : Prop :=
  ∀ (s : State) (by_ : Initiator) (failed : Bool), s.node.running = true →
    let n := s.node
    let st := n.rd PAIR_STATUS.STATE
    let g := n.rd PAIR_CTRL.BISTGUST
    let ready := (st = 3 ∨ st = 4) ∧ n.rd (PWR_GH.STATE g) = 1 ∧ n.rd (PWR_GH.CLASS g) = 3
    let Resyncs := fun (m : Node) => m.rd PAIR_STATUS.STATE = 3 ∧ m.on PAIR_STATUS.SYNC = false
      ∧ m.rd PAIR_CNT_RESYNCS.VALUE = (if st = 3 then n.rd PAIR_CNT_RESYNCS.VALUE else min (n.rd PAIR_CNT_RESYNCS.VALUE + 1) 0xFFFFFFFF)
    (ready → Does (.pairBist by_) s (fun m => m.rd PAIR_STATUS.BIST = 1 ∧ Resyncs m))
    ∧ (¬ ready → Answers (.pairBist by_) s (n.wr PAIR_STATUS.BIST 3))
    ∧ (n.rd PAIR_STATUS.BIST = 1 → Does (.bistDone failed) s (fun m => m.rd PAIR_STATUS.BIST = (if failed then 4 else 2) ∧ Resyncs m))
    ∧ (st = 4 → Does (.pairResync by_) s Resyncs) ∧ (st ≠ 4 → Answers (.pairResync by_) s n)
    ∧ Does (.clearsuspect by_) s (fun m => m.on PAIR_STATUS.SUSPECT = false ∧ m.rd PAIR_STATUS.STATE = st
        ∧ ∀ a, a ≠ PAIR_STATUS.SUSPECT.addr → m.reg a = n.reg a)

/-! ### LINE -/

/-- R62, R63, R69, R76, R80, R86, R75: a good pilot updates the sender's equalizer and validity, makes the table of its epoch current, and moves
the trims one code; a bad field and an erasure are counted. A sounding updates equalizer and noise of its sender. The node whose turn it is
sounds at its level, raised only under a class 1 gust. -/
def Obligations.PilotsAndSoundings : Prop :=
  ∀ (s : State) (p : PilotRx) (r : SoundingRx), s.node.running = true →
    let n := s.node
    let l := p.att.val % 2
    let v := p.field.toNat
    let k := v % 256
    let good := pilotCrc v = v / 16777216 ∧ k ≤ 128
    let q := n.peer l k
    let x := r.att.val % 2
    let w := n.peer x r.node
    let level := fun (a : Nat) => let b := min 35 (n.rd (LINE_PSD.LEVEL a))
      let g := n.rd (LINE_PSD.GUST a)
      if n.rd (PWR_GH.STATE g) = 1 ∧ n.rd (PWR_GH.CLASS g) = 1 then min 35 (b + min 6 (n.rd (LINE_PSD.BOOST a))) else b
    (n.on (LINE_CTRL.EN p.att) = true → n.attShed p.att = false →
      (good → n.handleOf k ≠ 255 → Does (.pilotReceive p) s (fun m => (m.peer l k).lastValid = n.cycle
          ∧ (∀ e c i, q.pend = some (e, c, i) → e = bits v 8 4 → (m.peer l k).pend = none ∧ (m.peer l k).epoch = e)
          ∧ (p.erased = false → m.memBytes (n.chanAddr l k) 3964
              = coefBytes (pilotEq (n.eqCoefs l k) p.bins (if q.eqSet then n.rd (LINE_CTRL.MU l) + 2 else 0)))
          ∧ (p.erased = false → n.on (LINE_TRIM.FREEZE p.att) = false → -2048 ≤ p.refMean → p.refMean ≤ 2047 →
              signed12 (m.rd (LINE_TRIM.OFFSET p.att)) = toward (signed12 (n.rd (LINE_TRIM.OFFSET p.att))) p.refMean)
          ∧ (p.erased = true → m.rd (LINE_CNT_ERASED.VALUE p.att) = min (n.rd (LINE_CNT_ERASED.VALUE p.att) + 1) 0xFFFFFFFF ∧ m.mem = n.mem
              ∨ q.pend ≠ none)))
      ∧ (¬ good → p.erased = false → (n.peer l p.owner).pend = none → Answers (.pilotReceive p) s (n.count (LINE_CNT_FIELDCRC.VALUE l))))
    ∧ (n.on (LINE_CTRL.EN p.att) = false → Answers (.pilotReceive p) s n)
    ∧ (n.on (LINE_CTRL.EN r.att) = true → n.attShed r.att = false → n.handleOf r.node ≠ 255 → Does (.soundingReceive r) s (fun m =>
        (m.peer x r.node).soundings = w.soundings + 1 ∧ (m.peer x r.node).meanSnr = r.meanSnr ∧ (m.peer x r.node).minSnr = r.minSnr
        ∧ (m.peer x r.node).noise = (upTo 62).map (fun g => (7 * nth w.noise g + groupError (n.eqCoefs x r.node) r.bins g) / 8)
        ∧ m.memBytes (n.chanAddr x r.node) 3964
            = coefBytes ((upTo 991).map (fun i => eqUpdate (coef soundingKnown i) (coef r.bins i) (coef (n.eqCoefs x r.node) i) 1))))
    ∧ (n.nodeNum ≠ 0 → n.dir ≠ [] → n.cycle % n.dir.length + 1 = n.nodeNum → n.on BAR_STATUS.INAUG = false → n.on INA_STATUS.INAUG = false →
        Does .soundingSend s (fun m => m.out = n.out ++ [⟨.sounding, [BitVec.ofNat 8 (level 0), BitVec.ofNat 8 (level 1)]⟩] ∧ m.regs = n.regs))
    ∧ (n.nodeNum = 0 ∨ n.cycle % n.dir.length + 1 ≠ n.nodeNum ∨ n.on INA_STATUS.INAUG = true → Answers .soundingSend s n)

/-- R65 to R68, R73: the transmitter's side of the loading tables: proposals are stored, a round announces a table that lowers a tone or
raises the sum by 1%, acknowledgements come off the list, the check at N_s - 8 lets the switch stand or postpones it up to the fourth time, and
from N_s the table is in use. -/
def Obligations.LoadingTransmitter : Prop :=
  ∀ (s : State) (u : UnitRx) (line : Line) (sw : LineSwitch), s.node.running = true →
    let n := s.node
    let b := u.body
    let l := le b 1 1 % 2
    let r := le b 2 1
    let own := n.own (lineNo line)
    let base := n.chanAddr (lineNo line) n.nodeNum
    let cand := n.candidate (lineNo line)
    let cur := n.ownTable (lineNo line)
    let lead := if cand.2 then 32 else 48
    (508 ≤ b.length → le b 3 1 = n.nodeNum → n.nodeNum ≠ 0 → n.handleOf r ≠ 255 → Does (.loadProp u) s (fun m =>
        m.memBytes (n.chanAddr l r + 0x1170) 496 = slice b 12 496 ∧ (m.peer l r).stored = true
        ∧ (m.peer l r).storedUrgent = bit (le b 11 1) 0))
    ∧ (own.switch = none → own.isNull = false → n.nodeNum ≠ 0 → line = .a ∨ (n.own 0).switch ≠ none →
        ((List.zip cand.1 cur).any (fun p => p.1 < p.2) = true ∨ (101 * cur.sum ≤ 100 * cand.1.sum ∧ cur.sum < cand.1.sum) →
          Does .loadRoundStart s (fun m => (m.own (lineNo line)).switch = some ⟨own.epoch % 15 + 1, (n.cycle + lead + 15) / 16 * 16, lead, 1, false,
            n.presentNodes.filter (· ≠ n.nodeNum), false⟩ ∧ (m.own (lineNo line)).epoch = own.epoch))
        ∧ ((List.zip cand.1 cur).any (fun p => p.1 < p.2) = false → 100 * cand.1.sum < 101 * cur.sum ∨ cand.1.sum ≤ cur.sum →
          Does .loadRoundStart s (fun m => m.own (lineNo line) = own)))
    ∧ ((n.own l).switch = some sw → 12 ≤ b.length → le b 3 1 = n.nodeNum → le b 8 4 = sw.ns → le b 4 1 % 16 = sw.epoch →
        Does (.loadAck u) s (fun m => (m.own l).switch = some (if bit (le b 4 1) 4 then { sw with busy := true } else { sw with wait := sw.wait.filter (· ≠ r) })))
    ∧ (own.switch = some sw →
        Does (.loadAckCheck line) s (fun m => (m.own (lineNo line)).switch = some (
          if sw.wait = [] ∧ sw.busy = false ∨ 4 ≤ sw.count then { sw with sure := true }
          else { sw with ns := sw.ns + sw.lead, count := sw.count + 1, busy := false }))
        ∧ (sw.ns ≤ n.cycle → Does (.loadSwitch line) s (fun m => (m.own (lineNo line)).epoch = sw.epoch ∧ (m.own (lineNo line)).switch = none
            ∧ m.memBytes base 496 = n.memBytes (base + 0x1F0) 496))
        ∧ (n.cycle < sw.ns → Answers (.loadSwitch line) s n))

/-- R58, R67, R69, R72: the receiver's side, and the null table: an announced table is kept in a pool entry and acknowledged, BUSY when none
is free; a REPLY is current at once; a request is answered; a pending table is promoted 16 cycles after N_s; 256 cycles without a valid
field give the tables up. What a change of the null table sends is the model's reading (log entry 17). -/
def Obligations.LoadingReceiver : Prop :=
  ∀ (s : State) (u : UnitRx) (line : Line) (k : Nat) (i : Nat), s.node.running = true →
    let n := s.node
    let b := u.body
    let l := le b 1 1 % 2
    let t := le b 2 1
    let p := n.peer l t
    let epoch := le b 3 1 % 16
    let ns := le b 4 4
    let held := fun (j : Nat) => (n.own l).pool.any (fun x => x.1 = j)
    let o := n.own (lineNo line)
    let q := n.peer (lineNo line) k
    (508 ≤ b.length → t ≠ n.nodeNum → n.handleOf t ≠ 255 → n.handleOf n.nodeNum ≠ 255 →
      (bit (le b 11 1) 1 = true → Does (.loadSet u) s (fun m => m.memBytes (n.chanAddr l t + 0xF80) 496 = slice b 12 496
          ∧ (m.peer l t).held = true ∧ (m.peer l t).epoch = le b 3 1 / 16))
      ∧ (bit (le b 11 1) 1 = false → p.pend = none → p.epoch ≠ epoch ∨ p.held = false →
          ((∀ j, j < i → held j = true) → held i = false → i < 8 → Does (.loadSet u) s (fun m => (m.peer l t).pend = some (epoch, ns, i)
            ∧ m.memBytes (n.chanAddr l n.nodeNum + 0x3E0 + 496 * i) 496 = slice b 12 496
            ∧ m.line.units = n.line.units ++ [n.loadAckBody l t epoch false ns]))
          ∧ ((∀ j, j < 8 → held j = true) → Does (.loadSet u) s (fun m => m.line.units = n.line.units ++ [n.loadAckBody l t epoch true ns]
            ∧ m.mem = n.mem ∧ m.line.peers = n.line.peers))))
    ∧ (8 ≤ b.length → le b 3 1 = n.nodeNum → n.nodeNum ≠ 0 → Does (.loadReq u) s (fun m => m.regs = n.regs ∧ m.mem = n.mem
        ∧ m.line.units = n.line.units ++ [n.loadSetBody l (n.own l).epoch 0 0 (n.own l).isNull true (n.ownTable l)]))
    ∧ (∀ e c j, q.pend = some (e, c, j) → n.handleOf k ≠ 255 → c + 16 ≤ n.cycle → Does (.pendingTableTimeout line k) s (fun m =>
        (m.peer (lineNo line) k).pend = none ∧ (m.peer (lineNo line) k).epoch = e ∧ (m.peer (lineNo line) k).held = true
        ∧ m.memBytes (n.chanAddr (lineNo line) k + 0xF80) 496 = n.memBytes (n.chanAddr (lineNo line) n.nodeNum + 0x3E0 + 496 * j) 496
        ∧ (m.own (lineNo line)).pool = o.pool.filter (fun x => x.1 ≠ j)))
    ∧ (∀ e c j, q.pend = some (e, c, j) → n.cycle < c + 16 → Answers (.pendingTableTimeout line k) s n)
    ∧ (q.held = true → q.lastValid + 256 ≤ n.cycle → n.handleOf k ≠ 255 → Does (.tablesNotHeld line k) s (fun m =>
        (m.peer (lineNo line) k).held = false ∧ m.line.units = n.line.units ++ [n.loadReqBody (lineNo line) k q.epoch 2]))
    ∧ (o.isNull = false → Does (.lineNullTable line) s (fun m => (m.own (lineNo line)).isNull = true ∧ (m.own (lineNo line)).switch = none
        ∧ m.line.units.length = n.line.units.length + 1))
    ∧ (o.isNull = true → Does (.lineNullLeave line) s (fun m => (m.own (lineNo line)).isNull = false ∧ (m.own (lineNo line)).epoch = 0
        ∧ m.line.units.length = n.line.units.length + 1) ∧ Answers (.lineNullTable line) s n)

/-- R77 to R79: deep calibration is refused without its class 2 gust, starts with ISOLATE when its other conditions hold and is deferred
otherwise; its phases follow one another, and the last gives the full chain back; a cancel or three lost beacons abort it to RESTORE. -/
def Obligations.DeepCalibration : Prop :=
  ∀ (s : State) (att : Fin 4), s.node.running = true →
    let n := s.node
    let a := att.val
    let res := n.rd (LINE_CALSTAT.RESULT a)
    let runs := fun (k : Nat) => 2 ≤ n.rd (LINE_CALSTAT.RESULT k) ∧ n.rd (LINE_CALSTAT.RESULT k) ≤ 5
    let g := n.rd (LINE_CAL.GUST a)
    let granted := n.rd (PWR_GH.STATE g) = 1 ∧ n.rd (PWR_GH.CLASS g) = 2
    let ready := (∀ k, k < 4 → k ≠ a → ¬ runs k) ∧ 16 ≤ n.beaconRun (1 - a % 2) ∧ n.on INA_STATUS.INAUG = false ∧ n.on (LINE_CTRL.EN a) = true
    let Begun := fun (m : Node) => m.rd (LINE_CALSTAT.RESULT a) = 2 ∧ m.rd (LINE_CTRL.RXMODE a) = 0
      ∧ m.rd (LINE_CTRL.RXMODE ((a + 2) % 4)) = (if n.on INA_STATUS.END then n.rd (LINE_CTRL.RXMODE ((a + 2) % 4)) else 1)
      ∧ m.line.calDeferred = n.line.calDeferred.filter (· ≠ a)
    let deferred := n.line.calDeferred.contains a = true
    (runs a → Answers (.calStart att) s n)
    ∧ (¬ runs a → ¬ granted → Does (.calStart att) s (fun m => m.rd (LINE_CALSTAT.RESULT a) = 7 ∧ m.line = n.line))
    ∧ (¬ runs a → granted → ready → Does (.calStart att) s Begun)
    ∧ (¬ runs a → granted → ¬ ready → n.on (LINE_CTRL.EN a) = true → Does (.calStart att) s (fun m => m.rd (LINE_CALSTAT.RESULT a) = 1
        ∧ m.line.calDeferred.contains a = true))
    ∧ (deferred → Does (.calCancel att) s (fun m => m.rd (LINE_CALSTAT.RESULT a) = 0 ∧ m.line.calDeferred.contains a = false)
        ∧ (¬ granted → Does (.calDeferredStart att) s (fun m => m.rd (LINE_CALSTAT.RESULT a) = 7 ∧ m.line.calDeferred.contains a = false))
        ∧ (granted → ready → Does (.calDeferredStart att) s Begun) ∧ (granted → ¬ ready → Answers (.calDeferredStart att) s n))
    ∧ (runs a → ¬ deferred → Does (.calCancel att) s (fun m => m.rd (LINE_CALSTAT.RESULT a) = 5))
    ∧ (runs a → Does (.calBeaconLoss att) s (fun m => m.rd (LINE_CALSTAT.RESULT a) = 5 ∧ m.line.calAborted.contains a = true))
    ∧ (runs a → res < 5 → Does (.calPhaseEnd att) s (fun m => m.rd (LINE_CALSTAT.RESULT a) = res + 1 ∧ m.line = n.line))
    ∧ (res = 5 → Does (.calPhaseEnd att) s (fun m => m.rd (LINE_CALSTAT.RESULT a) = (if n.line.calAborted.contains a then 8 else 6)
        ∧ m.rd (LINE_CTRL.RXMODE a) = 1 ∧ m.line.calAborted.contains a = false
        ∧ (n.line.calAborted.contains a = false → m.rd (LINE_CALSTAT.DONE a) = min (n.rd (LINE_CALSTAT.DONE a) + 1) 0xFFFF)))

/-! ### Guardian -/

/-- R130, R131, R135 to R138, R149: the guardian accepts an alignment event within 4 µs of its own cycle of the same number, and any event
while it is unaligned or has never been aligned (log entry 19); otherwise it counts a rejection. It closes without events for 32 cycles. A
staging set is armed, committed by the armed ID at least 2 cycles ahead, swaps in at its cycle and expires after 64; blocked requests latch
it at 16; CLOSE and REARM; writes from elsewhere are counted. -/
def Obligations.Guardian : Prop :=
  ∀ (s : State) (cycle id : Word) (offset : Int) (own commit : Bool) (by_ : Initiator) (v : Word) (g : GrdStage) (c p : Nat),
    let n := s.node
    let st := n.rd GRD_STATUS.STATE
    let fresh := st = 5 ∨ n.grd.everAligned = false
    let near := offset.natAbs ≤ 4000 ∧ n.rd GRD_CYCLE.VALUE = cycle.toNat
    let Discards := fun (m : Node) => m.grd.stage = none ∧ m.grd.commitAt = none ∧ m.on GRD_STATUS.ARMED = false ∧ Counted GRD_REFUSED.VALUE n m
    let Stays := fun (m : Node) => m.rd GRD_STATUS.STATE = st ∧ m.mem = n.mem ∧ m.out = n.out
    (n.running = true →
      (st = 0 → Answers (.guardAlign cycle offset own) s n)
      ∧ (st ≠ 0 → fresh ∨ near → Does (.guardAlign cycle offset own) s (fun m => m.on GRD_STATUS.ALIGNED = true ∧ m.rd GRD_STATUS.HOLD = 0
          ∧ m.rd GRD_CYCLE.VALUE = cycle.toNat ∧ m.grd.everAligned = true
          ∧ m.rd GRD_STATUS.STATE = (if st = 5 then (if n.rd GRD_COMPID.VALUE = 0 then 1 else 2) else st)))
      ∧ (st ≠ 0 → ¬ fresh → ¬ near → Does (.guardAlign cycle offset own) s (fun m => m.on GRD_STATUS.ALIGNED = false
          ∧ Counted GRD_ALIGNREJ.VALUE n m ∧ m.rd GRD_CYCLE.VALUE = n.rd GRD_CYCLE.VALUE ∧ Stays m))
      ∧ (n.grd.stage = some g → Does (.grdArm id) s (fun m => m.on GRD_STATUS.ARMED = true ∧ m.rd GRD_ARMID.VALUE = id.toNat
          ∧ m.grd.stage = some g ∧ m.grd.armedAt = n.rd GRD_CYCLE.VALUE ∧ Stays m))
      ∧ (n.grd.stage = some g → n.rd GRD_ARMID.VALUE = id.toNat → n.cycle + 2 ≤ cycle.toNat → Does (.grdCommit id cycle) s (fun m =>
          m.grd.commitAt = some cycle.toNat ∧ m.grd.stage = some g ∧ m.regs = n.regs))
      ∧ (n.grd.stage = some g → n.rd GRD_ARMID.VALUE ≠ id.toNat ∨ cycle.toNat < n.cycle + 2 →
          Does (.grdCommit id cycle) s (fun m => Discards m ∧ Stays m))
      ∧ (n.grd.stage = none → Answers (.grdCommit id cycle) s (n.count GRD_REFUSED.VALUE))
      ∧ ((st = 1 ∨ st = 2) → n.posOpen n.cycle p = false → n.bar.blockedPos.contains p = false →
          (n.rd GRD_STATUS.BLOCKED < 15 → Does (.guardBlocked p) s (fun m => m.rd GRD_STATUS.BLOCKED = n.rd GRD_STATUS.BLOCKED + 1
            ∧ Counted GRD_BLOCKED.VALUE n m ∧ Stays m))
          ∧ (n.rd GRD_STATUS.BLOCKED = 15 → n.pair.probation = none → n.on GRD_CTRL.LATCH_TKO = false → Does (.guardBlocked p) s (fun m =>
              m.rd GRD_STATUS.STATE = 3 ∧ m.rd GRD_STATUS.BLOCKED = 16 ∧ Counted GRD_LATCH.VALUE n m)))
      ∧ (st ≠ 0 → Does (.grdClose by_) s (fun m => m.rd GRD_STATUS.STATE = 4 ∧ ∀ a, a ≠ GRD_STATUS.STATE.addr → m.reg a = n.reg a))
      ∧ (st = 3 ∨ st = 4 → Does (.grdRearm by_) s (fun m => m.rd GRD_STATUS.BLOCKED = 0
          ∧ m.rd GRD_STATUS.STATE = (if n.rd GRD_COMPID.VALUE = n.rd INA_COMPID.VALUE ∧ n.rd GRD_COMPID.VALUE ≠ 0 then 2 else 1)))
      ∧ (st ≠ 3 → st ≠ 4 → Answers (.grdRearm by_) s n)
      ∧ Does (.grdForeignWrite by_ commit v) s (fun m => Counted GRD_FOREIGNWR.VALUE n m ∧ m.grd = n.grd
          ∧ ∀ a, a ≠ GRD_FOREIGNWR.VALUE.addr → m.reg a = n.reg a))
    ∧ (n.boot.held = false →
      (32 ≤ n.rd GRD_STATUS.HOLD → n.grd.everAligned = true → st = 1 ∨ st = 2 →
          Does .guardUnaligned s (fun m => m.rd GRD_STATUS.STATE = 5 ∧ m.on GRD_STATUS.ALIGNED = false))
      ∧ (n.on GRD_STATUS.ARMED = true → n.grd.commitAt = none → n.grd.armedAt + 64 ≤ n.rd GRD_CYCLE.VALUE →
          Does .guardArmExpire s (fun m => Discards m ∧ Stays m))
      ∧ (n.grd.commitAt = some c → n.grd.stage = some g → n.ina.plan = none → c < 4294967296 → Does .guardSwap s (fun m =>
          m.rd GRD_COMPID.VALUE = n.rd GRD_ARMID.VALUE ∧ m.on GRD_STATUS.ARMED = false ∧ m.grd.stage = none ∧ m.rd GRD_CYCLE.VALUE = c
          ∧ m.rd GRD_STATUS.STATE = (if st = 1 then 2 else st)
          ∧ (g.node < 256 → g.count < 256 → m.rd GRD_SELF.VALUE = g.node + 256 * g.count)
          ∧ (∀ k : Fin 64, m.reg (0x4001E100 + 4 * k) = BitVec.ofNat 32 (nth g.own k)
              ∧ m.reg (0x4001E200 + 4 * k) = BitVec.ofNat 32 (nth g.tko k)))))

/-! ### BAREL cycle -/

/-- R98 to R102, R110, R139, R507: the lead's beacon goes out in an open P0 and its cycle becomes the next; a beacon of the composition received
governs the next cycle, one whose CRC fails is counted alone; a cycle without one counts BMISS and coasts with no grant, sixteen stop the slots.
Where the counter stands after a beacon is the model's reading (log entry 18). -/
def Obligations.Beacons : Prop :=
  ∀ (s : State) (by_ : Initiator) (v : Word) (r : BeaconRx), s.node.running = true →
    let n := s.node
    let c := le r.bytes 2 4
    let hears := n.on (LINE_CTRL.EN r.att) = true ∧ n.rd (LINE_CTRL.RXMODE r.att) ≠ 0 ∧ n.attShed r.att = false
    let sends := (n.isLead = true ∨ n.on INA_STATUS.DEPUTY = true) ∧ n.committed = true ∧ n.on BAR_CTRL.EN = true ∧ n.posOpen n.cycle 0 = true
    let crcBad := r.bytes.length ≠ 120 ∨ crc32 (r.bytes.take 108) ≠ le r.bytes 108 4
    Does (.barEnable by_ v) s (fun m => m.reg BAR_CTRL.EN.addr = v &&& 0x00FFFF71
        ∧ (n.on BAR_CTRL.EN = false → v.getLsbD 0 = true → n.rd GRD_STATUS.STATE = 0 → m.rd GRD_STATUS.STATE = (if n.rd GRD_COMPID.VALUE = 0 then 1 else 2))
        ∧ (n.on BAR_CTRL.EN = true → v.getLsbD 0 = false → m.rd GRD_STATUS.STATE = 0))
    ∧ (sends → Does .beaconSend s (fun m => (∃ b, (⟨.beacon, b⟩ : Emission) ∈ m.out ∧ le b 0 1 = 1 ∧ le b 2 4 = n.cycle ∧ le b 6 1 = n.cycle % 16
          ∧ le b 8 4 = n.compId ∧ le b 108 4 = crc32 (b.take 108))
        ∧ m.cycle = (n.cycle + 1) % 4294967296 ∧ m.on BAR_STATUS.BEACON = true ∧ m.on BAR_STATUS.COAST = false ∧ m.bar.coastRun = 0))
    ∧ (¬ sends → Answers .beaconSend s n)
    ∧ (hears → n.checkBeacon r.bytes = .own → n.on BAR_CTRL.EN = true → n.bar.lastBeacon ≠ some c → n.isLead = false →
        n.on INA_STATUS.DEPUTY = false → n.inaState = 6 → n.on INA_STATUS.INAUG = true → slice r.bytes 80 28 = List.replicate 28 0 →
        Does (.beaconReceive r) s (fun m => m.cycle = (c + 1) % 4294967296 ∧ m.on BAR_STATUS.BEACON = true ∧ m.on BAR_STATUS.COAST = false
          ∧ m.bar.grants = beaconGrants r.bytes ∧ m.bar.govGen = le r.bytes 32 2 ∧ m.bar.lastBeacon = some c ∧ m.bar.coastRun = 0))
    ∧ (hears → crcBad → Answers (.beaconReceive r) s (n.count BAR_CNT_BCRC.VALUE))
    ∧ (¬ hears → Answers (.beaconReceive r) s n)
    ∧ (n.quietAt n.cycle = false → n.bar.coastRun ≠ 2 → Does .beaconMiss s (fun m => m.cycle = (n.cycle + 1) % 4294967296
        ∧ m.on BAR_STATUS.BEACON = false ∧ m.on BAR_STATUS.COAST = true ∧ m.bar.grants = [] ∧ m.bar.coastRun = n.bar.coastRun + 1
        ∧ Counted BAR_CNT_BMISS.VALUE n m ∧ m.on BAR_EVT.BMISS = true))
    ∧ (n.quietAt n.cycle = true → Does .beaconMiss s (fun m => m.cycle = (n.cycle + 1) % 4294967296 ∧ m.bar.coastRun = n.bar.coastRun
        ∧ m.rd BAR_CNT_BMISS.VALUE = n.rd BAR_CNT_BMISS.VALUE))
    ∧ (16 ≤ n.bar.coastRun → Does .coastLimit s (fun m => m = { n with bar := { n.bar with coastStop := true } }))
    ∧ (n.bar.coastRun < 16 → Answers .coastLimit s n)

/-- R109 to R113, R116, R118, R119, R123, R124, R126, R127: slots, spares, contention and roll-call. A slot goes out once for an entry the
node may use in the cycle, with its header of R112; a received slot's unit with right CRC and tag is delivered, a header with a wrong CRC counted.
Claims are confirmed, refused and released; an attempt without an answer backs off; S49 shows who is there. -/
def Obligations.SlotsAndSpares : Prop :=
  ∀ (s : State) (args : List Byte) (entry node : Nat) (r : SlotRx) (u : UnitSeen) (f : ContRx) (k : Contender) (h : SpareHold) (rc : RollCallRx)
    (cell : Fin 4), s.node.running = true →
    let n := s.node
    let e := le args 1 2 % 512
    let uid := le args 5 8
    let result := le args 0 1
    let p := r.payload
    let hears := n.on (LINE_CTRL.EN r.att) = true ∧ n.rd (LINE_CTRL.RXMODE r.att) = 1 ∧ n.attShed r.att = false ∧ n.on BAR_CTRL.EN = true
    let hdr := crc32 (p.take 36) = le p 36 4
    let b := f.bytes
    let want := le b 22 2 % 512
    let good := n.checkCont b = .good ∧ le b 0 1 = 0x62 ∧ n.isLead = true ∧ n.committed = true
    let Told := fun (code : Nat) (m : Node) => m.bar.cmds.map (·.bytes) = n.bar.cmds.map (·.bytes)
      ++ [([0x01] ++ leBytes 1 code ++ leBytes 4 (le b 14 4) ++ leBytes 8 (contUid b) ++ List.replicate 14 0).take 14]
    let bo := min (k.attempt + 1) (min 6 (n.rd BAR_CTRL.BACKOFF_MAX))
    (n.maySlot entry = true → Does (.slotSend entry) s (fun m => entry ∈ m.bar.sentSlots
        ∧ ∃ x, (⟨.slot entry, x⟩ : Emission) ∈ m.out ∧ le x 0 1 = 2 ∧ le x 2 2 = entry ∧ le x 36 4 = crc32 (x.take 36)))
    ∧ (n.maySlot entry = false → Answers (.slotSend entry) s n)
    ∧ (¬ hears → Answers (.slotReceive r) s n)
    ∧ (hears → n.uce = [] → p.length = 40 → ¬ hdr → n.on CLK_STATUS.LINELOCK = true →
        n.handleOf (n.slotSender (r.att.val % 2) r.entry false p) = 255 → Answers (.slotReceive r) s (n.count BAR_CNT_HDRCRC.VALUE))
    ∧ (hears → n.uce = [] → 40 ≤ p.length → hdr → le p 24 1 % 2 = 1 → walkUnits p (min (le p 14 2) p.length) p.length 40 = [u] → u.control = true →
        le u.body 0 1 ≠ 1 → le u.body 0 1 ≠ 2 → (r.entry, u.off) ∉ n.bar.taken → crc32 (u.pre ++ u.body) = u.crc → n.bar.key ≠ [] →
        tag64 n.bar.key (p.take 12 ++ u.pre ++ u.body ++ leBytes 4 u.crc) = u.tag →
        Answers (.slotReceive r) s (({ n with bar := { n.bar with taken := n.bar.taken ++ [(r.entry, u.off)] } } : Node).control
          ⟨le p 1 1, if r.att.val % 2 = 0 then .a else .b, u.body⟩))
    ∧ (uid ≠ n.uid → Answers (.contAnswer args) s n)
    ∧ (uid = n.uid → n.bar.contenders = [k] → k.sentIn = some (le args 1 4) → result ≠ 2 → Does (.contAnswer args) s (fun m => m.bar.contenders = []
        ∧ (k.type = 0x62 → result = 1 → m.rd BAR_SPARESTAT.STATE = 4 ∧ m.on BAR_EVT.SPARE = true)))
    ∧ (uid = n.uid → Does (.spareConfirm args) s (fun m => m.rd BAR_SPARESTAT.STATE = 3 ∧ m.rd BAR_SPARESTAT.ENTRY = e ∧ m.rd BAR_SPARESTAT.NODE = result
        ∧ m.on BAR_EVT.SPARE = true ∧ m.bar.contenders = n.bar.contenders.filter (fun x => x.type ≠ 0x62)
        ∧ ((n.sch e).kind = 1 → (m.sch e).claimant = uid)))
    ∧ ((n.sch e).kind = 1 → (n.sch e).claimant = uid → Does (.spareRelease args) s (fun m => (m.sch e).claimant = 0
        ∧ (uid = n.uid → n.rd BAR_SPARESTAT.STATE = 3 → n.rd BAR_SPARESTAT.ENTRY = e → m.rd BAR_SPARESTAT.STATE = 6 ∧ m.on BAR_EVT.SPARE = true)))
    ∧ (n.bar.spares.find? (fun x => x.entry = entry) = some h → n.isLead = true → 128 ≤ Tab.get (fun _ => 0) n.bar.rcMiss (n.numOf h.uid) →
        entry < 512 → Does (.spareAbsenceRelease entry) s (fun m => (m.sch entry).claimant = 0 ∧ m.bar.spares = n.bar.spares.filter (fun x => x ≠ h)
          ∧ m.bar.cmds.map (·.bytes) = n.bar.cmds.map (·.bytes) ++ [([0x03, 0] ++ leBytes 2 entry ++ [0, 0] ++ leBytes 8 h.uid ++ List.replicate 14 0).take 14]))
    ∧ (n.on BAR_STATUS.BEACON = true → n.posOpen n.cycle 45 = true → n.bar.contenders = [k] → k.sentIn = none → k.next ≤ n.cycle →
        n.opens (kindBit k.type) = true → k.type ≠ 0x61 → n.drivers ≠ [] → Does .contentionSend s (fun m =>
          m.bar.contenders = [{ k with sentIn := some n.cycle, span := n.cycle + 4, extended := 0 }]
          ∧ (k.type = 0x62 → m.rd BAR_SPARESTAT.STATE = 1) ∧ ∃ a c x, (⟨.contention a c, x⟩ : Emission) ∈ m.out ∧ c < 4 ∧ le x 0 1 = k.type % 256))
    ∧ (n.bar.contenders = [k] → k.sentIn ≠ none → k.span < n.cycle → Does .contentionAttemptFail s (fun m =>
        ∃ t, m.bar.contenders = [{ k with attempt := k.attempt + 1, sentIn := none, next := t }]
          ∧ k.sentIn.getD 0 + 5 ≤ t ∧ t < k.sentIn.getD 0 + 5 + 2 ^ bo))
    ∧ Answers (.contbad cell) s (n.count BAR_CNT_CONTBAD.VALUE)
    ∧ (good → n.opens 2 = false → Does (.spareClaim f) s (fun m => Told 2 m ∧ m.regs = n.regs))
    ∧ (good → n.opens 2 = true → n.ina.plan = none → want ≠ 0x1FF → (n.sch want).openTo (le b 18 2) = false → n.bar.spares = [] →
        Does (.spareClaim f) s (fun m => Told 1 m ∧ m.regs = n.regs))
    ∧ (good → n.opens 2 = true → n.ina.plan = none → want ≠ 0x1FF → (n.sch want).openTo (le b 18 2) = true →
        n.dir.any (fun q => q.uid = contUid b && !q.reserved) = true → Does (.spareClaim f) s (fun m => (m.sch want).claimant = contUid b
          ∧ m.bar.spares = n.bar.spares ++ [⟨want, contUid b, n.cycle, f.cell⟩] ∧ Counted BAR_CNT_CONTOK.VALUE n m))
    ∧ (n.bar.contenders.any (fun x => x.type = 0x62) = false → Does .barSpareClaim s (fun m => m.rd BAR_SPARESTAT.STATE = 1
        ∧ m.rd BAR_SPARESTAT.ATTEMPTS = 0 ∧ m.on BAR_EVT.SPARE = true
        ∧ m.bar.contenders = n.bar.contenders ++ [⟨0x62, leBytes 2 (n.rd BAR_SPARE.ENTRY), 0, none, 0, 0, 0⟩]))
    ∧ (n.bar.contenders.any (fun x => x.type = 0x62) = true → Answers .barSpareClaim s n ∧ Does .barSpareCancel s (fun m =>
        m.rd BAR_SPARESTAT.STATE = 5 ∧ m.bar.contenders = n.bar.contenders.filter (fun x => x.type ≠ 0x62)))
    ∧ (n.nodeNum ≠ 0 → n.committed = true → n.on BAR_CTRL.EN = true → n.posOpen n.cycle 49 = true → (n.rcGroup 0 n.nodeNum).length = 7 →
        Does .rollcallSend s (fun m => m.pair.fresh = false ∧ ∃ x, (⟨.rollcall, x⟩ : Emission) ∈ m.out ∧ le x 0 1 = 0
          ∧ le x 1 2 ∈ n.rcGroup 0 n.nodeNum ∧ le x 3 2 ∈ n.rcGroup 0 n.nodeNum ∧ le x 5 2 ∈ n.rcGroup 0 n.nodeNum ∧ le x 7 1 = n.rcValue % 256))
    ∧ (n.bar.key ≠ [] → n.committed = true → n.bar.rcCycle ≠ some n.cycle → n.dir = [] → n.ina.splitTrig = false →
        Does (.rollcallReceive rc) s (fun m => m.bar.rcCycle = some n.cycle ∧ m.bar.rcSeen = [] ∧ ∀ x : Fin 128,
          bit (m.rd (BAR_RCPRES.BITS (x / 32))) (x % 32) = decide (x.val + 1 = n.nodeNum)))
    ∧ (1 ≤ node → node ≤ 128 →
        (max 1 (n.rd BAR_CTRL.RC_MISS) ≤ Tab.get (fun _ => 0) n.bar.rcMiss node → bit (n.rd (BAR_RCABS.BITS ((node - 1) / 32))) ((node - 1) % 32) = false →
          Does (.nodeAbsent node) s (fun m => bit (m.rd (BAR_RCABS.BITS ((node - 1) / 32))) ((node - 1) % 32) = true ∧ m.on BAR_EVT.ABSENT = true))
        ∧ (Tab.get (fun _ => 0) n.bar.rcMiss node < max 1 (n.rd BAR_CTRL.RC_MISS) → Answers (.nodeAbsent node) s n))

/-! ### Inauguration -/

/-- R150, R154, R156 to R162, R164, R193, R46: enabling and disabling INA, LISTEN and WAIT, the walk's frames as the walking lead and as a
called node take them, and the walk's commit. -/
def Obligations.Walk : Prop :=
  ∀ (s : State) (by_ : Initiator) (f : ContRx) (att : Fin 4) (cls : BitVec 2), s.node.running = true →
    let n := s.node
    let st := n.inaState
    let i := n.ina
    let b := f.bytes
    let uid := contUid b
    let num := le b 22 1
    let inWait := fun (m : Node) => m.ina.walkUid = 0 ∧ (n.ends = [] → m.inaState = 2) ∧ m.on GRD_STATUS.LEAD = false
    let walks := fun (m : Node) => n.ends ≠ [] → m.inaState = 3 ∧ m.isLead = true ∧ m.ina.recs.map (fun r => (r.num, r.car, r.uid)) = [(1, 1, n.uid)]
      ∧ m.ina.calling = 2 ∧ m.ina.callDue = true
    (n.keySealed = true → n.rd PAIR_STATUS.STATE ≠ 1 → st = 0 → Does (.inaEnable by_) s (fun m => m.inaState = 1 ∧ m.on INA_CTRL.EN = true
        ∧ m.on INA_STATUS.INAUG = true ∧ m.on INA_EVT.TRIG = true))
    ∧ (n.keySealed = false → Answers (.inaEnable by_) s (n.wr INA_CTRL.EN 1))
    ∧ Does (.inaDisable by_) s (fun m => m.inaState = 0 ∧ m.on INA_CTRL.EN = false ∧ m.isLead = false ∧ m.ina.junction = none ∧ m.ina.merge = none
        ∧ m.ina.outward = none ∧ m.ina.plan = none)
    ∧ (st = 1 → i.heardCand = false → Does .listenTimeout s (fun m => (n.ends = [] → inWait m) ∧ walks m))
    ∧ (st ≠ 1 ∨ i.heardCand = true → Answers .listenTimeout s n)
    ∧ (st ≠ 2 → n.committed = false → Answers (.zsenseChange att cls) s (n.wr (LINE_STATUS.ZSENSE att) cls.toNat))
    ∧ (n.committed = true → i.outward = none → n.rd (LINE_STATUS.ZSENSE att) ≠ cls.toNat → Does (.zsenseChange att cls) s (fun m =>
        m.rd (LINE_STATUS.ZSENSE att) = cls.toNat ∧ m.ina.splitTrig = true ∧ m.on INA_EVT.TRIG = true))
    ∧ (st = 3 → i.walkEnded = false → i.plan = none → i.calling ≠ 0 → i.callDue = true → n.drivers ≠ [] → Does .candSend s (fun m =>
        (∃ a x y, (⟨.contention a 0, x⟩ : Emission) ∈ m.out ∧ le x 0 1 = 0x64 ∧ le x 22 1 = i.calling % 256
          ∧ (⟨.contention a 1, y⟩ : Emission) ∈ m.out ∧ le y 0 1 = 0x65 ∧ le y 22 1 = i.calling % 256)
        ∧ m.ina.callDue = false ∧ m.rd GRD_CYCLE.VALUE = (n.rd GRD_CYCLE.VALUE + 1) % 4294967296 ∧ m.cycle = m.rd GRD_CYCLE.VALUE))
    ∧ (st ≠ 3 → Answers .candSend s n ∧ Answers .callTimeout s n)
    ∧ (n.goodCont f 0x64 →
        (st = 1 → Answers (.cand f) s { n with ina := { i with heardCand := true } })
        ∧ (st = 2 → i.walkUid = uid ∨ i.walkUid = 0 → Does (.cand f) s (fun m => m.ina.walkUid = uid ∧ m.ina.missRun = 0
            ∧ m.cycle = m.rd GRD_CYCLE.VALUE ∧ m.inaState = 2))
        ∧ (st = 3 → uid ≠ 0 → stronger (contPrio b) uid i.walkPrio i.walkUid = true → Does (.cand f) s (fun m => m.inaState = 2
            ∧ m.ina.walkUid = uid ∧ m.ina.walkPrio = contPrio b ∧ m.isLead = false)))
    ∧ (n.goodCont f 0x65 → st = 2 → i.walkUid = 0 ∨ i.walkUid = uid → num ∉ i.answers → num ≠ 0 → Does (.callFrame f) s (fun m =>
        m.inaState = 4 ∧ m.ina.walkUid = uid ∧ m.ina.taken = num ∧ m.ina.heardAt = f.att.val))
    ∧ (n.goodCont f 0x66 → st = 3 → i.walkEnded = false → num = i.calling → (∀ r, r ∈ i.recs → r.num ≠ num) → le b 24 8 = 0 → i.cars < 64 →
        num ≠ 128 → Does (.answer f) s (fun m => m.ina.calling = num + 1 ∧ m.ina.attempt = 1 ∧ m.ina.callDue = true ∧ m.ina.cars = i.cars + 1
          ∧ ∃ r, m.ina.recs = i.recs ++ [r] ∧ r.num = num ∧ r.car = i.cars + 1 ∧ r.chain = num ∧ r.uid = uid ∧ r.delay = min 4095 (f.comb.toNat / 8)))
    ∧ (n.goodCont f 0x66 → st ≠ 3 → Answers (.answer f) s { n with ina := { i with answers := i.answers ++ [num] } })
    ∧ (st = 3 → i.walkEnded = false → i.calling ≠ 0 → i.callDue = false →
        (i.attempt < 3 → Answers .callTimeout s { n with ina := { i with attempt := i.attempt + 1, callDue := true } })
        ∧ (3 ≤ i.attempt → Answers .callTimeout s { n with ina := { i with calling := 0 } }))
    ∧ (n.goodCont f 0x67 → st = 4 → i.walkUid = uid → i.taken = num → Does (.endFrame f) s (fun m => m.on INA_STATUS.END = true
        ∧ m.ina.outward = some (if i.heardAt < 2 then 2 else 0)))
    ∧ (st = 4 → Does .leadCandLoss s (fun m => (n.ends = [] → inWait m) ∧ walks m))
    ∧ (st ≠ 4 → st ≠ 2 → Answers .leadCandLoss s n)
    ∧ (n.goodCont f 0x68 → st = 4 → i.walkUid = uid → Answers (.dirrec f) s { n with ina := { i with
        dirNew := i.dirNew.filter (fun r => r.num ≠ (dirOf (slice b 22 16)).num) ++ [dirOf (slice b 22 16)] } })
    ∧ (n.goodCont f 0x69 → st = 4 → i.walkUid = uid → i.plan = none →
        let sch := n.schFor 0 i.dirNew
        (i.dirNew.any (fun r => r.uid = n.uid && !r.reserved) = true → i.dirNew.length = le b 42 1 → anyConflict sch.1 = false → schCrc sch.1 = le b 38 4 →
          n.cycle + 2 ≤ le b 22 4 → Does (.ccommit f) s (fun m => m.on GRD_STATUS.ARMED = true ∧ m.grd.commitAt = some (le b 22 4)
            ∧ ∃ p, m.ina.plan = some p ∧ p.m = le b 22 4 ∧ p.newId = le b 26 4 ∧ p.nonce = le b 30 8 ∧ p.dir = i.dirNew ∧ p.sch = sch.1 ∧ p.ready = true))
        ∧ (i.dirNew.any (fun r => r.uid = n.uid) = false → Does (.ccommit f) s (fun m => m.inaState = 1))
        ∧ (i.dirNew.any (fun r => r.uid = n.uid) = true → i.dirNew.length = le b 42 1 → schCrc sch.1 ≠ le b 38 4 → Does (.ccommit f) s (fun m =>
            m.inaState = 1 ∧ m.on INA_EVT.SCHMIS = true ∧ Counted INA_CNT_SCHMIS.VALUE n m)))

/-- R168 to R171, R175, R183, R184, R188, R191, R194: commands of a running composition and its commits. COMMIT and COMMIT_KEY make a plan, COLD a
cycle to enter LISTEN; at cycle M a prepared node commits; the lead's renumbering, admission and renewal announce a commit 24 cycles ahead. -/
def Obligations.Commits : Prop :=
  ∀ (s : State) (by_ : Initiator) (args : List Byte) (f : ContRx) (p : CommitPlan) (r : DirRec) (c : Nat), s.node.running = true →
    let n := s.node
    let i := n.ina
    let uid := contUid f.bytes
    let lead := n.isLead = true ∧ n.committed = true ∧ i.plan = none
    let Announced := fun (kind : Nat) (dir : List DirRec) (m : Node) => m.on INA_STATUS.INAUG = true ∧ ∃ q, m.ina.plan = some q ∧ q.kind = kind
      ∧ q.m = n.cycle + 24 ∧ q.takes = n.cycle + 24 ∧ q.gen = (n.rd INA_GEN.VALUE + 1) % 65536 ∧ q.dir = dir ∧ q.crc = schCrc (n.schFor kind dir).1
    let fits := fun (kind : Nat) (dir : List DirRec) => anyConflict (n.schFor kind dir).1 = false
    let joined := markEnds (n.dir.map (fun x => if x.uid = uid then
      { x with
        reserved := false, sideB := bit (le f.bytes 30 1) 2, role := bits (le f.bytes 30 1) 0 2
        delay := if r.lead then 0 else delayOf f.comb, prio := contPrio f.bytes, cls := le f.bytes 31 2 } else x))
    let renewed := markEnds (n.dir.map (fun x => if x.uid = uid then { x with prio := contPrio f.bytes, reserved := false } else x))
    (n.isLead = false → le args 10 1 ≠ 2 → Does (.commit args) s (fun m => m.on INA_STATUS.INAUG = true ∧ ∃ q, m.ina.plan = some q ∧ q.m = le args 0 4
        ∧ q.newId = le args 4 4 ∧ q.gen = le args 8 2 ∧ q.kind = le args 10 1 ∧ q.total = le args 11 1 ∧ q.cars = le args 12 1 ∧ q.keyed = false
        ∧ q.ready = false))
    ∧ (i.plan = some p → p.keyed = false → i.dirSum = none → Answers (.commitKey args) s { n with ina := { i with
        plan := some { p with nonce := le args 0 8, takes := le args 8 4, keyed := true } } })
    ∧ (i.plan = none → Answers (.commitKey args) s n ∧ Answers .inaugurationCommit s n)
    ∧ (125000 ≤ le args 4 4 → le args 4 4 ≤ 375000 → Does (.stretch args) s (fun m => m.regs = n.regs
        ∧ m.ina.merge.map (fun g => (g.stretchCycle, g.stretchLen)) = some (le args 0 4, le args 4 4)))
    ∧ (le args 4 4 < 125000 ∨ 375000 < le args 4 4 → Answers (.stretch args) s n)
    ∧ Does (.relay args) s (fun m => m.regs = n.regs
        ∧ m.ina.merge.map (fun g => (g.zA, g.zB, g.juncNode1, g.juncNode2)) = some (le args 0 4, le args 4 4, le args 8 1, le args 9 1))
    ∧ Does (.cold args) s (fun m => m.ina.coldAt = some (le args 0 4) ∧ m.on INA_EVT.TRIG = true)
    ∧ (i.coldAt = some c → c ≤ n.cycle → Does .coldEffective s (fun m => m.inaState = 1 ∧ m.ina.coldAt = none ∧ m.on INA_STATUS.INAUG = true))
    ∧ (i.coldAt = some c → n.cycle < c → Answers .coldEffective s n)
    ∧ (lead → Does (.inaCmdCold by_) s (fun m => m.ina.coldAt = some ((n.cycle + 16) % 4294967296)
        ∧ ∃ k, k ∈ m.bar.cmds ∧ le k.bytes 0 1 = 0x14 ∧ le k.bytes 1 4 = (n.cycle + 16) % 4294967296))
    ∧ (n.isLead = false → Answers (.inaCmdCold by_) s n ∧ Answers (.inaCmdRenumber by_) s n)
    ∧ (lead → fits 3 n.renumbered → Does (.inaCmdRenumber by_) s (Announced 3 n.renumbered)
        ∧ (i.splitTrig = true → Does .renumberCommitStart s (Announced 3 n.renumbered)))
    ∧ (i.splitTrig = false → Answers .renumberCommitStart s n)
    ∧ (n.goodCont f 0x60 → lead → n.opens 0 = true → n.dir.find? (fun x => x.uid = uid) = some r → fits 1 joined →
        Does (.join f) s (fun m => Announced 1 joined m ∧ Counted BAR_CNT_CONTOK.VALUE n m))
    ∧ (n.goodCont f 0x63 → lead → n.opens 3 = true → n.dir.any (fun x => x.uid = uid) = true → fits 1 renewed →
        Does (.hello f) s (fun m => Announced 1 renewed m ∧ Counted BAR_CNT_CONTOK.VALUE n m))
    ∧ (n.inaState = 6 → 16 ≤ i.genMisRun → n.bar.contenders.any (fun k => k.type = 0x63) = false → Does .helloSend s (fun m => m.regs = n.regs
        ∧ m.bar.contenders = n.bar.contenders ++ [⟨0x63, leBytes 2 (n.rd INA_GEN.VALUE), 0, none, 0, 0, 0⟩]))
    ∧ (i.plan = some p → p.ready = true → n.cycle = p.m → p.dir.find? (fun x => x.uid = n.uid && !x.reserved) = some r →
        p.newId < 4294967296 → p.takes < 4294967296 → p.gen < 65536 → r.num < 256 → Does .inaugurationCommit s (fun m =>
          m.inaState = (if p.kind = 2 then 7 else 6) ∧ m.cycle = p.takes ∧ m.compId = p.newId ∧ m.rd INA_GEN.VALUE = p.gen ∧ m.nodeNum = r.num
          ∧ m.dir = p.dir ∧ m.isLead = r.lead ∧ m.ina.plan = none ∧ m.on INA_STATUS.INAUG = false ∧ m.on INA_EVT.COMMIT = true))

/-- R173, R176, R283: the directory units: records of nodes, publications and streams go into the lists, from the lead only, or from a member
at the lead, which answers with its list. -/
def Obligations.DirectoryUnits : Prop :=
  ∀ (s : State) (u : UnitRx) (p : Nat × Nat × Nat × Nat × Bool) (q : Nat × Nat × Nat × Bool), s.node.running = true →
    let n := s.node
    let i := n.ina
    let b := u.body
    let fromLead := u.node = n.bar.leadNum
    let first := le b 2 2
    (pubRecords b = [p] → n.sig.pubs = [] → p.2.2.1 ≠ 0 →
      (n.isLead = true → n.uidOf u.node ≠ 0 → Does (.pubDecl u) s (fun m => m.sig.pubs = [⟨p.1, p.2.2.1, p.2.1, n.uidOf u.node, false, false⟩]
          ∧ m.ina.units.length = i.units.length + 1))
      ∧ (fromLead → n.uidOf p.2.2.2.1 ≠ 0 → Does (.dirPub u) s (fun m =>
          m.sig.pubs = [⟨p.1, p.2.2.1, p.2.1, n.uidOf p.2.2.2.1, p.2.2.2.2, false⟩])))
    ∧ (streamRecords b = [q] → n.aud.streams = [] →
      (n.isLead = true → n.uidOf u.node ≠ 0 → Does (.streamDecl u) s (fun m => m.aud.streams = [⟨q.1, q.2.1, n.uidOf u.node, false⟩]
          ∧ m.ina.units.length = i.units.length + 1))
      ∧ (fromLead → n.uidOf q.2.2.1 ≠ 0 → Does (.dirStream u) s (fun m => m.aud.streams = [⟨q.1, q.2.1, n.uidOf q.2.2.1, q.2.2.2⟩])))
    ∧ (n.isLead = false → Answers (.pubDecl u) s n ∧ Answers (.streamDecl u) s n)
    ∧ (le b 1 1 = 1 → b.length = 20 → fromLead → i.plan = none →
        Answers (.dirNode u) s { n with ina := { i with
          dirNew := i.dirNew.filter (fun r => r.num ≠ (dirOf (slice b 4 16)).num) ++ [dirOf (slice b 4 16)] } }
        ∧ Answers (.dirSch u) s { n with ina := { i with
          schNew := i.schNew.filter (fun x => x.1 ≠ first) ++ [(first, ⟨le b 4 4, le b 8 4, le b 12 4, le b 16 4⟩)] } })
    ∧ (b.length = 20 → fromLead → i.plan = none → Answers (.dirSum u) s { n with ina := { i with
        dirSum := some (le b 4 2, le b 6 4, le b 10 4, le b 14 4) } })
    ∧ (¬ fromLead → Answers (.dirNode u) s n ∧ Answers (.dirSch u) s n ∧ Answers (.dirSum u) s n ∧ Answers (.dirPub u) s n
        ∧ Answers (.dirStream u) s n)

/-- R150, R164, R177 to R184, R194: coupling. A JBEACON on an outward attachment counts as foreign and gives the junction; the junction's frames go
between the junction node and the lead; the leads decide, refuse or commit; the relays close at Z_A and Z_B, and a merge is abandoned before M. -/
def Obligations.Merging : Prop :=
  ∀ (s : State) (by_ : Initiator) (f : ContRx) (u : UnitRx) (att : Fin 4) (j : Junction) (g : MergeRun) (x : Nat × List Byte), s.node.running = true →
    let n := s.node
    let i := n.ina
    let b := f.bytes
    let ph := n.rd INA_STATUS.MPHASE
    let was := Tab.get (fun _ => (0, 0, 0)) n.bar.foreign f.att.val
    let run := if was.1 = le b 10 4 ∧ n.cycle < was.2.2 + 16 then min 255 (n.rd (LINE_STATUS.FOREIGN_RUN f.att) + 1) else 1
    let last := (Tab.get (fun _ => (0, 0, 0)) n.bar.foreign att.val).2.2
    let refused := fun (v : Nat) (m : Node) => m.rd INA_STATUS.REFUSE = v ∧ m.on INA_EVT.MERGEREF = true ∧ Counted INA_CNT_MERGEREF.VALUE n m
      ∧ m.ina.merge = none ∧ m.rd INA_STATUS.MPHASE = 0
    let mayBe := n.outAtt = some att.val ∧ n.committed = true ∧ n.on INA_STATUS.END = true ∧ ph < 4
    let r := u.body.drop 4
    let jr := juncOf r i.junction 0 u.node n.cycle none
    (i.merge = some g → n.rd INA_STATUS.MPHASE = 4 → g.closedA = false → g.zA ≤ n.cycle → Does (.relayClosure .a) s (fun m =>
        m.ina.merge = some { g with closedA := true } ∧ m.rd INA_STATUS.MPHASE = 5
        ∧ (n.nodeNum ≠ 0 → n.nodeNum = g.juncNode1 ∨ n.nodeNum = g.juncNode2 → m.on (LINE_CTRL.RELAY_OPEN 0) = false)))
    ∧ (i.merge = some g → n.rd INA_STATUS.MPHASE = 5 → g.closedA = true → g.closedB = false → g.zB ≤ n.cycle → Does (.relayClosure .b) s (fun m =>
        m.ina.merge = none ∧ m.ina.junction = none ∧ m.rd INA_STATUS.MPHASE = 6 ∧ Counted INA_CNT_MERGES.VALUE n m ∧ m.on INA_EVT.MERGED = true
        ∧ m.inaState = (if n.inaState = 7 then 6 else n.inaState) ∧ m.on INA_STATUS.DEPUTY = false))
    ∧ (i.merge = none → ∀ l, Answers (.relayClosure l) s n)
    ∧ (n.outAtt = some att.val → 8 ≤ n.rd (LINE_STATUS.FOREIGN_RUN att) → i.merge = none → n.committed = true → i.junction = some j → n.isLead = false →
        n.lull.ring = none → Does (.inaCmdMerge by_) s (fun m => m.inaState = 7 ∧ m.rd INA_STATUS.MPHASE = (if ph = 0 then 1 else ph)
          ∧ m.on INA_EVT.TRIG = true ∧ m.ina.units = i.units ++ [[0x37, 0, 0, 0] ++ i.juncFrame]
          ∧ m.ina.outFrames.map (·.1) = i.outFrames.map (·.1) ++ n.dir.map (fun _ => 0x6B)))
    ∧ (n.outAtt = none → Answers (.inaCmdMerge by_) s n ∧ Answers .jbeaconCycle s n)
    ∧ (mayBe → i.outFrames = [x] → i.junction = none → Does .jbeaconCycle s (fun m => m.ina.outFrames = [] ∧ m.regs = n.regs
        ∧ ∃ y, m.out = n.out ++ [⟨.contention att.val 0, y⟩] ∧ le y 0 1 = x.1 % 256 ∧ le y 10 4 = n.compId))
    ∧ (mayBe → i.outFrames = [] → i.junction = none → Does .jbeaconCycle s (fun m => m.regs = n.regs ∧ (m.out = n.out
        ∨ ∃ c y, m.out = n.out ++ [⟨.contention att.val c, y⟩] ∧ c < 4 ∧ le y 0 1 = 0x6A)))
    ∧ (n.goodCont f 0x6A → n.inaState = 1 → Answers (.jbeacon f) s { n with ina := { i with heardCand := true } })
    ∧ (n.goodCont f 0x6A → n.committed = true → ph < 4 → n.rd (LINE_CTRL.SIDE f.att) = 2 → run ≠ 8 → Does (.jbeacon f) s (fun m =>
        m.ina.junction.map (fun q => (q.id, q.nonce, q.prio)) = some (le b 10 4, le b 22 8, contPrio b) ∧ m.rd INA_JUNCID.VALUE = le b 10 4
        ∧ m.rd (LINE_STATUS.FOREIGN_RUN f.att) = run ∧ Counted BAR_CNT_STRANGER.VALUE n m))
    ∧ (last + 16 ≤ n.cycle → Answers (.foreignRunReset att) s (n.wr (LINE_STATUS.FOREIGN_RUN att) 0))
    ∧ (n.cycle < last + 16 → Answers (.foreignRunReset att) s n)
    ∧ (ph < 4 → Does .mergeAbandon s (fun m => m.ina.merge = none ∧ m.ina.junction = none ∧ m.rd INA_STATUS.MPHASE = 0
        ∧ m.inaState = (if n.inaState = 7 then 6 else n.inaState)))
    ∧ (4 ≤ ph → Answers .mergeAbandon s n)
    ∧ (n.isLead = false → (n.goodCont f 0x6B → Answers (.jlist f) s (n.inaUnit ([0x37, 0, 0, 0] ++ b)))
        ∧ (n.goodCont f 0x6C → Answers (.jdecide f) s (n.inaUnit ([0x37, 0, 0, 0] ++ b)))
        ∧ (n.goodCont f 0x6D → le b 26 1 = 0 → Answers (.jack f) s (n.inaUnit ([0x37, 0, 0, 0] ++ b)))
        ∧ Answers (.jreport u) s n)
    ∧ (n.isLead = true → n.goodCont f 0x6B → i.junction = some j → n.winsOver j = false → Does (.jlist f) s (fun m =>
        ∃ q, m.ina.junction = some q ∧ q.id = j.id ∧ q.total = le b 38 1
          ∧ q.records = j.records.filter (fun y => y.num ≠ (dirOf (slice b 22 16)).num) ++ [dirOf (slice b 22 16)]))
    ∧ (n.isLead = true → u.body.length = 60 → le r 0 1 = 0x6A → n.winsOver jr = false → Does (.jreport u) s (fun m => m.ina.junction = some jr
        ∧ m.rd INA_STATUS.MPHASE = (if ph = 0 then 1 else ph)))
    ∧ (u.node = n.bar.leadNum → n.outAtt = some att.val → u.body.length = 27 → le u.body 26 1 ≠ 0x6D → Answers (.jsend u) s { n with ina := { i with
        outFrames := i.outFrames ++ [(le u.body 26 1, slice u.body 4 22)] } })
    ∧ (n.isLead = true → n.goodCont f 0x6C → i.junction = some j → n.winsOver j = false → n.mergeVerdict { j with busy := false } ≠ 0 →
        Does (.jdecide f) s (refused (n.mergeVerdict { j with busy := false })))
    ∧ (n.isLead = true → n.goodCont f 0x6D → i.junction = some j → i.merge = some g → g.wins = true → g.acked = false →
        (le b 26 1 ≠ 0 → le b 26 1 < 8 → Does (.jack f) s (refused (le b 26 1)))
        ∧ (le b 26 1 = 0 → le b 22 4 = g.newId → Does (.jack f) s (fun m => m.ina.merge.map (·.acked) = some true
            ∧ m.inaState = (if n.inaState = 6 then 7 else n.inaState))))
    ∧ (i.junction = some j → i.merge = some g → g.wins = true → g.acked = false →
        (g.sentAt + 8 ≤ n.cycle → j.own = n.nodeNum → Does .jdecideTimeout s (fun m => m.regs = n.regs
          ∧ m.ina.merge = some { g with m := n.cycle + 32, zA := n.cycle + 48, zB := n.cycle + 64, sentAt := n.cycle }
          ∧ m.ina.outFrames.map (·.1) = i.outFrames.map (·.1) ++ [0x6C]))
        ∧ (n.cycle < g.sentAt + 8 → Answers .jdecideTimeout s n))

/-! ### Host port and register space -/

/-- R9, R675, R677, R684, R686, R596 to R599: the register space as an initiator meets it, and the host port's transactions: a write or a read of
one word, a status, a wrong CRC, a refusal, an abort, each leaving its status byte for the next transaction. How many fill bytes precede
an answer is free (log entry 53). -/
def Obligations.RegisterSpace : Prop :=
  ∀ (s : State) (by_ : Initiator) (a : Nat) (v : Word) (d : RegSpec) (mode3 : Bool) (bs : List Byte), s.node.running = true →
    let n := s.node
    let w := be bs 2 4
    let whole := fun (cmd : Nat) => be bs 0 1 = cmd ∧ hostLength bs ≤ bs.length ∧ hostCrcOk bs = true
    let one := hostWords bs = 1 ∧ w % 4 = 0
    let Status := fun (m : Node) (x : Nat) => m.rd SYS_HOSTSTAT.NEXT = 0xA0 + x ∧ m.on SYS_HOSTSTAT.MODE3 = mode3
    let first := leBytes 1 (n.rd SYS_HOSTSTAT.NEXT)
    (a ∈ eventWords → specOf a = some d → Does (.registerWrite by_ a v) s (fun m => m.reg a
        = ((n.reg a &&& ~~~ BitVec.ofNat 32 d.rw) ||| (v &&& BitVec.ofNat 32 d.rw)) &&& ~~~ (v &&& BitVec.ofNat 32 d.w1c)))
    ∧ (isReg a = true → inBlock a = true → a % 4 = 0 → specOf a = none → Does (.registerWrite by_ a v) s (fun m =>
        Counted SYS_CNT_UNASSIGN.VALUE n m ∧ m.on SYS_EVT.UNASSIGN = true))
    ∧ (isReg a = false ∨ inBlock a = false ∨ a % 4 ≠ 0 → Does (.registerWrite by_ a v) s (fun m => m.on SYS_EVT.BUSERR = true))
    ∧ (∀ r, r ∈ clearRows → ∀ i, i < r.insts → a = r.addr + r.instStride * i → Does (.counterClear by_ a v) s (fun m =>
        ∀ k, k < r.count → m.reg (r.first + r.instStride * i + 4 * k) = (if bit v.toNat k then 0 else n.reg (r.first + r.instStride * i + 4 * k))))
    ∧ (clearOf a = none → Answers (.counterClear by_ a v) s n)
    ∧ (whole 1 → one → n.uce = [] → n.sramMay .host w 4 = true → Does (.hostWrite mode3 bs) s (fun m => m.memLe w 4 = be bs 6 4
        ∧ (∀ x, x < w ∨ w + 4 ≤ x → m.memByte x = n.memByte x) ∧ Status m 1 ∧ Counted SYS_CNT_HOSTOK.VALUE n m ∧ m.out = n.out ++ [⟨.host, first⟩]))
    ∧ (whole 1 → hostWords bs = 1 → n.hostMayWrite .host w = false ∨ w % 4 ≠ 0 → Does (.hostWrite mode3 bs) s (fun m => Status m 4
        ∧ Counted SYS_CNT_HOSTREF.VALUE n m ∧ m.on SYS_EVT.HOSTREF = true ∧ m.on SYS_EVT.BUSERR = true))
    ∧ (whole 2 → one → isReg w = true → inBlock w = true → (specOf w).isSome = true → w ≠ MSG_HGET.DESC.addr → w ≠ EVR_CLRCHAL_LO.VALUE.addr →
        Does (.hostRead mode3 bs) s (fun m => Status m 0 ∧ Counted SYS_CNT_HOSTOK.VALUE n m
          ∧ ∃ k, k < 9 ∧ m.out = n.out ++ [⟨.host, first ++ List.replicate k 0xFF ++ hostMarked (0x5A :: beBytes 4 (n.look w).toNat)⟩]))
    ∧ (whole 2 → one → isReg w = false → isSram w = false → Does (.hostRead mode3 bs) s (fun m => Status m 4 ∧ m.on SYS_EVT.HOSTREF = true
        ∧ ∃ k, k < 9 ∧ (⟨.host, first ++ (List.replicate k 0xFF ++ hostMarked [0xE1])⟩ : Emission) ∈ m.out))
    ∧ (whole 3 → Does (.hostStatus mode3 bs) s (fun m => Status m 0 ∧ Counted SYS_CNT_HOSTOK.VALUE n m ∧ m.mem = n.mem
        ∧ m.out = n.out ++ [⟨.host, first ++ hostMarked [0x5A]⟩]))
    ∧ (be bs 0 1 = 3 → hostLength bs ≤ bs.length → hostCrcOk bs = false → Does (.hostStatus mode3 bs) s (fun m => Status m 2
        ∧ Counted SYS_CNT_HOSTCRC.VALUE n m ∧ m.on SYS_EVT.HOSTCRC = true))
    ∧ (bs.length < hostLength bs → Does (.hostAbort mode3 bs) s (fun m => Status m 8 ∧ Counted SYS_CNT_HOSTABT.VALUE n m ∧ m.on SYS_EVT.HOSTABT = true))
    ∧ (hostLength bs ≤ bs.length → Answers (.hostAbort mode3 bs) s n)

/-! ### Messages -/

/-- R33, R34, R236, R242, R243, R245, R249, R250, R260, R262, R263, R278: the sender's side: opening flows, submission, acceptance and the ring; withdrawal,
lifetime, orphans and retransmission; the host's queue. -/
def Obligations.MessagesSent : Prop :=
  ∀ (s : State) (by_ : Initiator) (v : Word) (flow : Fin 256) (f seq t : Nat) (x : OutMsg) (rest : List AccItem) (p : JPiece × Nat)
    (ch : List (JPiece × Nat)), s.node.running = true →
    let n := s.node
    let hf := n.rd MSG_HPUT0.FLOW
    let hseq := n.rd (MSG_OFW4.NEXTSEQ hf)
    let code := n.submitCode 8 hf (n.rd MSG_HPUT0.LENGTH) (n.rd MSG_HPUT2.LIFETIME) v.toNat
    let q := n.rd MSG_HQ.QUEUE
    let read := ((n.dq q).filter (·.read)).length
    let of_ := n.rd MSG_OFSEL.FLOW
    let if_ := n.rd MSG_IFSEL.FLOW
    let l := n.outMsgs flow
    let all := memberBits (n.members flow)
    let found := l.find? (fun m => m.seq = v.toNat && m.accepted && !m.reported) = some x
    let none_ := l.find? (fun m => m.seq = v.toNat && m.accepted && !m.reported) = none
    let reach := x.held ||| x.delivered ||| x.killed
    let Maps := fun (m : Node) (g : OutMsg → OutMsg) => m.outMsgs flow = l.map (fun y => if y.seq = v.toNat then g y else y)
    let Kills := fun (c : KillCause) (m : Node) => m.msg.probes = n.msg.probes ++ [(flow.val, v.toNat, true)]
      ∧ Maps m (fun y => { y with cause := some c, killing := true, lastProbe := n.cycle })
    let fresh := x.killing = false ∧ x.transmitted = true ∧ x.held = 0 ∧ x.delivered = 0 ∧ all ≠ 0
    let ours := n.rd MSG_HWDR0.FLOW = flow ∧ n.rd (MSG_OFW0.OWNER flow) = 8 ∧ (n.rd (MSG_OFW0.DKIND flow) = 1 ∨ n.rd (MSG_OFW0.DKIND flow) = 2)
    let ring := n.on MSG_CTRL.PERSIST = true ∧ n.on (QSPI_STATUS.READY 1) = true
    ((n.inFlow if_).msgs = [] → Does (.flowOpen by_ true v) s (fun m => m.reg (MSG_IFW0.DQ if_).addr = v &&& 0x8000FF1F))
    ∧ (n.outMsgs of_ = [] → Does (.flowOpen by_ false v) s (fun m => m.reg (MSG_OFW0.DKIND of_).addr = v &&& 0x003FFF7F
        ∧ (v.toNat % 4 = 1 ∨ v.toNat % 4 = 2 → Tab.get (fun _ => 0) n.msg.flowSrc of_ = 0 → Tab.get (fun _ => 0) m.msg.flowSrc of_ = n.uid)))
    ∧ (code = 0 → Does (.hostSubmit by_ v) s (fun m => m.rd MSG_HRES.CODE = 0 ∧ m.rd MSG_HSEQ.SEQ = hseq
        ∧ (m.outMsgs hf).map (·.seq) = (n.outMsgs hf).map (·.seq) ++ [hseq] ∧ m.msg.accq = n.msg.accq ++ [.outbound hf hseq]
        ∧ m.rd (MSG_OFW4.NEXTSEQ hf) = seqAdd hseq 1 ∧ Counted MSG_CNT_SUBMIT.VALUE n m))
    ∧ (code ≠ 0 → Does (.hostSubmit by_ v) s (fun m => m.rd MSG_HRES.CODE = code ∧ m.outMsgs hf = n.outMsgs hf ∧ Counted MSG_CNT_REFUSED.VALUE n m))
    ∧ (n.msg.accq = [] ∨ n.msg.heldAcc = true → Answers .acceptance s n)
    ∧ (n.msg.accq = .outbound f seq :: rest → n.msg.heldAcc = false → n.acceptMode = 2 ∨ (n.acceptMode = 1 ∧ n.jrnlWaits = false) → seq < 4294967296 →
        Does .acceptance s (fun m => m.msg.accq = rest ∧ m.rd (MSG_OFW5.ACCSEQ f) = seq ∧ Counted MSG_CNT_ACCEPT.VALUE n m
          ∧ (m.outMsgs f).map (fun y => (y.seq, y.accepted)) = (n.outMsgs f).map (fun y => (y.seq, y.accepted || decide (y.seq = seq)))))
    ∧ (n.msg.accq = .outbound f seq :: rest → n.acceptMode = 0 → Answers .acceptance s n)
    ∧ (n.rd (MSG_DQ.OWNER q) = 8 → read < 16 → read < (n.dq q).length → Does (.msgHget by_) s (fun m =>
        m.rd MSG_HGET.DESC = dqAddr q (Tab.get (fun _ => 0) n.msg.qHead q + read) % 4294967296
        ∧ (m.dq q)[read]? = (n.dq q)[read]?.map (fun d => { d with read := true })))
    ∧ (n.rd (MSG_DQ.OWNER q) ≠ 8 ∨ 16 ≤ read ∨ (n.dq q).length ≤ read → Answers (.msgHget by_) s (n.wr MSG_HGET.DESC 0))
    ∧ (n.rd (MSG_DQ.OWNER q) = 8 → n.acceptMode ≠ 0 → 0 < n.rd (MSG_DQ.READ q) → Does (.msgHack by_) s (fun m =>
        m.msg.accq = n.msg.accq ++ [.hostAck q] ∧ m.dq q = n.dq q))
    ∧ (ours → none_ → Does (.msgHwdr by_ v) s (fun m => m.rd MSG_HRES.CODE = 10 ∧ m.rd MSG_HSEQ.SEQ = v.toNat ∧ m.msg.out = n.msg.out))
    ∧ (ours → found → fresh → Does (.msgHwdr by_ v) s (fun m => m.rd MSG_HRES.CODE = 0 ∧ m.rd MSG_HSEQ.SEQ = v.toNat ∧ Kills .withdrawn m))
    ∧ (l.find? (fun m => m.seq = v.toNat && m.accepted && !m.reported && decide (m.life ≠ 0)) = some x → fresh →
        Does (.lifetimeExpiry flow v) s (Kills .expired))
    ∧ (none_ → Answers (.lifetimeExpiry flow v) s n ∧ Answers (.retransmitTimeout flow v) s n)
    ∧ (found → reach = 0 → all ≠ 0 → x.transmitted = true →
        (x.killing = false → Does (.retransmitTimeout flow v) s (fun m => Maps m (fun y => { y with sentOff := 0, retx := true })))
        ∧ (x.killing = true → Does (.retransmitTimeout flow v) s (fun m => Maps m (fun y => { y with lastProbe := n.cycle })
            ∧ m.msg.probes = n.msg.probes ++ [(flow.val, v.toNat, true)])))
    ∧ (l = [x] → x.accepted = true → x.reported = false →
        (covers reach all = true → Answers (.probeTimer flow) s { n with msg := { n.msg with probes := n.msg.probes ++ [(flow.val, x.seq, false)] } })
        ∧ (covers reach all = false → Answers (.probeTimer flow) s n))
    ∧ (n.msg.out = [(flow.val, [x])] → x.accepted = true → x.reported = false → x.life ≠ 0 → x.expire = some t → Does .lifetimePersist s (fun m =>
        m.outMsgs flow = [{ x with life := max 1 ((t - n.now) / 1000000) }]))
    ∧ (l.find? (fun m => m.seq = v.toNat && m.killing && !m.unresolved && !m.reported) = some x → x.held = 0 → x.delivered = 0 → x.killed = 0 → n.members flow ≠ [] →
        (∀ d, d ∈ n.members flow → n.uidPresent d.2 = false) → Does (.orphanTimeout flow v) s (fun m => m.on (MSG_OFW3.UNRESOLVED flow) = true
          ∧ m.on MSG_EVT.UNRESOLVED = true ∧ Maps m (fun y => { y with unresolved := true })))
    ∧ (n.msg.changes = [] ∨ ¬ ring → Answers .journalRingWrite s n)
    ∧ (n.msg.changes = p :: ch → ring → Does .journalRingWrite s (fun m => m.msg.changes = ch ∧ m.rd MSG_DELTA.VALUE = n.rd MSG_DELTA.VALUE - p.2
        ∧ m.journal.recSeq = m.msg.recSeq))
    ∧ (n.on PAIR_STATUS.SYNC = true ∨ ¬ ring → Answers .journalRestore s n)
    ∧ (n.on PAIR_STATUS.SYNC = false → ring → n.msg.out = [] → Does .journalRestore s (fun m => m.on MSG_STATUS.RESTORED = true
        ∧ m.on MSG_EVT.RESTORED = true ∧ ∀ k y, y ∈ m.outMsgs k → y.accepted = true ∧ y.transmitted = true))

/-- R240, R254 to R257, R259, R261, R264: the receiver's side and the answers: a segment is stored, counted as a duplicate or answered NOFLOW; a whole
message asks for acceptance and is handed in sequence; acknowledgements mark and resolve messages; KILL kills what is not held. -/
def Obligations.MessagesReceived : Prop :=
  ∀ (s : State) (u : UnitRx) (flow : Fin 256) (f : Nat) (x : OutMsg) (y : InMsg) (seq : Word), s.node.running = true →
    let n := s.node
    let b := u.body
    let lives := n.on MSG_CTRL.EN = true ∧ n.isActive = true
    let sf := le b 2 1
    let uid := le b 4 8
    let q := le b 20 4
    let len := le b 24 2
    let rs := n.rd (MSG_IFW3.RS f)
    let data := b.drop 32
    let segOk := lives ∧ 33 ≤ b.length ∧ n.forUs (bit (le b 1 1) 2) (le b 12 8) = true ∧ q ≠ 0
    let Acks := fun (m : Node) (st : Nat) (fl : Option Nat) => m.msg.acks.getLast? = some ⟨uid, sf, st, fl⟩
    let src := Tab.get (fun _ => 0) n.msg.flowSrc sf
    let ackOk := lives ∧ 48 ≤ b.length ∧ src ≠ 0 ∧ uid = src
    let who := le b 12 8
    let probed := lives ∧ 32 ≤ b.length ∧ n.forUs (bit (le b 1 1) 1) (le b 12 8) = true
    let dq := n.rd (MSG_IFW0.DQ flow)
    let z := n.inFlow flow
    (¬ lives ∨ b.length < 32 → Answers (.msgSeg u) s n ∧ Answers (.msgAck u) s n ∧ Answers (.msgProbe u) s n)
    ∧ (segOk → n.inMatch uid sf = none → n.inBindable sf = none → Does (.msgSeg u) s (fun m => Counted MSG_CNT_NOFLOW.VALUE n m
        ∧ m.on MSG_EVT.NOFLOW = true ∧ Acks m 1 none))
    ∧ (segOk → n.inMatch uid sf = some f → (n.inFlow f).recorded = true →
        (seqResolved rs q = true → Does (.msgSeg u) s (fun m => Counted MSG_CNT_DUP.VALUE n m ∧ Acks m 0 (some f) ∧ m.msg.inb = n.msg.inb))
        ∧ (seqResolved rs q = false → (n.inFlow f).killed = [] → (n.inFlow f).msgs = [] → seqDist rs q ≤ 64 →
            (n.storeAlloc (1 + (len + 63) / 64)).isSome = true → le b 26 2 = 0 → data.length = len → n.acceptMode ≠ 0 → Does (.msgSeg u) s (fun m =>
              Counted MSG_CNT_SEGRX.VALUE n m ∧ m.msg.accq = n.msg.accq ++ [.inbound f q]
              ∧ ∃ w, (m.inFlow f).msgs = [w] ∧ w.seq = q ∧ w.len = len ∧ w.accepting = true ∧ m.memBytes (blockAddr w.block + 64) len = data)))
    ∧ (ackOk → (n.members sf).find? (fun m => m.2 = who || n.partnerUid m.2 = who) = none → Answers (.msgAck u) s (n.count MSG_CNT_NOTLISTED.VALUE))
    ∧ (ackOk → n.members sf = [(0, who)] → le b 1 1 = 0 → n.outMsgs sf = [x] → x.accepted = true → x.reported = false → x.killed = 0 →
        (seqResolved q x.seq = true → (64 ≤ seqDist x.seq q ∨ bit (le b 24 8) (seqDist x.seq q) = false) → n.on (MSG_OFW0.DELREP sf) = false →
          Does (.msgAck u) s (fun m => m.outMsgs sf = []))
        ∧ (seqResolved q x.seq = false → seqDist q x.seq ≤ 64 → bit (le b 40 8) (seqDist q x.seq - 1) = false →
            bit (le b 32 8) (seqDist q x.seq - 1) = true → x.delivered = 0 →
            Does (.msgAck u) s (fun m => (m.outMsgs sf).map (fun o => (o.seq, o.held, o.delivered)) = [(x.seq, x.held ||| 1, 0)])))
    ∧ (probed → n.inMatch uid sf = none → Does (.msgProbe u) s (fun m => Acks m 1 none ∧ m.regs = n.regs))
    ∧ (probed → n.inMatch uid sf = some f →
        (bit (le b 1 1) 0 = false → Does (.msgProbe u) s (fun m => Acks m 0 (some f) ∧ m.regs = n.regs ∧ m.msg.inb = n.msg.inb))
        ∧ (bit (le b 1 1) 0 = true → le b 24 8 = 1 → q ≠ 0 → seqResolved rs q = false → (n.inFlow f).killed = [] → (n.inFlow f).msgs = [] →
            Does (.msgProbe u) s (fun m => Counted MSG_CNT_KILLED.VALUE n m ∧ Acks m 0 (some f)
              ∧ (if q = seqAdd rs 1 then m.rd (MSG_IFW3.RS f) = q else (m.inFlow f).killed = [q]))))
    ∧ (n.on MSG_CTRL.EN = true → z.msgs = [y] → y.held = true → y.handed = false → y.seq = seqAdd (n.rd (MSG_IFW3.RS flow)) 1 → z.killed = [] →
        (n.dq dq).length < 256 → Does (.messageHanding flow) s (fun m => (m.inFlow flow).msgs = [{ y with handed := true }]
          ∧ m.dq dq = n.dq dq ++ [⟨false, y.redelivered, flow, 0, y.seq, blockAddr y.block + 64, y.len, n.rd (MSG_IFW0.SRCFLOW flow), 0, 0, false⟩]))
    ∧ (n.on MSG_CTRL.EN = false → Answers (.messageHanding flow) s n)
    ∧ (z.msgs.find? (fun m => m.seq = seq.toNat && !m.held && !m.accepting) = some y → Does (.partialDiscard flow seq) s (fun m =>
        (m.inFlow flow).msgs = z.msgs.filter (fun w => w.seq ≠ seq.toNat) ∧ m.mem = n.mem))
    ∧ (z.msgs.find? (fun m => m.seq = seq.toNat && !m.held && !m.accepting) = none → Answers (.partialDiscard flow seq) s n)

/-! ### Signals -/

/-- R202, R205, R209, R212, R213, R215, R216, R218, R229, R230, R349, R720: declarations are judged in an inauguration and ignored outside one; ranges are judged and
map from the next flip; a view is checked and its pages allocated; a pass reads PIMG; a unit's values wait in the generation that the flip
applies. -/
def Obligations.Signals : Prop :=
  ∀ (s : State) (by_ : Initiator) (w : Fin 3) (v : Word) (e : Fin 8) (entry : Nat) (d : DataUnitRx) (p ix : Nat) (x : SigVal) (sub : SubSvc),
    s.node.running = true →
    let n := s.node
    let ds := n.rd SIG_PUBSEL.DSET
    let r := n.rd SIG_SUBSEL.RANGE
    let b := d.body
    let first := le b 4 3 % 0x100000
    let c := if n.sigNet then n.cycle else n.sig.localCyc + 1
    (n.on INA_STATUS.INAUG = false → Answers (.dataSetDeclare by_ w v) s n)
    ∧ (n.on INA_STATUS.INAUG = true → Does (.dataSetDeclare by_ w v) s (fun m =>
        m.reg (winAddr (0x4002C024 + 4 * w.val) ds) = v &&& (if w = 0 then 0x807FFFFF else if w = 1 then 0x7FFFFFFF else 0xFFFF0007)
        ∧ m.on (SIG_PUBW3.REFUSED ds) = (m.on (SIG_PUBW0.VALID ds) && decide (m.rd (SIG_PUBW1.COUNT ds) ≠ 0) && m.dsetBad ds)
        ∧ m.rd (SIG_PUBW3.ID ds) = (m.dsetBase ds).getD 0 % 1048576 ∧ m.rd SIG_STATUS.DSETS = min 255 m.dsets.length))
    ∧ Does (.subscriptionRangeWrite by_ w v) s (fun m =>
        m.reg (winAddr (0x4002C044 + 4 * w.val) r) = v &&& (if w = 0 then 0x803FFFFF else if w = 1 then 0xFFFF else 0x1FFFF)
        ∧ m.on (SIG_SUBW3.RANGEERR r) = (m.on (SIG_SUBW0.VALID r) && decide (m.rd (SIG_SUBW2.COUNT r) ≠ 0) && (m.judgeSub r m.ownCar?).2)
        ∧ m.on (SIG_SUBW3.ORPHAN r) = false ∧ m.sig.svc = n.sig.svc)
    ∧ Does (.viewWrite by_ e w v) s (fun m => m.reg (0x4002C080 + 16 * e.val + 4 * w.val) = v &&& (if w = 0 then 0xFFFF else 0x1FFFF)
        ∧ m.on (SIG_VIEWD.VIEWERR e) = (decide (m.rd (SIG_VIEWB.COUNT e) ≠ 0)
          && (decide (131072 < m.rd (SIG_VIEWC.DEST e) + m.rd (SIG_VIEWB.COUNT e)) || decide (65536 < m.rd (SIG_VIEWA.FIRST e) + m.rd (SIG_VIEWB.COUNT e))
            || (m.viewPages e).any (fun q => decide (n.pageOwner q ≠ none ∧ n.pageOwner q ≠ some e.val))))
        ∧ (m.on (SIG_VIEWD.VIEWERR e) = false → ∀ q, q ∈ m.viewPages e → m.pageOwner q = some e.val))
    ∧ (n.uce = [] → Does (.sigAssemblyPass entry) s (fun m => m.mem = n.mem ∧ m.regs = n.regs ∧ ∃ runs, m.sig.pass = some (entry, n.cycle, runs)
        ∧ ∀ q, q ∈ runs → n.rd (SIG_PUBW2.LABEL q.dset) = (n.sch entry).label ∧ q.vals = (upTo q.vals.length).map (fun k =>
            (n.pimgVal (n.rd (SIG_PUBW1.INDEX q.dset) + q.offset + k), bit (n.pimgStat (n.rd (SIG_PUBW1.INDEX q.dset) + q.offset + k)) 29))))
    ∧ (n.on SIG_CTRL.EN = false → Answers (.signalDataSet d) s n)
    ∧ (n.on SIG_CTRL.EN = true → d.node = 0 → Answers (.signalDataSet d) s (n.count SIG_CNT_FOREIGNPUB.VALUE))
    ∧ (n.on SIG_CTRL.EN = true → d.node ≠ 0 → le b 2 2 = 1 → 12 ≤ b.length →
        (n.subsBit first = false → Does (.signalDataSet d) s (fun m => m.sig.gen = n.sig.gen ∧ m.rd SIG_CNT_UNITS.VALUE = n.rd SIG_CNT_UNITS.VALUE))
        ∧ (n.subsBit first = true → n.publisher first = some p → n.samePair (n.uidOf d.node) p = true → svcMap n.sig.svc first = some ix →
            n.localOf ix = none → Does (.signalDataSet d) s (fun m => Counted SIG_CNT_UNITS.VALUE n m
              ∧ m.sig.gen = n.sig.gen.filter (fun q => q.index ≠ ix) ++ [⟨ix, le b 8 4, d.node, le b 1 1 % 4, bit (le b 12 4) 0⟩])))
    ∧ Does .sigApply s (fun m => m.rd SIG_GEN.VALUE = (n.rd SIG_GEN.VALUE + 1) % 4294967296 ∧ m.rd SIG_FLIPCYC.VALUE = c % 4294967296 ∧ m.sig.gen = []
        ∧ m.sig.svc = (upTo 1024).filterMap n.tableSub)
    ∧ (n.sigNet = true → n.sig.gen = [x] → n.uce = [] → n.sig.forces = [] → (∀ k : Fin 256, n.on (ENG0_FW0.EN k) = false) → n.localOf x.index = none →
        x.index < 65536 → x.value < 4294967296 → (∃ k, k < 1024 ∧ n.tableSub k = some sub) → sub.first ≠ none → sub.index ≤ x.index →
        x.index < sub.index + sub.count → Does .sigApply s (fun m => m.pimgVal x.index = x.value ∧ bit (m.pimgStat x.index) 31 = true
          ∧ bit (m.pimgStat x.index) 28 = false ∧ bit (m.pimgStat x.index) 29 = x.forced))

/-! ### Audio -/

/-- R282, R284, R285, R287, R291, R292, R296, R313: transmit and receive entries are opened and closed; blocks are closed, sent END, taken, refused from a
foreign sender or as late; concealment ends in a mute; the grid and the stop of AUD. -/
def Obligations.AudioStreams : Prop :=
  ∀ (s : State) (by_ : Initiator) (v : Word) (tx : Fin 64) (rx : Fin 256) (d : DataUnitRx) (j i : Nat) (x : StreamRec), s.node.running = true →
    let n := s.node
    let t := n.rd AUD_TXSEL.ENTRY
    let r := n.rd AUD_RXSEL.ENTRY
    let fmt := v.toNat / 4096 % 16
    let id := v.toNat % 4096
    let rises := n.on (AUD_TXW0.EN t) = false ∧ bit v.toNat 31 = true
    let other := fun (j : Nat) => j < 256 ∧ j ≠ r ∧ n.on (AUD_RXW0.EN j) = true ∧ n.rd (AUD_RXW0.STREAM j) = id
    let Rx := fun (m : Node) (st : Nat) => m.reg (AUD_RXW0.STREAM r).addr = v &&& 0x80000FFF ∧ m.rxOf r = {} ∧ m.rd (AUD_RXW1.STATE r) = st
    let named := n.aud.streams.any (fun y => y.id = id && !y.dropped)
    let kind := n.rd (AUD_TXW0.FORMAT tx)
    let open_ := n.rd (AUD_TXW2.STATE tx) = 1 ∨ n.rd (AUD_TXW2.STATE tx) = 2
    let live := n.on AUD_CTRL.EN = true ∧ n.shed = false ∧ n.on (AUD_TXW0.EN tx) = true ∧ open_
    let sid := le d.body 2 2 % 4096
    let ours := (upTo 256).find? (fun k => n.on (AUD_RXW0.EN k) && n.rd (AUD_RXW0.STREAM k) = sid) = some i
    let carries := n.aud.streams.find? (fun y => y.id = sid && !y.dropped) = some x
    let pres := BitVec.ofNat 32 (le d.body 4 4)
    let ahead := timeDiff pres n.time.train
    (rises → fmt = 1 ∨ fmt = 2 → n.isActive = true → n.committed = true → n.isLead = true → n.aud.streams = [] → n.uidOf n.nodeNum ≠ 0 →
        Does (.txEntryEnable by_ v) s (fun m => m.aud.streams = [⟨id, fmt, n.uidOf n.nodeNum, false⟩]))
    ∧ (rises → n.isActive = false ∨ n.committed = false ∨ n.isLead = false → Does (.txEntryEnable by_ v) s (fun m => m.reg (AUD_TXW0.STREAM t).addr = v &&& 0x8000FFFF
        ∧ m.rd (AUD_TXW2.STATE t) = (if fmt = 1 ∨ fmt = 2 then (if n.boundEntries (n.rd (AUD_TXW1.LABEL t)) = [] ∧ n.committed = true then 4 else 1) else 5)))
    ∧ (n.on (AUD_TXW0.EN t) = true → bit v.toNat 31 = true → Does (.txEntryEnable by_ v) s (fun m =>
        m.reg (AUD_TXW0.STREAM t).addr = 0x80000000 ||| (n.reg (AUD_TXW0.STREAM t).addr &&& 0xFFFF) ∧ m.aud = n.aud))
    ∧ (n.on (AUD_TXW0.EN t) = true → bit v.toNat 31 = false → Does (.txEntryEnable by_ v) s (fun m => m.rd (AUD_TXW2.STATE t) = 0
        ∧ m.on (AUD_TXW0.EN t) = false ∧ (m.txOf t).blocks.getLast? = (n.txOf t).blocks.getLast?.map (fun b => { b with end_ := true })
        ∧ (m.txOf t).blocks.length = (n.txOf t).blocks.length))
    ∧ (bit v.toNat 31 = true → other j → Does (.rxEntryEnable by_ v) s (fun m => m.rd (AUD_RXW1.STATE r) = 5
        ∧ m.reg (AUD_RXW0.STREAM r).addr = n.reg (AUD_RXW0.STREAM r).addr ∧ m.aud = n.aud))
    ∧ (bit v.toNat 31 = true → (∀ j, j < 256 → ¬ other j) → Does (.rxEntryEnable by_ v) s (fun m => Rx m (if named then 0 else 4)))
    ∧ (bit v.toNat 31 = false → Does (.rxEntryEnable by_ v) s (fun m => Rx m 0))
    ∧ (live → kind = 1 ∨ kind = 2 → Does (.audioBlockClose tx) s (fun m => m.rd (AUD_TXW2.SEQ tx) = (n.rd (AUD_TXW2.SEQ tx) + 1) % 65536
        ∧ ∃ bs : List Byte, bs.length = (if kind = 1 then 32 else 144) ∧ (n.outputFed tx = false → ∀ b, b ∈ bs → b = 0)
          ∧ (m.txOf tx).blocks = (n.txOf tx).blocks
            ++ [⟨n.cycleTime n.cycle + 2937500, n.rd (AUD_TXW2.SEQ tx), kind, (n.txOf tx).resume, (n.txOf tx).ending, bs⟩]))
    ∧ (¬ live → (n.txOf tx).ending = false → Answers (.audioBlockClose tx) s n)
    ∧ (¬ (∃ k, k < 256 ∧ n.on (AUD_RXW0.EN k) = true ∧ n.rd (AUD_RXW0.STREAM k) = sid) → Answers (.audioBlock d) s n)
    ∧ (n.on AUD_CTRL.EN = true → ours → d.node = 0 ∨ (carries ∧ n.samePair (n.uidOf d.node) x.uid = false) →
        Answers (.audioBlock d) s (n.count AUD_CNT_FOREIGNSTR.VALUE))
    ∧ (n.on AUD_CTRL.EN = true → ours → d.node ≠ 0 → d.node < 256 → carries → n.samePair (n.uidOf d.node) x.uid = true →
        (1000000 ≤ ahead → ahead ≤ 16000000 → Does (.audioBlock d) s (fun m => Counted AUD_CNT_BLKRX.VALUE n m
          ∧ m.rd (AUD_RXW1.SENDER i) = d.node ∧ m.rd (AUD_RXW1.SEQ i) = le d.body 8 2
          ∧ (m.rxOf i).blocks.getLast? = some ⟨pres, le d.body 8 2, le d.body 1 1 % 16, bit (le d.body 1 1) 4, bit (le d.body 1 1) 5, d.body.drop 12⟩))
        ∧ (ahead < 1000000 ∨ 16000000 < ahead → Does (.audioBlock d) s (fun m => Counted AUD_CNT_LATE.VALUE n m
          ∧ Counted (AUD_RXW2.LATE i) n m ∧ m.on AUD_EVT.LATE = true ∧ m.rxOf i = n.rxOf i)))
    ∧ (n.rd (AUD_RXW1.STATE rx) = 2 → 8 ≤ (n.rxOf rx).gap → Does (.concealMute rx) s (fun m => m.rd (AUD_RXW1.STATE rx) = 3
        ∧ Counted AUD_CNT_MUTES.VALUE n m ∧ m.on AUD_EVT.MUTE = true))
    ∧ (n.rd (AUD_RXW1.STATE rx) ≠ 2 ∨ (n.rxOf rx).gap < 8 → Answers (.concealMute rx) s n)
    ∧ Does .audAligned s (fun m => m.on AUD_STATUS.ALIGNED = true ∧ m.aud = n.aud)
    ∧ Does .slewEnd s (fun m => m.on AUD_STATUS.SLEW = false ∧ m.rd AUD_GRIDOFS.VALUE = 0 ∧ m.aud = n.aud)
    ∧ Does (.audDisable by_) s (fun m => m.on AUD_CTRL.EN = false ∧ m.rd AUD_STATUS.RXPRESENT = 0 ∧ m.aud.rx = []
        ∧ (∀ k, k < 256 → m.rd (AUD_RXW1.STATE k) = (if n.rd (AUD_RXW1.STATE k) = 5 then 5 else 0))
        ∧ ∀ k, k < 64 → n.on (AUD_TXW0.EN k) = true → n.rd (AUD_TXW2.STATE k) = 2 → m.rd (AUD_TXW2.STATE k) = 1)

/-- R299, R300, R302, R304 to R309: changes of crosspoints, zones and generators wait for the mix period, which applies them; the ambient gain;
cancellers and their bursts; generators; clips. -/
def Obligations.AudioUnits : Prop :=
  ∀ (s : State) (by_ : Initiator) (v mask : Word) (zone : Fin 128) (ec : Fin 16) (gen : Fin 64) (x k z src dst len : Nat), s.node.running = true →
    let n := s.node
    let mixes := n.on AUD_CTRL.EN = true ∧ n.shed = false
    let only := fun (q : List (Nat × Word × Word)) (zs gs : List Nat) => n.aud.queue = q ∧ n.aud.commits = zs ∧ n.aud.stops = gs
    let old := n.reg (AUD_XW.EN k).addr
    let new := (old &&& ~~~ mask) ||| (v &&& mask)
    let wide := 32 ≤ ((upTo 384).filter (fun i => n.on (AUD_XW.EN (384 * (k / 384) + i)))).length
    let anc := 64 ≤ zone.val ∧ n.on (AUD_ZCTRL.ANCEN zone) = true
    let target := min (10 * n.rd (AUD_ZANC.MAXB zone)) (n.rd (AUD_ZANC.SLOPE zone) * (n.rd (AUD_ZANC.NREF zone) - min x 255))
    let g := n.rd (AUD_ZSTAT.ANCGAIN zone)
    let st := n.rd (AUD_ECB.STATE ec)
    let granted := n.on (AUD_ECA.EN ec) = true ∧ 1 ≤ st ∧ st ≤ 3 ∧ n.gustGranted (n.rd (AUD_ECB.GUST ec)) 6 = true
    let burst := fun (m : Node) => Tab.get (fun _ => 0) m.aud.burst ec
    let taken := (upTo 16).any (fun j => j ≠ ec.val && n.on (AUD_ECA.EN j) && n.rd (AUD_ECB.STATE j) ≠ 5 && n.rd (AUD_ECA.MIC j) = v.toNat % 64)
    let gs := n.rd AUD_GSEL.GEN
    let starts := fun (m : Node) (t : Word) => m.on (AUD_GW0.RUN gs) = true ∧ Tab.get (fun _ => 0) m.aud.genStart gs = t.toNat
    let ahead := timeDiff v n.time.train
    let least := n.time.train + 5000000
    let past := (least - BitVec.ofNat 32 (n.rd BAR_TTSTAMP.VALUE)).toNat % 1000000
    let clip := (n.rd AUD_CLIPSRC.SRC, 16 * n.rd AUD_CLIPDST.DST, 16 * n.rd AUD_CLIPLEN.LEN)
    let inside := ((0x20200000 ≤ clip.1 ∧ clip.1 + clip.2.2 ≤ 0x20300000) ∨ (0x207E0000 ≤ clip.1 ∧ clip.1 + clip.2.2 ≤ 0x20800000))
      ∧ clip.2.1 + clip.2.2 ≤ 0x4C000
    (n.rd AUD_XSEL.IN < 384 → Does (.audXwWrite by_ v) s (fun m => m.aud = { n.aud with queue := n.aud.queue
        ++ [(384 * n.rd AUD_XSEL.OUT + n.rd AUD_XSEL.IN, 0x8001FFFF, v)] }))
    ∧ (384 ≤ n.rd AUD_XSEL.IN → Does (.audXwWrite by_ v) s (fun m => m.aud = n.aud))
    ∧ Does (.zoneCommit by_) s (fun m => m.aud = { n.aud with commits := n.aud.commits.filter (· ≠ n.rd AUD_ZSEL.ZONE) ++ [n.rd AUD_ZSEL.ZONE] })
    ∧ Does (.generatorStop by_ v) s (fun m => m.aud = { n.aud with stops := n.aud.stops.filter (· ≠ v.toNat % 64) ++ [v.toNat % 64] })
    ∧ (¬ mixes → Answers .audMix s n)
    ∧ (mixes → Does .audMix s (fun m => m.aud.queue = [] ∧ m.aud.commits = [] ∧ m.aud.stops = []))
    ∧ (mixes → only [(k, mask, v)] [] [] → k < 49152 →
        ((bit new.toNat 31 = true ∧ bit old.toNat 31 = false ∧ wide) →
          Does .audMix s (fun m => m.reg (AUD_XW.EN k).addr = old ∧ Counted AUD_CNT_XREFUSED.VALUE n m ∧ m.on AUD_EVT.XFULL = true))
        ∧ (¬ (bit new.toNat 31 = true ∧ bit old.toNat 31 = false ∧ wide) →
          Does .audMix s (fun m => m.reg (AUD_XW.EN k).addr = new ∧ m.memLe (xpAddr k) 4 = new.toNat)))
    ∧ (mixes → only [] [z] [] → z < 128 → Does .audMix s (fun m => m.rd (AUD_ZCTRL.BANK z) = 1 - n.rd (AUD_ZCTRL.BANK z)
        ∧ ∀ c, c < 64 → Tab.get (fun _ => 0) m.aud.coefs (64 * z + c) = n.reg (AUD_ZCDATA.DATA (64 * z + c)).addr))
    ∧ (mixes → only [] [] [z] → Does .audMix s (fun m => m.on (AUD_GW0.RUN z) = false))
    ∧ (anc → Does (.ancGapEnd zone x) s (fun m => m.rd (AUD_ZSTAT.ANCGAIN zone) = (if g < target then min target (g + 30) else max target (g - 30))
        ∧ m.rd (AUD_ZSTAT.NOISE zone) = min x 255 ∧ m.rd (AUD_ZSTAT.GAPAGE zone) = 0 ∧ m.on (AUD_ZSTAT.HOLD zone) = false))
    ∧ (anc → Does (.ancHold zone) s (fun m => m.on (AUD_ZSTAT.HOLD zone) = true ∧ m.rd (AUD_ZSTAT.ANCGAIN zone) = g
        ∧ m.rd (AUD_ZSTAT.GAPAGE zone) = max 60 (n.rd (AUD_ZSTAT.GAPAGE zone))))
    ∧ (¬ anc → Answers (.ancGapEnd zone x) s n ∧ Answers (.ancHold zone) s n)
    ∧ (st ≠ 0 → st ≠ 5 → Does (.echoDivergence ec) s (fun m => Counted AUD_CNT_ECRESET.VALUE n m ∧ m.on AUD_EVT.ECDIV = true
        ∧ m.rd (AUD_ECB.ERLE ec) = 0 ∧ m.rd (AUD_ECB.STATE ec) = (if st = 4 then 4 else 1)))
    ∧ (st = 0 ∨ st = 5 → Answers (.echoDivergence ec) s n)
    ∧ (granted → Does (.ecBurst by_ ec) s (fun m => m.rd (AUD_ECB.STATE ec) = 4 ∧ burst m = n.now + 1))
    ∧ (¬ granted → Does (.ecBurst by_ ec) s (fun m => m.rd (AUD_ECB.STATE ec) = st ∧ m.aud = n.aud))
    ∧ (st = 4 → Does (.burstEnd ec x) s (fun m => m.rd (AUD_ECB.ERLE ec) = min x 255 ∧ m.rd (AUD_ECB.STATE ec) = (if 40 ≤ x then 2 else 1) ∧ burst m = 0))
    ∧ (st ≠ 4 → Answers (.burstEnd ec x) s n)
    ∧ (bit v.toNat 24 = false → Does (.echoCancellerEnable by_ ec v) s (fun m => m.reg (AUD_ECA.EN ec).addr = v &&& 0x807F3F3F
        ∧ m.rd (AUD_ECB.STATE ec) = (if bit v.toNat 31 then (if n.on (AUD_ECA.EN ec) then st else if taken then 5 else 1) else 0)))
    ∧ (1 ≤ n.rd (AUD_GW0.KIND gs) → n.rd (AUD_GW0.KIND gs) ≤ 4 →
        (5000000 ≤ ahead → Does (.generatorStart by_ v) s (fun m => starts m v))
        ∧ (ahead < 5000000 → Does (.generatorStart by_ v) s (fun m => m.on AUD_EVT.GLATE = true
            ∧ starts m (if past = 0 then least else least + BitVec.ofNat 32 (1000000 - past)))))
    ∧ (n.rd (AUD_GW0.KIND gs) = 0 → Does (.generatorStart by_ v) s (fun m => m.aud = n.aud))
    ∧ Does (.generatorRunEnd gen) s (fun m => m.on (AUD_GW0.RUN gen) = false ∧ Tab.get (fun _ => 0) m.aud.genStart gen = 0)
    ∧ (n.on AUD_CLIPSTAT.BUSY = true → Does (.clipCopy by_) s (fun m => m.aud = n.aud ∧ m.mem = n.mem))
    ∧ (n.on AUD_CLIPSTAT.BUSY = false → inside → Does (.clipCopy by_) s (fun m => m.aud = { n.aud with clip := some clip }
        ∧ m.on AUD_CLIPSTAT.BUSY = true ∧ m.on AUD_CLIPSTAT.ERR = false ∧ m.mem = n.mem))
    ∧ (n.on AUD_CLIPSTAT.BUSY = false → ¬ inside → Does (.clipCopy by_) s (fun m => m.aud = n.aud ∧ m.on AUD_CLIPSTAT.ERR = true ∧ m.on AUD_EVT.CLIPERR = true))
    ∧ (n.aud.clip = some (src, dst, len) → Does .clipCopyDone s (fun m => m.memBytes (0x205D4000 + dst) len = n.memBytes src len
        ∧ (∀ a, a < 0x205D4000 + dst ∨ 0x205D4000 + dst + len ≤ a → m.memByte a = n.memByte a) ∧ m.aud.clip = none
        ∧ m.on AUD_CLIPSTAT.BUSY = false ∧ m.rd AUD_CLIPSTAT.DONE = min 65535 (n.rd AUD_CLIPSTAT.DONE + 1)))
    ∧ (n.aud.clip = none → Answers .clipCopyDone s n)

/-! ### Lull, wake and the Squall -/

/-- R487 to R490, R492 to R497, R511: the ring: it starts, a token is answered by a vote, a reply passes it on, commits it or aborts it; the commit,
the abort and the entry. That a row such as LULL_REPLY_TIMEOUT says its time has passed is log entry 34. -/
def Obligations.LullRing : Prop :=
  ∀ (s : State) (by_ : Initiator) (u : UnitRx) (v : Word) (args : List Byte) (r : RingRun) (k : Nat), s.node.running = true →
    let n := s.node
    let st := n.lullSt
    let b := u.body
    let num := le b 2 1
    let vote := le b 3 1
    let pex := n.rd PEX_STATUS.STATE
    let pair := n.rd PAIR_STATUS.STATE
    let token := le b 0 1 = 0x40 ∧ b.length = 8 ∧ u.node = n.bar.leadNum ∧ num = n.nodeNum ∧ n.nodeNum ≠ 0 ∧ n.committed = true ∧ st < 3
    let mine := if n.warning then (2, 0) else if 5 ≤ pex ∧ pex ≤ 7 then (3, 0)
      else if n.on PAIR_CTRL.EN = true ∧ (pair = 3 ∨ pair = 5 ∨ (n.on PAIR_STATUS.SYNC = false ∧ n.on PAIR_STATUS.SOLO = false)) then (4, 0)
      else if n.on INA_STATUS.INAUG then (5, 0) else n.programVote
    let idle := n.isLead = true ∧ n.committed = true ∧ n.lull.ring = none ∧ st = 0
    let id := (n.rd AON_LSTATUS.RINGID + 1) % 256
    let Sends := fun (m : Node) (x : List Byte) => m.ina.units = n.ina.units ++ [x]
    let Aborts := fun (m : Node) => m.lullSt = 0 ∧ Counted AON_CNT_ABORTS.VALUE n m ∧ m.on AON_EVT.ABORT = true ∧ m.lull.ring = none
    let Tells := fun (m : Node) (cause at_ : Nat) => m.bar.lullFlag = false ∧ m.bar.cmds.map (·.bytes) = n.bar.cmds.map (·.bytes)
      ++ [[0x21] ++ leBytes 1 r.id ++ leBytes 1 cause ++ leBytes 1 at_ ++ List.replicate 10 0]
    let reply := le b 0 1 = 0x41 ∧ b.length = 16 ∧ n.lull.ring = some r ∧ r.id = le b 1 1 ∧ n.isLead = true
    let Commits := fun (m : Node) (e : Nat) => m.lullSt = 3 ∧ m.rd AON_LE.VALUE = e % 4294967296 ∧ m.rd AON_LK.VALUE = (e - 8) % 4294967296
      ∧ m.rd AON_CANSTB.REQ = n.rd AON_CANSTB.EN ∧ m.pair.stilled = true ∧ m.on AON_EVT.COMMIT = true ∧ Counted AON_CNT_COMMITS.VALUE n m
    let next := n.ringNumbers.find? (fun m => r.at_ < m)
    let due := n.rd AON_LE.VALUE ≤ n.cycle
    let Falls := fun (m : Node) => m.lull.asleep = true ∧ m.boot.held = true ∧ m.boot.sources = [5] ∧ m.mem = [] ∧ m.lull.fellAt = n.now ∧ m.otp = n.otp
    let Stays := fun (m : Node) => m.lullSt = 0 ∧ m.bar.lullFlag = false ∧ m.pair.stilled = false ∧ m.boot = n.boot
    (¬ idle → Answers (.lullRing by_) s n)
    ∧ (idle → n.ringNumbers.find? (fun m => 0 < m) = some k → k ≠ n.nodeNum → Does (.lullRing by_) s (fun m => m.lullSt = 1 ∧ m.bar.lullFlag = true
        ∧ m.lull.ring = some ⟨id, n.cycle, k, some n.cycle, []⟩ ∧ Counted AON_CNT_RINGS.VALUE n m ∧ m.on AON_EVT.RING = true
        ∧ Sends m ([0x40] ++ leBytes 1 id ++ leBytes 1 k ++ [0] ++ leBytes 4 n.cycle)))
    ∧ (token → n.lull.wakeHeard = [] → Does (.lullToken u) s (fun m => m.rd AON_LSTATUS.LASTREASON = mine.1 ∧ m.lullSt = (if mine.2 = 0 then 0 else 2)
        ∧ Sends m (n.replyBody (le b 1 1) mine.2 mine.1) ∧ m.on AON_EVT.RING = true ∧ Counted AON_CNT_RINGS.VALUE n m))
    ∧ (¬ token → Answers (.lullToken u) s n)
    ∧ (n.lull.ring = none → Answers (.lullAbortCmd by_) s n ∧ Answers .lullReplyTimeout s n ∧ (vote ≠ 2 → Answers (.lullReply u) s n))
    ∧ (n.lull.ring = some r → st ≤ 3 → Does (.lullAbortCmd by_) s (fun m => Aborts m ∧ Tells m 4 0)
        ∧ (r.tokenAt.isSome = true → Does .lullReplyTimeout s (fun m => Aborts m ∧ Tells m 2 r.at_ ∧ m.on AON_EVT.HOLDOUT = true)))
    ∧ (reply → vote ≠ 1 → vote ≠ 2 → st ≤ 3 → (∀ i, i < 8 → n.rd (AON_HOINFO.COUNT i) = 0) → Does (.lullReply u) s (fun m => Aborts m ∧ Tells m 1 num
        ∧ m.on AON_EVT.HOLDOUT = true ∧ m.rd64 (AON_HOUID_LO.UID_LO 0) (AON_HOUID_HI.UID_HI 0) = le b 8 8 ∧ m.rd (AON_HOINFO.NODE 0) = num
        ∧ m.rd (AON_HOINFO.REASON 0) = le b 4 1 ∧ m.rd (AON_HOINFO.COUNT 0) = 1))
    ∧ (reply → vote = 1 ∨ vote = 2 → num = r.at_ → r.tokenAt.isSome = true →
        (next = some k → k ≠ n.nodeNum → Does (.lullReply u) s (fun m => m.lullSt = st
          ∧ m.lull.ring = some { r with at_ := k, tokenAt := some n.cycle, votes := r.votes ++ [(num, vote)] }
          ∧ Sends m ([0x40] ++ leBytes 1 r.id ++ leBytes 1 k ++ [0] ++ leBytes 4 r.start)))
        ∧ (next = none → Does (.lullReply u) s (fun m => Commits m (n.cycle + 8) ∧ m.lull.ring = none)))
    ∧ (st = 2 → v.toNat / 4 % 4 = 0 ∨ v.toNat / 4 % 4 = 3 → n.lull.ring = none → Does (.voteChange by_ v) s (fun m => m.lullSt = 0
        ∧ m.reg AON_LCTRL.VOTE.addr = v &&& 0xFF1C ∧ m.rd AON_LSTATUS.LASTREASON = max 16 (v.toNat / 256 % 256)
        ∧ Sends m (n.replyBody (n.rd AON_LSTATUS.RINGID) 0 (max 16 (v.toNat / 256 % 256)))))
    ∧ (st ≠ 2 ∨ v.toNat / 4 % 4 = 1 ∨ v.toNat / 4 % 4 = 2 → Does (.voteChange by_ v) s (fun m => m.reg AON_LCTRL.VOTE.addr = v &&& 0xFF1C ∧ m.lullSt = st
        ∧ m.ina = n.ina))
    ∧ (n.committed = true → st < 3 → 8 ≤ le args 0 4 → Does (.lullCommit args) s (fun m => Commits m (le args 0 4) ∧ m.rd AON_LSTATUS.RINGID = le args 4 1))
    ∧ (n.committed = false ∨ 3 ≤ st → Answers (.lullCommit args) s n)
    ∧ (1 ≤ st → st ≤ 3 → n.lull.ring = none → Does (.lullAbort args) s (fun m => Aborts m ∧ m.on AON_LSTATUS.LATCHED = false ∧ m.rd AON_CANSTB.REQ = 0))
    ∧ (st = 0 ∨ 4 ≤ st → Answers (.lullAbort args) s n)
    ∧ (st = 3 → Does (.lullEnterCmd by_) s (fun m => m.lull = { n.lull with enterHeld := true } ∧ m.regs = n.regs))
    ∧ (st ≠ 3 → Answers (.lullEnterCmd by_) s n ∧ Answers .lullFailsafe s n)
    ∧ (st = 3 → n.on AON_LSTATUS.AWAKE = true → Does .lullFailsafe s Stays ∧ (due → Does .lullEntryStart s Stays))
    ∧ (st = 3 → n.on AON_LSTATUS.AWAKE = false → Does .lullFailsafe s Falls ∧ (due → n.lull.enterHeld = true ∨ n.on AON_LCTRL.AUTO = true →
        Does .lullEntryStart s Falls))
    ∧ (st ≠ 2 → st ≠ 3 → Answers .lullEntryStart s n)

/-- R499 to R501, R505 to R510, R512 to R514: CAN standby; a wake source in LULL raises the main rails, from K on it is latched and told the lead or makes
the lead abort; the Squall is sent, announced, refused, and recognized after eight matching windows. -/
def Obligations.WakeAndSquall : Prop :=
  ∀ (s : State) (by_ : Initiator) (v : Word) (src : WakeSource) (f : ContRx) (args : List Byte) (att : Fin 4) (ws : List SquallWindow) (q : Nat),
    let n := s.node
    let run := n.running = true
    let asleep := n.lull.asleep = true
    let st := n.lullSt
    let STBY := n.rd AON_CANREL.STBY
    let acks := v.toNat / 256 % 256 &&& n.rd AON_CANSTB.REQ
    let miss := n.rd AON_CANSTB.REQ &&& (255 - n.rd AON_CANSTB.ACK)
    let wsrc := fun (m : Node) => (m.reg AON_WSRC.SQUALL.addr).toNat
    let Rises := fun (src : WakeSource) (m : Node) => m.lull.asleep = false ∧ Counted AON_CNT_WAKES.VALUE n m ∧ m.on AON_EVT.WAKE = true
      ∧ bit (wsrc m) (wakeCode src).1 = true
      ∧ (wsrc n % 1024 = 0 → m.rd AON_WSRC.FIRST = (wakeCode src).2 ∧ m.rd AON_WTIME.VALUE = n.rd AON_RTCS.VALUE)
    let fresh := run ∧ n.lull.asleep = false ∧ st = 3 ∧ n.lull.latch = none
    let late := n.rd AON_LK.VALUE + 1 < n.cycle
    let Aborts := fun (m : Node) (num : Nat) => m.lullSt = 0 ∧ Counted AON_CNT_ABORTS.VALUE n m ∧ m.on AON_EVT.ABORT = true
      ∧ m.bar.cmds.head?.map (·.bytes) = some ([0x21] ++ leBytes 1 (n.rd AON_LSTATUS.RINGID) ++ [3] ++ leBytes 1 num ++ List.replicate 10 0)
    let inTime := n.cycle + 3 ≤ n.rd AON_LE.VALUE
    let good := run ∧ n.goodCont f 0x61
    let own := n.rd AON_LSTATUS.RINGID = le f.bytes 27 1 ∧ le f.bytes 22 4 ≤ n.rd AON_LK.VALUE + 1
    let enabled := n.wakeEnabled src = true
    let heard := bit (n.rd AON_WCTRL.SQATT) att = true ∧ squallMatched ws = true
    let lost := n.on BAR_CTRL.EN = true ∧ (n.inaState = 1 ∨ n.inaState = 2) ∧ 16 ≤ n.bar.coastRun
    let Sent := fun (m : Node) => m.out = n.out ++ [⟨.squall, []⟩] ∧ Counted AON_CNT_SQSENT.VALUE n m ∧ m.rd AON_SQ.SENDSTAT = 0
    (run → Does (.canstbAck by_ v) s (fun m => m.rd AON_CANSTB.EN = v.toNat / 65536 % 256 ∧ m.rd AON_CANSTB.ACK = n.rd AON_CANSTB.ACK ||| acks
        ∧ m.rd AON_CANREL.STBY = STBY ||| acks ∧ m.rd AON_CANSTB.REQ = n.rd AON_CANSTB.REQ))
    ∧ (run → miss ≠ 0 → Does .canstbFailsafe s (fun m => m.rd AON_CANSTB.FORCED = n.rd AON_CANSTB.FORCED ||| miss ∧ m.rd AON_CANREL.STBY = STBY ||| miss
        ∧ m.on AON_EVT.CANSTBFS = true))
    ∧ (run → miss = 0 → Answers .canstbFailsafe s n)
    ∧ (run → Does (.canrel by_ v) s (fun m => m.rd AON_CANREL.STBY = STBY &&& (255 - v.toNat % 256)
        ∧ ∀ a, a ≠ AON_CANREL.STBY.addr → m.reg a = n.reg a))
    ∧ (asleep → enabled → Does (.wakeEvent src) s (Rises src))
    ∧ (asleep → ¬ enabled → Answers (.wakeEvent src) s n)
    ∧ (fresh → enabled → n.isLead = false ∨ late → Does (.wakeEvent src) s (fun m => m.on AON_LSTATUS.LATCHED = true ∧ bit (wsrc m) (wakeCode src).1 = true
        ∧ m.rd AON_WCYC.VALUE = n.cycle % 4294967296 ∧ m.lull.latch = some (n.cycle, (wakeCode src).2) ∧ m.lullSt = 3
        ∧ m.lull.wakeReqDue = (n.lull.wakeReqDue || !decide late)))
    ∧ (fresh → enabled → n.isLead = true → ¬ late → inTime → Does (.wakeEvent src) s (fun m => Aborts m n.nodeNum))
    ∧ (good → n.isLead = false → Answers (.wakeReq f) s n)
    ∧ (good → n.isLead = true → st ≠ 3 → Does (.wakeReq f) s (fun m => m.regs = n.regs ∧ m.bar.cmds.map (·.bytes) = n.bar.cmds.map (·.bytes)
        ++ [[0x01, if n.opens 1 then 0 else 2] ++ leBytes 4 (le f.bytes 14 4) ++ leBytes 8 (le f.bytes 2 8)]))
    ∧ (good → n.isLead = true → st = 3 → n.opens 1 = true → own → inTime → Does (.wakeReq f) s (fun m =>
        Aborts m (((n.dirByUid (le f.bytes 2 8)).map (·.num)).getD 0) ∧ bit (wsrc m) 8 = true ∧ Counted BAR_CNT_CONTOK.VALUE n m))
    ∧ (asleep → n.lull.latch.isSome = true → Does .latchedWakeRise s (fun m => m.on AON_WSRC.LATE = true ∧ m.lull.asleep = false
        ∧ Counted AON_CNT_WAKES.VALUE n m ∧ m.on AON_EVT.WAKE = true))
    ∧ (n.lull.asleep = false ∨ n.lull.latch = none → Answers .latchedWakeRise s n)
    ∧ (run → lost → Does (.squallRequest by_) s Sent)
    ∧ (run → n.isLead = true → n.inaState = 6 → Does (.squallRequest by_) s (fun m => m.rd AON_SQ.SENDSTAT = 1 ∧ m.lull.squallAt = some (n.cycle + 8)
        ∧ m.bar.quiet = some (n.cycle + 8) ∧ m.bar.cmds.map (·.bytes) = n.bar.cmds.map (·.bytes) ++ [[0x22] ++ leBytes 4 (n.cycle + 8) ++ List.replicate 9 0]))
    ∧ (run → ¬ lost → ¬ (n.isLead = true ∧ n.inaState = 6) → Does (.squallRequest by_) s (fun m => m.rd AON_SQ.SENDSTAT = 2 ∧ m.on AON_EVT.SQREFUSED = true))
    ∧ (run → n.committed = true → Does (.squall args) s (fun m => m = { n with bar := { n.bar with quiet := some (le args 0 4) } }))
    ∧ (run → n.committed = false → Answers (.squall args) s n)
    ∧ (run → n.lull.squallAt = some q → (q ≤ n.cycle → Does .squallEmit s (fun m => Sent m ∧ m.lull.squallAt = none)) ∧ (n.cycle < q → Answers .squallEmit s n))
    ∧ (run → n.lull.squallAt = none → Answers .squallEmit s n)
    ∧ (heard → asleep → Does (.squallRecognized att ws) s (fun m => Rises (.squall att) m ∧ Counted AON_CNT_SQHEARD.VALUE n m))
    ∧ (¬ heard → Answers (.squallRecognized att ws) s n)

/-! ### Time -/

/-- R519, R530 to R534, R536, R538: a base's wrap; steps of TB_UTC and TB_PTP, at once, put off, and with a launch on them; launches handed,
dropped, fired, late and cancelled; the transparent clock's correction. That TWO_STEP_TIMEOUT says the second has passed is the row's own. -/
def Obligations.TimeAndLaunches : Prop :=
  ∀ (s : State) (by_ : Initiator) (v d : Word) (base : Fin 4) (i c o : Nat) (l : Launch) (r : PtpRx) (port : Fin 2) (off : Nat),
    s.node.running = true →
    let n := s.node
    let Steps := fun (m : Node) (ev step : Field) (d : Word) => m.on ev = true ∧ m.rd step = d.toNat ∧ Counted TIME_CNT_STEPS.VALUE n m
    let one := n.time.launches = [l]
    let due := n.ahead l
    let can := l.kind = 1 ∧ n.poolOf l.index = some (c, o) ∧ c < 8
    let tdm := l.kind = 3 ∧ l.index < 4
    let Handed := fun (m : Node) => m.time.launches = [{ l with handed := true }] ∧ m.rd TIME_LQ.PENDING = 1
    let Dropped := fun (m : Node) => m.time.launches = [] ∧ m.rd TIME_LQ.PENDING = 0 ∧ Counted TIME_CNT_NOTARGET.VALUE n m
    let hit := fun (x : Launch) => decide (x.kind = v.toNat / 65536 % 16 ∧ x.index = v.toNat % 65536)
    let out := 1 - r.ingress.val
    let crosses := n.ethOn r.ingress = true ∧ n.ethLink out = true
    let residence := signed32 (r.tout - r.tin).toNat
    ((n.tick.base base).toNat < (n.base base).toNat → Does (.baseWrap base) s (fun m => m.time = n.tick.time
        ∧ bit (m.reg TIME_EVT.WRAP.addr).toNat base = true))
    ∧ (4294967294 ≤ n.now % 4294967296 → Does (.baseWrap 2) s (fun m => m.now = n.now + 2 ∧ bit (m.reg TIME_EVT.WRAP.addr).toNat 2 = true))
    ∧ (n.now % 4294967296 < 4294967294 → Answers (.baseWrap 2) s n)
    ∧ (n.time.launches = [] → Does (.utcset by_ v) s (fun m => m.time.utc = v ∧ m.time.stepsUtc = n.time.stepsUtc + 1 ∧ m.time.ptp = n.time.ptp
        ∧ m.time.train = n.time.train ∧ Steps m TIME_EVT.UTCSTEP TIME_STEPUTC.VALUE (v - n.time.utc)))
    ∧ (one → l.base = 3 → l.handed = false → 2147483648 ≤ signed32 (l.time - n.time.utc).toNat - signed32 (v - n.time.utc).toNat →
        Does (.utcset by_ v) s (fun m => m.time.utc = v ∧ m.time.launches = [] ∧ Counted TIME_CNT_STEPCANCEL.VALUE n m ∧ m.on TIME_EVT.STEPCANCEL = true))
    ∧ (n.eventInSwitch = false → n.time.ptpPending = none → n.time.launches = [] → Does (.ptpstep by_ v) s (fun m => m.time.ptp = n.time.ptp + v
        ∧ m.time.stepsPtp = n.time.stepsPtp + 1 ∧ m.time.utc = n.time.utc ∧ Steps m TIME_EVT.PTPSTEP TIME_STEPPTP.VALUE v))
    ∧ (n.eventInSwitch = true → Does (.ptpstep by_ v) s (fun m => m.time = { n.time with ptpPending := some (v + n.time.ptpPending.getD 0) }
        ∧ m.on TIME_STATUS.PTPSTEPPEND = true))
    ∧ (n.time.ptpPending = some d → n.eventInSwitch = false → n.time.launches = [] → Does .ptpStepApply s (fun m => m.time.ptp = n.time.ptp + d
        ∧ m.time.ptpPending = none ∧ m.on TIME_STATUS.PTPSTEPPEND = false ∧ Steps m TIME_EVT.PTPSTEP TIME_STEPPTP.VALUE d))
    ∧ (n.time.ptpPending = none ∨ n.eventInSwitch = true → Answers .ptpStepApply s n)
    ∧ (n.time.launches[i]? = none → Answers (.launchHand i) s n ∧ Answers (.launchFire i) s n)
    ∧ (n.time.launches[i]? = some l → l.handed = true ∨ 20000 < due → Answers (.launchHand i) s n)
    ∧ (n.time.launches[i]? = some l → l.handed = false ∨ (0 < due ∧ l.late = false) → Answers (.launchFire i) s n)
    ∧ (one → l.handed = false → due ≤ 20000 →
        (can → n.canSt l.index = 2 → n.canLaunch l.index = true →
          (n.canNoLaunch c = false → Does (.launchHand 0) s (fun m => Handed m ∧ l.index ∈ (m.chan c).handed ∧ m.mem = n.mem))
          ∧ (n.canNoLaunch c = true → Does (.launchHand 0) s (fun m => Dropped m ∧ m.canSt l.index = 4 ∧ bits (m.canW l.index 2) 4 4 = 7)))
        ∧ (can → n.canSt l.index ≠ 2 ∨ n.canLaunch l.index = false → Does (.launchHand 0) s (fun m => Dropped m ∧ m.mem = n.mem))
        ∧ (tdm → n.on (TDM_CTRL.EN l.index) = true → n.on (TDM_CTRL.MASTER l.index) = true → n.on (TDM_STATUS.RUN l.index) = false →
            n.rd (TDM_CTRL.OWNER l.index) = l.eng → Does (.launchHand 0) s (fun m => Handed m ∧ (m.tdmSt l.index).handed = true)))
    ∧ (one → l.handed = true → due ≤ 0 →
        (can → l.index ∈ (n.chan c).handed → n.canNoLaunch c = false → Does (.launchFire 0) s (fun m => l.index ∈ (m.chan c).fired ∧ m.time.launches = []
          ∧ Counted TIME_CNT_LAUNCHED.VALUE n m ∧ (l.late = true ∨ due < 0 → Counted TIME_CNT_LATE.VALUE n m ∧ m.on TIME_EVT.LATE = true)))
        ∧ (tdm → (n.tdmSt l.index).handed = true → Does (.launchFire 0) s (fun m => m.on (TDM_STATUS.RUN l.index) = true ∧ m.on (TDM_STATUS.GRIDOFF l.index) = true
          ∧ m.on (TDM_EVT.START l.index) = true ∧ m.time.launches = [] ∧ Counted TIME_CNT_LAUNCHED.VALUE n m))
        ∧ (can → ¬ l.index ∈ (n.chan c).handed → Does (.launchFire 0) s Dropped))
    ∧ Does (.lcancel by_ v) s (fun m => m.time.launches = n.time.launches.filter (fun x => !hit x) ∧ m.time.train = n.time.train
        ∧ (n.time.launches = [l] → hit l = true → m.rd TIME_LQ.PENDING = 0 ∧ (can → l.handed = true → ¬ l.index ∈ (m.chan c).handed)))
    ∧ (crosses → fcsOk r.bytes = true → n.on TIME_TC.EN = true → n.ptpOff r.bytes = some off → ptpV2 r.bytes off = true → ptpType r.bytes off = 1 →
        Does (.ptpEventFrame r) s (fun m => m.out = n.out ++ [⟨.eth out, addResidence r.bytes off residence⟩] ∧ Counted TIME_CNT_TCCORR.VALUE n m
          ∧ Counted ETH_CNT_FWD.VALUE n m))
    ∧ (crosses → fcsOk r.bytes = false → Answers (.ptpEventFrame r) s (n.count ETH_CNT_DROPFCS.VALUE))
    ∧ (¬ crosses → Answers (.ptpEventFrame r) s n)
    ∧ Does (.twoStepTimeout port) s (fun m => m.twoStep port = (n.twoStep port).drop 1 ∧ m.twoStep (1 - port) = n.twoStep (1 - port))

/-! ### CAN -/

/-- R550 to R553, R566, R567, R571, R578: the pool: entries are allocated and freed in runs, or refused with a result (the order in which the grounds are judged is
log entry 45); READY, ACK, ABORT and ARM act on an entry of the initiator's own in the right state, and are refused on any other. -/
def Obligations.CanPool : Prop :=
  ∀ (s : State) (by_ : Initiator) (v : Word) (chan : Fin 8) (c : Nat), s.node.running = true →
    let n := s.node
    let first := v.toNat % 2048
    let count := v.toNat / 2048 % 2048
    let ch := v.toNat / 4194304 % 8
    let ow := v.toNat / 33554432 % 16
    let bad := if 8 < ow then 7 else if count = 0 then 6 else if 1536 < first + count then 4 else 0
    let alloc := if bad ≠ 0 then bad else if (∃ k, k < count ∧ n.poolOf (first + k) ≠ none) then 3
      else if ow < 8 ∧ n.rd (ENG_QPOOL.QUOTA ow) < n.rd (ENG_QPOOL.USE ow) + count then 1
      else if min 1536 (n.rd (CAN_QUOTA.QUOTA ch)) < n.rd (CAN_QUOTA.USE ch) + count then 2 else 0
    let free := if bad ≠ 0 then bad else if (∃ k, k < count ∧ n.poolOf (first + k) ≠ some (ch, ow)) then 5 else 0
    let Pools := fun (m : Node) (x : Option (Nat × Nat)) => m.rd CAN0_PRES.RESULT = 0 ∧ (∀ k, k < count → m.poolOf (first + k) = x)
      ∧ ∀ i, i < first ∨ first + count ≤ i → m.poolOf i = n.poolOf i
    let e := v.toNat % 2048
    let me := accessOwner by_
    let mine := n.poolOf e = some (c, me)
    let st := n.canSt e
    let Done := fun (m : Node) (st code : Nat) => m.rd CAN0_PCRES.RESULT = 0 ∧ m.canSt e = st ∧ (st = 4 → bits (m.canW e 2) 4 4 = code)
    let Refused := fun (x : Instr) (r : Nat) => Does x s (fun m => m.rd CAN0_PCRES.RESULT = r ∧ m.mem = n.mem ∧ m.can = n.can)
    let whole := n.uceIn (poolAddr e) 80 = false
    let queued := (n.chan chan).order = [e] ∧ n.canSt e = 2 ∧ n.canGuar e = false ∧ ¬ e ∈ (n.chan chan).handed ∧ n.canRec e = none
    (Does (.pallocAllocate by_ v) s (fun m => m.rd CAN0_PRES.RESULT = alloc ∧ (alloc ≠ 0 → m.can = n.can) ∧ (alloc = 1 → m.on (ENG_EVT.QUOTA ow) = true)))
    ∧ (alloc = 0 → Does (.pallocAllocate by_ v) s (fun m => Pools m (some (ch, ow)) ∧ (∀ k, k < count → m.canSt (first + k) = 0)
        ∧ m.rd CAN0_PUSE.USE = (n.rd CAN0_PUSE.USE + count) % 2048 ∧ m.rd (CAN_QUOTA.USE ch) = (n.rd (CAN_QUOTA.USE ch) + count) % 2048))
    ∧ (Does (.pallocFree by_ v) s (fun m => m.rd CAN0_PRES.RESULT = free ∧ (free ≠ 0 → m.can = n.can)))
    ∧ (free = 0 → Does (.pallocFree by_ v) s (fun m => Pools m none ∧ ∀ k, k < count → ¬ first + k ∈ (m.chan ch).order))
    ∧ ((n.poolOf e).map (·.2) ≠ some me → Refused (.canReady by_ v) 1 ∧ Refused (.canAck by_ v) 1 ∧ Refused (.canAbort by_ v) 1 ∧ Refused (.canArm by_ v) 1)
    ∧ (mine → (st ≠ 0 → Refused (.canReady by_ v) 2 ∧ Refused (.canArm by_ v) 2) ∧ (st ≠ 4 → st ≠ 6 → Refused (.canAck by_ v) 2)
        ∧ (st ≠ 5 → st ≠ 2 ∨ e ∈ (n.chan c).handed → Refused (.canAbort by_ v) 2))
    ∧ (mine → st = 0 → Does (.canArm by_ v) s (fun m => Done m 5 0)
        ∧ (whole → n.canInvalid c e = true → Does (.canReady by_ v) s (fun m => Done m 4 6))
        ∧ (whole → n.canInvalid c e = false → n.canGuar e = false → Does (.canReady by_ v) s (fun m => Done m 2 0
            ∧ (m.chan c).order = (n.chan c).order.filter (· ≠ e) ++ [e]))
        ∧ (whole → n.canInvalid c e = false → n.canGuar e = true → n.msg.canRecs.length < 512 → n.acceptMode ≠ 0 → Does (.canReady by_ v) s (fun m =>
            Done m 1 0 ∧ m.msg.accq = n.msg.accq ++ [.canEntry e] ∧ (m.canRec e).isSome = true)))
    ∧ (mine → st = 6 → Does (.canAck by_ v) s (fun m => Done m 5 0))
    ∧ (mine → st = 4 → Does (.canAck by_ v) s (fun m => Done m 0 0 ∧ m.canRec e = none))
    ∧ (mine → st = 5 → Does (.canAbort by_ v) s (fun m => Done m 0 0))
    ∧ (mine → st = 2 → ¬ e ∈ (n.chan c).handed → Does (.canAbort by_ v) s (fun m => Done m 4 2 ∧ ¬ e ∈ (m.chan c).order))
    ∧ (queued → Does (.canAbortall by_ chan) s (fun m => m.canSt e = 4 ∧ bits (m.canW e 2) 4 4 = 2 ∧ (m.chan chan).order = []))

/-- R547, R554, R555, R558 to R561, R564, R565, R568, R571: the channels: mode and timing, sleep, recovery from bus-off; the queued entry wins and is sent, or is
retried or given up after an error; a received frame fills the next entry of its filter's ring. -/
def Obligations.CanChannels : Prop :=
  ∀ (s : State) (by_ : Initiator) (v : Word) (ch : Fin 8) (f : CanRx) (e k : Nat) (fr : Word × Word × List Byte) (q : SyncRun), s.node.running = true →
    let n := s.node
    let ctrl := (CAN_CTRL.MODE ch).addr
    let set := n.setReg ctrl (v &&& 0x00F31FFF)
    let mode := v.toNat % 8
    let refused := mode ≠ 0 ∧ mode < 6 ∧ set.canTiming ch = false ∧ n.canMode ch = 0
    let est := n.rd (CAN_STATUS.ESTATE ch)
    let m0 := n.rd (CAN_STATUS.EMODE ch)
    let x := n.chan ch
    let CODE := fun (m : Node) => bits (m.canW e 2) 4 4
    let tries := min 255 (bits (n.canW e 2) 8 8 + 1)
    let limit := n.on (CAN_CTRL.UNLIM ch) = false ∧ n.rd (CAN_CTRL.RETRY ch) < tries
    let healthy := est = 0 ∧ n.rd (CAN_ERRCNT.TEC ch) ≤ 100 ∧ n.rd (CAN_ERRCNT.REC ch) ≤ 100
    let plain := n.canGuar e = false ∧ n.canSyncf e = false ∧ n.canLaunch e = false
    let sending := x.tx = some (.entry e) ∧ x.frame = some fr ∧ n.canGuar e = false ∧ e < 1536
    let data := if bit fr.1.toNat 30 then [] else fr.2.2.take (dlcLen (bit fr.2.1.toNat 4) (bits fr.2.1.toNat 0 4))
    let hears := m0 ≠ 0 ∧ m0 ≠ 4 ∧ n.on (CAN_STATUS.ASLEEP ch) = false ∧ est < 2
    let i := n.rd (CAN_FW2.FIRST ch k) + Tab.get (fun _ => 0) x.ring k % n.rd (CAN_FW2.COUNT ch k)
    let takes := hears ∧ (est = 1 ∨ n.rd (CAN_ERRCNT.TEC ch) ≤ 127) ∧ (f.fdf = false ∨ n.on (CAN_CTRL.FDEN ch) = true) ∧ n.canFilter ch (rxIdWord f) = some k
    let room := i < 1536 ∧ (n.poolOf i).map (·.1) = some ch.val ∧ n.canSt i = 5
    (refused → Does (.canModeWrite by_ ch v) s (fun m => m.reg ctrl = v &&& 0x00F31FFF ∧ m.on (CAN_STATUS.TIMERR ch) = true ∧ m.rd (CAN_STATUS.EMODE ch) = 0
        ∧ m.on (CAN_EVT.TIMERR ch) = true))
    ∧ (¬ refused → Does (.canModeWrite by_ ch v) s (fun m => m.reg ctrl = v &&& 0x00F31FFF ∧ m.on (CAN_STATUS.TIMERR ch) = false
        ∧ m.rd (CAN_STATUS.EMODE ch) = (if mode = 0 ∨ 6 ≤ mode then 0 else if n.rd PAIR_STATUS.STATE = 4 ∨ (bit v.toNat 6 = true ∧ n.ownPin = false) then 2 else mode)))
    ∧ (Does (.canSleep by_ ch) s (fun m => m.on (CAN_CTRL.SLEEP ch) = true ∧ (x.tx = none → m.on (CAN_STATUS.ASLEEP ch) = true)
        ∧ (x.tx ≠ none → est < 2 → m.on (CAN_STATUS.ASLEEP ch) = n.on (CAN_STATUS.ASLEEP ch))))
    ∧ (Does (.canResume by_ ch) s (fun m => m.on (CAN_CTRL.SLEEP ch) = false ∧ m.on (CAN_STATUS.ASLEEP ch) = false))
    ∧ (Does (.canRecover by_ ch) s (fun m => m.rd (CAN_STATUS.ESTATE ch) = (if est = 2 then 3 else est) ∧ m.can = n.can))
    ∧ (est = 3 → Does (.canBusoffRecovered ch) s (fun m => m.rd (CAN_STATUS.ESTATE ch) = 0 ∧ m.rd (CAN_ERRCNT.TEC ch) = 0 ∧ m.rd (CAN_ERRCNT.REC ch) = 0
        ∧ m.on (CAN_STATUS.BLOCKED ch) = false))
    ∧ (est ≠ 3 → Answers (.canBusoffRecovered ch) s n)
    ∧ (n.canSends ch = true → x.order = [e] → e < 1536 → n.canSt e = 2 → plain → ¬ e ∈ x.handed → x.seq = none → n.uceIn (poolAddr e) 80 = false →
        Does (.canArbitrationWin ch) s (fun m => m.canSt e = 3 ∧ m.on (CAN_STATUS.TXING ch) = true ∧ (m.chan ch).tx = some (.entry e)
          ∧ (m.chan ch).frame = some (m.entryFrame e) ∧ m.canW e 0 = n.canW e 0))
    ∧ (n.canSends ch = true → x.order = [] → x.seq = some q → q.phase = .queued → Does (.canArbitrationWin ch) s (fun m => (m.chan ch).tx = some .sync
        ∧ (m.chan ch).seq = some { q with phase := .sending } ∧ m.on (CAN_STATUS.TXING ch) = true))
    ∧ (n.canSends ch = false ∨ (x.order = [] ∧ x.seq = none) → Answers (.canArbitrationWin ch) s n)
    ∧ (x.tx = none → Answers (.canTxEnd ch .ok) s n ∧ Answers (.canTxEnd ch .error) s n)
    ∧ (sending → healthy →
        (m0 < 4 → Does (.canTxEnd ch .ok) s (fun m => m.out = n.out ++ [⟨.can ch, leBytes 4 fr.1.toNat ++ leBytes 4 fr.2.1.toNat ++ data⟩] ∧ m.canSt e = 4
          ∧ CODE m = 0 ∧ Counted (CAN_CNT_TXOK.VALUE ch) n m ∧ (m.chan ch).tx = none ∧ ¬ e ∈ (m.chan ch).order
          ∧ m.rd (CAN_ERRCNT.TEC ch) = n.rd (CAN_ERRCNT.TEC ch) - 1 ∧ m.on (CAN_STATUS.TXING ch) = false))
        ∧ Does (.canTxEnd ch .error) s (fun m => m.canSt e = (if limit then 4 else 2) ∧ (limit → CODE m = 1 ∧ m.on (CAN_EVT.RETRYLIM ch) = true)
          ∧ bits (m.canW e 2) 8 8 = tries ∧ (m.chan ch).tx = none ∧ Counted (CAN_CNT_ERRFRAME.VALUE ch) n m
          ∧ m.rd (CAN_ERRCNT.TEC ch) = n.rd (CAN_ERRCNT.TEC ch) + 8))
    ∧ (x.tx = some .sync → x.frame = some fr → x.seq = some q → m0 < 4 → Does (.canTxEnd ch .ok) s (fun m => (m.chan ch).tx = none
        ∧ (m.chan ch).seq = some { q with phase := .window }))
    ∧ (¬ hears → Answers (.canFrameReceive ch f) s n)
    ∧ (hears → f.fdf = true → n.on (CAN_CTRL.FDEN ch) = false → n.on (CAN_CTRL.PXHD ch) = true → Answers (.canFrameReceive ch f) s n)
    ∧ (hears → f.fdf = true → n.on (CAN_CTRL.FDEN ch) = false → n.on (CAN_CTRL.PXHD ch) = false → Does (.canFrameReceive ch f) s (fun m =>
        m.rd (CAN_ERRCNT.LEC ch) = 2 ∧ Counted (CAN_CNT_ERRFRAME.VALUE ch) n m))
    ∧ (hears → f.fdf = false → n.canFilter ch (rxIdWord f) = none → Does (.canFrameReceive ch f) s (Counted (CAN_CNT_NOMATCH.VALUE ch) n))
    ∧ (takes → ¬ room → Does (.canFrameReceive ch f) s (fun m => Counted (CAN_CNT_RXOVF.VALUE ch) n m ∧ m.on (CAN_EVT.RXOVF ch) = true))
    ∧ (takes → room → f.data.length ≤ 64 → Does (.canFrameReceive ch f) s (fun m => Counted (CAN_CNT_RXOK.VALUE ch) n m ∧ m.canSt i = 6
        ∧ m.canW i 0 = rxIdWord f ∧ m.memBytes (poolAddr i + 16) f.data.length = f.data ∧ m.rd (CAN_STATUS.EMODE ch) = m0))

/-! ### Local interfaces -/

/-- R225, R226, R580 to R586, R604, R605, R607: the switch: a frame at an external port is refused, learned, forwarded or given to the receive ring; a transmit
descriptor is taken or returned with ERR; the gateway, the agent, ARP, ageing, MDIO, links and the frame that leaves. The frame fields of the
datagrams are the model's where log entries 36 to 39 and 54 say so. -/
def Obligations.Ethernet : Prop :=
  ∀ (s : State) (by_ : Initiator) (v ts : Word) (p : Fin 2) (r : EthRx) (g : Fin 64) (f : EthFrame) (rest : List EthFrame) (w : EthPort)
    (pay : List Byte) (mac sp dp k : Nat) (d16 : BitVec 16) (up an fault : Bool) (speed : BitVec 2) (ent : Fin 16) (ae : Nat × Option Nat), s.node.running = true →
    let n := s.node
    let b := r.bytes
    let here := r.port = .eth0 ∧ n.ethOn 0 = true
    let fine := here ∧ b.length ≤ 1536 ∧ fcsOk b = true
    let dst := be b 0 6
    let src := macSrc b
    let desc := n.rd ETH_RXRING.VALUE + 16 * n.rd ETH_RXCNT.NEXT
    let buf := n.memLe desc 4
    let ring := 0 < n.rd ETH_RXCNT.COUNT ∧ n.rd ETH_RXCNT.COUNT ≤ 256 ∧ ethMem desc 16 = true ∧ n.uceIn desc 16 = false
    let own := bit (n.memByte (desc + 6)).toNat 0
    let raw := dst = n.ownMac ∧ dst ≠ 0 ∧ be b (typeOff b) 2 ≠ 0x0800 ∧ be b (typeOff b) 2 ≠ 0x0806
    let tdesc := n.rd ETH_TXRING.VALUE + 16 * n.rd ETH_TXCNT.NEXT
    let tlen := n.memLe (tdesc + 4) 2
    let tbuf := n.memLe tdesc 4
    let one := n.on ETH_CTRL.EN = true ∧ n.rd ETH_TXCNT.COUNT = 1 ∧ n.rd ETH_TXCNT.NEXT = 0 ∧ ethMem tdesc 16 = true ∧ n.uce = []
      ∧ n.eth.q0 = [] ∧ n.eth.q1 = [] ∧ bit (n.memByte (tdesc + 6)).toNat 0 = true ∧ (n.memByte (tdesc + 7)).toNat % 4 = 1 ∧ n.ethOn 0 = true
    let gate := n.on SIG_CTRL.GWEN = true ∧ n.on (SIG_GWW2.EN g) = true ∧ n.rd (SIG_GWW0.COUNT g) ≠ 0 ∧ n.shed = false
      ∧ n.cycle % (max 1 (min 1000 (n.rd (SIG_GWW2.PERIOD g)))) = 0
    let hop := n.nextHop (n.rd (SIG_GWW1.DEST g))
    let idle := n.eth.q0 = [] ∧ n.eth.q1 = [] ∧ n.uce = []
    let asks := n.ethQ p = f :: rest
    let sends := (w = .eth0 ∧ p = 0) ∨ (w = .eth1 ∧ p = 1)
    let Gone := fun (m : Node) => m.ethQ p = rest ∧ m.out = n.out ++ [⟨.eth p, f.bytes⟩]
    let mdio := v.toNat % 32 = k ∧ n.on ETH_MDIO.BUSY = false
    let LinkIs := fun (m : Node) (up : Bool) => m.on (ETH_PSTAT.LINK p) = up ∧ (n.on (ETH_PSTAT.LINK p) ≠ up → bit (m.reg ETH_EVT.LINK.addr).toNat p = true)
    (r.port = .int ∨ (r.port = .eth0 ∧ n.ethOn 0 = false) → Answers (.ethFrameReceive r) s n)
    ∧ (here → 1536 < b.length → Answers (.ethFrameReceive r) s (n.count ETH_CNT_OVERSIZE.VALUE))
    ∧ (here → b.length ≤ 1536 → fcsOk b = false → Answers (.ethFrameReceive r) s (n.count ETH_CNT_DROPFCS.VALUE))
    ∧ (fine → n.intWants b = false → n.on ETH_CTRL.LEARN = true → bit (src / 1099511627776) 0 = false → n.eth.macs.length < 2048 →
        Does (.ethFrameReceive r) s (fun m => m.macPort src = some 0))
    ∧ (fine → n.intWants b = false → dst ≠ n.ownMac → dst ≠ src → n.macPort dst = none → n.ethLink 1 = true → n.eth.q1 = [] →
        Does (.ethFrameReceive r) s (fun m => (m.eth.q1.map (fun x => (x.bytes, x.high, x.desc, x.slot))) = [(b, n.highFrame b, none, none)]
          ∧ m.eth.q0 = n.eth.q0 ∧ Counted ETH_CNT_FWD.VALUE n m))
    ∧ (fine → raw → ring → own = false → Does (.ethFrameReceive r) s (fun m => Counted ETH_CNT_RXFULL.VALUE n m ∧ m.on ETH_EVT.RXFULL = true))
    ∧ (fine → raw → ring → own = true → ethMem buf 1536 = true → (buf + 1536 ≤ desc ∨ desc + 16 ≤ buf) → Does (.ethFrameReceive r) s (fun m =>
        m.memBytes buf (b.length - 4) = b.take (b.length - 4) ∧ m.memLe (desc + 4) 2 = b.length - 4 ∧ bit (m.memByte (desc + 6)).toNat 0 = false
        ∧ m.rd ETH_RXCNT.NEXT = (if n.rd ETH_RXCNT.COUNT ≤ n.rd ETH_RXCNT.NEXT + 1 then 0 else n.rd ETH_RXCNT.NEXT + 1)))
    ∧ (n.on ETH_CTRL.EN = false → Does (.txkick by_) s (fun m => m.eth = n.eth ∧ m.mem = n.mem))
    ∧ (one → 60 ≤ tlen → tlen ≤ 1532 → ethMem tbuf tlen = true → Does (.txkick by_) s (fun m => m.rd ETH_TXCNT.NEXT = 0 ∧ m.eth.q1 = []
        ∧ m.eth.q0.map (fun x => (x.bytes, x.desc)) = [(withFcs (n.memBytes tbuf tlen), some 0)] ∧ m.mem = n.mem))
    ∧ (one → tlen < 60 ∨ 1532 < tlen ∨ ethMem tbuf tlen = false → Does (.txkick by_) s (fun m => m.memByte (tdesc + 6) = 4 ∧ m.eth.q0 = []))
    ∧ (¬ gate → Answers (.gatewaySend g) s n)
    ∧ (gate → idle → n.gwPayloads g = [pay] → n.eth.arp = [] → Does (.gatewaySend g) s (fun m => Counted SIG_CNT_GWDROP.VALUE n m
        ∧ m.on SIG_EVT.GWDROP = true ∧ m.eth.arp = [(hop, none)]))
    ∧ (gate → idle → n.gwPayloads g = [pay] → pay.length ≤ 1472 → n.eth.arp = [(hop, some mac)] → mac < 281474976710656 → mac ≠ n.ownMac →
        bit (mac / 1099511627776) 0 = false → n.macPort mac = some 0 → n.ethOn 0 = true →
        Does (.gatewaySend g) s (fun m => Counted SIG_CNT_GWSENT.VALUE n m ∧ m.eth.q0.map (fun x => (be x.bytes 0 6, slice x.bytes 42 pay.length)) = [(mac, pay)]))
    ∧ (n.mgmtPort dp = false → Answers (.mgmtDatagram v sp dp pay) s n)
    ∧ (n.mgmtPort dp = true → n.mgmtAllows v.toNat = false ∨ mgmtGood pay = false → Does (.mgmtDatagram v sp dp pay) s (fun m =>
        Counted ETH_CNT_MGMTREJ.VALUE n m ∧ m.on ETH_EVT.MGMTREJ = true))
    ∧ (n.mgmtPort dp = true → n.mgmtAllows v.toNat = true → mgmtGood pay = true → be pay 0 1 = 1 → hostWords pay = 1 → be pay 2 4 % 4 = 0 → n.uce = [] →
        n.sramMay .agent (be pay 2 4) 4 = true → Does (.mgmtDatagram v sp dp pay) s (fun m => m.memLe (be pay 2 4) 4 = be pay 6 4
          ∧ m.rd ETH_CNT_MGMTREJ.VALUE = n.rd ETH_CNT_MGMTREJ.VALUE))
    ∧ (n.eth.arp[ent.val]? = none → Answers (.arpRefresh ent) s n)
    ∧ (n.eth.arp[ent.val]? = some ae → n.eth.q0 = [] → n.ethLink 0 = true → n.ownMac ≠ 0xFFFFFFFFFFFF → Does (.arpRefresh ent) s (fun m => m.eth.arp = n.eth.arp
        ∧ m.eth.q0.map (fun x => (be x.bytes 0 6, be x.bytes 12 2, be x.bytes 20 2, be x.bytes 38 4)) = [(0xFFFFFFFFFFFF, 0x0806, 1, ae.1 % 4294967296)]))
    ∧ (n.rd ETH_CTRL.AGE ≠ 0 → Answers (.addressAgeing mac) s { n with eth := { n.eth with macs := n.eth.macs.filter (fun x => x.1 ≠ mac) } })
    ∧ (n.rd ETH_CTRL.AGE = 0 → Answers (.addressAgeing mac) s n)
    ∧ (mdio → Does (.mdioRead by_ v) s (fun m => m.on ETH_MDIO.BUSY = true ∧ m.rd ETH_MDIO.PHY = k ∧ m.on ETH_MDIO.WRITE = false
        ∧ (⟨.mdio, leBytes 1 k ++ leBytes 1 (v.toNat / 32 % 32) ++ [0]⟩ : Emission) ∈ m.out))
    ∧ (mdio → Does (.mdioWrite by_ v) s (fun m => m.on ETH_MDIO.BUSY = true ∧ m.rd ETH_MDIO.PHY = k ∧ m.on ETH_MDIO.WRITE = true
        ∧ (⟨.mdio, leBytes 1 k ++ leBytes 1 (v.toNat / 32 % 32) ++ [1] ++ leBytes 2 (n.rd ETH_MDIODATA.DATA)⟩ : Emission) ∈ m.out))
    ∧ (n.on ETH_MDIO.BUSY = true → Does (.mdioRead by_ v) s (fun m => m.reg ETH_MDIO.PHY.addr = n.reg ETH_MDIO.PHY.addr)
        ∧ Does (.mdioDone d16) s (fun m => m.on ETH_MDIO.BUSY = false ∧ m.rd ETH_MDIODATA.DATA = (if n.on ETH_MDIO.WRITE then n.rd ETH_MDIODATA.DATA else d16.toNat)))
    ∧ (n.on ETH_MDIO.BUSY = false → Answers (.mdioDone d16) s n)
    ∧ (n.on ETH_MDIOPOLL.EN = true → n.shed = false → Does (.mdioPoll p d16) s (fun m => LinkIs m (bit d16.toNat 2)))
    ∧ (n.on ETH_MDIOPOLL.EN = false ∨ n.shed = true → Answers (.mdioPoll p d16) s n)
    ∧ Does (.linkChange p up speed an fault) s (fun m => LinkIs m up ∧ m.rd (ETH_PSTAT.SPEED p) = speed.toNat ∧ m.on (ETH_PSTAT.ANDONE p) = an
        ∧ m.on (ETH_PSTAT.FAULT p) = fault)
    ∧ (w = .int ∨ (sends ∧ n.ethQ p = []) → Answers (.ethFrameSent w ts) s n)
    ∧ (sends → asks → f.tin = none →
        (f.desc = none → f.slot = none → Does (.ethFrameSent w ts) s (fun m => Gone m ∧ m.regs = n.regs ∧ m.mem = n.mem))
        ∧ (f.desc = none → f.slot = some k → k < 8 → Does (.ethFrameSent w ts) s (fun m => Gone m ∧ m.rd (ETH_LSD.TS k) = ts.toNat ∧ m.rd (ETH_LSC.STATE k) = 3
            ∧ m.on (ETH_LSB.ARM k) = false))
        ∧ (f.desc = some k → f.slot = none → ethMem (n.rd ETH_TXRING.VALUE + 16 * k) 16 = true → Does (.ethFrameSent w ts) s (fun m => Gone m
            ∧ m.memByte (n.rd ETH_TXRING.VALUE + 16 * k + 6) = 2 ∧ m.memLe (n.rd ETH_TXRING.VALUE + 16 * k + 8) 4 = ts.toNat)))

/-- R330, R344, R588, R589, R593, R595, R600, R601, R608 to R610: the audio ports start, stop and lose their rate; an erase and a copy start, are refused by range or
gust, and end; a pin's level, its event, the host's and an engine's outputs. -/
def Obligations.AudioPortsFlashAndPins : Prop :=
  ∀ (s : State) (by_ : Initiator) (v : Word) (p : Fin 4) (ppm : Int) (c : QCtl) (err level : Bool) (er : EraseRun) (cp : CopyRun) (pin : Fin 32) (e : Fin 8),
    s.node.running = true →
    let n := s.node
    let ctrl := (TDM_CTRL.EN p).addr
    let was := n.on (TDM_STATUS.RUN p)
    let starts := was = false ∧ (bit v.toNat 1 = false ∨ bit v.toNat 7 = false)
    let slave := was = true ∧ n.on (TDM_CTRL.MASTER p) = false
    let q := qNo c
    let units := v.toNat % 65536
    let gust := v.toNat / 65536 % 256
    let first := n.rd (QSPI_ERASE0.VALUE q)
    let granted := n.gustGranted gust 7 = true
    let outside := n.eraseRange c first (4096 * units) = true
    let Err := fun (m : Node) (k : Nat) => m.rd (QSPI_STATUS.ERR q) = k ∧ m.qErase c = n.qErase c ∧ m.on (QSPI_STATUS.ERASING q) = n.on (QSPI_STATUS.ERASING q)
    let len := v.toNat % 2097152
    let a := n.rd (QSPI_COPY0.VALUE q)
    let d := n.rd (QSPI_COPY1.VALUE q)
    let badLen := len = 0 ∨ 1048576 < len ∨ n.qSize c < d + len
    let dma := (0x20200000 ≤ a ∧ a + len ≤ 0x20300000) ∨ (0x20380000 ≤ a ∧ a + len ≤ 0x203A0000) ∨ (0x207E0000 ≤ a ∧ a + len ≤ 0x20800000)
    let Copies := fun (m : Node) (prog : Bool) => m.qCopy c = some ⟨prog, a, d, len⟩ ∧ m.on (QSPI_COPYSTAT.BUSY q) = true ∧ m.on (QSPI_STATUS.BUSY q) = true
    let Result := fun (m : Node) (k : Nat) => m.rd (QSPI_COPYSTAT.RESULT q) = k ∧ m.on (QSPI_COPYSTAT.BUSY q) = false ∧ m.qCopy c = none
    let IN := fun (m : Node) => bit (m.rd GPIO_IN.IN) pin
    let OUT := fun (m : Node) (y : Nat) => bit (m.rd GPIO_OUT.OUT) y
    let pinW := (GPIO_PIN.MODE pin).addr
    let becomes := n.pinOut pin = false ∧ (v.toNat % 4 = 1 ∨ v.toNat % 4 = 2)
    (Does (.tdmEnable by_ p v) s (fun m => m.reg ctrl = (v ||| 1) &&& 0xFFF ∧ (was = true → m.on (TDM_STATUS.RUN p) = true ∧ m.tdm = n.tdm)))
    ∧ (starts → Does (.tdmEnable by_ p v) s (fun m => m.on (TDM_STATUS.RUN p) = true ∧ m.on (TDM_STATUS.GRIDOFF p) = false ∧ m.on (TDM_EVT.START p) = true
        ∧ (bit v.toNat 1 = false → m.on (TDM_STATUS.LOCK p) = true)))
    ∧ (was = false → ¬ starts → Does (.tdmEnable by_ p v) s (fun m => m.on (TDM_STATUS.RUN p) = false))
    ∧ Does (.tdmDisable by_ p v) s (fun m => m.reg ctrl = v &&& 0xFFE ∧ m.on (TDM_STATUS.RUN p) = false ∧ m.on (TDM_STATUS.LOCK p) = false
        ∧ m.on (TDM_STATUS.LOCKERR p) = false ∧ (was = true → Counted (TDM_FRAMES.VALUE p) n m))
    ∧ (slave → 1000 < ppm.natAbs → Does (.tdmLockerr p ppm) s (fun m => m.rd (TDM_STATUS.PPM p) = (ppm.emod 65536).toNat ∧ m.on (TDM_STATUS.LOCKERR p) = true
        ∧ (n.on (TDM_STATUS.LOCKERR p) = false → m.on (TDM_STATUS.LOCK p) = false ∧ Counted (TDM_LOCKERRS.VALUE p) n m ∧ m.on (TDM_EVT.LOCKERR p) = true)))
    ∧ (slave → ppm.natAbs ≤ 1000 → Does (.tdmLockRegain p ppm) s (fun m => m.rd (TDM_STATUS.PPM p) = (ppm.emod 65536).toNat
        ∧ m.on (TDM_STATUS.LOCKERR p) = false ∧ m.on (TDM_STATUS.LOCK p) = true))
    ∧ (¬ slave → Answers (.tdmLockerr p ppm) s n ∧ Answers (.tdmLockRegain p ppm) s n)
    ∧ (n.qErase c = none →
        (¬ granted → Does (.qspiErase by_ c v) s (fun m => Err m 1))
        ∧ (granted → outside → Does (.qspiErase by_ c v) s (fun m => Err m 2))
        ∧ (granted → ¬ outside → Does (.qspiErase by_ c v) s (fun m => m.rd (QSPI_STATUS.ERR q) = 0 ∧ m.qErase c = some ⟨first, units, gust⟩
            ∧ m.on (QSPI_STATUS.ERASING q) = true ∧ (n.qSize .per ≠ 0 → m.on (QSPI_STATUS.INTENT q) = true))))
    ∧ (n.qErase c = some er → Does (.qspiErase by_ c v) s (fun m => m.qErase c = some er ∧ m.qper = n.qper ∧ m.qboot = n.qboot))
    ∧ (n.qErase c = none ∨ n.on (QSPI_STATUS.SUSPENDED q) = true → Answers (.qspiEraseDone c err) s n)
    ∧ (n.qErase c = some er → n.on (QSPI_STATUS.SUSPENDED q) = false → c = .boot ∨ 4096 ≤ er.first →
        Does (.qspiEraseDone c false) s (fun m => m.qErase c = none ∧ m.on (QSPI_STATUS.ERASING q) = false ∧ Counted (QSPI_ERASES.VALUE q) n m
          ∧ m.on (QSPI_EVT.ERASEDONE q) = true ∧ ∀ y, er.first ≤ y → y < er.first + 4096 * er.count → m.flashByte c y = 0xFF)
        ∧ Does (.qspiEraseDone c true) s (fun m => m.qErase c = none ∧ m.rd (QSPI_STATUS.ERR q) = 3 ∧ Counted (QSPI_DEVERRS.VALUE q) n m
          ∧ m.on (QSPI_EVT.DEVERR q) = true))
    ∧ (n.qCopy c = none →
        (badLen → Does (.qspiCopyRead by_ c v) s (fun m => Result m 2) ∧ Does (.qspiCopyProgram by_ c v) s (fun m => Result m 2))
        ∧ (¬ badLen → dma → n.sramMay by_ a len = true → Does (.qspiCopyRead by_ c v) s (fun m => Copies m false))
        ∧ (¬ badLen → ¬ dma → Does (.qspiCopyRead by_ c v) s (fun m => Result m 1))
        ∧ (¬ badLen → c = .boot → 0x20000000 ≤ a → a + len ≤ 0x20800000 → Does (.qspiCopyProgram by_ c v) s (fun m => Copies m true))
        ∧ (c = .per → Does (.qspiCopyProgram by_ c v) s (fun m => Result m 2)) ∧ Answers (.qspiCopyDone c err) s n)
    ∧ (n.qCopy c = some cp → Answers (.qspiCopyRead by_ c v) s n ∧ Answers (.qspiCopyProgram by_ c v) s n
        ∧ Does (.qspiCopyDone c true) s (fun m => Result m 3 ∧ Counted (QSPI_DEVERRS.VALUE q) n m ∧ m.on (QSPI_EVT.DEVERR q) = true)
        ∧ (cp.program = false → Does (.qspiCopyDone c false) s (fun m => Result m 0 ∧ m.memBytes cp.sram cp.len = n.flashBytes c cp.dev cp.len))
        ∧ (cp.program = true → n.uce = [] → Does (.qspiCopyDone c false) s (fun m => Result m 0 ∧ ∀ y, y < cp.len →
            m.flashByte c (cp.dev + y) = n.flashByte c (cp.dev + y) &&& n.memByte (cp.sram + y))))
    ∧ Does (.gpioInputChange pin level) s (fun m => bit m.gpio.level.toNat pin = level ∧ m.gpio.out = n.gpio.out
        ∧ (n.gpioForce 2 pin = none → IN m = level)
        ∧ (n.gpioForce 2 pin = none → (level = true ∧ IN n = false ∧ n.on (GPIO_PIN.RISE pin) = true) ∨ (level = false ∧ IN n = true ∧ n.on (GPIO_PIN.FALL pin) = true) →
            bit (m.reg GPIO_EVT.EDGE.addr).toNat pin = true))
    ∧ (Does (.gpioSet .host v) s (fun m => m.gpio.out = n.gpio.out ||| (v &&& n.pinsOf 8)
        ∧ ∀ y, y < 32 → n.gpioForce 3 y = none → n.pinOut y = true → OUT m y = bit (n.gpio.out ||| (v &&& n.pinsOf 8)).toNat y))
    ∧ (Does (.gpioClr .host v) s (fun m => m.gpio.out = n.gpio.out &&& ~~~(v &&& n.pinsOf 8)
        ∧ ∀ y, y < 32 → n.gpioForce 3 y = none → n.pinOut y = true → OUT m y = bit (n.gpio.out &&& ~~~(v &&& n.pinsOf 8)).toNat y))
    ∧ (v &&& ~~~(n.pinsOf e) = 0 → Does (.gpioSet (.eng e) v) s (fun m => m.gpio = n.gpio ∧ m.rd GPIO_OUT.OUT = n.rd GPIO_OUT.OUT
          ∧ (m.engRun e).gpioMask = (n.engRun e).gpioMask ||| v ∧ (m.engRun e).gpioVal = (n.engRun e).gpioVal ||| v)
        ∧ Does (.gpioClr (.eng e) v) s (fun m => m.gpio = n.gpio ∧ m.rd GPIO_OUT.OUT = n.rd GPIO_OUT.OUT
          ∧ (m.engRun e).gpioMask = (n.engRun e).gpioMask ||| v ∧ (m.engRun e).gpioVal = (n.engRun e).gpioVal &&& ~~~v))
    ∧ Does (.gpioModeWrite by_ pin v) s (fun m => m.reg pinW = v &&& 0x3FF7F
        ∧ (¬ becomes → m.gpio = n.gpio) ∧ (becomes → bit m.gpio.out.toNat pin = bit v.toNat 6
          ∧ (∀ y, y < 32 → y ≠ pin.val → bit m.gpio.out.toNat y = bit n.gpio.out.toNat y)
          ∧ (n.gpioForce 3 pin = none → OUT m pin = bit v.toNat 6)))

/-! ### The recorder -/

/-- R613, R619, R623 to R626, R629 to R635: the recorder is enabled, flushes its records to their slots, formats its area, copies a record to the read window,
issues a challenge, judges its response and clears, collects a copy or says why not, and takes a snapshot address. -/
def Obligations.Recorder : Prop :=
  ∀ (s : State) (by_ : Initiator) (v : Word) (r : StagedRec) (x : List Byte) (c t : Nat), s.node.running = true →
    let n := s.node
    let st := n.rd EVR_STATUS.STATE
    let rest := if n.evr.held then 5 else if n.rolling = 0 then 1 else 2
    let total := n.areaSlots
    let k := n.rd EVR_AREA.VALUE
    let blank := n.hdrNewest = none ∧ n.clearEntries = [] ∧ k + 256 ≤ total ∧ ∀ q, q ∈ n.slotSeqs (upTo k) → k < q.2
    let clears := st = 2 ∨ st = 3
    let right := n.evr.challenge = some (c, t) ∧ n.now ≤ t + 60000000000 ∧ bit (n.otpWord 18) 1 = true
      ∧ n.clearResponse c = leBytes 4 (n.rd EVR_CLRRESP_LO.VALUE) ++ leBytes 4 (n.rd EVR_CLRRESP_HI.VALUE)
    let wrong := n.evr.challenge.all (fun x => decide (x.2 + 60000000000 < n.now) || !bit (n.otpWord 18) 1
      || n.clearResponse x.1 ≠ leBytes 4 (n.rd EVR_CLRRESP_LO.VALUE) ++ leBytes 4 (n.rd EVR_CLRRESP_HI.VALUE)) = true
    let a := n.rd EVR_COLADDR.VALUE
    let b := n.memBytes a (n.memLe a 2)
    let open_ := n.on EVR_CTRL.COLLECT = true ∧ st ≠ 0
    let inside := colAddrOk a (max 48 (min 384 b.length)) = true
    let valid := n.uceIn a b.length = false ∧ recValid b = true
    let old := ((n.evr.collector.find? (fun p => p.1 = le b 20 8)).map (fun p => decide (le b 12 8 ≤ p.2))).getD false
    let room := (stagedBytes n.evr.unflushed + b.length ≤ 65536 ∧ n.evr.unflushed.length < 1024) ∨ n.flushGust = true
    let Col := fun (m : Node) (z : Nat) => m.rd EVR_COLCMD.RESULT = z
    let seq := n.rd64 EVR_RDSEQ_LO.VALUE EVR_RDSEQ_HI.VALUE
    let badAddr := v.toNat < 0x40000000 ∨ 0x4007FFFF < v.toNat ∨ v.toNat % 4 ≠ 0 ∨ v.toNat = 0x4000701C ∨ v.toNat = 0x4000702C
    (n.evr.started = true → Does (.evrEnable by_) s (fun m => m.on EVR_CTRL.EN = true ∧ m.evr = n.evr
        ∧ m.rd EVR_STATUS.STATE = (if st = 0 then rest else st)))
    ∧ (n.evr.started = false → total = 0 → n.rolling = 0 → Does (.evrEnable by_) s (fun m => m.on EVR_CTRL.EN = true ∧ m.evr.started = true
        ∧ m.evr.powerCycles = n.evr.powerCycles + 1))
    ∧ (n.flushGust = true → st = 2 → n.evr.unflushed ≠ [] → Does (.evrFlushCmd by_) s (fun m => m.rd EVR_STATUS.STATE = 3
        ∧ m.evr = { n.evr with flush := some .command }))
    ∧ (n.flushGust = false ∨ st ≠ 2 ∨ n.evr.unflushed = [] → Answers (.evrFlushCmd by_) s n)
    ∧ (n.evr.flush = none ∨ n.evr.flush = some .powerFail → Answers .evrFlushDone s n)
    ∧ (n.evr.flush = some .command → n.evr.waiting = [] → n.evr.unflushed = [r] → n.uceIn (stageAddr r.seq) r.len = false → 1 ≤ r.seq → r.seq ≤ n.evr.frozen →
        n.evr.collector.length ≤ 128 → Does .evrFlushDone s (fun m => m.evr.unflushed = [] ∧ m.rd EVR_STATUS.UNFLUSHED = 0 ∧ m.evr.flush = none ∧ Counted EVR_CNT_FLUSHES.VALUE n m
          ∧ m.rd EVR_STATUS.STATE = (if n.on EVR_CTRL.EN then rest else 0)
          ∧ m.areaBytes (slotOff (r.seq - 1)) r.len = n.memBytes (stageAddr r.seq) r.len))
    ∧ (¬ blank → Does (.evrFormat by_) s (fun m => m = n.wr EVR_STATUS.ERR 1))
    ∧ (blank → total < 4294967296 → Does (.evrFormat by_) s (fun m => m.rd EVR_STATUS.ERR = 0 ∧ m.evr.frozen = k ∧ m.rolling = total - k
        ∧ (st = 1 → n.on EVR_CTRL.EN = true → n.evr.held = false → m.rd EVR_STATUS.STATE = 2)))
    ∧ Does (.evrRead by_) s (fun m => m = n.wr EVR_RDCMD.RESULT 1)
    ∧ (n.rd EVR_RDCMD.RESULT ≠ 1 → Answers .evrReadDone s n)
    ∧ (n.rd EVR_RDCMD.RESULT = 1 → n.findRecord seq = some x → Does .evrReadDone s (fun m => m.rd EVR_RDCMD.RESULT = 2 ∧ m.memBytes 0x20690000 x.length = x))
    ∧ (n.rd EVR_RDCMD.RESULT = 1 → n.findRecord seq = none → Answers .evrReadDone s (n.wr EVR_RDCMD.RESULT 3))
    ∧ (n.now < n.evr.lockedUntil → Does (.challengeIssue by_) s (fun m => m.rd64 EVR_CLRCHAL_LO.VALUE EVR_CLRCHAL_HI.VALUE = 0 ∧ m.evr = n.evr))
    ∧ (n.evr.lockedUntil ≤ n.now → Does (.challengeIssue by_) s (fun m =>
        m.evr.challenge = some (m.rd64 EVR_CLRCHAL_LO.VALUE EVR_CLRCHAL_HI.VALUE, n.now)))
    ∧ Answers .challengeExpiry s { n with evr := { n.evr with challenge := none } }
    ∧ (¬ clears → Answers (.clear by_) s n)
    ∧ (clears → 64 ≤ n.evr.logCount → Does (.clear by_) s (fun m => m = n.wr EVR_CLRCMD.RESULT 3))
    ∧ (clears → n.evr.logCount < 64 → right → Does (.clear by_) s (fun m => m.rd EVR_CLRCMD.RESULT = 1 ∧ m.evr.challenge = none
        ∧ m.evr.logCount = n.evr.logCount + 1 ∧ m.rd EVR_CLRCMD.LOGCOUNT = n.evr.logCount + 1 ∧ m.on EVR_EVT.CLEARED = true))
    ∧ (clears → n.evr.logCount < 64 → wrong → Does (.clear by_) s (fun m => m.rd EVR_CLRCMD.RESULT = 2 ∧ m.evr.challenge = none
        ∧ m.evr.lockedUntil = n.now + 10000000000 ∧ m.rd64 EVR_CLRCHAL_LO.VALUE EVR_CLRCHAL_HI.VALUE = 0 ∧ Counted EVR_CNT_CLRFAIL.VALUE n m
        ∧ m.on EVR_EVT.CLRFAIL = true))
    ∧ (¬ open_ → Does (.collect by_) s (fun m => Col m 4 ∧ m.evr = n.evr))
    ∧ (open_ → ¬ inside → Does (.collect by_) s (fun m => Col m 3 ∧ m.evr = n.evr))
    ∧ (open_ → inside → ¬ valid → Does (.collect by_) s (fun m => Col m 1 ∧ m.evr = n.evr))
    ∧ (open_ → inside → valid → old = true → Does (.collect by_) s (fun m => Col m 2 ∧ Counted EVR_CNT_COLDUP.VALUE n m ∧ m.on EVR_EVT.COLDUP = true))
    ∧ (open_ → inside → valid → old = false → n.evr.held = false → st ≠ 4 → room → Does (.collect by_) s (fun m => Col m 0 ∧ Counted EVR_CNT_COLLECTED.VALUE n m
        ∧ m.evr.collector.head? = some (le b 20 8, le b 12 8)))
    ∧ (badAddr → Does (.snapshotAddressWrite by_ v) s (fun m => m.on EVR_EVT.SNAPERR = true))
    ∧ (¬ badAddr → Does (.snapshotAddressWrite by_ v) s (fun m =>
        m.rd (EVR_SADDR.ADDR (32 * n.rd EVR_TSEL.TRIGGER + n.rd EVR_SSEL.ENTRY)) = v.toNat ∧ m.evr = n.evr))

/-! ### The whole node -/

/-- R22: one write to TIME_SNAP holds what all four time bases show at that instant, and how often each has stepped. -/
def Obligations.SnapshotOfAllBases : Prop :=
  ∀ (s : State) (by_ : Initiator), s.node.running = true →
    let n := s.node
    Does (.timeSnap by_) s (fun m => m.rd (TIME_SNAPV.VALUE 0) = n.time.train.toNat ∧ m.rd (TIME_SNAPV.VALUE 1) = n.time.ptp.toNat
      ∧ m.rd (TIME_SNAPV.VALUE 2) = n.now % 4294967296 ∧ m.rd (TIME_SNAPV.VALUE 3) = n.time.utc.toNat
      ∧ m.rd TIME_SNAPSTEP.TRAIN = n.time.stepsTrain % 256 ∧ m.rd TIME_SNAPSTEP.PTP = n.time.stepsPtp % 256
      ∧ m.rd TIME_SNAPSTEP.UTC = n.time.stepsUtc % 256 ∧ m.time = n.time ∧ m.mem = n.mem)

/-- R677: a read of a register gives its value and leaves the node as it is, but for MSG_HGET, which takes the next descriptor of the host's queue,
and EVR_CLRCHAL_LO, which issues a challenge. -/
def Obligations.ReadsChangeNothing : Prop :=
  ∀ (n : Node) (a : Nat), (specOf a).isSome = true →
    let q := n.rd MSG_HQ.QUEUE
    let read := ((n.dq q).filter (·.read)).length
    (a ≠ MSG_HGET.DESC.addr → a ≠ EVR_CLRCHAL_LO.VALUE.addr → n.regRead a = (n.look a, n))
    ∧ (a = MSG_HGET.DESC.addr → n.rd (MSG_DQ.OWNER q) = 8 → read < 16 → read < (n.dq q).length →
        ((n.regRead a).2.dq q)[read]? = (n.dq q)[read]?.map (fun d => { d with read := true }))
    ∧ (a = EVR_CLRCHAL_LO.VALUE.addr → n.evr.lockedUntil ≤ n.now → ∃ c, (n.regRead a).2.evr.challenge = some (c, n.now)
        ∧ (n.regRead a).1 = BitVec.ofNat 32 c)

/-- A step with a command at the front of the queue is that command's meaning on the state with the queue's rest; every command completes, and
none touches the queue. -/
def Obligations.StepRunsFrontCommand : Prop :=
  ∀ (c : Instr) (rest : List Instr) (s : State), step { s with pending := c :: rest } = exec c { s with pending := rest }
    ∧ ∃ m, exec c s = .next { s with node := m }

/-- On an empty queue a step is one CLK_SYS period (the model's choice, log entry 2): TB_LOCAL counts 2 ns on a running node, and a node that does
not run has only its RTC counting, a second after 10^9 ns. -/
def Obligations.EmptyQueueIsOnePeriod : Prop :=
  ∀ (s : State), s.pending = [] →
    let n := s.node
    let f := n.lull.rtcNs + 2
    ∃ m, step s = .next { s with node := m }
      ∧ (n.running = true → m.now = n.now + 2)
      ∧ (n.running = false → m.mem = n.mem ∧ m.time = n.time ∧ ∀ a, a ≠ AON_RTCS.VALUE.addr → m.reg a = n.reg a)
      ∧ m.lull.rtcNs = (if f < 1000000000 then f else f - 1000000000)
      ∧ (1000000000 ≤ f → n.running = false → m.rd AON_RTCS.VALUE = (n.rd AON_RTCS.VALUE + 1) % 4294967296)

/-- R641, R456, R487: a node held in reset stays as it is, step after step, but for the RTC, whatever commands wait, until a reset, a release or a
wake comes. -/
def Obligations.HeldNodeKeepsStill : Prop :=
  ∀ (n0 : Node) (s t : State), HeldAs n0 s → step s = .next t → HeldAs n0 t

/-- R641: a reset that reaches the node puts it in that state: from State.reset, and from any state, with no such command behind it. -/
def Obligations.ResetsHoldTheNode : Prop :=
  ∀ (s : State) (rest : List Instr) (c : Instr), (∀ x, x ∈ rest → Instr.actsHeld x = false) →
    (c = .vddAonPor ∨ (s.node.lull.asleep = false ∧ (c = .mainRailPor 1 ∨ c = .nreset 1000 ∨ c = .supplyReset 0)) ∨ (s.node.running = true ∧ c = .swrst .host)) →
      ∃ t, step { s with pending := c :: rest } = .next t ∧ HeldAs t.node t

/-- R139, R354 to R356, R415, R450, R480, R679 and the Reset columns: State.reset has every register at its reset word, nothing in memory, no command
waiting, every engine STOPPED, the guardian and INA OFF. -/
def Obligations.ResetRegistersAndStates : Prop :=
  let n := State.reset.node
  (∀ a, n.reg a = resetWord a) ∧ State.reset.pending = [] ∧ n.mem = [] ∧ n.out = [] ∧ (∀ e : Fin 8, n.engSt e = 0)
    ∧ n.rd GRD_STATUS.STATE = 0 ∧ n.inaState = 0 ∧ n.rd PAIR_STATUS.STATE = 0 ∧ n.rd PEX_STATUS.STATE = 0 ∧ n.rd PWR_STATUS.STATE = 0
    ∧ n.rd BAR_CTRL.BACKOFF_MAX = 6 ∧ n.rd BAR_CTRL.ATTEMPT_EVT = 10 ∧ n.rd BAR_CTRL.RC_MISS = 16 ∧ n.on BAR_CTRL.EN = false
end

