-- ==== Sys2Proof/Laws/Tables.lean ====
section
/-! SUPPORT. The laws of sparse tables, bit fields and registers: a read after a write, what a write leaves alone, and the canonical
form that every write keeps. -/

namespace Sys2Proof.Machine

/-! ### Sparse tables -/

section Tables

variable {α : Type} [DecidableEq α] (d : Nat → α)

omit [DecidableEq α] in
theorem Tab.get_above (t : Tab α) (a k : Nat) (h : Tab.above a t = true) (hk : k ≤ a) : Tab.get d t k = d k := by
  cases t with
  | nil => rfl
  | cons p t =>
    obtain ⟨b, v⟩ := p
    simp only [Tab.above, decide_eq_true_eq] at h
    simp [Tab.get, Nat.lt_of_le_of_lt hk h]

/-- A key reads as written. -/
@[simp] theorem Tab.get_set_same (t : Tab α) (k : Nat) (v : α) : Tab.get d (Tab.set d t k v) k = v := by
  induction t with
  | nil => simp only [Tab.set]; split <;> simp_all [Tab.get]
  | cons p t ih =>
    obtain ⟨a, w⟩ := p
    simp only [Tab.set]
    split
    · rename_i hlt
      split
      · rename_i hv; simp [Tab.get, hlt, hv]
      · simp [Tab.get]
    · rename_i hlt
      split
      · rename_i hk
        split
        · rename_i hv
          simp only [Bool.and_eq_true, decide_eq_true_eq] at hv
          rw [Tab.get_above d t a k hv.2 (by omega), hv.1]
        · simp [Tab.get]
      · rename_i hk
        simp [Tab.get, hlt, hk, ih]

/-- Another key reads as before. -/
theorem Tab.get_set_ne (t : Tab α) (k j : Nat) (v : α) (h : j ≠ k) : Tab.get d (Tab.set d t k v) j = Tab.get d t j := by
  induction t with
  | nil =>
    simp only [Tab.set]
    split
    · rfl
    · simp [Tab.get, h]
  | cons p t ih =>
    obtain ⟨a, w⟩ := p
    simp only [Tab.set]
    split
    · rename_i hlt
      split
      · rfl
      · by_cases hj : j < k
        · simp [Tab.get, hj, Nat.lt_trans hj hlt]
        · simp [Tab.get, hj, h]
    · rename_i hlt
      split
      · rename_i hk
        subst hk
        split
        · rename_i hv
          simp only [Bool.and_eq_true, decide_eq_true_eq] at hv
          by_cases hj : j < k
          · rw [Tab.get_above d t k j hv.2 (by omega)]; simp [Tab.get, hj]
          · simp [Tab.get, hj, h]
        · by_cases hj : j < k
          · simp [Tab.get, hj]
          · simp [Tab.get, hj, h]
      · simp only [Tab.get, ih]

theorem Tab.above_set (t : Tab α) (lo k : Nat) (v : α) (h : Tab.above lo t = true) (hk : lo < k) :
    Tab.above lo (Tab.set d t k v) = true := by
  cases t with
  | nil => simp only [Tab.set]; split <;> simp [Tab.above, hk]
  | cons p t =>
    obtain ⟨a, w⟩ := p
    simp only [Tab.above, decide_eq_true_eq] at h
    simp only [Tab.set]
    split
    · split <;> simp [Tab.above, hk, h]
    · split
      · split
        · rename_i hv
          simp only [Bool.and_eq_true, decide_eq_true_eq] at hv
          cases t with
          | nil => rfl
          | cons q t =>
            have := hv.2
            simp only [Tab.above, decide_eq_true_eq] at this ⊢
            omega
        · simp [Tab.above, hk]
      · simp [Tab.above, h]

/-- A write keeps the canonical form. -/
theorem Tab.wf_set (t : Tab α) (k : Nat) (v : α) (h : Tab.wf d t = true) : Tab.wf d (Tab.set d t k v) = true := by
  induction t with
  | nil => simp only [Tab.set]; split <;> simp_all [Tab.wf, Tab.above]
  | cons p t ih =>
    obtain ⟨a, w⟩ := p
    simp only [Tab.wf, Bool.and_eq_true, decide_eq_true_eq] at h
    obtain ⟨⟨hw, ha⟩, ht⟩ := h
    simp only [Tab.set]
    split
    · rename_i hlt
      split
      · simp [Tab.wf, hw, ha, ht]
      · rename_i hv
        rw [Tab.wf, Tab.wf, ha, ht]
        simp [hw, hv, Tab.above, hlt]
    · rename_i hlt
      split
      · rename_i hk
        subst hk
        split
        · exact ht
        · rename_i hv
          simp only [Bool.and_eq_true, decide_eq_true_eq, not_and, ha] at hv
          simp only [Tab.wf, Bool.and_eq_true, decide_eq_true_eq]
          exact ⟨⟨fun hd => by simp [hd] at hv, ha⟩, ht⟩
      · rename_i hk
        simp only [Tab.wf, Bool.and_eq_true, decide_eq_true_eq]
        exact ⟨⟨hw, Tab.above_set d t a k v ha (by omega)⟩, ih ht⟩

end Tables

/-! ### Byte stores -/

theorem putBytes_wf (d : Nat → Byte) (t : Tab Byte) (a : Nat) (bs : List Byte) (h : Tab.wf d t = true) :
    Tab.wf d (putBytes d t a bs) = true := by
  induction bs generalizing t a with
  | nil => exact h
  | cons b bs ih => exact ih _ _ (Tab.wf_set d t a b h)

/-- A byte outside the written run reads as before. -/
theorem get_putBytes_out (d : Nat → Byte) (t : Tab Byte) (a : Nat) (bs : List Byte) (x : Nat) (h : x < a ∨ a + bs.length ≤ x) :
    Tab.get d (putBytes d t a bs) x = Tab.get d t x := by
  induction bs generalizing t a with
  | nil => rfl
  | cons b bs ih =>
    simp only [List.length_cons] at h
    rw [putBytes, ih _ _ (by omega), Tab.get_set_ne _ _ _ _ _ (by omega)]

/-- A byte inside the written run reads as written. -/
theorem get_putBytes_in (d : Nat → Byte) (t : Tab Byte) (a : Nat) (bs : List Byte) (i : Nat) (h : i < bs.length) :
    Tab.get d (putBytes d t a bs) (a + i) = bs[i] := by
  induction bs generalizing t a i with
  | nil => simp at h
  | cons b bs ih =>
    cases i with
    | zero => rw [putBytes, get_putBytes_out _ _ _ _ _ (by omega)]; simp
    | succ i =>
      rw [putBytes, show a + (i + 1) = (a + 1) + i by omega, ih _ _ _ (by simpa using h)]
      simp

/-! ### Bit fields -/

theorem bits_lt (v lo w : Nat) : bits v lo w < 2 ^ w := Nat.mod_lt _ (by positivity)

/-- A number as what lies below, in and above a field. -/
theorem bits_split (v lo w : Nat) : v = v % 2 ^ lo + bits v lo w * 2 ^ lo + v / 2 ^ (lo + w) * 2 ^ (lo + w) := by
  have h1 := Nat.mod_add_div v (2 ^ lo)
  have h2 := Nat.mod_add_div (v / 2 ^ lo) (2 ^ w)
  have h3 : v / 2 ^ (lo + w) = v / 2 ^ lo / 2 ^ w := by rw [pow_add, Nat.div_div_eq_div_mul]
  unfold bits
  rw [h3, pow_add]
  calc v = v % 2 ^ lo + 2 ^ lo * (v / 2 ^ lo) := h1.symm
    _ = v % 2 ^ lo + 2 ^ lo * (v / 2 ^ lo % 2 ^ w + 2 ^ w * (v / 2 ^ lo / 2 ^ w)) := by rw [h2]
    _ = _ := by ring

theorem setBits_eq (v lo w x : Nat) : setBits v lo w x = v % 2 ^ lo + x % 2 ^ w * 2 ^ lo + v / 2 ^ (lo + w) * 2 ^ (lo + w) := by
  have h := bits_split v lo w
  unfold setBits
  omega

/-- The field set reads as the value's low bits. -/
@[simp] theorem bits_setBits_same (v lo w x : Nat) : bits (setBits v lo w x) lo w = x % 2 ^ w := by
  rw [setBits_eq, bits]
  have hlo : v % 2 ^ lo < 2 ^ lo := Nat.mod_lt _ (by positivity)
  have e : v % 2 ^ lo + x % 2 ^ w * 2 ^ lo + v / 2 ^ (lo + w) * 2 ^ (lo + w)
      = v % 2 ^ lo + 2 ^ lo * (x % 2 ^ w + 2 ^ w * (v / 2 ^ (lo + w))) := by rw [pow_add]; ring
  rw [e, Nat.add_mul_div_left _ _ (by positivity), Nat.div_eq_of_lt hlo, Nat.zero_add, Nat.add_mul_mod_self_left,
    Nat.mod_mod]

/-- A field apart from the one set reads as before. -/
theorem bits_setBits_ne (v lo w x lo' w' : Nat) (h : lo' + w' ≤ lo ∨ lo + w ≤ lo') :
    bits (setBits v lo w x) lo' w' = bits v lo' w' := by
  have hx : x % 2 ^ w < 2 ^ w := Nat.mod_lt _ (by positivity)
  have hlo : v % 2 ^ lo < 2 ^ lo := Nat.mod_lt _ (by positivity)
  rw [setBits_eq]
  unfold bits
  rcases h with h | h
  · obtain ⟨k, rfl⟩ : ∃ k, lo = lo' + w' + k := ⟨lo - (lo' + w'), by omega⟩
    have e : v % 2 ^ (lo' + w' + k) + x % 2 ^ w * 2 ^ (lo' + w' + k) + v / 2 ^ (lo' + w' + k + w) * 2 ^ (lo' + w' + k + w)
        = v % 2 ^ (lo' + w' + k) + 2 ^ lo' * (2 ^ w' * (2 ^ k * (x % 2 ^ w + 2 ^ w * (v / 2 ^ (lo' + w' + k + w))))) := by
      rw [pow_add _ (lo' + w' + k) w, pow_add _ (lo' + w') k, pow_add _ lo' w']; ring
    rw [e, Nat.add_mul_div_left _ _ (by positivity), Nat.add_mul_mod_self_left]
    have e2 : v % 2 ^ (lo' + w' + k) / 2 ^ lo' % 2 ^ w' = v / 2 ^ lo' % 2 ^ w' := by
      rw [← Nat.mod_add_div v (2 ^ (lo' + w' + k))]
      have : 2 ^ (lo' + w' + k) * (v / 2 ^ (lo' + w' + k)) = 2 ^ lo' * (2 ^ w' * (2 ^ k * (v / 2 ^ (lo' + w' + k)))) := by
        rw [pow_add _ (lo' + w') k, pow_add _ lo' w']; ring
      rw [this, Nat.add_mul_div_left _ _ (by positivity), Nat.add_mul_mod_self_left]
      have e3 : (v % 2 ^ (lo' + w' + k) + 2 ^ lo' * (2 ^ w' * (2 ^ k * (v / 2 ^ (lo' + w' + k))))) % 2 ^ (lo' + w' + k)
          = v % 2 ^ (lo' + w' + k) := by
        rw [← this, Nat.add_mul_mod_self_left, Nat.mod_mod]
      rw [e3]
    exact e2
  · obtain ⟨k, rfl⟩ : ∃ k, lo' = lo + w + k := ⟨lo' - (lo + w), by omega⟩
    have hlt : v % 2 ^ lo + x % 2 ^ w * 2 ^ lo < 2 ^ (lo + w) := by
      have : (x % 2 ^ w + 1) * 2 ^ lo ≤ 2 ^ w * 2 ^ lo := Nat.mul_le_mul_right _ hx
      rw [pow_add, Nat.mul_comm (2 ^ lo)]
      nlinarith
    rw [pow_add _ (lo + w) k, ← Nat.div_div_eq_div_mul, ← Nat.div_div_eq_div_mul]
    congr 2
    rw [Nat.add_mul_div_right _ _ (by positivity), Nat.div_eq_of_lt hlt, Nat.zero_add]

/-- A field set in a 32-bit value leaves a 32-bit value. -/
theorem setBits_lt (v lo w x : Nat) (hv : v < 2 ^ 32) (h : lo + w ≤ 32) : setBits v lo w x < 2 ^ 32 := by
  have hx : x % 2 ^ w < 2 ^ w := Nat.mod_lt _ (by positivity)
  have hlo : v % 2 ^ lo < 2 ^ lo := Nat.mod_lt _ (by positivity)
  rw [setBits_eq]
  obtain ⟨k, hk⟩ : ∃ k, 32 = lo + w + k := ⟨32 - (lo + w), by omega⟩
  have hd : v / 2 ^ (lo + w) < 2 ^ k := by
    rw [Nat.div_lt_iff_lt_mul (by positivity), ← pow_add, Nat.add_comm k, ← hk]; exact hv
  have h1 : (x % 2 ^ w + 1) * 2 ^ lo ≤ 2 ^ w * 2 ^ lo := Nat.mul_le_mul_right _ hx
  have h2 : (v / 2 ^ (lo + w) + 1) * 2 ^ (lo + w) ≤ 2 ^ k * 2 ^ (lo + w) := Nat.mul_le_mul_right _ hd
  have h3 : 2 ^ 32 = 2 ^ k * 2 ^ (lo + w) := by rw [← pow_add, Nat.add_comm k, ← hk]
  have h4 : 2 ^ (lo + w) = 2 ^ w * 2 ^ lo := by rw [pow_add, Nat.mul_comm]
  nlinarith

end Sys2Proof.Machine
end

