-- ==== Sys2Proof/Laws/State.lean ====
section
/-! SUPPORT. What each named update of the node leaves alone, one lemma per field and update, and what a register field reads as after one. -/

namespace Sys2Proof.Machine

variable (n : Node)

/-! ### setReg -/

@[simp] theorem Node.setReg_mem (a : Nat) (v : Word) : (n.setReg a v).mem = n.mem := rfl
@[simp] theorem Node.setReg_uce (a : Nat) (v : Word) : (n.setReg a v).uce = n.uce := rfl
@[simp] theorem Node.setReg_qboot (a : Nat) (v : Word) : (n.setReg a v).qboot = n.qboot := rfl
@[simp] theorem Node.setReg_qper (a : Nat) (v : Word) : (n.setReg a v).qper = n.qper := rfl
@[simp] theorem Node.setReg_otp (a : Nat) (v : Word) : (n.setReg a v).otp = n.otp := rfl
@[simp] theorem Node.setReg_time (a : Nat) (v : Word) : (n.setReg a v).time = n.time := rfl
@[simp] theorem Node.setReg_evr (a : Nat) (v : Word) : (n.setReg a v).evr = n.evr := rfl
@[simp] theorem Node.setReg_line (a : Nat) (v : Word) : (n.setReg a v).line = n.line := rfl
@[simp] theorem Node.setReg_grd (a : Nat) (v : Word) : (n.setReg a v).grd = n.grd := rfl
@[simp] theorem Node.setReg_bar (a : Nat) (v : Word) : (n.setReg a v).bar = n.bar := rfl
@[simp] theorem Node.setReg_sig (a : Nat) (v : Word) : (n.setReg a v).sig = n.sig := rfl
@[simp] theorem Node.setReg_aud (a : Nat) (v : Word) : (n.setReg a v).aud = n.aud := rfl
@[simp] theorem Node.setReg_ina (a : Nat) (v : Word) : (n.setReg a v).ina = n.ina := rfl
@[simp] theorem Node.setReg_pair (a : Nat) (v : Word) : (n.setReg a v).pair = n.pair := rfl
@[simp] theorem Node.setReg_lull (a : Nat) (v : Word) : (n.setReg a v).lull = n.lull := rfl
@[simp] theorem Node.setReg_eng (a : Nat) (v : Word) : (n.setReg a v).eng = n.eng := rfl
@[simp] theorem Node.setReg_cellStart (a : Nat) (v : Word) : (n.setReg a v).cellStart = n.cellStart := rfl
@[simp] theorem Node.setReg_gpio (a : Nat) (v : Word) : (n.setReg a v).gpio = n.gpio := rfl
@[simp] theorem Node.setReg_can (a : Nat) (v : Word) : (n.setReg a v).can = n.can := rfl
@[simp] theorem Node.setReg_pex (a : Nat) (v : Word) : (n.setReg a v).pex = n.pex := rfl
@[simp] theorem Node.setReg_eth (a : Nat) (v : Word) : (n.setReg a v).eth = n.eth := rfl
@[simp] theorem Node.setReg_tdm (a : Nat) (v : Word) : (n.setReg a v).tdm = n.tdm := rfl
@[simp] theorem Node.setReg_qspi (a : Nat) (v : Word) : (n.setReg a v).qspi = n.qspi := rfl
@[simp] theorem Node.setReg_boot (a : Nat) (v : Word) : (n.setReg a v).boot = n.boot := rfl
@[simp] theorem Node.setReg_ownPin (a : Nat) (v : Word) : (n.setReg a v).ownPin = n.ownPin := rfl
@[simp] theorem Node.setReg_msg (a : Nat) (v : Word) : (n.setReg a v).msg = n.msg := rfl
@[simp] theorem Node.setReg_pwr (a : Nat) (v : Word) : (n.setReg a v).pwr = n.pwr := rfl
@[simp] theorem Node.setReg_dir (a : Nat) (v : Word) : (n.setReg a v).dir = n.dir := rfl
@[simp] theorem Node.setReg_journal (a : Nat) (v : Word) : (n.setReg a v).journal = n.journal := rfl
@[simp] theorem Node.setReg_freeCtr (a : Nat) (v : Word) : (n.setReg a v).freeCtr = n.freeCtr := rfl
@[simp] theorem Node.setReg_out (a : Nat) (v : Word) : (n.setReg a v).out = n.out := rfl

/-! ### wr -/

@[simp] theorem Node.wr_mem (f : Field) (v : Nat) : (n.wr f v).mem = n.mem := rfl
@[simp] theorem Node.wr_uce (f : Field) (v : Nat) : (n.wr f v).uce = n.uce := rfl
@[simp] theorem Node.wr_qboot (f : Field) (v : Nat) : (n.wr f v).qboot = n.qboot := rfl
@[simp] theorem Node.wr_qper (f : Field) (v : Nat) : (n.wr f v).qper = n.qper := rfl
@[simp] theorem Node.wr_otp (f : Field) (v : Nat) : (n.wr f v).otp = n.otp := rfl
@[simp] theorem Node.wr_time (f : Field) (v : Nat) : (n.wr f v).time = n.time := rfl
@[simp] theorem Node.wr_evr (f : Field) (v : Nat) : (n.wr f v).evr = n.evr := rfl
@[simp] theorem Node.wr_line (f : Field) (v : Nat) : (n.wr f v).line = n.line := rfl
@[simp] theorem Node.wr_grd (f : Field) (v : Nat) : (n.wr f v).grd = n.grd := rfl
@[simp] theorem Node.wr_bar (f : Field) (v : Nat) : (n.wr f v).bar = n.bar := rfl
@[simp] theorem Node.wr_sig (f : Field) (v : Nat) : (n.wr f v).sig = n.sig := rfl
@[simp] theorem Node.wr_aud (f : Field) (v : Nat) : (n.wr f v).aud = n.aud := rfl
@[simp] theorem Node.wr_ina (f : Field) (v : Nat) : (n.wr f v).ina = n.ina := rfl
@[simp] theorem Node.wr_pair (f : Field) (v : Nat) : (n.wr f v).pair = n.pair := rfl
@[simp] theorem Node.wr_lull (f : Field) (v : Nat) : (n.wr f v).lull = n.lull := rfl
@[simp] theorem Node.wr_eng (f : Field) (v : Nat) : (n.wr f v).eng = n.eng := rfl
@[simp] theorem Node.wr_cellStart (f : Field) (v : Nat) : (n.wr f v).cellStart = n.cellStart := rfl
@[simp] theorem Node.wr_gpio (f : Field) (v : Nat) : (n.wr f v).gpio = n.gpio := rfl
@[simp] theorem Node.wr_can (f : Field) (v : Nat) : (n.wr f v).can = n.can := rfl
@[simp] theorem Node.wr_pex (f : Field) (v : Nat) : (n.wr f v).pex = n.pex := rfl
@[simp] theorem Node.wr_eth (f : Field) (v : Nat) : (n.wr f v).eth = n.eth := rfl
@[simp] theorem Node.wr_tdm (f : Field) (v : Nat) : (n.wr f v).tdm = n.tdm := rfl
@[simp] theorem Node.wr_qspi (f : Field) (v : Nat) : (n.wr f v).qspi = n.qspi := rfl
@[simp] theorem Node.wr_boot (f : Field) (v : Nat) : (n.wr f v).boot = n.boot := rfl
@[simp] theorem Node.wr_ownPin (f : Field) (v : Nat) : (n.wr f v).ownPin = n.ownPin := rfl
@[simp] theorem Node.wr_msg (f : Field) (v : Nat) : (n.wr f v).msg = n.msg := rfl
@[simp] theorem Node.wr_pwr (f : Field) (v : Nat) : (n.wr f v).pwr = n.pwr := rfl
@[simp] theorem Node.wr_dir (f : Field) (v : Nat) : (n.wr f v).dir = n.dir := rfl
@[simp] theorem Node.wr_journal (f : Field) (v : Nat) : (n.wr f v).journal = n.journal := rfl
@[simp] theorem Node.wr_freeCtr (f : Field) (v : Nat) : (n.wr f v).freeCtr = n.freeCtr := rfl
@[simp] theorem Node.wr_out (f : Field) (v : Nat) : (n.wr f v).out = n.out := rfl

/-! ### wrB -/

@[simp] theorem Node.wrB_mem (f : Field) (b : Bool) : (n.wrB f b).mem = n.mem := rfl
@[simp] theorem Node.wrB_uce (f : Field) (b : Bool) : (n.wrB f b).uce = n.uce := rfl
@[simp] theorem Node.wrB_qboot (f : Field) (b : Bool) : (n.wrB f b).qboot = n.qboot := rfl
@[simp] theorem Node.wrB_qper (f : Field) (b : Bool) : (n.wrB f b).qper = n.qper := rfl
@[simp] theorem Node.wrB_otp (f : Field) (b : Bool) : (n.wrB f b).otp = n.otp := rfl
@[simp] theorem Node.wrB_time (f : Field) (b : Bool) : (n.wrB f b).time = n.time := rfl
@[simp] theorem Node.wrB_evr (f : Field) (b : Bool) : (n.wrB f b).evr = n.evr := rfl
@[simp] theorem Node.wrB_line (f : Field) (b : Bool) : (n.wrB f b).line = n.line := rfl
@[simp] theorem Node.wrB_grd (f : Field) (b : Bool) : (n.wrB f b).grd = n.grd := rfl
@[simp] theorem Node.wrB_bar (f : Field) (b : Bool) : (n.wrB f b).bar = n.bar := rfl
@[simp] theorem Node.wrB_sig (f : Field) (b : Bool) : (n.wrB f b).sig = n.sig := rfl
@[simp] theorem Node.wrB_aud (f : Field) (b : Bool) : (n.wrB f b).aud = n.aud := rfl
@[simp] theorem Node.wrB_ina (f : Field) (b : Bool) : (n.wrB f b).ina = n.ina := rfl
@[simp] theorem Node.wrB_pair (f : Field) (b : Bool) : (n.wrB f b).pair = n.pair := rfl
@[simp] theorem Node.wrB_lull (f : Field) (b : Bool) : (n.wrB f b).lull = n.lull := rfl
@[simp] theorem Node.wrB_eng (f : Field) (b : Bool) : (n.wrB f b).eng = n.eng := rfl
@[simp] theorem Node.wrB_cellStart (f : Field) (b : Bool) : (n.wrB f b).cellStart = n.cellStart := rfl
@[simp] theorem Node.wrB_gpio (f : Field) (b : Bool) : (n.wrB f b).gpio = n.gpio := rfl
@[simp] theorem Node.wrB_can (f : Field) (b : Bool) : (n.wrB f b).can = n.can := rfl
@[simp] theorem Node.wrB_pex (f : Field) (b : Bool) : (n.wrB f b).pex = n.pex := rfl
@[simp] theorem Node.wrB_eth (f : Field) (b : Bool) : (n.wrB f b).eth = n.eth := rfl
@[simp] theorem Node.wrB_tdm (f : Field) (b : Bool) : (n.wrB f b).tdm = n.tdm := rfl
@[simp] theorem Node.wrB_qspi (f : Field) (b : Bool) : (n.wrB f b).qspi = n.qspi := rfl
@[simp] theorem Node.wrB_boot (f : Field) (b : Bool) : (n.wrB f b).boot = n.boot := rfl
@[simp] theorem Node.wrB_ownPin (f : Field) (b : Bool) : (n.wrB f b).ownPin = n.ownPin := rfl
@[simp] theorem Node.wrB_msg (f : Field) (b : Bool) : (n.wrB f b).msg = n.msg := rfl
@[simp] theorem Node.wrB_pwr (f : Field) (b : Bool) : (n.wrB f b).pwr = n.pwr := rfl
@[simp] theorem Node.wrB_dir (f : Field) (b : Bool) : (n.wrB f b).dir = n.dir := rfl
@[simp] theorem Node.wrB_journal (f : Field) (b : Bool) : (n.wrB f b).journal = n.journal := rfl
@[simp] theorem Node.wrB_freeCtr (f : Field) (b : Bool) : (n.wrB f b).freeCtr = n.freeCtr := rfl
@[simp] theorem Node.wrB_out (f : Field) (b : Bool) : (n.wrB f b).out = n.out := rfl

/-! ### countBy -/

@[simp] theorem Node.countBy_mem (f : Field) (k : Nat) : (n.countBy f k).mem = n.mem := rfl
@[simp] theorem Node.countBy_uce (f : Field) (k : Nat) : (n.countBy f k).uce = n.uce := rfl
@[simp] theorem Node.countBy_qboot (f : Field) (k : Nat) : (n.countBy f k).qboot = n.qboot := rfl
@[simp] theorem Node.countBy_qper (f : Field) (k : Nat) : (n.countBy f k).qper = n.qper := rfl
@[simp] theorem Node.countBy_otp (f : Field) (k : Nat) : (n.countBy f k).otp = n.otp := rfl
@[simp] theorem Node.countBy_time (f : Field) (k : Nat) : (n.countBy f k).time = n.time := rfl
@[simp] theorem Node.countBy_evr (f : Field) (k : Nat) : (n.countBy f k).evr = n.evr := rfl
@[simp] theorem Node.countBy_line (f : Field) (k : Nat) : (n.countBy f k).line = n.line := rfl
@[simp] theorem Node.countBy_grd (f : Field) (k : Nat) : (n.countBy f k).grd = n.grd := rfl
@[simp] theorem Node.countBy_bar (f : Field) (k : Nat) : (n.countBy f k).bar = n.bar := rfl
@[simp] theorem Node.countBy_sig (f : Field) (k : Nat) : (n.countBy f k).sig = n.sig := rfl
@[simp] theorem Node.countBy_aud (f : Field) (k : Nat) : (n.countBy f k).aud = n.aud := rfl
@[simp] theorem Node.countBy_ina (f : Field) (k : Nat) : (n.countBy f k).ina = n.ina := rfl
@[simp] theorem Node.countBy_pair (f : Field) (k : Nat) : (n.countBy f k).pair = n.pair := rfl
@[simp] theorem Node.countBy_lull (f : Field) (k : Nat) : (n.countBy f k).lull = n.lull := rfl
@[simp] theorem Node.countBy_eng (f : Field) (k : Nat) : (n.countBy f k).eng = n.eng := rfl
@[simp] theorem Node.countBy_cellStart (f : Field) (k : Nat) : (n.countBy f k).cellStart = n.cellStart := rfl
@[simp] theorem Node.countBy_gpio (f : Field) (k : Nat) : (n.countBy f k).gpio = n.gpio := rfl
@[simp] theorem Node.countBy_can (f : Field) (k : Nat) : (n.countBy f k).can = n.can := rfl
@[simp] theorem Node.countBy_pex (f : Field) (k : Nat) : (n.countBy f k).pex = n.pex := rfl
@[simp] theorem Node.countBy_eth (f : Field) (k : Nat) : (n.countBy f k).eth = n.eth := rfl
@[simp] theorem Node.countBy_tdm (f : Field) (k : Nat) : (n.countBy f k).tdm = n.tdm := rfl
@[simp] theorem Node.countBy_qspi (f : Field) (k : Nat) : (n.countBy f k).qspi = n.qspi := rfl
@[simp] theorem Node.countBy_boot (f : Field) (k : Nat) : (n.countBy f k).boot = n.boot := rfl
@[simp] theorem Node.countBy_ownPin (f : Field) (k : Nat) : (n.countBy f k).ownPin = n.ownPin := rfl
@[simp] theorem Node.countBy_msg (f : Field) (k : Nat) : (n.countBy f k).msg = n.msg := rfl
@[simp] theorem Node.countBy_pwr (f : Field) (k : Nat) : (n.countBy f k).pwr = n.pwr := rfl
@[simp] theorem Node.countBy_dir (f : Field) (k : Nat) : (n.countBy f k).dir = n.dir := rfl
@[simp] theorem Node.countBy_journal (f : Field) (k : Nat) : (n.countBy f k).journal = n.journal := rfl
@[simp] theorem Node.countBy_freeCtr (f : Field) (k : Nat) : (n.countBy f k).freeCtr = n.freeCtr := rfl
@[simp] theorem Node.countBy_out (f : Field) (k : Nat) : (n.countBy f k).out = n.out := rfl

/-! ### count -/

@[simp] theorem Node.count_mem (f : Field) : (n.count f).mem = n.mem := rfl
@[simp] theorem Node.count_uce (f : Field) : (n.count f).uce = n.uce := rfl
@[simp] theorem Node.count_qboot (f : Field) : (n.count f).qboot = n.qboot := rfl
@[simp] theorem Node.count_qper (f : Field) : (n.count f).qper = n.qper := rfl
@[simp] theorem Node.count_otp (f : Field) : (n.count f).otp = n.otp := rfl
@[simp] theorem Node.count_time (f : Field) : (n.count f).time = n.time := rfl
@[simp] theorem Node.count_evr (f : Field) : (n.count f).evr = n.evr := rfl
@[simp] theorem Node.count_line (f : Field) : (n.count f).line = n.line := rfl
@[simp] theorem Node.count_grd (f : Field) : (n.count f).grd = n.grd := rfl
@[simp] theorem Node.count_bar (f : Field) : (n.count f).bar = n.bar := rfl
@[simp] theorem Node.count_sig (f : Field) : (n.count f).sig = n.sig := rfl
@[simp] theorem Node.count_aud (f : Field) : (n.count f).aud = n.aud := rfl
@[simp] theorem Node.count_ina (f : Field) : (n.count f).ina = n.ina := rfl
@[simp] theorem Node.count_pair (f : Field) : (n.count f).pair = n.pair := rfl
@[simp] theorem Node.count_lull (f : Field) : (n.count f).lull = n.lull := rfl
@[simp] theorem Node.count_eng (f : Field) : (n.count f).eng = n.eng := rfl
@[simp] theorem Node.count_cellStart (f : Field) : (n.count f).cellStart = n.cellStart := rfl
@[simp] theorem Node.count_gpio (f : Field) : (n.count f).gpio = n.gpio := rfl
@[simp] theorem Node.count_can (f : Field) : (n.count f).can = n.can := rfl
@[simp] theorem Node.count_pex (f : Field) : (n.count f).pex = n.pex := rfl
@[simp] theorem Node.count_eth (f : Field) : (n.count f).eth = n.eth := rfl
@[simp] theorem Node.count_tdm (f : Field) : (n.count f).tdm = n.tdm := rfl
@[simp] theorem Node.count_qspi (f : Field) : (n.count f).qspi = n.qspi := rfl
@[simp] theorem Node.count_boot (f : Field) : (n.count f).boot = n.boot := rfl
@[simp] theorem Node.count_ownPin (f : Field) : (n.count f).ownPin = n.ownPin := rfl
@[simp] theorem Node.count_msg (f : Field) : (n.count f).msg = n.msg := rfl
@[simp] theorem Node.count_pwr (f : Field) : (n.count f).pwr = n.pwr := rfl
@[simp] theorem Node.count_dir (f : Field) : (n.count f).dir = n.dir := rfl
@[simp] theorem Node.count_journal (f : Field) : (n.count f).journal = n.journal := rfl
@[simp] theorem Node.count_freeCtr (f : Field) : (n.count f).freeCtr = n.freeCtr := rfl
@[simp] theorem Node.count_out (f : Field) : (n.count f).out = n.out := rfl

/-! ### wr64 -/

@[simp] theorem Node.wr64_mem (lo hi : Field) (v : Nat) : (n.wr64 lo hi v).mem = n.mem := rfl
@[simp] theorem Node.wr64_uce (lo hi : Field) (v : Nat) : (n.wr64 lo hi v).uce = n.uce := rfl
@[simp] theorem Node.wr64_qboot (lo hi : Field) (v : Nat) : (n.wr64 lo hi v).qboot = n.qboot := rfl
@[simp] theorem Node.wr64_qper (lo hi : Field) (v : Nat) : (n.wr64 lo hi v).qper = n.qper := rfl
@[simp] theorem Node.wr64_otp (lo hi : Field) (v : Nat) : (n.wr64 lo hi v).otp = n.otp := rfl
@[simp] theorem Node.wr64_time (lo hi : Field) (v : Nat) : (n.wr64 lo hi v).time = n.time := rfl
@[simp] theorem Node.wr64_evr (lo hi : Field) (v : Nat) : (n.wr64 lo hi v).evr = n.evr := rfl
@[simp] theorem Node.wr64_line (lo hi : Field) (v : Nat) : (n.wr64 lo hi v).line = n.line := rfl
@[simp] theorem Node.wr64_grd (lo hi : Field) (v : Nat) : (n.wr64 lo hi v).grd = n.grd := rfl
@[simp] theorem Node.wr64_bar (lo hi : Field) (v : Nat) : (n.wr64 lo hi v).bar = n.bar := rfl
@[simp] theorem Node.wr64_sig (lo hi : Field) (v : Nat) : (n.wr64 lo hi v).sig = n.sig := rfl
@[simp] theorem Node.wr64_aud (lo hi : Field) (v : Nat) : (n.wr64 lo hi v).aud = n.aud := rfl
@[simp] theorem Node.wr64_ina (lo hi : Field) (v : Nat) : (n.wr64 lo hi v).ina = n.ina := rfl
@[simp] theorem Node.wr64_pair (lo hi : Field) (v : Nat) : (n.wr64 lo hi v).pair = n.pair := rfl
@[simp] theorem Node.wr64_lull (lo hi : Field) (v : Nat) : (n.wr64 lo hi v).lull = n.lull := rfl
@[simp] theorem Node.wr64_eng (lo hi : Field) (v : Nat) : (n.wr64 lo hi v).eng = n.eng := rfl
@[simp] theorem Node.wr64_cellStart (lo hi : Field) (v : Nat) : (n.wr64 lo hi v).cellStart = n.cellStart := rfl
@[simp] theorem Node.wr64_gpio (lo hi : Field) (v : Nat) : (n.wr64 lo hi v).gpio = n.gpio := rfl
@[simp] theorem Node.wr64_can (lo hi : Field) (v : Nat) : (n.wr64 lo hi v).can = n.can := rfl
@[simp] theorem Node.wr64_pex (lo hi : Field) (v : Nat) : (n.wr64 lo hi v).pex = n.pex := rfl
@[simp] theorem Node.wr64_eth (lo hi : Field) (v : Nat) : (n.wr64 lo hi v).eth = n.eth := rfl
@[simp] theorem Node.wr64_tdm (lo hi : Field) (v : Nat) : (n.wr64 lo hi v).tdm = n.tdm := rfl
@[simp] theorem Node.wr64_qspi (lo hi : Field) (v : Nat) : (n.wr64 lo hi v).qspi = n.qspi := rfl
@[simp] theorem Node.wr64_boot (lo hi : Field) (v : Nat) : (n.wr64 lo hi v).boot = n.boot := rfl
@[simp] theorem Node.wr64_ownPin (lo hi : Field) (v : Nat) : (n.wr64 lo hi v).ownPin = n.ownPin := rfl
@[simp] theorem Node.wr64_msg (lo hi : Field) (v : Nat) : (n.wr64 lo hi v).msg = n.msg := rfl
@[simp] theorem Node.wr64_pwr (lo hi : Field) (v : Nat) : (n.wr64 lo hi v).pwr = n.pwr := rfl
@[simp] theorem Node.wr64_dir (lo hi : Field) (v : Nat) : (n.wr64 lo hi v).dir = n.dir := rfl
@[simp] theorem Node.wr64_journal (lo hi : Field) (v : Nat) : (n.wr64 lo hi v).journal = n.journal := rfl
@[simp] theorem Node.wr64_freeCtr (lo hi : Field) (v : Nat) : (n.wr64 lo hi v).freeCtr = n.freeCtr := rfl
@[simp] theorem Node.wr64_out (lo hi : Field) (v : Nat) : (n.wr64 lo hi v).out = n.out := rfl

/-! ### emit -/

@[simp] theorem Node.emit_regs (p : Port) (bs : List Byte) : (n.emit p bs).regs = n.regs := rfl
@[simp] theorem Node.emit_mem (p : Port) (bs : List Byte) : (n.emit p bs).mem = n.mem := rfl
@[simp] theorem Node.emit_uce (p : Port) (bs : List Byte) : (n.emit p bs).uce = n.uce := rfl
@[simp] theorem Node.emit_qboot (p : Port) (bs : List Byte) : (n.emit p bs).qboot = n.qboot := rfl
@[simp] theorem Node.emit_qper (p : Port) (bs : List Byte) : (n.emit p bs).qper = n.qper := rfl
@[simp] theorem Node.emit_otp (p : Port) (bs : List Byte) : (n.emit p bs).otp = n.otp := rfl
@[simp] theorem Node.emit_time (p : Port) (bs : List Byte) : (n.emit p bs).time = n.time := rfl
@[simp] theorem Node.emit_evr (p : Port) (bs : List Byte) : (n.emit p bs).evr = n.evr := rfl
@[simp] theorem Node.emit_line (p : Port) (bs : List Byte) : (n.emit p bs).line = n.line := rfl
@[simp] theorem Node.emit_grd (p : Port) (bs : List Byte) : (n.emit p bs).grd = n.grd := rfl
@[simp] theorem Node.emit_bar (p : Port) (bs : List Byte) : (n.emit p bs).bar = n.bar := rfl
@[simp] theorem Node.emit_sig (p : Port) (bs : List Byte) : (n.emit p bs).sig = n.sig := rfl
@[simp] theorem Node.emit_aud (p : Port) (bs : List Byte) : (n.emit p bs).aud = n.aud := rfl
@[simp] theorem Node.emit_ina (p : Port) (bs : List Byte) : (n.emit p bs).ina = n.ina := rfl
@[simp] theorem Node.emit_pair (p : Port) (bs : List Byte) : (n.emit p bs).pair = n.pair := rfl
@[simp] theorem Node.emit_lull (p : Port) (bs : List Byte) : (n.emit p bs).lull = n.lull := rfl
@[simp] theorem Node.emit_eng (p : Port) (bs : List Byte) : (n.emit p bs).eng = n.eng := rfl
@[simp] theorem Node.emit_cellStart (p : Port) (bs : List Byte) : (n.emit p bs).cellStart = n.cellStart := rfl
@[simp] theorem Node.emit_gpio (p : Port) (bs : List Byte) : (n.emit p bs).gpio = n.gpio := rfl
@[simp] theorem Node.emit_can (p : Port) (bs : List Byte) : (n.emit p bs).can = n.can := rfl
@[simp] theorem Node.emit_pex (p : Port) (bs : List Byte) : (n.emit p bs).pex = n.pex := rfl
@[simp] theorem Node.emit_eth (p : Port) (bs : List Byte) : (n.emit p bs).eth = n.eth := rfl
@[simp] theorem Node.emit_tdm (p : Port) (bs : List Byte) : (n.emit p bs).tdm = n.tdm := rfl
@[simp] theorem Node.emit_qspi (p : Port) (bs : List Byte) : (n.emit p bs).qspi = n.qspi := rfl
@[simp] theorem Node.emit_boot (p : Port) (bs : List Byte) : (n.emit p bs).boot = n.boot := rfl
@[simp] theorem Node.emit_ownPin (p : Port) (bs : List Byte) : (n.emit p bs).ownPin = n.ownPin := rfl
@[simp] theorem Node.emit_msg (p : Port) (bs : List Byte) : (n.emit p bs).msg = n.msg := rfl
@[simp] theorem Node.emit_pwr (p : Port) (bs : List Byte) : (n.emit p bs).pwr = n.pwr := rfl
@[simp] theorem Node.emit_dir (p : Port) (bs : List Byte) : (n.emit p bs).dir = n.dir := rfl
@[simp] theorem Node.emit_journal (p : Port) (bs : List Byte) : (n.emit p bs).journal = n.journal := rfl
@[simp] theorem Node.emit_freeCtr (p : Port) (bs : List Byte) : (n.emit p bs).freeCtr = n.freeCtr := rfl
@[simp] theorem Node.emit_reg (p : Port) (bs : List Byte) (x : Nat) : (n.emit p bs).reg x = n.reg x := rfl
@[simp] theorem Node.emit_rd (p : Port) (bs : List Byte) (x : Field) : (n.emit p bs).rd x = n.rd x := rfl
@[simp] theorem Node.emit_on (p : Port) (bs : List Byte) (x : Field) : (n.emit p bs).on x = n.on x := rfl

/-! ### memPut -/

@[simp] theorem Node.memPut_regs (a : Nat) (bs : List Byte) : (n.memPut a bs).regs = n.regs := rfl
@[simp] theorem Node.memPut_qboot (a : Nat) (bs : List Byte) : (n.memPut a bs).qboot = n.qboot := rfl
@[simp] theorem Node.memPut_qper (a : Nat) (bs : List Byte) : (n.memPut a bs).qper = n.qper := rfl
@[simp] theorem Node.memPut_otp (a : Nat) (bs : List Byte) : (n.memPut a bs).otp = n.otp := rfl
@[simp] theorem Node.memPut_time (a : Nat) (bs : List Byte) : (n.memPut a bs).time = n.time := rfl
@[simp] theorem Node.memPut_evr (a : Nat) (bs : List Byte) : (n.memPut a bs).evr = n.evr := rfl
@[simp] theorem Node.memPut_line (a : Nat) (bs : List Byte) : (n.memPut a bs).line = n.line := rfl
@[simp] theorem Node.memPut_grd (a : Nat) (bs : List Byte) : (n.memPut a bs).grd = n.grd := rfl
@[simp] theorem Node.memPut_bar (a : Nat) (bs : List Byte) : (n.memPut a bs).bar = n.bar := rfl
@[simp] theorem Node.memPut_sig (a : Nat) (bs : List Byte) : (n.memPut a bs).sig = n.sig := rfl
@[simp] theorem Node.memPut_aud (a : Nat) (bs : List Byte) : (n.memPut a bs).aud = n.aud := rfl
@[simp] theorem Node.memPut_ina (a : Nat) (bs : List Byte) : (n.memPut a bs).ina = n.ina := rfl
@[simp] theorem Node.memPut_pair (a : Nat) (bs : List Byte) : (n.memPut a bs).pair = n.pair := rfl
@[simp] theorem Node.memPut_lull (a : Nat) (bs : List Byte) : (n.memPut a bs).lull = n.lull := rfl
@[simp] theorem Node.memPut_eng (a : Nat) (bs : List Byte) : (n.memPut a bs).eng = n.eng := rfl
@[simp] theorem Node.memPut_cellStart (a : Nat) (bs : List Byte) : (n.memPut a bs).cellStart = n.cellStart := rfl
@[simp] theorem Node.memPut_gpio (a : Nat) (bs : List Byte) : (n.memPut a bs).gpio = n.gpio := rfl
@[simp] theorem Node.memPut_can (a : Nat) (bs : List Byte) : (n.memPut a bs).can = n.can := rfl
@[simp] theorem Node.memPut_pex (a : Nat) (bs : List Byte) : (n.memPut a bs).pex = n.pex := rfl
@[simp] theorem Node.memPut_eth (a : Nat) (bs : List Byte) : (n.memPut a bs).eth = n.eth := rfl
@[simp] theorem Node.memPut_tdm (a : Nat) (bs : List Byte) : (n.memPut a bs).tdm = n.tdm := rfl
@[simp] theorem Node.memPut_qspi (a : Nat) (bs : List Byte) : (n.memPut a bs).qspi = n.qspi := rfl
@[simp] theorem Node.memPut_boot (a : Nat) (bs : List Byte) : (n.memPut a bs).boot = n.boot := rfl
@[simp] theorem Node.memPut_ownPin (a : Nat) (bs : List Byte) : (n.memPut a bs).ownPin = n.ownPin := rfl
@[simp] theorem Node.memPut_msg (a : Nat) (bs : List Byte) : (n.memPut a bs).msg = n.msg := rfl
@[simp] theorem Node.memPut_pwr (a : Nat) (bs : List Byte) : (n.memPut a bs).pwr = n.pwr := rfl
@[simp] theorem Node.memPut_dir (a : Nat) (bs : List Byte) : (n.memPut a bs).dir = n.dir := rfl
@[simp] theorem Node.memPut_journal (a : Nat) (bs : List Byte) : (n.memPut a bs).journal = n.journal := rfl
@[simp] theorem Node.memPut_freeCtr (a : Nat) (bs : List Byte) : (n.memPut a bs).freeCtr = n.freeCtr := rfl
@[simp] theorem Node.memPut_out (a : Nat) (bs : List Byte) : (n.memPut a bs).out = n.out := rfl
@[simp] theorem Node.memPut_reg (a : Nat) (bs : List Byte) (x : Nat) : (n.memPut a bs).reg x = n.reg x := rfl
@[simp] theorem Node.memPut_rd (a : Nat) (bs : List Byte) (x : Field) : (n.memPut a bs).rd x = n.rd x := rfl
@[simp] theorem Node.memPut_on (a : Nat) (bs : List Byte) (x : Field) : (n.memPut a bs).on x = n.on x := rfl

/-! ### updBoot -/

@[simp] theorem Node.updBoot_regs (f : BootState → BootState) : (n.updBoot f).regs = n.regs := rfl
@[simp] theorem Node.updBoot_mem (f : BootState → BootState) : (n.updBoot f).mem = n.mem := rfl
@[simp] theorem Node.updBoot_uce (f : BootState → BootState) : (n.updBoot f).uce = n.uce := rfl
@[simp] theorem Node.updBoot_qboot (f : BootState → BootState) : (n.updBoot f).qboot = n.qboot := rfl
@[simp] theorem Node.updBoot_qper (f : BootState → BootState) : (n.updBoot f).qper = n.qper := rfl
@[simp] theorem Node.updBoot_otp (f : BootState → BootState) : (n.updBoot f).otp = n.otp := rfl
@[simp] theorem Node.updBoot_time (f : BootState → BootState) : (n.updBoot f).time = n.time := rfl
@[simp] theorem Node.updBoot_evr (f : BootState → BootState) : (n.updBoot f).evr = n.evr := rfl
@[simp] theorem Node.updBoot_line (f : BootState → BootState) : (n.updBoot f).line = n.line := rfl
@[simp] theorem Node.updBoot_grd (f : BootState → BootState) : (n.updBoot f).grd = n.grd := rfl
@[simp] theorem Node.updBoot_bar (f : BootState → BootState) : (n.updBoot f).bar = n.bar := rfl
@[simp] theorem Node.updBoot_sig (f : BootState → BootState) : (n.updBoot f).sig = n.sig := rfl
@[simp] theorem Node.updBoot_aud (f : BootState → BootState) : (n.updBoot f).aud = n.aud := rfl
@[simp] theorem Node.updBoot_ina (f : BootState → BootState) : (n.updBoot f).ina = n.ina := rfl
@[simp] theorem Node.updBoot_pair (f : BootState → BootState) : (n.updBoot f).pair = n.pair := rfl
@[simp] theorem Node.updBoot_lull (f : BootState → BootState) : (n.updBoot f).lull = n.lull := rfl
@[simp] theorem Node.updBoot_eng (f : BootState → BootState) : (n.updBoot f).eng = n.eng := rfl
@[simp] theorem Node.updBoot_cellStart (f : BootState → BootState) : (n.updBoot f).cellStart = n.cellStart := rfl
@[simp] theorem Node.updBoot_gpio (f : BootState → BootState) : (n.updBoot f).gpio = n.gpio := rfl
@[simp] theorem Node.updBoot_can (f : BootState → BootState) : (n.updBoot f).can = n.can := rfl
@[simp] theorem Node.updBoot_pex (f : BootState → BootState) : (n.updBoot f).pex = n.pex := rfl
@[simp] theorem Node.updBoot_eth (f : BootState → BootState) : (n.updBoot f).eth = n.eth := rfl
@[simp] theorem Node.updBoot_tdm (f : BootState → BootState) : (n.updBoot f).tdm = n.tdm := rfl
@[simp] theorem Node.updBoot_qspi (f : BootState → BootState) : (n.updBoot f).qspi = n.qspi := rfl
@[simp] theorem Node.updBoot_ownPin (f : BootState → BootState) : (n.updBoot f).ownPin = n.ownPin := rfl
@[simp] theorem Node.updBoot_msg (f : BootState → BootState) : (n.updBoot f).msg = n.msg := rfl
@[simp] theorem Node.updBoot_pwr (f : BootState → BootState) : (n.updBoot f).pwr = n.pwr := rfl
@[simp] theorem Node.updBoot_dir (f : BootState → BootState) : (n.updBoot f).dir = n.dir := rfl
@[simp] theorem Node.updBoot_journal (f : BootState → BootState) : (n.updBoot f).journal = n.journal := rfl
@[simp] theorem Node.updBoot_freeCtr (f : BootState → BootState) : (n.updBoot f).freeCtr = n.freeCtr := rfl
@[simp] theorem Node.updBoot_out (f : BootState → BootState) : (n.updBoot f).out = n.out := rfl
@[simp] theorem Node.updBoot_reg (f : BootState → BootState) (x : Nat) : (n.updBoot f).reg x = n.reg x := rfl
@[simp] theorem Node.updBoot_rd (f : BootState → BootState) (x : Field) : (n.updBoot f).rd x = n.rd x := rfl
@[simp] theorem Node.updBoot_on (f : BootState → BootState) (x : Field) : (n.updBoot f).on x = n.on x := rfl

/-! ### updIna -/

@[simp] theorem Node.updIna_regs (f : InaState → InaState) : (n.updIna f).regs = n.regs := rfl
@[simp] theorem Node.updIna_mem (f : InaState → InaState) : (n.updIna f).mem = n.mem := rfl
@[simp] theorem Node.updIna_uce (f : InaState → InaState) : (n.updIna f).uce = n.uce := rfl
@[simp] theorem Node.updIna_qboot (f : InaState → InaState) : (n.updIna f).qboot = n.qboot := rfl
@[simp] theorem Node.updIna_qper (f : InaState → InaState) : (n.updIna f).qper = n.qper := rfl
@[simp] theorem Node.updIna_otp (f : InaState → InaState) : (n.updIna f).otp = n.otp := rfl
@[simp] theorem Node.updIna_time (f : InaState → InaState) : (n.updIna f).time = n.time := rfl
@[simp] theorem Node.updIna_evr (f : InaState → InaState) : (n.updIna f).evr = n.evr := rfl
@[simp] theorem Node.updIna_line (f : InaState → InaState) : (n.updIna f).line = n.line := rfl
@[simp] theorem Node.updIna_grd (f : InaState → InaState) : (n.updIna f).grd = n.grd := rfl
@[simp] theorem Node.updIna_bar (f : InaState → InaState) : (n.updIna f).bar = n.bar := rfl
@[simp] theorem Node.updIna_sig (f : InaState → InaState) : (n.updIna f).sig = n.sig := rfl
@[simp] theorem Node.updIna_aud (f : InaState → InaState) : (n.updIna f).aud = n.aud := rfl
@[simp] theorem Node.updIna_pair (f : InaState → InaState) : (n.updIna f).pair = n.pair := rfl
@[simp] theorem Node.updIna_lull (f : InaState → InaState) : (n.updIna f).lull = n.lull := rfl
@[simp] theorem Node.updIna_eng (f : InaState → InaState) : (n.updIna f).eng = n.eng := rfl
@[simp] theorem Node.updIna_cellStart (f : InaState → InaState) : (n.updIna f).cellStart = n.cellStart := rfl
@[simp] theorem Node.updIna_gpio (f : InaState → InaState) : (n.updIna f).gpio = n.gpio := rfl
@[simp] theorem Node.updIna_can (f : InaState → InaState) : (n.updIna f).can = n.can := rfl
@[simp] theorem Node.updIna_pex (f : InaState → InaState) : (n.updIna f).pex = n.pex := rfl
@[simp] theorem Node.updIna_eth (f : InaState → InaState) : (n.updIna f).eth = n.eth := rfl
@[simp] theorem Node.updIna_tdm (f : InaState → InaState) : (n.updIna f).tdm = n.tdm := rfl
@[simp] theorem Node.updIna_qspi (f : InaState → InaState) : (n.updIna f).qspi = n.qspi := rfl
@[simp] theorem Node.updIna_boot (f : InaState → InaState) : (n.updIna f).boot = n.boot := rfl
@[simp] theorem Node.updIna_ownPin (f : InaState → InaState) : (n.updIna f).ownPin = n.ownPin := rfl
@[simp] theorem Node.updIna_msg (f : InaState → InaState) : (n.updIna f).msg = n.msg := rfl
@[simp] theorem Node.updIna_pwr (f : InaState → InaState) : (n.updIna f).pwr = n.pwr := rfl
@[simp] theorem Node.updIna_dir (f : InaState → InaState) : (n.updIna f).dir = n.dir := rfl
@[simp] theorem Node.updIna_journal (f : InaState → InaState) : (n.updIna f).journal = n.journal := rfl
@[simp] theorem Node.updIna_freeCtr (f : InaState → InaState) : (n.updIna f).freeCtr = n.freeCtr := rfl
@[simp] theorem Node.updIna_out (f : InaState → InaState) : (n.updIna f).out = n.out := rfl
@[simp] theorem Node.updIna_reg (f : InaState → InaState) (x : Nat) : (n.updIna f).reg x = n.reg x := rfl
@[simp] theorem Node.updIna_rd (f : InaState → InaState) (x : Field) : (n.updIna f).rd x = n.rd x := rfl
@[simp] theorem Node.updIna_on (f : InaState → InaState) (x : Field) : (n.updIna f).on x = n.on x := rfl

/-! ### updBar -/

@[simp] theorem Node.updBar_regs (f : BarState → BarState) : (n.updBar f).regs = n.regs := rfl
@[simp] theorem Node.updBar_mem (f : BarState → BarState) : (n.updBar f).mem = n.mem := rfl
@[simp] theorem Node.updBar_uce (f : BarState → BarState) : (n.updBar f).uce = n.uce := rfl
@[simp] theorem Node.updBar_qboot (f : BarState → BarState) : (n.updBar f).qboot = n.qboot := rfl
@[simp] theorem Node.updBar_qper (f : BarState → BarState) : (n.updBar f).qper = n.qper := rfl
@[simp] theorem Node.updBar_otp (f : BarState → BarState) : (n.updBar f).otp = n.otp := rfl
@[simp] theorem Node.updBar_time (f : BarState → BarState) : (n.updBar f).time = n.time := rfl
@[simp] theorem Node.updBar_evr (f : BarState → BarState) : (n.updBar f).evr = n.evr := rfl
@[simp] theorem Node.updBar_line (f : BarState → BarState) : (n.updBar f).line = n.line := rfl
@[simp] theorem Node.updBar_grd (f : BarState → BarState) : (n.updBar f).grd = n.grd := rfl
@[simp] theorem Node.updBar_sig (f : BarState → BarState) : (n.updBar f).sig = n.sig := rfl
@[simp] theorem Node.updBar_aud (f : BarState → BarState) : (n.updBar f).aud = n.aud := rfl
@[simp] theorem Node.updBar_ina (f : BarState → BarState) : (n.updBar f).ina = n.ina := rfl
@[simp] theorem Node.updBar_pair (f : BarState → BarState) : (n.updBar f).pair = n.pair := rfl
@[simp] theorem Node.updBar_lull (f : BarState → BarState) : (n.updBar f).lull = n.lull := rfl
@[simp] theorem Node.updBar_eng (f : BarState → BarState) : (n.updBar f).eng = n.eng := rfl
@[simp] theorem Node.updBar_cellStart (f : BarState → BarState) : (n.updBar f).cellStart = n.cellStart := rfl
@[simp] theorem Node.updBar_gpio (f : BarState → BarState) : (n.updBar f).gpio = n.gpio := rfl
@[simp] theorem Node.updBar_can (f : BarState → BarState) : (n.updBar f).can = n.can := rfl
@[simp] theorem Node.updBar_pex (f : BarState → BarState) : (n.updBar f).pex = n.pex := rfl
@[simp] theorem Node.updBar_eth (f : BarState → BarState) : (n.updBar f).eth = n.eth := rfl
@[simp] theorem Node.updBar_tdm (f : BarState → BarState) : (n.updBar f).tdm = n.tdm := rfl
@[simp] theorem Node.updBar_qspi (f : BarState → BarState) : (n.updBar f).qspi = n.qspi := rfl
@[simp] theorem Node.updBar_boot (f : BarState → BarState) : (n.updBar f).boot = n.boot := rfl
@[simp] theorem Node.updBar_ownPin (f : BarState → BarState) : (n.updBar f).ownPin = n.ownPin := rfl
@[simp] theorem Node.updBar_msg (f : BarState → BarState) : (n.updBar f).msg = n.msg := rfl
@[simp] theorem Node.updBar_pwr (f : BarState → BarState) : (n.updBar f).pwr = n.pwr := rfl
@[simp] theorem Node.updBar_dir (f : BarState → BarState) : (n.updBar f).dir = n.dir := rfl
@[simp] theorem Node.updBar_journal (f : BarState → BarState) : (n.updBar f).journal = n.journal := rfl
@[simp] theorem Node.updBar_freeCtr (f : BarState → BarState) : (n.updBar f).freeCtr = n.freeCtr := rfl
@[simp] theorem Node.updBar_out (f : BarState → BarState) : (n.updBar f).out = n.out := rfl
@[simp] theorem Node.updBar_reg (f : BarState → BarState) (x : Nat) : (n.updBar f).reg x = n.reg x := rfl
@[simp] theorem Node.updBar_rd (f : BarState → BarState) (x : Field) : (n.updBar f).rd x = n.rd x := rfl
@[simp] theorem Node.updBar_on (f : BarState → BarState) (x : Field) : (n.updBar f).on x = n.on x := rfl

/-! ### updLull -/

@[simp] theorem Node.updLull_regs (f : LullState → LullState) : (n.updLull f).regs = n.regs := rfl
@[simp] theorem Node.updLull_mem (f : LullState → LullState) : (n.updLull f).mem = n.mem := rfl
@[simp] theorem Node.updLull_uce (f : LullState → LullState) : (n.updLull f).uce = n.uce := rfl
@[simp] theorem Node.updLull_qboot (f : LullState → LullState) : (n.updLull f).qboot = n.qboot := rfl
@[simp] theorem Node.updLull_qper (f : LullState → LullState) : (n.updLull f).qper = n.qper := rfl
@[simp] theorem Node.updLull_otp (f : LullState → LullState) : (n.updLull f).otp = n.otp := rfl
@[simp] theorem Node.updLull_time (f : LullState → LullState) : (n.updLull f).time = n.time := rfl
@[simp] theorem Node.updLull_evr (f : LullState → LullState) : (n.updLull f).evr = n.evr := rfl
@[simp] theorem Node.updLull_line (f : LullState → LullState) : (n.updLull f).line = n.line := rfl
@[simp] theorem Node.updLull_grd (f : LullState → LullState) : (n.updLull f).grd = n.grd := rfl
@[simp] theorem Node.updLull_bar (f : LullState → LullState) : (n.updLull f).bar = n.bar := rfl
@[simp] theorem Node.updLull_sig (f : LullState → LullState) : (n.updLull f).sig = n.sig := rfl
@[simp] theorem Node.updLull_aud (f : LullState → LullState) : (n.updLull f).aud = n.aud := rfl
@[simp] theorem Node.updLull_ina (f : LullState → LullState) : (n.updLull f).ina = n.ina := rfl
@[simp] theorem Node.updLull_pair (f : LullState → LullState) : (n.updLull f).pair = n.pair := rfl
@[simp] theorem Node.updLull_eng (f : LullState → LullState) : (n.updLull f).eng = n.eng := rfl
@[simp] theorem Node.updLull_cellStart (f : LullState → LullState) : (n.updLull f).cellStart = n.cellStart := rfl
@[simp] theorem Node.updLull_gpio (f : LullState → LullState) : (n.updLull f).gpio = n.gpio := rfl
@[simp] theorem Node.updLull_can (f : LullState → LullState) : (n.updLull f).can = n.can := rfl
@[simp] theorem Node.updLull_pex (f : LullState → LullState) : (n.updLull f).pex = n.pex := rfl
@[simp] theorem Node.updLull_eth (f : LullState → LullState) : (n.updLull f).eth = n.eth := rfl
@[simp] theorem Node.updLull_tdm (f : LullState → LullState) : (n.updLull f).tdm = n.tdm := rfl
@[simp] theorem Node.updLull_qspi (f : LullState → LullState) : (n.updLull f).qspi = n.qspi := rfl
@[simp] theorem Node.updLull_boot (f : LullState → LullState) : (n.updLull f).boot = n.boot := rfl
@[simp] theorem Node.updLull_ownPin (f : LullState → LullState) : (n.updLull f).ownPin = n.ownPin := rfl
@[simp] theorem Node.updLull_msg (f : LullState → LullState) : (n.updLull f).msg = n.msg := rfl
@[simp] theorem Node.updLull_pwr (f : LullState → LullState) : (n.updLull f).pwr = n.pwr := rfl
@[simp] theorem Node.updLull_dir (f : LullState → LullState) : (n.updLull f).dir = n.dir := rfl
@[simp] theorem Node.updLull_journal (f : LullState → LullState) : (n.updLull f).journal = n.journal := rfl
@[simp] theorem Node.updLull_freeCtr (f : LullState → LullState) : (n.updLull f).freeCtr = n.freeCtr := rfl
@[simp] theorem Node.updLull_out (f : LullState → LullState) : (n.updLull f).out = n.out := rfl
@[simp] theorem Node.updLull_reg (f : LullState → LullState) (x : Nat) : (n.updLull f).reg x = n.reg x := rfl
@[simp] theorem Node.updLull_rd (f : LullState → LullState) (x : Field) : (n.updLull f).rd x = n.rd x := rfl
@[simp] theorem Node.updLull_on (f : LullState → LullState) (x : Field) : (n.updLull f).on x = n.on x := rfl

/-! ### updEth -/

@[simp] theorem Node.updEth_regs (f : EthState → EthState) : (n.updEth f).regs = n.regs := rfl
@[simp] theorem Node.updEth_mem (f : EthState → EthState) : (n.updEth f).mem = n.mem := rfl
@[simp] theorem Node.updEth_uce (f : EthState → EthState) : (n.updEth f).uce = n.uce := rfl
@[simp] theorem Node.updEth_qboot (f : EthState → EthState) : (n.updEth f).qboot = n.qboot := rfl
@[simp] theorem Node.updEth_qper (f : EthState → EthState) : (n.updEth f).qper = n.qper := rfl
@[simp] theorem Node.updEth_otp (f : EthState → EthState) : (n.updEth f).otp = n.otp := rfl
@[simp] theorem Node.updEth_time (f : EthState → EthState) : (n.updEth f).time = n.time := rfl
@[simp] theorem Node.updEth_evr (f : EthState → EthState) : (n.updEth f).evr = n.evr := rfl
@[simp] theorem Node.updEth_line (f : EthState → EthState) : (n.updEth f).line = n.line := rfl
@[simp] theorem Node.updEth_grd (f : EthState → EthState) : (n.updEth f).grd = n.grd := rfl
@[simp] theorem Node.updEth_bar (f : EthState → EthState) : (n.updEth f).bar = n.bar := rfl
@[simp] theorem Node.updEth_sig (f : EthState → EthState) : (n.updEth f).sig = n.sig := rfl
@[simp] theorem Node.updEth_aud (f : EthState → EthState) : (n.updEth f).aud = n.aud := rfl
@[simp] theorem Node.updEth_ina (f : EthState → EthState) : (n.updEth f).ina = n.ina := rfl
@[simp] theorem Node.updEth_pair (f : EthState → EthState) : (n.updEth f).pair = n.pair := rfl
@[simp] theorem Node.updEth_lull (f : EthState → EthState) : (n.updEth f).lull = n.lull := rfl
@[simp] theorem Node.updEth_eng (f : EthState → EthState) : (n.updEth f).eng = n.eng := rfl
@[simp] theorem Node.updEth_cellStart (f : EthState → EthState) : (n.updEth f).cellStart = n.cellStart := rfl
@[simp] theorem Node.updEth_gpio (f : EthState → EthState) : (n.updEth f).gpio = n.gpio := rfl
@[simp] theorem Node.updEth_can (f : EthState → EthState) : (n.updEth f).can = n.can := rfl
@[simp] theorem Node.updEth_pex (f : EthState → EthState) : (n.updEth f).pex = n.pex := rfl
@[simp] theorem Node.updEth_tdm (f : EthState → EthState) : (n.updEth f).tdm = n.tdm := rfl
@[simp] theorem Node.updEth_qspi (f : EthState → EthState) : (n.updEth f).qspi = n.qspi := rfl
@[simp] theorem Node.updEth_boot (f : EthState → EthState) : (n.updEth f).boot = n.boot := rfl
@[simp] theorem Node.updEth_ownPin (f : EthState → EthState) : (n.updEth f).ownPin = n.ownPin := rfl
@[simp] theorem Node.updEth_msg (f : EthState → EthState) : (n.updEth f).msg = n.msg := rfl
@[simp] theorem Node.updEth_pwr (f : EthState → EthState) : (n.updEth f).pwr = n.pwr := rfl
@[simp] theorem Node.updEth_dir (f : EthState → EthState) : (n.updEth f).dir = n.dir := rfl
@[simp] theorem Node.updEth_journal (f : EthState → EthState) : (n.updEth f).journal = n.journal := rfl
@[simp] theorem Node.updEth_freeCtr (f : EthState → EthState) : (n.updEth f).freeCtr = n.freeCtr := rfl
@[simp] theorem Node.updEth_out (f : EthState → EthState) : (n.updEth f).out = n.out := rfl
@[simp] theorem Node.updEth_reg (f : EthState → EthState) (x : Nat) : (n.updEth f).reg x = n.reg x := rfl
@[simp] theorem Node.updEth_rd (f : EthState → EthState) (x : Field) : (n.updEth f).rd x = n.rd x := rfl
@[simp] theorem Node.updEth_on (f : EthState → EthState) (x : Field) : (n.updEth f).on x = n.on x := rfl

/-! ### updPair -/

@[simp] theorem Node.updPair_regs (f : PairState → PairState) : (n.updPair f).regs = n.regs := rfl
@[simp] theorem Node.updPair_mem (f : PairState → PairState) : (n.updPair f).mem = n.mem := rfl
@[simp] theorem Node.updPair_uce (f : PairState → PairState) : (n.updPair f).uce = n.uce := rfl
@[simp] theorem Node.updPair_qboot (f : PairState → PairState) : (n.updPair f).qboot = n.qboot := rfl
@[simp] theorem Node.updPair_qper (f : PairState → PairState) : (n.updPair f).qper = n.qper := rfl
@[simp] theorem Node.updPair_otp (f : PairState → PairState) : (n.updPair f).otp = n.otp := rfl
@[simp] theorem Node.updPair_time (f : PairState → PairState) : (n.updPair f).time = n.time := rfl
@[simp] theorem Node.updPair_evr (f : PairState → PairState) : (n.updPair f).evr = n.evr := rfl
@[simp] theorem Node.updPair_line (f : PairState → PairState) : (n.updPair f).line = n.line := rfl
@[simp] theorem Node.updPair_grd (f : PairState → PairState) : (n.updPair f).grd = n.grd := rfl
@[simp] theorem Node.updPair_bar (f : PairState → PairState) : (n.updPair f).bar = n.bar := rfl
@[simp] theorem Node.updPair_sig (f : PairState → PairState) : (n.updPair f).sig = n.sig := rfl
@[simp] theorem Node.updPair_aud (f : PairState → PairState) : (n.updPair f).aud = n.aud := rfl
@[simp] theorem Node.updPair_ina (f : PairState → PairState) : (n.updPair f).ina = n.ina := rfl
@[simp] theorem Node.updPair_lull (f : PairState → PairState) : (n.updPair f).lull = n.lull := rfl
@[simp] theorem Node.updPair_eng (f : PairState → PairState) : (n.updPair f).eng = n.eng := rfl
@[simp] theorem Node.updPair_cellStart (f : PairState → PairState) : (n.updPair f).cellStart = n.cellStart := rfl
@[simp] theorem Node.updPair_gpio (f : PairState → PairState) : (n.updPair f).gpio = n.gpio := rfl
@[simp] theorem Node.updPair_can (f : PairState → PairState) : (n.updPair f).can = n.can := rfl
@[simp] theorem Node.updPair_pex (f : PairState → PairState) : (n.updPair f).pex = n.pex := rfl
@[simp] theorem Node.updPair_eth (f : PairState → PairState) : (n.updPair f).eth = n.eth := rfl
@[simp] theorem Node.updPair_tdm (f : PairState → PairState) : (n.updPair f).tdm = n.tdm := rfl
@[simp] theorem Node.updPair_qspi (f : PairState → PairState) : (n.updPair f).qspi = n.qspi := rfl
@[simp] theorem Node.updPair_boot (f : PairState → PairState) : (n.updPair f).boot = n.boot := rfl
@[simp] theorem Node.updPair_ownPin (f : PairState → PairState) : (n.updPair f).ownPin = n.ownPin := rfl
@[simp] theorem Node.updPair_msg (f : PairState → PairState) : (n.updPair f).msg = n.msg := rfl
@[simp] theorem Node.updPair_pwr (f : PairState → PairState) : (n.updPair f).pwr = n.pwr := rfl
@[simp] theorem Node.updPair_dir (f : PairState → PairState) : (n.updPair f).dir = n.dir := rfl
@[simp] theorem Node.updPair_journal (f : PairState → PairState) : (n.updPair f).journal = n.journal := rfl
@[simp] theorem Node.updPair_freeCtr (f : PairState → PairState) : (n.updPair f).freeCtr = n.freeCtr := rfl
@[simp] theorem Node.updPair_out (f : PairState → PairState) : (n.updPair f).out = n.out := rfl
@[simp] theorem Node.updPair_reg (f : PairState → PairState) (x : Nat) : (n.updPair f).reg x = n.reg x := rfl
@[simp] theorem Node.updPair_rd (f : PairState → PairState) (x : Field) : (n.updPair f).rd x = n.rd x := rfl
@[simp] theorem Node.updPair_on (f : PairState → PairState) (x : Field) : (n.updPair f).on x = n.on x := rfl

/-! ### updQspi -/

@[simp] theorem Node.updQspi_regs (f : QspiState → QspiState) : (n.updQspi f).regs = n.regs := rfl
@[simp] theorem Node.updQspi_mem (f : QspiState → QspiState) : (n.updQspi f).mem = n.mem := rfl
@[simp] theorem Node.updQspi_uce (f : QspiState → QspiState) : (n.updQspi f).uce = n.uce := rfl
@[simp] theorem Node.updQspi_qboot (f : QspiState → QspiState) : (n.updQspi f).qboot = n.qboot := rfl
@[simp] theorem Node.updQspi_qper (f : QspiState → QspiState) : (n.updQspi f).qper = n.qper := rfl
@[simp] theorem Node.updQspi_otp (f : QspiState → QspiState) : (n.updQspi f).otp = n.otp := rfl
@[simp] theorem Node.updQspi_time (f : QspiState → QspiState) : (n.updQspi f).time = n.time := rfl
@[simp] theorem Node.updQspi_evr (f : QspiState → QspiState) : (n.updQspi f).evr = n.evr := rfl
@[simp] theorem Node.updQspi_line (f : QspiState → QspiState) : (n.updQspi f).line = n.line := rfl
@[simp] theorem Node.updQspi_grd (f : QspiState → QspiState) : (n.updQspi f).grd = n.grd := rfl
@[simp] theorem Node.updQspi_bar (f : QspiState → QspiState) : (n.updQspi f).bar = n.bar := rfl
@[simp] theorem Node.updQspi_sig (f : QspiState → QspiState) : (n.updQspi f).sig = n.sig := rfl
@[simp] theorem Node.updQspi_aud (f : QspiState → QspiState) : (n.updQspi f).aud = n.aud := rfl
@[simp] theorem Node.updQspi_ina (f : QspiState → QspiState) : (n.updQspi f).ina = n.ina := rfl
@[simp] theorem Node.updQspi_pair (f : QspiState → QspiState) : (n.updQspi f).pair = n.pair := rfl
@[simp] theorem Node.updQspi_lull (f : QspiState → QspiState) : (n.updQspi f).lull = n.lull := rfl
@[simp] theorem Node.updQspi_eng (f : QspiState → QspiState) : (n.updQspi f).eng = n.eng := rfl
@[simp] theorem Node.updQspi_cellStart (f : QspiState → QspiState) : (n.updQspi f).cellStart = n.cellStart := rfl
@[simp] theorem Node.updQspi_gpio (f : QspiState → QspiState) : (n.updQspi f).gpio = n.gpio := rfl
@[simp] theorem Node.updQspi_can (f : QspiState → QspiState) : (n.updQspi f).can = n.can := rfl
@[simp] theorem Node.updQspi_pex (f : QspiState → QspiState) : (n.updQspi f).pex = n.pex := rfl
@[simp] theorem Node.updQspi_eth (f : QspiState → QspiState) : (n.updQspi f).eth = n.eth := rfl
@[simp] theorem Node.updQspi_tdm (f : QspiState → QspiState) : (n.updQspi f).tdm = n.tdm := rfl
@[simp] theorem Node.updQspi_boot (f : QspiState → QspiState) : (n.updQspi f).boot = n.boot := rfl
@[simp] theorem Node.updQspi_ownPin (f : QspiState → QspiState) : (n.updQspi f).ownPin = n.ownPin := rfl
@[simp] theorem Node.updQspi_msg (f : QspiState → QspiState) : (n.updQspi f).msg = n.msg := rfl
@[simp] theorem Node.updQspi_pwr (f : QspiState → QspiState) : (n.updQspi f).pwr = n.pwr := rfl
@[simp] theorem Node.updQspi_dir (f : QspiState → QspiState) : (n.updQspi f).dir = n.dir := rfl
@[simp] theorem Node.updQspi_journal (f : QspiState → QspiState) : (n.updQspi f).journal = n.journal := rfl
@[simp] theorem Node.updQspi_freeCtr (f : QspiState → QspiState) : (n.updQspi f).freeCtr = n.freeCtr := rfl
@[simp] theorem Node.updQspi_out (f : QspiState → QspiState) : (n.updQspi f).out = n.out := rfl
@[simp] theorem Node.updQspi_reg (f : QspiState → QspiState) (x : Nat) : (n.updQspi f).reg x = n.reg x := rfl
@[simp] theorem Node.updQspi_rd (f : QspiState → QspiState) (x : Field) : (n.updQspi f).rd x = n.rd x := rfl
@[simp] theorem Node.updQspi_on (f : QspiState → QspiState) (x : Field) : (n.updQspi f).on x = n.on x := rfl

/-! ### updEng -/

@[simp] theorem Node.updEng_regs (e : Nat) (f : EngRun → EngRun) : (n.updEng e f).regs = n.regs := rfl
@[simp] theorem Node.updEng_mem (e : Nat) (f : EngRun → EngRun) : (n.updEng e f).mem = n.mem := rfl
@[simp] theorem Node.updEng_uce (e : Nat) (f : EngRun → EngRun) : (n.updEng e f).uce = n.uce := rfl
@[simp] theorem Node.updEng_qboot (e : Nat) (f : EngRun → EngRun) : (n.updEng e f).qboot = n.qboot := rfl
@[simp] theorem Node.updEng_qper (e : Nat) (f : EngRun → EngRun) : (n.updEng e f).qper = n.qper := rfl
@[simp] theorem Node.updEng_otp (e : Nat) (f : EngRun → EngRun) : (n.updEng e f).otp = n.otp := rfl
@[simp] theorem Node.updEng_time (e : Nat) (f : EngRun → EngRun) : (n.updEng e f).time = n.time := rfl
@[simp] theorem Node.updEng_evr (e : Nat) (f : EngRun → EngRun) : (n.updEng e f).evr = n.evr := rfl
@[simp] theorem Node.updEng_line (e : Nat) (f : EngRun → EngRun) : (n.updEng e f).line = n.line := rfl
@[simp] theorem Node.updEng_grd (e : Nat) (f : EngRun → EngRun) : (n.updEng e f).grd = n.grd := rfl
@[simp] theorem Node.updEng_bar (e : Nat) (f : EngRun → EngRun) : (n.updEng e f).bar = n.bar := rfl
@[simp] theorem Node.updEng_sig (e : Nat) (f : EngRun → EngRun) : (n.updEng e f).sig = n.sig := rfl
@[simp] theorem Node.updEng_aud (e : Nat) (f : EngRun → EngRun) : (n.updEng e f).aud = n.aud := rfl
@[simp] theorem Node.updEng_ina (e : Nat) (f : EngRun → EngRun) : (n.updEng e f).ina = n.ina := rfl
@[simp] theorem Node.updEng_pair (e : Nat) (f : EngRun → EngRun) : (n.updEng e f).pair = n.pair := rfl
@[simp] theorem Node.updEng_lull (e : Nat) (f : EngRun → EngRun) : (n.updEng e f).lull = n.lull := rfl
@[simp] theorem Node.updEng_cellStart (e : Nat) (f : EngRun → EngRun) : (n.updEng e f).cellStart = n.cellStart := rfl
@[simp] theorem Node.updEng_gpio (e : Nat) (f : EngRun → EngRun) : (n.updEng e f).gpio = n.gpio := rfl
@[simp] theorem Node.updEng_can (e : Nat) (f : EngRun → EngRun) : (n.updEng e f).can = n.can := rfl
@[simp] theorem Node.updEng_pex (e : Nat) (f : EngRun → EngRun) : (n.updEng e f).pex = n.pex := rfl
@[simp] theorem Node.updEng_eth (e : Nat) (f : EngRun → EngRun) : (n.updEng e f).eth = n.eth := rfl
@[simp] theorem Node.updEng_tdm (e : Nat) (f : EngRun → EngRun) : (n.updEng e f).tdm = n.tdm := rfl
@[simp] theorem Node.updEng_qspi (e : Nat) (f : EngRun → EngRun) : (n.updEng e f).qspi = n.qspi := rfl
@[simp] theorem Node.updEng_boot (e : Nat) (f : EngRun → EngRun) : (n.updEng e f).boot = n.boot := rfl
@[simp] theorem Node.updEng_ownPin (e : Nat) (f : EngRun → EngRun) : (n.updEng e f).ownPin = n.ownPin := rfl
@[simp] theorem Node.updEng_msg (e : Nat) (f : EngRun → EngRun) : (n.updEng e f).msg = n.msg := rfl
@[simp] theorem Node.updEng_pwr (e : Nat) (f : EngRun → EngRun) : (n.updEng e f).pwr = n.pwr := rfl
@[simp] theorem Node.updEng_dir (e : Nat) (f : EngRun → EngRun) : (n.updEng e f).dir = n.dir := rfl
@[simp] theorem Node.updEng_journal (e : Nat) (f : EngRun → EngRun) : (n.updEng e f).journal = n.journal := rfl
@[simp] theorem Node.updEng_freeCtr (e : Nat) (f : EngRun → EngRun) : (n.updEng e f).freeCtr = n.freeCtr := rfl
@[simp] theorem Node.updEng_out (e : Nat) (f : EngRun → EngRun) : (n.updEng e f).out = n.out := rfl
@[simp] theorem Node.updEng_reg (e : Nat) (f : EngRun → EngRun) (x : Nat) : (n.updEng e f).reg x = n.reg x := rfl
@[simp] theorem Node.updEng_rd (e : Nat) (f : EngRun → EngRun) (x : Field) : (n.updEng e f).rd x = n.rd x := rfl
@[simp] theorem Node.updEng_on (e : Nat) (f : EngRun → EngRun) (x : Field) : (n.updEng e f).on x = n.on x := rfl

/-! ### updTdm -/

@[simp] theorem Node.updTdm_regs (p : Nat) (f : TdmState → TdmState) : (n.updTdm p f).regs = n.regs := rfl
@[simp] theorem Node.updTdm_mem (p : Nat) (f : TdmState → TdmState) : (n.updTdm p f).mem = n.mem := rfl
@[simp] theorem Node.updTdm_uce (p : Nat) (f : TdmState → TdmState) : (n.updTdm p f).uce = n.uce := rfl
@[simp] theorem Node.updTdm_qboot (p : Nat) (f : TdmState → TdmState) : (n.updTdm p f).qboot = n.qboot := rfl
@[simp] theorem Node.updTdm_qper (p : Nat) (f : TdmState → TdmState) : (n.updTdm p f).qper = n.qper := rfl
@[simp] theorem Node.updTdm_otp (p : Nat) (f : TdmState → TdmState) : (n.updTdm p f).otp = n.otp := rfl
@[simp] theorem Node.updTdm_time (p : Nat) (f : TdmState → TdmState) : (n.updTdm p f).time = n.time := rfl
@[simp] theorem Node.updTdm_evr (p : Nat) (f : TdmState → TdmState) : (n.updTdm p f).evr = n.evr := rfl
@[simp] theorem Node.updTdm_line (p : Nat) (f : TdmState → TdmState) : (n.updTdm p f).line = n.line := rfl
@[simp] theorem Node.updTdm_grd (p : Nat) (f : TdmState → TdmState) : (n.updTdm p f).grd = n.grd := rfl
@[simp] theorem Node.updTdm_bar (p : Nat) (f : TdmState → TdmState) : (n.updTdm p f).bar = n.bar := rfl
@[simp] theorem Node.updTdm_sig (p : Nat) (f : TdmState → TdmState) : (n.updTdm p f).sig = n.sig := rfl
@[simp] theorem Node.updTdm_aud (p : Nat) (f : TdmState → TdmState) : (n.updTdm p f).aud = n.aud := rfl
@[simp] theorem Node.updTdm_ina (p : Nat) (f : TdmState → TdmState) : (n.updTdm p f).ina = n.ina := rfl
@[simp] theorem Node.updTdm_pair (p : Nat) (f : TdmState → TdmState) : (n.updTdm p f).pair = n.pair := rfl
@[simp] theorem Node.updTdm_lull (p : Nat) (f : TdmState → TdmState) : (n.updTdm p f).lull = n.lull := rfl
@[simp] theorem Node.updTdm_eng (p : Nat) (f : TdmState → TdmState) : (n.updTdm p f).eng = n.eng := rfl
@[simp] theorem Node.updTdm_cellStart (p : Nat) (f : TdmState → TdmState) : (n.updTdm p f).cellStart = n.cellStart := rfl
@[simp] theorem Node.updTdm_gpio (p : Nat) (f : TdmState → TdmState) : (n.updTdm p f).gpio = n.gpio := rfl
@[simp] theorem Node.updTdm_can (p : Nat) (f : TdmState → TdmState) : (n.updTdm p f).can = n.can := rfl
@[simp] theorem Node.updTdm_pex (p : Nat) (f : TdmState → TdmState) : (n.updTdm p f).pex = n.pex := rfl
@[simp] theorem Node.updTdm_eth (p : Nat) (f : TdmState → TdmState) : (n.updTdm p f).eth = n.eth := rfl
@[simp] theorem Node.updTdm_qspi (p : Nat) (f : TdmState → TdmState) : (n.updTdm p f).qspi = n.qspi := rfl
@[simp] theorem Node.updTdm_boot (p : Nat) (f : TdmState → TdmState) : (n.updTdm p f).boot = n.boot := rfl
@[simp] theorem Node.updTdm_ownPin (p : Nat) (f : TdmState → TdmState) : (n.updTdm p f).ownPin = n.ownPin := rfl
@[simp] theorem Node.updTdm_msg (p : Nat) (f : TdmState → TdmState) : (n.updTdm p f).msg = n.msg := rfl
@[simp] theorem Node.updTdm_pwr (p : Nat) (f : TdmState → TdmState) : (n.updTdm p f).pwr = n.pwr := rfl
@[simp] theorem Node.updTdm_dir (p : Nat) (f : TdmState → TdmState) : (n.updTdm p f).dir = n.dir := rfl
@[simp] theorem Node.updTdm_journal (p : Nat) (f : TdmState → TdmState) : (n.updTdm p f).journal = n.journal := rfl
@[simp] theorem Node.updTdm_freeCtr (p : Nat) (f : TdmState → TdmState) : (n.updTdm p f).freeCtr = n.freeCtr := rfl
@[simp] theorem Node.updTdm_out (p : Nat) (f : TdmState → TdmState) : (n.updTdm p f).out = n.out := rfl
@[simp] theorem Node.updTdm_reg (p : Nat) (f : TdmState → TdmState) (x : Nat) : (n.updTdm p f).reg x = n.reg x := rfl
@[simp] theorem Node.updTdm_rd (p : Nat) (f : TdmState → TdmState) (x : Field) : (n.updTdm p f).rd x = n.rd x := rfl
@[simp] theorem Node.updTdm_on (p : Nat) (f : TdmState → TdmState) (x : Field) : (n.updTdm p f).on x = n.on x := rfl

/-! ### updChan -/

@[simp] theorem Node.updChan_regs (c : Nat) (f : CanChan → CanChan) : (n.updChan c f).regs = n.regs := rfl
@[simp] theorem Node.updChan_mem (c : Nat) (f : CanChan → CanChan) : (n.updChan c f).mem = n.mem := rfl
@[simp] theorem Node.updChan_uce (c : Nat) (f : CanChan → CanChan) : (n.updChan c f).uce = n.uce := rfl
@[simp] theorem Node.updChan_qboot (c : Nat) (f : CanChan → CanChan) : (n.updChan c f).qboot = n.qboot := rfl
@[simp] theorem Node.updChan_qper (c : Nat) (f : CanChan → CanChan) : (n.updChan c f).qper = n.qper := rfl
@[simp] theorem Node.updChan_otp (c : Nat) (f : CanChan → CanChan) : (n.updChan c f).otp = n.otp := rfl
@[simp] theorem Node.updChan_time (c : Nat) (f : CanChan → CanChan) : (n.updChan c f).time = n.time := rfl
@[simp] theorem Node.updChan_evr (c : Nat) (f : CanChan → CanChan) : (n.updChan c f).evr = n.evr := rfl
@[simp] theorem Node.updChan_line (c : Nat) (f : CanChan → CanChan) : (n.updChan c f).line = n.line := rfl
@[simp] theorem Node.updChan_grd (c : Nat) (f : CanChan → CanChan) : (n.updChan c f).grd = n.grd := rfl
@[simp] theorem Node.updChan_bar (c : Nat) (f : CanChan → CanChan) : (n.updChan c f).bar = n.bar := rfl
@[simp] theorem Node.updChan_sig (c : Nat) (f : CanChan → CanChan) : (n.updChan c f).sig = n.sig := rfl
@[simp] theorem Node.updChan_aud (c : Nat) (f : CanChan → CanChan) : (n.updChan c f).aud = n.aud := rfl
@[simp] theorem Node.updChan_ina (c : Nat) (f : CanChan → CanChan) : (n.updChan c f).ina = n.ina := rfl
@[simp] theorem Node.updChan_pair (c : Nat) (f : CanChan → CanChan) : (n.updChan c f).pair = n.pair := rfl
@[simp] theorem Node.updChan_lull (c : Nat) (f : CanChan → CanChan) : (n.updChan c f).lull = n.lull := rfl
@[simp] theorem Node.updChan_eng (c : Nat) (f : CanChan → CanChan) : (n.updChan c f).eng = n.eng := rfl
@[simp] theorem Node.updChan_cellStart (c : Nat) (f : CanChan → CanChan) : (n.updChan c f).cellStart = n.cellStart := rfl
@[simp] theorem Node.updChan_gpio (c : Nat) (f : CanChan → CanChan) : (n.updChan c f).gpio = n.gpio := rfl
@[simp] theorem Node.updChan_pex (c : Nat) (f : CanChan → CanChan) : (n.updChan c f).pex = n.pex := rfl
@[simp] theorem Node.updChan_eth (c : Nat) (f : CanChan → CanChan) : (n.updChan c f).eth = n.eth := rfl
@[simp] theorem Node.updChan_tdm (c : Nat) (f : CanChan → CanChan) : (n.updChan c f).tdm = n.tdm := rfl
@[simp] theorem Node.updChan_qspi (c : Nat) (f : CanChan → CanChan) : (n.updChan c f).qspi = n.qspi := rfl
@[simp] theorem Node.updChan_boot (c : Nat) (f : CanChan → CanChan) : (n.updChan c f).boot = n.boot := rfl
@[simp] theorem Node.updChan_ownPin (c : Nat) (f : CanChan → CanChan) : (n.updChan c f).ownPin = n.ownPin := rfl
@[simp] theorem Node.updChan_msg (c : Nat) (f : CanChan → CanChan) : (n.updChan c f).msg = n.msg := rfl
@[simp] theorem Node.updChan_pwr (c : Nat) (f : CanChan → CanChan) : (n.updChan c f).pwr = n.pwr := rfl
@[simp] theorem Node.updChan_dir (c : Nat) (f : CanChan → CanChan) : (n.updChan c f).dir = n.dir := rfl
@[simp] theorem Node.updChan_journal (c : Nat) (f : CanChan → CanChan) : (n.updChan c f).journal = n.journal := rfl
@[simp] theorem Node.updChan_freeCtr (c : Nat) (f : CanChan → CanChan) : (n.updChan c f).freeCtr = n.freeCtr := rfl
@[simp] theorem Node.updChan_out (c : Nat) (f : CanChan → CanChan) : (n.updChan c f).out = n.out := rfl
@[simp] theorem Node.updChan_reg (c : Nat) (f : CanChan → CanChan) (x : Nat) : (n.updChan c f).reg x = n.reg x := rfl
@[simp] theorem Node.updChan_rd (c : Nat) (f : CanChan → CanChan) (x : Field) : (n.updChan c f).rd x = n.rd x := rfl
@[simp] theorem Node.updChan_on (c : Nat) (f : CanChan → CanChan) (x : Field) : (n.updChan c f).on x = n.on x := rfl

@[simp] theorem Node.updBoot_boot (f : BootState → BootState) : (n.updBoot f).boot = f n.boot := rfl
@[simp] theorem Node.updIna_ina (f : InaState → InaState) : (n.updIna f).ina = f n.ina := rfl
@[simp] theorem Node.updBar_bar (f : BarState → BarState) : (n.updBar f).bar = f n.bar := rfl
@[simp] theorem Node.updLull_lull (f : LullState → LullState) : (n.updLull f).lull = f n.lull := rfl
@[simp] theorem Node.updEth_eth (f : EthState → EthState) : (n.updEth f).eth = f n.eth := rfl
@[simp] theorem Node.updPair_pair (f : PairState → PairState) : (n.updPair f).pair = f n.pair := rfl
@[simp] theorem Node.updQspi_qspi (f : QspiState → QspiState) : (n.updQspi f).qspi = f n.qspi := rfl
@[simp] theorem Node.emit_out (p : Port) (bs : List Byte) : (n.emit p bs).out = n.out ++ [⟨p, bs⟩] := rfl

/-! ### Registers -/

@[simp] theorem Node.setReg_reg_same (a : Nat) (v : Word) : (n.setReg a v).reg a = v := Tab.get_set_same _ _ _ _

theorem Node.setReg_reg_ne (a b : Nat) (v : Word) (h : b ≠ a) : (n.setReg a v).reg b = n.reg b := Tab.get_set_ne _ _ _ _ _ h

theorem Node.wr_reg_ne (f : Field) (v b : Nat) (h : b ≠ f.addr) : (n.wr f v).reg b = n.reg b := n.setReg_reg_ne _ _ _ h

theorem Node.wr_reg_same (f : Field) (v : Nat) (h : f.lo + f.width ≤ 32) :
    ((n.wr f v).reg f.addr).toNat = setBits (n.reg f.addr).toNat f.lo f.width v := by
  rw [Node.wr, Node.setReg_reg_same, BitVec.toNat_ofNat]
  exact Nat.mod_eq_of_lt (setBits_lt _ _ _ _ (n.reg f.addr).isLt h)

/-- A field reads as written, cut to its width. -/
theorem Node.rd_wr_same (f : Field) (v : Nat) (h : f.lo + f.width ≤ 32) : (n.wr f v).rd f = v % 2 ^ f.width := by
  rw [Node.rd, n.wr_reg_same f v h, bits_setBits_same]

/-- Two fields share no bit. -/
def Field.apart (f g : Field) : Bool := f.addr ≠ g.addr || g.lo + g.width ≤ f.lo || f.lo + f.width ≤ g.lo

/-- A field reads as before a write of another. -/
theorem Node.rd_wr_ne (f g : Field) (v : Nat) (h : f.lo + f.width ≤ 32) (hd : f.apart g = true) : (n.wr f v).rd g = n.rd g := by
  by_cases ha : g.addr = f.addr
  · simp only [Field.apart, ha, ne_eq, not_true_eq_false, decide_false, Bool.false_or, Bool.or_eq_true, decide_eq_true_eq] at hd
    rw [Node.rd, ha, n.wr_reg_same f v h, bits_setBits_ne _ _ _ _ _ _ hd, Node.rd, ha]
  · rw [Node.rd, n.wr_reg_ne f v _ ha, Node.rd]

theorem Node.rd_count_same (f : Field) (h : f.lo + f.width ≤ 32) : (n.count f).rd f = min (n.rd f + 1) (2 ^ f.width - 1) := by
  have hb : n.rd f < 2 ^ f.width := bits_lt _ _ _
  have hp : 0 < 2 ^ f.width := by positivity
  rw [Node.count, Node.countBy, n.rd_wr_same f _ h]
  unfold sat
  split
  · rw [Nat.mod_eq_of_lt (by assumption)]; omega
  · rw [Nat.mod_eq_of_lt (by omega)]; omega

theorem Node.rd_count_ne (f g : Field) (h : f.lo + f.width ≤ 32) (hd : f.apart g = true) : (n.count f).rd g = n.rd g :=
  n.rd_wr_ne f g _ h hd

theorem Node.on_wrB_same (f : Field) (b : Bool) (h : f.lo + f.width ≤ 32) (hw : f.width = 1) : (n.wrB f b).on f = b := by
  rw [Node.on, Node.wrB, n.rd_wr_same f _ h, hw]
  cases b <;> rfl

theorem Node.on_wrB_ne (f g : Field) (b : Bool) (h : f.lo + f.width ≤ 32) (hd : f.apart g = true) : (n.wrB f b).on g = n.on g := by
  rw [Node.on, Node.wrB, n.rd_wr_ne f g _ h hd, Node.on]

theorem Node.setReg_wf (a : Nat) (v : Word) (h : Tab.wf resetWord n.regs = true) : Tab.wf resetWord (n.setReg a v).regs = true :=
  Tab.wf_set _ _ _ _ h

/-- Writing SRAM keeps its canonical form. -/
theorem Node.memPut_wf (a : Nat) (bs : List Byte) (h : Tab.wf memBlank n.mem = true) : Tab.wf memBlank (n.memPut a bs).mem = true :=
  putBytes_wf _ _ _ _ h

/-- A byte that is not written reads as before. -/
theorem Node.memPut_byte_out (a : Nat) (bs : List Byte) (x : Nat) (h : x < a ∨ a + bs.length ≤ x) :
    (n.memPut a bs).memByte x = n.memByte x := get_putBytes_out _ _ _ _ _ h

theorem Node.memPut_byte_in (a : Nat) (bs : List Byte) (i : Nat) (h : i < bs.length) : (n.memPut a bs).memByte (a + i) = bs[i] :=
  get_putBytes_in _ _ _ _ _ h

end Sys2Proof.Machine
end

