-- ==== Sys2Proof/Laws/Galek.lean ====
section
/-! SUPPORT. What the shared operations of the Galek instructions do: registers, the program counter, the fetch. -/

namespace Sys2Proof.Machine

variable (n : Node) (e : Nat)

@[simp] theorem Node.engRun_updEng_same (f : EngRun → EngRun) : (n.updEng e f).engRun e = f (n.engRun e) := Tab.get_set_same _ _ _ _

theorem Node.engRun_updEng_ne (f : EngRun → EngRun) (x : Nat) (h : x ≠ e) : (n.updEng e f).engRun x = n.engRun x :=
  Tab.get_set_ne _ _ _ _ _ h

@[simp] theorem Node.jump_pcOf (t : Word) : (n.jump e t).pcOf e = t := by simp [Node.jump, Node.pcOf]

@[simp] theorem Node.jump_g (t : Word) (r : Reg) : (n.jump e t).g e r = n.g e r := by simp [Node.jump, Node.g]

@[simp] theorem Node.setG_pcOf (r : Reg) (v : Word) : (n.setG e r v).pcOf e = n.pcOf e := by
  unfold Node.setG; split <;> simp [Node.pcOf]

/-- A register reads as written; g0 reads as 0. -/
theorem Node.setG_g_same (r : Reg) (v : Word) : (n.setG e r v).g e r = if r = 0 then 0 else v := by
  unfold Node.setG Node.g
  split <;> simp_all

/-- Another register reads as before. -/
theorem Node.setG_g_ne (r q : Reg) (v : Word) (h : q ≠ r) : (n.setG e r v).g e q = n.g e q := by
  unfold Node.setG Node.g
  have hv : q.val ≠ r.val := fun hq => h (Fin.ext hq)
  split
  · rfl
  · split
    · rfl
    · simp [Tab.get_set_ne _ _ _ _ _ hv]

theorem OnlyEngine.rfl' (e : Fin 8) (n : Node) : OnlyEngine e n n := ⟨rfl, fun _ _ => rfl⟩

theorem OnlyEngine.trans {e : Fin 8} {n m k : Node} (h : OnlyEngine e n m) (g : OnlyEngine e m k) : OnlyEngine e n k := by
  refine ⟨?_, fun x hx => (g.2 x hx).trans (h.2 x hx)⟩
  have h1 := h.1
  have g1 := g.1
  rw [← h1, ← g1]

theorem OnlyEngine.updEng (e : Fin 8) (n : Node) (f : EngRun → EngRun) : OnlyEngine e n (n.updEng e f) :=
  ⟨rfl, fun x hx => n.engRun_updEng_ne e f x hx⟩

theorem OnlyEngine.setG (e : Fin 8) (n : Node) (r : Reg) (v : Word) : OnlyEngine e n (n.setG e r v) := by
  unfold Node.setG; split
  · exact OnlyEngine.rfl' e n
  · exact OnlyEngine.updEng e n _

theorem OnlyEngine.jump (e : Fin 8) (n : Node) (t : Word) : OnlyEngine e n (n.jump e t) := OnlyEngine.updEng e n _

/-- An engine whose word can be fetched executes it. -/
theorem Node.galek_fetches {n : Node} {e : Fin 8} (h : Fetches n e) (f : Node → Node) : n.galek e f = f n := by
  obtain ⟨_, h1, h2, h3⟩ := h
  unfold Node.galek
  rw [if_neg (by simp [h1]), if_neg (by omega), if_neg (by simp [h3])]

/-- A command of a running node's unit completes. -/
theorem does_onNode {c : Instr} {s : State} {f : Node → Node} {P : Node → Prop} (hr : s.node.running = true)
    (hc : exec c s = s.onNode f) (hp : P (f s.node)) : Does c s P :=
  ⟨f s.node, by rw [hc, State.onNode, State.always, Node.live, if_pos hr], hp⟩

/-- An instruction that finishes with `v` computes `v`. -/
theorem computes_finish {c : Instr} {s : State} {e : Fin 8} {rd : Reg} {f : Node → Node} {v : Word} (hf : Fetches s.node e)
    (hc : exec c s = s.onNode (fun n => n.galek e f)) (hv : f s.node = s.node.finish e rd v) : Computes c s e rd v := by
  refine does_onNode hf.1 hc ?_
  rw [Node.galek_fetches hf, hv]
  refine ⟨?_, ?_, ?_, ?_⟩
  · rw [Node.finish, Node.advance, Node.jump_g, Node.setG_g_same]
  · intro r hr
    rw [Node.finish, Node.advance, Node.jump_g, Node.setG_g_ne _ _ _ _ _ hr]
  · rw [Node.finish, Node.advance, Node.jump_pcOf, Node.setG_pcOf]
  · exact (OnlyEngine.setG e _ _ _).trans (OnlyEngine.jump e _ _)

/-- An instruction that jumps goes on at the target. -/
theorem jumps_jump {c : Instr} {s : State} {e : Fin 8} {f : Node → Node} {t : Word} (hf : Fetches s.node e)
    (hc : exec c s = s.onNode (fun n => n.galek e f)) (hv : f s.node = s.node.jump e t) : Jumps c s e t := by
  refine does_onNode hf.1 hc ?_
  rw [Node.galek_fetches hf, hv]
  exact ⟨by simp, by simp, OnlyEngine.jump e _ _⟩

end Sys2Proof.Machine
end

