-- ==== Sys2Proof/Laws/Memory.lean ====
section
/-! SUPPORT. Every operation over the SRAM and the QSPI devices keeps the canonical form `Memory.wf`, and the state after reset has it;
what a byte of the SRAM reads as after a write. -/

namespace Sys2Proof.Machine

section

variable {α : Type} [DecidableEq α] (d : Nat → α)

/-- In canonical form, a bound of the first key bounds the keys that a filter leaves. -/
theorem Tab.above_filter (t : Tab α) (p : Nat × α → Bool) (lo : Nat) (h : Tab.wf d t = true) (ha : Tab.above lo t = true) :
    Tab.above lo (t.filter p) = true := by
  induction t with
  | nil => rfl
  | cons q t ih =>
    obtain ⟨a, v⟩ := q
    simp only [Tab.wf, Bool.and_eq_true] at h
    simp only [Tab.above, decide_eq_true_eq] at ha
    rw [List.filter_cons]
    split
    · simpa [Tab.above] using ha
    · refine ih h.2 ?_
      have h2 := h.1.2
      cases t with
      | nil => rfl
      | cons r t => simp only [Tab.above, decide_eq_true_eq] at h2 ⊢; omega

/-- A filter keeps the canonical form. -/
theorem Tab.wf_filter (t : Tab α) (p : Nat × α → Bool) (h : Tab.wf d t = true) : Tab.wf d (t.filter p) = true := by
  induction t with
  | nil => rfl
  | cons q t ih =>
    obtain ⟨a, v⟩ := q
    have h' := h
    simp only [Tab.wf, Bool.and_eq_true] at h'
    rw [List.filter_cons]
    split
    · simp only [Tab.wf, Bool.and_eq_true]
      exact ⟨⟨h'.1.1, Tab.above_filter d t p a h'.2 h'.1.2⟩, ih h'.2⟩
    · exact ih h'.2

/-- A run of writes keeps the canonical form. -/
theorem Tab.wf_foldl_set (l : List (Nat × α)) (t : Tab α) (h : Tab.wf d t = true) :
    Tab.wf d (l.foldl (fun m p => Tab.set d m p.1 p.2) t) = true := by
  induction l generalizing t with
  | nil => exact h
  | cons p l ih => exact ih _ (Tab.wf_set d t p.1 p.2 h)

end

/-- The form depends on the three stores alone. -/
theorem Memory.wf_congr {n n' : Node} (h1 : n'.mem = n.mem) (h2 : n'.qboot = n.qboot) (h3 : n'.qper = n.qper) :
    Memory.wf n' = Memory.wf n := by simp [Memory.wf, h1, h2, h3]

/-- The state after reset has the form. -/
theorem Memory.wf_reset : Memory.wf State.reset.node = true := rfl

/-- A write of SRAM bytes keeps the form. -/
theorem Memory.wf_memPut (n : Node) (a : Nat) (bs : List Byte) (h : Memory.wf n = true) : Memory.wf (n.memPut a bs) = true := by
  simp only [Memory.wf, Bool.and_eq_true] at h ⊢
  exact ⟨⟨putBytes_wf _ _ _ _ h.1.1, h.1.2⟩, h.2⟩

/-- A program operation of a QSPI device keeps the form. -/
theorem Memory.wf_flashPut (n : Node) (c : QCtl) (a : Nat) (bs : List Byte) (h : Memory.wf n = true) :
    Memory.wf (n.flashPut c a bs) = true := by
  simp only [Memory.wf, Bool.and_eq_true] at h ⊢
  cases c
  · exact ⟨⟨h.1.1, putBytes_wf _ _ _ _ h.1.2⟩, h.2⟩
  · exact ⟨h.1, putBytes_wf _ _ _ _ h.2⟩

/-- An erase keeps the form. -/
theorem Memory.wf_eraseBytes (n : Node) (c : QCtl) (a len : Nat) (h : Memory.wf n = true) : Memory.wf (n.eraseBytes c a len) = true := by
  simp only [Memory.wf, Bool.and_eq_true] at h
  cases c
  · simp only [Node.eraseBytes, Memory.wf, Bool.and_eq_true]
    exact ⟨⟨h.1.1, Tab.wf_filter _ _ _ h.1.2⟩, h.2⟩
  · simp only [Node.eraseBytes]
    split <;> simp only [Memory.wf, Bool.and_eq_true] <;> exact ⟨h.1, Tab.wf_filter _ _ _ h.2⟩

/-- Uncorrectable words taken as 0 keep the form. -/
theorem Memory.wf_zeroUce (n : Node) (a len : Nat) (h : Memory.wf n = true) : Memory.wf (n.zeroUce a len) = true := by
  unfold Node.zeroUce
  generalize n.uce.filter _ = l
  induction l generalizing n with
  | nil => exact h
  | cons w l ih =>
    refine ih _ ?_
    simp only [Memory.wf, Bool.and_eq_true] at h ⊢
    exact ⟨⟨putBytes_wf _ _ _ _ h.1.1, h.1.2⟩, h.2⟩

/-- The journal's bytes written back at a boot keep the form. -/
theorem Memory.wf_restore (n : Node) (l : List (Nat × Byte)) (h : Memory.wf n = true) :
    Memory.wf { n with mem := l.foldl (fun m (p : Nat × Byte) => Tab.set memBlank m p.1 p.2) n.mem } = true := by
  simp only [Memory.wf, Bool.and_eq_true] at h ⊢
  exact ⟨⟨Tab.wf_foldl_set _ _ _ h.1.1, h.1.2⟩, h.2⟩

/-- A register write keeps the form. -/
theorem Memory.wf_setReg (n : Node) (a : Nat) (v : Word) : Memory.wf (n.setReg a v) = Memory.wf n := rfl

/-- A field write keeps the form. -/
theorem Memory.wf_wr (n : Node) (f : Field) (v : Nat) : Memory.wf (n.wr f v) = Memory.wf n := rfl

/-- A reset of the node keeps the form. -/
theorem Memory.wf_resetMain (n : Node) (k : Nat) (h : Memory.wf n = true) : Memory.wf (n.resetMain k) = true := by
  simp only [Memory.wf, Bool.and_eq_true] at h
  unfold Node.resetMain
  simp only
  split <;> simp only [Memory.wf, Node.wr, Node.setReg, Bool.and_eq_true] <;> exact ⟨⟨rfl, h.1.2⟩, h.2⟩

/-- A power-on reset keeps the form. -/
theorem Memory.wf_resetAll (n : Node) (h : Memory.wf n = true) : Memory.wf n.resetAll = true := by
  simp only [Memory.wf, Bool.and_eq_true] at h
  simp only [Node.resetAll, Memory.wf, Node.wr, Node.setReg, Bool.and_eq_true]
  exact ⟨⟨rfl, h.1.2⟩, h.2⟩

/-- A byte outside a write of the SRAM reads as before. -/
theorem Node.memByte_memPut_out (n : Node) (a : Nat) (bs : List Byte) (x : Nat) (h : x < a ∨ a + bs.length ≤ x) :
    (n.memPut a bs).memByte x = n.memByte x := get_putBytes_out _ _ _ _ _ h

/-- A byte written to the SRAM reads as written. -/
theorem Node.memByte_memPut_in (n : Node) (a : Nat) (bs : List Byte) (i : Nat) (h : i < bs.length) :
    (n.memPut a bs).memByte (a + i) = bs[i] := get_putBytes_in _ _ _ _ _ h

end Sys2Proof.Machine
end

