-- ==== Sys2Proof/Laws/Recorded.lean ====
section
/-! SUPPORT. Everything that raising an event, committing a record or mirroring a change can do: staging, the journal, the pair link's
queues and their registers; no other register and no other unit's state. -/

namespace Sys2Proof.Machine

/-- The registers that the recorder, the store and the mirror keep of themselves. -/
def recReg (a : Nat) : Bool :=
  (0x40070000 ≤ a && a < 0x40071000) || a = MSG_STORE.FREE.addr || a = MSG_DELTA.VALUE.addr || a = PAIR_MIRLAG.VALUE.addr
    || a = PAIR_CNT_MIRBYTES.VALUE.addr

/-- `m` is `n` but for what recording and mirroring change. -/
structure Recorded (n m : Node) : Prop where
  qboot : m.qboot = n.qboot
  qper : m.qper = n.qper
  otp : m.otp = n.otp
  time : m.time = n.time
  line : m.line = n.line
  grd : m.grd = n.grd
  bar : m.bar = n.bar
  sig : m.sig = n.sig
  aud : m.aud = n.aud
  ina : m.ina = n.ina
  lull : m.lull = n.lull
  eng : m.eng = n.eng
  cellStart : m.cellStart = n.cellStart
  gpio : m.gpio = n.gpio
  can : m.can = n.can
  pex : m.pex = n.pex
  eth : m.eth = n.eth
  tdm : m.tdm = n.tdm
  qspi : m.qspi = n.qspi
  boot : m.boot = n.boot
  ownPin : m.ownPin = n.ownPin
  pwr : m.pwr = n.pwr
  dir : m.dir = n.dir
  journal : m.journal = n.journal
  freeCtr : m.freeCtr = n.freeCtr
  pair : m.pair = { n.pair with waiting := m.pair.waiting, unacked := m.pair.unacked, nextSeq := m.pair.nextSeq, deltaNo := m.pair.deltaNo, mirRem := m.pair.mirRem }
  msg : m.msg = { n.msg with used := m.msg.used, accq := m.msg.accq, changes := m.msg.changes }
  accq : ∃ l, m.msg.accq = n.msg.accq ++ l
  mem : ∀ a, a < jrnlBase → m.memByte a = n.memByte a
  reg : ∀ a, recReg a = false → m.reg a = n.reg a

namespace Recorded

variable {n m k : Node}

theorem refl (n : Node) : Recorded n n := ⟨rfl, rfl, rfl, rfl, rfl, rfl, rfl, rfl, rfl, rfl, rfl, rfl, rfl, rfl, rfl, rfl, rfl, rfl, rfl, rfl, rfl, rfl, rfl, rfl, rfl, rfl, rfl, ⟨[], by simp⟩, fun _ _ => rfl, fun _ _ => rfl⟩

theorem trans (h : Recorded n m) (g : Recorded m k) : Recorded n k :=
  ⟨g.qboot.trans h.qboot, g.qper.trans h.qper, g.otp.trans h.otp, g.time.trans h.time, g.line.trans h.line, g.grd.trans h.grd, g.bar.trans h.bar, g.sig.trans h.sig, g.aud.trans h.aud, g.ina.trans h.ina, g.lull.trans h.lull, g.eng.trans h.eng, g.cellStart.trans h.cellStart, g.gpio.trans h.gpio, g.can.trans h.can, g.pex.trans h.pex, g.eth.trans h.eth, g.tdm.trans h.tdm, g.qspi.trans h.qspi, g.boot.trans h.boot, g.ownPin.trans h.ownPin, g.pwr.trans h.pwr, g.dir.trans h.dir, g.journal.trans h.journal, g.freeCtr.trans h.freeCtr,
    by rw [g.pair, h.pair], by rw [g.msg, h.msg], by
      obtain ⟨l, hl⟩ := h.accq
      obtain ⟨k, hk⟩ := g.accq
      exact ⟨l ++ k, by rw [hk, hl, List.append_assoc]⟩, fun a ha => (g.mem a ha).trans (h.mem a ha),
    fun a ha => (g.reg a ha).trans (h.reg a ha)⟩

theorem rd (h : Recorded n m) (f : Field) (hf : recReg f.addr = false) : m.rd f = n.rd f := by rw [Node.rd, h.reg _ hf, Node.rd]

theorem on (h : Recorded n m) (f : Field) (hf : recReg f.addr = false) : m.on f = n.on f := by rw [Node.on, h.rd f hf, Node.on]

theorem setReg (n : Node) (a : Nat) (v : Word) (h : recReg a = true) : Recorded n (n.setReg a v) :=
  ⟨rfl, rfl, rfl, rfl, rfl, rfl, rfl, rfl, rfl, rfl, rfl, rfl, rfl, rfl, rfl, rfl, rfl, rfl, rfl, rfl, rfl, rfl, rfl, rfl, rfl, rfl, rfl, ⟨[], by simp⟩, fun _ _ => rfl, fun b hb => n.setReg_reg_ne a b v (by rintro rfl; simp [h] at hb)⟩

theorem wr (n : Node) (f : Field) (v : Nat) (h : recReg f.addr = true) : Recorded n (n.wr f v) := setReg n _ _ h

theorem memPut (n : Node) (a : Nat) (bs : List Byte) (h : jrnlBase ≤ a) : Recorded n (n.memPut a bs) :=
  ⟨rfl, rfl, rfl, rfl, rfl, rfl, rfl, rfl, rfl, rfl, rfl, rfl, rfl, rfl, rfl, rfl, rfl, rfl, rfl, rfl, rfl, rfl, rfl, rfl, rfl, rfl, rfl, ⟨[], by simp⟩, fun x hx => n.memPut_byte_out a bs x (by omega), fun _ _ => rfl⟩

theorem emit (n : Node) (p : Port) (bs : List Byte) : Recorded n (n.emit p bs) := ⟨rfl, rfl, rfl, rfl, rfl, rfl, rfl, rfl, rfl, rfl, rfl, rfl, rfl, rfl, rfl, rfl, rfl, rfl, rfl, rfl, rfl, rfl, rfl, rfl, rfl, rfl, rfl, ⟨[], by simp⟩, fun _ _ => rfl, fun _ _ => rfl⟩

theorem updPair (n : Node) (f : PairState → PairState)
    (h : f n.pair = { n.pair with waiting := (f n.pair).waiting, unacked := (f n.pair).unacked, nextSeq := (f n.pair).nextSeq, deltaNo := (f n.pair).deltaNo, mirRem := (f n.pair).mirRem }) :
    Recorded n (n.updPair f) :=
  ⟨rfl, rfl, rfl, rfl, rfl, rfl, rfl, rfl, rfl, rfl, rfl, rfl, rfl, rfl, rfl, rfl, rfl, rfl, rfl, rfl, rfl, rfl, rfl, rfl, rfl, h, rfl, ⟨[], by simp⟩, fun _ _ => rfl, fun _ _ => rfl⟩

theorem evrMsg (n : Node) (e : EvrState) (x : MsgState) (h : x = { n.msg with used := x.used, accq := x.accq, changes := x.changes })
    (hq : ∃ l, x.accq = n.msg.accq ++ l) : Recorded n { n with evr := e, msg := x } :=
  ⟨rfl, rfl, rfl, rfl, rfl, rfl, rfl, rfl, rfl, rfl, rfl, rfl, rfl, rfl, rfl, rfl, rfl, rfl, rfl, rfl, rfl, rfl, rfl, rfl, rfl, rfl, h, hq, fun _ _ => rfl, fun _ _ => rfl⟩

theorem evrOnly (n : Node) (e : EvrState) : Recorded n { n with evr := e } := evrMsg n e n.msg rfl ⟨[], by simp⟩

/-- A fold of steps that each record. -/
theorem foldl {β : Type} (f : Node → β → Node) (h : ∀ n x, Recorded n (f n x)) (l : List β) (n : Node) : Recorded n (l.foldl f n) := by
  induction l generalizing n with
  | nil => exact refl n
  | cons x l ih => exact (h n x).trans (ih _)

theorem cond {c : Prop} [Decidable c] {a b : Node} (ha : Recorded n a) (hb : Recorded n b) : Recorded n (if c then a else b) := by
  split <;> assumption

/-! ### The pair link -/

theorem linkPump (k : Nat) (n : Node) : Recorded n (Node.linkPump k n) := by
  induction k generalizing n with
  | zero => exact refl n
  | succ k ih =>
    unfold Node.linkPump
    split
    · exact refl n
    · exact cond (refl n) (((updPair n _ rfl).trans (emit _ _ _)).trans (ih _))

theorem linkSend (n : Node) (prio type : Nat) (bs : List Byte) : Recorded n (n.linkSend prio type bs) :=
  ((updPair n _ rfl).trans (linkPump _ _)).trans (wr _ _ _ (by decide))

theorem jrnlFrames (k : Nat) (n : Node) (off : Nat) (bs : List Byte) : Recorded n (Node.jrnlFrames k n off bs) := by
  induction k generalizing n off bs with
  | zero => exact refl n
  | succ k ih =>
    unfold Node.jrnlFrames
    split
    · exact refl n
    · exact (linkSend n _ _ _).trans (ih _ _ _)

theorem mirrorDelta (n : Node) (recs : List (List Byte)) : Recorded n (n.mirrorDelta recs) := by
  unfold Node.mirrorDelta
  split
  · exact refl n
  · exact ((updPair n _ rfl).trans (wr _ _ _ (by decide))).trans (foldl _ (fun n x => linkSend n _ _ _) _ _)

theorem jchange (n : Node) (p : JPiece) (len : Nat) : Recorded n (n.jchange p len) := by
  have h : Recorded n ((n.pieceBytes p).foldl (fun (n : Node) (b : Nat × List Byte) =>
      let n := n.memPut (jrnlBase + b.1) b.2
      if n.mirroring then Node.jrnlFrames 5 n b.1 b.2 else n) n) := by
    refine foldl _ (fun n x => ?_) _ _
    simp only []
    split
    · exact (memPut n _ _ (by omega)).trans (jrnlFrames _ _ _ _)
    · exact memPut n _ _ (by omega)
  unfold Node.jchange
  simp only []
  split
  · exact h
  · exact h.trans ((evrMsg _ _ _ rfl ⟨[], by simp⟩).trans (wr _ _ _ (by decide)))

/-! ### The store -/

theorem storeCount (n : Node) : Recorded n n.storeCount := (wr n _ _ (by decide)).trans (wr _ _ _ (by decide))

theorem storeAlloc (n : Node) (k : Nat) (r : Nat × Node) (h : n.storeAlloc k = some r) : Recorded n r.2 := by
  unfold Node.storeAlloc at h
  cases hf : findRun k 0 n.msg.used with
  | none => simp [hf] at h
  | some b =>
    simp only [hf, Option.map_some, Option.some.injEq] at h
    subst h
    exact (evrMsg n n.evr _ rfl ⟨[], by simp⟩).trans (storeCount _)

theorem storeFree (n : Node) (b : Nat) : Recorded n (n.storeFree b) := (evrMsg n n.evr _ rfl ⟨[], by simp⟩).trans (storeCount _)

/-! ### Records -/

theorem startFlush (n : Node) (c : FlushCause) : Recorded n (n.startFlush c) := by
  unfold Node.startFlush
  split
  · exact (evrOnly n _).trans (wr _ _ _ (by decide))
  · exact refl n

theorem submitRecord (n : Node) (seq len : Nat) : Recorded n (n.submitRecord seq len) := by
  unfold Node.submitRecord
  split
  · rename_i b m h
    exact ((storeAlloc n _ _ h).trans ((memPut _ _ _ (by simp only [blockAddr]; omega)).trans (evrMsg _ _ _ rfl ⟨_, rfl⟩))).trans (jchange _ _ _)
  · exact refl n

/-- What `raise` is asked to keep, for the operations that take it as an argument. -/
def Good (raise : Node → Field → Node) : Prop := ∀ n f, recReg f.addr = true → Recorded n (raise n f)

theorem stageRecord (raise : Node → Field → Node) (hr : Good raise) (n : Node) (w : WaitRec) (x : Bool) :
    Recorded n (n.stageRecord raise w x) := by
  unfold Node.stageRecord
  simp only []
  refine trans ?_ (cond (startFlush _ _) (refl _))
  refine trans ?_ (cond (startFlush _ _) (refl _))
  refine trans ?_ (cond (hr _ _ (by decide)) (refl _))
  refine trans ?_ (cond (submitRecord _ _ _) (refl _))
  refine trans ?_ (cond (wr _ _ _ (by decide)) (refl _))
  refine trans ?_ (wr _ _ _ (by decide))
  refine trans ?_ (wr _ _ _ (by decide))
  refine trans ?_ (evrMsg _ _ _ rfl ⟨[], by simp⟩)
  exact (memPut n _ _ (by simp only [stageAddr, jrnlBase]; omega)).trans ((wr _ _ _ (by decide)).trans (wr _ _ _ (by decide)))

theorem commitLoss (raise : Node → Field → Node) (hr : Good raise) (n : Node) : Recorded n (n.commitLoss raise) := by
  unfold Node.commitLoss
  split
  · exact refl n
  · exact ((evrOnly n _).trans (stageRecord raise hr _ _ _)).trans (hr _ _ (by decide))

theorem lossNote (n : Node) : Recorded n n.lossNote := evrOnly n _

theorem commitWith (raise : Node → Field → Node) (hr : Good raise) (n : Node) (w : WaitRec) (x : Bool) :
    Recorded n (n.commitWith raise w x) := by
  unfold Node.commitWith
  simp only []
  split
  · exact refl n
  split
  · exact (wr n _ _ (by decide)).trans (lossNote _)
  split
  · exact (commitLoss raise hr n).trans (stageRecord raise hr _ _ _)
  split
  · exact evrOnly n _
  · exact (wr n _ _ (by decide)).trans (lossNote _)

theorem fireWith (raise : Node → Field → Node) (hr : Good raise) (v : Nat) (n : Node) (t : Nat) : Recorded n (n.fireWith raise v t) := by
  unfold Node.fireWith
  simp only []
  split
  · exact refl n
  split
  · exact (wr n _ _ (by decide)).trans (lossNote _)
  split
  · exact wr n _ _ (by decide)
  · exact (evrOnly n _).trans (commitWith raise hr _ _ _)

/-- An event raised: its bit set, and what recording it changes. -/
theorem raiseN (k : Nat) (n : Node) (f : Field) : Recorded (n.wrB f true) (Node.raiseN k n f) := by
  induction k generalizing n f with
  | zero => exact refl _
  | succ k ih =>
    unfold Node.raiseN
    simp only []
    split
    · exact foldl _ (fun n t => fireWith _ (fun n f hf => (wr n f _ hf).trans (ih n f)) _ _ _) _ _
    · exact refl _

end Recorded

/-- An event raised: its bit set, and what recording it changes. -/
theorem Node.raise_recorded (n : Node) (f : Field) : Recorded (n.wrB f true) (n.raise f) := Recorded.raiseN 3 n f

theorem Recorded.good_raise : Recorded.Good Node.raise := fun n f hf => (Recorded.wr n f _ hf).trans (n.raise_recorded f)

/-- A system fault changes what recording changes. -/
theorem Node.sysFault_recorded (n : Node) (code : Nat) : Recorded n (n.sysFault code) :=
  Recorded.foldl _ (fun n t => Recorded.fireWith _ Recorded.good_raise _ n t) _ _

theorem Node.fixedRecord_recorded (n : Node) (code : Nat) (bs : List Byte) : Recorded n (n.fixedRecord code bs) :=
  Recorded.commitWith _ Recorded.good_raise _ _ _

/-- A mirrored write: its own effect, and the delta. -/
theorem Node.mirrored_recorded (n : Node) (by_ : Initiator) (a v : Nat) (f : Node → Node) : Recorded (f n) (n.mirrored by_ a v f) := by
  cases by_ <;> first | exact Recorded.refl _ | exact Recorded.mirrorDelta _ _

/-- A field outside the recorder's own reads after a raised event as before, unless it is the event's bit. -/
theorem Node.rd_raise (n : Node) (f g : Field) (hf : f.lo + f.width ≤ 32) (hg : recReg g.addr = false) (hd : f.apart g = true) :
    (n.raise f).rd g = n.rd g := by
  rw [(n.raise_recorded f).rd g hg, Node.wrB, n.rd_wr_ne f g _ hf hd]

/-- The bit of an event outside the recorder's own registers is 1 after it is raised. -/
theorem Node.on_raise_same (n : Node) (f : Field) (hf : f.lo + f.width ≤ 32) (hw : f.width = 1) (hg : recReg f.addr = false) :
    (n.raise f).on f = true := by
  rw [(n.raise_recorded f).on f hg, n.on_wrB_same f true hf hw]

theorem Node.on_raise_ne (n : Node) (f g : Field) (hf : f.lo + f.width ≤ 32) (hg : recReg g.addr = false) (hd : f.apart g = true) :
    (n.raise f).on g = n.on g := by
  rw [Node.on, n.rd_raise f g hf hg hd, Node.on]

@[simp] theorem Node.raise_qboot (n : Node) (f : Field) : (n.raise f).qboot = n.qboot := (n.raise_recorded f).qboot
@[simp] theorem Node.raise_qper (n : Node) (f : Field) : (n.raise f).qper = n.qper := (n.raise_recorded f).qper
@[simp] theorem Node.raise_otp (n : Node) (f : Field) : (n.raise f).otp = n.otp := (n.raise_recorded f).otp
@[simp] theorem Node.raise_time (n : Node) (f : Field) : (n.raise f).time = n.time := (n.raise_recorded f).time
@[simp] theorem Node.raise_line (n : Node) (f : Field) : (n.raise f).line = n.line := (n.raise_recorded f).line
@[simp] theorem Node.raise_grd (n : Node) (f : Field) : (n.raise f).grd = n.grd := (n.raise_recorded f).grd
@[simp] theorem Node.raise_bar (n : Node) (f : Field) : (n.raise f).bar = n.bar := (n.raise_recorded f).bar
@[simp] theorem Node.raise_sig (n : Node) (f : Field) : (n.raise f).sig = n.sig := (n.raise_recorded f).sig
@[simp] theorem Node.raise_aud (n : Node) (f : Field) : (n.raise f).aud = n.aud := (n.raise_recorded f).aud
@[simp] theorem Node.raise_ina (n : Node) (f : Field) : (n.raise f).ina = n.ina := (n.raise_recorded f).ina
@[simp] theorem Node.raise_lull (n : Node) (f : Field) : (n.raise f).lull = n.lull := (n.raise_recorded f).lull
@[simp] theorem Node.raise_eng (n : Node) (f : Field) : (n.raise f).eng = n.eng := (n.raise_recorded f).eng
@[simp] theorem Node.raise_cellStart (n : Node) (f : Field) : (n.raise f).cellStart = n.cellStart := (n.raise_recorded f).cellStart
@[simp] theorem Node.raise_gpio (n : Node) (f : Field) : (n.raise f).gpio = n.gpio := (n.raise_recorded f).gpio
@[simp] theorem Node.raise_can (n : Node) (f : Field) : (n.raise f).can = n.can := (n.raise_recorded f).can
@[simp] theorem Node.raise_pex (n : Node) (f : Field) : (n.raise f).pex = n.pex := (n.raise_recorded f).pex
@[simp] theorem Node.raise_eth (n : Node) (f : Field) : (n.raise f).eth = n.eth := (n.raise_recorded f).eth
@[simp] theorem Node.raise_tdm (n : Node) (f : Field) : (n.raise f).tdm = n.tdm := (n.raise_recorded f).tdm
@[simp] theorem Node.raise_qspi (n : Node) (f : Field) : (n.raise f).qspi = n.qspi := (n.raise_recorded f).qspi
@[simp] theorem Node.raise_boot (n : Node) (f : Field) : (n.raise f).boot = n.boot := (n.raise_recorded f).boot
@[simp] theorem Node.raise_ownPin (n : Node) (f : Field) : (n.raise f).ownPin = n.ownPin := (n.raise_recorded f).ownPin
@[simp] theorem Node.raise_pwr (n : Node) (f : Field) : (n.raise f).pwr = n.pwr := (n.raise_recorded f).pwr
@[simp] theorem Node.raise_dir (n : Node) (f : Field) : (n.raise f).dir = n.dir := (n.raise_recorded f).dir
@[simp] theorem Node.raise_journal (n : Node) (f : Field) : (n.raise f).journal = n.journal := (n.raise_recorded f).journal
@[simp] theorem Node.raise_freeCtr (n : Node) (f : Field) : (n.raise f).freeCtr = n.freeCtr := (n.raise_recorded f).freeCtr

end Sys2Proof.Machine
end

