-- ==== Sys2Proof/WellFormed.lean ====
section
/-! DEFINITION. The well-formed commands: operands in the ranges that the spec gives the frames, units and numbers they stand for. The
machine's meanings are total and ask for no such check; it says which commands the outside can send. -/

namespace Sys2Proof

/-- A node number (00_scope.md): 1 to 128. -/
def nodeNumber (k : Nat) : Bool := 1 ≤ k && k ≤ 128

/-- An SCH entry index (R105): 0 to 511. -/
def schIndex (k : Nat) : Bool := k < 512

/-- The bytes after a beacon command's code (R100, R103): 13 of them. -/
def argsOk (a : List Byte) : Bool := a.length = 13

/-- Is the first byte `t`? -/
def typed (t : Nat) (bs : List Byte) : Bool := bs.head? = some (BitVec.ofNat 8 t)

/-- A unit of one type as received in a slot (R113): from a numbered node, body of 1 to 8,192 bytes with its type first. -/
def UnitRx.ok (t : Nat) (u : UnitRx) : Bool := nodeNumber u.node && u.body.length ≤ 8192 && typed t u.body

/-- A data unit of one type as received in an SCH entry (R113, R114). A slot header that fails its CRC leaves the node unknown, 0. -/
def DataUnitRx.ok (t : Nat) (u : DataUnitRx) : Bool := schIndex u.entry && u.node ≤ 128 && u.body.length ≤ 8192 && typed t u.body

/-- A contention frame of one type (R122): 56 bytes. -/
def ContRx.ok (t : Nat) (f : ContRx) : Bool := f.bytes.length = 56 && typed t f.bytes

/-- A pair link frame of one type (R421): a header, at most 2,048 bytes and a CRC-32. -/
def PairRx.ok (t : Nat) (f : PairRx) : Bool := 16 ≤ f.bytes.length && f.bytes.length ≤ 2064 && typed t f.bytes

/-- A beacon (R100): 120 bytes. -/
def BeaconRx.ok (r : BeaconRx) : Bool := r.bytes.length = 120

/-- A slot (R112): an entry, and a payload that holds at least the slot header. -/
def SlotRx.ok (r : SlotRx) : Bool := schIndex r.entry && 40 ≤ r.payload.length

/-- A slot pilot (R51): the 495 even tones 34 to 1022. -/
def PilotRx.ok (p : PilotRx) : Bool := p.owner ≤ 128 && p.bins.length = 495

/-- A sounding (R53): the 991 tones 33 to 1023, from a numbered node. -/
def SoundingRx.ok (p : SoundingRx) : Bool := nodeNumber p.node && p.bins.length = 991

/-- A roll-call (R126): tones of the line. -/
def RollCallRx.ok (r : RollCallRx) : Bool := r.tones.all (fun t => t.1 < 1024)

/-- A CAN frame (R558): the data lengths that its format has; a base identifier of 11 bits. -/
def CanRx.ok (f : CanRx) : Bool :=
  (f.ide || f.id.toNat < 2048) && (f.data.length ≤ 8 || f.fdf && [12, 16, 20, 24, 32, 48, 64].contains f.data.length)

/-- An Ethernet frame (R579): header to FCS. -/
def frameOk (bs : List Byte) : Bool := 18 ≤ bs.length

/-- A fabric address (R23): 32 bits. -/
def fabricAddr (a : Nat) : Bool := a < 2 ^ 32

/-- The checks on a command's operands. -/
def Instr.wf : Instr → Bool
  | .registerWrite _ a _ => fabricAddr a
  | .counterClear _ a _ => fabricAddr a
  | .pilotReceive p => p.ok
  | .soundingReceive p => p.ok
  | .loadProp u => u.ok 0x21 && u.body.length = 508
  | .loadSet u => u.ok 0x22 && u.body.length = 508
  | .loadAck u => u.ok 0x23 && u.body.length = 12
  | .loadReq u => u.ok 0x24 && u.body.length = 8
  | .pendingTableTimeout _ k => nodeNumber k
  | .tablesNotHeld _ k => nodeNumber k
  | .beaconReceive r => r.ok
  | .contAnswer a => argsOk a
  | .spareConfirm a => argsOk a
  | .spareRelease a => argsOk a
  | .commit a => argsOk a
  | .commitKey a => argsOk a
  | .stretch a => argsOk a
  | .relay a => argsOk a
  | .cold a => argsOk a
  | .lullCommit a => argsOk a
  | .lullAbort a => argsOk a
  | .squall a => argsOk a
  | .spareAbsenceRelease k => schIndex k
  | .slotSend k => schIndex k
  | .slotReceive r => r.ok
  | .spareClaim f => f.ok 0x62
  | .rollcallReceive r => r.ok
  | .nodeAbsent k => nodeNumber k
  | .cand f => f.ok 0x64
  | .callFrame f => f.ok 0x65
  | .answer f => f.ok 0x66
  | .endFrame f => f.ok 0x67
  | .dirrec f => f.ok 0x68
  | .ccommit f => f.ok 0x69
  | .join f => f.ok 0x60
  | .hello f => f.ok 0x63
  | .jbeacon f => f.ok 0x6A
  | .jlist f => f.ok 0x6B
  | .jdecide f => f.ok 0x6C
  | .jack f => f.ok 0x6D
  | .wakeReq f => f.ok 0x61
  | .pubDecl u => u.ok 0x34
  | .streamDecl u => u.ok 0x35
  | .dirPub u => u.ok 0x32
  | .dirStream u => u.ok 0x33
  | .dirNode u => u.ok 0x30
  | .dirSch u => u.ok 0x31
  | .dirSum u => u.ok 0x36
  | .jreport u => u.ok 0x37
  | .jsend u => u.ok 0x38
  | .signalDataSet d => d.ok 0x01
  | .audioBlock d => d.ok 0x02
  | .msgSeg u => u.ok 0x10
  | .msgAck u => u.ok 0x11
  | .msgProbe u => u.ok 0x12
  | .lullToken u => u.ok 0x40
  | .lullReply u => u.ok 0x41
  | .hb f => f.ok 0x01
  | .echo f => f.ok 0x02
  | .neg f => f.ok 0x03
  | .jrnl f => f.ok 0x10
  | .delta f => f.ok 0x20
  | .mark f => f.ok 0x21
  | .snap f => f.ok 0x30
  | .ptpEventFrame f => frameOk f.bytes
  | .canFrameReceive _ f => f.ok
  | .ethFrameReceive r => frameOk r.bytes
  | .mgmtDatagram _ sp dp _ => sp < 65536 && dp < 65536
  | .addressAgeing m => m < 2 ^ 48
  | .vddAonPor | .mainRailPor .. | .nreset .. | .swrst .. | .resetRelease .. | .bootctlGo .. | .otpProgram .. | .otpProgramDone ..
  | .pllUnlock .. | .pllLineLock | .hostWrite .. | .hostRead .. | .hostStatus .. | .hostAbort .. | .acceptance | .zsenseChange ..
  | .lineNullTable .. | .lineNullLeave .. | .soundingSend | .loadRoundStart | .loadAckCheck .. | .loadSwitch .. | .calStart ..
  | .calCancel .. | .calDeferredStart .. | .calPhaseEnd .. | .calBeaconLoss .. | .beaconSend | .beaconMiss | .coastLimit
  | .contentionSend | .contentionAttemptFail | .contbad .. | .barSpareClaim | .barSpareCancel | .rollcallSend | .guardAlign ..
  | .guardUnaligned | .grdArm .. | .grdCommit .. | .guardArmExpire | .guardSwap | .guardBlocked .. | .grdClose .. | .grdRearm ..
  | .grdForeignWrite .. | .inaEnable .. | .inaDisable .. | .listenTimeout | .callTimeout | .leadCandLoss | .inaugurationCommit
  | .relayClosure .. | .coldEffective | .inaCmdCold .. | .inaCmdRenumber .. | .inaCmdMerge .. | .helloSend | .renumberCommitStart
  | .jbeaconCycle | .foreignRunReset .. | .mergeAbandon | .jdecideTimeout | .dataSetDeclare .. | .subscriptionRangeWrite ..
  | .viewWrite .. | .sigAssemblyPass .. | .sigApply | .gatewaySend .. | .hostSubmit .. | .probeTimer .. | .retransmitTimeout ..
  | .messageHanding .. | .msgHget .. | .msgHack .. | .msgHwdr .. | .lifetimeExpiry .. | .lifetimePersist | .partialDiscard ..
  | .orphanTimeout .. | .journalRingWrite | .journalRestore | .audioBlockClose .. | .txEntryEnable .. | .rxEntryEnable .. | .audMix
  | .concealMute .. | .audXwWrite .. | .zoneCommit .. | .ancGapEnd .. | .ancHold .. | .echoDivergence .. | .ecBurst .. | .burstEnd ..
  | .generatorStart .. | .generatorRunEnd .. | .generatorStop .. | .clipCopy .. | .clipCopyDone | .audAligned | .slewEnd
  | .audDisable .. | .start .. | .startClean .. | .stop .. | .cycleStart .. | .watchdogOverrun .. | .syncQueue .. | .syncWithdraw ..
  | .inputWindowClose .. | .syncGroupWrite .. | .forceEntryWrite .. | .forceClearall .. | .dmemAllocate .. | .dmemFree ..
  | .timerAllocate .. | .timerFree .. | .edgeAllocate .. | .edgeFree .. | .illegalInstruction .. | .add .. | .sub .. | .and ..
  | .or .. | .xor .. | .nor .. | .slt .. | .sltu .. | .sll .. | .srl .. | .sra .. | .slli .. | .srli .. | .srai .. | .mul ..
  | .mulh .. | .mulhu .. | .div .. | .divu .. | .rem .. | .remu .. | .min .. | .max .. | .minu .. | .maxu .. | .clz .. | .addi ..
  | .andi .. | .ori .. | .xori .. | .slti .. | .sltiu .. | .lui .. | .addpc .. | .ldB .. | .ldBu .. | .ldH .. | .ldHu .. | .ldW ..
  | .stB .. | .stH .. | .stW .. | .b .. | .call .. | .beq .. | .bne .. | .blt .. | .bge .. | .bltu .. | .bgeu .. | .ret .. | .callr ..
  | .pget .. | .pstat .. | .pput .. | .ton .. | .tof .. | .tpl .. | .ctu .. | .ctd .. | .tval .. | .edr .. | .edf .. | .qput ..
  | .qget .. | .qack .. | .qwdr .. | .trd .. | .tln .. | .aroute .. | .again .. | .gust .. | .calm .. | .cyc .. | .fence .. | .halt ..
  | .crc32 .. | .recTrg .. | .rsr .. | .pexLoad .. | .loadVerifyDone | .pexArm .. | .pexAbort .. | .swapCopy | .swapDone
  | .pexWaitTimeout | .standbyAckTimeout | .patch .. | .patchApply | .pairEnable .. | .pairDisable .. | .linkLockLoss
  | .linkRetransmit | .linkOutOfService | .heartbeatTick | .negTimeout | .assume | .lossDeclaration | .fenceTimeout | .partnerLost
  | .handover .. | .handoverMark | .holdwaitTimeout | .rehearse .. | .probationFail .. | .probationEnd | .pairBist .. | .bistDone ..
  | .clearsuspect .. | .pairResync .. | .syncComplete | .resynclong | .pwrHreq .. | .pwrHcalm .. | .gustQueueGrant | .budgetWrite ..
  | .gustMaxhold .. | .pwrMonWrite .. | .pwrLock .. | .supplyWarning .. | .supplyReset .. | .supplyRecovering .. | .supplyNormal ..
  | .powerFailFlushDone | .lullRing .. | .lullAbortCmd .. | .lullEnterCmd .. | .lullReplyTimeout | .voteChange .. | .lullEntryStart
  | .lullFailsafe | .canstbAck .. | .canstbFailsafe | .canrel .. | .wakeEvent .. | .latchedWakeRise | .squallRequest .. | .squallEmit
  | .squallRecognized .. | .timeSnap .. | .utcset .. | .ptpstep .. | .ptpStepApply | .launchHand .. | .launchFire .. | .lcancel ..
  | .baseWrap .. | .twoStepTimeout .. | .pallocAllocate .. | .pallocFree .. | .canReady .. | .canAck .. | .canAbort .. | .canArm ..
  | .canRecover .. | .canAbortall .. | .canArbitrationWin .. | .canTxEnd .. | .canBusoffRecovered .. | .canSleep .. | .canResume ..
  | .txkick .. | .arpRefresh .. | .mdioRead .. | .mdioWrite .. | .mdioDone .. | .mdioPoll .. | .linkChange .. | .tdmEnable ..
  | .tdmDisable .. | .tdmLockerr .. | .tdmLockRegain .. | .qspiErase .. | .qspiEraseDone .. | .qspiCopyRead .. | .qspiCopyProgram ..
  | .qspiCopyDone .. | .gpioInputChange .. | .gpioSet .. | .gpioClr .. | .gpioModeWrite .. | .evrEnable .. | .evrFlushCmd ..
  | .evrFlushDone | .evrFormat .. | .evrRead .. | .evrReadDone | .challengeIssue .. | .challengeExpiry | .clear .. | .collect ..
  | .snapshotAddressWrite .. | .barEnable .. | .canModeWrite .. | .flowOpen .. | .echoCancellerEnable .. | .candSend
  | .ethFrameSent .. | .pllLock .. | .linkLockRegain => true

end Sys2Proof
end

