-- ==== Sys2Proof/Tests/Slice0.lean ====
section
/-! SUPPORT. Tests of the model. An ill-formed command for each check; published check values of the standards the spec names; a few corners of
the Galek instructions; and, for every statement with hypotheses, states and operands that meet them: `met_<statement>_<k>` shows a state that
meets the hypotheses of one or more of its clauses, all of one clause together. -/

namespace Sys2Proof.Tests

open Sys2Proof.Machine

set_option maxRecDepth 100000

set_option Elab.async false

/-- A register table that holds the given field values, one after another; the words of the fields named start at 0. -/
def fieldTab : List (Field × Nat) → Tab Word
  | [] => []
  | (f, v) :: l => put f.addr f v (fieldTab l)
where put (a : Nat) (f : Field) (v : Nat) : Tab Word → Tab Word
  | [] => [(a, BitVec.ofNat 32 (setBits 0 f.lo f.width v))]
  | (b, w) :: t =>
    if a < b then (a, BitVec.ofNat 32 (setBits 0 f.lo f.width v)) :: (b, w) :: t
    else if a = b then (a, BitVec.ofNat 32 (setBits w.toNat f.lo f.width v)) :: t
    else (b, w) :: put a f v t

/-- A node with the given field values; everything else as after reset. -/
def nd (l : List (Field × Nat)) : Node := { regs := fieldTab l }

/-- A state of the node alone, with no command waiting. -/
def st (n : Node) : State := ⟨n, []⟩

/-- Engine `e` runs with registers `g` at the start of its bank, beside the given field values. -/
def eRun (e : Fin 8) (g : List (Nat × Word)) (l : List (Field × Nat) := []) : Node :=
  { nd ((ENG_STATUS.STATE e, 1) :: l) with eng := [(e.val, { g := g })] }

/-- An accepted, transmitted message of sequence `q` and length `len` that no destination holds. -/
def outMsg (q len : Nat) : OutMsg :=
  { seq := q, len := len, block := 0, blocks := 2, life := 0, expire := none, accepted := true, order := 0, transmitted := true, sentOff := len,
    lastSent := 0, retx := false, held := 0, delivered := 0, killed := 0, cause := none, killing := false, lastProbe := 0, unresolved := false,
    reported := false }

/-- A delivered message's descriptor. -/
def desc (read : Bool) : Desc := ⟨false, false, 1, 0, 5, 0x203B0040, 8, 2, 0, 0, read⟩

/-- A node image at `base` that every check of R648 passes: a header and an empty setup program. -/
def goodImage (base : Nat) : Tab Byte :=
  (([(0x0, 0x48), (0x1, 0x4D), (0x2, 0x49), (0x3, 0x47), (0x4, 0x1), (0x6, 0x2), (0x8, 0x80), (0x9, 0x4), (0xD, 0x4), (0x11, 0x11), (0x12, 0x48), (0x13, 0x6), (0x20, 0x8), (0x24, 0x8), (0x28, 0x8), (0x2C, 0x8), (0x30, 0x8), (0x34, 0x8), (0x38, 0x8), (0x3C, 0x8), (0x40, 0x2C), (0x41, 0xC2), (0x42, 0xAC), (0x43, 0xFB), (0x89, 0x4), (0x98, 0x1), (0x9D, 0x4)]
    ++ ((upTo 128).map (0x400 + ·)).zip (beBytes 32 0x9cf51ff4e5b7abf5bbc0a1cd8f1d9c212f6559c9ca24974f3257255030818ad8
      ++ beBytes 32 0x4c91e868b23d245b6c8281e3b83472801e58725f0d71f031e144d37b08b78543
      ++ beBytes 32 0x438b8c50ca14f834b02b1883a50c70627ef1af8d6f7249608343d9437ed99d4b
      ++ beBytes 32 0x438b8c50ca14f834b02b1883a50c70627ef1af8d6f7249608343d9437ed99d4b)) : List (Nat × Byte)).map (fun p => (base + p.1, p.2))

/-- The OTP words that hold the hash of its key (R647). -/
def goodKey : Tab (Option Word) := ((upTo 8).map (10 + ·)).zip ([0x65bac7cb, 0xb8fa46d5, 0x13cd7929, 0x14f43f70, 0xfaef35b, 0xc151f6c2, 0xce9c9380, 0xc89b31c4].map some)

/-- A pair node with the link in lock. -/
def pr (l : List (Field × Nat)) (p : PairState := {}) : Node := { nd ((PAIR_CTRL.EN, 1) :: l) with pair := { p with locked := true } }

/-- A good frame of the pair link. -/
def pf (type seq : Nat) (payload : List Byte) : PairRx := ⟨pairFrame type seq 0 false payload⟩

/-- Node number 1 among two nodes of handles 0 and 1, with the given line state. -/
def ln (l : List (Field × Nat)) (x : LineState := {}) : Node :=
  { nd ([(LINE_CTRL.EN 0, 1), (LINE_CTRL.EN 1, 1), (BAR_STATUS.NODE, 1), (⟨0x40010400, 0, 8⟩, 0), (⟨0x40010400, 8, 8⟩, 1)] ++ l) with line := x }

/-- The pilot field of node `k` in an epoch (R51). -/
def pilotOf (k epoch : Nat) : BitVec 32 := BitVec.ofNat 32 (k + 256 * epoch + 16777216 * pilotCrc (k + 256 * epoch))

/-- A directory record. -/
def dirRec (num uid : Nat) (lead : Bool := false) : DirRec := ⟨num, num, num, false, 0, false, false, lead, false, 0, 0, 0, uid⟩

/-- A contention frame under the join key of a node whose OTP is blank (R122, R152). -/
def cf (type uid cyc role prio : Nat) (spec : List Byte) (att cell : Fin 4 := 0) (comb : Int := 0) : ContRx :=
  let head := leBytes 1 type ++ [1] ++ leBytes 8 uid ++ leBytes 4 0 ++ leBytes 4 cyc ++ leBytes 2 role ++ leBytes 1 prio ++ [0]
    ++ (spec ++ List.replicate 22 0).take 22
  let body := head ++ leBytes 4 (crc32 head)
  ⟨att, cell, body ++ tag64 (nd []).joinKey body, comb⟩

/-- The four words of SCH entry `i`. -/
def schF (i w0 w1 w2 w3 : Nat) : List (Field × Nat) :=
  [(⟨0x4001C000 + 16 * i, 0, 32⟩, w0), (⟨0x4001C004 + 16 * i, 0, 32⟩, w1), (⟨0x4001C008 + 16 * i, 0, 32⟩, w2), (⟨0x4001C00C + 16 * i, 0, 32⟩, w3)]

/-- A committed node of composition 9 whose guardian stands with its windows. -/
def com (l : List (Field × Nat)) (b : BarState := {}) : Node :=
  { nd ([(INA_STATUS.STATE, 6), (INA_COMPID.VALUE, 9), (BAR_CTRL.EN, 1), (GRD_STATUS.STATE, 2), (LINE_CTRL.EN 0, 1), (LINE_CTRL.TXEN 0, 1), (LINE_CTRL.RXMODE 0, 1)]
      ++ l) with bar := { b with key := List.replicate 16 7 } }

/-- The first three words of CAN pool entry `i`, as SRAM holds them. -/
def poolMem (i w0 w1 w2 : Nat) : Tab Byte :=
  (((upTo 12).map (poolAddr i + ·)).zip (leBytes 4 w0 ++ leBytes 4 w1 ++ leBytes 4 w2)).filter (·.2 ≠ 0)

/-- Pool entry 1535 belongs to the host on channel 7; its words, the channel's own state and field values. -/
def cn (w0 w1 w2 : Nat) (l : List (Field × Nat) := []) (x : CanChan := {}) : Node :=
  { nd l with mem := poolMem 1535 w0 w1 w2, can := { pool := [(1535, some (7, 8))], chans := [(7, x)] } }

/-- A host-port transaction with its CRC-16 (R597). -/
def tx (b : List Byte) : List Byte := b ++ beBytes 2 (hostCrc b)

/-- Cells of memory from `a` on, zero bytes not listed. -/
def cells (a : Nat) (b : List Byte) : Tab Byte := (((upTo b.length).map (a + ·)).zip b).filter (·.2 ≠ 0)
/-! ### An ill-formed command for each check of `Instr.wf`, refused -/

theorem test_wf_node_number : Instr.wf (.nodeAbsent 0) = false ∧ Instr.wf (.nodeAbsent 129) = false ∧ Instr.wf (.nodeAbsent 128) = true := by decide

theorem test_wf_sch_index : Instr.wf (.slotSend 512) = false ∧ Instr.wf (.slotSend 511) = true := by decide

theorem test_wf_arguments : Instr.wf (.commit (List.replicate 12 0)) = false ∧ Instr.wf (.commit (List.replicate 13 0)) = true := by decide

theorem test_wf_fabric_address : Instr.wf (.registerWrite .host 4294967296 0) = false := by decide

theorem test_wf_unit_type : Instr.wf (.msgAck ⟨1, .a, [0x12]⟩) = false ∧ Instr.wf (.msgAck ⟨1, .a, [0x11]⟩) = true := by decide

theorem test_wf_unit_sender : Instr.wf (.msgAck ⟨0, .a, [0x11]⟩) = false := by decide

theorem test_wf_loading_unit_length : Instr.wf (.loadReq ⟨1, .a, [0x24, 0, 0, 0, 0, 0, 0]⟩) = false := by decide

theorem test_wf_data_unit : Instr.wf (.audioBlock ⟨512, 1, .a, [2]⟩) = false ∧ Instr.wf (.audioBlock ⟨0, 129, .a, [2]⟩) = false
    ∧ Instr.wf (.audioBlock ⟨0, 1, .a, [1]⟩) = false := by decide

theorem test_wf_contention_frame : Instr.wf (.join ⟨0, 0, [0x60], 0⟩) = false
    ∧ Instr.wf (.join ⟨0, 0, 0x61 :: List.replicate 55 0, 0⟩) = false := by decide

theorem test_wf_pair_frame : Instr.wf (.hb ⟨[1]⟩) = false ∧ Instr.wf (.hb ⟨2 :: List.replicate 15 0⟩) = false := by decide

theorem test_wf_beacon : Instr.wf (.beaconReceive ⟨0, List.replicate 119 0, 0, 0⟩) = false := by decide

theorem test_wf_slot : Instr.wf (.slotReceive ⟨0, 512, List.replicate 40 0⟩) = false ∧ Instr.wf (.slotReceive ⟨0, 0, []⟩) = false := by decide

theorem test_wf_pilot : Instr.wf (.pilotReceive ⟨0, 129, 0, [], false, 0, 0, 0⟩) = false ∧ Instr.wf (.pilotReceive ⟨0, 1, 0, [], false, 0, 0, 0⟩) = false := by decide

theorem test_wf_sounding : Instr.wf (.soundingReceive ⟨0, 1, [], 0, 0⟩) = false := by decide

theorem test_wf_rollcall : Instr.wf (.rollcallReceive ⟨.a, [(1024, 0)]⟩) = false := by decide

theorem test_wf_can_frame : Instr.wf (.canFrameReceive 0 ⟨2048, false, false, false, false, false, []⟩) = false
    ∧ Instr.wf (.canFrameReceive 0 ⟨0, false, true, false, false, false, List.replicate 9 0⟩) = false := by decide

theorem test_wf_ethernet_frame : Instr.wf (.ethFrameReceive ⟨.eth0, List.replicate 17 0, 0⟩) = false := by decide

theorem test_wf_datagram_ports : Instr.wf (.mgmtDatagram 0 65536 0 []) = false ∧ Instr.wf (.mgmtDatagram 0 0 65536 []) = false := by decide

theorem test_wf_mac : Instr.wf (.addressAgeing 281474976710656) = false := by decide

/-! ### The standards the spec names: their published check values -/

/-- CRC-32 of "123456789" (the CRC catalogues' check value). -/
theorem test_crc32_check : crc32 [0x31, 0x32, 0x33, 0x34, 0x35, 0x36, 0x37, 0x38, 0x39] = 0xCBF43926 := by decide +kernel

/-- AES-128, the example of FIPS 197, appendix C.1. -/
theorem test_aes128 : aes128 ((upTo 16).map (BitVec.ofNat 8 ·)) ((upTo 16).map (fun i => BitVec.ofNat 8 (17 * i)))
    = [0x69, 0xc4, 0xe0, 0xd8, 0x6a, 0x7b, 0x04, 0x30, 0xd8, 0xcd, 0xb7, 0x80, 0x70, 0xb4, 0xc5, 0x5a] := by decide +kernel

/-- AES-CMAC of the empty message (RFC 4493, example 1). -/
theorem test_cmac : cmac [0x2b, 0x7e, 0x15, 0x16, 0x28, 0xae, 0xd2, 0xa6, 0xab, 0xf7, 0x15, 0x88, 0x09, 0xcf, 0x4f, 0x3c] []
    = [0xbb, 0x1d, 0x69, 0x29, 0xe9, 0x59, 0x37, 0x28, 0x7f, 0xa3, 0x7d, 0x12, 0x9b, 0x75, 0x67, 0x46] := by decide +kernel

/-- SHA-256 of "abc" (FIPS 180-4's example). -/
theorem test_sha256 : be (sha256 [0x61, 0x62, 0x63]) 0 32 = 0xba7816bf8f01cfea414140de5dae2223b00361a396177a9cb410ff61f20015ad := by decide +kernel

/-! ### Galek corners (R382 to R387) -/

/-- What engine 0 holds in g3 after `c`. -/
def g3After (c : Instr) (s : State) : Option Word :=
  match exec c s with
  | .next t => some (t.node.g 0 3)
  | _ => none

/-- Engine 0 with g1 and g2. -/
def two (a b : Word) : State := st (eRun 0 [(1, a), (2, b)])

theorem test_add_wraps : g3After (.add 0 3 1 2) (two 0xFFFFFFFF 2) = some 1 := by decide +kernel

theorem test_sub_order : g3After (.sub 0 3 1 2) (two 5 7) = some 0xFFFFFFFE := by decide +kernel

theorem test_slt_signed : g3After (.slt 0 3 1 2) (two 0xFFFFFFFF 0) = some 1 ∧ g3After (.sltu 0 3 1 2) (two 0xFFFFFFFF 0) = some 0 := by decide +kernel

theorem test_sra_keeps_sign : g3After (.sra 0 3 1 2) (two 0x80000000 4) = some 0xF8000000 := by decide +kernel

theorem test_mulh_signs : g3After (.mulh 0 3 1 2) (two 0xFFFFFFFF 0xFFFFFFFF) = some 0
    ∧ g3After (.mulhu 0 3 1 2) (two 0xFFFFFFFF 0xFFFFFFFF) = some 0xFFFFFFFE := by decide +kernel

theorem test_rem_sign : g3After (.rem 0 3 1 2) (two 0xFFFFFFF9 2) = some 0xFFFFFFFF := by decide +kernel

theorem test_g0_discards : g3After (.add 0 0 1 2) (two 1 2) = some 0 := by decide +kernel

/-- Step A1 reads 0x0648_1100 (R658). -/
theorem test_sys_id : State.reset.node.sysId = 0x06481100 := by decide +kernel

/-! ### Witnesses of the statements on the whole node -/

/-- A node held in reset. -/
def heldNode : Node := { nd [] with boot := { held := true } }

theorem met_ReadsChangeNothing_register : (specOf BAR_CTRL.EN.addr).isSome = true ∧ BAR_CTRL.EN.addr ≠ MSG_HGET.DESC.addr
    ∧ BAR_CTRL.EN.addr ≠ EVR_CLRCHAL_LO.VALUE.addr := by decide +kernel

theorem met_ReadsChangeNothing_descriptor :
    let n : Node := { nd [(MSG_DQ.OWNER 0, 8)] with msg := { queues := [(0, [desc false])] } }
    (specOf MSG_HGET.DESC.addr).isSome = true ∧ n.rd (MSG_DQ.OWNER (n.rd MSG_HQ.QUEUE)) = 8
      ∧ ((n.dq (n.rd MSG_HQ.QUEUE)).filter (·.read)).length < 16
      ∧ ((n.dq (n.rd MSG_HQ.QUEUE)).filter (·.read)).length < (n.dq (n.rd MSG_HQ.QUEUE)).length := by decide +kernel

theorem met_ReadsChangeNothing_challenge : (specOf EVR_CLRCHAL_LO.VALUE.addr).isSome = true
    ∧ (nd []).evr.lockedUntil ≤ (nd []).now := by decide +kernel

theorem met_SnapshotOfAllBases : (st (nd [])).node.running = true := by decide +kernel

theorem met_EmptyQueueIsOnePeriod : (st (nd [])).pending = [] ∧ (st (nd [])).node.running = true
    ∧ (st heldNode).pending = [] ∧ (st heldNode).node.running = false
    ∧ 1000000000 ≤ ({ heldNode with lull := { rtcNs := 999999998 } } : Node).lull.rtcNs + 2 := by decide +kernel

theorem met_HeldNodeKeepsStill : HeldAs heldNode ⟨heldNode, [.beaconMiss]⟩ ∧ step ⟨heldNode, [.beaconMiss]⟩ = .next ⟨heldNode, []⟩ :=
  ⟨⟨rfl, by decide, fun _ _ => rfl, rfl⟩, rfl⟩

theorem met_ResetsHoldTheNode : (∀ x, x ∈ [Instr.beaconMiss] → Instr.actsHeld x = false) ∧ State.reset.node.lull.asleep = false
    ∧ State.reset.node.running = true := by decide +kernel

/-! ### Witnesses of the statements on the units, in the order of the statements -/

namespace MetRegisterInstructions

theorem met_RegisterInstructions_0 :
    (let s : State := st (eRun 3 [(1, 0x80000000), (2, 0xFFFFFFFF)])
     let e : Fin 8 := 3
     let rb : Reg := 2
     let b := s.node.g e rb
     (Fetches s.node e)
      ∧ (Fetches s.node e ∧ b ≠ 0)) := by decide +kernel

end MetRegisterInstructions

namespace MetLoadsAndStores

theorem met_LoadsAndStores_0 :
    (let s : State := st { eRun 3 [(1, 0x20200010), (2, 0x89ABCDEF)] [(ENG0_DPAGE.HELD0 0, 1), (ENG0_DPAGE.OWNER0 0, 3)] with mem := [(0x20200010, 0x81), (0x20200011, 0x92), (0x20200013, 0xF4)] }
     let e : Fin 8 := 3
     let ra : Reg := 1
     let imm : BitVec 16 := 0
     let a := (s.node.g e ra + imm.signExtend 32).toNat
     (Fetches s.node e ∧ isSram a = true ∧ a % 2 = 0 ∧ s.node.uceIn a 2 = false)
      ∧ (Fetches s.node e ∧ isSram a = true ∧ a % 4 = 0 ∧ s.node.uceIn a 4 = false)
      ∧ (Fetches s.node e ∧ s.node.sramMay (.eng e) a 2 = true ∧ a % 2 = 0 ∧ s.node.uceIn a 2 = false)
      ∧ (Fetches s.node e ∧ s.node.sramMay (.eng e) a 4 = true ∧ a % 4 = 0 ∧ s.node.uceIn a 4 = false)) := by decide +kernel

theorem met_LoadsAndStores_1 :
    (let s : State := st { eRun 3 [(1, 0x20200FFE), (2, 0x89ABCDEF)] [(ENG0_DPAGE.HELD0 0, 1), (ENG0_DPAGE.OWNER0 0, 3)] with mem := [(0x20200FFF, 0x92)] }
     let e : Fin 8 := 3
     let ra : Reg := 1
     let imm : BitVec 16 := 1
     let a := (s.node.g e ra + imm.signExtend 32).toNat
     (Fetches s.node e ∧ isSram a = true ∧ s.node.uceIn a 1 = false)
      ∧ (Fetches s.node e ∧ s.node.sramMay (.eng e) a 1 = true ∧ s.node.uceIn a 1 = false)) := by decide +kernel

theorem met_LoadsAndStores_2 :
    (let s : State := st (eRun 7 [(1, 0x400100C4)] [(LINE_CTRL.EN 0, 1)])
     let e : Fin 8 := 7
     let ra : Reg := 1
     let imm : BitVec 16 := 0xFF3C
     let a := (s.node.g e ra + imm.signExtend 32).toNat
     Fetches s.node e ∧ isReg a = true ∧ inBlock a = true ∧ (specOf a).isSome = true ∧ a % 4 = 0 ∧ a ≠ MSG_HGET.DESC.addr ∧ a ≠ EVR_CLRCHAL_LO.VALUE.addr) := by decide +kernel

end MetLoadsAndStores

namespace MetControlFlow

theorem met_ControlFlow_0 :
    (let s : State := st { nd [(ENG_STATUS.STATE 7, 1)] with eng := [(7, { g := [(1, 0x000FFFFC), (2, 5)], pc := 0xFFFFC })] }
     let e : Fin 8 := 7
     let ra : Reg := 1
     let t := s.node.g e ra
     (Fetches s.node e)
      ∧ (Fetches s.node e ∧ t.toNat ≤ 0xFFFFF ∧ t.toNat % 4 = 0)) := by decide +kernel

end MetControlFlow

namespace MetProcessImage

theorem met_ProcessImage_0 :
    (let s : State := st { eRun 2 [(1, 100), (2, 0xABCD)] [(SIG_VIEWA.FIRST 2, 100), (SIG_VIEWB.COUNT 2, 1), (SIG_VIEWC.DEST 2, 4)] with mem := [(0x20200020, 7), (0x20200024, 9)] }
     let e : Fin 8 := 2
     let rd : Reg := 1
     let ra : Reg := 1
     let imm : BitVec 16 := 0
     let i := (s.node.g e ra + imm.setWidth 32).toNat
     let first := s.node.rd (SIG_VIEWA.FIRST e)
     let entry := 0x20200000 + 8 * s.node.rd (SIG_VIEWC.DEST e) + 8 * (i - first)
     (Fetches s.node e ∧ s.node.rd (SIG_VIEWB.COUNT e) ≠ 0 ∧ s.node.on (SIG_VIEWD.VIEWERR e) = false ∧ first ≤ i ∧ i < first + s.node.rd (SIG_VIEWB.COUNT e) ∧ s.node.uceIn entry 4 = false)
      ∧ (Fetches s.node e ∧ s.node.rd (SIG_VIEWB.COUNT e) ≠ 0 ∧ s.node.on (SIG_VIEWD.VIEWERR e) = false ∧ first ≤ i ∧ i < first + s.node.rd (SIG_VIEWB.COUNT e) ∧ s.node.uceIn (entry + 4) 4 = false)) := by decide +kernel

theorem met_ProcessImage_1 :
    (let s : State := st { nd [(ENG_STATUS.STATE 2, 1), (SIG_PUBW0.VALID 255, 1), (SIG_PUBW1.INDEX 255, 100), (SIG_PUBW1.COUNT 255, 50), (SIG_PUBW2.OWNER 255, 2)] with eng := [(2, { g := [(1, 100), (2, 0xABCD)], shadow := [(101, 3), (149, 8)] })] }
     let e : Fin 8 := 2
     let ra : Reg := 1
     let imm : BitVec 16 := 49
     let i := (s.node.g e ra + imm.setWidth 32).toNat
     let old := (s.node.engRun e).shadow
     Fetches s.node e ∧ i ≤ 65535 ∧ s.node.ownsEntry e i = true ∧ ((old.length < 2048 ∨ old.any (fun p => p.1 = i) = true))) := by decide +kernel

end MetProcessImage

namespace MetTimersCountersEdges

def cellSt (k : Nat) (kind inn start : Nat) (now : Nat) (a b : Word) (val : Nat := 0) : State := st { nd [(ENG_STATUS.STATE 1, 1), (TMR_TW0.HELD k, 1), (TMR_TW0.OWNER k, 1), (TMR_TW0.KIND k, kind), (TMR_TW0.IN k, inn), (TMR_TW2.VALUE k, val), (TMR_EW.HELD 8191, 1), (TMR_EW.OWNER 8191, 1), (TMR_EW.PREV 8191, inn)] with eng := [(1, { g := [(1, a), (2, b)] })], cellStart := if start = 0 then [] else [(k, start)], time := { now := now } }

theorem met_TimersCountersEdges_1 :
    (let s : State := cellSt 4095 1 1 4991 5000000 1 20
     let e : Fin 8 := 1
     let rd : Reg := 1
     let cell : BitVec 12 := 4095
     let edge : BitVec 13 := 8191
     let k := cell.toNat
     let kind := s.node.rd (TMR_TW0.KIND k)
     (Fetches s.node e ∧ s.node.timerOwner k = some e.val ∧ (kind = 0 ∨ kind = 1))
      ∧ (Fetches s.node e ∧ s.node.timerOwner k = some e.val)
      ∧ (Fetches s.node e ∧ s.node.edgeOwner edge.toNat = some e.val)) := by decide +kernel

theorem met_TimersCountersEdges_5 :
    (let s : State := cellSt 0 2 1 0 5000000 1 7
     let e : Fin 8 := 1
     let rd : Reg := 1
     let cell : BitVec 12 := 0
     let k := cell.toNat
     let kind := s.node.rd (TMR_TW0.KIND k)
     Fetches s.node e ∧ s.node.timerOwner k = some e.val ∧ (kind = 0 ∨ kind = 2)) := by decide +kernel

theorem met_TimersCountersEdges_11 :
    (let s : State := cellSt 0 3 0 0 5000000 1 7 3
     let e : Fin 8 := 1
     let rd : Reg := 4
     let cell : BitVec 12 := 0
     let k := cell.toNat
     let kind := s.node.rd (TMR_TW0.KIND k)
     Fetches s.node e ∧ s.node.timerOwner k = some e.val ∧ (kind = 0 ∨ kind = 3)) := by decide +kernel

theorem met_TimersCountersEdges_17 :
    (let s : State := cellSt 0 4 0 0 5000000 1 7 6
     let e : Fin 8 := 1
     let rd : Reg := 4
     let cell : BitVec 12 := 0
     let k := cell.toNat
     let kind := s.node.rd (TMR_TW0.KIND k)
     Fetches s.node e ∧ s.node.timerOwner k = some e.val ∧ (kind = 0 ∨ kind = 4)) := by decide +kernel

theorem met_TimersCountersEdges_20 :
    (let s : State := cellSt 0 5 0 0 5000000 1 7 1
     let e : Fin 8 := 1
     let rd : Reg := 4
     let cell : BitVec 12 := 0
     let k := cell.toNat
     let kind := s.node.rd (TMR_TW0.KIND k)
     Fetches s.node e ∧ s.node.timerOwner k = some e.val ∧ (kind = 0 ∨ kind = 5)) := by decide +kernel

end MetTimersCountersEdges

namespace MetSubmission

def subNode (blk : List (Nat × Byte)) (l : List (Field × Nat) := []) : Node := { eRun 0 [(1, 0x20200000)] (l ++ [(MSG_CTRL.EN, 1), (MSG_CTRL.PERSIST, 1), (QSPI_STATUS.READY 1, 1), (MSG_OFW0.DKIND 255, 1), (MSG_OFW4.NEXTSEQ 255, 0xFFFFFFFF)]) with mem := blk }

theorem met_Submission_1 :
    (let s : State := st (subNode [(0x20200000, 255), (0x20200002, 1), (0x20200005, 1), (0x20200006, 0x20), (0x20200007, 0x20)])
     let e : Fin 8 := 0
     let ra : Reg := 1
     let n := s.node
     let a := (n.g e ra).toNat
     let w := fun (i : Nat) => n.memLe (a + 4 * i) 4
     let f := w 0 % 256
     let len := w 0 / 65536 % 8192
     let code := n.submitCode e f len (w 2 % 134217728) (w 3)
     Fetches s.node e ∧ a % 4 = 0 ∧ inBuffers a 16 = true ∧ n.uceIn a 16 = false ∧ n.uceIn (w 1) len = false ∧ ((len = 0 ∨ 4096 < len ∨ inBuffers (w 1) len = true)) ∧ code = 0) := by decide +kernel

theorem met_Submission_2 :
    (let s : State := st (subNode [(0x20200000, 255), (0x20200002, 0), (0x20200007, 0x20)])
     let e : Fin 8 := 0
     let ra : Reg := 1
     let n := s.node
     let a := (n.g e ra).toNat
     let w := fun (i : Nat) => n.memLe (a + 4 * i) 4
     let f := w 0 % 256
     let len := w 0 / 65536 % 8192
     let code := n.submitCode e f len (w 2 % 134217728) (w 3)
     Fetches s.node e ∧ a % 4 = 0 ∧ inBuffers a 16 = true ∧ n.uceIn a 16 = false ∧ n.uceIn (w 1) len = false ∧ ((len = 0 ∨ 4096 < len ∨ inBuffers (w 1) len = true)) ∧ code ≠ 0) := by decide +kernel

end MetSubmission

namespace MetQueueInstructions

def qNode (ds : List Desc) (e : Nat) : Node := { eRun 5 [(1, 255), (2, 7)] [(MSG_DQ.OWNER 15, e), (MSG_DQ.READ 15, (ds.filter (·.read)).length), (MSG_DQ.DEPTH 15, ds.length), (MSG_OFW0.DKIND 255, 1), (MSG_OFW0.OWNER 255, e)] with msg := { queues := [(15, ds)], out := [(255, [outMsg 7 64])] } }

theorem met_QueueInstructions_0 :
    (let s : State := st (qNode [desc true] 5)
     let e : Fin 8 := 5
     let rd : Reg := 3
     let ra : Reg := 1
     let rb : Reg := 2
     let q : Fin 16 := 15
     let x : OutMsg := outMsg 7 64
     let n := s.node
     let l := n.dq q
     let read := (l.filter (·.read)).length
     let given := (n.msg.qacks.filter (fun x => x = (e.val, q.val))).length
     let f := (n.g e ra).toNat % 256
     let seq := (n.g e rb).toNat
     let kind := n.rd (MSG_OFW0.DKIND f)
     (Fetches s.node e ∧ n.rd (MSG_DQ.OWNER q) = e.val ∧ (16 ≤ read ∨ l.length ≤ read))
      ∧ (Fetches s.node e ∧ n.rd (MSG_DQ.OWNER q) = e.val ∧ given < n.rd (MSG_DQ.READ q))
      ∧ (Fetches s.node e ∧ (kind = 1 ∨ kind = 2) ∧ n.rd (MSG_OFW0.OWNER f) = e.val ∧ ((n.outMsgs f).find? (fun m => m.seq = seq && m.accepted && !m.reported) = some x) ∧ x.killing = false ∧ x.transmitted = true ∧ x.held = 0 ∧ x.delivered = 0 ∧ memberBits (n.members f) ≠ 0)) := by decide +kernel

theorem met_QueueInstructions_1 :
    (let s : State := st (qNode (desc false :: List.replicate 15 (desc true)) 5)
     let e : Fin 8 := 5
     let rd : Reg := 3
     let ra : Reg := 1
     let rb : Reg := 1
     let q : Fin 16 := 15
     let n := s.node
     let l := n.dq q
     let read := (l.filter (·.read)).length
     let f := (n.g e ra).toNat % 256
     let seq := (n.g e rb).toNat
     let kind := n.rd (MSG_OFW0.DKIND f)
     (Fetches s.node e ∧ n.rd (MSG_DQ.OWNER q) = e.val ∧ read < 16 ∧ read < l.length)
      ∧ (Fetches s.node e ∧ (kind = 1 ∨ kind = 2) ∧ n.rd (MSG_OFW0.OWNER f) = e.val ∧ ((n.outMsgs f).find? (fun m => m.seq = seq && m.accepted && !m.reported) = none))) := by decide +kernel

theorem met_QueueInstructions_2 :
    (let s : State := st (qNode [] 5)
     let e : Fin 8 := 5
     let rd : Reg := 3
     let q : Fin 16 := 15
     let n := s.node
     let given := (n.msg.qacks.filter (fun x => x = (e.val, q.val))).length
     Fetches s.node e ∧ n.rd (MSG_DQ.OWNER q) = e.val ∧ n.rd (MSG_DQ.READ q) ≤ given) := by decide +kernel

theorem met_QueueInstructions_4 :
    (let s : State := st (qNode (List.replicate 15 (desc true) ++ [desc false]) 8)
     let e : Fin 8 := 5
     let rd : Reg := 0
     let ra : Reg := 1
     let n := s.node
     let f := (n.g e ra).toNat % 256
     let kind := n.rd (MSG_OFW0.DKIND f)
     Fetches s.node e ∧ ((kind ≠ 1 ∧ kind ≠ 2) ∨ n.rd (MSG_OFW0.OWNER f) ≠ e.val)) := by decide +kernel

end MetQueueInstructions

namespace MetTimeAndAudioInstructions

def tln (w v : Word) (l : List Launch) (own : Nat) : State := st { eRun 4 [(1, w), (2, v)] [(TDM_CTRL.OWNER 3, own)] with time := { launches := l } }

theorem met_TimeAndAudioInstructions_0 :
    (let s : State := tln 0x230003 20000 [] 4
     let e : Fin 8 := 4
     let ra : Reg := 1
     let rb : Reg := 2
     let n := s.node
     let w := (n.g e ra).toNat
     let v := n.g e rb
     let l : Launch := ⟨w / 1048576 % 4, v, w / 65536 % 16, w % 65536, e, false, false⟩
     (Fetches s.node e)
      ∧ (Fetches s.node e ∧ n.holdsTarget e l.kind l.index = true ∧ n.time.launches.length < 256 ∧ 20000 ≤ n.ahead l)
      ∧ (Fetches s.node e ∧ w % 512 < 384)) := by decide +kernel

theorem met_TimeAndAudioInstructions_2 :
    (let s : State := tln 0x230003 20000 (List.replicate 256 ⟨0, 90000, 3, 0, 1, false, false⟩) 4
     let e : Fin 8 := 4
     let ra : Reg := 1
     let rb : Reg := 2
     let n := s.node
     let w := (n.g e ra).toNat
     let v := n.g e rb
     let l : Launch := ⟨w / 1048576 % 4, v, w / 65536 % 16, w % 65536, e, false, false⟩
     Fetches s.node e ∧ n.holdsTarget e l.kind l.index = true ∧ 256 ≤ n.time.launches.length) := by decide +kernel

theorem met_TimeAndAudioInstructions_3 :
    (let s : State := tln 0x23017F 20000 [] 3
     let e : Fin 8 := 4
     let ra : Reg := 1
     let rb : Reg := 2
     let n := s.node
     let w := (n.g e ra).toNat
     let v := n.g e rb
     let l : Launch := ⟨w / 1048576 % 4, v, w / 65536 % 16, w % 65536, e, false, false⟩
     Fetches s.node e ∧ n.holdsTarget e l.kind l.index = false) := by decide +kernel

theorem met_TimeAndAudioInstructions_4 :
    (let s : State := tln 0x230180 20000 [] 3
     let e : Fin 8 := 4
     let ra : Reg := 1
     let n := s.node
     let w := (n.g e ra).toNat
     Fetches s.node e ∧ 384 ≤ w % 512) := by decide +kernel

end MetTimeAndAudioInstructions

namespace MetSystemInstructions

def sysN (l : List (Field × Nat)) (ev : EvrState := {}) : Node := { eRun 6 [(1, 0x202FFFF0), (2, 16)] l with mem := [(0x202FFFF0, 0xA5)], evr := ev }

theorem met_SystemInstructions_0 :
    (let s : State := st (sysN [(ENG_STATUS.STOPPEND 6, 1)])
     let e : Fin 8 := 6
     let rd : Reg := 3
     let ra : Reg := 1
     let rb : Reg := 2
     let trigger : Fin 64 := 63
     let n := s.node
     let a := (n.g e ra).toNat
     let len := (n.g e rb).toNat
     (Fetches s.node e ∧ len ≠ 0 ∧ oneRegion a len = true ∧ n.uceIn a len = false)
      ∧ (Fetches s.node e ∧ n.pexArmed = false)
      ∧ (Fetches s.node e ∧ (n.on (EVR_TW0.EN trigger) = false ∨ n.rd (EVR_TW0.KIND trigger) ≠ 2))) := by decide +kernel

theorem met_SystemInstructions_1 :
    (let s : State := st (sysN [(EVR_TW0.EN 63, 1), (EVR_TW0.KIND 63, 2)])
     let e : Fin 8 := 6
     let rd : Reg := 1
     let trigger : Fin 64 := 63
     let n := s.node
     Fetches s.node e ∧ n.on (EVR_TW0.EN trigger) = true ∧ n.rd (EVR_TW0.KIND trigger) = 2 ∧ n.rd EVR_STATUS.STATE = 0) := by decide +kernel

theorem met_SystemInstructions_3 :
    (let s : State := st (sysN [(EVR_TW0.EN 63, 1), (EVR_TW0.KIND 63, 2), (EVR_STATUS.STATE, 2), (EVR_CTRL.EN, 1), (EVR_SEQ_LO.VALUE, 0xFFFFFFFF), (EVR_SEQ_HI.VALUE, 0xFFFFFFFE), (PEX_STATUS.STATE, 5), (PEX_GROUP.GROUP, 0x40)])
     let e : Fin 8 := 6
     let rd : Reg := 1
     let rb : Reg := 3
     let trigger : Fin 64 := 63
     let n := s.node
     let len := (n.g e rb).toNat
     (Fetches s.node e)
      ∧ (Fetches s.node e ∧ len = 0)
      ∧ (Fetches s.node e ∧ n.on (EVR_TW0.EN trigger) = true ∧ n.rd (EVR_TW0.KIND trigger) = 2 ∧ n.rd EVR_STATUS.STATE = 2 ∧ n.evr.held = false ∧ (Tab.get (fun _ => 0) n.evr.lastFired trigger.val = 0) ∧ n.evr.lossCount = 0 ∧ n.on (EVR_TW0.FLUSH trigger) = false ∧ stagedBytes n.evr.unflushed + 1024 ≤ 49152 ∧ n.evr.unflushed.length < 700 ∧ n.evrSeq + 1 < 18446744073709551616)) := by decide +kernel

end MetSystemInstructions

namespace MetGustRequestsAndReturns

def gustN (l : List (Field × Nat)) (q : List Nat := []) (g : List (Nat × Word) := []) : Node := { eRun 1 g (l ++ [(PWR_CLASS.EN 5, 1), (PWR_CLASS.COST 5, 100), (PWR_CLASS.COST 7, 20)]) with pwr := { queue := q } }

theorem met_GustRequestsAndReturns_0 :
    (let s : State := st (gustN [(PWR_BUDGET.BUDGET, 119)])
     let e : Fin 8 := 1
     let cls : BitVec 8 := 6
     let v : Word := 0x80000006
     let n := s.node
     let c := cls.toNat
     (Fetches n e ∧ n.gustRefused c = true)
      ∧ (n.running = true ∧ v.getLsbD 31 = true ∧ v.toNat % 256 = c ∧ n.gustRefused c = true)) := by decide +kernel

theorem met_GustRequestsAndReturns_1 :
    (let s : State := st (gustN [(PWR_BUDGET.BUDGET, 120)])
     let e : Fin 8 := 1
     let rd : Reg := 3
     let cls : BitVec 8 := 6
     let v : Word := 0x80000006
     let h : Nat := 1
     let n := s.node
     let c := cls.toNat
     let fits := n.rd PWR_BUDGET.GRANTED + n.rd (PWR_CLASS.COST (c - 1)) ≤ n.rd PWR_BUDGET.BUDGET
     (Fetches n e ∧ n.gustRefused c = false ∧ n.freeHandle = some h ∧ n.pwr.queue = [] ∧ fits)
      ∧ (n.running = true ∧ v.getLsbD 31 = true ∧ v.toNat % 256 = c ∧ n.gustRefused c = false ∧ n.freeHandle = some h ∧ n.pwr.queue = [] ∧ fits)) := by decide +kernel

theorem met_GustRequestsAndReturns_2 :
    (let s : State := st (gustN [(PWR_BUDGET.BUDGET, 120), (PWR_BUDGET.GRANTED, 21), (PWR_CLASS.POLICY 5, 1)])
     let e : Fin 8 := 1
     let rd : Reg := 0
     let cls : BitVec 8 := 6
     let v : Word := 0x80000006
     let h : Nat := 1
     let n := s.node
     let c := cls.toNat
     let fits := n.rd PWR_BUDGET.GRANTED + n.rd (PWR_CLASS.COST (c - 1)) ≤ n.rd PWR_BUDGET.BUDGET
     (Fetches n e ∧ n.gustRefused c = false ∧ n.freeHandle = some h ∧ (n.pwr.queue ≠ [] ∨ ¬ fits) ∧ n.on (PWR_CLASS.POLICY (c - 1)) = true ∧ n.pwr.queue.length < 32)
      ∧ (n.running = true ∧ v.getLsbD 31 = true ∧ v.toNat % 256 = c ∧ n.gustRefused c = false ∧ n.freeHandle = some h ∧ (n.pwr.queue ≠ [] ∨ ¬ fits) ∧ n.on (PWR_CLASS.POLICY (c - 1)) = true ∧ n.pwr.queue.length < 32)) := by decide +kernel

theorem met_GustRequestsAndReturns_4 :
    (let s : State := st (gustN [(PWR_BUDGET.BUDGET, 500), (PWR_BUDGET.GRANTED, 130), (PWR_GH.STATE 254, 1), (PWR_GH.CLASS 254, 6), (PWR_GH.OWNER 254, 1)] [] [(1, 254)])
     let e : Fin 8 := 1
     let rd : Reg := 0
     let ra : Reg := 1
     let v : Word := 254
     let h : Fin 255 := 254
     let n := s.node
     let st := n.rd (PWR_GH.STATE h)
     (Fetches n e ∧ (n.g e ra).toNat % 256 = h ∧ h.val ≠ 0 ∧ st ≠ 0 ∧ n.rd (PWR_GH.OWNER h) = e)
      ∧ (n.running = true ∧ v.toNat % 256 = h ∧ (h.val = 0 ∨ st = 0 ∨ n.rd (PWR_GH.OWNER h) ≠ 8))) := by decide +kernel

theorem met_GustRequestsAndReturns_5 :
    (let s : State := st (gustN [(PWR_BUDGET.BUDGET, 500), (PWR_BUDGET.GRANTED, 130), (PWR_GH.STATE 254, 2), (PWR_GH.CLASS 254, 6), (PWR_GH.OWNER 254, 8)] [3, 254] [(1, 0x1FE)])
     let e : Fin 8 := 1
     let rd : Reg := 0
     let ra : Reg := 1
     let v : Word := 254
     let h : Fin 255 := 254
     let n := s.node
     let st := n.rd (PWR_GH.STATE h)
     (Fetches n e ∧ (n.g e ra).toNat % 256 = h ∧ (h.val = 0 ∨ st = 0 ∨ n.rd (PWR_GH.OWNER h) ≠ e))
      ∧ (n.running = true ∧ v.toNat % 256 = h ∧ h.val ≠ 0 ∧ st ≠ 0 ∧ n.rd (PWR_GH.OWNER h) = 8)) := by decide +kernel

end MetGustRequestsAndReturns

namespace MetGustGovernor

def govN (l : List (Field × Nat)) (q : List Nat := []) : Node := { nd (l ++ [(PWR_CLASS.COST 5, 100), (PWR_CLASS.COST 7, 20), (PWR_GH.CLASS 254, 6)]) with pwr := { queue := q } }

theorem met_GustGovernor_0 :
    (let s : State := st (govN [(PWR_BUDGET.BUDGET, 120), (PWR_BUDGET.GRANTED, 20), (PWR_GH.STATE 254, 2), (PWR_STATUS.QUEUED, 1)] [254])
     let h : Fin 255 := 254
     let n := s.node
     let c := n.rd (PWR_GH.CLASS h)
     let cost := n.rd (PWR_CLASS.COST (c - 1))
     (s.node.running = true ∧ n.pwr.queue = [h.val] ∧ n.rd PWR_STATUS.STATE = 0 ∧ n.rd PWR_BUDGET.GRANTED + cost ≤ n.rd PWR_BUDGET.BUDGET ∧ n.rd (PWR_CLASS.COST 7) + cost ≤ n.rd PWR_BUDGET.BUDGET)
      ∧ (s.node.running = true)) := by decide +kernel

theorem met_GustGovernor_1 :
    (let s : State := st (govN [(PWR_BUDGET.BUDGET, 119), (PWR_BUDGET.GRANTED, 20), (PWR_GH.STATE 254, 2), (PWR_CTRL.LOCK, 1)] [254, 7])
     let h : Fin 255 := 254
     let rest : List Nat := [7]
     let n := s.node
     let c := n.rd (PWR_GH.CLASS h)
     let cost := n.rd (PWR_CLASS.COST (c - 1))
     s.node.running = true ∧ n.pwr.queue = h.val :: rest ∧ n.rd PWR_BUDGET.BUDGET < n.rd PWR_BUDGET.GRANTED + cost) := by decide +kernel

theorem met_GustGovernor_2 :
    (let s : State := st (govN [(PWR_BUDGET.BUDGET, 119), (PWR_BUDGET.GRANTED, 119), (PWR_GH.STATE 254, 1), (PWR_CLASS.MAXHOLD 5, 1)] [])
     let h : Fin 255 := 254
     let n := s.node
     let c := n.rd (PWR_GH.CLASS h)
     s.node.running = true ∧ n.rd (PWR_GH.STATE h) = 1 ∧ 1 ≤ c ∧ c ≤ 6 ∧ n.rd (PWR_CLASS.MAXHOLD (c - 1)) ≠ 0) := by decide +kernel

end MetGustGovernor

namespace MetSupplyMonitor

theorem met_SupplyMonitor_0 :
    (let s : State := st (nd [])
     let v : Word := 0x0000050A
     let n := s.node
     let warn := min 40 (v.toNat % 64)
     let reset := min 40 (v.toNat / 256 % 64)
     (n.running = true ∧ n.on PWR_CTRL.LOCK = false ∧ reset + 5 ≤ warn)
      ∧ (n.running = true)
      ∧ (n.boot.held = false ∧ n.rd PWR_STATUS.STATE ≠ 1)) := by decide +kernel

theorem met_SupplyMonitor_1 :
    (let s : State := st (nd [])
     let v : Word := 0xFFFF3F3F
     let n := s.node
     let warn := min 40 (v.toNat % 64)
     let reset := min 40 (v.toNat / 256 % 64)
     n.running = true ∧ n.on PWR_CTRL.LOCK = false ∧ warn < reset + 5) := by decide +kernel

theorem met_SupplyMonitor_2 :
    (let s : State := st (nd [(PWR_CTRL.LOCK, 1), (PWR_STATUS.STATE, 1)])
     let n := s.node
     (n.running = true ∧ n.on PWR_CTRL.LOCK = true)
      ∧ (n.boot.held = false ∧ n.rd PWR_STATUS.STATE = 1)) := by decide +kernel

theorem met_SupplyMonitor_3 :
    (let s : State := st { nd [(PWR_STATUS.STATE, 2), (PWR_STATUS.SHED, 1), (PWR_STATUS.FLUSHING, 1), (MSG_STATUS.POWERHOLD, 1)] with pwr := { dipStart := some 4000, riseAt := 17000 } }
     let n := s.node
     (n.boot.held = false ∧ n.rd PWR_STATUS.STATE = 2)
      ∧ (n.running = true ∧ n.on PWR_STATUS.FLUSHING = true)) := by decide +kernel

end MetSupplyMonitor

namespace MetResetLeaves

theorem met_ResetLeaves_0 :
    (let s : State := st { nd [(AON_WTIME.VALUE, 7), (LINE_CTRL.EN 0, 1)] with mem := [(0x20200000, 1)], qper := [(5, 1)] }
     let ns : Nat := 1000
     let detectors : BitVec 7 := 64
     let by_ : Initiator := .agent
     let n := s.node
     (n.lull.asleep = false ∧ detectors ≠ 0)
      ∧ (n.lull.asleep = false ∧ 1000 ≤ ns)
      ∧ (n.lull.asleep = false)
      ∧ (n.running = true ∧ (by_ = .host ∨ by_ = .agent))) := by decide +kernel

theorem met_ResetLeaves_1 :
    (let s : State := st { nd [(AON_WTIME.VALUE, 7), (LINE_CTRL.EN 0, 1)] with mem := [(0x20200000, 1)], lull := { ring := some ⟨1, 2, 3, none, []⟩ } }
     let by_ : Initiator := .eng 3
     let n := s.node
     n.running = true ∧ by_ ≠ .host ∧ by_ ≠ .agent) := by decide +kernel

end MetResetLeaves

namespace MetHostBoot

def bootIn : BootInput := { boot1 := true, boot0 := false, pairRole := false, bootSize := none, perSize := none, bistCorr := 3, bistBad := none, romUce := false, loadUce := false, otpCorr := 0 }

theorem met_HostBoot_0 :
    (let s : State := st { nd [] with boot := { held := true, sources := [0] }, otp := [(0, some 7)] }
     let b : BootInput := bootIn
     let n := s.node
     n.boot.held = true ∧ n.lull.asleep = false ∧ n.boot.shortHold = false ∧ n.qspi = {} ∧ b.boot1 = true ∧ b.boot0 = false ∧ b.bootSize = none ∧ b.perSize = none ∧ b.romUce = false ∧ b.bistBad = none) := by decide +kernel

theorem met_HostBoot_2 :
    (let s : State := st (nd [(SYS_STATUS.HOSTWAIT, 1)])
     let n := s.node
     let code := n.checkImage n.bankBase 1048576 false
     n.running = true ∧ n.on SYS_STATUS.HOSTWAIT = true ∧ code ≠ 0) := by decide +kernel

theorem met_HostBoot_3 :
    (let s : State := st { nd [(SYS_STATUS.HOSTWAIT, 1), (OTP_LOCK.KEYHASH, 1)] with mem := goodImage 0x20000000, otp := goodKey }
     let n := s.node
     let code := n.checkImage n.bankBase 1048576 false
     n.running = true ∧ n.on SYS_STATUS.HOSTWAIT = true ∧ code = 0) := by decide +kernel

end MetHostBoot

namespace MetOtpAndPlls

theorem met_OtpAndPlls_0 :
    (let s : State := st (nd [(OTP_PADDR.WORD, 2), (CLK_CNT_SYSUNLOCK.VALUE, 0xFFFFFFFF)])
     let n := s.node
     let w := n.rd OTP_PADDR.WORD
     n.running = true ∧ n.on OTP_STATUS.BUSY = false ∧ n.otpRefused w = false) := by decide +kernel

theorem met_OtpAndPlls_1 :
    (let s : State := st { nd [(OTP_PADDR.WORD, 1), (OTP_LOCK.ALL, 1)] with otp := [(1, some 4)] }
     let n := s.node
     let w := n.rd OTP_PADDR.WORD
     (n.running = true ∧ n.on OTP_STATUS.BUSY = false ∧ n.otpRefused w = true)
      ∧ (n.running = true ∧ n.otpDone w = true)
      ∧ (n.running = true ∧ w ≤ 1)
      ∧ (n.running = true ∧ n.on OTP_LOCK.ALL = true)) := by decide +kernel

theorem met_OtpAndPlls_2 :
    (let s : State := st (nd [(OTP_PADDR.WORD, 127), (OTP_STATUS.BUSY, 1), (OTP_PDATA.DATA, 0xFFFFFFFF), (OTP_STATUS.RESULT, 3)])
     let n := s.node
     (n.running = true ∧ n.on OTP_STATUS.BUSY = true)
      ∧ (n.running = true)) := by decide +kernel

theorem met_OtpAndPlls_3 :
    (let s : State := st { nd [(OTP_PADDR.WORD, 18), (OTP_STATUS.BUSY, 1), (OTP_PDATA.DATA, 0xFFFFFFFF), (OTP_STATUS.RESULT, 3)] with boot := { sysLost := true } }
     let k : Fin 4 := 0
     let n := s.node
     (n.boot.held = false)
      ∧ (n.boot.held = false ∧ k ≠ 1)) := by decide +kernel

end MetOtpAndPlls

namespace MetEngineRuns

theorem met_EngineRuns_0 :
    (let s : State := st { nd [(ENG_STATUS.STATE 7, 6), (ENG_ENTRY.VALUE 7, 0x407), (TMR_TW0.HELD 4095, 1), (TMR_TW0.OWNER 4095, 7), (TMR_TW0.KIND 4095, 2), (TMR_EW.HELD 8191, 1), (TMR_EW.OWNER 8191, 7), (TMR_EW.PREV 8191, 1)] with eng := [(7, { g := [(1, 5)], shadow := [(1, 2)], gpioMask := 3 })], cellStart := [(4095, 9)], time := { now := 77000 } }
     let e : Fin 8 := 7
     let n := s.node
     s.node.running = true ∧ (n.engSt e = 0 ∨ 4 ≤ n.engSt e) ∧ n.rd PEX_STATUS.STATE < 5) := by decide +kernel

theorem met_EngineRuns_2 :
    (let s : State := st (nd [(PEX_STATUS.STATE, 5), (PEX_GROUP.GROUP, 0x7F), (ENG_STATUS.STATE 7, 4)])
     let e : Fin 8 := 7
     let n := s.node
     s.node.running = true ∧ n.rd PEX_STATUS.STATE = 5 ∧ bit (n.rd PEX_GROUP.GROUP) e = false) := by decide +kernel

theorem met_EngineRuns_3 :
    (let s : State := st (nd [(ENG_STATUS.STATE 7, 1)])
     let e : Fin 8 := 7
     let n := s.node
     s.node.running = true ∧ n.engSt e = 1) := by decide +kernel

theorem met_EngineRuns_4 :
    (let s : State := st { nd [(ENG_STATUS.STATE 7, 2), (ENG_MINCYC.VALUE 7, 2), (ENG_ENTRY.VALUE 7, 0x10)] with eng := [(7, { start := some 1000, shadow := [(1, 2)] })], time := { now := 3000 } }
     let e : Fin 8 := 7
     let t : Nat := 1000
     let n := s.node
     let due := t + 1000 * min 1000000 (n.rd (ENG_MINCYC.VALUE e)) ≤ n.now
     (s.node.running = true ∧ n.engSt e = 2)
      ∧ (s.node.running = true ∧ s.node.engSt e = 2 ∧ (s.node.engRun e).start = some t ∧ due ∧ (n.on (ENG_SYNC.WAITIN e) = false ∨ n.seqRuns e = false))) := by decide +kernel

theorem met_EngineRuns_5 :
    (let s : State := st { nd [(ENG_STATUS.STATE 7, 2), (ENG_MINCYC.VALUE 7, 2), (ENG_ENTRY.VALUE 7, 0x10)] with eng := [(7, { start := some 1000 })], time := { now := 2998 } }
     let e : Fin 8 := 7
     let t : Nat := 1000
     let n := s.node
     let due := t + 1000 * min 1000000 (n.rd (ENG_MINCYC.VALUE e)) ≤ n.now
     s.node.running = true ∧ s.node.engSt e = 2 ∧ (s.node.engRun e).start = some t ∧ (¬ due ∨ (n.on (ENG_SYNC.WAITIN e) = true ∧ n.seqRuns e = true))) := by decide +kernel

end MetEngineRuns

namespace MetEngineFaults

theorem met_EngineFaults_0 :
    (let s : State := st { nd [(ENG_STATUS.STATE 7, 1)] with eng := [(7, { pc := 0xFFFFD, shadow := [(1, 2)] })] }
     let e : Fin 8 := 7
     let n := s.node
     (n.pexArmed = false ∧ n.running = true ∧ n.engSt e = 1)
      ∧ (n.pexArmed = false ∧ n.running = true ∧ n.engSt e = 1 ∧ 0xFFFFC < (n.pcOf e).toNat)) := by decide +kernel

theorem met_EngineFaults_1 :
    (let s : State := st { nd [(ENG_STATUS.STATE 7, 1)] with eng := [(7, { pc := 0xFFFFC, g := [(2, 0x20200001)] })] }
     let e : Fin 8 := 7
     let ra : Reg := 2
     let rb : Reg := 0
     let imm : BitVec 16 := 0
     let word : Word := 0x0000000E
     let n := s.node
     let a := (n.g e ra + imm.signExtend 32).toNat
     let i := (n.g e ra + imm.setWidth 32).toNat
     (n.pexArmed = false ∧ Fetches n e ∧ galekLegal word = false)
      ∧ (n.pexArmed = false ∧ Fetches n e ∧ a % 4 ≠ 0)
      ∧ (n.pexArmed = false ∧ Fetches n e ∧ n.viewAddr e i 0 = none)
      ∧ (n.pexArmed = false ∧ Fetches n e ∧ n.ownsEntry e i = false)
      ∧ (n.pexArmed = false ∧ Fetches n e ∧ n.g e rb = 0)) := by decide +kernel

theorem met_EngineFaults_2 :
    (let s : State := st { nd [(ENG_STATUS.STATE 0, 1)] with eng := [(0, { pc := 0, g := [(2, 0x20800000)] })] }
     let e : Fin 8 := 0
     let ra : Reg := 2
     let imm : BitVec 16 := 0
     let n := s.node
     let a := (n.g e ra + imm.signExtend 32).toNat
     n.pexArmed = false ∧ Fetches n e ∧ a % 4 = 0 ∧ isSram a = false ∧ isReg a = false) := by decide +kernel

end MetEngineFaults

namespace MetSyncSequences

def syncSt (p : SyncPhase) : State := st { nd [(ENG_SYNC.CHAN 0, 0x81), (ENG_STATUS.STATE 2, 1)] with can := { chans := [(3, { seq := some ⟨2, 5, p, [], [], false⟩ })] } }

theorem met_SyncSequences_0 :
    (let s : State := syncSt .output
     let c : Fin 8 := 3
     let q : SyncRun := ⟨2, 5, .output, [], [], false⟩
     let n := s.node
     s.node.running = true ∧ (n.chan c).seq = some q ∧ q.phase = .output) := by decide +kernel

theorem met_SyncSequences_1 :
    (let s : State := syncSt .queued
     let c : Fin 8 := 3
     let q : SyncRun := ⟨2, 5, .queued, [], [], false⟩
     let n := s.node
     (s.node.running = true)
      ∧ (s.node.running = true ∧ (n.chan c).seq = some q ∧ q.eng < 8 ∧ (n.chan c).nextRel = none ∧ (q.phase = .output ∨ q.phase = .queued))) := by decide +kernel

theorem met_SyncSequences_2 :
    (let s : State := syncSt .window
     let c : Fin 8 := 3
     let q : SyncRun := ⟨2, 5, .window, [], [], false⟩
     let n := s.node
     s.node.running = true ∧ (n.chan c).seq = some q ∧ q.phase = .window ∧ (n.chan c).nextRel = none) := by decide +kernel

end MetSyncSequences

namespace MetForceTable

theorem met_ForceTable_0 :
    (let s : State := st (nd [(ENG0_FSEL.ENTRY, 255), (ENG0_FW0.EN 3, 1), (ENG0_FSTAT.ACTIVE, 1), (SYS_STATUS.FORCED, 1)])
     s.node.running = true) := by decide +kernel

end MetForceTable

namespace MetAllocation

theorem met_Allocation_0 :
    (let s : State := st (nd [(ENG_QDMEM.QUOTA 7, 1), (ENG_QTMR.QUOTA 7, 1), (ENG_QEDGE.QUOTA 7, 1)])
     s.node.running = true) := by decide +kernel

end MetAllocation

namespace MetExchangeCommands

def flash4 (a : Nat) : Tab Byte := [(a, 0), (a + 1, 0), (a + 2, 0), (a + 3, 0), (a + 8, 12), (a + 9, 0), (a + 10, 0), (a + 11, 0)]

theorem met_ExchangeCommands_0 :
    (let s : State := st { nd [(PEX_LOAD.SRC, 2), (PEX_STATUS.STATE, 4)] with qspi := { sizeB := 1024 } }
     let n := s.node
     let st := n.rd PEX_STATUS.STATE
     let src := n.rd PEX_LOAD.SRC
     let code := if st ≠ 3 then 1 else if n.pex.mapFrom ≠ n.rd64 PEX_ACTHASH_LO.VALUE PEX_ACTHASH_HI.VALUE then 2
      else if (upTo 8).any (fun x => 1 ≤ n.engSt x && n.engSt x ≤ 3 && !bit (n.rd PEX_GROUP.GROUP) x) then 3
      else if n.pex.map.any n.rangeBad then 4 else if 65536 < n.pex.carried + n.pex.initialized then 5
      else if n.pex.patch.isSome then 7 else if n.rd PWR_STATUS.STATE ≠ 0 then 8 else 0
     (s.node.running = true ∧ (st = 0 ∨ st = 3 ∨ st = 4) ∧ src = 2)
      ∧ (s.node.running = true ∧ (n.on PAIR_STATUS.SYNC = false ∨ (1 ≤ code ∧ code ≤ 5)) ∧ code ≠ 0)
      ∧ (s.node.running = true ∧ st ≠ 5 ∧ st ≠ 6)) := by decide +kernel

theorem met_ExchangeCommands_1 :
    (let s : State := st { nd [(PEX_LOAD.SRC, 1), (PEX_STATUS.STATE, 3)] with qspi := { sizeB := 0x100000 }, qboot := flash4 0x80000 }
     let n := s.node
     let st := n.rd PEX_STATUS.STATE
     let src := n.rd PEX_LOAD.SRC
     let code := if st ≠ 3 then 1 else if n.pex.mapFrom ≠ n.rd64 PEX_ACTHASH_LO.VALUE PEX_ACTHASH_HI.VALUE then 2
      else if (upTo 8).any (fun x => 1 ≤ n.engSt x && n.engSt x ≤ 3 && !bit (n.rd PEX_GROUP.GROUP) x) then 3
      else if n.pex.map.any n.rangeBad then 4 else if 65536 < n.pex.carried + n.pex.initialized then 5
      else if n.pex.patch.isSome then 7 else if n.rd PWR_STATUS.STATE ≠ 0 then 8 else 0
     (s.node.running = true ∧ (st = 0 ∨ st = 3 ∨ st = 4) ∧ src ≠ 2)
      ∧ (s.node.running = true ∧ (n.on PAIR_STATUS.SYNC = false ∨ (1 ≤ code ∧ code ≤ 5)) ∧ code = 0)) := by decide +kernel

theorem met_ExchangeCommands_3 :
    (let s : State := st (nd [(PEX_STATUS.STATE, 2), (PEX_STATUS.BANK, 1)])
     let n := s.node
     let st := n.rd PEX_STATUS.STATE
     let found := n.checkImage n.otherBank (if st = 1 then n.qspi.sizeB / 2 else 1048576) false
     s.node.running = true ∧ (st = 1 ∨ st = 2) ∧ found ≠ 0) := by decide +kernel

theorem met_ExchangeCommands_4 :
    (let s : State := st { nd [(PEX_STATUS.STATE, 2), (PEX_STATUS.BANK, 1), (OTP_LOCK.KEYHASH, 1)] with mem := goodImage 0x20000000, otp := goodKey }
     let n := s.node
     let st := n.rd PEX_STATUS.STATE
     let found := n.checkImage n.otherBank (if st = 1 then n.qspi.sizeB / 2 else 1048576) false
     s.node.running = true ∧ (st = 1 ∨ st = 2) ∧ found = 0) := by decide +kernel

theorem met_ExchangeCommands_5 :
    (let s : State := st (nd [(PEX_STATUS.STATE, 7)])
     let n := s.node
     let st := n.rd PEX_STATUS.STATE
     s.node.running = true ∧ st ≠ 0 ∧ st ≠ 3 ∧ st ≠ 4) := by decide +kernel

theorem met_ExchangeCommands_8 :
    (let s : State := st (nd [(PEX_LOAD.SRC, 2), (PEX_STATUS.STATE, 3), (PAIR_STATUS.SYNC, 1)])
     let n := s.node
     let st := n.rd PEX_STATUS.STATE
     let code := if st ≠ 3 then 1 else if n.pex.mapFrom ≠ n.rd64 PEX_ACTHASH_LO.VALUE PEX_ACTHASH_HI.VALUE then 2
      else if (upTo 8).any (fun x => 1 ≤ n.engSt x && n.engSt x ≤ 3 && !bit (n.rd PEX_GROUP.GROUP) x) then 3
      else if n.pex.map.any n.rangeBad then 4 else if 65536 < n.pex.carried + n.pex.initialized then 5
      else if n.pex.patch.isSome then 7 else if n.rd PWR_STATUS.STATE ≠ 0 then 8 else 0
     s.node.running = true ∧ n.on PAIR_STATUS.SYNC = true ∧ (code = 0 ∨ 7 ≤ code)) := by decide +kernel

theorem met_ExchangeCommands_10 :
    (let s : State := st (nd [(PEX_STATUS.STATE, 5), (ENG_STATUS.STATE 7, 3), (PEX_GROUP.GROUP, 0xC0)])
     let e : Fin 8 := 7
     let n := s.node
     let st := n.rd PEX_STATUS.STATE
     s.node.running = true ∧ (st = 5 ∨ st = 6) ∧ n.pair.handover = none ∧ n.pex.patch = none ∧ (n.engRun e).heldStart = none) := by decide +kernel

end MetExchangeCommands

namespace MetSwapHoldAndPatch

theorem met_SwapHoldAndPatch_0 :
    (let s : State := st { nd [(PEX_STATUS.STATE, 6), (PEX_GROUP.GROUP, 0x80), (PEX_GROUP.ARRIVED, 0x80), (PEX_NEWHASH_LO.VALUE, 5), (PEX_ACTHASH_HI.VALUE, 6)] with eng := [(7, { g := [(1, 3)] })], mem := [(0x20200000, 5)], pex := { map := [⟨1, 7, 0, 0x20200000, 0x202FFFF8, 8, 8⟩] } }
     let n := s.node
     let st := n.rd PEX_STATUS.STATE
     let arrived := ∀ x, x < 8 → bit (n.rd PEX_GROUP.GROUP) x = true → bit (n.rd PEX_GROUP.ARRIVED) x = true
     s.node.running = true ∧ (st = 5 ∨ st = 6) ∧ arrived ∧ ((∀ x, x ∈ n.pex.map → x.eng < 8 ∧ n.rangeBad x = false)) ∧ n.uce = []) := by decide +kernel

theorem met_SwapHoldAndPatch_1 :
    (let s : State := st { nd [(PEX_STATUS.STATE, 7), (ENG_STATUS.STATE 7, 3)] with pex := { lastAt := some 0 }, time := { now := 700 } }
     let e : Fin 8 := 7
     let n := s.node
     let st := n.rd PEX_STATUS.STATE
     let free := n.pair.handover = none ∧ n.pex.patch = none ∧ (n.engRun e).heldStart = none
     s.node.running = true ∧ st = 7 ∧ n.pex.marker = none ∧ free) := by decide +kernel

theorem met_SwapHoldAndPatch_2 :
    (let s : State := st (nd [(PEX_STATUS.STATE, 5), (ENG_STATUS.STATE 7, 3), (PEX_GROUP.GROUP, 0xC0), (PEX_GROUP.ARRIVED, 0x80)])
     let e : Fin 8 := 7
     let v : Word := 0x8000FF01
     let n := s.node
     let st := n.rd PEX_STATUS.STATE
     let arrived := ∀ x, x < 8 → bit (n.rd PEX_GROUP.GROUP) x = true → bit (n.rd PEX_GROUP.ARRIVED) x = true
     let free := n.pair.handover = none ∧ n.pex.patch = none ∧ (n.engRun e).heldStart = none
     (s.node.running = true ∧ (st = 5 ∨ st = 6) ∧ (¬ arrived) ∧ free)
      ∧ (s.node.running = true ∧ v.toNat % 32 = 1 ∧ n.pex.patch = none ∧ 5 ≤ st)) := by decide +kernel

theorem met_SwapHoldAndPatch_3 :
    (let s : State := st { nd [(PAIR_STATUS.SYNC, 1)] with pex := { marker := some 5 } }
     let d : Nat := 5
     let n := s.node
     s.node.running = true ∧ n.pex.marker = some d) := by decide +kernel

theorem met_SwapHoldAndPatch_4 :
    (let s : State := st (nd [(PEX_PADDR.ADDR 0, 0x20200000), (PEX_PDATA.DATA 0, 77), (ENG0_DPAGE.HELD0 0, 1), (ENG0_DPAGE.OWNER0 0, 7)])
     let v : Word := 0x80008001
     let a : Nat := 0x20200000
     let n := s.node
     let st := n.rd PEX_STATUS.STATE
     let named := (upTo 8).filter (fun e => bit v.toNat (8 + e))
     let ok := n.patchAddr named 0
     s.node.running = true ∧ v.toNat % 32 = 1 ∧ n.pex.patch = none ∧ st < 5 ∧ ok = some a) := by decide +kernel

theorem met_SwapHoldAndPatch_5 :
    (let s : State := st (nd [(PEX_PADDR.ADDR 0, 0x20200000), (PEX_PDATA.DATA 0, 77), (ENG0_DPAGE.HELD0 0, 1), (ENG0_DPAGE.OWNER0 0, 6)])
     let v : Word := 0x80008001
     let n := s.node
     let st := n.rd PEX_STATUS.STATE
     let named := (upTo 8).filter (fun e => bit v.toNat (8 + e))
     let ok := n.patchAddr named 0
     s.node.running = true ∧ v.toNat % 32 = 1 ∧ n.pex.patch = none ∧ st < 5 ∧ ok = none) := by decide +kernel

theorem met_SwapHoldAndPatch_6 :
    (let s : State := st { nd [(ENG_STATUS.STATE 7, 3)] with pex := { patch := some ([7, 0], [(0x202FFFFC, 0xDEADBEEF)]) } }
     let es : List Nat := [7, 0]
     let a : Nat := 0x202FFFFC
     let w : Word := 0xDEADBEEF
     let n := s.node
     let st := n.rd PEX_STATUS.STATE
     s.node.running = true ∧ n.pex.patch = some (es, [(a, w)]) ∧ n.pair.handover = none ∧ st < 5 ∧ ((∀ e, e ∈ es → n.engSt e ≠ 1 ∧ n.engSt e ≠ 2)) ∧ ((∀ e, e ∈ es → e < 8)) ∧ 0x20000000 ≤ a ∧ a + 4 ≤ 0x20300000) := by decide +kernel

theorem met_SwapHoldAndPatch_7 :
    (let s : State := st { nd [(ENG_STATUS.STATE 7, 3), (ENG_STATUS.STATE 0, 2)] with pex := { patch := some ([7, 0], [(0x202FFFFC, 0xDEADBEEF)]) } }
     let es : List Nat := [7, 0]
     let a : Nat := 0x202FFFFC
     let w : Word := 0xDEADBEEF
     let n := s.node
     let st := n.rd PEX_STATUS.STATE
     s.node.running = true ∧ n.pex.patch = some (es, [(a, w)]) ∧ n.pair.handover = none ∧ st < 5 ∧ ((∃ e, e ∈ es ∧ (n.engSt e = 1 ∨ n.engSt e = 2)))) := by decide +kernel

end MetSwapHoldAndPatch

namespace MetPairFrames

theorem met_PairFrames_0 :
    (let s : State := st (pr [(PAIR_STATUS.STATE, 4), (PAIR_HBSEQ.VALUE, 0xFFFFFFFF)])
     let f : PairRx := pf 1 0 ([0, 0, 0, 0] ++ List.replicate 12 0)
     let n := s.node
     let p := slice f.bytes 12 (f.bytes.length - 16)
     let seq := le p 0 4
     s.node.running = true ∧ n.goodFrame f 1 ∧ (n.rd PAIR_STATUS.STATE = 3 ∨ n.rd PAIR_STATUS.STATE = 4) ∧ bit (le p 12 1) 3 = false ∧ seqLater seq (n.rd PAIR_HBSEQ.VALUE) = true) := by decide +kernel

theorem met_PairFrames_2 :
    (let s : State := st (pr [(PAIR_STATUS.STATE, 2), (PAIR_STATUS.SOLO, 1)] { sent := [(6, 50), (7, 60)] })
     let f : PairRx := pf 2 0 ([7, 0, 0, 0, 0, 0, 0, 0, 2] ++ List.replicate 7 0)
     let x : Nat × Nat := (7, 60)
     let n := s.node
     let p := slice f.bytes 12 (f.bytes.length - 16)
     let seq := le p 0 4
     s.node.running = true ∧ n.goodFrame f 2 ∧ n.rd PAIR_STATUS.STATE = 2 ∧ (n.pair.sent.find? (fun y => y.1 = seq) = some x) ∧ seqLater seq (n.rd PAIR_ECHOSEQ.VALUE) = true) := by decide +kernel

theorem met_PairFrames_3 :
    (let s : State := st (pr [(PAIR_STATUS.STATE, 1), (PAIR_PEERUID_LO.VALUE, 7), (PAIR_STATUS.STRAP, 1)])
     let f : PairRx := pf 3 0 ([7, 0, 0, 0, 0, 0, 0, 0] ++ List.replicate 12 0)
     let n := s.node
     let p := slice f.bytes 12 (f.bytes.length - 16)
     s.node.running = true ∧ n.goodFrame f 3 ∧ n.rd PAIR_STATUS.STATE = 1 ∧ le p 0 8 = n.peerUid) := by decide +kernel

theorem met_PairFrames_6 :
    (let s : State := st (pr [(PAIR_STATUS.STATE, 1), (PAIR_PEERUID_HI.VALUE, 7)])
     let f : PairRx := pf 3 0 ([7, 0, 0, 0, 0, 0, 0, 0] ++ List.replicate 12 0)
     let n := s.node
     let p := slice f.bytes 12 (f.bytes.length - 16)
     s.node.running = true ∧ n.goodFrame f 3 ∧ n.rd PAIR_STATUS.STATE = 1 ∧ le p 0 8 ≠ n.peerUid) := by decide +kernel

theorem met_PairFrames_7 :
    (let s : State := st (pr [(PAIR_STATUS.STATE, 2)])
     let f : PairRx := ⟨[1, 0, 0, 0] ++ List.replicate 12 0⟩
     let c : Instr := .hb ⟨[1, 0, 0, 0] ++ List.replicate 12 0⟩
     let n := s.node
     s.node.running = true ∧ n.on PAIR_CTRL.EN = true ∧ n.pair.locked = true ∧ 16 ≤ f.bytes.length ∧ le f.bytes (f.bytes.length - 4) 4 ≠ crc32 (f.bytes.take (f.bytes.length - 4)) ∧ ((c = Instr.hb f ∨ c = .echo f ∨ c = .neg f ∨ c = .jrnl f ∨ c = .delta f ∨ c = .snap f ∨ c = .mark f))) := by decide +kernel

end MetPairFrames

namespace MetMirrorFrames

theorem met_MirrorFrames_0 :
    (let s : State := st (pr [(PAIR_STATUS.STATE, 3)] { rxSeq := 0xFFFFFFFF })
     let f : PairRx := pf 0x10 0 ([4, 0, 0, 0, 4, 0, 0, 0] ++ [1, 2, 3, 4])
     let n := s.node
     let seq := le f.bytes 4 4
     let st := n.rd PAIR_STATUS.STATE
     let next := (n.pair.rxSeq + 1) % 4294967296
     s.node.running = true ∧ (st = 3 ∨ st = 4) ∧ n.goodFrame f 0x10 ∧ seq = next) := by decide +kernel

theorem met_MirrorFrames_1 :
    (let s : State := st (pr [(PAIR_STATUS.STATE, 4)] { rxSeq := 6 })
     let f : PairRx := pf 0x20 7 ([9, 0, 0, 0, 0, 0, 1, 0] ++ [3, 0, 4, 0, 0xFC, 0xFF, 0x2F, 0x20, 1, 2, 3, 4])
     let n := s.node
     let p := slice f.bytes 12 (f.bytes.length - 16)
     let seq := le f.bytes 4 4
     let st := n.rd PAIR_STATUS.STATE
     let next := (n.pair.rxSeq + 1) % 4294967296
     let r := p.drop 8
     let len := le r 2 2
     s.node.running = true ∧ (st = 3 ∨ st = 4) ∧ n.goodFrame f 0x20 ∧ seq = next ∧ n.pair.parts = [] ∧ le p 6 2 = 1 ∧ le r 0 1 = 3 ∧ r.length = 8 + len ∧ isDmem (le r 4 4) = true ∧ le r 4 4 + len ≤ 0x20300000) := by decide +kernel

theorem met_MirrorFrames_2 :
    (let s : State := st (pr [(PAIR_STATUS.STATE, 3)] { rxSeq := 6 })
     let f : PairRx := pf 0x30 7 ([3, 0, 0, 0, 0xF8, 0xFF, 0x37, 0x20] ++ [1, 2, 3, 4, 5, 6, 7, 8])
     let n := s.node
     let p := slice f.bytes 12 (f.bytes.length - 16)
     let seq := le f.bytes 4 4
     let st := n.rd PAIR_STATUS.STATE
     let next := (n.pair.rxSeq + 1) % 4294967296
     let r := p.drop 8
     s.node.running = true ∧ (st = 3 ∨ st = 4) ∧ n.goodFrame f 0x30 ∧ seq = next ∧ le p 0 1 = 3 ∧ 0x20300000 ≤ le p 4 4 ∧ le p 4 4 + r.length ≤ 0x20380000) := by decide +kernel

theorem met_MirrorFrames_3 :
    (let s : State := st (pr [(PAIR_STATUS.STATE, 4), (PAIR_STATUS.LINK, 1), (PAIR_STATUS.SYNC, 1)] { rxSeq := 6 })
     let f : PairRx := pf 0x21 7 [2, 0, 0, 0, 0, 0, 0, 0]
     let n := s.node
     let p := slice f.bytes 12 (f.bytes.length - 16)
     let seq := le f.bytes 4 4
     let st := n.rd PAIR_STATUS.STATE
     let next := (n.pair.rxSeq + 1) % 4294967296
     s.node.running = true ∧ (st = 3 ∨ st = 4) ∧ n.goodFrame f 0x21 ∧ seq = next ∧ n.on PAIR_STATUS.LINK = true ∧ st = 4 ∧ le p 0 1 = 2) := by decide +kernel

theorem met_MirrorFrames_4 :
    (let s : State := st (pr [(PAIR_STATUS.STATE, 4), (PAIR_STATUS.LINK, 1), (PAIR_STATUS.SYNC, 1), (PEX_STATUS.STATE, 3)] { rxSeq := 6 })
     let f : PairRx := pf 0x21 7 [1, 0, 0, 0, 0, 0, 0, 0]
     let n := s.node
     let p := slice f.bytes 12 (f.bytes.length - 16)
     let seq := le f.bytes 4 4
     let st := n.rd PAIR_STATUS.STATE
     let next := (n.pair.rxSeq + 1) % 4294967296
     s.node.running = true ∧ (st = 3 ∨ st = 4) ∧ n.goodFrame f 0x21 ∧ seq = next ∧ n.on PAIR_STATUS.LINK = true ∧ st = 4 ∧ le p 0 1 = 1 ∧ n.rd PEX_STATUS.STATE = 3 ∧ ((∀ x, x ∈ n.pex.map → x.eng < 8 ∧ n.rangeBad x = false))) := by decide +kernel

theorem met_MirrorFrames_5 :
    (let s : State := st (pr [(PAIR_STATUS.STATE, 4), (PAIR_STATUS.LINK, 1), (PAIR_STATUS.SYNC, 1), (PEX_STATUS.STATE, 4)] { rxSeq := 6 })
     let f : PairRx := pf 0x21 7 [1, 0, 0, 0, 0, 0, 0, 0]
     let n := s.node
     let p := slice f.bytes 12 (f.bytes.length - 16)
     let seq := le f.bytes 4 4
     let st := n.rd PAIR_STATUS.STATE
     let next := (n.pair.rxSeq + 1) % 4294967296
     s.node.running = true ∧ (st = 3 ∨ st = 4) ∧ n.goodFrame f 0x21 ∧ seq = next ∧ n.on PAIR_STATUS.LINK = true ∧ st = 4 ∧ le p 0 1 = 1 ∧ n.rd PEX_STATUS.STATE ≠ 3) := by decide +kernel

theorem met_MirrorFrames_6 :
    (let s : State := st (pr [(PAIR_STATUS.STATE, 3)] { rxSeq := 6 })
     let f : PairRx := pf 0x10 6 ([4, 0, 0, 0, 4, 0, 0, 0] ++ [1, 2, 3, 4])
     let n := s.node
     let seq := le f.bytes 4 4
     let st := n.rd PAIR_STATUS.STATE
     let next := (n.pair.rxSeq + 1) % 4294967296
     s.node.running = true ∧ (st = 3 ∨ st = 4) ∧ seq ≠ next ∧ (st = 3 ∨ n.on PAIR_STATUS.LINK = true) ∧ n.goodFrame f 0x10) := by decide +kernel

theorem met_MirrorFrames_7 :
    (let s : State := st (pr [(PAIR_STATUS.STATE, 4), (PAIR_STATUS.LINK, 1)] { rxSeq := 6 })
     let f : PairRx := pf 0x20 8 ([9, 0, 0, 0, 0, 0, 1, 0] ++ [3, 0, 4, 0, 0xFC, 0xFF, 0x2F, 0x20, 1, 2, 3, 4])
     let n := s.node
     let seq := le f.bytes 4 4
     let st := n.rd PAIR_STATUS.STATE
     let next := (n.pair.rxSeq + 1) % 4294967296
     s.node.running = true ∧ (st = 3 ∨ st = 4) ∧ seq ≠ next ∧ (st = 3 ∨ n.on PAIR_STATUS.LINK = true) ∧ n.goodFrame f 0x20) := by decide +kernel

theorem met_MirrorFrames_8 :
    (let s : State := st (pr [(PAIR_STATUS.STATE, 3)] { rxSeq := 6 })
     let f : PairRx := pf 0x30 5 ([3, 0, 0, 0, 0xF8, 0xFF, 0x37, 0x20] ++ [1, 2, 3, 4, 5, 6, 7, 8])
     let n := s.node
     let seq := le f.bytes 4 4
     let st := n.rd PAIR_STATUS.STATE
     let next := (n.pair.rxSeq + 1) % 4294967296
     s.node.running = true ∧ (st = 3 ∨ st = 4) ∧ seq ≠ next ∧ (st = 3 ∨ n.on PAIR_STATUS.LINK = true) ∧ n.goodFrame f 0x30) := by decide +kernel

end MetMirrorFrames

namespace MetPairLinkService

theorem met_PairLinkService_0 :
    (let s : State := st { pr [(PAIR_STATUS.STATE, 2), (PAIR_STATUS.LINK, 1), (PAIR_STATUS.SYNC, 1), (MSG_STATUS.MODE, 1), (PAIR_CNT_LOCKLOSS.VALUE, 0xFFFFFFFF)] with msg := { accq := [.hostAck 3] } }
     let n := s.node
     (s.node.running = true ∧ n.on PAIR_STATUS.LINK = true)
      ∧ (s.node.running = true ∧ n.on PAIR_STATUS.LINK = true ∧ n.pair.locked = true)) := by decide +kernel

theorem met_PairLinkService_1 :
    (let s : State := st (pr [(PAIR_STATUS.STATE, 6)] { unacked := [(4, 100, pairFrame 0x10 4 0 false [1, 2, 3])] })
     let n := s.node
     let st := n.rd PAIR_STATUS.STATE
     (s.node.running = true ∧ n.on PAIR_STATUS.LINK = false)
      ∧ (s.node.running = true)
      ∧ (s.node.running = true ∧ (st = 1 ∨ st = 3 ∨ st = 4 ∨ st = 6))) := by decide +kernel

theorem met_PairLinkService_2 :
    (let s : State := st { pr [(PAIR_STATUS.STATE, 2), (PAIR_HBSEQ.VALUE, 0xFFFFFFFF), (ENG_CTRL.HB 0, 1), (ENG_STATUS.STATE 0, 1)] with eng := [(0, { beat := true })] }
     let n := s.node
     let st := n.rd PAIR_STATUS.STATE
     s.node.running = true ∧ st = 2 ∧ n.beatOk = true) := by decide +kernel

theorem met_PairLinkService_3 :
    (let s : State := st (pr [(PAIR_STATUS.STATE, 2), (ENG_CTRL.HB 0, 1), (ENG_STATUS.STATE 0, 1)])
     let n := s.node
     let st := n.rd PAIR_STATUS.STATE
     s.node.running = true ∧ st = 2 ∧ n.beatOk = false ∧ n.pair.probation = none) := by decide +kernel

end MetPairLinkService

namespace MetPairRolesAndFence

theorem met_PairRolesAndFence_0 :
    (let s : State := st (nd [])
     let n := s.node
     (s.node.running = true ∧ n.on PAIR_CTRL.EN = false)
      ∧ (s.node.running = true)) := by decide +kernel

theorem met_PairRolesAndFence_1 :
    (let s : State := st (pr [(PAIR_STATUS.STATE, 1), (PAIR_STATUS.STRAP, 1)])
     let n := s.node
     let st := n.rd PAIR_STATUS.STATE
     s.node.running = true ∧ st = 1 ∧ n.pair.lastValid = none) := by decide +kernel

theorem met_PairRolesAndFence_3 :
    (let s : State := st { pr [(PAIR_STATUS.STATE, 3), (PAIR_STATUS.LINK, 1)] { syncSince := some 5000000 } with time := { now := 9000000 } }
     let n := s.node
     s.node.running = true ∧ n.pair.syncSince ≠ none ∧ n.pair.longTold = false) := by decide +kernel

theorem met_PairRolesAndFence_4 :
    (let s : State := st (pr [(PAIR_STATUS.STATE, 2), (PAIR_STATUS.LINK, 1), (PAIR_MIRLAG.VALUE, 32767)] { snapQueued := true })
     let n := s.node
     let st := n.rd PAIR_STATUS.STATE
     (s.node.running = true ∧ st = 2 ∧ n.pair.snapQueued = true ∧ n.snapAcked = true ∧ n.rd PAIR_MIRLAG.VALUE < 32768)
      ∧ (n.running = true ∧ st = 2 ∧ n.on PAIR_STATUS.SOLO = false)) := by decide +kernel

theorem met_PairRolesAndFence_5 :
    (let s : State := st (pr [(PAIR_STATUS.STATE, 4), (PAIR_CTRL.ASSUME, 1), (TMR_TW0.HELD 4095, 1)])
     let n := s.node
     let st := n.rd PAIR_STATUS.STATE
     s.node.running = true ∧ (st = 3 ∨ st = 4) ∧ n.on PAIR_STATUS.LINK = false ∧ n.on PAIR_CTRL.ASSUME = true) := by decide +kernel

theorem met_PairRolesAndFence_6 :
    (let s : State := st (pr [(PAIR_STATUS.STATE, 4), (PAIR_STATUS.LINK, 1), (PAIR_STATUS.SYNC, 1)] { heardAt := some 5 })
     let n := s.node
     let st := n.rd PAIR_STATUS.STATE
     n.running = true ∧ n.pair.stilled = false ∧ st = 4) := by decide +kernel

theorem met_PairRolesAndFence_7 :
    (let s : State := st (pr [(PAIR_STATUS.STATE, 3), (PAIR_STATUS.LINK, 1)])
     let n := s.node
     let st := n.rd PAIR_STATUS.STATE
     (s.node.running = true ∧ st = 3 ∧ n.on PAIR_STATUS.LINK = true ∧ n.on PAIR_STATUS.IMGMIS = false ∧ n.rd PAIR_STATUS.BIST ≠ 1)
      ∧ (n.running = true ∧ n.pair.stilled = false ∧ st = 3)) := by decide +kernel

theorem met_PairRolesAndFence_8 :
    (let s : State := st { nd [(PAIR_STATUS.STATE, 4)] with pair := { stilled := true } }
     let n := s.node
     n.pair.stilled = true) := by decide +kernel

theorem met_PairRolesAndFence_9 :
    (let s : State := st { pr [(PAIR_STATUS.STATE, 2), (GRD_STATUS.STATE, 2), (ENG_STATUS.STATE 7, 3), (PWR_GH.STATE 254, 1), (PWR_GH.CLASS 254, 2)] { echoMark := some 7 } with time := { launches := [⟨0, 90000, 3, 0, 1, false, false⟩] } }
     let n := s.node
     let st := n.rd PAIR_STATUS.STATE
     n.boot.held = false ∧ st = 2 ∧ n.on PAIR_STATUS.SOLO = false ∧ n.pair.echoMark ≠ none ∧ n.pair.stilled = false ∧ n.rd GRD_STATUS.STATE ≠ 0) := by decide +kernel

theorem met_PairRolesAndFence_10 :
    (let s : State := st (pr [(PAIR_STATUS.STATE, 2), (PAIR_STATUS.SOLO, 1)] { echoMark := some 7 })
     let n := s.node
     let st := n.rd PAIR_STATUS.STATE
     n.boot.held = false ∧ st = 2 ∧ n.on PAIR_STATUS.SOLO = true) := by decide +kernel

end MetPairRolesAndFence

namespace MetHandover

def act : List (Field × Nat) := [(INA_STATUS.INAUG, 0), (PAIR_STATUS.STATE, 2), (PAIR_STATUS.SYNC, 1), (PAIR_STATUS.LINK, 1)]

theorem met_Handover_0 :
    (let s : State := st (pr (act ++ [(AON_LSTATUS.STATE, 3), (PEX_STATUS.STATE, 4)]))
     let n := s.node
     let st := n.rd PAIR_STATUS.STATE
     let lull := n.rd AON_LSTATUS.STATE
     let code := if st ≠ 2 ∨ n.on PAIR_STATUS.SYNC = false ∨ n.on PAIR_STATUS.SOLO = true then 1 else if n.on PAIR_STATUS.LINK = false then 2
      else if n.pair.probation ≠ none then 4 else if n.on INA_STATUS.INAUG = true ∨ lull = 1 ∨ lull = 2 then 5
      else if n.rd PEX_STATUS.STATE = 5 ∨ n.rd PEX_STATUS.STATE = 6 ∨ n.rd PEX_STATUS.STATE = 7 then 6
      else if n.rd PWR_STATUS.STATE ≠ 0 then 7 else 0
     s.node.running = true ∧ n.pair.handover = none ∧ code = 0) := by decide +kernel

theorem met_Handover_1 :
    (let s : State := st (pr [(PAIR_STATUS.STATE, 3)])
     let n := s.node
     let st := n.rd PAIR_STATUS.STATE
     let lull := n.rd AON_LSTATUS.STATE
     let code := if st ≠ 2 ∨ n.on PAIR_STATUS.SYNC = false ∨ n.on PAIR_STATUS.SOLO = true then 1 else if n.on PAIR_STATUS.LINK = false then 2
      else if n.pair.probation ≠ none then 4 else if n.on INA_STATUS.INAUG = true ∨ lull = 1 ∨ lull = 2 then 5
      else if n.rd PEX_STATUS.STATE = 5 ∨ n.rd PEX_STATUS.STATE = 6 ∨ n.rd PEX_STATUS.STATE = 7 then 6
      else if n.rd PWR_STATUS.STATE ≠ 0 then 7 else 0
     s.node.running = true ∧ n.pair.handover = none ∧ code ≠ 0) := by decide +kernel

theorem met_Handover_5 :
    (let s : State := st (pr (act ++ [(ENG_STATUS.STATE 7, 3), (ENG_STATUS.STATE 6, 4)]) { handover := some ⟨5, true, false, true⟩ })
     let h : HandRun := ⟨5, true, false, true⟩
     let n := s.node
     let st := n.rd PAIR_STATUS.STATE
     s.node.running = true ∧ n.pair.handover = some h ∧ st = 2 ∧ ((∀ e, e < 8 → n.engSt e ≠ 1 ∧ n.engSt e ≠ 2))) := by decide +kernel

theorem met_Handover_6 :
    (let s : State := st (pr (act ++ [(ENG_STATUS.STATE 7, 3), (ENG_STATUS.STATE 6, 2)]) { handover := some ⟨5, false, false, true⟩ })
     let h : HandRun := ⟨5, false, false, true⟩
     let n := s.node
     s.node.running = true ∧ n.pair.handover = some h ∧ ((∃ e, e < 8 ∧ (n.engSt e = 1 ∨ n.engSt e = 2)))) := by decide +kernel

theorem met_Handover_7 :
    (let s : State := st (pr (act ++ [(PAIR_STATUS.PROBATION, 1)]) { probation := some 5 })
     let n := s.node
     let st := n.rd PAIR_STATUS.STATE
     s.node.running = true ∧ st = 2 ∧ n.pair.probation ≠ none) := by decide +kernel

end MetHandover

namespace MetPairCommands

theorem met_PairCommands_0 :
    (let s : State := st (pr [(PAIR_STATUS.STATE, 3), (PAIR_CTRL.BISTGUST, 254), (PWR_GH.STATE 254, 1), (PWR_GH.CLASS 254, 3)])
     let n := s.node
     let st := n.rd PAIR_STATUS.STATE
     let g := n.rd PAIR_CTRL.BISTGUST
     let ready := (st = 3 ∨ st = 4) ∧ n.rd (PWR_GH.STATE g) = 1 ∧ n.rd (PWR_GH.CLASS g) = 3
     (s.node.running = true ∧ ready)
      ∧ (s.node.running = true ∧ st ≠ 4)
      ∧ (s.node.running = true)) := by decide +kernel

theorem met_PairCommands_1 :
    (let s : State := st (pr [(PAIR_STATUS.STATE, 4), (PAIR_STATUS.SYNC, 1), (PAIR_STATUS.BIST, 1), (PAIR_CNT_RESYNCS.VALUE, 0xFFFFFFFF), (PAIR_CTRL.BISTGUST, 254), (PWR_GH.STATE 254, 1), (PWR_GH.CLASS 254, 3)])
     let n := s.node
     let st := n.rd PAIR_STATUS.STATE
     (s.node.running = true ∧ n.rd PAIR_STATUS.BIST = 1)
      ∧ (s.node.running = true ∧ st = 4)) := by decide +kernel

theorem met_PairCommands_2 :
    (let s : State := st (pr [(PAIR_STATUS.STATE, 3), (PAIR_STATUS.BIST, 1), (PAIR_STATUS.SUSPECT, 1)])
     let n := s.node
     let st := n.rd PAIR_STATUS.STATE
     let g := n.rd PAIR_CTRL.BISTGUST
     let ready := (st = 3 ∨ st = 4) ∧ n.rd (PWR_GH.STATE g) = 1 ∧ n.rd (PWR_GH.CLASS g) = 3
     s.node.running = true ∧ (¬ ready)) := by decide +kernel

end MetPairCommands

namespace MetPilotsAndSoundings

def plt (att : Fin 4) (f : BitVec 32) (er : Bool) (ref : Int) : PilotRx := { att := att, owner := 2, field := f, bins := List.replicate 495 (100, -50), erased := er, snr := 20, refMean := ref, refGain := 0 }
def snd (att : Fin 4) : SoundingRx := { att := att, node := 2, bins := List.replicate 991 (100, -50), meanSnr := 80, minSnr := 10 }

theorem met_PilotsAndSoundings_0 :
    (let s : State := st (ln [] { peers := [(1, { held := true, epoch := 2, pend := some (3, 90, 7) }), (257, { eqSet := true })] })
     let p : PilotRx := plt 0 (pilotOf 2 3) false (-2048)
     let r : SoundingRx := snd 1
     let n := s.node
     let v := p.field.toNat
     let k := v % 256
     let good := pilotCrc v = v / 16777216 ∧ k ≤ 128
     (s.node.running = true ∧ n.on (LINE_CTRL.EN p.att) = true ∧ n.attShed p.att = false ∧ good ∧ n.handleOf k ≠ 255)
      ∧ (s.node.running = true ∧ n.on (LINE_CTRL.EN r.att) = true ∧ n.attShed r.att = false ∧ n.handleOf r.node ≠ 255)) := by decide +kernel

theorem met_PilotsAndSoundings_3 :
    (let s : State := st (ln [(LINE_TRIM.OFFSET 0, 2048)] { peers := [(1, { held := true, epoch := 2 })] })
     let p : PilotRx := plt 0 (pilotOf 129 3) false 2047
     let n := s.node
     let l := p.att.val % 2
     let v := p.field.toNat
     let k := v % 256
     let good := pilotCrc v = v / 16777216 ∧ k ≤ 128
     s.node.running = true ∧ n.on (LINE_CTRL.EN p.att) = true ∧ n.attShed p.att = false ∧ (¬ good) ∧ p.erased = false ∧ (n.peer l p.owner).pend = none) := by decide +kernel

theorem met_PilotsAndSoundings_4 :
    (let s : State := st { ln [(LINE_CTRL.EN 3, 0), (INA_STATUS.INAUG, 0), (BAR_CYCLE.VALUE, 2), (LINE_PSD.LEVEL 0, 30), (LINE_PSD.BOOST 0, 7), (LINE_PSD.GUST 0, 254), (PWR_GH.STATE 254, 1), (PWR_GH.CLASS 254, 1)] with dir := [dirRec 1 5, dirRec 2 6] }
     let p : PilotRx := plt 3 (pilotOf 129 3) false 2047
     let n := s.node
     (s.node.running = true ∧ n.on (LINE_CTRL.EN p.att) = false)
      ∧ (s.node.running = true ∧ n.nodeNum ≠ 0 ∧ n.dir ≠ [] ∧ n.cycle % n.dir.length + 1 = n.nodeNum ∧ n.on BAR_STATUS.INAUG = false ∧ n.on INA_STATUS.INAUG = false)) := by decide +kernel

theorem met_PilotsAndSoundings_5 :
    (let s : State := st { ln [(BAR_CYCLE.VALUE, 3)] with dir := [dirRec 1 5, dirRec 2 6] }
     let n := s.node
     s.node.running = true ∧ (n.nodeNum = 0 ∨ n.cycle % n.dir.length + 1 ≠ n.nodeNum ∨ n.on INA_STATUS.INAUG = true)) := by decide +kernel

end MetPilotsAndSoundings

namespace MetLoadingTransmitter

def lprop : UnitRx := ⟨2, .a, [0x21, 0, 2, 1, 0, 0, 0, 0, 0, 0, 0, 1] ++ List.replicate 496 0x44⟩
def lack (flags : Byte) : UnitRx := ⟨2, .a, [0x23, 0, 2, 1, flags, 0, 0, 0, 90, 0, 0, 0]⟩
def sw1 (w : List Nat) (busy : Bool) (count : Nat) : LineSwitch := ⟨3, 90, 32, count, busy, w, false⟩

theorem met_LoadingTransmitter_0 :
    (let s : State := st (ln [])
     let u : UnitRx := lprop
     let line : Line := .a
     let n := s.node
     let b := u.body
     let r := le b 2 1
     let own := n.own (lineNo line)
     let cand := n.candidate (lineNo line)
     let cur := n.ownTable (lineNo line)
     (s.node.running = true ∧ 508 ≤ b.length ∧ le b 3 1 = n.nodeNum ∧ n.nodeNum ≠ 0 ∧ n.handleOf r ≠ 255)
      ∧ (s.node.running = true ∧ own.switch = none ∧ own.isNull = false ∧ n.nodeNum ≠ 0 ∧ (line = .a ∨ (n.own 0).switch ≠ none) ∧ ((List.zip cand.1 cur).any (fun p => p.1 < p.2) = false) ∧ (100 * cand.1.sum < 101 * cur.sum ∨ cand.1.sum ≤ cur.sum))) := by decide +kernel

theorem met_LoadingTransmitter_1 :
    (let s : State := st { ln [(BAR_CYCLE.VALUE, 5)] { peers := [(1, { stored := true, storedUrgent := true })] } with dir := [dirRec 1 5, dirRec 2 6] }
     let line : Line := .a
     let n := s.node
     let own := n.own (lineNo line)
     let cand := n.candidate (lineNo line)
     let cur := n.ownTable (lineNo line)
     s.node.running = true ∧ own.switch = none ∧ own.isNull = false ∧ n.nodeNum ≠ 0 ∧ (line = .a ∨ (n.own 0).switch ≠ none) ∧ ((List.zip cand.1 cur).any (fun p => p.1 < p.2) = true ∨ (101 * cur.sum ≤ 100 * cand.1.sum ∧ cur.sum < cand.1.sum))) := by decide +kernel

theorem met_LoadingTransmitter_2 :
    (let s : State := st (ln [] { ownA := { epoch := 2, switch := some (sw1 [2] false 1) } })
     let u : UnitRx := lack 3
     let line : Line := .a
     let sw : LineSwitch := sw1 [2] false 1
     let n := s.node
     let b := u.body
     let l := le b 1 1 % 2
     let own := n.own (lineNo line)
     s.node.running = true ∧ (n.own l).switch = some sw ∧ 12 ≤ b.length ∧ le b 3 1 = n.nodeNum ∧ le b 8 4 = sw.ns ∧ le b 4 1 % 16 = sw.epoch) := by decide +kernel

theorem met_LoadingTransmitter_4 :
    (let s : State := st (ln [(BAR_CYCLE.VALUE, 90)] { ownA := { epoch := 2, switch := some (sw1 [] false 1) } })
     let line : Line := .a
     let sw : LineSwitch := sw1 [] false 1
     let n := s.node
     let own := n.own (lineNo line)
     s.node.running = true ∧ own.switch = some sw ∧ sw.ns ≤ n.cycle) := by decide +kernel

theorem met_LoadingTransmitter_5 :
    (let s : State := st (ln [(BAR_CYCLE.VALUE, 89)] { ownB := { epoch := 2, switch := some (sw1 [] true 1) } })
     let line : Line := .b
     let sw : LineSwitch := sw1 [] true 1
     let n := s.node
     let own := n.own (lineNo line)
     (s.node.running = true ∧ own.switch = some sw)
      ∧ (s.node.running = true ∧ own.switch = some sw ∧ n.cycle < sw.ns)) := by decide +kernel

end MetLoadingTransmitter

namespace MetLoadingReceiver

def lset (fl : Byte) : UnitRx := ⟨2, .a, [0x22, 0, 2, 0x23, 90, 0, 0, 0, 0, 0, 1, fl] ++ List.replicate 496 0x44⟩
def lreq : UnitRx := ⟨2, .a, [0x24, 0, 2, 1, 3, 1, 0, 0]⟩

theorem met_LoadingReceiver_0 :
    (let s : State := st (ln [])
     let u : UnitRx := lset 2
     let line : Line := .a
     let n := s.node
     let b := u.body
     let t := le b 2 1
     let o := n.own (lineNo line)
     (s.node.running = true ∧ 508 ≤ b.length ∧ t ≠ n.nodeNum ∧ n.handleOf t ≠ 255 ∧ n.handleOf n.nodeNum ≠ 255 ∧ bit (le b 11 1) 1 = true)
      ∧ (s.node.running = true ∧ o.isNull = false)) := by decide +kernel

theorem met_LoadingReceiver_1 :
    (let s : State := st (ln [] { ownA := { pool := [(0, 3)] } })
     let u : UnitRx := lset 0
     let i : Nat := 1
     let n := s.node
     let b := u.body
     let l := le b 1 1 % 2
     let t := le b 2 1
     let p := n.peer l t
     let epoch := le b 3 1 % 16
     let held := fun (j : Nat) => (n.own l).pool.any (fun x => x.1 = j)
     s.node.running = true ∧ 508 ≤ b.length ∧ t ≠ n.nodeNum ∧ n.handleOf t ≠ 255 ∧ n.handleOf n.nodeNum ≠ 255 ∧ bit (le b 11 1) 1 = false ∧ p.pend = none ∧ (p.epoch ≠ epoch ∨ p.held = false) ∧ ((∀ j, j < i → held j = true)) ∧ held i = false ∧ i < 8) := by decide +kernel

theorem met_LoadingReceiver_3 :
    (let s : State := st (ln [] { ownA := { pool := (upTo 8).map (fun i => (i, 3)) } })
     let u : UnitRx := lset 0
     let n := s.node
     let b := u.body
     let l := le b 1 1 % 2
     let t := le b 2 1
     let p := n.peer l t
     let epoch := le b 3 1 % 16
     let held := fun (j : Nat) => (n.own l).pool.any (fun x => x.1 = j)
     s.node.running = true ∧ 508 ≤ b.length ∧ t ≠ n.nodeNum ∧ n.handleOf t ≠ 255 ∧ n.handleOf n.nodeNum ≠ 255 ∧ bit (le b 11 1) 1 = false ∧ p.pend = none ∧ (p.epoch ≠ epoch ∨ p.held = false) ∧ ((∀ j, j < 8 → held j = true))) := by decide +kernel

theorem met_LoadingReceiver_4 :
    (let s : State := st (ln [])
     let u : UnitRx := lreq
     let n := s.node
     let b := u.body
     s.node.running = true ∧ 8 ≤ b.length ∧ le b 3 1 = n.nodeNum ∧ n.nodeNum ≠ 0) := by decide +kernel

theorem met_LoadingReceiver_5 :
    (let s : State := st (ln [(BAR_CYCLE.VALUE, 106)] { peers := [(1, { held := true, epoch := 2, pend := some (3, 90, 7) })], ownA := { pool := [(7, 2), (3, 4)] } })
     let line : Line := .a
     let k : Nat := 2
     let e : Nat := 3
     let c : Nat := 90
     let j : Nat := 7
     let n := s.node
     let q := n.peer (lineNo line) k
     s.node.running = true ∧ q.pend = some (e, c, j) ∧ n.handleOf k ≠ 255 ∧ c + 16 ≤ n.cycle) := by decide +kernel

theorem met_LoadingReceiver_6 :
    (let s : State := st (ln [(BAR_CYCLE.VALUE, 105)] { peers := [(1, { held := true, epoch := 2, pend := some (3, 90, 7) })] })
     let line : Line := .a
     let k : Nat := 2
     let e : Nat := 3
     let c : Nat := 90
     let j : Nat := 7
     let n := s.node
     let q := n.peer (lineNo line) k
     s.node.running = true ∧ q.pend = some (e, c, j) ∧ n.cycle < c + 16) := by decide +kernel

theorem met_LoadingReceiver_7 :
    (let s : State := st (ln [(BAR_CYCLE.VALUE, 346)] { peers := [(257, { held := true, epoch := 2, lastValid := 90 })] })
     let u : UnitRx := lreq
     let line : Line := .b
     let k : Nat := 2
     let n := s.node
     let b := u.body
     let l := le b 1 1 % 2
     let held := fun (j : Nat) => (n.own l).pool.any (fun x => x.1 = j)
     let q := n.peer (lineNo line) k
     s.node.running = true ∧ q.held = true ∧ q.lastValid + 256 ≤ n.cycle ∧ n.handleOf k ≠ 255) := by decide +kernel

theorem met_LoadingReceiver_8 :
    (let s : State := st (ln [] { ownB := { isNull := true } })
     let line : Line := .b
     let n := s.node
     let o := n.own (lineNo line)
     s.node.running = true ∧ o.isNull = true) := by decide +kernel

end MetLoadingReceiver

namespace MetDeepCalibration

def cal (l : List (Field × Nat)) (x : LineState := {}) : State := st (ln ([(INA_STATUS.INAUG, 0), (LINE_CAL.GUST 1, 254), (PWR_GH.STATE 254, 1), (PWR_GH.CLASS 254, 2)] ++ l) x)

theorem met_DeepCalibration_0 :
    (let s : State := cal [(LINE_CALSTAT.RESULT 1, 2)]
     let att : Fin 4 := 1
     let n := s.node
     let a := att.val
     let res := n.rd (LINE_CALSTAT.RESULT a)
     let runs := fun (k : Nat) => 2 ≤ n.rd (LINE_CALSTAT.RESULT k) ∧ n.rd (LINE_CALSTAT.RESULT k) ≤ 5
     let deferred := n.line.calDeferred.contains a = true
     (s.node.running = true ∧ runs a)
      ∧ (s.node.running = true ∧ runs a ∧ (¬ deferred))
      ∧ (s.node.running = true ∧ runs a ∧ res < 5)) := by decide +kernel

theorem met_DeepCalibration_1 :
    (let s : State := cal [(LINE_CALSTAT.RESULT 1, 5)] { calAborted := [1] }
     let att : Fin 4 := 1
     let n := s.node
     let a := att.val
     let res := n.rd (LINE_CALSTAT.RESULT a)
     s.node.running = true ∧ res = 5) := by decide +kernel

theorem met_DeepCalibration_3 :
    (let s : State := st (ln [(LINE_CALSTAT.RESULT 1, 6)])
     let att : Fin 4 := 1
     let n := s.node
     let a := att.val
     let runs := fun (k : Nat) => 2 ≤ n.rd (LINE_CALSTAT.RESULT k) ∧ n.rd (LINE_CALSTAT.RESULT k) ≤ 5
     let g := n.rd (LINE_CAL.GUST a)
     let granted := n.rd (PWR_GH.STATE g) = 1 ∧ n.rd (PWR_GH.CLASS g) = 2
     s.node.running = true ∧ (¬ runs a) ∧ (¬ granted)) := by decide +kernel

theorem met_DeepCalibration_4 :
    (let s : State := cal [] { beaconRunA := 16 }
     let att : Fin 4 := 1
     let n := s.node
     let a := att.val
     let runs := fun (k : Nat) => 2 ≤ n.rd (LINE_CALSTAT.RESULT k) ∧ n.rd (LINE_CALSTAT.RESULT k) ≤ 5
     let g := n.rd (LINE_CAL.GUST a)
     let granted := n.rd (PWR_GH.STATE g) = 1 ∧ n.rd (PWR_GH.CLASS g) = 2
     let ready := (∀ k, k < 4 → k ≠ a → ¬ runs k) ∧ 16 ≤ n.beaconRun (1 - a % 2) ∧ n.on INA_STATUS.INAUG = false ∧ n.on (LINE_CTRL.EN a) = true
     s.node.running = true ∧ (¬ runs a) ∧ granted ∧ ready) := by decide +kernel

theorem met_DeepCalibration_5 :
    (let s : State := cal [] { beaconRunA := 15 }
     let att : Fin 4 := 1
     let n := s.node
     let a := att.val
     let runs := fun (k : Nat) => 2 ≤ n.rd (LINE_CALSTAT.RESULT k) ∧ n.rd (LINE_CALSTAT.RESULT k) ≤ 5
     let g := n.rd (LINE_CAL.GUST a)
     let granted := n.rd (PWR_GH.STATE g) = 1 ∧ n.rd (PWR_GH.CLASS g) = 2
     let ready := (∀ k, k < 4 → k ≠ a → ¬ runs k) ∧ 16 ≤ n.beaconRun (1 - a % 2) ∧ n.on INA_STATUS.INAUG = false ∧ n.on (LINE_CTRL.EN a) = true
     s.node.running = true ∧ (¬ runs a) ∧ granted ∧ (¬ ready) ∧ n.on (LINE_CTRL.EN a) = true) := by decide +kernel

theorem met_DeepCalibration_6 :
    (let s : State := cal [] { beaconRunA := 15, calDeferred := [1, 2] }
     let att : Fin 4 := 1
     let n := s.node
     let a := att.val
     let runs := fun (k : Nat) => 2 ≤ n.rd (LINE_CALSTAT.RESULT k) ∧ n.rd (LINE_CALSTAT.RESULT k) ≤ 5
     let g := n.rd (LINE_CAL.GUST a)
     let granted := n.rd (PWR_GH.STATE g) = 1 ∧ n.rd (PWR_GH.CLASS g) = 2
     let ready := (∀ k, k < 4 → k ≠ a → ¬ runs k) ∧ 16 ≤ n.beaconRun (1 - a % 2) ∧ n.on INA_STATUS.INAUG = false ∧ n.on (LINE_CTRL.EN a) = true
     let deferred := n.line.calDeferred.contains a = true
     (s.node.running = true ∧ deferred)
      ∧ (s.node.running = true ∧ deferred ∧ granted ∧ (¬ ready))) := by decide +kernel

theorem met_DeepCalibration_7 :
    (let s : State := cal [] { beaconRunA := 16, calDeferred := [1, 2] }
     let att : Fin 4 := 1
     let n := s.node
     let a := att.val
     let runs := fun (k : Nat) => 2 ≤ n.rd (LINE_CALSTAT.RESULT k) ∧ n.rd (LINE_CALSTAT.RESULT k) ≤ 5
     let g := n.rd (LINE_CAL.GUST a)
     let granted := n.rd (PWR_GH.STATE g) = 1 ∧ n.rd (PWR_GH.CLASS g) = 2
     let ready := (∀ k, k < 4 → k ≠ a → ¬ runs k) ∧ 16 ≤ n.beaconRun (1 - a % 2) ∧ n.on INA_STATUS.INAUG = false ∧ n.on (LINE_CTRL.EN a) = true
     let deferred := n.line.calDeferred.contains a = true
     s.node.running = true ∧ deferred ∧ granted ∧ ready) := by decide +kernel

theorem met_DeepCalibration_8 :
    (let s : State := st (ln [] { beaconRunA := 16, calDeferred := [1, 2] })
     let att : Fin 4 := 1
     let n := s.node
     let a := att.val
     let g := n.rd (LINE_CAL.GUST a)
     let granted := n.rd (PWR_GH.STATE g) = 1 ∧ n.rd (PWR_GH.CLASS g) = 2
     let deferred := n.line.calDeferred.contains a = true
     s.node.running = true ∧ deferred ∧ (¬ granted)) := by decide +kernel

end MetDeepCalibration

namespace MetGuardian

def stg : GrdStage := ⟨List.replicate 64 3, List.replicate 64 4, 5, 255, 128, false, 0, 0⟩

theorem met_Guardian_0 :
    (let s : State := st (nd [])
     let n := s.node
     let st := n.rd GRD_STATUS.STATE
     (n.running = true ∧ st = 0)
      ∧ (n.running = true ∧ n.grd.stage = none)
      ∧ (n.running = true ∧ st ≠ 3 ∧ st ≠ 4)
      ∧ (n.running = true)) := by decide +kernel

theorem met_Guardian_1 :
    (let s : State := st { nd [(GRD_STATUS.STATE, 5), (GRD_CYCLE.VALUE, 3)] with grd := { everAligned := true } }
     let cycle : Word := 0xFFFFFFFF
     let offset : Int := 5000
     let n := s.node
     let st := n.rd GRD_STATUS.STATE
     let fresh := st = 5 ∨ n.grd.everAligned = false
     let near := offset.natAbs ≤ 4000 ∧ n.rd GRD_CYCLE.VALUE = cycle.toNat
     (n.running = true ∧ st ≠ 0 ∧ (fresh ∨ near))
      ∧ (n.running = true ∧ st ≠ 0)) := by decide +kernel

theorem met_Guardian_2 :
    (let s : State := st { nd [(GRD_STATUS.STATE, 2), (GRD_CYCLE.VALUE, 3)] with grd := { everAligned := true } }
     let cycle : Word := 3
     let p : Nat := 5
     let n := s.node
     let st := n.rd GRD_STATUS.STATE
     n.running = true ∧ ((st = 1 ∨ st = 2)) ∧ n.posOpen n.cycle p = false ∧ n.bar.blockedPos.contains p = false ∧ n.rd GRD_STATUS.BLOCKED < 15) := by decide +kernel

theorem met_Guardian_3 :
    (let s : State := st { nd [(GRD_STATUS.STATE, 2), (GRD_CYCLE.VALUE, 3), (GRD_ALIGNREJ.VALUE, 0xFFFFFFFF)] with grd := { everAligned := true } }
     let cycle : Word := 3
     let offset : Int := 4001
     let n := s.node
     let st := n.rd GRD_STATUS.STATE
     let fresh := st = 5 ∨ n.grd.everAligned = false
     let near := offset.natAbs ≤ 4000 ∧ n.rd GRD_CYCLE.VALUE = cycle.toNat
     n.running = true ∧ st ≠ 0 ∧ (¬ fresh) ∧ (¬ near)) := by decide +kernel

theorem met_Guardian_4 :
    (let s : State := st { nd [(GRD_STATUS.STATE, 1), (GRD_CYCLE.VALUE, 3), (GRD_ARMID.VALUE, 6), (BAR_CYCLE.VALUE, 40)] with grd := { everAligned := true, stage := some stg } }
     let cycle : Word := 42
     let id : Word := 6
     let g : GrdStage := stg
     let n := s.node
     (n.running = true ∧ n.grd.stage = some g)
      ∧ (n.running = true ∧ n.grd.stage = some g ∧ n.rd GRD_ARMID.VALUE = id.toNat ∧ n.cycle + 2 ≤ cycle.toNat)) := by decide +kernel

theorem met_Guardian_5 :
    (let s : State := st { nd [(GRD_STATUS.STATE, 1), (GRD_CYCLE.VALUE, 3), (GRD_ARMID.VALUE, 6), (BAR_CYCLE.VALUE, 40)] with grd := { everAligned := true, stage := some stg } }
     let cycle : Word := 41
     let id : Word := 6
     let g : GrdStage := stg
     let n := s.node
     n.running = true ∧ n.grd.stage = some g ∧ (n.rd GRD_ARMID.VALUE ≠ id.toNat ∨ cycle.toNat < n.cycle + 2)) := by decide +kernel

theorem met_Guardian_7 :
    (let s : State := st (nd [(GRD_STATUS.STATE, 2), (GRD_STATUS.BLOCKED, 15)])
     let cycle : Word := 0
     let p : Nat := 50
     let n := s.node
     let st := n.rd GRD_STATUS.STATE
     n.running = true ∧ ((st = 1 ∨ st = 2)) ∧ n.posOpen n.cycle p = false ∧ n.bar.blockedPos.contains p = false ∧ n.rd GRD_STATUS.BLOCKED = 15 ∧ n.pair.probation = none ∧ n.on GRD_CTRL.LATCH_TKO = false) := by decide +kernel

theorem met_Guardian_8 :
    (let s : State := st (nd [(GRD_STATUS.STATE, 3), (GRD_STATUS.BLOCKED, 16), (GRD_COMPID.VALUE, 5), (INA_COMPID.VALUE, 5)])
     let n := s.node
     let st := n.rd GRD_STATUS.STATE
     n.running = true ∧ (st = 3 ∨ st = 4)) := by decide +kernel

theorem met_Guardian_9 :
    (let s : State := st { nd [(GRD_STATUS.STATE, 2), (GRD_STATUS.HOLD, 32), (GRD_STATUS.ARMED, 1), (GRD_CYCLE.VALUE, 70)] with grd := { everAligned := true, armedAt := 6 } }
     let n := s.node
     let st := n.rd GRD_STATUS.STATE
     (n.boot.held = false ∧ 32 ≤ n.rd GRD_STATUS.HOLD ∧ n.grd.everAligned = true ∧ (st = 1 ∨ st = 2))
      ∧ (n.boot.held = false ∧ n.on GRD_STATUS.ARMED = true ∧ n.grd.commitAt = none ∧ n.grd.armedAt + 64 ≤ n.rd GRD_CYCLE.VALUE)) := by decide +kernel

theorem met_Guardian_10 :
    (let s : State := st { nd [(GRD_STATUS.STATE, 1), (GRD_STATUS.ARMED, 1), (GRD_ARMID.VALUE, 77)] with grd := { stage := some stg, commitAt := some 0xFFFFFFFF } }
     let g : GrdStage := stg
     let c : Nat := 0xFFFFFFFF
     let n := s.node
     n.boot.held = false ∧ n.grd.commitAt = some c ∧ n.grd.stage = some g ∧ n.ina.plan = none ∧ c < 4294967296) := by decide +kernel

end MetGuardian

namespace MetBeacons

def bcn (c : Nat) : List Byte := let h := [1, 0] ++ leBytes 4 c ++ leBytes 1 (c % 16) ++ [2] ++ leBytes 4 9 ++ leBytes 4 1000 ++ leBytes 8 5 ++ leBytes 8 0 ++ leBytes 2 3 ++ [2, 1] ++ ([4, 0, 255, 1] ++ List.replicate 36 0) ++ [0, 0, 0, 0] ++ List.replicate 28 0; let b := h ++ leBytes 4 (crc32 h); b ++ tag64 (List.replicate 16 7) b

theorem met_Beacons_0 :
    (let s : State := st (com [(INA_STATUS.LEAD, 1), (GRD_STATUS.LEAD, 1), (BAR_CYCLE.VALUE, 0xFFFFFFFF)] { coastRun := 15 })
     let r : BeaconRx := ⟨1, [], 0, 0⟩
     let n := s.node
     let hears := n.on (LINE_CTRL.EN r.att) = true ∧ n.rd (LINE_CTRL.RXMODE r.att) ≠ 0 ∧ n.attShed r.att = false
     let sends := (n.isLead = true ∨ n.on INA_STATUS.DEPUTY = true) ∧ n.committed = true ∧ n.on BAR_CTRL.EN = true ∧ n.posOpen n.cycle 0 = true
     (s.node.running = true)
      ∧ (s.node.running = true ∧ sends)
      ∧ (s.node.running = true ∧ (¬ hears))
      ∧ (s.node.running = true ∧ n.quietAt n.cycle = false ∧ n.bar.coastRun ≠ 2)
      ∧ (s.node.running = true ∧ n.bar.coastRun < 16)) := by decide +kernel

theorem met_Beacons_1 :
    (let s : State := st (com [(INA_STATUS.INAUG, 1)] { coastRun := 15 })
     let r : BeaconRx := ⟨0, bcn 0xFFFFFFFF, 7, 0⟩
     let n := s.node
     let c := le r.bytes 2 4
     let hears := n.on (LINE_CTRL.EN r.att) = true ∧ n.rd (LINE_CTRL.RXMODE r.att) ≠ 0 ∧ n.attShed r.att = false
     let sends := (n.isLead = true ∨ n.on INA_STATUS.DEPUTY = true) ∧ n.committed = true ∧ n.on BAR_CTRL.EN = true ∧ n.posOpen n.cycle 0 = true
     (s.node.running = true ∧ (¬ sends))
      ∧ (s.node.running = true ∧ hears ∧ n.checkBeacon r.bytes = .own ∧ n.on BAR_CTRL.EN = true ∧ n.bar.lastBeacon ≠ some c ∧ n.isLead = false ∧ n.on INA_STATUS.DEPUTY = false ∧ n.inaState = 6 ∧ n.on INA_STATUS.INAUG = true ∧ slice r.bytes 80 28 = List.replicate 28 0)) := by decide +kernel

theorem met_Beacons_2 :
    (let s : State := st (com [] { coastRun := 16 })
     let r : BeaconRx := ⟨0, (bcn 7).take 107 ++ [1] ++ (bcn 7).drop 108, 7, 0⟩
     let n := s.node
     let hears := n.on (LINE_CTRL.EN r.att) = true ∧ n.rd (LINE_CTRL.RXMODE r.att) ≠ 0 ∧ n.attShed r.att = false
     let crcBad := r.bytes.length ≠ 120 ∨ crc32 (r.bytes.take 108) ≠ le r.bytes 108 4
     (s.node.running = true ∧ hears ∧ crcBad)
      ∧ (s.node.running = true ∧ 16 ≤ n.bar.coastRun)) := by decide +kernel

theorem met_Beacons_3 :
    (let s : State := st (com [] { quiet := some 0 })
     let n := s.node
     s.node.running = true ∧ n.quietAt n.cycle = true) := by decide +kernel

end MetBeacons

namespace MetSlotsAndSpares

def slotN (b : BarState) (l : List (Field × Nat) := []) : Node := com (schF 511 0x80000420 2 0 0 ++ [(INA_SELF.VALUE, 0x201), (BAR_STATUS.NODE, 1), (BAR_STATUS.BEACON, 1), (⟨0x4001E100, 0, 32⟩, 0x80000820)] ++ l) b
def slotP (n : Nat) (good : Bool) : List Byte := let h := [2, 2] ++ leBytes 2 511 ++ leBytes 4 0 ++ leBytes 4 9 ++ [2, 0] ++ leBytes 2 n ++ leBytes 8 6 ++ [1] ++ List.replicate 11 0; h ++ (if good then leBytes 4 (crc32 h) else [0, 0, 0, 0])
def ctl : List Byte := let b : List Byte := [8, 0, 1, 0, 0x24, 0, 2, 1, 3, 1, 0, 0]; b ++ leBytes 4 (crc32 b) ++ tag64 (List.replicate 16 7) ((slotP 64 true).take 12 ++ b ++ leBytes 4 (crc32 b))
def seen : UnitSeen := ⟨40, true, [8, 0, 1, 0], [0x24, 0, 2, 1, 3, 1, 0, 0], le ctl 12 4, ctl.drop 16⟩
def conf (r : Byte) (x : List Byte) (uid : Nat) : List Byte := [r] ++ x ++ leBytes 8 uid
def knd (t : Nat) (sent : Option Nat) : Contender := ⟨t, [], 3, sent, 9, 0, 0⟩

theorem met_SlotsAndSpares_0 :
    (let s : State := st (slotN { grants := [511] })
     let entry : Nat := 511
     let node : Nat := 0
     let r : SlotRx := ⟨1, 511, slotP 40 true⟩
     let n := s.node
     let hears := n.on (LINE_CTRL.EN r.att) = true ∧ n.rd (LINE_CTRL.RXMODE r.att) = 1 ∧ n.attShed r.att = false ∧ n.on BAR_CTRL.EN = true
     (s.node.running = true ∧ n.maySlot entry = true)
      ∧ (s.node.running = true ∧ (¬ hears))) := by decide +kernel

theorem met_SlotsAndSpares_1 :
    (let s : State := st (slotN { grants := [511], sentSlots := [511] } [(CLK_STATUS.LINELOCK, 1)])
     let entry : Nat := 511
     let node : Nat := 0
     let r : SlotRx := ⟨0, 511, slotP 40 false⟩
     let n := s.node
     let p := r.payload
     let hears := n.on (LINE_CTRL.EN r.att) = true ∧ n.rd (LINE_CTRL.RXMODE r.att) = 1 ∧ n.attShed r.att = false ∧ n.on BAR_CTRL.EN = true
     let hdr := crc32 (p.take 36) = le p 36 4
     s.node.running = true ∧ hears ∧ n.uce = [] ∧ p.length = 40 ∧ (¬ hdr) ∧ n.on CLK_STATUS.LINELOCK = true ∧ n.handleOf (n.slotSender (r.att.val % 2) r.entry false p) = 255) := by decide +kernel

theorem met_SlotsAndSpares_2 :
    (let s : State := st (slotN { grants := [511] })
     let entry : Nat := 512
     let node : Nat := 0
     let r : SlotRx := ⟨0, 511, slotP 64 true ++ ctl⟩
     let u : UnitSeen := seen
     let n := s.node
     let p := r.payload
     let hears := n.on (LINE_CTRL.EN r.att) = true ∧ n.rd (LINE_CTRL.RXMODE r.att) = 1 ∧ n.attShed r.att = false ∧ n.on BAR_CTRL.EN = true
     let hdr := crc32 (p.take 36) = le p 36 4
     s.node.running = true ∧ hears ∧ n.uce = [] ∧ 40 ≤ p.length ∧ hdr ∧ le p 24 1 % 2 = 1 ∧ walkUnits p (min (le p 14 2) p.length) p.length 40 = [u] ∧ u.control = true ∧ le u.body 0 1 ≠ 1 ∧ le u.body 0 1 ≠ 2 ∧ (r.entry, u.off) ∉ n.bar.taken ∧ crc32 (u.pre ++ u.body) = u.crc ∧ n.bar.key ≠ [] ∧ tag64 n.bar.key (p.take 12 ++ u.pre ++ u.body ++ leBytes 4 u.crc) = u.tag) := by decide +kernel

theorem met_SlotsAndSpares_3 :
    (let s : State := st { slotN { contenders := [knd 0x62 (some 5)] } with otp := [(0, some 6)] }
     let args : List Byte := conf 1 [5, 0, 0, 0] 6
     let node : Nat := 0
     let k : Contender := knd 0x62 (some 5)
     let n := s.node
     let uid := le args 5 8
     let result := le args 0 1
     (s.node.running = true ∧ uid = n.uid ∧ n.bar.contenders = [k] ∧ k.sentIn = some (le args 1 4) ∧ result ≠ 2)
      ∧ (s.node.running = true ∧ (n.bar.contenders.any (fun x => x.type = 0x62) = true))) := by decide +kernel

theorem met_SlotsAndSpares_4 :
    (let s : State := st { slotN { contenders := [knd 0x62 (some 5)] } (schF 3 0x80010420 0 6 0 ++ [(BAR_SPARESTAT.STATE, 3), (BAR_SPARESTAT.ENTRY, 3)]) with otp := [(0, some 6)] }
     let args : List Byte := conf 1 [3, 0, 0, 0] 6
     let node : Nat := 0
     let n := s.node
     let e := le args 1 2 % 512
     let uid := le args 5 8
     s.node.running = true ∧ (n.sch e).kind = 1 ∧ (n.sch e).claimant = uid) := by decide +kernel

theorem met_SlotsAndSpares_5 :
    (let s : State := st { slotN { spares := [⟨511, 6, 0, 0⟩], rcMiss := [(2, 128)] } [(INA_STATUS.LEAD, 1)] with dir := [dirRec 2 6] }
     let args : List Byte := []
     let entry : Nat := 511
     let node : Nat := 0
     let h : SpareHold := ⟨511, 6, 0, 0⟩
     let n := s.node
     let uid := le args 5 8
     (s.node.running = true ∧ n.maySlot entry = false)
      ∧ (s.node.running = true ∧ uid = n.uid)
      ∧ (s.node.running = true ∧ (n.bar.spares.find? (fun x => x.entry = entry) = some h) ∧ n.isLead = true ∧ (128 ≤ Tab.get (fun _ => 0) n.bar.rcMiss (n.numOf h.uid)) ∧ entry < 512)
      ∧ (s.node.running = true)
      ∧ (s.node.running = true ∧ (n.bar.contenders.any (fun x => x.type = 0x62) = false))
      ∧ (s.node.running = true ∧ n.nodeNum ≠ 0 ∧ n.committed = true ∧ n.on BAR_CTRL.EN = true ∧ n.posOpen n.cycle 49 = true ∧ (n.rcGroup 0 n.nodeNum).length = 7)) := by decide +kernel

theorem met_SlotsAndSpares_6 :
    (let s : State := st (slotN { contenders := [knd 0x62 none], contOpen := 4 })
     let node : Nat := 0
     let k : Contender := knd 0x62 none
     let n := s.node
     s.node.running = true ∧ n.on BAR_STATUS.BEACON = true ∧ n.posOpen n.cycle 45 = true ∧ n.bar.contenders = [k] ∧ k.sentIn = none ∧ k.next ≤ n.cycle ∧ n.opens (kindBit k.type) = true ∧ k.type ≠ 0x61 ∧ n.drivers ≠ []) := by decide +kernel

theorem met_SlotsAndSpares_7 :
    (let s : State := st (slotN { contenders := [⟨0x60, [], 5, some 2, 9, 0, 0⟩] } [(BAR_CYCLE.VALUE, 10)])
     let node : Nat := 0
     let k : Contender := ⟨0x60, [], 5, some 2, 9, 0, 0⟩
     let n := s.node
     s.node.running = true ∧ n.bar.contenders = [k] ∧ k.sentIn ≠ none ∧ k.span < n.cycle) := by decide +kernel

theorem met_SlotsAndSpares_8 :
    (let s : State := st (slotN {} [(INA_STATUS.LEAD, 1)])
     let node : Nat := 0
     let f : ContRx := cf 0x62 6 3 2 0 [3, 0]
     let n := s.node
     let b := f.bytes
     let good := n.checkCont b = .good ∧ le b 0 1 = 0x62 ∧ n.isLead = true ∧ n.committed = true
     s.node.running = true ∧ good ∧ n.opens 2 = false) := by decide +kernel

theorem met_SlotsAndSpares_9 :
    (let s : State := st (slotN { contOpen := 4 } [(INA_STATUS.LEAD, 1)])
     let node : Nat := 0
     let f : ContRx := cf 0x62 6 3 2 0 [3, 0]
     let n := s.node
     let b := f.bytes
     let want := le b 22 2 % 512
     let good := n.checkCont b = .good ∧ le b 0 1 = 0x62 ∧ n.isLead = true ∧ n.committed = true
     s.node.running = true ∧ good ∧ n.opens 2 = true ∧ n.ina.plan = none ∧ want ≠ 0x1FF ∧ (n.sch want).openTo (le b 18 2) = false ∧ n.bar.spares = []) := by decide +kernel

theorem met_SlotsAndSpares_10 :
    (let s : State := st { slotN { contOpen := 4 } (schF 3 0x80010420 0 0 0 ++ [(INA_STATUS.LEAD, 1)]) with dir := [dirRec 2 6] }
     let args : List Byte := []
     let node : Nat := 0
     let f : ContRx := cf 0x62 6 3 2 0 [3, 0] 0 3
     let n := s.node
     let uid := le args 5 8
     let b := f.bytes
     let want := le b 22 2 % 512
     let good := n.checkCont b = .good ∧ le b 0 1 = 0x62 ∧ n.isLead = true ∧ n.committed = true
     s.node.running = true ∧ good ∧ n.opens 2 = true ∧ n.ina.plan = none ∧ want ≠ 0x1FF ∧ (n.sch want).openTo (le b 18 2) = true ∧ (n.dir.any (fun q => q.uid = contUid b && !q.reserved) = true)) := by decide +kernel

theorem met_SlotsAndSpares_11 :
    (let s : State := st (slotN { rcMiss := [(128, 16)] } [(BAR_CTRL.RC_MISS, 16)])
     let node : Nat := 128
     let n := s.node
     s.node.running = true ∧ 1 ≤ node ∧ node ≤ 128 ∧ (max 1 (n.rd BAR_CTRL.RC_MISS) ≤ Tab.get (fun _ => 0) n.bar.rcMiss node) ∧ bit (n.rd (BAR_RCABS.BITS ((node - 1) / 32))) ((node - 1) % 32) = false) := by decide +kernel

theorem met_SlotsAndSpares_12 :
    (let s : State := st (slotN { rcMiss := [(1, 15)] } [(BAR_CTRL.RC_MISS, 16), (BAR_CYCLE.VALUE, 1)])
     let node : Nat := 1
     let n := s.node
     s.node.running = true ∧ 1 ≤ node ∧ node ≤ 128 ∧ (Tab.get (fun _ => 0) n.bar.rcMiss node < max 1 (n.rd BAR_CTRL.RC_MISS))) := by decide +kernel

theorem met_SlotsAndSpares_13 :
    (let s : State := st (slotN {})
     let args : List Byte := conf 1 [5, 0, 0, 0] 7
     let node : Nat := 0
     let n := s.node
     let uid := le args 5 8
     (s.node.running = true ∧ uid ≠ n.uid)
      ∧ (s.node.running = true ∧ n.bar.key ≠ [] ∧ n.committed = true ∧ n.bar.rcCycle ≠ some n.cycle ∧ n.dir = [] ∧ n.ina.splitTrig = false)) := by decide +kernel

end MetSlotsAndSpares

namespace MetWalk

def wk (st : Nat) (i : InaState) (l : List (Field × Nat) := []) : Node := { nd ((INA_STATUS.STATE, st) :: l) with ina := i }
def cc (crc total : Nat) : ContRx := cf 0x69 6 100 2 0 (leBytes 4 50 ++ leBytes 4 9 ++ leBytes 8 77 ++ leBytes 4 crc ++ [BitVec.ofNat 8 total, 2])

theorem met_Walk_0 :
    (let s : State := st { nd [] with otp := [(18, some 1)] }
     let n := s.node
     let st := n.inaState
     s.node.running = true ∧ n.keySealed = true ∧ n.rd PAIR_STATUS.STATE ≠ 1 ∧ st = 0) := by decide +kernel

theorem met_Walk_1 :
    (let s : State := st (nd [])
     let f : ContRx := cf 0x66 6 100 2 0 [3]
     let n := s.node
     let st := n.inaState
     s.node.running = true ∧ n.goodCont f 0x66 ∧ st ≠ 3) := by decide +kernel

theorem met_Walk_2 :
    (let s : State := st (wk 1 {})
     let f : ContRx := cf 0x64 6 100 2 0 []
     let n := s.node
     let st := n.inaState
     s.node.running = true ∧ n.goodCont f 0x64 ∧ st = 1) := by decide +kernel

theorem met_Walk_3 :
    (let s : State := st (wk 1 {} [(LINE_STATUS.ZSENSE 1, 1)])
     let n := s.node
     let st := n.inaState
     let i := n.ina
     s.node.running = true ∧ st = 1 ∧ i.heardCand = false) := by decide +kernel

theorem met_Walk_4 :
    (let s : State := st (com [])
     let att : Fin 4 := 2
     let cls : BitVec 2 := 1
     let n := s.node
     let i := n.ina
     s.node.running = true ∧ n.committed = true ∧ i.outward = none ∧ n.rd (LINE_STATUS.ZSENSE att) ≠ cls.toNat) := by decide +kernel

theorem met_Walk_5 :
    (let s : State := st (wk 3 { calling := 2, callDue := true } [(LINE_CTRL.RXMODE 0, 1), (LINE_CTRL.EN 0, 1), (LINE_CTRL.TXEN 0, 1), (GRD_CYCLE.VALUE, 0xFFFFFFFF)])
     let n := s.node
     let st := n.inaState
     let i := n.ina
     (s.node.running = true ∧ n.keySealed = false)
      ∧ (s.node.running = true)
      ∧ (s.node.running = true ∧ (st ≠ 1 ∨ i.heardCand = true))
      ∧ (s.node.running = true ∧ st ≠ 2 ∧ n.committed = false)
      ∧ (s.node.running = true ∧ st = 3 ∧ i.walkEnded = false ∧ i.plan = none ∧ i.calling ≠ 0 ∧ i.callDue = true ∧ n.drivers ≠ [])
      ∧ (s.node.running = true ∧ st ≠ 4 ∧ st ≠ 2)) := by decide +kernel

theorem met_Walk_6 :
    (let s : State := st (wk 2 {})
     let f : ContRx := cf 0x64 6 100 2 0 []
     let n := s.node
     let st := n.inaState
     let i := n.ina
     let b := f.bytes
     let uid := contUid b
     (s.node.running = true ∧ st ≠ 3)
      ∧ (s.node.running = true ∧ n.goodCont f 0x64 ∧ st = 2 ∧ (i.walkUid = uid ∨ i.walkUid = 0))) := by decide +kernel

theorem met_Walk_7 :
    (let s : State := st (wk 3 { walkUid := 6, walkPrio := 0 })
     let f : ContRx := cf 0x64 6 100 2 1 []
     let n := s.node
     let st := n.inaState
     let i := n.ina
     let b := f.bytes
     let uid := contUid b
     s.node.running = true ∧ n.goodCont f 0x64 ∧ st = 3 ∧ uid ≠ 0 ∧ stronger (contPrio b) uid i.walkPrio i.walkUid = true) := by decide +kernel

theorem met_Walk_8 :
    (let s : State := st (wk 2 { answers := [2, 4] })
     let f : ContRx := cf 0x65 6 100 2 0 [3] 2
     let n := s.node
     let st := n.inaState
     let i := n.ina
     let b := f.bytes
     let uid := contUid b
     let num := le b 22 1
     s.node.running = true ∧ n.goodCont f 0x65 ∧ st = 2 ∧ (i.walkUid = 0 ∨ i.walkUid = uid) ∧ num ∉ i.answers ∧ num ≠ 0) := by decide +kernel

theorem met_Walk_9 :
    (let s : State := st (wk 3 { calling := 127, cars := 63, recs := [dirRec 1 0 true] })
     let f : ContRx := cf 0x66 6 100 2 0 [127] 0 2 40000
     let n := s.node
     let st := n.inaState
     let i := n.ina
     let b := f.bytes
     let num := le b 22 1
     s.node.running = true ∧ n.goodCont f 0x66 ∧ st = 3 ∧ i.walkEnded = false ∧ num = i.calling ∧ ((∀ r, r ∈ i.recs → r.num ≠ num)) ∧ le b 24 8 = 0 ∧ i.cars < 64 ∧ num ≠ 128) := by decide +kernel

theorem met_Walk_10 :
    (let s : State := st (wk 3 { calling := 127, attempt := 2 })
     let n := s.node
     let st := n.inaState
     let i := n.ina
     s.node.running = true ∧ st = 3 ∧ i.walkEnded = false ∧ i.calling ≠ 0 ∧ i.callDue = false ∧ i.attempt < 3) := by decide +kernel

theorem met_Walk_11 :
    (let s : State := st (wk 3 { calling := 127, attempt := 3 })
     let n := s.node
     let st := n.inaState
     let i := n.ina
     s.node.running = true ∧ st = 3 ∧ i.walkEnded = false ∧ i.calling ≠ 0 ∧ i.callDue = false ∧ 3 ≤ i.attempt) := by decide +kernel

theorem met_Walk_12 :
    (let s : State := st (wk 4 { walkUid := 6, taken := 2, heardAt := 2 })
     let f : ContRx := cf 0x67 6 100 2 0 [2]
     let n := s.node
     let st := n.inaState
     let i := n.ina
     let b := f.bytes
     let uid := contUid b
     let num := le b 22 1
     s.node.running = true ∧ n.goodCont f 0x67 ∧ st = 4 ∧ i.walkUid = uid ∧ i.taken = num) := by decide +kernel

theorem met_Walk_13 :
    (let s : State := st (wk 4 {} [(LINE_STATUS.ZSENSE 0, 1)])
     let n := s.node
     let st := n.inaState
     s.node.running = true ∧ st = 4) := by decide +kernel

theorem met_Walk_15 :
    (let s : State := st (wk 4 { walkUid := 6 })
     let f : ContRx := cf 0x68 6 100 2 0 [2, 2, 2]
     let n := s.node
     let st := n.inaState
     let i := n.ina
     let b := f.bytes
     let uid := contUid b
     s.node.running = true ∧ n.goodCont f 0x68 ∧ st = 4 ∧ i.walkUid = uid) := by decide +kernel

theorem met_Walk_16 :
    (let s : State := st (wk 4 { walkUid := 6, dirNew := [dirRec 1 6 true, dirRec 2 0] })
     let f : ContRx := cc (schCrc []) 2
     let n := s.node
     let st := n.inaState
     let i := n.ina
     let b := f.bytes
     let uid := contUid b
     let sch := n.schFor 0 i.dirNew
     s.node.running = true ∧ n.goodCont f 0x69 ∧ st = 4 ∧ i.walkUid = uid ∧ i.plan = none ∧ (i.dirNew.any (fun r => r.uid = n.uid && !r.reserved) = true) ∧ i.dirNew.length = le b 42 1 ∧ anyConflict sch.1 = false ∧ schCrc sch.1 = le b 38 4 ∧ n.cycle + 2 ≤ le b 22 4) := by decide +kernel

theorem met_Walk_17 :
    (let s : State := st (wk 4 { walkUid := 6, dirNew := [dirRec 1 6 true] })
     let f : ContRx := cc (schCrc []) 2
     let n := s.node
     let st := n.inaState
     let i := n.ina
     let b := f.bytes
     let uid := contUid b
     s.node.running = true ∧ n.goodCont f 0x69 ∧ st = 4 ∧ i.walkUid = uid ∧ i.plan = none ∧ (i.dirNew.any (fun r => r.uid = n.uid) = false)) := by decide +kernel

theorem met_Walk_18 :
    (let s : State := st (wk 4 { walkUid := 6, dirNew := [dirRec 1 6 true, dirRec 2 0] })
     let f : ContRx := cc 1 2
     let n := s.node
     let st := n.inaState
     let i := n.ina
     let b := f.bytes
     let uid := contUid b
     let sch := n.schFor 0 i.dirNew
     s.node.running = true ∧ n.goodCont f 0x69 ∧ st = 4 ∧ i.walkUid = uid ∧ i.plan = none ∧ (i.dirNew.any (fun r => r.uid = n.uid) = true) ∧ i.dirNew.length = le b 42 1 ∧ schCrc sch.1 ≠ le b 38 4) := by decide +kernel

end MetWalk

namespace MetCommits

def ca (m id gen kind total cars : Nat) : List Byte := leBytes 4 m ++ leBytes 4 id ++ leBytes 2 gen ++ leBytes 1 kind ++ leBytes 1 total ++ leBytes 1 cars
def cp (m takes : Nat) (ready keyed : Bool) (kind : Nat := 3) (dir : List DirRec := [dirRec 1 6, dirRec 2 0 true]) : CommitPlan := ⟨m, takes, 8, 77, 5, kind, 2, 2, schCrc [], keyed, ready, dir, [], []⟩
def cl (i : InaState) (b : BarState := {}) (l : List (Field × Nat) := []) (lead : Bool := true) : Node := { com ([(INA_STATUS.LEAD, if lead then 1 else 0), (BAR_CYCLE.VALUE, 100)] ++ l) b with ina := i, dir := [dirRec 1 0 true, dirRec 2 6, dirRec 3 7] }
def hf (kind uid : Nat) : ContRx := let head := leBytes 1 kind ++ [1] ++ leBytes 8 uid ++ leBytes 4 9 ++ leBytes 4 99 ++ [0, 2, 4, 0] ++ List.replicate 22 0; let body := head ++ leBytes 4 (crc32 head); ⟨0, 0, body ++ tag64 ((nd []).compKey 9 0) body, 500⟩

theorem met_Commits_1 :
    (let s : State := st { nd [] with ina := { plan := some (cp 90 100 false false) } }
     let args : List Byte := leBytes 8 77 ++ leBytes 4 0xFFFFFFFF ++ [0]
     let p : CommitPlan := cp 90 100 false false
     let n := s.node
     let i := n.ina
     (s.node.running = true ∧ n.isLead = false ∧ le args 10 1 ≠ 2)
      ∧ (s.node.running = true ∧ i.plan = some p ∧ p.keyed = false ∧ i.dirSum = none)
      ∧ (s.node.running = true ∧ n.isLead = false)) := by decide +kernel

theorem met_Commits_2 :
    (let s : State := st (nd [])
     let args : List Byte := [0, 0, 0, 0] ++ leBytes 4 125000 ++ [0, 0, 0, 0, 0]
     s.node.running = true ∧ 125000 ≤ le args 4 4 ∧ le args 4 4 ≤ 375000) := by decide +kernel

theorem met_Commits_5 :
    (let s : State := st { cl {} with ina := { coldAt := some 100 } }
     let c : Nat := 100
     let n := s.node
     let i := n.ina
     s.node.running = true ∧ i.coldAt = some c ∧ c ≤ n.cycle) := by decide +kernel

theorem met_Commits_6 :
    (let s : State := st { cl {} with ina := { coldAt := some 101 } }
     let c : Nat := 101
     let n := s.node
     let i := n.ina
     s.node.running = true ∧ i.coldAt = some c ∧ n.cycle < c) := by decide +kernel

theorem met_Commits_7 :
    (let s : State := st (cl {})
     let n := s.node
     let i := n.ina
     let lead := n.isLead = true ∧ n.committed = true ∧ i.plan = none
     let fits := fun (kind : Nat) (dir : List DirRec) => anyConflict (n.schFor kind dir).1 = false
     (s.node.running = true ∧ i.plan = none)
      ∧ (s.node.running = true ∧ lead)
      ∧ (s.node.running = true ∧ lead ∧ fits 3 n.renumbered)) := by decide +kernel

theorem met_Commits_9 :
    (let s : State := st (cl { splitTrig := true })
     let n := s.node
     let i := n.ina
     let lead := n.isLead = true ∧ n.committed = true ∧ i.plan = none
     let fits := fun (kind : Nat) (dir : List DirRec) => anyConflict (n.schFor kind dir).1 = false
     s.node.running = true ∧ lead ∧ fits 3 n.renumbered ∧ i.splitTrig = true) := by decide +kernel

theorem met_Commits_10 :
    (let s : State := st (cl {} { contOpen := 1 })
     let f : ContRx := { cf 0x60 6 99 2 4 [7] with comb := 500 }
     let r : DirRec := dirRec 2 6
     let n := s.node
     let i := n.ina
     let uid := contUid f.bytes
     let lead := n.isLead = true ∧ n.committed = true ∧ i.plan = none
     let fits := fun (kind : Nat) (dir : List DirRec) => anyConflict (n.schFor kind dir).1 = false
     let joined := markEnds (n.dir.map (fun x => if x.uid = uid then
      { x with
        reserved := false, sideB := bit (le f.bytes 30 1) 2, role := bits (le f.bytes 30 1) 0 2
        delay := if r.lead then 0 else delayOf f.comb, prio := contPrio f.bytes, cls := le f.bytes 31 2 } else x))
     s.node.running = true ∧ n.goodCont f 0x60 ∧ lead ∧ n.opens 0 = true ∧ (n.dir.find? (fun x => x.uid = uid) = some r) ∧ fits 1 joined) := by decide +kernel

theorem met_Commits_11 :
    (let s : State := st (cl {} { contOpen := 8 })
     let f : ContRx := hf 0x63 6
     let n := s.node
     let i := n.ina
     let uid := contUid f.bytes
     let lead := n.isLead = true ∧ n.committed = true ∧ i.plan = none
     let fits := fun (kind : Nat) (dir : List DirRec) => anyConflict (n.schFor kind dir).1 = false
     let renewed := markEnds (n.dir.map (fun x => if x.uid = uid then { x with prio := contPrio f.bytes, reserved := false } else x))
     s.node.running = true ∧ n.goodCont f 0x63 ∧ lead ∧ n.opens 3 = true ∧ (n.dir.any (fun x => x.uid = uid) = true) ∧ fits 1 renewed) := by decide +kernel

theorem met_Commits_12 :
    (let s : State := st (cl { genMisRun := 16 } {} [] false)
     let n := s.node
     let i := n.ina
     s.node.running = true ∧ n.inaState = 6 ∧ 16 ≤ i.genMisRun ∧ (n.bar.contenders.any (fun k => k.type = 0x63) = false)) := by decide +kernel

theorem met_Commits_13 :
    (let s : State := st (cl { plan := some (cp 100 110 true true) })
     let args : List Byte := []
     let f : ContRx := ⟨0, 0, [], 0⟩
     let p : CommitPlan := cp 100 110 true true
     let r : DirRec := dirRec 2 0 true
     let n := s.node
     let i := n.ina
     let uid := contUid f.bytes
     (s.node.running = true ∧ (le args 4 4 < 125000 ∨ 375000 < le args 4 4))
      ∧ (s.node.running = true)
      ∧ (s.node.running = true ∧ i.splitTrig = false)
      ∧ (s.node.running = true ∧ i.plan = some p ∧ p.ready = true ∧ n.cycle = p.m ∧ (p.dir.find? (fun x => x.uid = n.uid && !x.reserved) = some r) ∧ p.newId < 4294967296 ∧ p.takes < 4294967296 ∧ p.gen < 65536 ∧ r.num < 256)) := by decide +kernel

end MetCommits

namespace MetDirectoryUnits

def dn (l : List (Field × Nat) := []) : Node := { com l { leadNum := 1 } with dir := [dirRec 1 5 true, dirRec 2 6] }

theorem met_DirectoryUnits_0 :
    (let s : State := st (dn [(INA_STATUS.LEAD, 1)])
     let u : UnitRx := ⟨2, .a, [0x31, 1, 0, 0, 0xF4, 0xFF, 0x0F, 1, 12, 0, 2, 0]⟩
     let p : Nat × Nat × Nat × Nat × Bool := (0xFFFF4, 1, 12, 2, false)
     let n := s.node
     let b := u.body
     let fromLead := u.node = n.bar.leadNum
     (s.node.running = true ∧ pubRecords b = [p] ∧ n.sig.pubs = [] ∧ p.2.2.1 ≠ 0 ∧ n.isLead = true ∧ n.uidOf u.node ≠ 0)
      ∧ (s.node.running = true ∧ (¬ fromLead))) := by decide +kernel

theorem met_DirectoryUnits_1 :
    (let s : State := st (dn)
     let u : UnitRx := ⟨1, .a, [0x34, 1, 0, 0, 0xF4, 0xFF, 0x0F, 1, 12, 0, 2, 1]⟩
     let p : Nat × Nat × Nat × Nat × Bool := (0xFFFF4, 1, 12, 2, true)
     let n := s.node
     let b := u.body
     let fromLead := u.node = n.bar.leadNum
     (s.node.running = true ∧ pubRecords b = [p] ∧ n.sig.pubs = [] ∧ p.2.2.1 ≠ 0 ∧ fromLead ∧ n.uidOf p.2.2.2.1 ≠ 0)
      ∧ (s.node.running = true ∧ n.isLead = false)) := by decide +kernel

theorem met_DirectoryUnits_2 :
    (let s : State := st (dn [(INA_STATUS.LEAD, 1)])
     let u : UnitRx := ⟨2, .b, [0x32, 1, 0, 0, 0xFF, 0x1F, 2, 0]⟩
     let q : Nat × Nat × Nat × Bool := (4095, 1, 2, false)
     let n := s.node
     let b := u.body
     s.node.running = true ∧ streamRecords b = [q] ∧ n.aud.streams = [] ∧ n.isLead = true ∧ n.uidOf u.node ≠ 0) := by decide +kernel

theorem met_DirectoryUnits_3 :
    (let s : State := st (dn)
     let u : UnitRx := ⟨1, .b, [0x33, 1, 0, 0, 0xFF, 0x1F, 2, 1]⟩
     let q : Nat × Nat × Nat × Bool := (4095, 1, 2, true)
     let n := s.node
     let b := u.body
     let fromLead := u.node = n.bar.leadNum
     s.node.running = true ∧ streamRecords b = [q] ∧ n.aud.streams = [] ∧ fromLead ∧ n.uidOf q.2.2.1 ≠ 0) := by decide +kernel

theorem met_DirectoryUnits_4 :
    (let s : State := st (dn)
     let u : UnitRx := ⟨1, .a, [0x30, 1, 0, 0, 2, 2, 2, 0, 5, 0, 6, 0, 6, 0, 0, 0, 0, 0, 0, 0]⟩
     let n := s.node
     let i := n.ina
     let b := u.body
     let fromLead := u.node = n.bar.leadNum
     (s.node.running = true ∧ le b 1 1 = 1 ∧ b.length = 20 ∧ fromLead ∧ i.plan = none)
      ∧ (s.node.running = true ∧ b.length = 20 ∧ fromLead ∧ i.plan = none)) := by decide +kernel

end MetDirectoryUnits

namespace MetMerging

def jf (type id nonce prio : Nat) (spec : List Byte) (att cell : Fin 4 := 0) (comb : Int := 0) : ContRx := let head := leBytes 1 type ++ [1] ++ leBytes 8 6 ++ leBytes 4 id ++ leBytes 4 50 ++ [0, 2] ++ leBytes 1 prio ++ [0] ++ (spec ++ List.replicate 22 0).take 22; let body := head ++ leBytes 4 (crc32 head); ⟨att, cell, body ++ tag64 ((nd []).compKey id nonce) body, comb⟩
def jn (prio : Nat) (total : Nat := 1) (recs : List DirRec := []) (own : Nat := 1) : Junction := ⟨3, 77, prio, total, 1, 0, false, false, 0, 0, recs, some 500, 0, own, 50, 100⟩
def mg (wins acked : Bool) (ca : Bool := false) : MergeRun := { MergeRun.empty with wins := wins, acked := acked, newId := 8, zA := 100, zB := 100, juncNode1 := 1, juncNode2 := 2, closedA := ca, sentAt := 92 }
def mn (i : InaState) (l : List (Field × Nat) := []) (b : BarState := {}) : Node := { com ([(BAR_CYCLE.VALUE, 100), (INA_STATUS.END, 1), (BAR_STATUS.NODE, 1), (⟨0x40010400, 0, 8⟩, 1), (INA_CTRL.MERGE_EN, 1)] ++ l) b with ina := i, dir := [dirRec 1 0 true, dirRec 2 6] }
def jb : List Byte := leBytes 8 77 ++ leBytes 4 1000 ++ leBytes 4 5 ++ [2, 2, 8] ++ [7, 0]

theorem met_Merging_0 :
    (let s : State := st (mn { merge := some (mg true true), outward := some 2 } [(INA_STATUS.MPHASE, 4), (LINE_CTRL.RELAY_OPEN 0, 1)])
     let att : Fin 4 := 0
     let g : MergeRun := mg true true
     let n := s.node
     let i := n.ina
     let ph := n.rd INA_STATUS.MPHASE
     let last := (Tab.get (fun _ => (0, 0, 0)) n.bar.foreign att.val).2.2
     (s.node.running = true ∧ i.merge = some g ∧ n.rd INA_STATUS.MPHASE = 4 ∧ g.closedA = false ∧ g.zA ≤ n.cycle)
      ∧ (s.node.running = true ∧ last + 16 ≤ n.cycle)
      ∧ (s.node.running = true ∧ 4 ≤ ph)
      ∧ (s.node.running = true ∧ n.isLead = false)) := by decide +kernel

theorem met_Merging_2 :
    (let s : State := st (mn { merge := some (mg true true true), outward := some 2, junction := some (jn 2) } [(INA_STATUS.MPHASE, 5), (INA_STATUS.STATE, 7), (INA_STATUS.DEPUTY, 1), (LINE_CTRL.RELAY_OPEN 1, 1)])
     let g : MergeRun := mg true true true
     let n := s.node
     let i := n.ina
     s.node.running = true ∧ i.merge = some g ∧ n.rd INA_STATUS.MPHASE = 5 ∧ g.closedA = true ∧ g.closedB = false ∧ g.zB ≤ n.cycle) := by decide +kernel

theorem met_Merging_4 :
    (let s : State := st (mn { outward := some 2, junction := some (jn 2), juncFrame := [1, 2] } [(LINE_STATUS.FOREIGN_RUN 3, 8)])
     let att : Fin 4 := 3
     let j : Junction := jn 2
     let n := s.node
     let i := n.ina
     let ph := n.rd INA_STATUS.MPHASE
     (s.node.running = true ∧ i.merge = none)
      ∧ (s.node.running = true ∧ n.outAtt = some att.val ∧ 8 ≤ n.rd (LINE_STATUS.FOREIGN_RUN att) ∧ i.merge = none ∧ n.committed = true ∧ i.junction = some j ∧ n.isLead = false ∧ n.lull.ring = none)
      ∧ (s.node.running = true ∧ ph < 4)) := by decide +kernel

theorem met_Merging_5 :
    (let s : State := st (mn { outward := some 2, outFrames := [(0x6B, [1, 2, 3])] })
     let att : Fin 4 := 3
     let x : Nat × List Byte := (0x6B, [1, 2, 3])
     let n := s.node
     let i := n.ina
     let ph := n.rd INA_STATUS.MPHASE
     let mayBe := n.outAtt = some att.val ∧ n.committed = true ∧ n.on INA_STATUS.END = true ∧ ph < 4
     s.node.running = true ∧ mayBe ∧ i.outFrames = [x] ∧ i.junction = none) := by decide +kernel

theorem met_Merging_6 :
    (let s : State := st (mn { outward := some 0 })
     let att : Fin 4 := 1
     let n := s.node
     let i := n.ina
     let ph := n.rd INA_STATUS.MPHASE
     let mayBe := n.outAtt = some att.val ∧ n.committed = true ∧ n.on INA_STATUS.END = true ∧ ph < 4
     s.node.running = true ∧ mayBe ∧ i.outFrames = [] ∧ i.junction = none) := by decide +kernel

theorem met_Merging_7 :
    (let s : State := st (nd [(INA_STATUS.STATE, 1)])
     let f : ContRx := jf 0x6A 3 77 4 jb
     let n := s.node
     s.node.running = true ∧ n.goodCont f 0x6A ∧ n.inaState = 1) := by decide +kernel

theorem met_Merging_8 :
    (let s : State := st (mn { outward := some 0 } [(LINE_CTRL.SIDE 1, 2)])
     let f : ContRx := jf 0x6A 3 77 4 jb 1 1 400
     let att : Fin 4 := 0
     let n := s.node
     let b := f.bytes
     let ph := n.rd INA_STATUS.MPHASE
     let was := Tab.get (fun _ => (0, 0, 0)) n.bar.foreign f.att.val
     let run := if was.1 = le b 10 4 ∧ n.cycle < was.2.2 + 16 then min 255 (n.rd (LINE_STATUS.FOREIGN_RUN f.att) + 1) else 1
     s.node.running = true ∧ n.goodCont f 0x6A ∧ n.committed = true ∧ ph < 4 ∧ n.rd (LINE_CTRL.SIDE f.att) = 2 ∧ run ≠ 8) := by decide +kernel

theorem met_Merging_11 :
    (let s : State := st (mn { outward := some 0 } [(LINE_STATUS.FOREIGN_RUN 1, 8)] { foreign := [(1, (3, 6, 85))] })
     let att : Fin 4 := 1
     let n := s.node
     let last := (Tab.get (fun _ => (0, 0, 0)) n.bar.foreign att.val).2.2
     s.node.running = true ∧ n.cycle < last + 16) := by decide +kernel

theorem met_Merging_12 :
    (let s : State := st (mn { merge := some (mg true true), junction := some (jn 2), plan := some ⟨0, 0, 0, 0, 0, 2, 0, 0, 0, false, false, [], [], []⟩ } [(INA_STATUS.MPHASE, 3), (INA_STATUS.STATE, 7), (INA_STATUS.INAUG, 1)])
     let n := s.node
     s.node.running = true ∧ n.outAtt = none) := by decide +kernel

theorem met_Merging_14 :
    (let s : State := st (mn { junction := some (jn 2) })
     let f : ContRx := jf 0x6B 3 77 4 ([2, 2, 2] ++ List.replicate 13 0 ++ [1])
     let n := s.node
     s.node.running = true ∧ n.isLead = false ∧ n.goodCont f 0x6B) := by decide +kernel

theorem met_Merging_15 :
    (let s : State := st (mn { junction := some (jn 2) })
     let f : ContRx := jf 0x6C 3 77 4 []
     let n := s.node
     s.node.running = true ∧ n.isLead = false ∧ n.goodCont f 0x6C) := by decide +kernel

theorem met_Merging_16 :
    (let s : State := st (mn { junction := some (jn 2) })
     let f : ContRx := jf 0x6D 3 77 4 []
     let n := s.node
     let b := f.bytes
     s.node.running = true ∧ n.isLead = false ∧ n.goodCont f 0x6D ∧ le b 26 1 = 0) := by decide +kernel

theorem met_Merging_17 :
    (let s : State := st (mn { junction := some { jn 0 2 with id := 3 } } [(INA_STATUS.LEAD, 1)])
     let f : ContRx := jf 0x6B 3 77 4 ([2, 2, 2] ++ List.replicate 13 0 ++ [2])
     let j : Junction := jn 0 2
     let n := s.node
     let i := n.ina
     s.node.running = true ∧ n.isLead = true ∧ n.goodCont f 0x6B ∧ i.junction = some j ∧ n.winsOver j = false) := by decide +kernel

theorem met_Merging_18 :
    (let s : State := st (mn {} [(INA_STATUS.LEAD, 1)])
     let u : UnitRx := ⟨2, .a, [0x37, 0, 0, 0] ++ (jf 0x6A 3 77 0 jb).bytes⟩
     let n := s.node
     let i := n.ina
     let r := u.body.drop 4
     let jr := juncOf r i.junction 0 u.node n.cycle none
     s.node.running = true ∧ n.isLead = true ∧ u.body.length = 60 ∧ le r 0 1 = 0x6A ∧ n.winsOver jr = false) := by decide +kernel

theorem met_Merging_19 :
    (let s : State := st (mn { outward := some 0 } [] { leadNum := 1 })
     let u : UnitRx := ⟨1, .a, [0x38, 0, 0, 0] ++ (List.replicate 22 5) ++ [0x6C]⟩
     let att : Fin 4 := 1
     let n := s.node
     s.node.running = true ∧ u.node = n.bar.leadNum ∧ n.outAtt = some att.val ∧ u.body.length = 27 ∧ le u.body 26 1 ≠ 0x6D) := by decide +kernel

theorem met_Merging_20 :
    (let s : State := st (mn { junction := some (jn 0) } [(INA_STATUS.LEAD, 1)])
     let f : ContRx := jf 0x6C 3 77 4 (leBytes 4 8 ++ leBytes 8 7 ++ leBytes 4 60 ++ leBytes 4 76 ++ [5, 0])
     let j : Junction := jn 0
     let n := s.node
     let i := n.ina
     s.node.running = true ∧ n.isLead = true ∧ n.goodCont f 0x6C ∧ i.junction = some j ∧ n.winsOver j = false ∧ n.mergeVerdict { j with busy := false } ≠ 0) := by decide +kernel

theorem met_Merging_21 :
    (let s : State := st (mn { junction := some (jn 5), merge := some (mg true false) } [(INA_STATUS.LEAD, 1), (INA_STATUS.MPHASE, 3), (INA_STATUS.STATE, 7)])
     let f : ContRx := jf 0x6D 3 77 4 (leBytes 4 8 ++ [3])
     let j : Junction := jn 5
     let g : MergeRun := mg true false
     let n := s.node
     let i := n.ina
     let b := f.bytes
     s.node.running = true ∧ n.isLead = true ∧ n.goodCont f 0x6D ∧ i.junction = some j ∧ i.merge = some g ∧ g.wins = true ∧ g.acked = false ∧ le b 26 1 ≠ 0 ∧ le b 26 1 < 8) := by decide +kernel

theorem met_Merging_22 :
    (let s : State := st (mn { junction := some (jn 5), merge := some (mg true false) } [(INA_STATUS.LEAD, 1), (INA_STATUS.MPHASE, 3)])
     let f : ContRx := jf 0x6D 3 77 4 (leBytes 4 8 ++ [0])
     let j : Junction := jn 5
     let g : MergeRun := mg true false
     let n := s.node
     let i := n.ina
     let b := f.bytes
     s.node.running = true ∧ n.isLead = true ∧ n.goodCont f 0x6D ∧ i.junction = some j ∧ i.merge = some g ∧ g.wins = true ∧ g.acked = false ∧ le b 26 1 = 0 ∧ le b 22 4 = g.newId) := by decide +kernel

theorem met_Merging_23 :
    (let s : State := st (mn { junction := some (jn 5), merge := some (mg true false) } [(INA_STATUS.LEAD, 1), (INA_STATUS.MPHASE, 3)])
     let j : Junction := jn 5
     let g : MergeRun := mg true false
     let n := s.node
     let i := n.ina
     s.node.running = true ∧ i.junction = some j ∧ i.merge = some g ∧ g.wins = true ∧ g.acked = false ∧ g.sentAt + 8 ≤ n.cycle ∧ j.own = n.nodeNum) := by decide +kernel

theorem met_Merging_24 :
    (let s : State := st (mn { junction := some (jn 5), merge := some { mg true false with sentAt := 93 } } [(INA_STATUS.LEAD, 1), (INA_STATUS.MPHASE, 3)])
     let j : Junction := jn 5
     let g : MergeRun := { mg true false with sentAt := 93 }
     let n := s.node
     let i := n.ina
     s.node.running = true ∧ i.junction = some j ∧ i.merge = some g ∧ g.wins = true ∧ g.acked = false ∧ n.cycle < g.sentAt + 8) := by decide +kernel

end MetMerging

namespace MetRegisterSpace

def rs0 (l : List (Field × Nat) := []) : Node := nd ([(SYS_CNT_HOSTOK.VALUE, 4), (SYS_HOSTSTAT.NEXT, 0xA5)] ++ l)

theorem met_RegisterSpace_0 :
    (let s : State := st (nd [(MSG_EVT.FULL, 1), (MSG_EVT.NOFLOW, 1)])
     let a : Nat := MSG_EVT.FULL.addr
     let d : RegSpec := (specOf MSG_EVT.FULL.addr).getD ⟨0, 0, 0, 0, 0, 0, 0, 0, 0⟩
     (s.node.running = true ∧ a ∈ eventWords ∧ specOf a = some d)
      ∧ (s.node.running = true ∧ clearOf a = none)) := by decide +kernel

theorem met_RegisterSpace_1 :
    (let s : State := st (nd [(SYS_CNT_UNASSIGN.VALUE, 0xFFFFFFFF)])
     let a : Nat := 0x40010FFC
     s.node.running = true ∧ isReg a = true ∧ inBlock a = true ∧ a % 4 = 0 ∧ specOf a = none) := by decide +kernel

theorem met_RegisterSpace_2 :
    (let s : State := st (nd [])
     let a : Nat := 0x10000000
     s.node.running = true ∧ (isReg a = false ∨ inBlock a = false ∨ a % 4 ≠ 0)) := by decide +kernel

theorem met_RegisterSpace_3 :
    (let s : State := st { nd [] with regs := [(0x40013080, 5), (0x40013098, 7)] }
     let a : Nat := 0x4001309C
     let bs : List Byte := []
     let r : ClearRow := ⟨0x4001009C, 4, 0x1000, 0x40010080, 7⟩
     let i : Nat := 3
     (s.node.running = true ∧ r ∈ clearRows ∧ i < r.insts ∧ a = r.addr + r.instStride * i)
      ∧ (s.node.running = true ∧ bs.length < hostLength bs)) := by decide +kernel

theorem met_RegisterSpace_4 :
    (let s : State := st (rs0)
     let bs : List Byte := tx [1, 0, 0x20, 0x38, 0, 0, 0xDE, 0xAD, 0xBE, 0xEF]
     let n := s.node
     let w := be bs 2 4
     let whole := fun (cmd : Nat) => be bs 0 1 = cmd ∧ hostLength bs ≤ bs.length ∧ hostCrcOk bs = true
     let one := hostWords bs = 1 ∧ w % 4 = 0
     (s.node.running = true ∧ whole 1 ∧ one ∧ n.uce = [] ∧ n.sramMay .host w 4 = true)
      ∧ (s.node.running = true ∧ hostLength bs ≤ bs.length)) := by decide +kernel

theorem met_RegisterSpace_5 :
    (let s : State := st (rs0)
     let bs : List Byte := tx [1, 0, 0x20, 0x38, 0, 1, 0xDE, 0xAD, 0xBE, 0xEF]
     let n := s.node
     let w := be bs 2 4
     let whole := fun (cmd : Nat) => be bs 0 1 = cmd ∧ hostLength bs ≤ bs.length ∧ hostCrcOk bs = true
     s.node.running = true ∧ whole 1 ∧ hostWords bs = 1 ∧ (n.hostMayWrite .host w = false ∨ w % 4 ≠ 0)) := by decide +kernel

theorem met_RegisterSpace_6 :
    (let s : State := st (rs0 [(BAR_CYCLE.VALUE, 0x01020304)])
     let bs : List Byte := tx ([2, 0] ++ beBytes 4 BAR_CYCLE.VALUE.addr)
     let w := be bs 2 4
     let whole := fun (cmd : Nat) => be bs 0 1 = cmd ∧ hostLength bs ≤ bs.length ∧ hostCrcOk bs = true
     let one := hostWords bs = 1 ∧ w % 4 = 0
     s.node.running = true ∧ whole 2 ∧ one ∧ isReg w = true ∧ inBlock w = true ∧ (specOf w).isSome = true ∧ w ≠ MSG_HGET.DESC.addr ∧ w ≠ EVR_CLRCHAL_LO.VALUE.addr) := by decide +kernel

theorem met_RegisterSpace_7 :
    (let s : State := st (rs0)
     let bs : List Byte := tx [2, 0, 0x10, 0, 0, 0]
     let w := be bs 2 4
     let whole := fun (cmd : Nat) => be bs 0 1 = cmd ∧ hostLength bs ≤ bs.length ∧ hostCrcOk bs = true
     let one := hostWords bs = 1 ∧ w % 4 = 0
     s.node.running = true ∧ whole 2 ∧ one ∧ isReg w = false ∧ isSram w = false) := by decide +kernel

theorem met_RegisterSpace_8 :
    (let s : State := st (rs0)
     let bs : List Byte := tx [3, 0, 0, 0, 0, 0]
     let whole := fun (cmd : Nat) => be bs 0 1 = cmd ∧ hostLength bs ≤ bs.length ∧ hostCrcOk bs = true
     s.node.running = true ∧ whole 3) := by decide +kernel

theorem met_RegisterSpace_9 :
    (let s : State := st (rs0)
     let bs : List Byte := [3, 0, 0, 0, 0, 0, 0, 0]
     s.node.running = true ∧ be bs 0 1 = 3 ∧ hostLength bs ≤ bs.length ∧ hostCrcOk bs = false) := by decide +kernel

end MetRegisterSpace

namespace MetMessagesSent

def om (seq : Nat) (acc tr : Bool := true) (held dl kl : Nat := 0) (killing : Bool := false) (life : Nat := 0) (ex : Option Nat := none) : OutMsg := { outMsg seq 64 with accepted := acc, transmitted := tr, held := held, delivered := dl, killed := kl, killing := killing, life := life, expire := ex }
def mo (o : Tab (List OutMsg)) (l : List (Field × Nat) := []) (m : MsgState := {}) : Node := { nd (l ++ [(MSG_CTRL.EN, 1), (MSG_CTRL.PERSIST, 1), (QSPI_STATUS.READY 1, 1), (MSG_OFW0.DKIND 255, 1), (MSG_OFW0.OWNER 255, 8), (MSG_OFW1.DEST_LO 255, 6), (MSG_HPUT0.FLOW, 255), (MSG_HPUT0.LENGTH, 64), (MSG_HWDR0.FLOW, 255), (MSG_HPUT1.ADDR, 0x20380000), (MSG_OFW4.NEXTSEQ 255, 0xFFFFFFFF)]) with msg := { m with out := o } }

theorem met_MessagesSent_0 :
    (let s : State := st { nd [(MSG_OFSEL.FLOW, 255)] with otp := [(0, some 6)] }
     let n := s.node
     let ring := n.on MSG_CTRL.PERSIST = true ∧ n.on (QSPI_STATUS.READY 1) = true
     s.node.running = true ∧ (n.on PAIR_STATUS.SYNC = true ∨ ¬ ring)) := by decide +kernel

theorem met_MessagesSent_1 :
    (let s : State := st (mo [])
     let v : Word := 0
     let n := s.node
     let hf := n.rd MSG_HPUT0.FLOW
     let code := n.submitCode 8 hf (n.rd MSG_HPUT0.LENGTH) (n.rd MSG_HPUT2.LIFETIME) v.toNat
     let ring := n.on MSG_CTRL.PERSIST = true ∧ n.on (QSPI_STATUS.READY 1) = true
     (s.node.running = true ∧ code = 0)
      ∧ (s.node.running = true ∧ n.on PAIR_STATUS.SYNC = false ∧ ring ∧ n.msg.out = [])) := by decide +kernel

theorem met_MessagesSent_2 :
    (let s : State := st (mo [])
     let v : Word := 7
     let flow : Fin 256 := 255
     let seq : Nat := 0
     let n := s.node
     let l := n.outMsgs flow
     let none_ := l.find? (fun m => m.seq = v.toNat && m.accepted && !m.reported) = none
     let ours := n.rd MSG_HWDR0.FLOW = flow ∧ n.rd (MSG_OFW0.OWNER flow) = 8 ∧ (n.rd (MSG_OFW0.DKIND flow) = 1 ∨ n.rd (MSG_OFW0.DKIND flow) = 2)
     s.node.running = true ∧ ours ∧ none_) := by decide +kernel

theorem met_MessagesSent_3 :
    (let s : State := st (mo [(255, [om 7 false false])] [] { accq := [.outbound 255 7] })
     let v : Word := 7
     let flow : Fin 256 := 0
     let f : Nat := 255
     let seq : Nat := 7
     let rest : List AccItem := []
     let n := s.node
     let l := n.outMsgs flow
     let none_ := l.find? (fun m => m.seq = v.toNat && m.accepted && !m.reported) = none
     (s.node.running = true ∧ n.msg.accq = .outbound f seq :: rest ∧ n.msg.heldAcc = false ∧ (n.acceptMode = 2 ∨ (n.acceptMode = 1 ∧ n.jrnlWaits = false)) ∧ seq < 4294967296)
      ∧ (s.node.running = true ∧ none_)) := by decide +kernel

theorem met_MessagesSent_4 :
    (let s : State := st (mo [(255, [om 7 false false])] [(MSG_CTRL.PERSIST, 0)] { accq := [.outbound 255 7] })
     let f : Nat := 255
     let seq : Nat := 7
     let rest : List AccItem := []
     let n := s.node
     s.node.running = true ∧ n.msg.accq = .outbound f seq :: rest ∧ n.acceptMode = 0) := by decide +kernel

theorem met_MessagesSent_5 :
    (let s : State := st (mo [] [(MSG_DQ.OWNER 15, 8), (MSG_HQ.QUEUE, 15)] { queues := [(15, List.replicate 15 (desc true) ++ [desc false])] })
     let n := s.node
     let q := n.rd MSG_HQ.QUEUE
     let read := ((n.dq q).filter (·.read)).length
     s.node.running = true ∧ n.rd (MSG_DQ.OWNER q) = 8 ∧ read < 16 ∧ read < (n.dq q).length) := by decide +kernel

theorem met_MessagesSent_6 :
    (let s : State := st (mo [] [(MSG_DQ.OWNER 15, 8), (MSG_HQ.QUEUE, 15), (MSG_DQ.READ 15, 1)] { queues := [(15, [desc true])] })
     let n := s.node
     let q := n.rd MSG_HQ.QUEUE
     s.node.running = true ∧ n.rd (MSG_DQ.OWNER q) = 8 ∧ n.acceptMode ≠ 0 ∧ 0 < n.rd (MSG_DQ.READ q)) := by decide +kernel

theorem met_MessagesSent_7 :
    (let s : State := st (mo [(255, [om 7 true true 0 0 0 false 9])])
     let v : Word := 7
     let flow : Fin 256 := 255
     let seq : Nat := 0
     let x : OutMsg := om 7 true true 0 0 0 false 9
     let n := s.node
     let l := n.outMsgs flow
     let all := memberBits (n.members flow)
     let found := l.find? (fun m => m.seq = v.toNat && m.accepted && !m.reported) = some x
     let reach := x.held ||| x.delivered ||| x.killed
     let fresh := x.killing = false ∧ x.transmitted = true ∧ x.held = 0 ∧ x.delivered = 0 ∧ all ≠ 0
     let ours := n.rd MSG_HWDR0.FLOW = flow ∧ n.rd (MSG_OFW0.OWNER flow) = 8 ∧ (n.rd (MSG_OFW0.DKIND flow) = 1 ∨ n.rd (MSG_OFW0.DKIND flow) = 2)
     (s.node.running = true ∧ ours ∧ found ∧ fresh)
      ∧ (s.node.running = true ∧ (l.find? (fun m => m.seq = v.toNat && m.accepted && !m.reported && decide (m.life ≠ 0)) = some x) ∧ fresh)
      ∧ (s.node.running = true ∧ found ∧ reach = 0 ∧ all ≠ 0 ∧ x.transmitted = true ∧ x.killing = false)) := by decide +kernel

theorem met_MessagesSent_8 :
    (let s : State := st (mo [(255, [om 7 true true 0 0 0 true])])
     let v : Word := 7
     let flow : Fin 256 := 255
     let seq : Nat := 0
     let x : OutMsg := om 7 true true 0 0 0 true
     let n := s.node
     let l := n.outMsgs flow
     let all := memberBits (n.members flow)
     let found := l.find? (fun m => m.seq = v.toNat && m.accepted && !m.reported) = some x
     let reach := x.held ||| x.delivered ||| x.killed
     (s.node.running = true ∧ found ∧ reach = 0 ∧ all ≠ 0 ∧ x.transmitted = true ∧ x.killing = true)
      ∧ (s.node.running = true ∧ l = [x] ∧ x.accepted = true ∧ x.reported = false ∧ covers reach all = false)
      ∧ (s.node.running = true ∧ (l.find? (fun m => m.seq = v.toNat && m.killing && !m.unresolved && !m.reported) = some x) ∧ x.held = 0 ∧ x.delivered = 0 ∧ x.killed = 0 ∧ n.members flow ≠ [] ∧ ((∀ d, d ∈ n.members flow → n.uidPresent d.2 = false)))) := by decide +kernel

theorem met_MessagesSent_9 :
    (let s : State := st (mo [(255, [om 7 true true 1])])
     let v : Word := 7
     let flow : Fin 256 := 255
     let x : OutMsg := om 7 true true 1
     let n := s.node
     let hf := n.rd MSG_HPUT0.FLOW
     let code := n.submitCode 8 hf (n.rd MSG_HPUT0.LENGTH) (n.rd MSG_HPUT2.LIFETIME) v.toNat
     let q := n.rd MSG_HQ.QUEUE
     let read := ((n.dq q).filter (·.read)).length
     let of_ := n.rd MSG_OFSEL.FLOW
     let if_ := n.rd MSG_IFSEL.FLOW
     let l := n.outMsgs flow
     let all := memberBits (n.members flow)
     let reach := x.held ||| x.delivered ||| x.killed
     let ring := n.on MSG_CTRL.PERSIST = true ∧ n.on (QSPI_STATUS.READY 1) = true
     (s.node.running = true ∧ (n.inFlow if_).msgs = [])
      ∧ (s.node.running = true ∧ n.outMsgs of_ = [])
      ∧ (s.node.running = true ∧ code ≠ 0)
      ∧ (s.node.running = true ∧ (n.msg.accq = [] ∨ n.msg.heldAcc = true))
      ∧ (s.node.running = true ∧ (n.rd (MSG_DQ.OWNER q) ≠ 8 ∨ 16 ≤ read ∨ (n.dq q).length ≤ read))
      ∧ (s.node.running = true ∧ l = [x] ∧ x.accepted = true ∧ x.reported = false ∧ covers reach all = true)
      ∧ (s.node.running = true ∧ (n.msg.changes = [] ∨ ¬ ring))) := by decide +kernel

theorem met_MessagesSent_10 :
    (let s : State := st (mo [(255, [om 7 true true 0 0 0 false 9 (some 5500000)])])
     let flow : Fin 256 := 255
     let t : Nat := 5500000
     let x : OutMsg := om 7 true true 0 0 0 false 9 (some 5500000)
     let n := s.node
     s.node.running = true ∧ n.msg.out = [(flow.val, [x])] ∧ x.accepted = true ∧ x.reported = false ∧ x.life ≠ 0 ∧ x.expire = some t) := by decide +kernel

theorem met_MessagesSent_11 :
    (let s : State := st (mo [] [] { changes := [(.outFlow 255, 64)] })
     let p : JPiece × Nat := (.outFlow 255, 64)
     let ch : List (JPiece × Nat) := []
     let n := s.node
     let ring := n.on MSG_CTRL.PERSIST = true ∧ n.on (QSPI_STATUS.READY 1) = true
     s.node.running = true ∧ n.msg.changes = p :: ch ∧ ring) := by decide +kernel

end MetMessagesSent

namespace MetMessagesReceived

def seg (uid dest sf seq len off oldest : Nat) (data : List Byte) : UnitRx := ⟨2, .a, [0x10, 0] ++ leBytes 1 sf ++ [0] ++ leBytes 8 uid ++ leBytes 8 dest ++ leBytes 4 seq ++ leBytes 2 len ++ leBytes 2 off ++ leBytes 4 oldest ++ data⟩
def ackU (src who sf rs past held kill : Nat) (status : Nat := 0) : UnitRx := ⟨2, .a, [0x11] ++ leBytes 1 status ++ leBytes 1 sf ++ [0] ++ leBytes 8 src ++ leBytes 8 who ++ leBytes 4 rs ++ leBytes 8 past ++ leBytes 8 held ++ leBytes 8 kill⟩
def prb (kill : Byte) (uid dest sf seq map : Nat) : UnitRx := ⟨2, .a, [0x12, kill] ++ leBytes 1 sf ++ [0] ++ leBytes 8 uid ++ leBytes 8 dest ++ leBytes 4 seq ++ leBytes 8 map⟩
def mi (i : Tab InFlow) (l : List (Field × Nat) := []) (o : Tab (List OutMsg) := []) : Node := { nd ([(MSG_CTRL.EN, 1), (MSG_CTRL.PERSIST, 1), (QSPI_STATUS.READY 1, 1), (MSG_IFW0.OPEN 255, 1), (MSG_IFW0.SRCFLOW 255, 3), (MSG_IFW0.DQ 255, 15), (MSG_IFW1.SRCUID_LO 255, 6), (MSG_IFW3.RS 255, 0xFFFFFFFE), (MSG_OFW0.DKIND 3, 1), (MSG_OFW1.DEST_LO 3, 6)] ++ l) with msg := { inb := i, out := o, flowSrc := [(3, 5)] }, otp := [(0, some 5)] }
def im (seq : Nat) (held handed : Bool) : InMsg := ⟨seq, 2, 0, 2, [(0, 2)], false, held, handed, false, 0⟩
def ox (seq : Nat) : OutMsg := { outMsg seq 64 with held := 0 }

theorem met_MessagesReceived_0 :
    (let s : State := st (nd [])
     let u : UnitRx := ⟨1, .a, []⟩
     let n := s.node
     let b := u.body
     let lives := n.on MSG_CTRL.EN = true ∧ n.isActive = true
     (s.node.running = true ∧ (¬ lives ∨ b.length < 32))
      ∧ (s.node.running = true ∧ n.on MSG_CTRL.EN = false)) := by decide +kernel

theorem met_MessagesReceived_1 :
    (let s : State := st (mi [])
     let u : UnitRx := seg 6 5 4 1 2 0 1 [7, 8]
     let n := s.node
     let b := u.body
     let lives := n.on MSG_CTRL.EN = true ∧ n.isActive = true
     let sf := le b 2 1
     let uid := le b 4 8
     let q := le b 20 4
     let segOk := lives ∧ 33 ≤ b.length ∧ n.forUs (bit (le b 1 1) 2) (le b 12 8) = true ∧ q ≠ 0
     s.node.running = true ∧ segOk ∧ n.inMatch uid sf = none ∧ n.inBindable sf = none) := by decide +kernel

theorem met_MessagesReceived_2 :
    (let s : State := st (mi [(255, { recorded := true })])
     let u : UnitRx := seg 6 5 3 0xFFFFFFFE 2 0 1 [7, 8]
     let f : Nat := 255
     let n := s.node
     let b := u.body
     let lives := n.on MSG_CTRL.EN = true ∧ n.isActive = true
     let sf := le b 2 1
     let uid := le b 4 8
     let q := le b 20 4
     let rs := n.rd (MSG_IFW3.RS f)
     let segOk := lives ∧ 33 ≤ b.length ∧ n.forUs (bit (le b 1 1) 2) (le b 12 8) = true ∧ q ≠ 0
     s.node.running = true ∧ segOk ∧ n.inMatch uid sf = some f ∧ (n.inFlow f).recorded = true ∧ seqResolved rs q = true) := by decide +kernel

theorem met_MessagesReceived_3 :
    (let s : State := st (mi [(255, { recorded := true })])
     let u : UnitRx := seg 6 5 3 1 2 0 1 [7, 8]
     let f : Nat := 255
     let n := s.node
     let b := u.body
     let lives := n.on MSG_CTRL.EN = true ∧ n.isActive = true
     let sf := le b 2 1
     let uid := le b 4 8
     let q := le b 20 4
     let len := le b 24 2
     let rs := n.rd (MSG_IFW3.RS f)
     let data := b.drop 32
     let segOk := lives ∧ 33 ≤ b.length ∧ n.forUs (bit (le b 1 1) 2) (le b 12 8) = true ∧ q ≠ 0
     s.node.running = true ∧ segOk ∧ n.inMatch uid sf = some f ∧ (n.inFlow f).recorded = true ∧ seqResolved rs q = false ∧ (n.inFlow f).killed = [] ∧ (n.inFlow f).msgs = [] ∧ seqDist rs q ≤ 64 ∧ (n.storeAlloc (1 + (len + 63) / 64)).isSome = true ∧ le b 26 2 = 0 ∧ data.length = len ∧ n.acceptMode ≠ 0) := by decide +kernel

theorem met_MessagesReceived_4 :
    (let s : State := st (mi [] [] [(3, [ox 7])])
     let u : UnitRx := ackU 5 9 3 7 0 0 0
     let flow : Fin 256 := 255
     let seq : Word := 0
     let n := s.node
     let b := u.body
     let lives := n.on MSG_CTRL.EN = true ∧ n.isActive = true
     let sf := le b 2 1
     let uid := le b 4 8
     let src := Tab.get (fun _ => 0) n.msg.flowSrc sf
     let ackOk := lives ∧ 48 ≤ b.length ∧ src ≠ 0 ∧ uid = src
     let who := le b 12 8
     let z := n.inFlow flow
     (s.node.running = true ∧ ackOk ∧ ((n.members sf).find? (fun m => m.2 = who || n.partnerUid m.2 = who) = none))
      ∧ (s.node.running = true ∧ (z.msgs.find? (fun m => m.seq = seq.toNat && !m.held && !m.accepting) = none))) := by decide +kernel

theorem met_MessagesReceived_5 :
    (let s : State := st (mi [] [] [(3, [ox 7])])
     let u : UnitRx := ackU 5 6 3 7 0 0 0
     let x : OutMsg := ox 7
     let seq : Word := 0
     let n := s.node
     let b := u.body
     let lives := n.on MSG_CTRL.EN = true ∧ n.isActive = true
     let sf := le b 2 1
     let uid := le b 4 8
     let q := le b 20 4
     let src := Tab.get (fun _ => 0) n.msg.flowSrc sf
     let ackOk := lives ∧ 48 ≤ b.length ∧ src ≠ 0 ∧ uid = src
     let who := le b 12 8
     s.node.running = true ∧ ackOk ∧ n.members sf = [(0, who)] ∧ le b 1 1 = 0 ∧ n.outMsgs sf = [x] ∧ x.accepted = true ∧ x.reported = false ∧ x.killed = 0 ∧ seqResolved q x.seq = true ∧ ((64 ≤ seqDist x.seq q ∨ bit (le b 24 8) (seqDist x.seq q) = false)) ∧ n.on (MSG_OFW0.DELREP sf) = false) := by decide +kernel

theorem met_MessagesReceived_6 :
    (let s : State := st (mi [] [] [(3, [ox 1])])
     let u : UnitRx := ackU 5 6 3 0xFFFFFFFF 0 1 0
     let x : OutMsg := ox 1
     let seq : Word := 0
     let n := s.node
     let b := u.body
     let lives := n.on MSG_CTRL.EN = true ∧ n.isActive = true
     let sf := le b 2 1
     let uid := le b 4 8
     let q := le b 20 4
     let src := Tab.get (fun _ => 0) n.msg.flowSrc sf
     let ackOk := lives ∧ 48 ≤ b.length ∧ src ≠ 0 ∧ uid = src
     let who := le b 12 8
     s.node.running = true ∧ ackOk ∧ n.members sf = [(0, who)] ∧ le b 1 1 = 0 ∧ n.outMsgs sf = [x] ∧ x.accepted = true ∧ x.reported = false ∧ x.killed = 0 ∧ seqResolved q x.seq = false ∧ seqDist q x.seq ≤ 64 ∧ bit (le b 40 8) (seqDist q x.seq - 1) = false ∧ bit (le b 32 8) (seqDist q x.seq - 1) = true ∧ x.delivered = 0) := by decide +kernel

theorem met_MessagesReceived_7 :
    (let s : State := st (mi [])
     let u : UnitRx := prb 0 6 5 4 1 1
     let n := s.node
     let b := u.body
     let lives := n.on MSG_CTRL.EN = true ∧ n.isActive = true
     let sf := le b 2 1
     let uid := le b 4 8
     let probed := lives ∧ 32 ≤ b.length ∧ n.forUs (bit (le b 1 1) 1) (le b 12 8) = true
     s.node.running = true ∧ probed ∧ n.inMatch uid sf = none) := by decide +kernel

theorem met_MessagesReceived_8 :
    (let s : State := st (mi [(255, { recorded := true })])
     let u : UnitRx := prb 0 6 5 3 1 1
     let f : Nat := 255
     let n := s.node
     let b := u.body
     let lives := n.on MSG_CTRL.EN = true ∧ n.isActive = true
     let sf := le b 2 1
     let uid := le b 4 8
     let probed := lives ∧ 32 ≤ b.length ∧ n.forUs (bit (le b 1 1) 1) (le b 12 8) = true
     s.node.running = true ∧ probed ∧ n.inMatch uid sf = some f ∧ bit (le b 1 1) 0 = false) := by decide +kernel

theorem met_MessagesReceived_9 :
    (let s : State := st (mi [(255, { recorded := true })])
     let u : UnitRx := prb 1 6 5 3 0xFFFFFFFF 1
     let f : Nat := 255
     let n := s.node
     let b := u.body
     let lives := n.on MSG_CTRL.EN = true ∧ n.isActive = true
     let sf := le b 2 1
     let uid := le b 4 8
     let q := le b 20 4
     let rs := n.rd (MSG_IFW3.RS f)
     let probed := lives ∧ 32 ≤ b.length ∧ n.forUs (bit (le b 1 1) 1) (le b 12 8) = true
     s.node.running = true ∧ probed ∧ n.inMatch uid sf = some f ∧ bit (le b 1 1) 0 = true ∧ le b 24 8 = 1 ∧ q ≠ 0 ∧ seqResolved rs q = false ∧ (n.inFlow f).killed = [] ∧ (n.inFlow f).msgs = []) := by decide +kernel

theorem met_MessagesReceived_11 :
    (let s : State := st (mi [(255, { recorded := true, msgs := [im 0xFFFFFFFF true false] })])
     let flow : Fin 256 := 255
     let y : InMsg := im 0xFFFFFFFF true false
     let seq : Word := 0
     let n := s.node
     let dq := n.rd (MSG_IFW0.DQ flow)
     let z := n.inFlow flow
     s.node.running = true ∧ n.on MSG_CTRL.EN = true ∧ z.msgs = [y] ∧ y.held = true ∧ y.handed = false ∧ y.seq = seqAdd (n.rd (MSG_IFW3.RS flow)) 1 ∧ z.killed = [] ∧ (n.dq dq).length < 256) := by decide +kernel

theorem met_MessagesReceived_12 :
    (let s : State := st (mi [(255, { recorded := true, msgs := [im 1 false false] })])
     let flow : Fin 256 := 255
     let y : InMsg := im 1 false false
     let seq : Word := 1
     let n := s.node
     let z := n.inFlow flow
     s.node.running = true ∧ (z.msgs.find? (fun m => m.seq = seq.toNat && !m.held && !m.accepting) = some y)) := by decide +kernel

end MetMessagesReceived

namespace MetSignals

def sg (l : List (Field × Nat)) (s : SigState := {}) (m : Tab Byte := []) : Node := { com l with sig := s, mem := m, dir := [dirRec 1 5 true, dirRec 2 6] }
def du (node cls id v : Nat) (fl : Byte) : DataUnitRx := ⟨3, node, .a, [0x20] ++ leBytes 1 cls ++ [1, 0] ++ leBytes 4 id ++ leBytes 4 v ++ [fl, 0, 0, 0]⟩
def subRow : List (Field × Nat) := [(SIG_SUBW0.VALID 1023, 1), (SIG_SUBW0.FIRST 1023, 0x12340), (SIG_SUBW1.INDEX 1023, 0xFFF0), (SIG_SUBW2.COUNT 1023, 16), (SIG_SUBW3.CURFIRST 1023, 0x12340)]

theorem met_Signals_0 :
    (let s : State := st (nd [(INA_STATUS.INAUG, 0)])
     let n := s.node
     (s.node.running = true ∧ n.on INA_STATUS.INAUG = false)
      ∧ (s.node.running = true)
      ∧ (s.node.running = true ∧ n.uce = [])
      ∧ (s.node.running = true ∧ n.on SIG_CTRL.EN = false)) := by decide +kernel

theorem met_Signals_1 :
    (let s : State := st (nd [(SIG_PUBSEL.DSET, 255), (SIG_PUBW1.COUNT 255, 4)])
     let n := s.node
     s.node.running = true ∧ n.on INA_STATUS.INAUG = true) := by decide +kernel

theorem met_Signals_9 :
    (let s : State := st (sg (schF 511 0x80000420 2 77 0 ++ [(INA_SELF.VALUE, 0x201), (SIG_CTRL.EN, 1), (SIG_PUBW0.VALID 255, 1), (SIG_PUBW1.COUNT 255, 4), (SIG_PUBW2.LABEL 255, 77)]))
     let d : DataUnitRx := ⟨0, 0, .a, []⟩
     let n := s.node
     s.node.running = true ∧ n.on SIG_CTRL.EN = true ∧ d.node = 0) := by decide +kernel

theorem met_Signals_11 :
    (let s : State := st (sg [(SIG_CTRL.EN, 1)])
     let d : DataUnitRx := du 2 1 0x12345 7 0
     let n := s.node
     let b := d.body
     let first := le b 4 3 % 0x100000
     s.node.running = true ∧ n.on SIG_CTRL.EN = true ∧ d.node ≠ 0 ∧ le b 2 2 = 1 ∧ 12 ≤ b.length ∧ n.subsBit first = false) := by decide +kernel

theorem met_Signals_12 :
    (let s : State := st (sg [(SIG_CTRL.EN, 1)] { pubs := [⟨0x12340, 16, 1, 6, false, false⟩], svc := [⟨1023, 0xFFF0, 16, 0, 0x12340, some 0x12340, [], false⟩], gen := [⟨0xFFF5, 1, 1, 1, false⟩, ⟨3, 1, 1, 1, false⟩] } [(0x20382468, 0x20)])
     let d : DataUnitRx := du 2 1 0x12345 0xDEADBEEF 1
     let p : Nat := 6
     let ix : Nat := 0xFFF5
     let n := s.node
     let b := d.body
     let first := le b 4 3 % 0x100000
     s.node.running = true ∧ n.on SIG_CTRL.EN = true ∧ d.node ≠ 0 ∧ le b 2 2 = 1 ∧ 12 ≤ b.length ∧ n.subsBit first = true ∧ n.publisher first = some p ∧ n.samePair (n.uidOf d.node) p = true ∧ svcMap n.sig.svc first = some ix ∧ n.localOf ix = none) := by decide +kernel

theorem met_Signals_13 :
    (let s : State := st (sg ([(SIG_CTRL.EN, 1)] ++ subRow) { gen := [⟨0xFFFF, 0xFFFFFFFF, 2, 1, true⟩], svc := [⟨1023, 0xFFF0, 16, 0, 0x12340, some 0x12340, [], false⟩] })
     let d : DataUnitRx := ⟨0, 0, .a, []⟩
     let x : SigVal := ⟨0xFFFF, 0xFFFFFFFF, 2, 1, true⟩
     let sub : SubSvc := ⟨1023, 0xFFF0, 16, 0, 0x12340, some 0x12340, [], false⟩
     let n := s.node
     let b := d.body
     let first := le b 4 3 % 0x100000
     s.node.running = true ∧ n.sigNet = true ∧ n.sig.gen = [x] ∧ n.uce = [] ∧ n.sig.forces = [] ∧ ((∀ k : Fin 256, n.on (ENG0_FW0.EN k) = false)) ∧ n.localOf x.index = none ∧ x.index < 65536 ∧ x.value < 4294967296 ∧ ((∃ k, k < 1024 ∧ n.tableSub k = some sub)) ∧ sub.first ≠ none ∧ sub.index ≤ x.index ∧ x.index < sub.index + sub.count) := by decide +kernel

end MetSignals

namespace MetAudioStreams

def aud (l : List (Field × Nat)) (a : AudState := {}) : Node := { com ([(AUD_CTRL.EN, 1), (AUD_TXSEL.ENTRY, 63), (AUD_RXSEL.ENTRY, 255)] ++ l) with aud := a, dir := [dirRec 1 5 true, dirRec 2 6] }
def ab (node sid pres seq : Nat) (fl : Byte) : DataUnitRx := ⟨3, node, .a, [0x21, fl] ++ leBytes 2 sid ++ leBytes 4 pres ++ leBytes 2 seq ++ [0, 0] ++ List.replicate 32 9⟩
def blk : AudBlock := ⟨5, 6, 1, false, false, [1, 2]⟩

theorem met_AudioStreams_0 :
    (let s : State := st (nd [(AUD_TXSEL.ENTRY, 63)])
     let v : Word := 0x80001FFF
     let j : Nat := 0
     let n := s.node
     let t := n.rd AUD_TXSEL.ENTRY
     let r := n.rd AUD_RXSEL.ENTRY
     let id := v.toNat % 4096
     let rises := n.on (AUD_TXW0.EN t) = false ∧ bit v.toNat 31 = true
     let other := fun (j : Nat) => j < 256 ∧ j ≠ r ∧ n.on (AUD_RXW0.EN j) = true ∧ n.rd (AUD_RXW0.STREAM j) = id
     (s.node.running = true ∧ rises ∧ (n.isActive = false ∨ n.committed = false ∨ n.isLead = false))
      ∧ (s.node.running = true ∧ bit v.toNat 31 = true ∧ ((∀ j, j < 256 → ¬ other j)))) := by decide +kernel

theorem met_AudioStreams_3 :
    (let s : State := st (aud [(AUD_TXW0.EN 63, 1), (AUD_TXW0.STREAM 63, 7)])
     let v : Word := 0xFFFFFFFF
     let n := s.node
     let t := n.rd AUD_TXSEL.ENTRY
     s.node.running = true ∧ n.on (AUD_TXW0.EN t) = true ∧ bit v.toNat 31 = true) := by decide +kernel

theorem met_AudioStreams_4 :
    (let s : State := st (aud [(AUD_TXW0.EN 63, 1), (AUD_TXW2.STATE 63, 2)] { tx := [(63, { blocks := [blk, blk] })] })
     let v : Word := 0x7FFFFFFF
     let n := s.node
     let t := n.rd AUD_TXSEL.ENTRY
     s.node.running = true ∧ n.on (AUD_TXW0.EN t) = true ∧ bit v.toNat 31 = false) := by decide +kernel

theorem met_AudioStreams_5 :
    (let s : State := st (aud [(AUD_RXW0.EN 3, 1), (AUD_RXW0.STREAM 3, 5)] { streams := [⟨6, 1, 6, false⟩] })
     let v : Word := 0x80000005
     let j : Nat := 3
     let n := s.node
     let r := n.rd AUD_RXSEL.ENTRY
     let id := v.toNat % 4096
     let other := fun (j : Nat) => j < 256 ∧ j ≠ r ∧ n.on (AUD_RXW0.EN j) = true ∧ n.rd (AUD_RXW0.STREAM j) = id
     s.node.running = true ∧ bit v.toNat 31 = true ∧ other j) := by decide +kernel

theorem met_AudioStreams_7 :
    (let s : State := st (aud [(AUD_TXW0.EN 63, 1), (AUD_TXW2.STATE 63, 1), (AUD_TXW0.FORMAT 63, 1), (AUD_TXW2.SEQ 63, 65535)])
     let tx : Fin 64 := 63
     let n := s.node
     let kind := n.rd (AUD_TXW0.FORMAT tx)
     let open_ := n.rd (AUD_TXW2.STATE tx) = 1 ∨ n.rd (AUD_TXW2.STATE tx) = 2
     let live := n.on AUD_CTRL.EN = true ∧ n.shed = false ∧ n.on (AUD_TXW0.EN tx) = true ∧ open_
     s.node.running = true ∧ live ∧ (kind = 1 ∨ kind = 2)) := by decide +kernel

theorem met_AudioStreams_9 :
    (let s : State := st (aud [(AUD_RXW0.EN 255, 1), (AUD_RXW0.STREAM 255, 5)])
     let v : Word := 0
     let tx : Fin 64 := 0
     let d : DataUnitRx := ab 0 5 1000000 7 1
     let i : Nat := 255
     let x : StreamRec := ⟨0, 0, 0, false⟩
     let n := s.node
     let id := v.toNat % 4096
     let open_ := n.rd (AUD_TXW2.STATE tx) = 1 ∨ n.rd (AUD_TXW2.STATE tx) = 2
     let live := n.on AUD_CTRL.EN = true ∧ n.shed = false ∧ n.on (AUD_TXW0.EN tx) = true ∧ open_
     let sid := le d.body 2 2 % 4096
     let ours := (upTo 256).find? (fun k => n.on (AUD_RXW0.EN k) && n.rd (AUD_RXW0.STREAM k) = sid) = some i
     let carries := n.aud.streams.find? (fun y => y.id = sid && !y.dropped) = some x
     (s.node.running = true ∧ (¬ live) ∧ (n.txOf tx).ending = false)
      ∧ (s.node.running = true ∧ n.on AUD_CTRL.EN = true ∧ ours ∧ (d.node = 0 ∨ (carries ∧ n.samePair (n.uidOf d.node) x.uid = false)))) := by decide +kernel

theorem met_AudioStreams_11 :
    (let s : State := st (aud [(AUD_RXW0.EN 255, 1), (AUD_RXW0.STREAM 255, 5)] { streams := [⟨5, 1, 6, false⟩] })
     let v : Word := 0
     let d : DataUnitRx := ab 2 5 1000000 65535 1
     let i : Nat := 255
     let x : StreamRec := ⟨5, 1, 6, false⟩
     let n := s.node
     let id := v.toNat % 4096
     let sid := le d.body 2 2 % 4096
     let ours := (upTo 256).find? (fun k => n.on (AUD_RXW0.EN k) && n.rd (AUD_RXW0.STREAM k) = sid) = some i
     let carries := n.aud.streams.find? (fun y => y.id = sid && !y.dropped) = some x
     let pres := BitVec.ofNat 32 (le d.body 4 4)
     let ahead := timeDiff pres n.time.train
     s.node.running = true ∧ n.on AUD_CTRL.EN = true ∧ ours ∧ d.node ≠ 0 ∧ d.node < 256 ∧ carries ∧ n.samePair (n.uidOf d.node) x.uid = true ∧ 1000000 ≤ ahead ∧ ahead ≤ 16000000) := by decide +kernel

theorem met_AudioStreams_13 :
    (let s : State := st (aud [(AUD_RXW0.EN 255, 1), (AUD_RXW0.STREAM 255, 5)] { streams := [⟨5, 1, 6, false⟩] })
     let v : Word := 0
     let d : DataUnitRx := ab 2 5 999999 7 1
     let i : Nat := 255
     let x : StreamRec := ⟨5, 1, 6, false⟩
     let n := s.node
     let id := v.toNat % 4096
     let sid := le d.body 2 2 % 4096
     let ours := (upTo 256).find? (fun k => n.on (AUD_RXW0.EN k) && n.rd (AUD_RXW0.STREAM k) = sid) = some i
     let carries := n.aud.streams.find? (fun y => y.id = sid && !y.dropped) = some x
     let pres := BitVec.ofNat 32 (le d.body 4 4)
     let ahead := timeDiff pres n.time.train
     s.node.running = true ∧ n.on AUD_CTRL.EN = true ∧ ours ∧ d.node ≠ 0 ∧ d.node < 256 ∧ carries ∧ n.samePair (n.uidOf d.node) x.uid = true ∧ (ahead < 1000000 ∨ 16000000 < ahead)) := by decide +kernel

theorem met_AudioStreams_15 :
    (let s : State := st (aud [(AUD_RXW1.STATE 255, 2)] { rx := [(255, { gap := 8 })] })
     let rx : Fin 256 := 255
     let n := s.node
     s.node.running = true ∧ n.rd (AUD_RXW1.STATE rx) = 2 ∧ 8 ≤ (n.rxOf rx).gap) := by decide +kernel

theorem met_AudioStreams_16 :
    (let s : State := st (aud [(AUD_RXW1.STATE 255, 2), (AUD_TXW0.EN 5, 1), (AUD_TXW2.STATE 5, 2), (AUD_RXW1.STATE 3, 5)] { rx := [(255, { gap := 7 })] })
     let v : Word := 0
     let rx : Fin 256 := 255
     let d : DataUnitRx := ⟨0, 0, .a, []⟩
     let n := s.node
     let sid := le d.body 2 2 % 4096
     (s.node.running = true ∧ bit v.toNat 31 = false)
      ∧ (s.node.running = true ∧ (¬ (∃ k, k < 256 ∧ n.on (AUD_RXW0.EN k) = true ∧ n.rd (AUD_RXW0.STREAM k) = sid)))
      ∧ (s.node.running = true ∧ (n.rd (AUD_RXW1.STATE rx) ≠ 2 ∨ (n.rxOf rx).gap < 8))
      ∧ (s.node.running = true)) := by decide +kernel

theorem met_AudioStreams_17 :
    (let s : State := st (aud [(INA_STATUS.LEAD, 1), (BAR_STATUS.NODE, 1)])
     let v : Word := 0x80002FFF
     let n := s.node
     let t := n.rd AUD_TXSEL.ENTRY
     let fmt := v.toNat / 4096 % 16
     let rises := n.on (AUD_TXW0.EN t) = false ∧ bit v.toNat 31 = true
     s.node.running = true ∧ rises ∧ (fmt = 1 ∨ fmt = 2) ∧ n.isActive = true ∧ n.committed = true ∧ n.isLead = true ∧ n.aud.streams = [] ∧ n.uidOf n.nodeNum ≠ 0) := by decide +kernel

end MetAudioStreams

namespace MetAudioUnits

def au (l : List (Field × Nat)) (a : AudState := {}) : Node := { nd ([(AUD_CTRL.EN, 1)] ++ l) with aud := a }

theorem met_AudioUnits_0 :
    (let s : State := st (au [(AUD_XSEL.IN, 383), (AUD_XSEL.OUT, 127)])
     let zone : Fin 128 := 0
     let ec : Fin 16 := 0
     let n := s.node
     let mixes := n.on AUD_CTRL.EN = true ∧ n.shed = false
     let anc := 64 ≤ zone.val ∧ n.on (AUD_ZCTRL.ANCEN zone) = true
     let st := n.rd (AUD_ECB.STATE ec)
     let granted := n.on (AUD_ECA.EN ec) = true ∧ 1 ≤ st ∧ st ≤ 3 ∧ n.gustGranted (n.rd (AUD_ECB.GUST ec)) 6 = true
     let gs := n.rd AUD_GSEL.GEN
     let clip := (n.rd AUD_CLIPSRC.SRC, 16 * n.rd AUD_CLIPDST.DST, 16 * n.rd AUD_CLIPLEN.LEN)
     let inside := ((0x20200000 ≤ clip.1 ∧ clip.1 + clip.2.2 ≤ 0x20300000) ∨ (0x207E0000 ≤ clip.1 ∧ clip.1 + clip.2.2 ≤ 0x20800000))
      ∧ clip.2.1 + clip.2.2 ≤ 0x4C000
     (s.node.running = true ∧ n.rd AUD_XSEL.IN < 384)
      ∧ (s.node.running = true)
      ∧ (s.node.running = true ∧ mixes)
      ∧ (s.node.running = true ∧ (¬ anc))
      ∧ (s.node.running = true ∧ (st = 0 ∨ st = 5))
      ∧ (s.node.running = true ∧ (¬ granted))
      ∧ (s.node.running = true ∧ st ≠ 4)
      ∧ (s.node.running = true ∧ n.rd (AUD_GW0.KIND gs) = 0)
      ∧ (s.node.running = true ∧ n.on AUD_CLIPSTAT.BUSY = false ∧ (¬ inside))
      ∧ (s.node.running = true ∧ n.aud.clip = none)) := by decide +kernel

theorem met_AudioUnits_1 :
    (let s : State := st (au [(AUD_XSEL.IN, 384)])
     let n := s.node
     s.node.running = true ∧ 384 ≤ n.rd AUD_XSEL.IN) := by decide +kernel

theorem met_AudioUnits_3 :
    (let s : State := st (nd [])
     let v : Word := 0
     let n := s.node
     let mixes := n.on AUD_CTRL.EN = true ∧ n.shed = false
     (s.node.running = true ∧ (¬ mixes))
      ∧ (s.node.running = true ∧ bit v.toNat 24 = false)) := by decide +kernel

theorem met_AudioUnits_4 :
    (let s : State := st (au ((upTo 32).map (fun i => (AUD_XW.EN (384 * 127 + i), 1))) { queue := [(49151, 0x8001FFFF, 0x80000005)] })
     let v : Word := 0x80000005
     let mask : Word := 0x8001FFFF
     let k : Nat := 49151
     let n := s.node
     let mixes := n.on AUD_CTRL.EN = true ∧ n.shed = false
     let only := fun (q : List (Nat × Word × Word)) (zs gs : List Nat) => n.aud.queue = q ∧ n.aud.commits = zs ∧ n.aud.stops = gs
     let old := n.reg (AUD_XW.EN k).addr
     let new := (old &&& ~~~ mask) ||| (v &&& mask)
     let wide := 32 ≤ ((upTo 384).filter (fun i => n.on (AUD_XW.EN (384 * (k / 384) + i)))).length
     s.node.running = true ∧ mixes ∧ only [(k, mask, v)] [] [] ∧ k < 49152 ∧ ((bit new.toNat 31 = true ∧ bit old.toNat 31 = false ∧ wide))) := by decide +kernel

theorem met_AudioUnits_5 :
    (let s : State := st (au ((upTo 31).map (fun i => (AUD_XW.EN (384 * 127 + i), 1))) { queue := [(49151, 0x8001FFFF, 0x80000005)] })
     let v : Word := 0x80000005
     let mask : Word := 0x8001FFFF
     let k : Nat := 49151
     let n := s.node
     let mixes := n.on AUD_CTRL.EN = true ∧ n.shed = false
     let only := fun (q : List (Nat × Word × Word)) (zs gs : List Nat) => n.aud.queue = q ∧ n.aud.commits = zs ∧ n.aud.stops = gs
     let old := n.reg (AUD_XW.EN k).addr
     let new := (old &&& ~~~ mask) ||| (v &&& mask)
     let wide := 32 ≤ ((upTo 384).filter (fun i => n.on (AUD_XW.EN (384 * (k / 384) + i)))).length
     s.node.running = true ∧ mixes ∧ only [(k, mask, v)] [] [] ∧ k < 49152 ∧ (¬ (bit new.toNat 31 = true ∧ bit old.toNat 31 = false ∧ wide))) := by decide +kernel

theorem met_AudioUnits_6 :
    (let s : State := st (au [(AUD_ZCTRL.BANK 127, 1), (AUD_ZCDATA.DATA (64 * 127 + 63), 77)] { commits := [127] })
     let z : Nat := 127
     let n := s.node
     let mixes := n.on AUD_CTRL.EN = true ∧ n.shed = false
     let only := fun (q : List (Nat × Word × Word)) (zs gs : List Nat) => n.aud.queue = q ∧ n.aud.commits = zs ∧ n.aud.stops = gs
     s.node.running = true ∧ mixes ∧ only [] [z] [] ∧ z < 128) := by decide +kernel

theorem met_AudioUnits_7 :
    (let s : State := st (au [(AUD_GW0.RUN 63, 1)] { stops := [63] })
     let z : Nat := 63
     let n := s.node
     let mixes := n.on AUD_CTRL.EN = true ∧ n.shed = false
     let only := fun (q : List (Nat × Word × Word)) (zs gs : List Nat) => n.aud.queue = q ∧ n.aud.commits = zs ∧ n.aud.stops = gs
     s.node.running = true ∧ mixes ∧ only [] [] [z]) := by decide +kernel

theorem met_AudioUnits_8 :
    (let s : State := st (au [(AUD_ZCTRL.ANCEN 127, 1), (AUD_ZANC.MAXB 127, 3), (AUD_ZANC.SLOPE 127, 3), (AUD_ZANC.NREF 127, 200), (AUD_ZSTAT.ANCGAIN 127, 5), (AUD_ZSTAT.HOLD 127, 1), (AUD_ZSTAT.GAPAGE 127, 9)])
     let zone : Fin 128 := 127
     let n := s.node
     let anc := 64 ≤ zone.val ∧ n.on (AUD_ZCTRL.ANCEN zone) = true
     s.node.running = true ∧ anc) := by decide +kernel

theorem met_AudioUnits_10 :
    (let s : State := st (au [(AUD_ECB.STATE 15, 4), (AUD_ECA.EN 15, 1)])
     let ec : Fin 16 := 15
     let n := s.node
     let st := n.rd (AUD_ECB.STATE ec)
     (s.node.running = true ∧ st ≠ 0 ∧ st ≠ 5)
      ∧ (s.node.running = true ∧ st = 4)) := by decide +kernel

theorem met_AudioUnits_11 :
    (let s : State := st (au [(AUD_ECB.STATE 15, 3), (AUD_ECA.EN 15, 1), (AUD_ECB.GUST 15, 254), (PWR_GH.STATE 254, 1), (PWR_GH.CLASS 254, 6)])
     let ec : Fin 16 := 15
     let n := s.node
     let st := n.rd (AUD_ECB.STATE ec)
     let granted := n.on (AUD_ECA.EN ec) = true ∧ 1 ≤ st ∧ st ≤ 3 ∧ n.gustGranted (n.rd (AUD_ECB.GUST ec)) 6 = true
     s.node.running = true ∧ granted) := by decide +kernel

theorem met_AudioUnits_13 :
    (let s : State := st (au [(AUD_GSEL.GEN, 63), (AUD_GW0.KIND 63, 4)])
     let v : Word := 5000000
     let n := s.node
     let gs := n.rd AUD_GSEL.GEN
     let ahead := timeDiff v n.time.train
     s.node.running = true ∧ 1 ≤ n.rd (AUD_GW0.KIND gs) ∧ n.rd (AUD_GW0.KIND gs) ≤ 4 ∧ 5000000 ≤ ahead) := by decide +kernel

theorem met_AudioUnits_14 :
    (let s : State := st { au [(AUD_GSEL.GEN, 63), (AUD_GW0.KIND 63, 1), (BAR_TTSTAMP.VALUE, 300)] with time := { train := 0xFFFFFF00 } }
     let v : Word := 4999000
     let n := s.node
     let gs := n.rd AUD_GSEL.GEN
     let ahead := timeDiff v n.time.train
     s.node.running = true ∧ 1 ≤ n.rd (AUD_GW0.KIND gs) ∧ n.rd (AUD_GW0.KIND gs) ≤ 4 ∧ ahead < 5000000) := by decide +kernel

theorem met_AudioUnits_17 :
    (let s : State := st (au [(AUD_CLIPSTAT.BUSY, 1)])
     let n := s.node
     s.node.running = true ∧ n.on AUD_CLIPSTAT.BUSY = true) := by decide +kernel

theorem met_AudioUnits_18 :
    (let s : State := st (au [(AUD_CLIPSRC.SRC, 0x202FFFC0), (AUD_CLIPDST.DST, 0x4BFC), (AUD_CLIPLEN.LEN, 4)])
     let n := s.node
     let clip := (n.rd AUD_CLIPSRC.SRC, 16 * n.rd AUD_CLIPDST.DST, 16 * n.rd AUD_CLIPLEN.LEN)
     let inside := ((0x20200000 ≤ clip.1 ∧ clip.1 + clip.2.2 ≤ 0x20300000) ∨ (0x207E0000 ≤ clip.1 ∧ clip.1 + clip.2.2 ≤ 0x20800000))
      ∧ clip.2.1 + clip.2.2 ≤ 0x4C000
     s.node.running = true ∧ n.on AUD_CLIPSTAT.BUSY = false ∧ inside) := by decide +kernel

theorem met_AudioUnits_20 :
    (let s : State := st { au [(AUD_CLIPSTAT.BUSY, 1), (AUD_CLIPSTAT.DONE, 65535)] { clip := some (0x20200000, 0x4BFF0, 16) } with mem := [(0x20200003, 7)] }
     let src : Nat := 0x20200000
     let dst : Nat := 0x4BFF0
     let len : Nat := 16
     let n := s.node
     let clip := (n.rd AUD_CLIPSRC.SRC, 16 * n.rd AUD_CLIPDST.DST, 16 * n.rd AUD_CLIPLEN.LEN)
     s.node.running = true ∧ n.aud.clip = some (src, dst, len)) := by decide +kernel

end MetAudioUnits

namespace MetLullRing

def ll (l : List (Field × Nat)) (x : LullState := {}) (b : BarState := {}) : Node := { com (l ++ [(BAR_CYCLE.VALUE, 100), (BAR_STATUS.NODE, 1)]) { b with leadNum := 1 } with lull := x, dir := [dirRec 1 0 true, dirRec 2 6, dirRec 3 7] }
def rr (at_ : Nat) (tok : Option Nat := some 95) : RingRun := ⟨5, 90, at_, tok, []⟩
def rep (num vote reason uid : Nat) : UnitRx := ⟨2, .a, [0x41, 5] ++ leBytes 1 num ++ leBytes 1 vote ++ leBytes 1 reason ++ [0, 0, 0] ++ leBytes 8 uid⟩
def tok (num : Nat) : UnitRx := ⟨1, .a, [0x40, 5] ++ leBytes 1 num ++ [0] ++ leBytes 4 90⟩

theorem met_LullRing_1 :
    (let s : State := st { ll [(INA_STATUS.LEAD, 1), (AON_LSTATUS.RINGID, 255), (BAR_STATUS.NODE, 3)] with dir := [dirRec 2 6, dirRec 3 0 true] }
     let k : Nat := 2
     let n := s.node
     let st := n.lullSt
     let idle := n.isLead = true ∧ n.committed = true ∧ n.lull.ring = none ∧ st = 0
     (s.node.running = true ∧ idle ∧ (n.ringNumbers.find? (fun m => 0 < m) = some k) ∧ k ≠ n.nodeNum)
      ∧ (s.node.running = true ∧ (st = 0 ∨ 4 ≤ st))) := by decide +kernel

theorem met_LullRing_2 :
    (let s : State := st (ll [(AON_LCTRL.VOTE, 2)])
     let u : UnitRx := tok 1
     let args : List Byte := leBytes 4 8 ++ [255]
     let n := s.node
     let st := n.lullSt
     let b := u.body
     let num := le b 2 1
     let token := le b 0 1 = 0x40 ∧ b.length = 8 ∧ u.node = n.bar.leadNum ∧ num = n.nodeNum ∧ n.nodeNum ≠ 0 ∧ n.committed = true ∧ st < 3
     (s.node.running = true ∧ token ∧ n.lull.wakeHeard = [])
      ∧ (s.node.running = true ∧ n.committed = true ∧ st < 3 ∧ 8 ≤ le args 0 4)) := by decide +kernel

theorem met_LullRing_7 :
    (let s : State := st (ll [(INA_STATUS.LEAD, 1), (AON_LSTATUS.STATE, 3)] { ring := some (rr 2) })
     let u : UnitRx := rep 2 0 20 6
     let v : Word := 0
     let r : RingRun := rr 2
     let n := s.node
     let st := n.lullSt
     let b := u.body
     let num := le b 2 1
     let vote := le b 3 1
     let token := le b 0 1 = 0x40 ∧ b.length = 8 ∧ u.node = n.bar.leadNum ∧ num = n.nodeNum ∧ n.nodeNum ≠ 0 ∧ n.committed = true ∧ st < 3
     let idle := n.isLead = true ∧ n.committed = true ∧ n.lull.ring = none ∧ st = 0
     let id := (n.rd AON_LSTATUS.RINGID + 1) % 256
     let reply := le b 0 1 = 0x41 ∧ b.length = 16 ∧ n.lull.ring = some r ∧ r.id = le b 1 1 ∧ n.isLead = true
     (s.node.running = true ∧ (¬ idle))
      ∧ (s.node.running = true ∧ (¬ token))
      ∧ (s.node.running = true ∧ n.lull.ring = some r ∧ st ≤ 3)
      ∧ (s.node.running = true ∧ n.lull.ring = some r ∧ st ≤ 3 ∧ r.tokenAt.isSome = true)
      ∧ (s.node.running = true ∧ reply ∧ vote ≠ 1 ∧ vote ≠ 2 ∧ st ≤ 3 ∧ ((∀ i, i < 8 → n.rd (AON_HOINFO.COUNT i) = 0)))
      ∧ (s.node.running = true ∧ (st ≠ 2 ∨ v.toNat / 4 % 4 = 1 ∨ v.toNat / 4 % 4 = 2))
      ∧ (s.node.running = true ∧ (n.committed = false ∨ 3 ≤ st))
      ∧ (s.node.running = true ∧ st = 3)
      ∧ (s.node.running = true ∧ st = 3 ∧ n.on AON_LSTATUS.AWAKE = false)) := by decide +kernel

theorem met_LullRing_8 :
    (let s : State := st (ll [(INA_STATUS.LEAD, 1), (AON_LSTATUS.STATE, 1)] { ring := some (rr 2) })
     let u : UnitRx := rep 2 2 0 6
     let r : RingRun := rr 2
     let k : Nat := 3
     let n := s.node
     let st := n.lullSt
     let b := u.body
     let num := le b 2 1
     let vote := le b 3 1
     let id := (n.rd AON_LSTATUS.RINGID + 1) % 256
     let reply := le b 0 1 = 0x41 ∧ b.length = 16 ∧ n.lull.ring = some r ∧ r.id = le b 1 1 ∧ n.isLead = true
     let next := n.ringNumbers.find? (fun m => r.at_ < m)
     (s.node.running = true ∧ reply ∧ (vote = 1 ∨ vote = 2) ∧ num = r.at_ ∧ r.tokenAt.isSome = true ∧ next = some k ∧ k ≠ n.nodeNum)
      ∧ (s.node.running = true ∧ st ≠ 3)
      ∧ (s.node.running = true ∧ st ≠ 2 ∧ st ≠ 3)) := by decide +kernel

theorem met_LullRing_9 :
    (let s : State := st (ll [(INA_STATUS.LEAD, 1), (AON_LSTATUS.STATE, 1), (AON_CANSTB.EN, 255)] { ring := some (rr 3) })
     let u : UnitRx := rep 3 1 0 7
     let r : RingRun := rr 3
     let n := s.node
     let b := u.body
     let num := le b 2 1
     let vote := le b 3 1
     let id := (n.rd AON_LSTATUS.RINGID + 1) % 256
     let reply := le b 0 1 = 0x41 ∧ b.length = 16 ∧ n.lull.ring = some r ∧ r.id = le b 1 1 ∧ n.isLead = true
     let next := n.ringNumbers.find? (fun m => r.at_ < m)
     s.node.running = true ∧ reply ∧ (vote = 1 ∨ vote = 2) ∧ num = r.at_ ∧ r.tokenAt.isSome = true ∧ next = none) := by decide +kernel

theorem met_LullRing_10 :
    (let s : State := st (ll [(AON_LSTATUS.STATE, 2), (AON_LSTATUS.RINGID, 255)])
     let u : UnitRx := tok 2
     let v : Word := 0xFFFFFF03
     let n := s.node
     let st := n.lullSt
     let b := u.body
     let vote := le b 3 1
     (s.node.running = true ∧ n.lull.ring = none)
      ∧ (s.node.running = true ∧ n.lull.ring = none ∧ vote ≠ 2)
      ∧ (s.node.running = true ∧ st = 2 ∧ (v.toNat / 4 % 4 = 0 ∨ v.toNat / 4 % 4 = 3) ∧ n.lull.ring = none)
      ∧ (s.node.running = true ∧ 1 ≤ st ∧ st ≤ 3 ∧ n.lull.ring = none)) := by decide +kernel

theorem met_LullRing_13 :
    (let s : State := st { ll [(AON_LSTATUS.STATE, 3), (AON_LSTATUS.AWAKE, 1), (AON_LE.VALUE, 100)] {} { lullFlag := true } with pair := { stilled := true } }
     let n := s.node
     let st := n.lullSt
     let due := n.rd AON_LE.VALUE ≤ n.cycle
     (s.node.running = true ∧ st = 3 ∧ n.on AON_LSTATUS.AWAKE = true)
      ∧ (s.node.running = true ∧ st = 3 ∧ n.on AON_LSTATUS.AWAKE = true ∧ due)) := by decide +kernel

theorem met_LullRing_14 :
    (let s : State := st (ll [(AON_LSTATUS.STATE, 3), (AON_LE.VALUE, 100)] { enterHeld := true })
     let n := s.node
     let st := n.lullSt
     let due := n.rd AON_LE.VALUE ≤ n.cycle
     s.node.running = true ∧ st = 3 ∧ n.on AON_LSTATUS.AWAKE = false ∧ due ∧ (n.lull.enterHeld = true ∨ n.on AON_LCTRL.AUTO = true)) := by decide +kernel

end MetLullRing

namespace MetWakeAndSquall

def wk3 (l : List (Field × Nat)) (x : LullState := {}) (b : BarState := {}) : Node := { com (l ++ [(BAR_CYCLE.VALUE, 100), (BAR_STATUS.NODE, 1), (AON_LSTATUS.STATE, 3), (AON_LK.VALUE, 99), (AON_LE.VALUE, 103), (AON_WCTRL.SQATT, 8), (AON_LSTATUS.RINGID, 5)]) { b with leadNum := 1 } with lull := x, dir := [dirRec 1 0 true, dirRec 2 6] }
def wreq (ring at_ : Nat) : ContRx := let head := leBytes 1 0x61 ++ [1] ++ leBytes 8 6 ++ leBytes 4 9 ++ leBytes 4 99 ++ [0, 2, 4, 0] ++ leBytes 4 at_ ++ [0] ++ leBytes 1 ring ++ List.replicate 16 0; let body := head ++ leBytes 4 (crc32 head); ⟨0, 0, body ++ tag64 ((nd []).compKey 9 0) body, 0⟩
def sqw (k : Nat) (last : Bool := true) : List SquallWindow := List.replicate k ⟨true⟩ ++ [⟨last⟩]

theorem met_WakeAndSquall_0 :
    (let s : State := st (nd [(AON_CANSTB.REQ, 0xF0), (AON_CANSTB.ACK, 0x10), (AON_CANREL.STBY, 0xFF)])
     let f : ContRx := cf 0x61 6 1 1 1 []
     let att : Fin 4 := 0
     let ws : List SquallWindow := sqw 7 false
     let n := s.node
     let run := n.running = true
     let miss := n.rd AON_CANSTB.REQ &&& (255 - n.rd AON_CANSTB.ACK)
     let good := run ∧ n.goodCont f 0x61
     let heard := bit (n.rd AON_WCTRL.SQATT) att = true ∧ squallMatched ws = true
     let lost := n.on BAR_CTRL.EN = true ∧ (n.inaState = 1 ∨ n.inaState = 2) ∧ 16 ≤ n.bar.coastRun
     (run ∧ miss ≠ 0)
      ∧ (good ∧ n.isLead = false)
      ∧ (run ∧ (¬ lost) ∧ (¬ (n.isLead = true ∧ n.inaState = 6)))
      ∧ (run ∧ n.committed = false)
      ∧ ((¬ heard))) := by decide +kernel

theorem met_WakeAndSquall_2 :
    (let s : State := st { nd [(AON_WCTRL.SQATT, 8)] with lull := { asleep := true } }
     let src : WakeSource := .squall 3
     let att : Fin 4 := 3
     let ws : List SquallWindow := sqw 7
     let n := s.node
     let asleep := n.lull.asleep = true
     let enabled := n.wakeEnabled src = true
     let heard := bit (n.rd AON_WCTRL.SQATT) att = true ∧ squallMatched ws = true
     (asleep ∧ enabled)
      ∧ (heard ∧ asleep)) := by decide +kernel

theorem met_WakeAndSquall_3 :
    (let s : State := st { nd [(AON_WCTRL.SQATT, 8), (AON_WSRC.SQUALL, 1)] with lull := { asleep := true } }
     let src : WakeSource := .rtc
     let n := s.node
     let asleep := n.lull.asleep = true
     let enabled := n.wakeEnabled src = true
     asleep ∧ (¬ enabled)) := by decide +kernel

theorem met_WakeAndSquall_5 :
    (let s : State := st (wk3 [(INA_STATUS.LEAD, 1), (AON_LK.VALUE, 98)])
     let src : WakeSource := .wakeReq
     let n := s.node
     let run := n.running = true
     let asleep := n.lull.asleep = true
     let st := n.lullSt
     let miss := n.rd AON_CANSTB.REQ &&& (255 - n.rd AON_CANSTB.ACK)
     let fresh := run ∧ n.lull.asleep = false ∧ st = 3 ∧ n.lull.latch = none
     let late := n.rd AON_LK.VALUE + 1 < n.cycle
     let enabled := n.wakeEnabled src = true
     (run)
      ∧ (run ∧ miss = 0)
      ∧ (fresh ∧ enabled ∧ (n.isLead = false ∨ late))
      ∧ ((n.lull.asleep = false ∨ n.lull.latch = none))
      ∧ (run ∧ n.isLead = true ∧ n.inaState = 6)
      ∧ (run ∧ n.committed = true)
      ∧ (run ∧ n.lull.squallAt = none)) := by decide +kernel

theorem met_WakeAndSquall_6 :
    (let s : State := st (wk3 [(INA_STATUS.LEAD, 1)])
     let src : WakeSource := .squall 3
     let n := s.node
     let run := n.running = true
     let asleep := n.lull.asleep = true
     let st := n.lullSt
     let fresh := run ∧ n.lull.asleep = false ∧ st = 3 ∧ n.lull.latch = none
     let late := n.rd AON_LK.VALUE + 1 < n.cycle
     let inTime := n.cycle + 3 ≤ n.rd AON_LE.VALUE
     let enabled := n.wakeEnabled src = true
     fresh ∧ enabled ∧ n.isLead = true ∧ (¬ late) ∧ inTime) := by decide +kernel

theorem met_WakeAndSquall_7 :
    (let s : State := st (wk3 [(INA_STATUS.LEAD, 1)] {} { contOpen := 2 })
     let f : ContRx := wreq 5 100
     let n := s.node
     let run := n.running = true
     let st := n.lullSt
     let inTime := n.cycle + 3 ≤ n.rd AON_LE.VALUE
     let good := run ∧ n.goodCont f 0x61
     let own := n.rd AON_LSTATUS.RINGID = le f.bytes 27 1 ∧ le f.bytes 22 4 ≤ n.rd AON_LK.VALUE + 1
     good ∧ n.isLead = true ∧ st = 3 ∧ n.opens 1 = true ∧ own ∧ inTime) := by decide +kernel

theorem met_WakeAndSquall_8 :
    (let s : State := st (wk3 [(INA_STATUS.LEAD, 1), (AON_LSTATUS.STATE, 2)] {} { contOpen := 2 })
     let f : ContRx := wreq 5 100
     let n := s.node
     let run := n.running = true
     let st := n.lullSt
     let good := run ∧ n.goodCont f 0x61
     good ∧ n.isLead = true ∧ st ≠ 3) := by decide +kernel

theorem met_WakeAndSquall_11 :
    (let s : State := st { nd [] with lull := { asleep := true, latch := some (5, 6) } }
     let n := s.node
     let asleep := n.lull.asleep = true
     asleep ∧ n.lull.latch.isSome = true) := by decide +kernel

theorem met_WakeAndSquall_12 :
    (let s : State := st { nd [(BAR_CTRL.EN, 1), (INA_STATUS.STATE, 2)] with bar := { coastRun := 16 } }
     let n := s.node
     let run := n.running = true
     let lost := n.on BAR_CTRL.EN = true ∧ (n.inaState = 1 ∨ n.inaState = 2) ∧ 16 ≤ n.bar.coastRun
     run ∧ lost) := by decide +kernel

theorem met_WakeAndSquall_13 :
    (let s : State := st (wk3 [] { squallAt := some 100 })
     let q : Nat := 100
     let n := s.node
     let run := n.running = true
     run ∧ n.lull.squallAt = some q ∧ q ≤ n.cycle) := by decide +kernel

theorem met_WakeAndSquall_14 :
    (let s : State := st (wk3 [] { squallAt := some 101 })
     let q : Nat := 101
     let n := s.node
     let run := n.running = true
     run ∧ n.lull.squallAt = some q ∧ n.cycle < q) := by decide +kernel

end MetWakeAndSquall

namespace MetTimeAndLaunches

def tm (t : TimeState) (l : List (Field × Nat) := []) : Node := { nd l with time := t }
def lch (kind index : Nat) (handed : Bool) (time : Word := 20000) (base : Nat := 3) (eng : Nat := 8) : Launch := ⟨base, time, kind, index, eng, handed, false⟩
def t1 (l : Launch) : TimeState := { launches := [l] }
def clx (l : Launch) (w1 w2 : Nat) (f : List (Field × Nat) := []) (x : CanChan := {}) : Node := { cn 5 w1 w2 ([(CAN_STATUS.EMODE 7, 1)] ++ f) x with time := t1 l }
def ptp0 (t : Byte) : List Byte := let b := List.replicate 12 1 ++ [0x88, 0xF7, t, 2] ++ List.replicate 44 0; b ++ leBytes 4 (crc32 b)
def evq : EthFrame := ⟨ptp0 1, true, none, none, some 5⟩

theorem met_TimeAndLaunches_0 :
    (let s : State := st (tm { train := 0xFFFFFFFF, trainFrac := 999999999 })
     let i : Nat := 0
     let n := s.node
     (s.node.running = true ∧ n.time.launches = [])
      ∧ (s.node.running = true ∧ n.eventInSwitch = false ∧ n.time.ptpPending = none ∧ n.time.launches = [])
      ∧ (s.node.running = true ∧ n.time.launches[i]? = none)) := by decide +kernel

theorem met_TimeAndLaunches_1 :
    (let s : State := st (tm { now := 0x1FFFFFFFE, ptpPending := some 3 })
     let d : Word := 3
     let base : Fin 4 := 2
     let n := s.node
     (s.node.running = true ∧ (n.tick.base base).toNat < (n.base base).toNat)
      ∧ (s.node.running = true ∧ 4294967294 ≤ n.now % 4294967296)
      ∧ (s.node.running = true ∧ n.time.ptpPending = some d ∧ n.eventInSwitch = false ∧ n.time.launches = [])) := by decide +kernel

theorem met_TimeAndLaunches_3 :
    (let s : State := st (tm { launches := [lch 1 1535 false 0x7FFFFFFF], utc := 0 })
     let v : Word := 0xFFFFFFFE
     let base : Fin 4 := 0
     let l : Launch := lch 1 1535 false 0x7FFFFFFF
     let n := s.node
     let one := n.time.launches = [l]
     s.node.running = true ∧ one ∧ l.base = 3 ∧ l.handed = false ∧ 2147483648 ≤ signed32 (l.time - n.time.utc).toNat - signed32 (v - n.time.utc).toNat) := by decide +kernel

theorem met_TimeAndLaunches_5 :
    (let s : State := st { tm { ptpPending := some 3 } [(ETH_CTRL.EN, 1), (TIME_TC.L2EN, 1)] with eth := { q1 := [evq] } }
     let n := s.node
     s.node.running = true ∧ n.eventInSwitch = true) := by decide +kernel

theorem met_TimeAndLaunches_6 :
    (let s : State := st (clx (lch 1 1535 false) 0x208 2)
     let i : Nat := 0
     let c : Nat := 7
     let o : Nat := 8
     let l : Launch := lch 1 1535 false
     let r : PtpRx := ⟨0, [], 0, 0⟩
     let n := s.node
     let one := n.time.launches = [l]
     let due := n.ahead l
     let can := l.kind = 1 ∧ n.poolOf l.index = some (c, o) ∧ c < 8
     let out := 1 - r.ingress.val
     let crosses := n.ethOn r.ingress = true ∧ n.ethLink out = true
     (s.node.running = true ∧ n.now % 4294967296 < 4294967294)
      ∧ (s.node.running = true ∧ (n.time.ptpPending = none ∨ n.eventInSwitch = true))
      ∧ (s.node.running = true ∧ n.time.launches[i]? = some l ∧ (l.handed = false ∨ (0 < due ∧ l.late = false)))
      ∧ (s.node.running = true ∧ one ∧ l.handed = false ∧ due ≤ 20000 ∧ can ∧ n.canSt l.index = 2 ∧ n.canLaunch l.index = true ∧ n.canNoLaunch c = false)
      ∧ (s.node.running = true)
      ∧ (s.node.running = true ∧ (¬ crosses))) := by decide +kernel

theorem met_TimeAndLaunches_7 :
    (let s : State := st (clx (lch 1 1535 false) 0x208 2 [(CAN_STATUS.ESTATE 7, 2)] { order := [1535] })
     let c : Nat := 7
     let o : Nat := 8
     let l : Launch := lch 1 1535 false
     let n := s.node
     let one := n.time.launches = [l]
     let due := n.ahead l
     let can := l.kind = 1 ∧ n.poolOf l.index = some (c, o) ∧ c < 8
     s.node.running = true ∧ one ∧ l.handed = false ∧ due ≤ 20000 ∧ can ∧ n.canSt l.index = 2 ∧ n.canLaunch l.index = true ∧ n.canNoLaunch c = true) := by decide +kernel

theorem met_TimeAndLaunches_8 :
    (let s : State := st (clx (lch 1 1535 false) 0x008 2)
     let c : Nat := 7
     let o : Nat := 8
     let l : Launch := lch 1 1535 false
     let n := s.node
     let one := n.time.launches = [l]
     let due := n.ahead l
     let can := l.kind = 1 ∧ n.poolOf l.index = some (c, o) ∧ c < 8
     s.node.running = true ∧ one ∧ l.handed = false ∧ due ≤ 20000 ∧ can ∧ (n.canSt l.index ≠ 2 ∨ n.canLaunch l.index = false)) := by decide +kernel

theorem met_TimeAndLaunches_9 :
    (let s : State := st (clx (lch 1 1535 true 0) 0x208 2 [] { handed := [1535] })
     let i : Nat := 0
     let c : Nat := 7
     let o : Nat := 8
     let l : Launch := lch 1 1535 true 0
     let n := s.node
     let one := n.time.launches = [l]
     let due := n.ahead l
     let can := l.kind = 1 ∧ n.poolOf l.index = some (c, o) ∧ c < 8
     (s.node.running = true ∧ n.time.launches[i]? = some l ∧ (l.handed = true ∨ 20000 < due))
      ∧ (s.node.running = true ∧ one ∧ l.handed = true ∧ due ≤ 0 ∧ can ∧ l.index ∈ (n.chan c).handed ∧ n.canNoLaunch c = false)) := by decide +kernel

theorem met_TimeAndLaunches_11 :
    (let s : State := st (clx (lch 1 1535 true 0) 0x208 2)
     let c : Nat := 7
     let o : Nat := 8
     let l : Launch := lch 1 1535 true 0
     let n := s.node
     let one := n.time.launches = [l]
     let due := n.ahead l
     let can := l.kind = 1 ∧ n.poolOf l.index = some (c, o) ∧ c < 8
     s.node.running = true ∧ one ∧ l.handed = true ∧ due ≤ 0 ∧ can ∧ (¬ l.index ∈ (n.chan c).handed)) := by decide +kernel

theorem met_TimeAndLaunches_12 :
    (let s : State := st (tm (t1 (lch 3 3 false)) [(TDM_CTRL.EN 3, 1), (TDM_CTRL.MASTER 3, 1), (TDM_CTRL.OWNER 3, 8)])
     let l : Launch := lch 3 3 false
     let n := s.node
     let one := n.time.launches = [l]
     let due := n.ahead l
     let tdm := l.kind = 3 ∧ l.index < 4
     s.node.running = true ∧ one ∧ l.handed = false ∧ due ≤ 20000 ∧ tdm ∧ n.on (TDM_CTRL.EN l.index) = true ∧ n.on (TDM_CTRL.MASTER l.index) = true ∧ n.on (TDM_STATUS.RUN l.index) = false ∧ n.rd (TDM_CTRL.OWNER l.index) = l.eng) := by decide +kernel

theorem met_TimeAndLaunches_13 :
    (let s : State := st { tm (t1 (lch 3 3 true 0)) [(TDM_CTRL.EN 3, 1), (TDM_CTRL.MASTER 3, 1), (TDM_CTRL.OWNER 3, 8)] with tdm := [(3, { handed := true })] }
     let l : Launch := lch 3 3 true 0
     let n := s.node
     let one := n.time.launches = [l]
     let due := n.ahead l
     let tdm := l.kind = 3 ∧ l.index < 4
     s.node.running = true ∧ one ∧ l.handed = true ∧ due ≤ 0 ∧ tdm ∧ (n.tdmSt l.index).handed = true) := by decide +kernel

theorem met_TimeAndLaunches_14 :
    (let s : State := st (nd [(ETH_CTRL.EN, 1), (ETH_CTRL.P0MODE, 1), (ETH_CTRL.P1MODE, 2), (ETH_PSTAT.LINK 0, 1), (ETH_PSTAT.LINK 1, 1), (TIME_TC.EN, 1), (TIME_TC.L2EN, 1)])
     let r : PtpRx := ⟨1, ptp0 1, 100, 350⟩
     let off : Nat := 14
     let n := s.node
     let out := 1 - r.ingress.val
     let crosses := n.ethOn r.ingress = true ∧ n.ethLink out = true
     s.node.running = true ∧ crosses ∧ fcsOk r.bytes = true ∧ n.on TIME_TC.EN = true ∧ n.ptpOff r.bytes = some off ∧ ptpV2 r.bytes off = true ∧ ptpType r.bytes off = 1) := by decide +kernel

theorem met_TimeAndLaunches_15 :
    (let s : State := st (nd [(ETH_CTRL.EN, 1), (ETH_CTRL.P0MODE, 1), (ETH_CTRL.P1MODE, 2), (ETH_PSTAT.LINK 0, 1), (ETH_PSTAT.LINK 1, 1)])
     let r : PtpRx := ⟨0, (ptp0 1).dropLast ++ [0], 100, 350⟩
     let n := s.node
     let out := 1 - r.ingress.val
     let crosses := n.ethOn r.ingress = true ∧ n.ethLink out = true
     s.node.running = true ∧ crosses ∧ fcsOk r.bytes = false) := by decide +kernel

end MetTimeAndLaunches

namespace MetCanPool

def pl (l : List (Field × Nat)) (p : Tab (Option (Nat × Nat)) := []) (x : CanChan := {}) : Node := { nd l with can := { pool := p, chans := [(7, x)] } }
def pv (first count ch ow : Nat) : Word := BitVec.ofNat 32 (first + 2048 * count + 4194304 * ch + 33554432 * ow)

theorem met_CanPool_0 :
    (let s : State := st (pl [(CAN_QUOTA.QUOTA 7, 1)])
     let v : Word := pv 1535 1 7 8
     let n := s.node
     let first := v.toNat % 2048
     let count := v.toNat / 2048 % 2048
     let ch := v.toNat / 4194304 % 8
     let ow := v.toNat / 33554432 % 16
     let bad := if 8 < ow then 7 else if count = 0 then 6 else if 1536 < first + count then 4 else 0
     let alloc := if bad ≠ 0 then bad else if (∃ k, k < count ∧ n.poolOf (first + k) ≠ none) then 3
      else if ow < 8 ∧ n.rd (ENG_QPOOL.QUOTA ow) < n.rd (ENG_QPOOL.USE ow) + count then 1
      else if min 1536 (n.rd (CAN_QUOTA.QUOTA ch)) < n.rd (CAN_QUOTA.USE ch) + count then 2 else 0
     s.node.running = true ∧ alloc = 0) := by decide +kernel

theorem met_CanPool_2 :
    (let s : State := st (pl [(CAN_QUOTA.QUOTA 7, 3), (ENG_QPOOL.QUOTA 5, 1)])
     let by_ : Initiator := .host
     let v : Word := pv 1534 2 7 5
     let n := s.node
     let e := v.toNat % 2048
     let me := accessOwner by_
     (s.node.running = true)
      ∧ (s.node.running = true ∧ (n.poolOf e).map (·.2) ≠ some me)) := by decide +kernel

theorem met_CanPool_8 :
    (let s : State := st (pl [(CAN_QUOTA.USE 7, 2), (ENG_QPOOL.USE 5, 2), (CAN0_PUSE.USE, 2)] [(1534, some (7, 5)), (1535, some (7, 5))] { order := [1534, 3] })
     let v : Word := pv 1534 2 7 5
     let n := s.node
     let first := v.toNat % 2048
     let count := v.toNat / 2048 % 2048
     let ch := v.toNat / 4194304 % 8
     let ow := v.toNat / 33554432 % 16
     let bad := if 8 < ow then 7 else if count = 0 then 6 else if 1536 < first + count then 4 else 0
     let free := if bad ≠ 0 then bad else if (∃ k, k < count ∧ n.poolOf (first + k) ≠ some (ch, ow)) then 5 else 0
     s.node.running = true ∧ free = 0) := by decide +kernel

theorem met_CanPool_9 :
    (let s : State := st (cn 5 8 1)
     let by_ : Initiator := .host
     let v : Word := 1535
     let chan : Fin 8 := 7
     let c : Nat := 7
     let n := s.node
     let e := v.toNat % 2048
     let me := accessOwner by_
     let mine := n.poolOf e = some (c, me)
     let st := n.canSt e
     (s.node.running = true ∧ mine ∧ st ≠ 0)
      ∧ (s.node.running = true ∧ mine ∧ st ≠ 4 ∧ st ≠ 6)
      ∧ (s.node.running = true ∧ mine ∧ st ≠ 5 ∧ (st ≠ 2 ∨ e ∈ (n.chan c).handed))) := by decide +kernel

theorem met_CanPool_10 :
    (let s : State := st (cn 5 8 2 [] { order := [1535] })
     let by_ : Initiator := .host
     let v : Word := 1535
     let chan : Fin 8 := 7
     let c : Nat := 7
     let n := s.node
     let e := v.toNat % 2048
     let me := accessOwner by_
     let mine := n.poolOf e = some (c, me)
     let st := n.canSt e
     let queued := (n.chan chan).order = [e] ∧ n.canSt e = 2 ∧ n.canGuar e = false ∧ ¬ e ∈ (n.chan chan).handed ∧ n.canRec e = none
     (s.node.running = true ∧ mine ∧ st = 2 ∧ (¬ e ∈ (n.chan c).handed))
      ∧ (s.node.running = true ∧ queued)) := by decide +kernel

theorem met_CanPool_12 :
    (let s : State := st (cn 5 8 0 [] { order := [3] })
     let by_ : Initiator := .host
     let v : Word := 1535
     let c : Nat := 7
     let n := s.node
     let e := v.toNat % 2048
     let me := accessOwner by_
     let mine := n.poolOf e = some (c, me)
     let st := n.canSt e
     let whole := n.uceIn (poolAddr e) 80 = false
     (s.node.running = true ∧ mine ∧ st = 0)
      ∧ (s.node.running = true ∧ mine ∧ st = 0 ∧ whole ∧ n.canInvalid c e = false ∧ n.canGuar e = false)) := by decide +kernel

theorem met_CanPool_13 :
    (let s : State := st (cn 5 9 0)
     let by_ : Initiator := .host
     let v : Word := 1535
     let c : Nat := 7
     let n := s.node
     let e := v.toNat % 2048
     let me := accessOwner by_
     let mine := n.poolOf e = some (c, me)
     let st := n.canSt e
     let whole := n.uceIn (poolAddr e) 80 = false
     s.node.running = true ∧ mine ∧ st = 0 ∧ whole ∧ n.canInvalid c e = true) := by decide +kernel

theorem met_CanPool_14 :
    (let s : State := st (cn 5 0x88 0 [(MSG_CTRL.EN, 1), (MSG_CTRL.PERSIST, 1), (QSPI_STATUS.READY 1, 1)] { subSeq := 0xFFFFFFFF })
     let by_ : Initiator := .host
     let v : Word := 1535
     let c : Nat := 7
     let n := s.node
     let e := v.toNat % 2048
     let me := accessOwner by_
     let mine := n.poolOf e = some (c, me)
     let st := n.canSt e
     let whole := n.uceIn (poolAddr e) 80 = false
     s.node.running = true ∧ mine ∧ st = 0 ∧ whole ∧ n.canInvalid c e = false ∧ n.canGuar e = true ∧ n.msg.canRecs.length < 512 ∧ n.acceptMode ≠ 0) := by decide +kernel

theorem met_CanPool_15 :
    (let s : State := st (cn 5 8 6)
     let by_ : Initiator := .host
     let v : Word := 1535
     let c : Nat := 7
     let n := s.node
     let e := v.toNat % 2048
     let me := accessOwner by_
     let mine := n.poolOf e = some (c, me)
     let st := n.canSt e
     s.node.running = true ∧ mine ∧ st = 6) := by decide +kernel

theorem met_CanPool_16 :
    (let s : State := st (cn 5 8 0x64)
     let by_ : Initiator := .host
     let v : Word := 1535
     let c : Nat := 7
     let n := s.node
     let e := v.toNat % 2048
     let me := accessOwner by_
     let mine := n.poolOf e = some (c, me)
     let st := n.canSt e
     s.node.running = true ∧ mine ∧ st = 4) := by decide +kernel

theorem met_CanPool_17 :
    (let s : State := st (cn 5 8 5)
     let by_ : Initiator := .host
     let v : Word := 1535
     let c : Nat := 7
     let n := s.node
     let e := v.toNat % 2048
     let me := accessOwner by_
     let mine := n.poolOf e = some (c, me)
     let st := n.canSt e
     s.node.running = true ∧ mine ∧ st = 5) := by decide +kernel

end MetCanPool

namespace MetCanChannels

def cx (l : List (Field × Nat) := []) (x : CanChan := {}) (w2 : Nat := 2) (w0 : Nat := 5) : Node := cn w0 8 w2 ([(CAN_STATUS.EMODE 7, 1)] ++ l) x
def fr1 : Word × Word × List Byte := (0x40000005, 8, [1, 2, 3, 4, 5, 6, 7, 8, 9])
def fr2 : Word × Word × List Byte := (5, 8, [1, 2, 3, 4, 5, 6, 7, 8, 9])
def flt (first : Nat := 1534) : List (Field × Nat) := [(CAN_FW0.EN 7 63, 1), (CAN_FW0.ID 7 63, 0x7FF * 262144), (CAN_FW1.MASK 7 63, 0x1FFFFFFF), (CAN_FW2.FIRST 7 63, first), (CAN_FW2.COUNT 7 63, 2)]
def rx1 : CanRx := ⟨0x7FF, false, false, false, false, false, List.replicate 8 0xAB⟩
def rx2 : CanRx := ⟨0x1FFFFFFF, true, true, true, true, false, List.replicate 64 0xAB⟩

theorem met_CanChannels_0 :
    (let s : State := st (nd [(CAN_NBT.TSEG1 7, 1), (CAN_NBT.TSEG2 7, 1)])
     let v : Word := 5
     let ch : Fin 8 := 7
     let n := s.node
     let ctrl := (CAN_CTRL.MODE ch).addr
     let set := n.setReg ctrl (v &&& 0x00F31FFF)
     let mode := v.toNat % 8
     let refused := mode ≠ 0 ∧ mode < 6 ∧ set.canTiming ch = false ∧ n.canMode ch = 0
     let x := n.chan ch
     (s.node.running = true ∧ refused)
      ∧ (s.node.running = true ∧ x.tx = none)) := by decide +kernel

theorem met_CanChannels_4 :
    (let s : State := st (cx [(CAN_STATUS.ESTATE 7, 3), (CAN_ERRCNT.TEC 7, 255)])
     let ch : Fin 8 := 7
     let n := s.node
     let est := n.rd (CAN_STATUS.ESTATE ch)
     s.node.running = true ∧ est = 3) := by decide +kernel

theorem met_CanChannels_5 :
    (let s : State := st (cx [(CAN_STATUS.ESTATE 7, 2)] { tx := some .sync })
     let v : Word := 7
     let ch : Fin 8 := 7
     let n := s.node
     let ctrl := (CAN_CTRL.MODE ch).addr
     let set := n.setReg ctrl (v &&& 0x00F31FFF)
     let mode := v.toNat % 8
     let refused := mode ≠ 0 ∧ mode < 6 ∧ set.canTiming ch = false ∧ n.canMode ch = 0
     let est := n.rd (CAN_STATUS.ESTATE ch)
     let m0 := n.rd (CAN_STATUS.EMODE ch)
     let x := n.chan ch
     let hears := m0 ≠ 0 ∧ m0 ≠ 4 ∧ n.on (CAN_STATUS.ASLEEP ch) = false ∧ est < 2
     (s.node.running = true ∧ (¬ refused))
      ∧ (s.node.running = true)
      ∧ (s.node.running = true ∧ est ≠ 3)
      ∧ (s.node.running = true ∧ (n.canSends ch = false ∨ (x.order = [] ∧ x.seq = none)))
      ∧ (s.node.running = true ∧ (¬ hears))) := by decide +kernel

theorem met_CanChannels_6 :
    (let s : State := st (cx [] { order := [1535] })
     let ch : Fin 8 := 7
     let e : Nat := 1535
     let n := s.node
     let x := n.chan ch
     let plain := n.canGuar e = false ∧ n.canSyncf e = false ∧ n.canLaunch e = false
     s.node.running = true ∧ n.canSends ch = true ∧ x.order = [e] ∧ e < 1536 ∧ n.canSt e = 2 ∧ plain ∧ (¬ e ∈ x.handed) ∧ x.seq = none ∧ n.uceIn (poolAddr e) 80 = false) := by decide +kernel

theorem met_CanChannels_7 :
    (let s : State := st (cx [] { seq := some ⟨3, 0, .queued, [], [], false⟩ })
     let ch : Fin 8 := 7
     let q : SyncRun := ⟨3, 0, .queued, [], [], false⟩
     let n := s.node
     let x := n.chan ch
     s.node.running = true ∧ n.canSends ch = true ∧ x.order = [] ∧ x.seq = some q ∧ q.phase = .queued) := by decide +kernel

theorem met_CanChannels_8 :
    (let s : State := st (cx [] { tx := some (.entry 1535), frame := some fr1, order := [1535] } 3)
     let ch : Fin 8 := 7
     let e : Nat := 1535
     let fr : Word × Word × List Byte := fr1
     let n := s.node
     let est := n.rd (CAN_STATUS.ESTATE ch)
     let m0 := n.rd (CAN_STATUS.EMODE ch)
     let x := n.chan ch
     let healthy := est = 0 ∧ n.rd (CAN_ERRCNT.TEC ch) ≤ 100 ∧ n.rd (CAN_ERRCNT.REC ch) ≤ 100
     let sending := x.tx = some (.entry e) ∧ x.frame = some fr ∧ n.canGuar e = false ∧ e < 1536
     (s.node.running = true ∧ sending ∧ healthy ∧ m0 < 4)
      ∧ (s.node.running = true ∧ sending ∧ healthy)) := by decide +kernel

theorem met_CanChannels_12 :
    (let s : State := st (cx [] { tx := some .sync, frame := some fr2, seq := some ⟨3, 0, .sending, [], [], false⟩ })
     let ch : Fin 8 := 7
     let f : CanRx := ⟨0, false, false, false, false, false, []⟩
     let fr : Word × Word × List Byte := fr2
     let q : SyncRun := ⟨3, 0, .sending, [], [], false⟩
     let n := s.node
     let est := n.rd (CAN_STATUS.ESTATE ch)
     let m0 := n.rd (CAN_STATUS.EMODE ch)
     let x := n.chan ch
     let hears := m0 ≠ 0 ∧ m0 ≠ 4 ∧ n.on (CAN_STATUS.ASLEEP ch) = false ∧ est < 2
     (s.node.running = true ∧ x.tx = some .sync ∧ x.frame = some fr ∧ x.seq = some q ∧ m0 < 4)
      ∧ (s.node.running = true ∧ hears ∧ f.fdf = false ∧ n.canFilter ch (rxIdWord f) = none)) := by decide +kernel

theorem met_CanChannels_14 :
    (let s : State := st (cx [(CAN_CTRL.PXHD 7, 1)])
     let ch : Fin 8 := 7
     let f : CanRx := rx2
     let n := s.node
     let est := n.rd (CAN_STATUS.ESTATE ch)
     let m0 := n.rd (CAN_STATUS.EMODE ch)
     let hears := m0 ≠ 0 ∧ m0 ≠ 4 ∧ n.on (CAN_STATUS.ASLEEP ch) = false ∧ est < 2
     s.node.running = true ∧ hears ∧ f.fdf = true ∧ n.on (CAN_CTRL.FDEN ch) = false ∧ n.on (CAN_CTRL.PXHD ch) = true) := by decide +kernel

theorem met_CanChannels_15 :
    (let s : State := st (cx [])
     let ch : Fin 8 := 7
     let f : CanRx := rx2
     let n := s.node
     let est := n.rd (CAN_STATUS.ESTATE ch)
     let m0 := n.rd (CAN_STATUS.EMODE ch)
     let hears := m0 ≠ 0 ∧ m0 ≠ 4 ∧ n.on (CAN_STATUS.ASLEEP ch) = false ∧ est < 2
     s.node.running = true ∧ hears ∧ f.fdf = true ∧ n.on (CAN_CTRL.FDEN ch) = false ∧ n.on (CAN_CTRL.PXHD ch) = false) := by decide +kernel

theorem met_CanChannels_17 :
    (let s : State := st (cx (flt 1535))
     let ch : Fin 8 := 7
     let f : CanRx := rx1
     let k : Nat := 63
     let n := s.node
     let est := n.rd (CAN_STATUS.ESTATE ch)
     let m0 := n.rd (CAN_STATUS.EMODE ch)
     let x := n.chan ch
     let hears := m0 ≠ 0 ∧ m0 ≠ 4 ∧ n.on (CAN_STATUS.ASLEEP ch) = false ∧ est < 2
     let i := n.rd (CAN_FW2.FIRST ch k) + Tab.get (fun _ => 0) x.ring k % n.rd (CAN_FW2.COUNT ch k)
     let takes := hears ∧ (est = 1 ∨ n.rd (CAN_ERRCNT.TEC ch) ≤ 127) ∧ (f.fdf = false ∨ n.on (CAN_CTRL.FDEN ch) = true) ∧ n.canFilter ch (rxIdWord f) = some k
     let room := i < 1536 ∧ (n.poolOf i).map (·.1) = some ch.val ∧ n.canSt i = 5
     s.node.running = true ∧ takes ∧ (¬ room)) := by decide +kernel

theorem met_CanChannels_18 :
    (let s : State := st (cx (flt 1534) { ring := [(63, 1)] } 5)
     let ch : Fin 8 := 7
     let f : CanRx := rx1
     let k : Nat := 63
     let fr : Word × Word × List Byte := (0, 0, [])
     let n := s.node
     let est := n.rd (CAN_STATUS.ESTATE ch)
     let m0 := n.rd (CAN_STATUS.EMODE ch)
     let x := n.chan ch
     let data := if bit fr.1.toNat 30 then [] else fr.2.2.take (dlcLen (bit fr.2.1.toNat 4) (bits fr.2.1.toNat 0 4))
     let hears := m0 ≠ 0 ∧ m0 ≠ 4 ∧ n.on (CAN_STATUS.ASLEEP ch) = false ∧ est < 2
     let i := n.rd (CAN_FW2.FIRST ch k) + Tab.get (fun _ => 0) x.ring k % n.rd (CAN_FW2.COUNT ch k)
     let takes := hears ∧ (est = 1 ∨ n.rd (CAN_ERRCNT.TEC ch) ≤ 127) ∧ (f.fdf = false ∨ n.on (CAN_CTRL.FDEN ch) = true) ∧ n.canFilter ch (rxIdWord f) = some k
     let room := i < 1536 ∧ (n.poolOf i).map (·.1) = some ch.val ∧ n.canSt i = 5
     s.node.running = true ∧ takes ∧ room ∧ f.data.length ≤ 64) := by decide +kernel

end MetCanChannels

namespace MetEthernet

def en (l : List (Field × Nat)) (e : EthState := {}) (m : Tab Byte := []) : Node := { nd (l ++ [(ETH_CTRL.EN, 1), (ETH_CTRL.P0MODE, 1), (ETH_CTRL.P1MODE, 2), (ETH_PSTAT.LINK 0, 1), (ETH_PSTAT.LINK 1, 1), (ETH_MAC_HI.VALUE, 2), (ETH_MAC_LO.VALUE, 0x04030201), (ETH_CTRL.LEARN, 1)]) with eth := e, mem := m }
def own : Nat := 0x020001020304
def fra (dst src type : Nat) (k : Nat := 50) : List Byte := let b := beBytes 6 dst ++ beBytes 6 src ++ beBytes 2 type ++ List.replicate k 7; b ++ leBytes 4 (crc32 b)
def rxr : List (Field × Nat) := [(ETH_RXCNT.COUNT, 256), (ETH_RXCNT.NEXT, 255), (ETH_RXRING.VALUE, 0x202FF000)]
def txr (len : Nat) (buf : Nat := 0x20200000) : Node := en [(ETH_TXCNT.COUNT, 1), (ETH_TXRING.VALUE, 0x207FFFF0)] {} (cells 0x20200000 [1, 2, 3] ++ cells 0x207FFFF0 (leBytes 4 buf ++ leBytes 2 len ++ [1, 1]))
def gw (e : EthState) : Node := en [(SIG_CTRL.GWEN, 1), (SIG_GWW2.EN 63, 1), (SIG_GWW0.COUNT 63, 1), (SIG_GWW0.FIRST 63, 65535), (SIG_GWW1.DEST 63, 0xC0A80007), (ETH_MASK.VALUE, 0xFFFFFF00), (ETH_IP.VALUE, 0xC0A80001)] e (cells (pimgAddr 65535) [5, 0, 0, 0, 0, 0, 0, 0x80])
def gp : List Byte := [1, 63, 1, 0, 0, 0, 1, 0] ++ List.replicate 8 0 ++ [0, 0, 0, 0] ++ [5, 0, 0, 0, 0, 0, 0, 0x80]
def mg2 (l : List (Field × Nat) := []) : Node := en (l ++ [(ETH_MGMT.EN, 1), (ETH_MGMT.PORT, 65535)])
def ef (d sl : Option Nat) : EthFrame := ⟨[1, 2, 3], false, d, sl, none⟩

theorem met_Ethernet_1 :
    (let s : State := st (en [])
     let r : EthRx := ⟨.eth0, List.replicate 1537 0, 0⟩
     let n := s.node
     let b := r.bytes
     let here := r.port = .eth0 ∧ n.ethOn 0 = true
     s.node.running = true ∧ here ∧ 1536 < b.length) := by decide +kernel

theorem met_Ethernet_2 :
    (let s : State := st (en [])
     let r : EthRx := ⟨.eth0, List.replicate 64 0, 0⟩
     let n := s.node
     let b := r.bytes
     let here := r.port = .eth0 ∧ n.ethOn 0 = true
     s.node.running = true ∧ here ∧ b.length ≤ 1536 ∧ fcsOk b = false) := by decide +kernel

theorem met_Ethernet_3 :
    (let s : State := st (en [])
     let r : EthRx := ⟨.eth0, fra 0x021112131415 0x022122232425 0x88B5, 0⟩
     let n := s.node
     let b := r.bytes
     let here := r.port = .eth0 ∧ n.ethOn 0 = true
     let fine := here ∧ b.length ≤ 1536 ∧ fcsOk b = true
     let dst := be b 0 6
     let src := macSrc b
     (s.node.running = true ∧ fine ∧ n.intWants b = false ∧ n.on ETH_CTRL.LEARN = true ∧ bit (src / 1099511627776) 0 = false ∧ n.eth.macs.length < 2048)
      ∧ (s.node.running = true ∧ fine ∧ n.intWants b = false ∧ dst ≠ n.ownMac ∧ dst ≠ src ∧ n.macPort dst = none ∧ n.ethLink 1 = true ∧ n.eth.q1 = [])) := by decide +kernel

theorem met_Ethernet_4 :
    (let s : State := st (en rxr)
     let r : EthRx := ⟨.eth0, fra own 0x022122232425 0x88B5, 0⟩
     let n := s.node
     let b := r.bytes
     let here := r.port = .eth0 ∧ n.ethOn 0 = true
     let fine := here ∧ b.length ≤ 1536 ∧ fcsOk b = true
     let dst := be b 0 6
     let desc := n.rd ETH_RXRING.VALUE + 16 * n.rd ETH_RXCNT.NEXT
     let ring := 0 < n.rd ETH_RXCNT.COUNT ∧ n.rd ETH_RXCNT.COUNT ≤ 256 ∧ ethMem desc 16 = true ∧ n.uceIn desc 16 = false
     let own := bit (n.memByte (desc + 6)).toNat 0
     let raw := dst = n.ownMac ∧ dst ≠ 0 ∧ be b (typeOff b) 2 ≠ 0x0800 ∧ be b (typeOff b) 2 ≠ 0x0806
     s.node.running = true ∧ fine ∧ raw ∧ ring ∧ own = false) := by decide +kernel

theorem met_Ethernet_5 :
    (let s : State := st (en rxr {} (cells 0x202FFFF0 [0, 0, 0x20, 0x20, 0, 0, 1]))
     let r : EthRx := ⟨.eth0, fra own 0x022122232425 0x88B5, 9⟩
     let n := s.node
     let b := r.bytes
     let here := r.port = .eth0 ∧ n.ethOn 0 = true
     let fine := here ∧ b.length ≤ 1536 ∧ fcsOk b = true
     let dst := be b 0 6
     let desc := n.rd ETH_RXRING.VALUE + 16 * n.rd ETH_RXCNT.NEXT
     let buf := n.memLe desc 4
     let ring := 0 < n.rd ETH_RXCNT.COUNT ∧ n.rd ETH_RXCNT.COUNT ≤ 256 ∧ ethMem desc 16 = true ∧ n.uceIn desc 16 = false
     let own := bit (n.memByte (desc + 6)).toNat 0
     let raw := dst = n.ownMac ∧ dst ≠ 0 ∧ be b (typeOff b) 2 ≠ 0x0800 ∧ be b (typeOff b) 2 ≠ 0x0806
     s.node.running = true ∧ fine ∧ raw ∧ ring ∧ own = true ∧ ethMem buf 1536 = true ∧ ((buf + 1536 ≤ desc ∨ desc + 16 ≤ buf))) := by decide +kernel

theorem met_Ethernet_6 :
    (let s : State := st (nd [])
     let n := s.node
     s.node.running = true ∧ n.on ETH_CTRL.EN = false) := by decide +kernel

theorem met_Ethernet_7 :
    (let s : State := st (txr 60)
     let n := s.node
     let tdesc := n.rd ETH_TXRING.VALUE + 16 * n.rd ETH_TXCNT.NEXT
     let tlen := n.memLe (tdesc + 4) 2
     let tbuf := n.memLe tdesc 4
     let one := n.on ETH_CTRL.EN = true ∧ n.rd ETH_TXCNT.COUNT = 1 ∧ n.rd ETH_TXCNT.NEXT = 0 ∧ ethMem tdesc 16 = true ∧ n.uce = []
      ∧ n.eth.q0 = [] ∧ n.eth.q1 = [] ∧ bit (n.memByte (tdesc + 6)).toNat 0 = true ∧ (n.memByte (tdesc + 7)).toNat % 4 = 1 ∧ n.ethOn 0 = true
     s.node.running = true ∧ one ∧ 60 ≤ tlen ∧ tlen ≤ 1532 ∧ ethMem tbuf tlen = true) := by decide +kernel

theorem met_Ethernet_9 :
    (let s : State := st (txr 59)
     let n := s.node
     let tdesc := n.rd ETH_TXRING.VALUE + 16 * n.rd ETH_TXCNT.NEXT
     let tlen := n.memLe (tdesc + 4) 2
     let tbuf := n.memLe tdesc 4
     let one := n.on ETH_CTRL.EN = true ∧ n.rd ETH_TXCNT.COUNT = 1 ∧ n.rd ETH_TXCNT.NEXT = 0 ∧ ethMem tdesc 16 = true ∧ n.uce = []
      ∧ n.eth.q0 = [] ∧ n.eth.q1 = [] ∧ bit (n.memByte (tdesc + 6)).toNat 0 = true ∧ (n.memByte (tdesc + 7)).toNat % 4 = 1 ∧ n.ethOn 0 = true
     s.node.running = true ∧ one ∧ (tlen < 60 ∨ 1532 < tlen ∨ ethMem tbuf tlen = false)) := by decide +kernel

theorem met_Ethernet_12 :
    (let s : State := st (gw {})
     let g : Fin 64 := 63
     let pay : List Byte := gp
     let n := s.node
     let gate := n.on SIG_CTRL.GWEN = true ∧ n.on (SIG_GWW2.EN g) = true ∧ n.rd (SIG_GWW0.COUNT g) ≠ 0 ∧ n.shed = false
      ∧ n.cycle % (max 1 (min 1000 (n.rd (SIG_GWW2.PERIOD g)))) = 0
     let idle := n.eth.q0 = [] ∧ n.eth.q1 = [] ∧ n.uce = []
     s.node.running = true ∧ gate ∧ idle ∧ n.gwPayloads g = [pay] ∧ n.eth.arp = []) := by decide +kernel

theorem met_Ethernet_13 :
    (let s : State := st (gw { arp := [(0xC0A80007, some 0x023132333435)], macs := [(0x023132333435, 0, 0)] })
     let v : Word := 0
     let g : Fin 64 := 63
     let pay : List Byte := gp
     let mac : Nat := 0x023132333435
     let k : Nat := 0
     let n := s.node
     let gate := n.on SIG_CTRL.GWEN = true ∧ n.on (SIG_GWW2.EN g) = true ∧ n.rd (SIG_GWW0.COUNT g) ≠ 0 ∧ n.shed = false
      ∧ n.cycle % (max 1 (min 1000 (n.rd (SIG_GWW2.PERIOD g)))) = 0
     let hop := n.nextHop (n.rd (SIG_GWW1.DEST g))
     let idle := n.eth.q0 = [] ∧ n.eth.q1 = [] ∧ n.uce = []
     let mdio := v.toNat % 32 = k ∧ n.on ETH_MDIO.BUSY = false
     (s.node.running = true ∧ gate ∧ idle ∧ n.gwPayloads g = [pay] ∧ pay.length ≤ 1472 ∧ n.eth.arp = [(hop, some mac)] ∧ mac < 281474976710656 ∧ mac ≠ n.ownMac ∧ bit (mac / 1099511627776) 0 = false ∧ n.macPort mac = some 0 ∧ n.ethOn 0 = true)
      ∧ (s.node.running = true ∧ mdio)) := by decide +kernel

theorem met_Ethernet_14 :
    (let s : State := st (mg2)
     let v : Word := 5
     let p : Fin 2 := 0
     let r : EthRx := ⟨.int, [], 0⟩
     let g : Fin 64 := 0
     let w : EthPort := .eth0
     let pay : List Byte := (tx [3, 0, 0, 0, 0, 0]).dropLast
     let dp : Nat := 65535
     let ent : Fin 16 := 0
     let n := s.node
     let gate := n.on SIG_CTRL.GWEN = true ∧ n.on (SIG_GWW2.EN g) = true ∧ n.rd (SIG_GWW0.COUNT g) ≠ 0 ∧ n.shed = false
      ∧ n.cycle % (max 1 (min 1000 (n.rd (SIG_GWW2.PERIOD g)))) = 0
     let sends := (w = .eth0 ∧ p = 0) ∨ (w = .eth1 ∧ p = 1)
     (s.node.running = true ∧ (r.port = .int ∨ (r.port = .eth0 ∧ n.ethOn 0 = false)))
      ∧ (s.node.running = true ∧ (¬ gate))
      ∧ (s.node.running = true ∧ n.mgmtPort dp = true ∧ (n.mgmtAllows v.toNat = false ∨ mgmtGood pay = false))
      ∧ (s.node.running = true ∧ n.eth.arp[ent.val]? = none)
      ∧ (s.node.running = true ∧ n.rd ETH_CTRL.AGE = 0)
      ∧ (s.node.running = true ∧ n.on ETH_MDIO.BUSY = false)
      ∧ (s.node.running = true ∧ (n.on ETH_MDIOPOLL.EN = false ∨ n.shed = true))
      ∧ (s.node.running = true)
      ∧ (s.node.running = true ∧ (w = .int ∨ (sends ∧ n.ethQ p = [])))) := by decide +kernel

theorem met_Ethernet_16 :
    (let s : State := st (mg2 [(ETH_ALLOWM.VALUE, 0xFFFFFFFF), (ETH_ALLOW.VALUE, 5)])
     let v : Word := 5
     let pay : List Byte := tx [1, 0, 0x20, 0x38, 0, 4, 0xDE, 0xAD, 0xBE, 0xEF]
     let dp : Nat := 65535
     let n := s.node
     s.node.running = true ∧ n.mgmtPort dp = true ∧ n.mgmtAllows v.toNat = true ∧ mgmtGood pay = true ∧ be pay 0 1 = 1 ∧ hostWords pay = 1 ∧ be pay 2 4 % 4 = 0 ∧ n.uce = [] ∧ n.sramMay .agent (be pay 2 4) 4 = true) := by decide +kernel

theorem met_Ethernet_17 :
    (let s : State := st (en [] { arp := [(1, none), (0xFFFFFFFF, some 3)] })
     let dp : Nat := 0
     let ent : Fin 16 := 1
     let ae : Nat × Option Nat := (0xFFFFFFFF, some 3)
     let n := s.node
     (s.node.running = true ∧ n.mgmtPort dp = false)
      ∧ (s.node.running = true ∧ n.eth.arp[ent.val]? = some ae ∧ n.eth.q0 = [] ∧ n.ethLink 0 = true ∧ n.ownMac ≠ 0xFFFFFFFFFFFF)) := by decide +kernel

theorem met_Ethernet_18 :
    (let s : State := st (en [(ETH_CTRL.AGE, 5)] { macs := [(7, 0, 1), (8, 1, 1)] })
     let n := s.node
     s.node.running = true ∧ n.rd ETH_CTRL.AGE ≠ 0) := by decide +kernel

theorem met_Ethernet_20 :
    (let s : State := st (en [(ETH_MDIO.BUSY, 1), (ETH_MDIOPOLL.EN, 1)])
     let n := s.node
     (s.node.running = true ∧ n.on ETH_MDIO.BUSY = true)
      ∧ (s.node.running = true ∧ n.on ETH_MDIOPOLL.EN = true ∧ n.shed = false)) := by decide +kernel

theorem met_Ethernet_22 :
    (let s : State := st (en [] { q1 := [ef none none, ef none none] })
     let p : Fin 2 := 1
     let f : EthFrame := ef none none
     let rest : List EthFrame := [ef none none]
     let w : EthPort := .eth1
     let n := s.node
     let desc := n.rd ETH_RXRING.VALUE + 16 * n.rd ETH_RXCNT.NEXT
     let asks := n.ethQ p = f :: rest
     let sends := (w = .eth0 ∧ p = 0) ∨ (w = .eth1 ∧ p = 1)
     s.node.running = true ∧ sends ∧ asks ∧ f.tin = none ∧ f.desc = none ∧ f.slot = none) := by decide +kernel

theorem met_Ethernet_23 :
    (let s : State := st (en [(ETH_LSB.ARM 7, 1)] { q0 := [ef none (some 7)] })
     let p : Fin 2 := 0
     let f : EthFrame := ef none (some 7)
     let rest : List EthFrame := []
     let w : EthPort := .eth0
     let k : Nat := 7
     let n := s.node
     let desc := n.rd ETH_RXRING.VALUE + 16 * n.rd ETH_RXCNT.NEXT
     let asks := n.ethQ p = f :: rest
     let sends := (w = .eth0 ∧ p = 0) ∨ (w = .eth1 ∧ p = 1)
     s.node.running = true ∧ sends ∧ asks ∧ f.tin = none ∧ f.desc = none ∧ f.slot = some k ∧ k < 8) := by decide +kernel

theorem met_Ethernet_24 :
    (let s : State := st (en [(ETH_TXRING.VALUE, 0x207FFFE0)] { q0 := [ef (some 1) none] })
     let p : Fin 2 := 0
     let f : EthFrame := ef (some 1) none
     let rest : List EthFrame := []
     let w : EthPort := .eth0
     let k : Nat := 1
     let n := s.node
     let desc := n.rd ETH_RXRING.VALUE + 16 * n.rd ETH_RXCNT.NEXT
     let asks := n.ethQ p = f :: rest
     let sends := (w = .eth0 ∧ p = 0) ∨ (w = .eth1 ∧ p = 1)
     s.node.running = true ∧ sends ∧ asks ∧ f.tin = none ∧ f.desc = some k ∧ f.slot = none ∧ ethMem (n.rd ETH_TXRING.VALUE + 16 * k) 16 = true) := by decide +kernel

end MetEthernet

namespace MetAudioPortsFlashAndPins

def qn (l : List (Field × Nat)) (q : QspiState := {}) : Node := { nd (l ++ [(QSPI_STATUS.READY 0, 1), (QSPI_STATUS.READY 1, 1), (PWR_GH.STATE 254, 1), (PWR_GH.CLASS 254, 7)]) with qspi := { q with sizeB := 0x400000, sizeP := 0x400000 } }
def er1 : EraseRun := ⟨0x1000, 1, 254⟩

theorem met_AudioPortsFlashAndPins_0 :
    (let s : State := st (nd [])
     let v : Word := 0xFFFFFF7F
     let p : Fin 4 := 3
     let n := s.node
     let was := n.on (TDM_STATUS.RUN p)
     let starts := was = false ∧ (bit v.toNat 1 = false ∨ bit v.toNat 7 = false)
     s.node.running = true ∧ starts) := by decide +kernel

theorem met_AudioPortsFlashAndPins_2 :
    (let s : State := st (nd [(TDM_STATUS.RUN 3, 1), (TDM_CTRL.MASTER 3, 1)])
     let p : Fin 4 := 3
     let n := s.node
     let was := n.on (TDM_STATUS.RUN p)
     let slave := was = true ∧ n.on (TDM_CTRL.MASTER p) = false
     s.node.running = true ∧ (¬ slave)) := by decide +kernel

theorem met_AudioPortsFlashAndPins_3 :
    (let s : State := st (nd [])
     let v : Word := 0xFFFFFFFF
     let p : Fin 4 := 3
     let n := s.node
     let was := n.on (TDM_STATUS.RUN p)
     let starts := was = false ∧ (bit v.toNat 1 = false ∨ bit v.toNat 7 = false)
     s.node.running = true ∧ was = false ∧ (¬ starts)) := by decide +kernel

theorem met_AudioPortsFlashAndPins_4 :
    (let s : State := st (nd [(TDM_CTRL.MASTER 3, 0), (TDM_STATUS.RUN 3, 1), (TDM_STATUS.LOCK 3, 1)])
     let v : Word := 0xFFFFFFFF
     let p : Fin 4 := 3
     let ppm : Int := -1001
     let c : QCtl := .boot
     let n := s.node
     let was := n.on (TDM_STATUS.RUN p)
     let slave := was = true ∧ n.on (TDM_CTRL.MASTER p) = false
     let q := qNo c
     let gust := v.toNat / 65536 % 256
     let granted := n.gustGranted gust 7 = true
     let len := v.toNat % 2097152
     let d := n.rd (QSPI_COPY1.VALUE q)
     let badLen := len = 0 ∨ 1048576 < len ∨ n.qSize c < d + len
     (s.node.running = true)
      ∧ (s.node.running = true ∧ slave ∧ 1000 < ppm.natAbs)
      ∧ (s.node.running = true ∧ n.qErase c = none ∧ (¬ granted))
      ∧ (s.node.running = true ∧ (n.qErase c = none ∨ n.on (QSPI_STATUS.SUSPENDED q) = true))
      ∧ (s.node.running = true ∧ n.qCopy c = none ∧ badLen)
      ∧ (s.node.running = true ∧ n.qCopy c = none)) := by decide +kernel

theorem met_AudioPortsFlashAndPins_5 :
    (let s : State := st (nd [(TDM_CTRL.MASTER 3, 0), (TDM_STATUS.RUN 3, 1), (TDM_STATUS.LOCKERR 3, 1)])
     let p : Fin 4 := 3
     let ppm : Int := -1000
     let n := s.node
     let was := n.on (TDM_STATUS.RUN p)
     let slave := was = true ∧ n.on (TDM_CTRL.MASTER p) = false
     s.node.running = true ∧ slave ∧ ppm.natAbs ≤ 1000) := by decide +kernel

theorem met_AudioPortsFlashAndPins_8 :
    (let s : State := st (qn [(QSPI_ERASE0.VALUE 0, 0x3FF000)])
     let v : Word := 0x00FE0001
     let c : QCtl := .boot
     let n := s.node
     let q := qNo c
     let units := v.toNat % 65536
     let gust := v.toNat / 65536 % 256
     let first := n.rd (QSPI_ERASE0.VALUE q)
     let granted := n.gustGranted gust 7 = true
     let outside := n.eraseRange c first (4096 * units) = true
     s.node.running = true ∧ n.qErase c = none ∧ granted ∧ (¬ outside)) := by decide +kernel

theorem met_AudioPortsFlashAndPins_9 :
    (let s : State := st (qn [(QSPI_ERASE0.VALUE 0, 0x3FF000)])
     let v : Word := 0x00FE0002
     let c : QCtl := .boot
     let n := s.node
     let q := qNo c
     let units := v.toNat % 65536
     let gust := v.toNat / 65536 % 256
     let first := n.rd (QSPI_ERASE0.VALUE q)
     let granted := n.gustGranted gust 7 = true
     let outside := n.eraseRange c first (4096 * units) = true
     s.node.running = true ∧ n.qErase c = none ∧ granted ∧ outside) := by decide +kernel

theorem met_AudioPortsFlashAndPins_11 :
    (let s : State := st (qn [(QSPI_STATUS.ERASING 1, 1)] { eraseP := some er1 })
     let c : QCtl := .per
     let er : EraseRun := er1
     let n := s.node
     let q := qNo c
     let first := n.rd (QSPI_ERASE0.VALUE q)
     s.node.running = true ∧ n.qErase c = some er ∧ n.on (QSPI_STATUS.SUSPENDED q) = false ∧ (c = .boot ∨ 4096 ≤ er.first)) := by decide +kernel

theorem met_AudioPortsFlashAndPins_12 :
    (let s : State := st (qn [(QSPI_STATUS.ERASING 1, 1), (QSPI_STATUS.SUSPENDED 1, 1)] { eraseP := some er1 })
     let c : QCtl := .per
     let er : EraseRun := er1
     let n := s.node
     s.node.running = true ∧ n.qErase c = some er) := by decide +kernel

theorem met_AudioPortsFlashAndPins_14 :
    (let s : State := st (qn [(QSPI_COPY0.VALUE 0, 0x202FFFFC), (QSPI_COPY1.VALUE 0, 0x3FFFFC)])
     let by_ : Initiator := .host
     let v : Word := 4
     let c : QCtl := .boot
     let n := s.node
     let q := qNo c
     let len := v.toNat % 2097152
     let a := n.rd (QSPI_COPY0.VALUE q)
     let d := n.rd (QSPI_COPY1.VALUE q)
     let badLen := len = 0 ∨ 1048576 < len ∨ n.qSize c < d + len
     let dma := (0x20200000 ≤ a ∧ a + len ≤ 0x20300000) ∨ (0x20380000 ≤ a ∧ a + len ≤ 0x203A0000) ∨ (0x207E0000 ≤ a ∧ a + len ≤ 0x20800000)
     (s.node.running = true ∧ n.qCopy c = none ∧ (¬ badLen) ∧ dma ∧ n.sramMay by_ a len = true)
      ∧ (s.node.running = true ∧ n.qCopy c = none ∧ (¬ badLen) ∧ c = .boot ∧ 0x20000000 ≤ a ∧ a + len ≤ 0x20800000)) := by decide +kernel

theorem met_AudioPortsFlashAndPins_15 :
    (let s : State := st (qn [(QSPI_COPY0.VALUE 0, 0x202FFFFD), (QSPI_COPY1.VALUE 0, 0x3FFFFC)])
     let v : Word := 4
     let c : QCtl := .boot
     let n := s.node
     let q := qNo c
     let len := v.toNat % 2097152
     let a := n.rd (QSPI_COPY0.VALUE q)
     let d := n.rd (QSPI_COPY1.VALUE q)
     let badLen := len = 0 ∨ 1048576 < len ∨ n.qSize c < d + len
     let dma := (0x20200000 ≤ a ∧ a + len ≤ 0x20300000) ∨ (0x20380000 ≤ a ∧ a + len ≤ 0x203A0000) ∨ (0x207E0000 ≤ a ∧ a + len ≤ 0x20800000)
     s.node.running = true ∧ n.qCopy c = none ∧ (¬ badLen) ∧ (¬ dma)) := by decide +kernel

theorem met_AudioPortsFlashAndPins_16 :
    (let s : State := st (qn [(QSPI_COPY0.VALUE 1, 0x207FFFFC), (QSPI_COPY1.VALUE 1, 0x3FFFFC)])
     let c : QCtl := .per
     let n := s.node
     s.node.running = true ∧ n.qCopy c = none ∧ c = .per) := by decide +kernel

theorem met_AudioPortsFlashAndPins_17 :
    (let s : State := st { qn [] { copyB := some ⟨false, 0x202FFFFC, 0x3FFFFC, 4⟩ } with qboot := [(0x3FFFFC, 1), (0x3FFFFF, 0)] }
     let c : QCtl := .boot
     let cp : CopyRun := ⟨false, 0x202FFFFC, 0x3FFFFC, 4⟩
     let n := s.node
     (s.node.running = true ∧ n.qCopy c = some cp)
      ∧ (s.node.running = true ∧ n.qCopy c = some cp ∧ cp.program = false)) := by decide +kernel

theorem met_AudioPortsFlashAndPins_18 :
    (let s : State := st { qn [] { copyB := some ⟨true, 0x202FFFFC, 0x3FFFFC, 4⟩ } with qboot := [(0x3FFFFC, 0x0F)], mem := [(0x202FFFFC, 0xF5), (0x202FFFFF, 0xFF)] }
     let c : QCtl := .boot
     let cp : CopyRun := ⟨true, 0x202FFFFC, 0x3FFFFC, 4⟩
     let n := s.node
     s.node.running = true ∧ n.qCopy c = some cp ∧ cp.program = true ∧ n.uce = []) := by decide +kernel

theorem met_AudioPortsFlashAndPins_21 :
    (let s : State := st { nd [(GPIO_PIN.FALL 31, 1), (GPIO_PIN.MODE 30, 2), (GPIO_PIN.OWNER 30, 7), (GPIO_IN.IN, 0x80000000)] with gpio := { out := 0x40000000, level := 0x80000000 } }
     let v : Word := 0x40000000
     let e : Fin 8 := 7
     let n := s.node
     s.node.running = true ∧ v &&& ~~~(n.pinsOf e) = 0) := by decide +kernel

end MetAudioPortsFlashAndPins

namespace MetRecorder

def ev (l : List (Field × Nat)) (e : EvrState := {}) (m : Tab Byte := []) : Node := { nd (l ++ [(EVR_FLUSH.VALUE, 254), (QSPI_STATUS.READY 1, 1)]) with evr := e, mem := m, qspi := { sizeP := 0x400000 } }
def gg : List (Field × Nat) := [(PWR_GH.STATE 254, 1), (PWR_GH.CLASS 254, 4)]
def rcd (seq orig uid : Nat) : List Byte := let b := leBytes 2 48 ++ [1, 0] ++ leBytes 8 seq ++ leBytes 8 orig ++ leBytes 8 uid ++ List.replicate 12 5; b ++ leBytes 4 (crc32 b) ++ leBytes 4 0x45565252
def cln (resp : List Byte) : Node := { ev ([(EVR_STATUS.STATE, 2), (EVR_CLRRESP_LO.VALUE, le resp 0 4), (EVR_CLRRESP_HI.VALUE, le resp 4 4)]) { challenge := some (77, 0) } with otp := [(18, some 2)] }
def goodResp : List Byte := (cln []).clearResponse 77

theorem met_Recorder_0 :
    (let s : State := st (nd [])
     let n := s.node
     let total := n.areaSlots
     s.node.running = true ∧ n.evr.started = false ∧ total = 0 ∧ n.rolling = 0) := by decide +kernel

theorem met_Recorder_1 :
    (let s : State := st (ev [(EVR_STATUS.STATE, 0), (EVR_AREAM.VALUE, 9)] { started := true })
     let n := s.node
     s.node.running = true ∧ n.evr.started = true) := by decide +kernel

theorem met_Recorder_3 :
    (let s : State := st (ev (gg ++ [(EVR_STATUS.STATE, 2)]) { unflushed := [⟨1, 48, false⟩] })
     let v : Word := 0x4007FFFC
     let x : List Byte := []
     let n := s.node
     let st := n.rd EVR_STATUS.STATE
     let total := n.areaSlots
     let k := n.rd EVR_AREA.VALUE
     let blank := n.hdrNewest = none ∧ n.clearEntries = [] ∧ k + 256 ≤ total ∧ ∀ q, q ∈ n.slotSeqs (upTo k) → k < q.2
     let clears := st = 2 ∨ st = 3
     let wrong := n.evr.challenge.all (fun x => decide (x.2 + 60000000000 < n.now) || !bit (n.otpWord 18) 1
      || n.clearResponse x.1 ≠ leBytes 4 (n.rd EVR_CLRRESP_LO.VALUE) ++ leBytes 4 (n.rd EVR_CLRRESP_HI.VALUE)) = true
     let open_ := n.on EVR_CTRL.COLLECT = true ∧ st ≠ 0
     let badAddr := v.toNat < 0x40000000 ∨ 0x4007FFFF < v.toNat ∨ v.toNat % 4 ≠ 0 ∨ v.toNat = 0x4000701C ∨ v.toNat = 0x4000702C
     (s.node.running = true ∧ n.flushGust = true ∧ st = 2 ∧ n.evr.unflushed ≠ [])
      ∧ (s.node.running = true ∧ (n.evr.flush = none ∨ n.evr.flush = some .powerFail))
      ∧ (s.node.running = true ∧ blank ∧ total < 4294967296)
      ∧ (s.node.running = true)
      ∧ (s.node.running = true ∧ n.rd EVR_RDCMD.RESULT ≠ 1)
      ∧ (s.node.running = true ∧ n.evr.lockedUntil ≤ n.now)
      ∧ (s.node.running = true ∧ clears ∧ n.evr.logCount < 64 ∧ wrong)
      ∧ (s.node.running = true ∧ (¬ open_))
      ∧ (s.node.running = true ∧ (¬ badAddr))) := by decide +kernel

theorem met_Recorder_4 :
    (let s : State := st (ev (gg ++ [(EVR_STATUS.STATE, 3), (EVR_CTRL.EN, 1), (EVR_AREAM.VALUE, 9)]) { unflushed := [⟨2, 48, false⟩], flush := some .command, frozen := 2 } (cells (stageAddr 2) (rcd 2 1 5)))
     let v : Word := 0x40080000
     let r : StagedRec := ⟨2, 48, false⟩
     let n := s.node
     let st := n.rd EVR_STATUS.STATE
     let seq := n.rd64 EVR_RDSEQ_LO.VALUE EVR_RDSEQ_HI.VALUE
     let badAddr := v.toNat < 0x40000000 ∨ 0x4007FFFF < v.toNat ∨ v.toNat % 4 ≠ 0 ∨ v.toNat = 0x4000701C ∨ v.toNat = 0x4000702C
     (s.node.running = true ∧ (n.flushGust = false ∨ st ≠ 2 ∨ n.evr.unflushed = []))
      ∧ (s.node.running = true ∧ n.evr.flush = some .command ∧ n.evr.waiting = [] ∧ n.evr.unflushed = [r] ∧ n.uceIn (stageAddr r.seq) r.len = false ∧ 1 ≤ r.seq ∧ r.seq ≤ n.evr.frozen ∧ n.evr.collector.length ≤ 128)
      ∧ (s.node.running = true ∧ badAddr)) := by decide +kernel

theorem met_Recorder_5 :
    (let s : State := st (ev [(EVR_STATUS.STATE, 1), (EVR_CTRL.EN, 1), (EVR_AREA.VALUE, 2)])
     let n := s.node
     let st := n.rd EVR_STATUS.STATE
     let clears := st = 2 ∨ st = 3
     s.node.running = true ∧ (¬ clears)) := by decide +kernel

theorem met_Recorder_6 :
    (let s : State := st (ev [(EVR_STATUS.STATE, 1), (EVR_AREA.VALUE, 0xFFFFF)])
     let n := s.node
     let total := n.areaSlots
     let k := n.rd EVR_AREA.VALUE
     let blank := n.hdrNewest = none ∧ n.clearEntries = [] ∧ k + 256 ≤ total ∧ ∀ q, q ∈ n.slotSeqs (upTo k) → k < q.2
     s.node.running = true ∧ (¬ blank)) := by decide +kernel

theorem met_Recorder_7 :
    (let s : State := st (ev [(EVR_RDCMD.RESULT, 1), (EVR_RDSEQ_LO.VALUE, 5)] {} (cells (stageAddr 5) (rcd 5 1 5)))
     let x : List Byte := rcd 5 1 5
     let n := s.node
     let seq := n.rd64 EVR_RDSEQ_LO.VALUE EVR_RDSEQ_HI.VALUE
     s.node.running = true ∧ n.rd EVR_RDCMD.RESULT = 1 ∧ n.findRecord seq = some x) := by decide +kernel

theorem met_Recorder_8 :
    (let s : State := st (ev [(EVR_RDCMD.RESULT, 1), (EVR_RDSEQ_LO.VALUE, 6)] {} (cells (stageAddr 5) (rcd 5 1 5)))
     let n := s.node
     let seq := n.rd64 EVR_RDSEQ_LO.VALUE EVR_RDSEQ_HI.VALUE
     s.node.running = true ∧ n.rd EVR_RDCMD.RESULT = 1 ∧ n.findRecord seq = none) := by decide +kernel

theorem met_Recorder_9 :
    (let s : State := st { ev [(EVR_TSEL.TRIGGER, 63), (EVR_SSEL.ENTRY, 31)] { lockedUntil := 10 } with time := { now := 9 } }
     let n := s.node
     s.node.running = true ∧ n.now < n.evr.lockedUntil) := by decide +kernel

theorem met_Recorder_11 :
    (let s : State := st (ev [(EVR_STATUS.STATE, 3)] { logCount := 64 })
     let n := s.node
     let st := n.rd EVR_STATUS.STATE
     let clears := st = 2 ∨ st = 3
     s.node.running = true ∧ clears ∧ 64 ≤ n.evr.logCount) := by decide +kernel

theorem met_Recorder_12 :
    (let s : State := st (cln goodResp)
     let c : Nat := 77
     let t : Nat := 0
     let n := s.node
     let st := n.rd EVR_STATUS.STATE
     let clears := st = 2 ∨ st = 3
     let right := n.evr.challenge = some (c, t) ∧ n.now ≤ t + 60000000000 ∧ bit (n.otpWord 18) 1 = true
      ∧ n.clearResponse c = leBytes 4 (n.rd EVR_CLRRESP_LO.VALUE) ++ leBytes 4 (n.rd EVR_CLRRESP_HI.VALUE)
     s.node.running = true ∧ clears ∧ n.evr.logCount < 64 ∧ right) := by decide +kernel

theorem met_Recorder_14 :
    (let s : State := st (ev [(EVR_CTRL.COLLECT, 1), (EVR_STATUS.STATE, 2), (EVR_COLADDR.VALUE, 0x202FFFD1)])
     let n := s.node
     let st := n.rd EVR_STATUS.STATE
     let a := n.rd EVR_COLADDR.VALUE
     let b := n.memBytes a (n.memLe a 2)
     let open_ := n.on EVR_CTRL.COLLECT = true ∧ st ≠ 0
     let inside := colAddrOk a (max 48 (min 384 b.length)) = true
     s.node.running = true ∧ open_ ∧ (¬ inside)) := by decide +kernel

theorem met_Recorder_15 :
    (let s : State := st (ev [(EVR_CTRL.COLLECT, 1), (EVR_STATUS.STATE, 2), (EVR_COLADDR.VALUE, 0x202FFFD0)])
     let n := s.node
     let st := n.rd EVR_STATUS.STATE
     let a := n.rd EVR_COLADDR.VALUE
     let b := n.memBytes a (n.memLe a 2)
     let open_ := n.on EVR_CTRL.COLLECT = true ∧ st ≠ 0
     let inside := colAddrOk a (max 48 (min 384 b.length)) = true
     let valid := n.uceIn a b.length = false ∧ recValid b = true
     s.node.running = true ∧ open_ ∧ inside ∧ (¬ valid)) := by decide +kernel

theorem met_Recorder_16 :
    (let s : State := st (ev [(EVR_CTRL.COLLECT, 1), (EVR_STATUS.STATE, 2), (EVR_COLADDR.VALUE, 0x202FFFD0)] { collector := [(5, 7)] } (cells 0x202FFFD0 (rcd 1 7 5)))
     let n := s.node
     let st := n.rd EVR_STATUS.STATE
     let a := n.rd EVR_COLADDR.VALUE
     let b := n.memBytes a (n.memLe a 2)
     let open_ := n.on EVR_CTRL.COLLECT = true ∧ st ≠ 0
     let inside := colAddrOk a (max 48 (min 384 b.length)) = true
     let valid := n.uceIn a b.length = false ∧ recValid b = true
     let old := ((n.evr.collector.find? (fun p => p.1 = le b 20 8)).map (fun p => decide (le b 12 8 ≤ p.2))).getD false
     s.node.running = true ∧ open_ ∧ inside ∧ valid ∧ old = true) := by decide +kernel

theorem met_Recorder_17 :
    (let s : State := st (ev [(EVR_CTRL.COLLECT, 1), (EVR_STATUS.STATE, 2), (EVR_COLADDR.VALUE, 0x202FFFD0)] { collector := [(6, 9), (5, 6)] } (cells 0x202FFFD0 (rcd 1 7 5)))
     let n := s.node
     let st := n.rd EVR_STATUS.STATE
     let a := n.rd EVR_COLADDR.VALUE
     let b := n.memBytes a (n.memLe a 2)
     let open_ := n.on EVR_CTRL.COLLECT = true ∧ st ≠ 0
     let inside := colAddrOk a (max 48 (min 384 b.length)) = true
     let valid := n.uceIn a b.length = false ∧ recValid b = true
     let old := ((n.evr.collector.find? (fun p => p.1 = le b 20 8)).map (fun p => decide (le b 12 8 ≤ p.2))).getD false
     let room := (stagedBytes n.evr.unflushed + b.length ≤ 65536 ∧ n.evr.unflushed.length < 1024) ∨ n.flushGust = true
     s.node.running = true ∧ open_ ∧ inside ∧ valid ∧ old = false ∧ n.evr.held = false ∧ st ≠ 4 ∧ room) := by decide +kernel

end MetRecorder

end Sys2Proof.Tests
end

section
/-! PROOFS. The register space and the transactions of the host port (00_scope.md R9; 16_local_interfaces.md R596 to R599; 20_register_map.md
R675, R684, R686): bytes and numbers, what recording adds to the node's outputs, bus writes, and the host port's checks and answers. -/

namespace Sys2Proof.Machine

/-! ### Bytes and numbers -/

@[simp] theorem leBytes_length (k v : Nat) : (leBytes k v).length = k := by
  induction k generalizing v with
  | zero => rfl
  | succ k ih => simp [leBytes, ih]

/-- The bytes of a number spell its low part. -/
theorem ofLe_leBytes (k v : Nat) : ofLe (leBytes k v) = v % 256 ^ k := by
  induction k generalizing v with
  | zero => simp [leBytes, ofLe, Nat.mod_one]
  | succ k ih =>
    rw [leBytes, ofLe, ih, BitVec.toNat_ofNat, pow_succ' 256 k, Nat.mod_mul]

theorem ofBe_append_singleton (bs : List Byte) (b : Byte) : ofBe (bs ++ [b]) = 256 * ofBe bs + b.toNat := by simp [ofBe]

theorem ofBe_lt (bs : List Byte) : ofBe bs < 256 ^ bs.length := by
  induction bs using List.reverseRecOn with
  | nil => simp [ofBe]
  | append_singleton bs b ih =>
    have hb : b.toNat < 256 := b.isLt
    rw [ofBe_append_singleton, List.length_append, List.length_singleton, pow_succ]
    omega

theorem be_lt (bs : List Byte) (o len : Nat) : be bs o len < 256 ^ len :=
  (ofBe_lt _).trans_le (Nat.pow_le_pow_right (by decide) (by simp [slice]))

/-- A number written to the SRAM reads back as its low part. -/
theorem Node.memLe_of_memByte (m : Node) (a k v : Nat) (h : ∀ i (hi : i < (leBytes k v).length), m.memByte (a + i) = (leBytes k v)[i]) :
    m.memLe a k = v % 256 ^ k := by
  have hb : m.memBytes a k = leBytes k v :=
    List.ext_getElem (by simp [Node.memBytes, upTo]) (fun i _ hi => by simpa [Node.memBytes, upTo] using h i hi)
  rw [Node.memLe, hb, ofLe_leBytes]

/-! ### What the node puts out stays put out -/

/-- `m` has put out what `n` has, and perhaps more. -/
def OutGrows (n m : Node) : Prop := n.out <+: m.out

namespace OutGrows

variable {n m k : Node}

theorem refl (n : Node) : OutGrows n n := List.prefix_rfl

theorem trans (h : OutGrows n m) (g : OutGrows m k) : OutGrows n k := List.IsPrefix.trans h g

theorem of_eq (h : m.out = n.out) : OutGrows n m := by rw [OutGrows, h]

theorem emit (n : Node) (p : Port) (bs : List Byte) : OutGrows n (n.emit p bs) := List.prefix_append _ _

theorem count (n : Node) (f : Field) : OutGrows n (n.count f) := of_eq rfl

theorem evrOnly (n : Node) (e : EvrState) : OutGrows n { n with evr := e } := of_eq rfl

theorem cond {c : Prop} [Decidable c] {a b : Node} (ha : OutGrows n a) (hb : OutGrows n b) : OutGrows n (if c then a else b) := by
  split <;> assumption

theorem foldl {β : Type} (f : Node → β → Node) (h : ∀ n x, OutGrows n (f n x)) (l : List β) (n : Node) : OutGrows n (l.foldl f n) := by
  induction l generalizing n with
  | nil => exact refl n
  | cons x l ih => exact (h n x).trans (ih _)

theorem linkPump (k : Nat) (n : Node) : OutGrows n (Node.linkPump k n) := by
  induction k generalizing n with
  | zero => exact refl n
  | succ k ih =>
    unfold Node.linkPump
    split
    · exact refl n
    · exact cond (refl n) ((emit (n.updPair _) _ _).trans (ih _))

theorem linkSend (n : Node) (prio type : Nat) (bs : List Byte) : OutGrows n (n.linkSend prio type bs) := linkPump _ (n.updPair _)

theorem jrnlFrames (k : Nat) (n : Node) (off : Nat) (bs : List Byte) : OutGrows n (Node.jrnlFrames k n off bs) := by
  induction k generalizing n off bs with
  | zero => exact refl n
  | succ k ih =>
    unfold Node.jrnlFrames
    exact cond (refl n) ((linkSend n _ _ _).trans (ih _ _ _))

theorem jchange (n : Node) (p : JPiece) (len : Nat) : OutGrows n (n.jchange p len) := by
  have h : OutGrows n ((n.pieceBytes p).foldl (fun (n : Node) (b : Nat × List Byte) =>
      let n := n.memPut (jrnlBase + b.1) b.2
      if n.mirroring then Node.jrnlFrames 5 n b.1 b.2 else n) n) := by
    refine foldl _ (fun n x => ?_) _ _
    exact (of_eq (m := n.memPut _ _) rfl).trans (cond (jrnlFrames 5 _ _ _) (refl _))
  unfold Node.jchange
  exact h.trans (cond (refl _) (of_eq rfl))

theorem storeAlloc (n : Node) (k : Nat) (r : Nat × Node) (h : n.storeAlloc k = some r) : OutGrows n r.2 := by
  obtain ⟨b, -, rfl⟩ := Option.map_eq_some_iff.mp h
  exact of_eq rfl

theorem submitRecord (n : Node) (seq len : Nat) : OutGrows n (n.submitRecord seq len) := by
  unfold Node.submitRecord
  split
  · rename_i b m h
    refine (storeAlloc n _ _ h).trans (trans ?_ (jchange _ _ _))
    exact of_eq rfl
  · exact refl n

theorem startFlush (n : Node) (c : FlushCause) : OutGrows n (n.startFlush c) := by
  unfold Node.startFlush
  exact cond (of_eq rfl) (refl n)

/-- What `raise` is asked to keep, for the operations that take it as an argument. -/
def Good (raise : Node → Field → Node) : Prop := ∀ n f, OutGrows n (raise n f)

variable {raise : Node → Field → Node}

theorem stageRecord (hr : Good raise) (n : Node) (w : WaitRec) (x : Bool) : OutGrows n (n.stageRecord raise w x) := by
  unfold Node.stageRecord
  refine trans ?_ (cond (startFlush _ _) (refl _))
  refine trans ?_ (cond (startFlush _ _) (refl _))
  refine trans ?_ (cond (hr _ _) (refl _))
  refine trans ?_ (cond (submitRecord _ _ _) (refl _))
  refine trans ?_ (cond (count _ _) (refl _))
  refine of_eq ?_
  simp only [Node.count_out, Node.wr_out, Node.wr64_out, Node.memPut_out]

theorem commitLoss (hr : Good raise) (n : Node) : OutGrows n (n.commitLoss raise) := by
  unfold Node.commitLoss
  exact cond (refl n) (((evrOnly n _).trans (stageRecord hr _ _ _)).trans (hr _ _))

theorem commitWith (hr : Good raise) (n : Node) (w : WaitRec) (x : Bool) : OutGrows n (n.commitWith raise w x) := by
  unfold Node.commitWith
  have hc : OutGrows n ((n.commitLoss raise).stageRecord raise w x) := (commitLoss hr n).trans (stageRecord hr _ _ _)
  exact cond (refl n) (cond ((count n _).trans (evrOnly _ _)) (cond hc (cond (evrOnly n _) ((count n _).trans (evrOnly _ _)))))

theorem fireWith (hr : Good raise) (v : Nat) (n : Node) (t : Nat) : OutGrows n (n.fireWith raise v t) := by
  unfold Node.fireWith
  exact cond (refl n) (cond ((count n _).trans (evrOnly _ _)) (cond (count n _) ((evrOnly n _).trans (commitWith hr _ _ _))))

theorem raiseN (k : Nat) : Good (Node.raiseN k) := by
  induction k with
  | zero => exact fun n f => of_eq rfl
  | succ k ih =>
    intro n f
    unfold Node.raiseN
    exact (of_eq (m := n.wrB f true) rfl).trans (cond (foldl _ (fireWith ih 0) _ _) (refl _))

end OutGrows

/-- Raising an event takes no emission back. -/
theorem Node.raise_outGrows (n : Node) (f : Field) : OutGrows n (n.raise f) := OutGrows.raiseN 3 n f

/-! ### The node that runs -/

/-- Whether the node runs depends on the boot's state alone. -/
theorem Node.running_congr {n m : Node} (h : m.boot = n.boot) : m.running = n.running := by rw [Node.running, h, Node.running]

/-- A bus error sets SYS_EVT.BUSERR; beside it, only what recording changes differs. -/
theorem Node.busError_recorded (n : Node) (by_ : Initiator) : Recorded (n.raise SYS_EVT.BUSERR) (n.busError by_) := by
  cases by_ with
  | eng _ => exact Node.sysFault_recorded _ _
  | host => exact Node.sysFault_recorded _ _
  | agent => exact Recorded.refl _
  | jtag => exact Recorded.refl _
  | unit => exact Recorded.refl _

theorem Node.busError_on (n : Node) (by_ : Initiator) : (n.busError by_).on SYS_EVT.BUSERR = true := by
  rw [(n.busError_recorded by_).on _ (by decide), n.on_raise_same _ (by decide) rfl (by decide)]

theorem Node.busError_rd_ne (n : Node) (by_ : Initiator) (f : Field) (hf : recReg f.addr = false) (hd : SYS_EVT.BUSERR.apart f = true) :
    (n.busError by_).rd f = n.rd f := by
  rw [(n.busError_recorded by_).rd f hf, n.rd_raise _ f (by decide) hf hd]

@[simp] theorem Node.busError_boot (n : Node) (by_ : Initiator) : (n.busError by_).boot = n.boot := by
  rw [(n.busError_recorded by_).boot, Node.raise_boot]

/-! ### Bus writes -/

/-- A write to an unassigned offset is counted and raises an event (R675). -/
theorem Node.busWrite_unassigned (n : Node) (by_ : Initiator) {a : Nat} (v : Word) (h : specOf a = none) :
    n.busWrite by_ a v = n.unassigned := by rw [Node.busWrite, h]

/-- A bus write leaves a register as `regWrite` does, where the mirror of the write does not keep the register for itself. -/
theorem Node.busWrite_reg (n : Node) (by_ : Initiator) {a : Nat} (v : Word) (h : (specOf a).isSome = true) (x : Nat)
    (hx : (mirroredAddr a && recReg x) = false) : (n.busWrite by_ a v).reg x = (n.regWrite by_ a v).reg x := by
  obtain ⟨d, hd⟩ := Option.isSome_iff_exists.mp h
  rw [Node.busWrite, hd]
  dsimp only
  split
  · rename_i hm
    have hr : recReg x = false := by
      simp only [Node.mirrors, Bool.and_eq_true] at hm
      simpa [hm.1.1] using hx
    exact (n.mirrored_recorded by_ a _ _).reg x hr
  · rfl

/-- A word write inside a block is a bus write. -/
theorem Node.portWrite_inBlock (n : Node) (by_ : Initiator) {a : Nat} (v : Word) (hr : isReg a = true) (hb : inBlock a = true)
    (ha : a % 4 = 0) : n.portWrite by_ a v = n.busWrite by_ a v := by simp [Node.portWrite, hr, hb, ha]

theorem Node.portWrite_outside (n : Node) (by_ : Initiator) {a : Nat} (v : Word) (h : isReg a = false ∨ inBlock a = false ∨ a % 4 ≠ 0) :
    n.portWrite by_ a v = n.busError by_ := by
  rw [Node.portWrite, if_pos]
  rcases h with h | h | h <;> simp [h]

/-! ### Window registers -/

/-- Which windows an address lies in is the same in every node: only the entries that their selects name differ. -/
theorem Node.windows_instOf (n m : Node) (a : Nat) : n.windows.map (·.instOf a) = m.windows.map (·.instOf a) := rfl

/-- A register outside every window is its own home. -/
theorem Node.home_of_unwindowed (n : Node) (a : Nat) (h : ∀ i ∈ State.reset.node.windows.map (·.instOf a), i = none) : n.home a = a := by
  have hn : n.windows.find? (fun w => (w.instOf a).isSome) = none := by
    simp only [Node.windows_instOf _ n, List.forall_mem_map] at h
    simpa using h
  rw [Node.home, hn]

/-! ### Event words (R684, R685) -/

theorem eventWords_home (n : Node) {a : Nat} (ha : a ∈ eventWords) : n.home a = a := by
  have h : ∀ a ∈ eventWords, ∀ i ∈ State.reset.node.windows.map (·.instOf a), i = none := by decide +kernel
  exact n.home_of_unwindowed a (h a ha)

/-- An event word is an aligned register of a block, no CNT_CLR register, has RW and W1C bits alone, and is not both mirrored and the
recorder's own. -/
theorem eventWords_spec {a : Nat} (ha : a ∈ eventWords) : isReg a = true ∧ inBlock a = true ∧ a % 4 = 0 ∧ clearOf a = none
    ∧ (mirroredAddr a && recReg a) = false ∧ (specOf a).all (fun d => d.rwl = 0 && d.w1s = 0) = true := by
  revert a
  decide +kernel

/-- No unit gives a write to an event word a meaning of its own. -/
theorem Node.write_eventWord_none (n : Node) (by_ : Initiator) (v : Word) {a : Nat} (ha : a ∈ eventWords) :
    n.writeTrain a v = none ∧ n.writeMsg a v = none ∧ n.writeAud a v = none ∧ n.writeEng by_ a v = none ∧ n.writePower a v = none
      ∧ n.writeLocal by_ a v = none ∧ n.writeSys by_ a v = none := by
  unfold eventWords at ha
  fin_cases ha <;> exact ⟨rfl, rfl, rfl, rfl, rfl, rfl, rfl⟩

/-- A write to an event word acts under the access codes alone. -/
theorem Node.regWrite_eventWord (n : Node) (by_ : Initiator) (v : Word) {a : Nat} (ha : a ∈ eventWords) :
    n.regWrite by_ a v = n.regPlain a v := by
  obtain ⟨-, -, -, hc, -, -⟩ := eventWords_spec ha
  obtain ⟨h1, h2, h3, h4, h5, h6, h7⟩ := n.write_eventWord_none by_ v ha
  simp [Node.regWrite, hc, h1, h2, h3, h4, h5, h6, h7]

/-- RW bits of a register without RWL and W1S bits take the value, and 1s clear its W1C bits (R9). -/
theorem RegSpec.after_rw_w1c (d : RegSpec) (inaug : Bool) (old v : Word) (hl : d.rwl = 0) (hs : d.w1s = 0) :
    d.after inaug old v
      = ((old &&& ~~~ BitVec.ofNat 32 d.rw) ||| (v &&& BitVec.ofNat 32 d.rw)) &&& ~~~ (v &&& BitVec.ofNat 32 d.w1c) := by
  simp [RegSpec.after, hl, hs]

theorem Node.regPlain_reg_home (n : Node) {a : Nat} {d : RegSpec} (v : Word) (hd : specOf a = some d) :
    (n.regPlain a v).reg (n.home a) = d.after (n.on INA_STATUS.INAUG) (n.reg (n.home a)) v := by
  rw [Node.regPlain, hd]
  exact n.setReg_reg_same _ _

theorem does_registerWrite {s : State} {by_ : Initiator} {a : Nat} {v : Word} {P : Node → Prop} (hr : s.node.running = true)
    (hp : P (s.node.portWrite by_ a v)) : Does (.registerWrite by_ a v) s P :=
  does_onNode (f := fun n => n.portWrite by_ a v) hr rfl hp

theorem registerWrite_eventWord {s : State} {by_ : Initiator} {a : Nat} {v : Word} {d : RegSpec} (hr : s.node.running = true)
    (ha : a ∈ eventWords) (hd : specOf a = some d) : Does (.registerWrite by_ a v) s (fun m => m.reg a
      = ((s.node.reg a &&& ~~~ BitVec.ofNat 32 d.rw) ||| (v &&& BitVec.ofNat 32 d.rw)) &&& ~~~ (v &&& BitVec.ofNat 32 d.w1c)) := by
  obtain ⟨hreg, hblock, h4, -, hrec, hall⟩ := eventWords_spec ha
  simp only [hd, Option.all_some, Bool.and_eq_true, decide_eq_true_eq] at hall
  have hhome := eventWords_home s.node ha
  have hw := s.node.regPlain_reg_home v hd
  rw [hhome, d.after_rw_w1c _ _ _ hall.1 hall.2] at hw
  refine does_registerWrite hr ?_
  rw [Node.portWrite_inBlock _ _ _ hreg hblock h4, Node.busWrite_reg _ _ _ (by simp [hd]) a hrec, Node.regWrite_eventWord _ _ _ ha, hw]

theorem Node.unassigned_counts (n : Node) : Counted SYS_CNT_UNASSIGN.VALUE n n.unassigned := by
  rw [Counted, Node.unassigned, Node.rd_raise _ _ _ (by decide) (by decide) (by decide), n.rd_count_same _ (by decide)]

theorem Node.unassigned_on (n : Node) : n.unassigned.on SYS_EVT.UNASSIGN = true :=
  Node.on_raise_same _ _ (by decide) rfl (by decide)

theorem registerWrite_unassigned {s : State} {by_ : Initiator} {a : Nat} {v : Word} (hr : s.node.running = true) (hreg : isReg a = true)
    (hblock : inBlock a = true) (h4 : a % 4 = 0) (hd : specOf a = none) : Does (.registerWrite by_ a v) s (fun m =>
      Counted SYS_CNT_UNASSIGN.VALUE s.node m ∧ m.on SYS_EVT.UNASSIGN = true) := by
  refine does_registerWrite hr ?_
  rw [Node.portWrite_inBlock _ _ _ hreg hblock h4, Node.busWrite_unassigned _ _ _ hd]
  exact ⟨Node.unassigned_counts _, Node.unassigned_on _⟩

theorem registerWrite_outside {s : State} {by_ : Initiator} {a : Nat} {v : Word} (hr : s.node.running = true)
    (h : isReg a = false ∨ inBlock a = false ∨ a % 4 ≠ 0) : Does (.registerWrite by_ a v) s (fun m => m.on SYS_EVT.BUSERR = true) := by
  refine does_registerWrite hr ?_
  rw [Node.portWrite_outside _ _ _ h]
  exact Node.busError_on _ _

/-! ### Counter clears (R686 and the other counter tables) -/

/-- The address of unit `i`'s CNT_CLR register. -/
def ClearRow.clr (r : ClearRow) (i : Nat) : Nat := r.addr + r.instStride * i

/-- The address of unit `i`'s counter `k`. -/
def ClearRow.ctr (r : ClearRow) (i k : Nat) : Nat := r.first + r.instStride * i + 4 * k

/-- Each CNT_CLR register is a register, names its own row, and its counters are not the mirror's where it is mirrored. -/
theorem clearRows_spec {r : ClearRow} (hr : r ∈ clearRows) {i : Nat} (hi : i < r.insts) : (specOf (r.clr i)).isSome = true
    ∧ clearOf (r.clr i) = some r ∧ ∀ k, k < r.count → (mirroredAddr (r.clr i) && recReg (r.ctr i k)) = false := by
  revert r i
  decide +kernel

/-- Words `a`, `a + 4`, ... of which `p` names some are set to 0. -/
theorem Node.reg_foldl_clear (p : Nat → Bool) (a : Nat) (l : List Nat) (n : Node) (k : Nat) :
    (l.foldl (fun (n : Node) (i : Nat) => if p i then n.setReg (a + 4 * i) 0 else n) n).reg (a + 4 * k)
      = if k ∈ l ∧ p k = true then 0 else n.reg (a + 4 * k) := by
  induction l generalizing n with
  | nil => simp
  | cons i l ih =>
    rw [List.foldl_cons, ih]
    by_cases hki : k = i
    · subst hki
      cases hp : p k <;> simp
    · have hne : a + 4 * k ≠ a + 4 * i := by omega
      cases hp : p i <;> simp [hki, Node.setReg_reg_ne _ _ _ _ hne]

theorem Node.clearCounters_reg (n : Node) (r : ClearRow) (i : Nat) (v : Word) {k : Nat} (hk : k < r.count) :
    (n.clearCounters r (r.clr i) v).reg (r.ctr i k) = if bit v.toNat k then 0 else n.reg (r.ctr i k) := by
  have hfirst : r.first + (r.clr i - r.addr) = r.first + r.instStride * i := by rw [ClearRow.clr, Nat.add_sub_cancel_left]
  rw [Node.clearCounters, hfirst]
  exact (Node.reg_foldl_clear (bit v.toNat) _ _ n k).trans (by simp [upTo, hk, ClearRow.ctr])

theorem counterClear_counters {s : State} {by_ : Initiator} {v : Word} (hr : s.node.running = true) {r : ClearRow} (hm : r ∈ clearRows)
    {i : Nat} (hi : i < r.insts) : Does (.counterClear by_ (r.clr i) v) s (fun m =>
      ∀ k, k < r.count → m.reg (r.ctr i k) = if bit v.toNat k then 0 else s.node.reg (r.ctr i k)) := by
  obtain ⟨hspec, hclear, hrec⟩ := clearRows_spec hm hi
  refine does_onNode (f := fun n => if (clearOf (r.clr i)).isSome then n.busWrite by_ (r.clr i) v else n) hr rfl (fun k hk => ?_)
  rw [hclear, Option.isSome_some, if_pos rfl, Node.busWrite_reg _ _ _ hspec _ (hrec k hk), Node.regWrite, hclear]
  exact Node.clearCounters_reg _ _ _ _ hk

/-- A command that changes nothing answers the node as it is. -/
theorem answers_same {c : Instr} {s : State} {f : Node → Node} (hr : s.node.running = true) (hc : exec c s = s.onNode f)
    (hf : f s.node = s.node) : Answers c s s.node := by
  rw [Answers, hc, State.onNode, State.always, Node.live, if_pos hr, hf]

theorem counterClear_other {s : State} {by_ : Initiator} {a : Nat} {v : Word} (hr : s.node.running = true) (h : clearOf a = none) :
    Answers (.counterClear by_ a v) s s.node :=
  answers_same (f := fun n => if (clearOf a).isSome then n.busWrite by_ a v else n) hr rfl (by simp [h])

/-! ### SRAM writes of the host port -/

/-- Whatever an initiator may write lies in the SRAM. -/
theorem Node.sramMay_lt (n : Node) (by_ : Initiator) (a len : Nat) (h : n.sramMay by_ a len = true) : a + len ≤ 0x20800000 := by
  have hbank : n.otherBank ≤ 0x20100000 := by unfold Node.otherBank; omega
  by_contra hlt
  have hout : ∀ lo hi, hi ≤ 0x20800000 → (decide (lo ≤ a) && decide (a + len ≤ hi)) = false := by
    intro lo hi hhi
    rw [decide_eq_false (show ¬ a + len ≤ hi by omega), Bool.and_false]
  simp (disch := omega) [Node.sramMay, hout, -Bool.and_eq_true, -Bool.decide_and] at h

theorem isReg_of_lt {a : Nat} (h : a < 0x40000000) : isReg a = false := by
  simp only [isReg, Bool.and_eq_false_iff, decide_eq_false_iff_not]
  omega

/-- Without uncorrectable words a bus write to the SRAM puts its bytes. -/
theorem Node.busPut_of_no_uce (n : Node) (a : Nat) (bs : List Byte) (h : n.uce = []) : n.busPut a bs = n.memPut a bs := by
  have hu : n.uceIn a bs.length = false := by simp [Node.uceIn, h]
  simp [Node.busPut, hu]

/-- What a word write to an SRAM without uncorrectable words leaves: the bytes put, and perhaps PEX back in IDLE (R400). -/
theorem Node.sramWrite_of_no_uce (n : Node) (a : Nat) (bs : List Byte) (h : n.uce = []) : let m := n.sramWrite a bs
    (∀ x, m.memByte x = (n.memPut a bs).memByte x) ∧ m.out = n.out ∧ m.boot = n.boot
      ∧ ∀ f : Field, PEX_STATUS.STATE.apart f = true → m.rd f = n.rd f := by
  dsimp only
  rw [Node.sramWrite, n.busPut_of_no_uce a bs h]
  dsimp only
  split
  · exact ⟨fun _ => rfl, rfl, rfl, fun f hf => (Node.rd_wr_ne _ _ _ _ (by decide) hf).trans rfl⟩
  · exact ⟨fun _ => rfl, rfl, rfl, fun _ _ => rfl⟩

/-! ### The status byte (R598) -/

/-- SYS_HOSTSTAT tells of the last transaction: the bits `x` of the next status byte, and the SPI mode. -/
def HostReports (mode3 : Bool) (x : Nat) (m : Node) : Prop := m.rd SYS_HOSTSTAT.NEXT = 0xA0 + x ∧ m.on SYS_HOSTSTAT.MODE3 = mode3

section
variable (n : Node) (mode3 : Bool) (x : Nat)

theorem Node.hostStatus_reports (hx : x < 0x60) : HostReports mode3 x (n.hostStatus mode3 x) := by
  refine ⟨?_, Node.on_wrB_same _ _ _ (by decide) rfl⟩
  rw [Node.hostStatus, Node.wrB, Node.rd_wr_ne _ _ _ _ (by decide) (by decide), n.rd_wr_same _ _ (by decide)]
  exact Nat.mod_eq_of_lt (show 0xA0 + x < 2 ^ 8 by omega)

theorem Node.hostStatus_rd_ne (f : Field) (h1 : SYS_HOSTSTAT.NEXT.apart f = true) (h2 : SYS_HOSTSTAT.MODE3.apart f = true) :
    (n.hostStatus mode3 x).rd f = n.rd f := by
  rw [Node.hostStatus, Node.wrB, Node.rd_wr_ne _ _ _ _ (by decide) h2, n.rd_wr_ne _ _ _ (by decide) h1]

theorem Node.hostStatus_on_ne (f : Field) (h1 : SYS_HOSTSTAT.NEXT.apart f = true) (h2 : SYS_HOSTSTAT.MODE3.apart f = true) :
    (n.hostStatus mode3 x).on f = n.on f := by rw [Node.on, n.hostStatus_rd_ne _ _ f h1 h2, Node.on]

end

/-! ### How a transaction ends (R596, R598) -/

/-- The end of a transaction that is refused, fails its CRC or is cut off: it is counted in `c`, raises `e` and leaves status bits `x`. -/
def Node.hostFail (n : Node) (mode3 : Bool) (c e : Field) (x : Nat) : Node := ((n.count c).raise e).hostStatus mode3 x

/-- The end of a transaction that was performed. -/
def Node.hostDone (n : Node) (mode3 : Bool) (x : Nat) : Node := (n.count SYS_CNT_HOSTOK.VALUE).hostStatus mode3 x

/-- A counter of the host port and the event that goes with it. -/
def hostFailures : List (Field × Field) := [(SYS_CNT_HOSTREF.VALUE, SYS_EVT.HOSTREF), (SYS_CNT_HOSTCRC.VALUE, SYS_EVT.HOSTCRC),
  (SYS_CNT_HOSTABT.VALUE, SYS_EVT.HOSTABT)]

theorem hostFailures_spec : ∀ p ∈ hostFailures, p.1.lo + p.1.width ≤ 32 ∧ p.2.lo + p.2.width ≤ 32 ∧ p.2.width = 1
    ∧ recReg p.1.addr = false ∧ recReg p.2.addr = false ∧ p.2.apart p.1 = true ∧ SYS_HOSTSTAT.NEXT.apart p.1 = true
    ∧ SYS_HOSTSTAT.MODE3.apart p.1 = true ∧ SYS_HOSTSTAT.NEXT.apart p.2 = true ∧ SYS_HOSTSTAT.MODE3.apart p.2 = true := by decide

theorem Node.hostFail_effect (n : Node) (mode3 : Bool) {c e : Field} {x : Nat} (hce : (c, e) ∈ hostFailures) (hx : x < 0x60) :
    HostReports mode3 x (n.hostFail mode3 c e x) ∧ Counted c n (n.hostFail mode3 c e x) ∧ (n.hostFail mode3 c e x).on e = true := by
  obtain ⟨hc, he, he1, hrc, hre, hce', hs1, hs2, hs3, hs4⟩ := hostFailures_spec _ hce
  refine ⟨Node.hostStatus_reports _ _ _ hx, ?_, ?_⟩
  · rw [Counted, Node.hostFail, Node.hostStatus_rd_ne _ _ _ _ hs1 hs2, Node.rd_raise _ _ _ he hrc hce', n.rd_count_same _ hc]
  · rw [Node.hostFail, Node.hostStatus_on_ne _ _ _ _ hs3 hs4, Node.on_raise_same _ _ he he1 hre]

theorem Node.hostFail_outGrows (n : Node) (mode3 : Bool) (c e : Field) (x : Nat) : OutGrows n (n.hostFail mode3 c e x) :=
  (n.count c).raise_outGrows e

theorem Node.hostDone_effect (n : Node) (mode3 : Bool) {x : Nat} (hx : x < 0x60) :
    HostReports mode3 x (n.hostDone mode3 x) ∧ Counted SYS_CNT_HOSTOK.VALUE n (n.hostDone mode3 x) := by
  refine ⟨Node.hostStatus_reports _ _ _ hx, ?_⟩
  rw [Counted, Node.hostDone, Node.hostStatus_rd_ne _ _ _ _ (by decide) (by decide), n.rd_count_same _ (by decide)]

/-! ### What a transaction does (R597, R599) -/

section
variable (n : Node) (by_ : Initiator) {bs : List Byte}

theorem Node.transact_write (hc : be bs 0 1 = 1) (hw : hostWords bs = 1) (ha : be bs 2 4 % 4 = 0)
    (hm : n.hostMayWrite by_ (be bs 2 4) = true) :
    n.transact by_ bs = (true, false, [], n.hostPutWord by_ (be bs 2 4) (BitVec.ofNat 32 (be bs 6 4))) := by
  simp [Node.transact, Node.hostPutWords, upTo, hc, hw, ha, hm]

theorem Node.transact_write_refused (hc : be bs 0 1 = 1) (hw : hostWords bs = 1)
    (h : n.hostMayWrite by_ (be bs 2 4) = false ∨ be bs 2 4 % 4 ≠ 0) : n.transact by_ bs = (false, true, [], n.busError by_) := by
  rcases h with h | h <;> simp [Node.transact, upTo, hc, hw, h]

theorem Node.transact_read (hc : be bs 0 1 = 2) (hw : hostWords bs = 1) (ha : be bs 2 4 % 4 = 0) (hm : hostMayRead (be bs 2 4) 4 = true) :
    n.transact by_ bs = let r := n.hostGetWord (be bs 2 4)
      let f := r.2.hostFill (hostMarked (0x5A :: r.1))
      (false, false, f.1, f.2) := by
  simp [Node.transact, Node.hostGetWords, upTo, hc, hw, ha, hm]

theorem Node.transact_read_refused (hc : be bs 0 1 = 2) (hm : hostMayRead (be bs 2 4) (4 * hostWords bs) = false) :
    n.transact by_ bs = let f := (n.busError by_).hostFill (hostMarked [0xE1])
      (false, true, f.1, f.2) := by
  simp [Node.transact, hc, hm]

theorem Node.transact_status (hc : be bs 0 1 = 3) : n.transact by_ bs = (false, false, hostMarked [0x5A], n) := by
  simp [Node.transact, hc]

/-- A read of an assigned register that a read does not change answers its word and leaves the node as it is (R677). -/
theorem Node.hostGetWord_reg {a : Nat} (hr : isReg a = true) (hs : (specOf a).isSome = true) (h1 : a ≠ MSG_HGET.DESC.addr)
    (h2 : a ≠ EVR_CLRCHAL_LO.VALUE.addr) : n.hostGetWord a = (beBytes 4 (n.look a).toNat, n) := by
  have hn : (specOf a).isNone = false := by rwa [← Option.not_isSome, Bool.not_eq_false']
  simp [Node.hostGetWord, hr, Node.regRead, hn, h1, h2]

end

/-- An aligned word of a block may be read. -/
theorem hostMayRead_reg {a : Nat} (hr : isReg a = true) (hb : inBlock a = true) (ha : a % 4 = 0) : hostMayRead a 4 = true := by
  have he : a + 4 ≤ blockEnd a := by unfold blockEnd; split <;> simp_all <;> omega
  simp [hostMayRead, hr, hb, he]

theorem hostMayRead_nowhere {a : Nat} (hr : isReg a = false) (hs : isSram a = false) (len : Nat) : hostMayRead a len = false := by
  simp [hostMayRead, hr, hs]

/-! ### The transaction as a whole (R596 to R599) -/

/-- Status byte and answer as the node puts them out. -/
def Node.hostAnswer (n m : Node) (ans : List Byte) : Node := m.emit .host (leBytes 1 (n.rd SYS_HOSTSTAT.NEXT) ++ ans)

section
variable {n m : Node} {mode3 w : Bool} {bs ans : List Byte}

theorem Node.hostRun_badCrc (hl : hostLength bs ≤ bs.length) (hk : hostCrcOk bs = false) : n.hostRun mode3 bs
    = (n.hostFail mode3 SYS_CNT_HOSTCRC.VALUE SYS_EVT.HOSTCRC 2).emit .host (leBytes 1 (n.rd SYS_HOSTSTAT.NEXT)) := by
  simp [Node.hostRun, Nat.not_lt.mpr hl, hk, Node.hostFail]

theorem Node.hostRun_refused (hl : hostLength bs ≤ bs.length) (hk : hostCrcOk bs = true) (ht : n.transact .host bs = (w, true, ans, m))
    (hm : m.running = true) : n.hostRun mode3 bs = (n.hostAnswer m ans).hostFail mode3 SYS_CNT_HOSTREF.VALUE SYS_EVT.HOSTREF 4 := by
  have hm' : (m.emit .host (leBytes 1 (n.rd SYS_HOSTSTAT.NEXT) ++ ans)).running = true := hm
  simp [Node.hostRun, Nat.not_lt.mpr hl, hk, ht, hm', Node.hostFail, Node.hostAnswer]

theorem Node.hostRun_done (hl : hostLength bs ≤ bs.length) (hk : hostCrcOk bs = true) (ht : n.transact .host bs = (w, false, ans, m))
    (hm : m.running = true) : n.hostRun mode3 bs = (n.hostAnswer m ans).hostDone mode3 (b2n w) := by
  have hm' : (m.emit .host (leBytes 1 (n.rd SYS_HOSTSTAT.NEXT) ++ ans)).running = true := hm
  simp [Node.hostRun, Nat.not_lt.mpr hl, hk, ht, hm', Node.hostDone, Node.hostAnswer]

end

/-- A row of the host port runs the transaction that its bytes spell. -/
theorem does_hostCommand {c : Instr} {s : State} {cmd : Nat} {mode3 : Bool} {bs : List Byte} {P : Node → Prop}
    (hr : s.node.running = true) (hc : exec c s = s.onNode (fun n => n.hostCommand cmd mode3 bs)) (hb : be bs 0 1 = cmd)
    (hp : P (s.node.hostRun mode3 bs)) : Does c s P :=
  does_onNode hr hc (by rwa [Node.hostCommand, if_pos hb])

section
variable {s : State} {mode3 : Bool} {bs : List Byte} (hr : s.node.running = true) (hl : hostLength bs ≤ bs.length)
include hr hl

/-- A word written to the SRAM (R599). -/
theorem hostWrite_sram (hc : be bs 0 1 = 1) (hk : hostCrcOk bs = true) (hw : hostWords bs = 1) (ha : be bs 2 4 % 4 = 0)
    (hu : s.node.uce = []) (hm : s.node.sramMay .host (be bs 2 4) 4 = true) : Does (.hostWrite mode3 bs) s (fun m =>
      m.memLe (be bs 2 4) 4 = be bs 6 4 ∧ (∀ x, x < be bs 2 4 ∨ be bs 2 4 + 4 ≤ x → m.memByte x = s.node.memByte x)
      ∧ HostReports mode3 1 m ∧ Counted SYS_CNT_HOSTOK.VALUE s.node m
      ∧ m.out = s.node.out ++ [⟨.host, leBytes 1 (s.node.rd SYS_HOSTSTAT.NEXT)⟩]) := by
  have hreg : isReg (be bs 2 4) = false := isReg_of_lt (by have := s.node.sramMay_lt _ _ _ hm; omega)
  have hv : (BitVec.ofNat 32 (be bs 6 4)).toNat = be bs 6 4 := by
    rw [BitVec.toNat_ofNat]
    exact Nat.mod_eq_of_lt (be_lt bs 6 4)
  have hput : s.node.hostPutWord .host (be bs 2 4) (BitVec.ofNat 32 (be bs 6 4)) = s.node.sramWrite (be bs 2 4) (leBytes 4 (be bs 6 4)) := by
    rw [Node.hostPutWord, hr, hreg, hv]
    rfl
  have ht := s.node.transact_write .host hc hw ha (by simp [Node.hostMayWrite, hm])
  rw [hput] at ht
  obtain ⟨hmem, hout, hboot, hrd⟩ := s.node.sramWrite_of_no_uce (be bs 2 4) (leBytes 4 (be bs 6 4)) hu
  refine does_hostCommand hr rfl hc ?_
  rw [Node.hostRun_done hl hk ht ((Node.running_congr hboot).trans hr)]
  obtain ⟨hrep, hcnt⟩ := (s.node.hostAnswer (s.node.sramWrite (be bs 2 4) (leBytes 4 (be bs 6 4))) []).hostDone_effect mode3 (x := 1) (by decide)
  refine ⟨?_, fun x hx => ?_, hrep, ?_, ?_⟩
  · refine (Node.memLe_of_memByte _ _ 4 (be bs 6 4) fun i hi => ?_).trans (Nat.mod_eq_of_lt (be_lt bs 6 4))
    exact (hmem _).trans (s.node.memByte_memPut_in _ _ i hi)
  · exact (hmem x).trans (s.node.memByte_memPut_out _ _ x (by simpa using hx))
  · exact hcnt.trans (by rw [Node.hostAnswer, Node.emit_rd, hrd _ (by decide)])
  · exact (Node.emit_out _ _ _).trans (by rw [hout, List.append_nil])

/-- A refused write (R599). -/
theorem hostWrite_refused (hc : be bs 0 1 = 1) (hk : hostCrcOk bs = true) (hw : hostWords bs = 1)
    (h : s.node.hostMayWrite .host (be bs 2 4) = false ∨ be bs 2 4 % 4 ≠ 0) : Does (.hostWrite mode3 bs) s (fun m =>
      HostReports mode3 4 m ∧ Counted SYS_CNT_HOSTREF.VALUE s.node m ∧ m.on SYS_EVT.HOSTREF = true ∧ m.on SYS_EVT.BUSERR = true) := by
  refine does_hostCommand hr rfl hc ?_
  rw [Node.hostRun_refused hl hk (s.node.transact_write_refused .host hc hw h) ((Node.running_congr (s.node.busError_boot _)).trans hr)]
  obtain ⟨hrep, hcnt, hev⟩ := (s.node.hostAnswer (s.node.busError .host) []).hostFail_effect mode3
    (c := SYS_CNT_HOSTREF.VALUE) (e := SYS_EVT.HOSTREF) (x := 4) (by decide) (by decide)
  refine ⟨hrep, ?_, hev, ?_⟩
  · exact hcnt.trans (by rw [Node.hostAnswer, Node.emit_rd, Node.busError_rd_ne _ _ _ (by decide) (by decide)])
  · rw [Node.hostFail, Node.hostStatus_on_ne _ _ _ _ (by decide) (by decide), Node.on_raise_ne _ _ _ (by decide) (by decide) (by decide)]
    exact (congrArg (decide <| · = 1) (Node.rd_count_ne _ _ _ (by decide) (by decide))).trans (s.node.busError_on .host)

/-- A word read from a register (R597, R599, R677). -/
theorem hostRead_reg (hc : be bs 0 1 = 2) (hk : hostCrcOk bs = true) (hw : hostWords bs = 1) (ha : be bs 2 4 % 4 = 0)
    (hreg : isReg (be bs 2 4) = true) (hb : inBlock (be bs 2 4) = true) (hs : (specOf (be bs 2 4)).isSome = true)
    (h1 : be bs 2 4 ≠ MSG_HGET.DESC.addr) (h2 : be bs 2 4 ≠ EVR_CLRCHAL_LO.VALUE.addr) : Does (.hostRead mode3 bs) s (fun m =>
      HostReports mode3 0 m ∧ Counted SYS_CNT_HOSTOK.VALUE s.node m
      ∧ ∃ k, k < 9 ∧ m.out = s.node.out ++ [⟨.host, leBytes 1 (s.node.rd SYS_HOSTSTAT.NEXT) ++ List.replicate k 0xFF
          ++ hostMarked (0x5A :: beBytes 4 (s.node.look (be bs 2 4)).toNat)⟩]) := by
  have ht := s.node.transact_read .host hc hw ha (hostMayRead_reg hreg hb ha)
  rw [s.node.hostGetWord_reg hreg hs h1 h2] at ht
  refine does_hostCommand hr rfl hc ?_
  rw [Node.hostRun_done hl hk ht hr]
  obtain ⟨hrep, hcnt⟩ := Node.hostDone_effect (s.node.hostAnswer _ _) mode3 (x := 0) (by decide)
  exact ⟨hrep, hcnt, s.node.freeWord.1 % 9, Nat.mod_lt _ (by decide), (Node.emit_out _ _ _).trans (by rw [List.append_assoc]; rfl)⟩

/-- A read of what is neither register space nor SRAM (R599). -/
theorem hostRead_refused (hc : be bs 0 1 = 2) (hk : hostCrcOk bs = true) (hreg : isReg (be bs 2 4) = false)
    (hs : isSram (be bs 2 4) = false) : Does (.hostRead mode3 bs) s (fun m => HostReports mode3 4 m ∧ m.on SYS_EVT.HOSTREF = true
      ∧ ∃ k, k < 9 ∧ (⟨.host, leBytes 1 (s.node.rd SYS_HOSTSTAT.NEXT) ++ (List.replicate k 0xFF ++ hostMarked [0xE1])⟩ : Emission) ∈ m.out) := by
  refine does_hostCommand hr rfl hc ?_
  rw [Node.hostRun_refused hl hk (s.node.transact_read_refused .host hc (hostMayRead_nowhere hreg hs _))
    ((Node.running_congr (s.node.busError_boot .host)).trans hr)]
  obtain ⟨hrep, -, hev⟩ := Node.hostFail_effect (s.node.hostAnswer _ _) mode3
    (c := SYS_CNT_HOSTREF.VALUE) (e := SYS_EVT.HOSTREF) (x := 4) (by decide) (by decide)
  refine ⟨hrep, hev, (s.node.busError .host).freeWord.1 % 9, Nat.mod_lt _ (by decide), (Node.hostFail_outGrows _ _ _ _ _).subset ?_⟩
  exact List.mem_append_right _ (List.mem_singleton.mpr rfl)

/-- A status transaction (R597). -/
theorem hostStatus_answers (hc : be bs 0 1 = 3) (hk : hostCrcOk bs = true) : Does (.hostStatus mode3 bs) s (fun m =>
      HostReports mode3 0 m ∧ Counted SYS_CNT_HOSTOK.VALUE s.node m ∧ m.mem = s.node.mem
      ∧ m.out = s.node.out ++ [⟨.host, leBytes 1 (s.node.rd SYS_HOSTSTAT.NEXT) ++ hostMarked [0x5A]⟩]) := by
  refine does_hostCommand hr rfl hc ?_
  rw [Node.hostRun_done hl hk (s.node.transact_status .host hc) hr]
  obtain ⟨hrep, hcnt⟩ := (s.node.hostAnswer s.node (hostMarked [0x5A])).hostDone_effect mode3 (x := 0) (by decide)
  exact ⟨hrep, hcnt, rfl, rfl⟩

/-- A transaction whose CRC-16 is wrong (R597). -/
theorem hostStatus_badCrc (hc : be bs 0 1 = 3) (hk : hostCrcOk bs = false) : Does (.hostStatus mode3 bs) s (fun m =>
      HostReports mode3 2 m ∧ Counted SYS_CNT_HOSTCRC.VALUE s.node m ∧ m.on SYS_EVT.HOSTCRC = true) := by
  refine does_hostCommand hr rfl hc ?_
  rw [Node.hostRun_badCrc hl hk]
  exact s.node.hostFail_effect mode3 (by decide) (by decide)

end

/-- A transaction cut off (R596). -/
theorem hostAbort_cut {s : State} {mode3 : Bool} {bs : List Byte} (hr : s.node.running = true) (h : bs.length < hostLength bs) :
    Does (.hostAbort mode3 bs) s (fun m => HostReports mode3 8 m ∧ Counted SYS_CNT_HOSTABT.VALUE s.node m
      ∧ m.on SYS_EVT.HOSTABT = true) := by
  refine does_onNode (f := fun n => if bs.length < hostLength bs then n.hostCut mode3 else n) hr rfl ?_
  rw [if_pos h]
  exact s.node.hostFail_effect mode3 (by decide) (by decide)

theorem hostAbort_whole {s : State} {mode3 : Bool} {bs : List Byte} (hr : s.node.running = true) (h : hostLength bs ≤ bs.length) :
    Answers (.hostAbort mode3 bs) s s.node :=
  answers_same (f := fun n => if bs.length < hostLength bs then n.hostCut mode3 else n) hr rfl (if_neg (Nat.not_lt.mpr h))

/-- Settles O40: one theorem for each clause, on the bus write of a register and on the host port's transaction. -/
theorem registerSpace : Obligations.RegisterSpace := by
  unfold Obligations.RegisterSpace
  intro s by_ a v d mode3 bs hr n w whole one Status first
  refine ⟨registerWrite_eventWord hr, registerWrite_unassigned hr, registerWrite_outside hr, ?_, counterClear_other hr, ?_, ?_, ?_, ?_, ?_, ?_,
    hostAbort_cut hr, hostAbort_whole hr⟩
  · rintro r hm i hi rfl
    exact counterClear_counters hr hm hi
  · rintro ⟨hc, hl, hk⟩ ⟨hw, ha⟩ hu hm
    exact hostWrite_sram hr hl hc hk hw ha hu hm
  · rintro ⟨hc, hl, hk⟩ hw h
    exact hostWrite_refused hr hl hc hk hw h
  · rintro ⟨hc, hl, hk⟩ ⟨hw, ha⟩ hreg hb hs h1 h2
    exact hostRead_reg hr hl hc hk hw ha hreg hb hs h1 h2
  · rintro ⟨hc, hl, hk⟩ - hreg hs
    exact hostRead_refused hr hl hc hk hreg hs
  · rintro ⟨hc, hl, hk⟩
    exact hostStatus_answers hr hl hc hk
  · intro hc hl hk
    exact hostStatus_badCrc hr hl hc hk

end Sys2Proof.Machine
end

section
/-! PROOFS. What a frame on the pair link leaves alone, and the snapshot of the four time bases (01_architecture.md R22; 14_time.md R527). -/

namespace Sys2Proof.Machine

/-! ### What a frame on the pair link leaves alone -/

/-- `m` is `n` but for registers, the pair link's own state and what has been put out. -/
def LinkOnly (n m : Node) : Prop := m = { n with regs := m.regs, pair := m.pair, out := m.out }

namespace LinkOnly

variable {n m k : Node}

theorem refl (n : Node) : LinkOnly n n := rfl

theorem trans (h : LinkOnly n m) (g : LinkOnly m k) : LinkOnly n k := by
  rw [LinkOnly] at h g ⊢
  rw [g, h]

theorem mem (h : LinkOnly n m) : m.mem = n.mem := by rw [h]

theorem msg (h : LinkOnly n m) : m.msg = n.msg := by rw [h]

theorem updPair (n : Node) (f : PairState → PairState) : LinkOnly n (n.updPair f) := rfl

theorem wr (n : Node) (f : Field) (v : Nat) : LinkOnly n (n.wr f v) := rfl

theorem emit (n : Node) (p : Port) (bs : List Byte) : LinkOnly n (n.emit p bs) := rfl

theorem cond {c : Prop} [Decidable c] {a b : Node} (ha : LinkOnly n a) (hb : LinkOnly n b) : LinkOnly n (if c then a else b) := by
  split <;> assumption

theorem foldl {β : Type} (f : Node → β → Node) (h : ∀ n x, LinkOnly n (f n x)) (l : List β) (n : Node) : LinkOnly n (l.foldl f n) := by
  induction l generalizing n with
  | nil => exact refl n
  | cons x l ih => exact (h n x).trans (ih _)

theorem linkPump (k : Nat) (n : Node) : LinkOnly n (Node.linkPump k n) := by
  induction k generalizing n with
  | zero => exact refl n
  | succ k ih =>
    unfold Node.linkPump
    split
    · exact refl n
    · exact cond (refl n) (((updPair n _).trans (emit _ _ _)).trans (ih _))

theorem linkSend (n : Node) (prio type : Nat) (bs : List Byte) : LinkOnly n (n.linkSend prio type bs) :=
  ((updPair n _).trans (linkPump _ _)).trans (wr _ _ _)

theorem jrnlFrames (k : Nat) (n : Node) (off : Nat) (bs : List Byte) : LinkOnly n (Node.jrnlFrames k n off bs) := by
  induction k generalizing n off bs with
  | zero => exact refl n
  | succ k ih =>
    unfold Node.jrnlFrames
    exact cond (refl n) ((linkSend n _ _ _).trans (ih _ _ _))

theorem mirrorDelta (n : Node) (recs : List (List Byte)) : LinkOnly n (n.mirrorDelta recs) := by
  unfold Node.mirrorDelta
  exact cond (refl n) (((updPair n _).trans (wr _ _ _)).trans (foldl _ (fun n _ => linkSend n _ _ _) _ _))

end LinkOnly

section
variable (n : Node) (by_ : Initiator) (a v : Nat) (f : Node → Node)

/-- A mirrored write is its own effect, and frames on the pair link. -/
theorem Node.mirrored_linkOnly : LinkOnly (f n) (n.mirrored by_ a v f) := by
  cases by_ with
  | unit => exact LinkOnly.refl _
  | eng _ => exact LinkOnly.mirrorDelta _ _
  | host => exact LinkOnly.mirrorDelta _ _
  | agent => exact LinkOnly.mirrorDelta _ _
  | jtag => exact LinkOnly.mirrorDelta _ _

@[simp] theorem Node.mirrored_mem : (n.mirrored by_ a v f).mem = (f n).mem := (n.mirrored_linkOnly by_ a v f).mem

@[simp] theorem Node.mirrored_msg : (n.mirrored by_ a v f).msg = (f n).msg := (n.mirrored_linkOnly by_ a v f).msg

@[simp] theorem Node.mirrored_time : (n.mirrored by_ a v f).time = (f n).time := (n.mirrored_recorded by_ a v f).time

theorem Node.mirrored_rd (g : Field) (h : recReg g.addr = false) : (n.mirrored by_ a v f).rd g = (f n).rd g :=
  (n.mirrored_recorded by_ a v f).rd g h

end

/-! ### The snapshot of the time bases (R22, R527) -/

/-- What TIME_SNAP writes: the four bases and the three step counts of one instant. -/
theorem Node.timeSnap_eq (n : Node) : n.timeSnap = ((((((n.wr (TIME_SNAPV.VALUE 0) n.time.train.toNat).wr (TIME_SNAPV.VALUE 1)
    n.time.ptp.toNat).wr (TIME_SNAPV.VALUE 2) (BitVec.ofNat 32 n.now).toNat).wr (TIME_SNAPV.VALUE 3) n.time.utc.toNat).wr
    TIME_SNAPSTEP.TRAIN (n.time.stepsTrain % 256)).wr TIME_SNAPSTEP.PTP (n.time.stepsPtp % 256)).wr TIME_SNAPSTEP.UTC
    (n.time.stepsUtc % 256) := rfl

/-- The registers that TIME_SNAP writes share no bit, so each keeps what was captured for it. -/
theorem Node.timeSnap_captures (n : Node) : n.timeSnap.rd (TIME_SNAPV.VALUE 0) = n.time.train.toNat
    ∧ n.timeSnap.rd (TIME_SNAPV.VALUE 1) = n.time.ptp.toNat ∧ n.timeSnap.rd (TIME_SNAPV.VALUE 2) = n.now % 4294967296
    ∧ n.timeSnap.rd (TIME_SNAPV.VALUE 3) = n.time.utc.toNat ∧ n.timeSnap.rd TIME_SNAPSTEP.TRAIN = n.time.stepsTrain % 256
    ∧ n.timeSnap.rd TIME_SNAPSTEP.PTP = n.time.stepsPtp % 256 ∧ n.timeSnap.rd TIME_SNAPSTEP.UTC = n.time.stepsUtc % 256 := by
  have hcut : ∀ w : Word, w.toNat % 2 ^ 32 = w.toNat := fun w => Nat.mod_eq_of_lt w.isLt
  rw [Node.timeSnap_eq]
  refine ⟨?_, ?_, ?_, ?_, ?_, ?_, ?_⟩ <;> simp (disch := decide) only [Node.rd_wr_ne, Node.rd_wr_same]
  · exact hcut _
  · exact hcut _
  · exact (hcut _).trans (BitVec.toNat_ofNat _ _)
  · exact hcut _
  · exact Nat.mod_mod _ _
  · exact Nat.mod_mod _ _
  · exact Nat.mod_mod _ _

/-- Settles O54: the snapshot's registers read as captured, and the mirror of the write touches none of them. -/
theorem snapshotOfAllBases : Obligations.SnapshotOfAllBases := by
  unfold Obligations.SnapshotOfAllBases
  intro s by_ hr n
  refine does_onNode (f := fun n => n.mirrored by_ TIME_SNAP.GO.addr 1 (·.timeSnap)) hr rfl ?_
  simp (disch := decide) only [Node.mirrored_rd, Node.mirrored_time, Node.mirrored_mem]
  obtain ⟨htrain, hptp, hlocal, hutc, hst, hsp, hsu⟩ := n.timeSnap_captures
  exact ⟨htrain, hptp, hlocal, hutc, hst, hsp, hsu, rfl, rfl⟩

end Sys2Proof.Machine
end

section
/-! PROOFS. Loads and stores of a Galek engine (01_architecture.md R23; 08_cycle_engines.md R349; 09_galek_isa.md R370, R384; 20_register_map.md
R677): what a load returns, and what a store leaves. -/

namespace Sys2Proof.Machine

/-! ### Bytes as words -/

/-- A byte put below a bit vector. -/
theorem toNat_append_byte {w : Nat} (x : BitVec w) (b : Byte) : (x ++ b).toNat = b.toNat + 256 * x.toNat := by
  rw [BitVec.toNat_append, ← Nat.shiftLeft_add_eq_or_of_lt b.isLt, Nat.shiftLeft_eq]
  omega

theorem Node.memLe_one (n : Node) (a : Nat) : n.memLe a 1 = (n.memByte a).toNat := by
  simp [Node.memLe, Node.memBytes, upTo, List.range_succ, ofLe]

theorem Node.memLe_two (n : Node) (a : Nat) : n.memLe a 2 = (n.memByte (a + 1) ++ n.memByte a).toNat := by
  rw [toNat_append_byte]
  simp [Node.memLe, Node.memBytes, upTo, List.range_succ, ofLe]

theorem Node.memLe_four (n : Node) (a : Nat) :
    n.memLe a 4 = (n.memByte (a + 3) ++ n.memByte (a + 2) ++ n.memByte (a + 1) ++ n.memByte a).toNat := by
  rw [toNat_append_byte, toNat_append_byte, toNat_append_byte]
  simp [Node.memLe, Node.memBytes, upTo, List.range_succ, ofLe]

/-- A number that is a bit vector's extends as the bit vector does. -/
theorem ofNat_eq_setWidth {w v : Nat} {x : BitVec w} (h : v = x.toNat) : BitVec.ofNat 32 v = x.setWidth 32 := by rw [h, BitVec.ofNat_toNat]

theorem signed_one {v : Nat} {x : BitVec 8} (h : v = x.toNat) : signed 1 v = x.signExtend 32 := by simp [signed, h]

theorem signed_two {v : Nat} {x : BitVec 16} (h : v = x.toNat) : signed 2 v = x.signExtend 32 := by simp [signed, h]

/-! ### Addresses -/

theorem isSram_lt {a : Nat} (h : isSram a = true) : a < 0x40000000 := by
  simp only [isSram, Bool.and_eq_true, decide_eq_true_eq] at h
  omega

theorem isDmem_of_isReg {a : Nat} (h : isReg a = true) : isDmem a = false := by
  simp only [isReg, Bool.and_eq_true, decide_eq_true_eq] at h
  simp only [isDmem, Bool.and_eq_false_iff, decide_eq_false_iff_not]
  omega

/-! ### Loads (R384) -/

/-- A load in place that meets no uncorrectable word has no cause to fault. -/
theorem Node.loadCause_sram {n : Node} {a len : Nat} (hs : isSram a = true) (ha : a % len = 0) (hu : n.uceIn a len = false) :
    n.loadCause a len = 0 := by simp [Node.loadCause, hs, ha, hu]

theorem Node.loadData_sram {n : Node} {a len : Nat} (hs : isSram a = true) (hu : n.uceIn a len = false) :
    n.loadData a len = (n.memLe a len, n) := by
  simp [Node.loadData, Node.sramRead, isReg_of_lt (isSram_lt hs), hu, Node.memLe]

theorem Node.loadCause_reg {n : Node} {a : Nat} (hr : isReg a = true) (hb : inBlock a = true) (ha : a % 4 = 0) : n.loadCause a 4 = 0 := by
  simp [Node.loadCause, hr, hb, ha, isDmem_of_isReg hr]

/-- A word load of a register that a read does not act on gives its word and leaves the node as it is (R677). -/
theorem Node.loadData_reg {n : Node} {a : Nat} (hr : isReg a = true) (hs : (specOf a).isSome = true) (h1 : a ≠ MSG_HGET.DESC.addr)
    (h2 : a ≠ EVR_CLRCHAL_LO.VALUE.addr) : n.loadData a 4 = ((n.look a).toNat, n) := by
  have hn : (specOf a).isNone = false := by rwa [← Option.not_isSome, Bool.not_eq_false']
  simp [Node.loadData, Node.regRead, hr, hn, h1, h2]

section
variable {c : Instr} {s : State} {e : Fin 8} {rd ra : Reg} {imm : BitVec 16} {len : Nat}

/-- A load that has no cause to fault and changes nothing computes what it reads. -/
theorem computes_load {ext : Nat → Word} {v : Nat} {w : Word} (hf : Fetches s.node e)
    (hc : exec c s = s.onNode (fun n => n.load e rd ra imm len ext)) (h0 : s.node.loadCause (s.node.dataAddr e ra imm) len = 0)
    (hd : s.node.loadData (s.node.dataAddr e ra imm) len = (v, s.node)) (hw : ext v = w) : Computes c s e rd w :=
  computes_finish hf hc (by simp [h0, hd, hw])

theorem computes_load_sram {ext : Nat → Word} {w : Word} (hf : Fetches s.node e)
    (hc : exec c s = s.onNode (fun n => n.load e rd ra imm len ext)) (hs : isSram (s.node.dataAddr e ra imm) = true)
    (ha : s.node.dataAddr e ra imm % len = 0) (hu : s.node.uceIn (s.node.dataAddr e ra imm) len = false)
    (hw : ext (s.node.memLe (s.node.dataAddr e ra imm) len) = w) : Computes c s e rd w :=
  computes_load hf hc (Node.loadCause_sram hs ha hu) (Node.loadData_sram hs hu) hw

/-! ### Stores (R384) -/

/-- An engine's stores lie outside the program banks. -/
theorem Node.sramMay_eng_ge {n : Node} {a : Nat} (h : n.sramMay (.eng e) a len = true) : 0x20200000 ≤ a := by
  by_contra hlt
  have hout : ∀ lo hi, 0x20200000 ≤ lo → (decide (lo ≤ a) && decide (a + len ≤ hi)) = false := fun lo hi hlo => by
    rw [decide_eq_false (show ¬ lo ≤ a by omega), Bool.false_and]
  simp (disch := omega) [Node.sramMay, hout, -Bool.and_eq_true, -Bool.decide_and] at h

theorem Node.otherBank_le (n : Node) : n.otherBank ≤ 0x20100000 := by
  unfold Node.otherBank
  omega

theorem Node.storeCause_sram {n : Node} {a : Nat} (v : Word) (hm : n.sramMay (.eng e) a len = true) (ha : a % len = 0) :
    n.storeCause e a len v = 0 := by
  have hlt := n.sramMay_lt _ _ _ hm
  have hset : a ≠ GPIO_SET.SET.addr := ne_of_lt (lt_of_le_of_lt (by omega : a ≤ 0x20800000) (by decide))
  have hclr : a ≠ GPIO_CLR.CLR.addr := ne_of_lt (lt_of_le_of_lt (by omega : a ≤ 0x20800000) (by decide))
  simp [Node.storeCause, hm, ha, hset, hclr]

/-- Outside the program banks, a write of a run without an uncorrectable word puts its bytes and does nothing else. -/
theorem Node.sramWrite_above_banks {n : Node} {a : Nat} {bs : List Byte} (ha : 0x20200000 ≤ a) (hu : n.uceIn a bs.length = false) :
    n.sramWrite a bs = n.memPut a bs := by
  have hput : n.busPut a bs = n.memPut a bs := by simp [Node.busPut, hu]
  have hb := (n.memPut a bs).otherBank_le
  rw [Node.sramWrite, hput]
  exact if_neg (by simp; omega)

/-- What a store leaves: the bytes `bs` from `a` on, the engine's next word, and nothing else. -/
def StoredBytes (e : Fin 8) (n : Node) (a : Nat) (bs : List Byte) (m : Node) : Prop :=
  (∀ i (h : i < bs.length), m.memByte (a + i) = bs[i]) ∧ (∀ x, x < a ∨ a + bs.length ≤ x → m.memByte x = n.memByte x)
    ∧ m.pcOf e = n.pcOf e + 4 ∧ (∀ r : Reg, m.g e r = n.g e r) ∧ OnlyEngine e n { m with mem := n.mem, uce := n.uce }

theorem storedBytes_memPut (e : Fin 8) (n : Node) (a : Nat) (bs : List Byte) : StoredBytes e n a bs ((n.advance e).memPut a bs) :=
  ⟨fun i hi => Node.memByte_memPut_in _ a bs i hi, fun x hx => Node.memByte_memPut_out _ a bs x hx, n.jump_pcOf e _,
    fun r => n.jump_g e _ r, OnlyEngine.jump e n _⟩

/-- A change of what the engine notes of itself, its registers and program counter kept, changes nothing of this. -/
theorem StoredBytes.updEng {e : Fin 8} {n m : Node} {a : Nat} {bs : List Byte} {f : EngRun → EngRun} (h : StoredBytes e n a bs m)
    (hg : ∀ k, (f k).g = k.g) (hpc : ∀ k, (f k).pc = k.pc) : StoredBytes e n a bs (m.updEng e f) := by
  obtain ⟨hin, hout, hp, hr, ho⟩ := h
  refine ⟨hin, hout, ?_, fun r => ?_, ho.trans (OnlyEngine.updEng e _ f)⟩
  · rw [Node.pcOf, Node.engRun_updEng_same, hpc, ← hp, Node.pcOf]
  · rw [Node.g, Node.engRun_updEng_same, hg, ← hr, Node.g]

/-- A store in place that the engine may make, meeting no uncorrectable word, writes its bytes. -/
theorem storesBytes_store (hf : Fetches s.node e) (hc : exec c s = s.onNode (fun n => n.store e rd ra imm len))
    (hm : s.node.sramMay (.eng e) (s.node.dataAddr e ra imm) len = true) (ha : s.node.dataAddr e ra imm % len = 0)
    (hu : s.node.uceIn (s.node.dataAddr e ra imm) len = false) :
    StoresBytes c s e (s.node.dataAddr e ra imm) (leBytes len (s.node.g e rd).toNat) := by
  generalize hda : s.node.dataAddr e ra imm = a at *
  have hreg : isReg a = false := isReg_of_lt (by have := s.node.sramMay_lt _ _ _ hm; omega)
  have hw : (s.node.advance e).sramWrite a (leBytes len (s.node.g e rd).toNat)
      = (s.node.advance e).memPut a (leBytes len (s.node.g e rd).toNat) :=
    Node.sramWrite_above_banks (Node.sramMay_eng_ge hm) (by rw [leBytes_length]; exact hu)
  have hput := storedBytes_memPut e s.node a (leBytes len (s.node.g e rd).toNat)
  refine does_onNode hf.1 hc ?_
  rw [Node.store, Node.galek_fetches hf, hda]
  simp only [Node.storeCause_sram _ hm ha, Node.storeData, hreg, hw, ne_eq, not_true_eq_false, if_false, Bool.false_eq_true]
  split
  · exact hput.updEng (fun k => by split <;> rfl) (fun k => by split <;> rfl)
  · exact hput

end

/-- Settles O2: `computes_load` for the loads, `storesBytes_store` for the stores; a word in memory is the number that its bytes spell. -/
theorem loadsAndStores : Obligations.LoadsAndStores := by
  unfold Obligations.LoadsAndStores
  intro s e rd ra imm hf a b v
  refine ⟨fun hs => ⟨fun hu => ?_, fun ha hu => ?_, fun ha hu => ?_⟩, fun hr hb hs ha h1 h2 => ?_, fun hm hu => ?_, fun hm ha hu => ?_,
    fun hm ha hu => ?_⟩
  · have hld := s.node.memLe_one a
    exact ⟨computes_load_sram hf rfl hs (Nat.mod_one a) hu (signed_one hld),
      computes_load_sram hf rfl hs (Nat.mod_one a) hu (ofNat_eq_setWidth hld)⟩
  · have hld := s.node.memLe_two a
    exact ⟨computes_load_sram hf rfl hs ha hu (signed_two hld), computes_load_sram hf rfl hs ha hu (ofNat_eq_setWidth hld)⟩
  · exact computes_load_sram hf rfl hs ha hu ((ofNat_eq_setWidth (s.node.memLe_four a)).trans (BitVec.setWidth_eq _))
  · exact computes_load hf rfl (Node.loadCause_reg hr hb ha) (Node.loadData_reg hr hs h1 h2) ((ofNat_eq_setWidth rfl).trans (BitVec.setWidth_eq _))
  · exact storesBytes_store hf rfl hm (Nat.mod_one a) hu
  · exact storesBytes_store hf rfl hm ha hu
  · exact storesBytes_store hf rfl hm ha hu

end Sys2Proof.Machine
end

section
/-! PROOFS. The sender's side of messages (01_architecture.md R33, R34; 06_messages.md R236 to R278): what a journal change, a report and a ring
record leave alone, and then the commands in the order of the statement. -/

namespace Sys2Proof.Machine

/-! ### Addresses of window entries -/

theorem winAddr_ne_of_lt {a b i : Nat} (hb : b < 4294967296) : winAddr a i ≠ b := by
  unfold winAddr
  omega

theorem winAddr_ne {a b i j : Nat} (ha : a < 4294967296) (hb : b < 4294967296) (h : a ≠ b) : winAddr a i ≠ winAddr b j := by
  unfold winAddr
  omega

theorem Field.apart_of_addr_ne {f g : Field} (h : f.addr ≠ g.addr) : f.apart g = true := by simp [Field.apart, h]

/-- A window entry's field and a field of the 32-bit address space share no bit. -/
theorem Field.apart_window {f : Field} {a i lo w : Nat} (h : f.addr < 4294967296) : f.apart ⟨winAddr a i, lo, w⟩ = true :=
  Field.apart_of_addr_ne (winAddr_ne_of_lt h).symm

/-- No window entry is a register that the recorder, the store or the mirror keeps. -/
theorem recReg_winAddr (a i : Nat) : recReg (winAddr a i) = false := by
  have hfree : winAddr a i ≠ MSG_STORE.FREE.addr := winAddr_ne_of_lt (by decide)
  have hdelta : winAddr a i ≠ MSG_DELTA.VALUE.addr := winAddr_ne_of_lt (by decide)
  have hlag : winAddr a i ≠ PAIR_MIRLAG.VALUE.addr := winAddr_ne_of_lt (by decide)
  have hbytes : winAddr a i ≠ PAIR_CNT_MIRBYTES.VALUE.addr := winAddr_ne_of_lt (by decide)
  have hevr : ¬ winAddr a i < 0x40071000 := by
    unfold winAddr
    omega
  simp [recReg, hfree, hdelta, hlag, hbytes, hevr]

/-! ### What a change of JRNL leaves alone (R248, R434) -/

theorem Node.jchange_msg (n : Node) (p : JPiece) (len : Nat) :
    (n.jchange p len).msg = { n.msg with changes := (n.jchange p len).msg.changes } := by
  have h : ((n.pieceBytes p).foldl (fun (n : Node) (b : Nat × List Byte) =>
      let n := n.memPut (jrnlBase + b.1) b.2
      if n.mirroring then Node.jrnlFrames 5 n b.1 b.2 else n) n).msg = n.msg := by
    refine List.foldlRecOn (motive := fun m : Node => m.msg = n.msg) _ _ rfl fun m hm b _ => ?_
    exact ((LinkOnly.jrnlFrames 5 _ _ _).cond (LinkOnly.refl _)).msg.trans hm
  unfold Node.jchange
  dsimp only
  split
  · rw [h]
  · rw [Node.wr_msg]
    dsimp only
    rw [h]

/-! ### Registers and tables that reports and the ring keep -/

/-- The registers that journal changes, reports, delivery queues and ring records write. -/
def keptReg (a : Nat) : Bool :=
  recReg a || (0x400280C0 ≤ a && a < 0x40028100) || a = (QSPI_KBWRITTEN.VALUE 1).addr || a = MSG_CNT_RINGREC.VALUE.addr

theorem keptReg_winAddr (a i : Nat) : keptReg (winAddr a i) = false := by
  have hkb : winAddr a i ≠ (QSPI_KBWRITTEN.VALUE 1).addr := winAddr_ne_of_lt (by decide)
  have hrec : winAddr a i ≠ MSG_CNT_RINGREC.VALUE.addr := winAddr_ne_of_lt (by decide)
  have hdq : ¬ winAddr a i < 0x40028100 := by
    unfold winAddr
    omega
  simp [keptReg, recReg_winAddr, hkb, hrec, hdq]

theorem recReg_of_keptReg {a : Nat} (h : keptReg a = false) : recReg a = false := by
  simp only [keptReg, Bool.or_eq_false_iff] at h
  obtain ⟨⟨⟨hrec, -⟩, -⟩, -⟩ := h
  exact hrec

/-- `m` has the flows, the waiting submissions and the probes of `n`, and its registers but for those of `keptReg`. -/
structure FlowsKept (n m : Node) : Prop where
  out : m.msg.out = n.msg.out
  accq : m.msg.accq = n.msg.accq
  probes : m.msg.probes = n.msg.probes
  flowSrc : m.msg.flowSrc = n.msg.flowSrc
  reg : ∀ a, keptReg a = false → m.reg a = n.reg a

namespace FlowsKept

variable {n m k : Node}

theorem refl (n : Node) : FlowsKept n n := ⟨rfl, rfl, rfl, rfl, fun _ _ => rfl⟩

theorem trans (h : FlowsKept n m) (g : FlowsKept m k) : FlowsKept n k :=
  ⟨g.out.trans h.out, g.accq.trans h.accq, g.probes.trans h.probes, g.flowSrc.trans h.flowSrc, fun a ha => (g.reg a ha).trans (h.reg a ha)⟩

theorem cond {c : Prop} [Decidable c] {a b : Node} (ha : FlowsKept n a) (hb : FlowsKept n b) : FlowsKept n (if c then a else b) := by
  split <;> assumption

theorem foldl {β : Type} (f : Node → β → Node) (h : ∀ n x, FlowsKept n (f n x)) (l : List β) (n : Node) : FlowsKept n (l.foldl f n) := by
  induction l generalizing n with
  | nil => exact refl n
  | cons x l ih => exact (h n x).trans (ih _)

theorem rd (h : FlowsKept n m) (f : Field) (hf : keptReg f.addr = false) : m.rd f = n.rd f := by rw [Node.rd, h.reg _ hf, Node.rd]

theorem outMsgs (h : FlowsKept n m) (f : Nat) : m.outMsgs f = n.outMsgs f := by rw [Node.outMsgs, h.out, Node.outMsgs]

theorem wr (n : Node) (f : Field) (v : Nat) (h : keptReg f.addr = true) : FlowsKept n (n.wr f v) :=
  ⟨rfl, rfl, rfl, rfl, fun a ha => n.wr_reg_ne f v a (by rintro rfl; simp [h] at ha)⟩

theorem memPut (n : Node) (a : Nat) (bs : List Byte) : FlowsKept n (n.memPut a bs) := ⟨rfl, rfl, rfl, rfl, fun _ _ => rfl⟩

theorem jchange (n : Node) (p : JPiece) (len : Nat) : FlowsKept n (n.jchange p len) := by
  refine ⟨?_, ?_, ?_, ?_, fun a ha => (Recorded.jchange n p len).reg a ?_⟩
  · rw [n.jchange_msg]
  · rw [n.jchange_msg]
  · rw [n.jchange_msg]
  · rw [n.jchange_msg]
  · exact recReg_of_keptReg ha

theorem mirrored (n : Node) (by_ : Initiator) (a v : Nat) (f : Node → Node) : FlowsKept (f n) (n.mirrored by_ a v f) := by
  have h := n.mirrored_linkOnly by_ a v f
  refine ⟨by rw [h.msg], by rw [h.msg], by rw [h.msg], by rw [h.msg], fun a' ha => (n.mirrored_recorded by_ a v f).reg a' ?_⟩
  exact recReg_of_keptReg ha

theorem setDq (n : Node) {q : Nat} (hq : q < 16) (l : List Desc) : FlowsKept n (n.setDq q l) := by
  have hk : keptReg (0x400280C0 + 4 * q) = true := by
    simp [keptReg]
    omega
  have hl : FlowsKept n { n with msg := { n.msg with queues := Tab.set (fun _ => []) n.msg.queues q l } } :=
    ⟨rfl, rfl, rfl, rfl, fun _ _ => rfl⟩
  exact (hl.trans (wr _ (MSG_DQ.DEPTH q) _ hk)).trans (wr _ (MSG_DQ.READ q) _ hk)

theorem enqueue (n : Node) {q : Nat} (hq : q < 16) (d : Desc) : FlowsKept n (n.enqueue q d) :=
  ((memPut n _ _).trans (setDq _ hq _)).trans (jchange _ _ _)

theorem report (n : Node) (f code seq : Nat) (late : Bool) (del kil : Nat) : FlowsKept n (n.report f code seq late del kil) := by
  have hq : n.rd (MSG_OFW0.RQ f) < 16 := bits_lt _ _ _
  unfold Node.report
  exact cond (enqueue n hq _) ⟨rfl, rfl, rfl, rfl, fun _ _ => rfl⟩

end FlowsKept

/-! ### The journal ring (R248 to R250) -/

/-- A ring record changes two registers: what QSPI_PER has been written, and the records counted. -/
theorem Node.ringRecord_reg (n : Node) (off : Nat) (data : List Byte) {a : Nat} (h1 : a ≠ (QSPI_KBWRITTEN.VALUE 1).addr)
    (h2 : a ≠ MSG_CNT_RINGREC.VALUE.addr) : (n.ringRecord off data).reg a = n.reg a :=
  (Node.wr_reg_ne _ _ _ _ h2).trans (Node.wr_reg_ne n _ _ _ h1)

theorem FlowsKept.ringRecord (n : Node) (off : Nat) (data : List Byte) : FlowsKept n (n.ringRecord off data) := by
  refine ⟨rfl, rfl, rfl, rfl, fun a ha => n.ringRecord_reg off data ?_ ?_⟩
  · rintro rfl
    exact absurd ha (by decide)
  · rintro rfl
    exact absurd ha (by decide)

/-- The ring records of a piece. -/
def Node.ringPiece (n : Node) (p : JPiece) : Node :=
  ((n.pieceBytes p).flatMap (fun b => cutData 3 b.1 b.2)).foldl (fun (n : Node) (b : Nat × List Byte) => n.ringRecord b.1 b.2) n

theorem Node.ringPiece_rd_delta (n : Node) (p : JPiece) : (n.ringPiece p).rd MSG_DELTA.VALUE = n.rd MSG_DELTA.VALUE := by
  refine List.foldlRecOn (motive := fun m : Node => m.rd MSG_DELTA.VALUE = n.rd MSG_DELTA.VALUE) _ _ rfl fun m hm b _ => ?_
  rw [← hm, Node.rd, m.ringRecord_reg b.1 b.2 (by decide) (by decide), Node.rd]

/-- The node with the oldest change `(p, len)` written to the ring, and `rest` left. -/
def Node.ringTake (n : Node) (p : JPiece) (len : Nat) (rest : List (JPiece × Nat)) : Node :=
  let m := n.ringPiece p
  ({ m with journal := { m.persist p with recSeq := m.msg.recSeq }, msg := { m.msg with changes := rest } } : Node).wr MSG_DELTA.VALUE
    (m.rd MSG_DELTA.VALUE - len)

/-- Is the persistent ring in use (R249, R271)? -/
abbrev Node.ringInUse (n : Node) : Prop := n.on MSG_CTRL.PERSIST = true ∧ n.on (QSPI_STATUS.READY 1) = true

theorem Node.ringWrite_cons {n : Node} {p : JPiece} {len : Nat} {rest : List (JPiece × Nat)} (hc : n.msg.changes = (p, len) :: rest)
    (hr : n.ringInUse) : n.ringWrite = n.ringTake p len rest := by
  rw [Node.ringWrite, hc]
  simp only [hr.1, hr.2]
  rfl

theorem Node.ringWrite_idle {n : Node} (h : n.msg.changes = [] ∨ ¬ n.ringInUse) : n.ringWrite = n := by
  rw [Node.ringWrite]
  split
  · rfl
  · rename_i hc
    rw [if_pos]
    simpa [hc, Node.ringInUse, or_iff_not_imp_left] using h

theorem FlowsKept.ringTake (n : Node) (p : JPiece) (len : Nat) (rest : List (JPiece × Nat)) : FlowsKept n (n.ringTake p len rest) := by
  have hp : FlowsKept n (n.ringPiece p) := by
    unfold Node.ringPiece
    refine foldl _ (fun m b => ?_) _ n
    exact ringRecord m b.1 b.2
  have hj : ∀ (m : Node) (j : JImage), FlowsKept m { m with journal := j, msg := { m.msg with changes := rest } } :=
    fun _ _ => ⟨rfl, rfl, rfl, rfl, fun _ _ => rfl⟩
  exact (hp.trans (hj _ _)).trans (wr _ _ _ (by decide))

theorem FlowsKept.ringWrite (n : Node) : FlowsKept n n.ringWrite := by
  by_cases h : n.msg.changes = [] ∨ ¬ n.ringInUse
  · rw [Node.ringWrite_idle h]
    exact refl n
  · rw [not_or, not_not] at h
    obtain ⟨⟨p, len⟩, rest, hc⟩ := List.exists_cons_of_ne_nil h.1
    rw [Node.ringWrite_cons hc h.2]
    exact ringTake n p len rest

/-- A change written to the ring leaves the unpersisted delta (R249). -/
theorem Node.ringTake_effect (n : Node) (p : JPiece) (len : Nat) (rest : List (JPiece × Nat)) :
    (n.ringTake p len rest).msg.changes = rest ∧ (n.ringTake p len rest).rd MSG_DELTA.VALUE = n.rd MSG_DELTA.VALUE - len
      ∧ (n.ringTake p len rest).journal.recSeq = (n.ringTake p len rest).msg.recSeq := by
  refine ⟨rfl, ?_, rfl⟩
  have hlt : n.rd MSG_DELTA.VALUE - len < 2 ^ MSG_DELTA.VALUE.width := (Nat.sub_le _ _).trans_lt (bits_lt _ _ _)
  rw [Node.ringTake, Node.rd_wr_same _ _ _ (by decide), Node.ringPiece_rd_delta, Nat.mod_eq_of_lt hlt]

/-! ### A flow's messages -/

theorem Node.rd_congr {n m : Node} (h : m.regs = n.regs) {g : Field} : m.rd g = n.rd g := by
  rw [Node.rd, Node.reg, h, Node.rd, Node.reg]

section
variable (n : Node) (f : Nat)

@[simp] theorem Node.wr_outMsgs (g : Field) (v : Nat) : (n.wr g v).outMsgs f = n.outMsgs f := rfl
@[simp] theorem Node.count_outMsgs (g : Field) : (n.count g).outMsgs f = n.outMsgs f := rfl
@[simp] theorem Node.memPut_outMsgs (a : Nat) (bs : List Byte) : (n.memPut a bs).outMsgs f = n.outMsgs f := rfl

@[simp] theorem Node.setOutMsgs_outMsgs (l : List OutMsg) : (n.setOutMsgs f l).outMsgs f = l := Tab.get_set_same _ _ _ _

@[simp] theorem Node.updOut_outMsgs (seq : Nat) (g : OutMsg → OutMsg) :
    (n.updOut f seq g).outMsgs f = (n.outMsgs f).map (fun m => if m.seq = seq then g m else m) := n.setOutMsgs_outMsgs _ _

theorem Node.setOutMsgs_msg (l : List OutMsg) : (n.setOutMsgs f l).msg = { n.msg with out := Tab.set (fun _ => []) n.msg.out f l } := rfl

/-- Beside the flow's messages, only the count of them changes. -/
theorem Node.setOutMsgs_rd (l : List OutMsg) {g : Field} (h : (MSG_OFW3.OUTSTANDING f).apart g = true) :
    (n.setOutMsgs f l).rd g = n.rd g := Node.rd_wr_ne _ _ _ _ (by decide : 0 + 7 ≤ 32) h

@[simp] theorem Node.jchange_outMsgs (p : JPiece) (len : Nat) : (n.jchange p len).outMsgs f = n.outMsgs f :=
  (FlowsKept.jchange n p len).outMsgs f

@[simp] theorem Node.jchange_accq (p : JPiece) (len : Nat) : (n.jchange p len).msg.accq = n.msg.accq := (FlowsKept.jchange n p len).accq

@[simp] theorem Node.mirrored_outMsgs (by_ : Initiator) (a v : Nat) (g : Node → Node) :
    (n.mirrored by_ a v g).outMsgs f = (g n).outMsgs f := by rw [Node.outMsgs, Node.mirrored_msg, Node.outMsgs]

@[simp] theorem Node.raise_outMsgs (e : Field) : (n.raise e).outMsgs f = n.outMsgs f := by
  rw [Node.outMsgs, (n.raise_recorded e).msg, Node.wrB, Node.wr_msg, Node.outMsgs]

@[simp] theorem Node.raiseIf_outMsgs (c : Bool) (e : Field) : (n.raiseIf c e).outMsgs f = n.outMsgs f := by
  cases c with
  | false => rfl
  | true => exact n.raise_outMsgs f e

theorem Node.rd_raiseIf (c : Bool) (e g : Field) (he : e.lo + e.width ≤ 32) (hg : recReg g.addr = false) (hd : e.apart g = true) :
    (n.raiseIf c e).rd g = n.rd g := by
  cases c with
  | false => rfl
  | true => exact n.rd_raise e g he hg hd

end

/-- A command whose meaning on the node is known answers that node. -/
theorem answers_onNode {c : Instr} {s : State} {f : Node → Node} {m : Node} (hr : s.node.running = true) (hc : exec c s = s.onNode f)
    (hf : f s.node = m) : Answers c s m := by
  rw [Answers, hc, State.onNode, State.always, Node.live, if_pos hr, hf]

/-! ### Opening flows (R236, R240) -/

/-- A masked write that has nothing to keep. -/
theorem masked_keep_none (v old mask : Word) : (v &&& mask &&& ~~~ (0 : Word)) ||| (old &&& 0) = v &&& mask := by
  change (v &&& mask &&& ~~~ 0#32) ||| (old &&& 0#32) = v &&& mask
  rw [BitVec.and_zero, BitVec.or_zero, BitVec.not_zero, BitVec.and_allOnes]

theorem Node.writeInFlow_reg {n : Node} {v : Word} (h : (n.inFlow (n.rd MSG_IFSEL.FLOW)).msgs = []) :
    (n.writeInFlow v).reg (MSG_IFW0.DQ (n.rd MSG_IFSEL.FLOW)).addr = v &&& 0x8000FF1F := by
  have hbound : (MSG_IFW0.DQ (n.rd MSG_IFSEL.FLOW)).addr ≠ (MSG_IFW4.BOUND (n.rd MSG_IFSEL.FLOW)).addr :=
    winAddr_ne (by decide) (by decide) (by decide)
  unfold Node.writeInFlow
  simp only [h, ne_eq, not_true_eq_false, decide_false, Bool.false_eq_true, if_false, masked_keep_none]
  refine ((Recorded.jchange _ _ _).reg _ (recReg_winAddr _ _)).trans ?_
  split
  · exact Node.setReg_reg_same _ _ _
  · exact (Node.wr_reg_ne _ _ _ _ hbound).trans (Node.setReg_reg_same _ _ _)

/-- A first opening gives the flow's record the node's own UID (R236). -/
theorem Node.writeOutFlow_effect {n : Node} {v : Word} {f : Nat} (hf : n.rd MSG_OFSEL.FLOW = f) (h : n.outMsgs f = []) :
    (n.writeOutFlow v).reg (MSG_OFW0.DKIND f).addr = v &&& 0x003FFF7F
      ∧ (v.toNat % 4 = 1 ∨ v.toNat % 4 = 2 → Tab.get (fun _ => 0) n.msg.flowSrc f = 0 →
          Tab.get (fun _ => 0) (n.writeOutFlow v).msg.flowSrc f = n.uid) := by
  have hkind : (n.setReg (MSG_OFW0.DKIND f).addr (v &&& 0x003FFF7F)).rd (MSG_OFW0.DKIND f) = v.toNat % 4 := by
    rw [Node.rd, Node.setReg_reg_same, BitVec.toNat_and]
    change (v.toNat &&& 0x003FFF7F) / 2 ^ 0 % 2 ^ 2 = _
    rw [pow_zero, Nat.div_one, Nat.and_mod_two_pow]
    exact (Nat.and_two_pow_sub_one_eq_mod _ 2).trans (Nat.mod_mod _ _)
  unfold Node.writeOutFlow
  simp only [hf, h, ne_eq, not_true_eq_false, decide_false, Bool.false_eq_true, if_false, masked_keep_none, hkind]
  constructor
  · split <;> exact ((Recorded.jchange _ _ _).reg _ (recReg_winAddr _ _)).trans (Node.setReg_reg_same _ _ _)
  · intro hk h0
    rw [if_pos (by simpa [h0] using hk), (FlowsKept.jchange _ _ _).flowSrc]
    exact Tab.get_set_same _ _ _ _

section
variable {s : State} {by_ : Initiator} {v : Word} (hr : s.node.running = true)
include hr

theorem flowOpen_inbound (h : (s.node.inFlow (s.node.rd MSG_IFSEL.FLOW)).msgs = []) : Does (.flowOpen by_ true v) s (fun m =>
    m.reg (MSG_IFW0.DQ (s.node.rd MSG_IFSEL.FLOW)).addr = v &&& 0x8000FF1F) := by
  refine does_onNode (f := fun n => n.mirrored by_ 0x40028084 v.toNat (fun n => n.writeInFlow v)) hr rfl ?_
  exact ((Node.mirrored_recorded _ _ _ _ _).reg _ (recReg_winAddr _ _)).trans (Node.writeInFlow_reg h)

theorem flowOpen_outbound {f : Nat} (hf : s.node.rd MSG_OFSEL.FLOW = f) (h : s.node.outMsgs f = []) :
    Does (.flowOpen by_ false v) s (fun m => m.reg (MSG_OFW0.DKIND f).addr = v &&& 0x003FFF7F
      ∧ (v.toNat % 4 = 1 ∨ v.toNat % 4 = 2 → Tab.get (fun _ => 0) s.node.msg.flowSrc f = 0 →
          Tab.get (fun _ => 0) m.msg.flowSrc f = s.node.uid)) := by
  obtain ⟨hreg, hsrc⟩ := Node.writeOutFlow_effect (v := v) hf h
  refine does_onNode (f := fun n => n.mirrored by_ 0x40028064 v.toNat (fun n => n.writeOutFlow v)) hr rfl ⟨?_, ?_⟩
  · exact ((Node.mirrored_recorded _ _ _ _ _).reg _ (recReg_winAddr _ _)).trans hreg
  · rw [Node.mirrored_msg]
    exact hsrc

end

/-! ### Submission from the host port (R242, R243, R278) -/

theorem seqAdd_lt (q k : Nat) : seqAdd q k < 4294967296 := by
  unfold seqAdd
  split <;> omega

theorem Node.storeAlloc_msg {n : Node} {k : Nat} {r : Nat × Node} (h : n.storeAlloc k = some r) :
    r.2.msg = { n.msg with used := r.2.msg.used } := by
  obtain ⟨b, -, rfl⟩ := Option.map_eq_some_iff.mp h
  rfl

section
variable {n : Node} {caller f addr len life expect : Nat}

/-- A submission that no code refuses finds room in the store. -/
theorem Node.storeAlloc_of_submitCode (h : n.submitCode caller f len life expect = 0) :
    ∃ r, n.storeAlloc (1 + (len + 63) / 64) = some r := by
  rw [← Option.isSome_iff_exists]
  by_contra hn
  have hnone : (n.storeAlloc (1 + (len + 63) / 64)).isNone = true := by simpa using hn
  unfold Node.submitCode at h
  simp only [hnone, if_true] at h
  split_ifs at h

theorem ite_le_of_le {c : Prop} [Decidable c] {a b k : Nat} (ha : a ≤ k) (hb : b ≤ k) : (if c then a else b) ≤ k := by
  split <;> assumption

theorem Node.submitCode_le (n : Node) (caller f len life expect : Nat) : n.submitCode caller f len life expect ≤ 9 := by
  unfold Node.submitCode
  iterate 9 refine ite_le_of_le (by decide) ?_
  exact Nat.zero_le 9

/-- A refused submission is counted, and the flow keeps its messages (R242). -/
theorem Node.submit_refused (h : n.submitCode caller f len life expect ≠ 0) :
    (n.submit caller f addr len life expect).1 = n.submitCode caller f len life expect
      ∧ (n.submit caller f addr len life expect).2.outMsgs f = n.outMsgs f
      ∧ Counted MSG_CNT_REFUSED.VALUE n (n.submit caller f addr len life expect).2 := by
  unfold Node.submit
  rw [if_pos h]
  refine ⟨rfl, by simp, ?_⟩
  rw [Counted, Node.rd_raiseIf _ _ _ _ (by decide) (by decide) (by decide), Node.rd_raiseIf _ _ _ _ (by decide) (by decide) (by decide),
    n.rd_count_same _ (by decide)]

end

/-- Message `x` put last in flow `f`, waiting for its acceptance; the flow's next sequence follows it. -/
def Node.putOut (n : Node) (f : Nat) (x : OutMsg) : Node :=
  let n := (n.setOutMsgs f (n.outMsgs f ++ [x])).wr (MSG_OFW4.NEXTSEQ f) (seqAdd x.seq 1)
  { n with msg := { n.msg with accq := n.msg.accq ++ [AccItem.outbound f x.seq] } }

section
variable (n : Node) (f : Nat) (x : OutMsg)

theorem Node.putOut_outMsgs : (n.putOut f x).outMsgs f = n.outMsgs f ++ [x] := by
  simp only [Node.putOut, Node.outMsgs, Node.wr_msg, Node.setOutMsgs_msg, Tab.get_set_same]

theorem Node.putOut_accq : (n.putOut f x).msg.accq = n.msg.accq ++ [AccItem.outbound f x.seq] := by
  simp only [Node.putOut, Node.wr_msg, Node.setOutMsgs_msg]

theorem Node.putOut_regs : (n.putOut f x).regs
    = ((n.setOutMsgs f (n.outMsgs f ++ [x])).wr (MSG_OFW4.NEXTSEQ f) (seqAdd x.seq 1)).regs := rfl

theorem Node.putOut_nextseq : (n.putOut f x).rd (MSG_OFW4.NEXTSEQ f) = seqAdd x.seq 1 := by
  rw [Node.rd_congr (n.putOut_regs f x), Node.rd_wr_same _ _ _ (by decide : 0 + 32 ≤ 32)]
  exact Nat.mod_eq_of_lt (seqAdd_lt _ _)

theorem Node.putOut_rd {g : Field} (h : g.addr < 4294967296) : (n.putOut f x).rd g = n.rd g := by
  have hnext : (MSG_OFW4.NEXTSEQ f).apart g = true := Field.apart_of_addr_ne (winAddr_ne_of_lt h)
  have hcount : (MSG_OFW3.OUTSTANDING f).apart g = true := Field.apart_of_addr_ne (winAddr_ne_of_lt h)
  rw [Node.rd_congr (n.putOut_regs f x), Node.rd_wr_ne _ _ _ _ (by decide : 0 + 32 ≤ 32) hnext, n.setOutMsgs_rd f _ hcount]

end

section
variable {n : Node} {caller f addr len life expect : Nat}

/-- A submission that no code refuses: the record, the body in the store, and the changes of JRNL. -/
theorem Node.submit_eq {b : Nat} {m : Node} (hc : n.submitCode caller f len life expect = 0)
    (ha : n.storeAlloc (1 + (len + 63) / 64) = some (b, m)) :
    ∃ (x : OutMsg) (p q : JPiece) (k l : Nat), x.seq = m.rd (MSG_OFW4.NEXTSEQ f) ∧ n.submit caller f addr len life expect
      = (0, ((((m.memPut (blockAddr b + 64) (m.memBytes addr len)).putOut f x).jchange p k).jchange q l).count MSG_CNT_SUBMIT.VALUE) := by
  rw [Node.submit]
  simp only [hc, ne_eq, not_true_eq_false, if_false, ha]
  exact ⟨_, _, _, _, _, rfl, rfl⟩

/-- A submission that no code refuses takes the flow's next sequence and waits for its acceptance (R242, R243). -/
theorem Node.submit_taken (hc : n.submitCode caller f len life expect = 0) :
    (n.submit caller f addr len life expect).1 = 0
      ∧ ((n.submit caller f addr len life expect).2.outMsgs f).map (·.seq) = (n.outMsgs f).map (·.seq) ++ [n.rd (MSG_OFW4.NEXTSEQ f)]
      ∧ (n.submit caller f addr len life expect).2.msg.accq = n.msg.accq ++ [AccItem.outbound f (n.rd (MSG_OFW4.NEXTSEQ f))]
      ∧ (n.submit caller f addr len life expect).2.rd (MSG_OFW4.NEXTSEQ f) = seqAdd (n.rd (MSG_OFW4.NEXTSEQ f)) 1
      ∧ Counted MSG_CNT_SUBMIT.VALUE n (n.submit caller f addr len life expect).2 := by
  obtain ⟨⟨b, m⟩, ha⟩ := Node.storeAlloc_of_submitCode hc
  obtain ⟨x, p, q, k, l, hx, heq⟩ := Node.submit_eq (addr := addr) hc ha
  have hrec : Recorded n m := Recorded.storeAlloc n _ _ ha
  have hmsg := Node.storeAlloc_msg ha
  have hout : m.outMsgs f = n.outMsgs f := by rw [Node.outMsgs, hmsg, Node.outMsgs]
  rw [hrec.rd (MSG_OFW4.NEXTSEQ f) (recReg_winAddr _ _)] at hx
  have hkept : ∀ y : Node, FlowsKept y ((y.jchange p k).jchange q l) := fun y => (FlowsKept.jchange y p k).trans (FlowsKept.jchange _ q l)
  have hwin : MSG_CNT_SUBMIT.VALUE.apart (MSG_OFW4.NEXTSEQ f) = true := Field.apart_window (by decide)
  rw [heq]
  dsimp only
  refine ⟨rfl, ?_, ?_, ?_, ?_⟩
  · rw [Node.count_outMsgs, (hkept _).outMsgs, Node.putOut_outMsgs, Node.memPut_outMsgs, hout, List.map_append, List.map_singleton, hx]
  · refine (hkept _).accq.trans ?_
    rw [Node.putOut_accq, Node.memPut_msg, hmsg, hx]
  · rw [Node.rd_count_ne _ _ _ (by decide) hwin, (hkept _).rd (MSG_OFW4.NEXTSEQ f) (keptReg_winAddr _ _), Node.putOut_nextseq, hx]
  · rw [Counted, Node.rd_count_same _ _ (by decide), (hkept _).rd _ (by decide), Node.putOut_rd _ _ _ (by decide), Node.memPut_rd,
      hrec.rd _ (by decide)]

end

/-- A result of the host port's request: its code and sequence (R278). -/
def Node.hostResult (n : Node) (code seq : Nat) : Node := (n.wr MSG_HRES.CODE code).wr MSG_HSEQ.SEQ seq

section
variable (n : Node) (seq : Nat)

theorem Node.hostResult_code {code : Nat} (h : code < 16) : (n.hostResult code seq).rd MSG_HRES.CODE = code :=
  (Node.rd_wr_ne _ _ _ _ (by decide) (by decide)).trans ((n.rd_wr_same _ _ (by decide)).trans (Nat.mod_eq_of_lt h))

theorem Node.hostResult_seq {code : Nat} (h : seq < 4294967296) : (n.hostResult code seq).rd MSG_HSEQ.SEQ = seq :=
  (Node.rd_wr_same _ _ _ (by decide)).trans (Nat.mod_eq_of_lt h)

theorem Node.hostResult_rd (code : Nat) {g : Field} (h1 : MSG_HRES.CODE.apart g = true) (h2 : MSG_HSEQ.SEQ.apart g = true) :
    (n.hostResult code seq).rd g = n.rd g := (Node.rd_wr_ne _ _ _ _ (by decide) h2).trans (n.rd_wr_ne _ _ _ (by decide) h1)

end

/-- A mirrored command does what holds wherever the flows are as its own effect leaves them. -/
theorem does_mirrored {c : Instr} {s : State} {by_ : Initiator} {a v : Nat} {f : Node → Node} {P : Node → Prop}
    (hr : s.node.running = true) (hc : exec c s = s.onNode (fun n => n.mirrored by_ a v f)) (hp : ∀ m, FlowsKept (f s.node) m → P m) :
    Does c s P :=
  does_onNode hr hc (hp _ (FlowsKept.mirrored s.node by_ a v f))

section
variable {s : State} {by_ : Initiator} {v : Word} {f : Nat} (hr : s.node.running = true)
include hr

theorem hostSubmit_taken (hf : s.node.rd MSG_HPUT0.FLOW = f)
    (hc : s.node.submitCode 8 f (s.node.rd MSG_HPUT0.LENGTH) (s.node.rd MSG_HPUT2.LIFETIME) v.toNat = 0) :
    Does (.hostSubmit by_ v) s (fun m => m.rd MSG_HRES.CODE = 0 ∧ m.rd MSG_HSEQ.SEQ = s.node.rd (MSG_OFW4.NEXTSEQ f)
      ∧ (m.outMsgs f).map (·.seq) = (s.node.outMsgs f).map (·.seq) ++ [s.node.rd (MSG_OFW4.NEXTSEQ f)]
      ∧ m.msg.accq = s.node.msg.accq ++ [AccItem.outbound f (s.node.rd (MSG_OFW4.NEXTSEQ f))]
      ∧ m.rd (MSG_OFW4.NEXTSEQ f) = seqAdd (s.node.rd (MSG_OFW4.NEXTSEQ f)) 1 ∧ Counted MSG_CNT_SUBMIT.VALUE s.node m) := by
  obtain ⟨hcode, hout, haccq, hnext, hcnt⟩ := Node.submit_taken (addr := s.node.rd MSG_HPUT1.ADDR) hc
  have hput : s.node.hostPut v = (s.node.submit 8 f (s.node.rd MSG_HPUT1.ADDR) (s.node.rd MSG_HPUT0.LENGTH)
      (s.node.rd MSG_HPUT2.LIFETIME) v.toNat).2.hostResult 0 (s.node.rd (MSG_OFW4.NEXTSEQ f)) := by
    rw [Node.hostPut, hf, Node.hostResult]
    simp only [hcode, if_true]
  refine does_mirrored (f := (·.hostPut v)) hr rfl fun m hm => ?_
  rw [hput] at hm
  refine ⟨?_, ?_, ?_, ?_, ?_, ?_⟩
  · rw [hm.rd _ (by decide), Node.hostResult_code _ _ (by decide)]
  · rw [hm.rd _ (by decide), Node.hostResult_seq _ _ (bits_lt _ _ _)]
  · rw [hm.outMsgs]
    exact hout
  · rw [hm.accq]
    exact haccq
  · rw [hm.rd (MSG_OFW4.NEXTSEQ f) (keptReg_winAddr _ _)]
    exact (Node.hostResult_rd _ _ _ (Field.apart_window (by decide)) (Field.apart_window (by decide))).trans hnext
  · rw [Counted, hm.rd _ (by decide), Node.hostResult_rd _ _ _ (by decide) (by decide)]
    exact hcnt

theorem hostSubmit_refused (hf : s.node.rd MSG_HPUT0.FLOW = f)
    (hc : s.node.submitCode 8 f (s.node.rd MSG_HPUT0.LENGTH) (s.node.rd MSG_HPUT2.LIFETIME) v.toNat ≠ 0) :
    Does (.hostSubmit by_ v) s (fun m =>
      m.rd MSG_HRES.CODE = s.node.submitCode 8 f (s.node.rd MSG_HPUT0.LENGTH) (s.node.rd MSG_HPUT2.LIFETIME) v.toNat
      ∧ m.outMsgs f = s.node.outMsgs f ∧ Counted MSG_CNT_REFUSED.VALUE s.node m) := by
  obtain ⟨hcode, hout, hcnt⟩ := Node.submit_refused (addr := s.node.rd MSG_HPUT1.ADDR) hc
  have hle := s.node.submitCode_le 8 f (s.node.rd MSG_HPUT0.LENGTH) (s.node.rd MSG_HPUT2.LIFETIME) v.toNat
  have hput : s.node.hostPut v = (s.node.submit 8 f (s.node.rd MSG_HPUT1.ADDR) (s.node.rd MSG_HPUT0.LENGTH)
      (s.node.rd MSG_HPUT2.LIFETIME) v.toNat).2.hostResult
      (s.node.submitCode 8 f (s.node.rd MSG_HPUT0.LENGTH) (s.node.rd MSG_HPUT2.LIFETIME) v.toNat) 0 := by
    rw [Node.hostPut, hf, Node.hostResult]
    simp only [hcode, if_neg hc]
  refine does_mirrored (f := (·.hostPut v)) hr rfl fun m hm => ?_
  rw [hput] at hm
  refine ⟨?_, ?_, ?_⟩
  · rw [hm.rd _ (by decide), Node.hostResult_code _ _ (by omega)]
  · rw [hm.outMsgs]
    exact hout
  · rw [Counted, hm.rd _ (by decide), Node.hostResult_rd _ _ _ (by decide) (by decide)]
    exact hcnt

end

/-! ### Acceptance (R33, R34, R243, R245, R250) -/

section
variable {n : Node} {f seq : Nat} {rest : List AccItem}

theorem Node.acceptNext_idle (h : n.msg.accq = [] ∨ n.msg.heldAcc = true) : n.acceptNext = n := by
  rw [Node.acceptNext]
  split
  · rfl
  · rename_i hq
    exact if_pos (by simpa [hq] using Or.inl (Or.inl h))

theorem Node.acceptNext_no_mode (hq : n.msg.accq = .outbound f seq :: rest) (hm : n.acceptMode = 0) : n.acceptNext = n := by
  rw [Node.acceptNext, hq]
  simp [Node.itemMode, hm]

/-- The oldest submission leaves the queue, is accepted, and in solo mode the ring takes every change. -/
theorem Node.acceptNext_flowsKept (hq : n.msg.accq = .outbound f seq :: rest) (hh : n.msg.heldAcc = false)
    (hm : n.acceptMode = 2 ∨ (n.acceptMode = 1 ∧ n.jrnlWaits = false)) :
    FlowsKept (({ n with msg := { n.msg with accq := rest } } : Node).acceptOut f seq) n.acceptNext := by
  have hgo : ¬ (n.msg.heldAcc || decide (n.itemMode (.outbound f seq) = 0)
      || (decide (n.itemMode (.outbound f seq) = 1) && n.jrnlWaits)) = true := by
    rcases hm with hm | ⟨hm, hw⟩
    · simp [Node.itemMode, hh, hm]
    · simp [Node.itemMode, hh, hm, hw]
  rw [Node.acceptNext, hq]
  dsimp only
  rw [if_neg hgo]
  split
  · exact FlowsKept.foldl _ (fun m _ => FlowsKept.ringWrite m) _ _
  · exact FlowsKept.refl _

end

/-- Message `seq` of flow `f` marked accepted, as the next in the node's order of acceptance. -/
def Node.markAccepted (n : Node) (f seq : Nat) : Node :=
  ({ n with msg := { n.msg with order := n.msg.order + 1 } } : Node).updOut f seq (fun m => { m with
    accepted := true, order := n.msg.order, expire := if m.life = 0 then none else some (n.now + m.life * 1000000) })

section
variable (n : Node) (f seq : Nat)

theorem Node.markAccepted_accepted : ((n.markAccepted f seq).outMsgs f).map (fun y => (y.seq, y.accepted))
    = (n.outMsgs f).map (fun y => (y.seq, y.accepted || decide (y.seq = seq))) := by
  rw [Node.markAccepted, Node.updOut_outMsgs, List.map_map]
  refine List.map_congr_left fun y _ => ?_
  by_cases hy : y.seq = seq <;> simp [hy]

theorem Node.markAccepted_rd {g : Field} (h : g.addr < 4294967296) : (n.markAccepted f seq).rd g = n.rd g :=
  Node.setOutMsgs_rd _ _ _ (Field.apart_of_addr_ne (winAddr_ne_of_lt h))

/-- Acceptance is the mark, ACCSEQ and the count; then JRNL and, where asked for, a report (R243, R265). -/
theorem Node.acceptOut_flowsKept : FlowsKept (((n.markAccepted f seq).wr (MSG_OFW5.ACCSEQ f) seq).count MSG_CNT_ACCEPT.VALUE)
    (n.acceptOut f seq) :=
  (FlowsKept.jchange _ _ _).trans (FlowsKept.cond (FlowsKept.report _ _ _ _ _ _ _) (FlowsKept.refl _))

theorem Node.acceptOut_accq : (n.acceptOut f seq).msg.accq = n.msg.accq := (n.acceptOut_flowsKept f seq).accq

theorem Node.acceptOut_accepted : ((n.acceptOut f seq).outMsgs f).map (fun y => (y.seq, y.accepted))
    = (n.outMsgs f).map (fun y => (y.seq, y.accepted || decide (y.seq = seq))) := by
  rw [(n.acceptOut_flowsKept f seq).outMsgs, Node.count_outMsgs, Node.wr_outMsgs, Node.markAccepted_accepted]

theorem Node.acceptOut_counts : Counted MSG_CNT_ACCEPT.VALUE n (n.acceptOut f seq) := by
  have hacc : (MSG_OFW5.ACCSEQ f).apart MSG_CNT_ACCEPT.VALUE = true := Field.apart_of_addr_ne (winAddr_ne_of_lt (by decide))
  rw [Counted, (n.acceptOut_flowsKept f seq).rd _ (by decide), Node.rd_count_same _ _ (by decide),
    Node.rd_wr_ne _ _ _ _ (by decide : 0 + 32 ≤ 32) hacc, Node.markAccepted_rd _ _ _ (by decide)]

theorem Node.acceptOut_accseq (h : seq < 4294967296) : (n.acceptOut f seq).rd (MSG_OFW5.ACCSEQ f) = seq := by
  have hcnt : MSG_CNT_ACCEPT.VALUE.apart (MSG_OFW5.ACCSEQ f) = true := Field.apart_window (by decide)
  rw [(n.acceptOut_flowsKept f seq).rd (MSG_OFW5.ACCSEQ f) (keptReg_winAddr _ _), Node.rd_count_ne _ _ _ (by decide) hcnt,
    Node.rd_wr_same _ _ _ (by decide : 0 + 32 ≤ 32)]
  exact Nat.mod_eq_of_lt h

end

section
variable {s : State} {f seq : Nat} {rest : List AccItem} (hr : s.node.running = true)
include hr

theorem acceptance_outbound (hq : s.node.msg.accq = .outbound f seq :: rest) (hh : s.node.msg.heldAcc = false)
    (hm : s.node.acceptMode = 2 ∨ (s.node.acceptMode = 1 ∧ s.node.jrnlWaits = false)) (hs : seq < 4294967296) :
    Does .acceptance s (fun m => m.msg.accq = rest ∧ m.rd (MSG_OFW5.ACCSEQ f) = seq ∧ Counted MSG_CNT_ACCEPT.VALUE s.node m
      ∧ (m.outMsgs f).map (fun y => (y.seq, y.accepted)) = (s.node.outMsgs f).map (fun y => (y.seq, y.accepted || decide (y.seq = seq)))) := by
  have h := Node.acceptNext_flowsKept hq hh hm
  refine does_onNode (f := (·.acceptNext)) hr rfl ⟨?_, ?_, ?_, ?_⟩
  · rw [h.accq, Node.acceptOut_accq]
  · rw [h.rd (MSG_OFW5.ACCSEQ f) (keptReg_winAddr _ _), Node.acceptOut_accseq _ _ _ hs]
  · rw [Counted, h.rd _ (by decide)]
    exact Node.acceptOut_counts _ f seq
  · rw [h.outMsgs, Node.acceptOut_accepted]
    rfl

end

/-! ### The host's queue (R260, R278) -/

/-- The element at `r` replaced by what `g` makes of it. -/
theorem getElem?_mapAt {α : Type} (l : List α) (g : α → α) {r : Nat} (h : r < l.length) :
    (l.take r ++ ((l.drop r).take 1).map g ++ l.drop (r + 1))[r]? = l[r]?.map g := by
  have hlen : (l.take r).length = r := by rw [List.length_take, Nat.min_eq_left h.le]
  have hone : (l.drop r).take 1 = [l[r]] := by rw [List.drop_eq_getElem_cons h, List.take_succ_cons, List.take_zero]
  rw [hone, List.append_assoc, List.getElem?_append_right hlen.le, hlen]
  simp [List.getElem?_eq_getElem h]

section
variable {n : Node} {q : Nat}

theorem Node.setDq_dq (n : Node) (q : Nat) (l : List Desc) : (n.setDq q l).dq q = l := by
  simp only [Node.setDq, Node.dq, Node.wr_msg, Tab.get_set_same]

/-- The next unread descriptor of a queue is marked read, and its address answered (R260). -/
theorem Node.readDesc_next (h1 : ((n.dq q).filter (·.read)).length < 16) (h2 : ((n.dq q).filter (·.read)).length < (n.dq q).length) :
    (n.readDesc q).1 = dqAddr q (Tab.get (fun _ => 0) n.msg.qHead q + ((n.dq q).filter (·.read)).length)
      ∧ ((n.readDesc q).2.dq q)[((n.dq q).filter (·.read)).length]?
        = (n.dq q)[((n.dq q).filter (·.read)).length]?.map (fun d => { d with read := true }) := by
  unfold Node.readDesc
  rw [if_neg (by rw [Bool.or_eq_true, decide_eq_true_iff, decide_eq_true_iff]; omega)]
  exact ⟨rfl, by rw [Node.setDq_dq, getElem?_mapAt _ _ h2]⟩

theorem Node.readDesc_none (h : 16 ≤ ((n.dq q).filter (·.read)).length ∨ (n.dq q).length ≤ ((n.dq q).filter (·.read)).length) :
    n.readDesc q = (0, n) := by
  unfold Node.readDesc
  exact if_pos (by simpa using h)

end

section
variable {s : State} {by_ : Initiator} {q : Nat} (hr : s.node.running = true) (hq : s.node.rd MSG_HQ.QUEUE = q)
include hr hq

theorem msgHget_next (ho : s.node.rd (MSG_DQ.OWNER q) = 8) (h1 : ((s.node.dq q).filter (·.read)).length < 16)
    (h2 : ((s.node.dq q).filter (·.read)).length < (s.node.dq q).length) : Does (.msgHget by_) s (fun m =>
      m.rd MSG_HGET.DESC = dqAddr q (Tab.get (fun _ => 0) s.node.msg.qHead q + ((s.node.dq q).filter (·.read)).length) % 4294967296
      ∧ (m.dq q)[((s.node.dq q).filter (·.read)).length]?
        = (s.node.dq q)[((s.node.dq q).filter (·.read)).length]?.map (fun d => { d with read := true })) := by
  have hget : s.node.hostGet = s.node.readDesc q := by rw [Node.hostGet, hq, if_pos ho]
  obtain ⟨haddr, hread⟩ := Node.readDesc_next h1 h2
  refine does_onNode (f := fun n => n.hostGet.2.wr MSG_HGET.DESC n.hostGet.1) hr rfl ?_
  rw [hget, Node.rd_wr_same _ _ _ (by decide), haddr]
  exact ⟨rfl, hread⟩

theorem msgHget_none (h : s.node.rd (MSG_DQ.OWNER q) ≠ 8 ∨ 16 ≤ ((s.node.dq q).filter (·.read)).length
    ∨ (s.node.dq q).length ≤ ((s.node.dq q).filter (·.read)).length) : Answers (.msgHget by_) s (s.node.wr MSG_HGET.DESC 0) := by
  have hget : s.node.hostGet = (0, s.node) := by
    rw [Node.hostGet, hq]
    by_cases ho : s.node.rd (MSG_DQ.OWNER q) = 8
    · rw [if_pos ho, Node.readDesc_none (h.resolve_left (not_not.mpr ho))]
    · rw [if_neg ho]
  exact answers_onNode (f := fun n => n.hostGet.2.wr MSG_HGET.DESC n.hostGet.1) hr rfl (by rw [hget])

theorem msgHack_waits (ho : s.node.rd (MSG_DQ.OWNER q) = 8) (hm : s.node.acceptMode ≠ 0) (hread : 0 < s.node.rd (MSG_DQ.READ q)) :
    Does (.msgHack by_) s (fun m => m.msg.accq = s.node.msg.accq ++ [.hostAck q] ∧ m.dq q = s.node.dq q) := by
  have hack : s.node.hostAckWrite = { s.node with msg := { s.node.msg with accq := s.node.msg.accq ++ [AccItem.hostAck q] } } := by
    rw [Node.hostAckWrite, hq]
    exact if_pos (by simp [ho, hm, hread])
  refine does_onNode (f := fun n => n.mirrored by_ MSG_HACK.ACK.addr 1 (·.hostAckWrite)) hr rfl ?_
  rw [Node.dq, Node.mirrored_msg, hack]
  exact ⟨rfl, rfl⟩

end

/-! ### Withdrawal and lifetime (R262, R263, R278) -/

theorem covers_zero {b : Nat} (h : b ≠ 0) : covers 0 b = false := by simp [covers, h.symm]

/-- Message `seq` of flow `f` is killed for cause `c`: by a probe to every destination that does not hold it. -/
def KillStarts (n : Node) (f seq : Nat) (c : KillCause) (m : Node) : Prop :=
  m.msg.probes = n.msg.probes ++ [(f, seq, true)] ∧ m.outMsgs f
    = (n.outMsgs f).map (fun y => if y.seq = seq then { y with cause := some c, killing := true, lastProbe := n.cycle } else y)

/-- The accepted message `seq` of flow `f` that has no final report yet. -/
abbrev Node.findOut (n : Node) (f seq : Nat) : Option OutMsg :=
  (n.outMsgs f).find? (fun m => m.seq = seq && m.accepted && !m.reported)

/-- A message that has been sent, is held by no destination of `all` and is not being killed. -/
abbrev OutMsg.fresh (x : OutMsg) (all : Nat) : Prop :=
  x.killing = false ∧ x.transmitted = true ∧ x.held = 0 ∧ x.delivered = 0 ∧ all ≠ 0

/-- Flow `f` is open and the host port's. -/
abbrev Node.hostFlow (n : Node) (f : Nat) : Prop :=
  n.rd (MSG_OFW0.OWNER f) = 8 ∧ (n.rd (MSG_OFW0.DKIND f) = 1 ∨ n.rd (MSG_OFW0.DKIND f) = 2)

section
variable {n : Node} {f seq : Nat} {x : OutMsg}

theorem Node.findOut_seq (h : n.findOut f seq = some x) : x.seq = seq := by
  obtain ⟨⟨hseq, -⟩, -⟩ : (x.seq = seq ∧ x.accepted = true) ∧ x.reported = false := by simpa using List.find?_some h
  exact hseq

/-- A message that has been sent is killed by a probe (R263). -/
theorem Node.startKill_starts (ht : x.transmitted = true) (hs : x.seq = seq) (c : KillCause) : KillStarts n f seq c (n.startKill f x c) := by
  subst hs
  unfold Node.startKill
  rw [if_neg (by simp [ht])]
  exact ⟨(FlowsKept.jchange _ _ _).probes, by rw [Node.jchange_outMsgs, Node.updOut_outMsgs]; rfl⟩

theorem Node.withdraw_unknown (ho : n.hostFlow f) (h : n.findOut f seq = none) : n.withdraw 8 f seq = (10, n) := by
  obtain ⟨howner, hkind⟩ := ho
  unfold Node.findOut at h
  unfold Node.withdraw
  rw [if_neg (by simpa [howner] using or_iff_not_imp_left.mp hkind), h]

theorem Node.withdraw_fresh (ho : n.hostFlow f) (h : n.findOut f seq = some x) (hf : x.fresh (memberBits (n.members f))) :
    n.withdraw 8 f seq = (0, n.startKill f x .withdrawn) := by
  obtain ⟨howner, hkind⟩ := ho
  obtain ⟨hkill, -, hheld, hdel, hall⟩ := hf
  unfold Node.findOut at h
  unfold Node.withdraw
  rw [if_neg (by simpa [howner] using or_iff_not_imp_left.mp hkind), h]
  simp [hkill, hheld, hdel, covers_zero hall]

theorem Node.expireMsg_unknown (h : n.findOut f seq = none) : n.expireMsg f seq = n := by
  have hnone : (n.outMsgs f).find? (fun m => m.seq = seq && m.accepted && !m.reported && m.life ≠ 0) = none := by
    rw [List.find?_eq_none] at h ⊢
    intro y hy hp
    rw [Bool.and_eq_true] at hp
    exact h y hy hp.1
  rw [Node.expireMsg, hnone]

/-- A message whose lifetime expires is killed as expired (R262, R263). -/
theorem Node.expireMsg_starts (hx : (n.outMsgs f).find? (fun m => m.seq = seq && m.accepted && !m.reported && decide (m.life ≠ 0)) = some x)
    (hf : x.fresh (memberBits (n.members f))) : KillStarts n f seq .expired (n.expireMsg f seq) := by
  obtain ⟨hkill, hsent, hheld, hdel, hall⟩ := hf
  obtain ⟨⟨⟨hseq, -⟩, -⟩, -⟩ : ((x.seq = seq ∧ x.accepted = true) ∧ x.reported = false) ∧ x.life ≠ 0 := by
    simpa using List.find?_some hx
  rw [Node.expireMsg, hx]
  dsimp only
  rw [if_neg (by rw [hkill, hheld, hdel, Nat.or_zero, covers_zero hall]; decide)]
  exact Node.startKill_starts hsent hseq .expired

end

section
variable {s : State} {by_ : Initiator} {v : Word} {f : Nat} {x : OutMsg} (hr : s.node.running = true)
  (hf : s.node.rd MSG_HWDR0.FLOW = f) (ho : s.node.hostFlow f)
include hr hf ho

theorem msgHwdr_unknown (h : s.node.findOut f v.toNat = none) : Does (.msgHwdr by_ v) s (fun m =>
    m.rd MSG_HRES.CODE = 10 ∧ m.rd MSG_HSEQ.SEQ = v.toNat ∧ m.msg.out = s.node.msg.out) := by
  have hw : s.node.hostWithdraw v = s.node.hostResult 10 v.toNat := by
    rw [Node.hostWithdraw, hf, Node.withdraw_unknown ho h, Node.hostResult]
  refine does_mirrored (f := (·.hostWithdraw v)) hr rfl fun m hm => ?_
  rw [hw] at hm
  exact ⟨by rw [hm.rd _ (by decide), Node.hostResult_code _ _ (by decide)],
    by rw [hm.rd _ (by decide), Node.hostResult_seq _ _ v.isLt], hm.out⟩

theorem msgHwdr_fresh (h : s.node.findOut f v.toNat = some x) (hx : x.fresh (memberBits (s.node.members f))) :
    Does (.msgHwdr by_ v) s (fun m => m.rd MSG_HRES.CODE = 0 ∧ m.rd MSG_HSEQ.SEQ = v.toNat ∧ KillStarts s.node f v.toNat .withdrawn m) := by
  have hw : s.node.hostWithdraw v = (s.node.startKill f x .withdrawn).hostResult 0 v.toNat := by
    rw [Node.hostWithdraw, hf, Node.withdraw_fresh ho h hx, Node.hostResult]
  obtain ⟨hprobes, hout⟩ := Node.startKill_starts (n := s.node) (f := f) hx.2.1 (Node.findOut_seq h) .withdrawn
  refine does_mirrored (f := (·.hostWithdraw v)) hr rfl fun m hm => ?_
  rw [hw] at hm
  exact ⟨by rw [hm.rd _ (by decide), Node.hostResult_code _ _ (by decide)],
    by rw [hm.rd _ (by decide), Node.hostResult_seq _ _ v.isLt], hm.probes.trans hprobes, (hm.outMsgs f).trans hout⟩

end

/-! ### Retransmission and probes (R254, R256, R263) -/

section
variable {s : State} {v : Word} {flow : Fin 256} {x : OutMsg} (hr : s.node.running = true)
include hr

theorem retransmitTimeout_unknown (h : s.node.findOut flow v.toNat = none) : Answers (.retransmitTimeout flow v) s s.node := by
  unfold Node.findOut at h
  refine answers_same hr rfl ?_
  dsimp only
  rw [h]

/-- A message that no destination holds is sent again, unless it is being killed: then its probe goes again. -/
theorem retransmitTimeout_found (h : s.node.findOut flow v.toNat = some x) (hreach : x.held ||| x.delivered ||| x.killed = 0)
    (hall : memberBits (s.node.members flow) ≠ 0) (ht : x.transmitted = true) :
    (x.killing = false → Does (.retransmitTimeout flow v) s (fun m => m.outMsgs flow
        = (s.node.outMsgs flow).map (fun y => if y.seq = v.toNat then { y with sentOff := 0, retx := true } else y)))
    ∧ (x.killing = true → Does (.retransmitTimeout flow v) s (fun m => m.outMsgs flow
        = (s.node.outMsgs flow).map (fun y => if y.seq = v.toNat then { y with lastProbe := s.node.cycle } else y)
        ∧ m.msg.probes = s.node.msg.probes ++ [(flow.val, v.toNat, true)])) := by
  have hseq := Node.findOut_seq h
  unfold Node.findOut at h
  have hcov : ¬ covers (x.held ||| x.delivered ||| x.killed) (memberBits (s.node.members flow)) = true := by
    rw [hreach, covers_zero hall]
    decide
  constructor
  · intro hk
    refine does_onNode hr rfl ?_
    simp only [h, hcov, hk, ht, hseq, if_true, Bool.false_eq_true, if_false]
    exact Node.updOut_outMsgs _ _ _ _
  · intro hk
    refine does_onNode hr rfl ?_
    simp only [h, hcov, hk, hseq, if_true, Bool.false_eq_true, if_false]
    exact ⟨Node.updOut_outMsgs _ _ _ _, rfl⟩

theorem probeTimer_one (h : s.node.outMsgs flow = [x]) (ha : x.accepted = true) (hrep : x.reported = false) :
    (covers (x.held ||| x.delivered ||| x.killed) (memberBits (s.node.members flow)) = true → Answers (.probeTimer flow) s
        { s.node with msg := { s.node.msg with probes := s.node.msg.probes ++ [(flow.val, x.seq, false)] } })
    ∧ (covers (x.held ||| x.delivered ||| x.killed) (memberBits (s.node.members flow)) = false →
        Answers (.probeTimer flow) s s.node) := by
  have hold : s.node.oldestSeq flow = x.seq := by simp [Node.oldestSeq, h, ha, hrep]
  have hlist : (s.node.outMsgs flow).filter (fun m => m.accepted && !m.reported) = [x] := by simp [h, ha, hrep]
  constructor
  · intro hc
    refine answers_onNode hr rfl ?_
    simp [hlist, hold, hc]
  · intro hc
    refine answers_same hr rfl ?_
    simp [hlist, hc]

/-! ### Lifetimes in JRNL, orphans (R262, R266) -/

theorem lifetimePersist_one {t : Nat} (h : s.node.msg.out = [(flow.val, [x])]) (ha : x.accepted = true) (hrep : x.reported = false)
    (hl : x.life ≠ 0) (he : x.expire = some t) : Does .lifetimePersist s (fun m =>
      m.outMsgs flow = [{ x with life := max 1 ((t - s.node.now) / 1000000) }]) := by
  have hlist : s.node.outMsgs flow = [x] := by simp [Node.outMsgs, h, Tab.get]
  have hone : s.node.msg.out.filter (fun p => p.2.any (fun m => m.accepted && !m.reported && m.life ≠ 0)) = [(flow.val, [x])] := by
    simp [h, ha, hrep, hl]
  refine does_onNode hr rfl ?_
  rw [hone, List.foldl_cons, List.foldl_nil, Node.jchange_outMsgs, Node.setOutMsgs_outMsgs, hlist, List.map_singleton, he]

theorem orphanTimeout_gone (h : (s.node.outMsgs flow).find? (fun m => m.seq = v.toNat && m.killing && !m.unresolved && !m.reported) = some x)
    (hheld : x.held = 0) (hdel : x.delivered = 0) (hkilled : x.killed = 0) (hm : s.node.members flow ≠ [])
    (hgone : ∀ d, d ∈ s.node.members flow → s.node.uidPresent d.2 = false) : Does (.orphanTimeout flow v) s (fun m =>
      m.on (MSG_OFW3.UNRESOLVED flow) = true ∧ m.on MSG_EVT.UNRESOLVED = true
      ∧ m.outMsgs flow = (s.node.outMsgs flow).map (fun y => if y.seq = v.toNat then { y with unresolved := true } else y)) := by
  obtain ⟨⟨⟨hseq, -⟩, -⟩, -⟩ : ((x.seq = v.toNat ∧ x.killing = true) ∧ x.unresolved = false) ∧ x.reported = false := by
    simpa using List.find?_some h
  have hany : (s.node.members flow).any (fun p => !bit (x.held ||| x.delivered ||| x.killed) p.1 && !s.node.uidPresent p.2) = true := by
    obtain ⟨d, hd⟩ := List.exists_mem_of_ne_nil _ hm
    exact List.any_eq_true.mpr ⟨d, hd, by simp [hheld, hdel, hkilled, bit, hgone d hd]⟩
  refine does_onNode hr rfl ?_
  simp only [h, hany, if_true, hseq]
  refine ⟨?_, Node.on_raise_same _ _ (by decide) rfl (by decide), ?_⟩
  · have hevt : MSG_EVT.UNRESOLVED.apart (MSG_OFW3.UNRESOLVED flow) = true := Field.apart_window (by decide)
    rw [Node.on_raise_ne _ _ (MSG_OFW3.UNRESOLVED flow) (by decide) (recReg_winAddr _ _) hevt, Node.on,
      (FlowsKept.report _ _ _ _ _ _ _).rd (MSG_OFW3.UNRESOLVED flow) (keptReg_winAddr _ _), Node.rd_wr_same _ _ _ (by decide : 11 + 1 ≤ 32)]
    rfl
  · rw [Node.raise_outMsgs, (FlowsKept.report _ _ _ _ _ _ _).outMsgs, Node.wr_outMsgs, Node.updOut_outMsgs]

end

/-! ### The ring at work, and what a restart takes from it (R249, R250, R263, R268) -/

/-- Every message of every flow is accepted and counts as transmitted. -/
def AllSent (n : Node) : Prop := ∀ k y, y ∈ n.outMsgs k → y.accepted = true ∧ y.transmitted = true

theorem AllSent.congr {n m : Node} (h : AllSent n) (hm : m.msg.out = n.msg.out) : AllSent m := fun k y hy =>
  h k y (by rwa [Node.outMsgs, hm] at hy)

theorem Node.setOutMsgs_outMsgs_ne (n : Node) {f k : Nat} (l : List OutMsg) (h : k ≠ f) : (n.setOutMsgs f l).outMsgs k = n.outMsgs k :=
  Tab.get_set_ne _ _ _ _ _ h

theorem AllSent.setOutMsgs {n : Node} (h : AllSent n) (f now : Nat) (l : List OutMsg) : AllSent (n.setOutMsgs f (restoreOut now l)) := by
  intro k y hy
  by_cases hk : k = f
  · subst hk
    rw [Node.setOutMsgs_outMsgs] at hy
    obtain ⟨x, hx, rfl⟩ := List.mem_map.mp hy
    exact ⟨(List.mem_filter.mp hx).2, rfl⟩
  · exact h k y (by rwa [Node.setOutMsgs_outMsgs_ne _ _ hk] at hy)

/-- Steps that each keep the outbound flows keep them together. -/
theorem foldl_out {β : Type} (f : Node → β → Node) (h : ∀ n x, (f n x).msg.out = n.msg.out) (l : List β) (n : Node) :
    (l.foldl f n).msg.out = n.msg.out :=
  List.foldlRecOn (motive := fun m : Node => m.msg.out = n.msg.out) l f rfl fun m hm x _ => (h m x).trans hm

theorem restoreRegs_out (first : Nat) (n : Node) (p : Nat × List Word) : (restoreRegs first n p).msg.out = n.msg.out := by
  unfold restoreRegs
  refine foldl_out _ (fun m w => ?_) _ _
  rfl

theorem Node.nextFromAcc_out (n : Node) (f : Nat) : (n.nextFromAcc f).msg.out = n.msg.out := by
  unfold Node.nextFromAcc
  split <;> rfl

/-- A restart takes the accepted messages alone, and says that it has (R263, R268). -/
theorem Node.journalRestore_sent {n : Node} (hs : n.on PAIR_STATUS.SYNC = false) (hr : n.ringInUse) (ho : n.msg.out = []) :
    n.journalRestore.on MSG_STATUS.RESTORED = true ∧ n.journalRestore.on MSG_EVT.RESTORED = true ∧ AllSent n.journalRestore := by
  obtain ⟨hp, hq⟩ := hr
  unfold Node.journalRestore
  rw [if_neg (by simp [hs, hp, hq])]
  extract_lets j n1 n2 n3 n4 src n6 n7 n8 n9 n10 n11
  have h1 : n1.msg.out = [] := (foldl_out _ (restoreRegs_out _) _ _).trans ho
  have h2 : n2.msg.out = n1.msg.out := foldl_out _ (restoreRegs_out _) _ _
  have h3 : n3.msg.out = n2.msg.out := by
    refine foldl_out _ (fun m p => ?_) _ _
    rfl
  have h7 : n7.msg.out = n3.msg.out := rfl
  have h8 : AllSent n8 := by
    refine List.foldlRecOn (motive := AllSent) _ _ (fun k y hy => ?_) fun m hm p _ => hm.setOutMsgs _ _ _
    rw [Node.outMsgs, h7, h3, h2, h1] at hy
    exact absurd hy List.not_mem_nil
  have h9 : n9.msg.out = n8.msg.out := foldl_out _ Node.nextFromAcc_out _ _
  have h10 : n10.msg.out = n9.msg.out := by
    refine foldl_out _ (fun m p => ?_) _ _
    rfl
  have h11 : n11.msg.out = n10.msg.out := by
    refine foldl_out _ (fun m p => ?_) _ _
    rfl
  refine ⟨?_, Node.on_raise_same _ _ (by decide) rfl (by decide), ?_⟩
  · rw [Node.on_raise_ne _ _ _ (by decide) (by decide) (by decide), Node.on, Node.rd_wr_same _ _ _ (by decide)]
    rfl
  · refine h8.congr ?_
    rw [(Node.raise_recorded _ _).msg]
    exact h11.trans (h10.trans h9)

/-! What follows the journal at a restart, guaranteed CAN records and a lapse of the guarantee (R38, R473, R569), leaves this alone. -/

/-- `m` has the outbound flows of `n`, and says of a restart what `n` says. -/
structure RestartKept (n m : Node) : Prop where
  out : m.msg.out = n.msg.out
  status : m.on MSG_STATUS.RESTORED = n.on MSG_STATUS.RESTORED
  event : m.on MSG_EVT.RESTORED = n.on MSG_EVT.RESTORED

namespace RestartKept

variable {n m k : Node}

theorem refl (n : Node) : RestartKept n n := ⟨rfl, rfl, rfl⟩

theorem trans (h : RestartKept n m) (g : RestartKept m k) : RestartKept n k :=
  ⟨g.out.trans h.out, g.status.trans h.status, g.event.trans h.event⟩

theorem foldl {β : Type} (f : Node → β → Node) (h : ∀ n x, RestartKept n (f n x)) (l : List β) (n : Node) : RestartKept n (l.foldl f n) := by
  induction l generalizing n with
  | nil => exact refl n
  | cons x l ih => exact (h n x).trans (ih _)

theorem of_recorded (h : Recorded n m) : RestartKept n m := ⟨by rw [h.msg], h.on _ (by decide), h.on _ (by decide)⟩

theorem lapse (n : Node) (cause detail : Nat) : RestartKept n (n.lapse cause detail) := by
  refine trans ?_ (of_recorded (Node.fixedRecord_recorded _ _ _))
  refine ⟨?_, ?_, ?_⟩
  · rw [(Node.raise_recorded _ _).msg]
    rfl
  · rw [Node.on_raise_ne _ _ _ (by decide) (by decide) (by decide), Node.on, Node.rd_wr_ne _ _ _ _ (by decide) (by decide), Node.on]
  · rw [Node.on_raise_ne _ _ _ (by decide) (by decide) (by decide), Node.on, Node.rd_wr_ne _ _ _ _ (by decide) (by decide), Node.on]

theorem of_regs (ho : m.msg.out = n.msg.out) (hr : m.regs = n.regs) : RestartKept n m :=
  ⟨ho, by rw [Node.on, Node.rd_congr hr, Node.on], by rw [Node.on, Node.rd_congr hr, Node.on]⟩

theorem setCanRecs (n : Node) (l : List CanRec) : RestartKept n (n.setCanRecs l) := by
  have h0 : RestartKept n { n with msg := { n.msg with canRecs := l } } := of_regs rfl rfl
  unfold Node.setCanRecs
  refine h0.trans (foldl _ (fun m k => ?_) _ _)
  exact of_recorded (Recorded.jchange m _ _)

theorem canPlace (n : Node) (r : CanRec) (state code : Nat) : RestartKept n (n.canPlace r state code) := by
  refine of_regs ?_ ?_
  · simp only [Node.canPlace, Node.updChan_msg, Node.memPut_msg]
  · simp only [Node.canPlace, Node.updChan_regs, Node.memPut_regs]

theorem canRestart (n : Node) : RestartKept n n.canRestart := by
  unfold Node.canRestart
  refine foldl _ (fun n r => ?_) _ _
  dsimp only
  split
  · exact (setCanRecs _ _).trans (canPlace _ _ _ _)
  · exact canPlace _ _ _ _
  · exact ((setCanRecs _ _).trans (canPlace _ _ _ _)).trans (lapse _ _ _)
  · exact canPlace _ _ _ _

theorem shortLapse (n : Node) : RestartKept n n.shortLapse := by
  unfold Node.shortLapse
  split
  · exact lapse _ _ _
  · exact refl _

end RestartKept

section
variable {s : State} (hr : s.node.running = true)
include hr

theorem journalRingWrite_idle (h : s.node.msg.changes = [] ∨ ¬ s.node.ringInUse) : Answers .journalRingWrite s s.node :=
  answers_same hr rfl (Node.ringWrite_idle h)

theorem journalRingWrite_takes {p : JPiece × Nat} {ch : List (JPiece × Nat)} (hc : s.node.msg.changes = p :: ch) (hu : s.node.ringInUse) :
    Does .journalRingWrite s (fun m => m.msg.changes = ch ∧ m.rd MSG_DELTA.VALUE = s.node.rd MSG_DELTA.VALUE - p.2
      ∧ m.journal.recSeq = m.msg.recSeq) := by
  refine does_onNode (f := (·.ringWrite)) hr rfl ?_
  rw [Node.ringWrite_cons hc hu]
  exact s.node.ringTake_effect p.1 p.2 ch

theorem journalRestore_idle (h : s.node.on PAIR_STATUS.SYNC = true ∨ ¬ s.node.ringInUse) : Answers .journalRestore s s.node := by
  refine answers_same hr rfl (if_pos ?_)
  rcases h with h | h
  · simp [h]
  · simpa [Node.ringInUse, or_iff_not_imp_left] using fun _ => h

theorem journalRestore_restores (hs : s.node.on PAIR_STATUS.SYNC = false) (hu : s.node.ringInUse) (ho : s.node.msg.out = []) :
    Does .journalRestore s (fun m => m.on MSG_STATUS.RESTORED = true ∧ m.on MSG_EVT.RESTORED = true ∧ AllSent m) := by
  obtain ⟨hstatus, hevent, hsent⟩ := Node.journalRestore_sent hs hu ho
  have hkept := (RestartKept.canRestart s.node.journalRestore).trans (RestartKept.shortLapse _)
  obtain ⟨hpersist, hready⟩ := hu
  refine does_onNode hr rfl ?_
  rw [if_neg (by simp [hs, hpersist, hready])]
  exact ⟨hkept.status.trans hstatus, hkept.event.trans hevent, hsent.congr hkept.out⟩

end

/-- Settles O41: one theorem for each clause. -/
theorem messagesSent : Obligations.MessagesSent := by
  unfold Obligations.MessagesSent
  intro s by_ v flow f seq t x rest p ch hr n hf hseq code q read of_ if_ l all found none_ reach Maps Kills fresh ours ring
  refine ⟨flowOpen_inbound hr, flowOpen_outbound hr rfl, hostSubmit_taken hr rfl, hostSubmit_refused hr rfl, fun h => ?_,
    acceptance_outbound hr, fun hq hm => ?_, msgHget_next hr rfl, msgHget_none hr rfl,
    msgHack_waits hr rfl, ?_, ?_, ?_, ?_, ?_, ?_, ?_, ?_, ?_, ?_, ?_, ?_⟩
  · exact answers_same hr rfl (Node.acceptNext_idle h)
  · exact answers_same hr rfl (Node.acceptNext_no_mode hq hm)
  · rintro ⟨hflow, howner, hkind⟩ h
    exact msgHwdr_unknown hr hflow ⟨howner, hkind⟩ h
  · rintro ⟨hflow, howner, hkind⟩ h hx
    exact msgHwdr_fresh hr hflow ⟨howner, hkind⟩ h hx
  · intro h hx
    exact does_onNode (f := (·.expireMsg flow v.toNat)) hr rfl (Node.expireMsg_starts h hx)
  · intro h
    exact ⟨answers_same hr rfl (Node.expireMsg_unknown h), retransmitTimeout_unknown hr h⟩
  · exact retransmitTimeout_found hr
  · exact probeTimer_one hr
  · exact lifetimePersist_one hr
  · exact orphanTimeout_gone hr
  · exact journalRingWrite_idle hr
  · exact journalRingWrite_takes hr
  · exact journalRestore_idle hr
  · exact journalRestore_restores hr

end Sys2Proof.Machine
end

section
/-! PROOFS. LINE's loading tables (02_barel_line.md R58, R65 to R69, R72, R73): its records of peers and of its own lines, and then the commands
of the transmitter and of the receiver. -/

namespace Sys2Proof.Machine

/-! ### Runs of SRAM bytes -/

@[simp] theorem Node.memBytes_length (n : Node) (a len : Nat) : (n.memBytes a len).length = len := by simp [Node.memBytes, upTo]

theorem Node.memBytes_congr {n m : Node} (h : m.mem = n.mem) (a len : Nat) : m.memBytes a len = n.memBytes a len := by
  simp only [Node.memBytes, Node.memByte, h]

/-- A run of bytes reads as written. -/
theorem Node.memBytes_memPut (n : Node) {a len : Nat} {bs : List Byte} (h : bs.length = len) : (n.memPut a bs).memBytes a len = bs :=
  List.ext_getElem (by simp [h]) fun i _ hi => by simpa [Node.memBytes, upTo] using n.memByte_memPut_in a bs i hi

theorem slice_length {bs : List Byte} {o len : Nat} (h : o + len ≤ bs.length) : (slice bs o len).length = len := by
  simp [slice]
  omega

/-! ### Peers and the node's own lines -/

theorem Node.handleOf_congr {n m : Node} (h : m.regs = n.regs) (k : Nat) : m.handleOf k = n.handleOf k := by
  simp only [Node.handleOf, Node.rd_congr h]

theorem Node.chanAddr_congr {n m : Node} (h : m.regs = n.regs) (l k : Nat) : m.chanAddr l k = n.chanAddr l k := by
  simp only [Node.chanAddr, Node.handleOf_congr h]

theorem Node.peer_congr {n m : Node} (hr : m.regs = n.regs) (hp : m.line.peers = n.line.peers) (l k : Nat) : m.peer l k = n.peer l k := by
  simp only [Node.peer, Node.handleOf_congr hr, hp]

/-- `m` is `n` but for LINE's own state. -/
def LineOnly (n m : Node) : Prop := m = { n with line := m.line }

theorem LineOnly.trans {n m k : Node} (h : LineOnly n m) (g : LineOnly m k) : LineOnly n k := by
  rw [LineOnly] at h g ⊢
  rw [g, h]

theorem LineOnly.regs {n m : Node} (h : LineOnly n m) : m.regs = n.regs := by rw [h]

theorem LineOnly.mem {n m : Node} (h : LineOnly n m) : m.mem = n.mem := by rw [h]

section
variable (n : Node) (l k : Nat) (p : PeerLine) (o : OwnLine) (body : List Byte)

theorem Node.setPeer_lineOnly : LineOnly n (n.setPeer l k p) := by
  unfold Node.setPeer
  split <;> rfl

theorem Node.setOwn_lineOnly : LineOnly n (n.setOwn l o) := by
  unfold Node.setOwn
  split <;> rfl

@[simp] theorem Node.setPeer_regs : (n.setPeer l k p).regs = n.regs := (n.setPeer_lineOnly l k p).regs
@[simp] theorem Node.setPeer_mem : (n.setPeer l k p).mem = n.mem := (n.setPeer_lineOnly l k p).mem
@[simp] theorem Node.setOwn_regs : (n.setOwn l o).regs = n.regs := (n.setOwn_lineOnly l o).regs
@[simp] theorem Node.setOwn_mem : (n.setOwn l o).mem = n.mem := (n.setOwn_lineOnly l o).mem
@[simp] theorem Node.loadUnit_regs : (n.loadUnit body).regs = n.regs := rfl
@[simp] theorem Node.loadUnit_mem : (n.loadUnit body).mem = n.mem := rfl

@[simp] theorem Node.loadUnit_units : (n.loadUnit body).line.units = n.line.units ++ [body] := rfl
@[simp] theorem Node.loadUnit_peer (l' k' : Nat) : (n.loadUnit body).peer l' k' = n.peer l' k' := rfl
@[simp] theorem Node.loadUnit_own (l' : Nat) : (n.loadUnit body).own l' = n.own l' := rfl
@[simp] theorem Node.memPut_own (a : Nat) (bs : List Byte) (l' : Nat) : (n.memPut a bs).own l' = n.own l' := rfl
@[simp] theorem Node.memPut_peer (a : Nat) (bs : List Byte) (l' k' : Nat) : (n.memPut a bs).peer l' k' = n.peer l' k' := rfl
@[simp] theorem Node.count_own (f : Field) (l' : Nat) : (n.count f).own l' = n.own l' := rfl

@[simp] theorem Node.setPeer_units : (n.setPeer l k p).line.units = n.line.units := by
  unfold Node.setPeer
  split <;> rfl

@[simp] theorem Node.setPeer_own (l' : Nat) : (n.setPeer l k p).own l' = n.own l' := by
  unfold Node.setPeer
  split <;> rfl

@[simp] theorem Node.setOwn_units : (n.setOwn l o).line.units = n.line.units := by
  unfold Node.setOwn
  split <;> rfl

@[simp] theorem Node.setOwn_peers : (n.setOwn l o).line.peers = n.line.peers := by
  unfold Node.setOwn
  split <;> rfl

@[simp] theorem Node.setOwn_peer (l' k' : Nat) : (n.setOwn l o).peer l' k' = n.peer l' k' :=
  Node.peer_congr (n.setOwn_regs l o) (n.setOwn_peers l o) l' k'

/-- A line's own record reads as set. -/
@[simp] theorem Node.setOwn_own_same : (n.setOwn l o).own l = o := by
  unfold Node.setOwn Node.own
  split <;> simp_all

theorem Node.setOwn_own_other : (n.setOwn 1 o).own 0 = n.own 0 := rfl

/-- A peer with a handle reads as set. -/
theorem Node.setPeer_peer_same (h : n.handleOf k ≠ 255) : (n.setPeer l k p).peer l k = p := by
  rw [Node.peer, Node.handleOf_congr (n.setPeer_regs l k p), Node.setPeer, if_neg h]
  exact Tab.get_set_same _ _ _ _

/-- What the new record of a peer has in common with the old one is unchanged for every peer. -/
theorem Node.setPeer_peer_part {α : Type} (g : PeerLine → α) (h : g p = g (n.peer l k)) (l' k' : Nat) :
    g ((n.setPeer l k p).peer l' k') = g (n.peer l' k') := by
  rw [Node.peer, Node.handleOf_congr (n.setPeer_regs l k p), Node.setPeer]
  split
  · rfl
  · by_cases hx : 256 * l' + n.handleOf k' = 256 * l + n.handleOf k
    · rw [hx, Tab.get_set_same, h, Node.peer, Node.peer, hx]
    · rw [Tab.get_set_ne _ _ _ _ _ hx, Node.peer]

end

/-! ### Round starts (R59, R65, R66) -/

/-- What the choice of primary lines leaves of `n`: everything but LINE's state, and of that its own lines and the stored proposals. -/
structure KeepsProposals (n m : Node) : Prop where
  line : LineOnly n m
  own : ∀ l, m.own l = n.own l
  stored : ∀ l k, (m.peer l k).stored = (n.peer l k).stored
  storedUrgent : ∀ l k, (m.peer l k).storedUrgent = (n.peer l k).storedUrgent

/-- The primary lines chosen at a round start (R59). -/
def Node.choosePrimaries (n : Node) : Node := (n.dir.filter (fun r => r.num ≠ n.nodeNum)).foldl (fun n r => n.primaryRound r.num) n

/-- R65: does the candidate table call for a switch? -/
def Node.wantsSwitch (n : Node) (l : Nat) : Bool :=
  (List.zip (n.candidate l).1 (n.ownTable l)).any (fun p => p.1 < p.2)
    || (101 * tableSum (n.ownTable l) ≤ 100 * tableSum (n.candidate l).1 && tableSum (n.ownTable l) < tableSum (n.candidate l).1)

/-- The switch that a round start announces (R66). -/
def Node.newSwitch (n : Node) (l : Nat) : LineSwitch :=
  let lead := if (n.candidate l).2 then 32 else 48
  ⟨(n.own l).epoch % 15 + 1, up16 (n.cycle + lead), lead, 1, false, n.presentNodes.filter (· ≠ n.nodeNum), false⟩

namespace KeepsProposals

variable {n m k : Node}

theorem refl (n : Node) : KeepsProposals n n := ⟨rfl, fun _ => rfl, fun _ _ => rfl, fun _ _ => rfl⟩

theorem trans (h : KeepsProposals n m) (g : KeepsProposals m k) : KeepsProposals n k :=
  ⟨h.line.trans g.line, fun l => (g.own l).trans (h.own l), fun l x => (g.stored l x).trans (h.stored l x),
    fun l x => (g.storedUrgent l x).trans (h.storedUrgent l x)⟩

theorem setPeer (n : Node) (l x : Nat) (p : PeerLine) (hs : p.stored = (n.peer l x).stored)
    (hu : p.storedUrgent = (n.peer l x).storedUrgent) : KeepsProposals n (n.setPeer l x p) :=
  ⟨n.setPeer_lineOnly l x p, n.setPeer_own l x p, n.setPeer_peer_part l x p (·.stored) hs, n.setPeer_peer_part l x p (·.storedUrgent) hu⟩

theorem primaryRound (n : Node) (x : Nat) : KeepsProposals n (n.primaryRound x) := by
  have hline : ∀ t : Tab Nat, KeepsProposals n { n with line := { n.line with primary := t } } :=
    fun _ => ⟨rfl, fun _ => rfl, fun _ _ => rfl, fun _ _ => rfl⟩
  have ha := fun t : Tab Nat => (hline t).trans (setPeer _ 0 x { n.peer 0 x with snrSum := 0, snrCount := 0 } rfl rfl)
  refine (ha _).trans (setPeer _ 1 x _ ?_ ?_)
  · exact ((ha _).stored 1 x).symm
  · exact ((ha _).storedUrgent 1 x).symm

theorem choosePrimaries (n : Node) : KeepsProposals n n.choosePrimaries :=
  List.foldlRecOn (motive := fun m : Node => KeepsProposals n m) _ _ (refl n) fun m h r _ => h.trans (primaryRound m r.num)

theorem ownTable (h : KeepsProposals n m) (l : Nat) : m.ownTable l = n.ownTable l := by
  obtain ⟨x, rfl⟩ : ∃ x, m = { n with line := x } := ⟨_, h.line⟩
  simp only [Node.ownTable, h.own]
  rfl

theorem candidate (h : KeepsProposals n m) (l : Nat) : m.candidate l = n.candidate l := by
  have hown := h.ownTable l
  obtain ⟨x, rfl⟩ : ∃ x, m = { n with line := x } := ⟨_, h.line⟩
  simp only [Node.candidate, h.stored, h.storedUrgent, hown]
  rfl

theorem wantsSwitch (h : KeepsProposals n m) (l : Nat) : m.wantsSwitch l = n.wantsSwitch l := by
  simp only [Node.wantsSwitch, h.candidate, h.ownTable]

theorem newSwitch (h : KeepsProposals n m) (l : Nat) : m.newSwitch l = n.newSwitch l := by
  have hcand := h.candidate l
  obtain ⟨x, rfl⟩ : ∃ x, m = { n with line := x } := ⟨_, h.line⟩
  simp only [Node.newSwitch, hcand, h.own]
  rfl

theorem nodeNum (h : KeepsProposals n m) : m.nodeNum = n.nodeNum := Node.rd_congr h.line.regs

end KeepsProposals

section
variable {n : Node} {l : Nat}

/-- A round start announces a switch where the line has none and is in service, and the candidate calls for one. -/
theorem Node.loadRound_eq (n : Node) (l : Nat) : n.loadRound l
    = if (n.own l).switch.isSome || (n.own l).isNull || n.nodeNum = 0 then n
      else if !n.wantsSwitch l then n
      else (n.memPut (n.chanAddr l n.nodeNum + 0x1F0) (packTable (n.candidate l).1)).setOwn l { n.own l with switch := some (n.newSwitch l) } := rfl

theorem Node.loadRound_pending (h : (n.own l).switch ≠ none) : n.loadRound l = n := by
  have hs : (n.own l).switch.isSome = true := Option.isSome_iff_ne_none.mpr h
  rw [Node.loadRound_eq, if_pos (by simp [hs])]

theorem Node.loadRound_keeps (h : n.wantsSwitch l = false) : n.loadRound l = n := by
  rw [Node.loadRound_eq, h]
  exact ite_self n

theorem Node.loadRound_announces (hs : (n.own l).switch = none) (hn : (n.own l).isNull = false) (hk : n.nodeNum ≠ 0)
    (h : n.wantsSwitch l = true) : (n.loadRound l).own l = { n.own l with switch := some (n.newSwitch l) } := by
  rw [Node.loadRound_eq, if_neg (by simp [hs, hn, hk]), if_neg (by simp [h])]
  exact Node.setOwn_own_same _ _ _

/-- A round start on line B leaves line A's own record. -/
theorem Node.loadRound_own_other (n : Node) : (n.loadRound 1).own 0 = n.own 0 := by
  rw [Node.loadRound_eq]
  split
  · rfl
  split
  · rfl
  · rw [Node.setOwn_own_other, Node.memPut_own]

/-- Line A's record is as its own round start leaves it; line B's round start begins where line A's has changed nothing. -/
theorem Node.loadRounds_own {line : Line} (h : line = .a ∨ (n.own 0).switch ≠ none) :
    ((n.loadRound 0).loadRound 1).own (lineNo line) = (n.loadRound (lineNo line)).own (lineNo line) := by
  rcases h with rfl | h
  · rw [lineNo, (n.loadRound 0).loadRound_own_other]
  · rw [Node.loadRound_pending h]
    cases line with
    | a => rw [lineNo, Node.loadRound_pending h, Node.loadRound_own_other]
    | b => rfl

theorem Node.wantsSwitch_eq_true : n.wantsSwitch l = true ↔ (List.zip (n.candidate l).1 (n.ownTable l)).any (fun p => p.1 < p.2) = true
    ∨ (101 * (n.ownTable l).sum ≤ 100 * (n.candidate l).1.sum ∧ (n.ownTable l).sum < (n.candidate l).1.sum) := by
  simp only [Node.wantsSwitch, Bool.or_eq_true, Bool.and_eq_true, decide_eq_true_eq]
  rfl

theorem Node.wantsSwitch_eq_false (hz : (List.zip (n.candidate l).1 (n.ownTable l)).any (fun p => p.1 < p.2) = false)
    (hs : 100 * (n.candidate l).1.sum < 101 * (n.ownTable l).sum ∨ (n.candidate l).1.sum ≤ (n.ownTable l).sum) : n.wantsSwitch l = false := by
  rw [Bool.eq_false_iff, ne_eq, Node.wantsSwitch_eq_true, hz]
  rintro (h | ⟨h1, h2⟩)
  · exact Bool.false_ne_true h
  · omega

end

/-- A pending switch after the reply of node `r`, BUSY or not (R68). -/
def LineSwitch.replied (sw : LineSwitch) (r : Nat) (busy : Bool) : LineSwitch :=
  if busy then { sw with busy := true } else { sw with wait := sw.wait.filter (· ≠ r) }

theorem LineSwitch.replied_eq (sw : LineSwitch) (r : Nat) (busy : Bool) : sw.replied r busy
    = { sw with busy := sw.busy || busy, wait := if busy then sw.wait else sw.wait.filter (· ≠ r) } := by
  cases busy with
  | false => rw [Bool.or_false]; rfl
  | true => rw [Bool.or_true]; rfl

section
variable {s : State} {line : Line} (hr : s.node.running = true)
include hr

/-- A line's own record after a round start, by the round start of that line on a node of the same proposals. -/
theorem does_loadRoundStart {P : OwnLine → Prop} (hl : line = .a ∨ (s.node.own 0).switch ≠ none)
    (hp : ∀ n, KeepsProposals s.node n → P ((n.loadRound (lineNo line)).own (lineNo line))) :
    Does .loadRoundStart s (fun m => P (m.own (lineNo line))) := by
  have hk := KeepsProposals.choosePrimaries s.node
  refine does_onNode (f := fun n => (n.choosePrimaries.loadRound 0).loadRound 1) hr rfl ?_
  rw [Node.loadRounds_own (by rwa [hk.own])]
  exact hp _ hk

theorem loadRoundStart_announces (hl : line = .a ∨ (s.node.own 0).switch ≠ none) (hs : (s.node.own (lineNo line)).switch = none)
    (hn : (s.node.own (lineNo line)).isNull = false) (h0 : s.node.nodeNum ≠ 0) (h : s.node.wantsSwitch (lineNo line) = true) :
    Does .loadRoundStart s (fun m => (m.own (lineNo line)).switch = some (s.node.newSwitch (lineNo line))
      ∧ (m.own (lineNo line)).epoch = (s.node.own (lineNo line)).epoch) := by
  refine does_loadRoundStart hr (P := fun o => o.switch = some _ ∧ o.epoch = _) hl fun n hk => ?_
  rw [Node.loadRound_announces (by rwa [hk.own]) (by rwa [hk.own]) (by rwa [hk.nodeNum]) (by rwa [hk.wantsSwitch]), hk.newSwitch, hk.own]
  exact ⟨rfl, rfl⟩

theorem loadRoundStart_keeps (hl : line = .a ∨ (s.node.own 0).switch ≠ none) (h : s.node.wantsSwitch (lineNo line) = false) :
    Does .loadRoundStart s (fun m => m.own (lineNo line) = s.node.own (lineNo line)) := by
  refine does_loadRoundStart hr (P := fun o => o = _) hl fun n hk => ?_
  rw [Node.loadRound_keeps (by rwa [hk.wantsSwitch]), hk.own]

/-! ### The transmitter (R66, R68, R73) -/

theorem loadProp_stores {u : UnitRx} (hb : 508 ≤ u.body.length) (hn : le u.body 3 1 = s.node.nodeNum) (h0 : s.node.nodeNum ≠ 0)
    (hh : s.node.handleOf (le u.body 2 1) ≠ 255) : Does (.loadProp u) s (fun m =>
      m.memBytes (s.node.chanAddr (le u.body 1 1 % 2) (le u.body 2 1) + 0x1170) 496 = slice u.body 12 496
      ∧ (m.peer (le u.body 1 1 % 2) (le u.body 2 1)).stored = true
      ∧ (m.peer (le u.body 1 1 % 2) (le u.body 2 1)).storedUrgent = bit (le u.body 11 1) 0) := by
  refine does_onNode (f := (·.loadProp u.body)) hr rfl ?_
  unfold Node.loadProp
  rw [if_neg (by simp [hn, h0, hh, Nat.not_lt.mpr hb])]
  dsimp only
  rw [Node.memBytes_congr (Node.setPeer_mem _ _ _ _), Node.setPeer_peer_same (s.node.memPut _ _) _ _ _ hh]
  exact ⟨Node.memBytes_memPut _ (slice_length (by omega)), rfl, rfl⟩

theorem loadAck_replied {u : UnitRx} {sw : LineSwitch} (hs : (s.node.own (le u.body 1 1 % 2)).switch = some sw) (hb : 12 ≤ u.body.length)
    (hn : le u.body 3 1 = s.node.nodeNum) (hns : le u.body 8 4 = sw.ns) (he : le u.body 4 1 % 16 = sw.epoch) :
    Does (.loadAck u) s (fun m => (m.own (le u.body 1 1 % 2)).switch = some (sw.replied (le u.body 2 1) (bit (le u.body 4 1) 4))) := by
  refine does_onNode (f := (·.loadAck u.body)) hr rfl ?_
  unfold Node.loadAck
  simp only [hs, hn, hns, he, Nat.not_lt.mpr hb, ne_eq, not_true_eq_false, decide_false, Bool.or_false, Bool.false_eq_true, if_false]
  split
  · rw [Node.setOwn_own_same]
    exact congrArg some (sw.replied_eq _ _).symm
  · rw [Node.memPut_own, Node.setOwn_own_same]
    exact congrArg some (sw.replied_eq _ _).symm

theorem loadAckCheck_pending {sw : LineSwitch} (hs : (s.node.own (lineNo line)).switch = some sw) :
    Does (.loadAckCheck line) s (fun m => (m.own (lineNo line)).switch = some (
      if sw.wait = [] ∧ sw.busy = false ∨ 4 ≤ sw.count then { sw with sure := true }
      else { sw with ns := sw.ns + sw.lead, count := sw.count + 1, busy := false })) := by
  refine does_onNode (f := (·.ackCheck (lineNo line))) hr rfl ?_
  unfold Node.ackCheck
  simp only [hs]
  by_cases hall : sw.wait = [] ∧ sw.busy = false
  · rw [if_pos (by simpa using hall), if_pos (.inl hall), Node.setOwn_own_same]
  · rw [if_neg (by simpa using hall)]
    by_cases hc : 4 ≤ sw.count
    · rw [if_pos hc, if_pos (.inr hc), Node.count_own, Node.setOwn_own_same]
    · rw [if_neg hc, if_neg (not_or_intro hall hc), Node.setOwn_own_same]

theorem loadSwitch_due {sw : LineSwitch} (hs : (s.node.own (lineNo line)).switch = some sw) (hc : sw.ns ≤ s.node.cycle) :
    Does (.loadSwitch line) s (fun m => (m.own (lineNo line)).epoch = sw.epoch ∧ (m.own (lineNo line)).switch = none
      ∧ m.memBytes (s.node.chanAddr (lineNo line) s.node.nodeNum) 496
        = s.node.memBytes (s.node.chanAddr (lineNo line) s.node.nodeNum + 0x1F0) 496) := by
  refine does_onNode (f := (·.loadSwitch (lineNo line))) hr rfl ?_
  unfold Node.loadSwitch
  simp only [hs, Nat.not_lt.mpr hc, if_false]
  rw [Node.count_own, Node.setOwn_own_same, Node.memBytes_congr ((Node.count_mem _ _).trans (Node.setOwn_mem _ _ _))]
  exact ⟨rfl, rfl, Node.memBytes_memPut _ (Node.memBytes_length _ _ _)⟩

theorem loadSwitch_early {sw : LineSwitch} (hs : (s.node.own (lineNo line)).switch = some sw) (hc : s.node.cycle < sw.ns) :
    Answers (.loadSwitch line) s s.node := by
  refine answers_same (f := (·.loadSwitch (lineNo line))) hr rfl ?_
  unfold Node.loadSwitch
  simp only [hs, hc, if_true]

end

/-- Settles O30: one theorem for each clause. -/
theorem loadingTransmitter : Obligations.LoadingTransmitter := by
  unfold Obligations.LoadingTransmitter
  intro s u line sw hr n b l r own base cand cur lead
  refine ⟨loadProp_stores hr, fun hs hn h0 hl => ⟨fun h => ?_, fun hz h => ?_⟩, loadAck_replied hr, fun hs => ⟨loadAckCheck_pending hr hs, ?_, ?_⟩⟩
  · exact loadRoundStart_announces hr hl hs hn h0 (Node.wantsSwitch_eq_true.mpr h)
  · exact loadRoundStart_keeps hr hl (Node.wantsSwitch_eq_false hz h)
  · exact loadSwitch_due hr hs
  · exact loadSwitch_early hr hs

end Sys2Proof.Machine
end

section
/-! PROOFS. The receiver's side of LINE's loading tables, and the null table (02_barel_line.md R58, R67, R69, R72). -/

namespace Sys2Proof.Machine

theorem Node.loadAckBody_congr {n m : Node} (h : m.regs = n.regs) (l tx epoch : Nat) (busy : Bool) (ns : Nat) :
    m.loadAckBody l tx epoch busy ns = n.loadAckBody l tx epoch busy ns := by
  simp only [Node.loadAckBody, Node.nodeNum, Node.rd_congr h]

/-! ### An announced table (R67, R73) -/

/-- Does this node take LOAD_SET body `b`: it is whole, another node's, and both have handles? -/
structure Node.TakesLoadSet (n : Node) (b : List Byte) : Prop where
  whole : 508 ≤ b.length
  other : le b 2 1 ≠ n.nodeNum
  peer : n.handleOf (le b 2 1) ≠ 255
  self : n.handleOf n.nodeNum ≠ 255

/-- Is pool entry `j` of line `l` taken? -/
def Node.poolHeld (n : Node) (l j : Nat) : Bool := (n.own l).pool.any (·.1 = j)

theorem find_free_none {held : Nat → Bool} (h : ∀ j, j < 8 → held j = true) : (upTo 8).find? (fun i => !held i) = none := by
  rw [List.find?_eq_none]
  intro j hj
  simp [h j (List.mem_range.mp hj)]

theorem find_free_some {held : Nat → Bool} {i : Nat} (hlo : ∀ j, j < i → held j = true) (hi : held i = false) (h8 : i < 8) :
    (upTo 8).find? (fun i => !held i) = some i := by
  rw [upTo, List.find?_range_eq_some]
  exact ⟨by simp [hi], List.mem_range.mpr h8, fun j hj => by simp [hlo j hj]⟩

/-- The node with a table announced by `t` in pool entry `i`, pending from cycle `ns` on. -/
def Node.poolTable (n : Node) (l t epoch ns : Nat) (table : List Byte) (i : Nat) : Node :=
  ((n.memPut (n.chanAddr l n.nodeNum + 0x3E0 + 496 * i) table).setOwn l { n.own l with pool := (n.own l).pool ++ [(i, t)] }).setPeer l t
    { n.peer l t with pend := some (epoch, ns, i) }

/-- The node with a table acknowledged, or BUSY answered (R67). -/
def Node.ackUnit (n : Node) (l t epoch : Nat) (busy : Bool) (ns : Nat) : Node := n.loadUnit (n.loadAckBody l t epoch busy ns)

section
variable {n : Node} {b : List Byte} {l t epoch ns i : Nat}

theorem Node.poolTable_regs {table : List Byte} : (n.poolTable l t epoch ns table i).regs = n.regs := by
  rw [Node.poolTable, Node.setPeer_regs, Node.setOwn_regs, Node.memPut_regs]

theorem Node.poolTable_units {table : List Byte} : (n.poolTable l t epoch ns table i).line.units = n.line.units := by
  rw [Node.poolTable, Node.setPeer_units, Node.setOwn_units, Node.memPut_line]

theorem Node.poolTable_pend {table : List Byte} (h : n.handleOf t ≠ 255) :
    ((n.poolTable l t epoch ns table i).peer l t).pend = some (epoch, ns, i) := by
  rw [Node.poolTable, Node.setPeer_peer_same _ _ _ _ (by rwa [Node.handleOf_congr (Node.setOwn_regs _ _ _), Node.handleOf_congr (n.memPut_regs _ _)])]

theorem Node.poolTable_memBytes {table : List Byte} (h : table.length = 496) :
    (n.poolTable l t epoch ns table i).memBytes (n.chanAddr l n.nodeNum + 0x3E0 + 496 * i) 496 = table := by
  rw [Node.poolTable, Node.memBytes_congr ((Node.setPeer_mem _ _ _ _).trans (Node.setOwn_mem _ _ _))]
  exact Node.memBytes_memPut _ h

/-- A REPLY is current at once (R72). -/
theorem Node.loadSet_reply (ht : n.TakesLoadSet b) (hf : bit (le b 11 1) 1 = true) (hl : le b 1 1 % 2 = l) (hb : le b 2 1 = t) :
    n.loadSet b = (n.memPut (n.chanAddr l t + 0xF80) (slice b 12 496)).setPeer l t
      { n.peer l t with held := true, epoch := le b 3 1 / 16, bitSum := le b 8 2, isNull := bit (le b 11 1) 0 } := by
  obtain ⟨hwhole, hother, hpeer, hself⟩ := ht
  subst hl hb
  unfold Node.loadSet
  rw [if_neg (by simp [hother, hpeer, hself, Nat.not_lt.mpr hwhole])]
  exact if_pos hf

/-- An announcement of a table that is neither pending nor current takes the first free pool entry, and is acknowledged; BUSY where no entry
is free (R67). -/
theorem Node.loadSet_announced (ht : n.TakesLoadSet b) (hf : bit (le b 11 1) 1 = false) (hl : le b 1 1 % 2 = l) (hb : le b 2 1 = t)
    (hpend : (n.peer l t).pend = none) (hnew : (n.peer l t).epoch ≠ le b 3 1 % 16 ∨ (n.peer l t).held = false) :
    n.loadSet b = ((upTo 8).find? (fun i => !n.poolHeld l i)).elim (n.ackUnit l t (le b 3 1 % 16) true (le b 4 4))
      (fun i => (n.poolTable l t (le b 3 1 % 16) (le b 4 4) (slice b 12 496) i).ackUnit l t (le b 3 1 % 16) false (le b 4 4)) := by
  obtain ⟨hwhole, hother, hpeer, hself⟩ := ht
  subst hl hb
  unfold Node.loadSet
  rw [if_neg (by simp [hother, hpeer, hself, Nat.not_lt.mpr hwhole])]
  dsimp only
  rw [if_neg (by simp [hf]), hpend]
  dsimp only
  rw [if_neg (by simpa [or_iff_not_imp_left] using hnew)]
  unfold Node.poolHeld
  cases (upTo 8).find? (fun i => !(n.own (le b 1 1 % 2)).pool.any (·.1 = i)) <;> rfl

end

/-! ### The null table, and tables given up (R58, R69, R72) -/

section
variable {n : Node} {l k : Nat}

/-- A pending table that becomes current: its bytes, its epoch, and its pool entry freed (R69). -/
theorem Node.promote_pending {e c j : Nat} (hp : (n.peer l k).pend = some (e, c, j)) (hk : n.handleOf k ≠ 255) :
    ((n.promote l k).peer l k).pend = none ∧ ((n.promote l k).peer l k).epoch = e ∧ ((n.promote l k).peer l k).held = true
      ∧ (n.promote l k).memBytes (n.chanAddr l k + 0xF80) 496 = n.memBytes (n.chanAddr l n.nodeNum + 0x3E0 + 496 * j) 496
      ∧ ((n.promote l k).own l).pool = (n.own l).pool.filter (fun x => x.1 ≠ j) := by
  unfold Node.promote
  simp only [hp]
  rw [Node.setOwn_peer, Node.setPeer_peer_same (n.memPut _ _) _ _ _ hk, Node.setOwn_own_same, Node.setPeer_own, Node.memPut_own,
    Node.memBytes_congr ((Node.setOwn_mem _ _ _).trans (Node.setPeer_mem _ _ _ _))]
  exact ⟨rfl, rfl, rfl, Node.memBytes_memPut _ (Node.memBytes_length _ _ _), rfl⟩

theorem Node.tablesNotHeld_effect (reason : Nat) (hk : n.handleOf k ≠ 255) : ((n.tablesNotHeld l k reason).peer l k).held = false
    ∧ (n.tablesNotHeld l k reason).line.units = n.line.units ++ [n.loadReqBody l k (n.peer l k).epoch reason] := by
  unfold Node.tablesNotHeld
  dsimp only
  rw [Node.loadUnit_peer, Node.setPeer_peer_same _ _ _ _ hk, Node.loadUnit_units, Node.setPeer_units]
  exact ⟨rfl, rfl⟩

theorem Node.goNull_of_isNull (h : (n.own l).isNull = true) : n.goNull l = n := by
  unfold Node.goNull
  exact if_pos h

theorem Node.goNull_effect (h : (n.own l).isNull = false) : ((n.goNull l).own l).isNull = true ∧ ((n.goNull l).own l).switch = none
    ∧ (n.goNull l).line.units.length = n.line.units.length + 1 := by
  unfold Node.goNull
  dsimp only
  rw [if_neg (by simp [h]), Node.loadUnit_own, Node.setOwn_own_same, Node.loadUnit_units, Node.setOwn_units, List.length_append,
    List.length_singleton]
  exact ⟨rfl, rfl, rfl⟩

theorem Node.leaveNull_effect (h : (n.own l).isNull = true) : ((n.leaveNull l).own l).isNull = false ∧ ((n.leaveNull l).own l).epoch = 0
    ∧ (n.leaveNull l).line.units.length = n.line.units.length + 1 := by
  unfold Node.leaveNull
  dsimp only
  rw [if_neg (by simp [h]), Node.loadUnit_own, Node.setOwn_own_same, Node.loadUnit_units, Node.setOwn_units, List.length_append,
    List.length_singleton]
  exact ⟨rfl, rfl, rfl⟩

end

/-! ### The receiver's commands -/

/-- PENDING_TABLE_TIMEOUT on the node (R69). -/
def Node.promoteDue (n : Node) (l k : Nat) : Node :=
  match (n.peer l k).pend with
  | some (_, ns, _) => if ns + 16 ≤ n.cycle then n.promote l k else n
  | none => n

section
variable {s : State} {u : UnitRx} {line : Line} {l t k i : Nat} (hr : s.node.running = true)
include hr

theorem loadSet_reply (ht : s.node.TakesLoadSet u.body) (hf : bit (le u.body 11 1) 1 = true) (hl : le u.body 1 1 % 2 = l)
    (hb : le u.body 2 1 = t) : Does (.loadSet u) s (fun m => m.memBytes (s.node.chanAddr l t + 0xF80) 496 = slice u.body 12 496
      ∧ (m.peer l t).held = true ∧ (m.peer l t).epoch = le u.body 3 1 / 16) := by
  have hlen : (slice u.body 12 496).length = 496 := slice_length ht.whole
  refine does_onNode (f := (·.loadSet u.body)) hr rfl ?_
  rw [Node.loadSet_reply ht hf hl hb, Node.memBytes_congr (Node.setPeer_mem _ _ _ _),
    Node.setPeer_peer_same (s.node.memPut _ _) _ _ _ (by rw [← hb]; exact ht.peer)]
  exact ⟨Node.memBytes_memPut _ hlen, rfl, rfl⟩

theorem loadSet_pooled (ht : s.node.TakesLoadSet u.body) (hf : bit (le u.body 11 1) 1 = false) (hl : le u.body 1 1 % 2 = l)
    (hb : le u.body 2 1 = t) (hpend : (s.node.peer l t).pend = none)
    (hnew : (s.node.peer l t).epoch ≠ le u.body 3 1 % 16 ∨ (s.node.peer l t).held = false)
    (hlo : ∀ j, j < i → s.node.poolHeld l j = true) (hi : s.node.poolHeld l i = false) (h8 : i < 8) : Does (.loadSet u) s (fun m =>
      (m.peer l t).pend = some (le u.body 3 1 % 16, le u.body 4 4, i)
      ∧ m.memBytes (s.node.chanAddr l s.node.nodeNum + 0x3E0 + 496 * i) 496 = slice u.body 12 496
      ∧ m.line.units = s.node.line.units ++ [s.node.loadAckBody l t (le u.body 3 1 % 16) false (le u.body 4 4)]) := by
  refine does_onNode (f := (·.loadSet u.body)) hr rfl ?_
  rw [Node.loadSet_announced ht hf hl hb hpend hnew, find_free_some hlo hi h8, Option.elim_some, Node.ackUnit, Node.loadUnit_peer,
    Node.poolTable_pend (by rw [← hb]; exact ht.peer), Node.memBytes_congr (Node.loadUnit_mem _ _),
    Node.poolTable_memBytes (slice_length ht.whole), Node.loadUnit_units, Node.poolTable_units, Node.loadAckBody_congr Node.poolTable_regs]
  exact ⟨rfl, rfl, rfl⟩

theorem loadSet_busy (ht : s.node.TakesLoadSet u.body) (hf : bit (le u.body 11 1) 1 = false) (hl : le u.body 1 1 % 2 = l)
    (hb : le u.body 2 1 = t) (hpend : (s.node.peer l t).pend = none)
    (hnew : (s.node.peer l t).epoch ≠ le u.body 3 1 % 16 ∨ (s.node.peer l t).held = false)
    (hfull : ∀ j, j < 8 → s.node.poolHeld l j = true) : Does (.loadSet u) s (fun m =>
      m.line.units = s.node.line.units ++ [s.node.loadAckBody l t (le u.body 3 1 % 16) true (le u.body 4 4)]
      ∧ m.mem = s.node.mem ∧ m.line.peers = s.node.line.peers) := by
  refine does_onNode (f := (·.loadSet u.body)) hr rfl ?_
  rw [Node.loadSet_announced ht hf hl hb hpend hnew, find_free_none hfull]
  exact ⟨rfl, rfl, rfl⟩

theorem loadReq_answered (hb : 8 ≤ u.body.length) (hn : le u.body 3 1 = s.node.nodeNum) (h0 : s.node.nodeNum ≠ 0) :
    Does (.loadReq u) s (fun m => m.regs = s.node.regs ∧ m.mem = s.node.mem ∧ m.line.units = s.node.line.units
      ++ [s.node.loadSetBody (le u.body 1 1 % 2) (s.node.own (le u.body 1 1 % 2)).epoch 0 0 (s.node.own (le u.body 1 1 % 2)).isNull true
        (s.node.ownTable (le u.body 1 1 % 2))]) := by
  refine does_onNode (f := (·.loadReq u.body)) hr rfl ?_
  unfold Node.loadReq
  rw [if_neg (by simp [hn, h0, Nat.not_lt.mpr hb])]
  exact ⟨rfl, rfl, rfl⟩

theorem pendingTableTimeout_due {e c j : Nat} (hp : (s.node.peer (lineNo line) k).pend = some (e, c, j)) (hk : s.node.handleOf k ≠ 255)
    (hc : c + 16 ≤ s.node.cycle) : Does (.pendingTableTimeout line k) s (fun m =>
      (m.peer (lineNo line) k).pend = none ∧ (m.peer (lineNo line) k).epoch = e ∧ (m.peer (lineNo line) k).held = true
      ∧ m.memBytes (s.node.chanAddr (lineNo line) k + 0xF80) 496
        = s.node.memBytes (s.node.chanAddr (lineNo line) s.node.nodeNum + 0x3E0 + 496 * j) 496
      ∧ (m.own (lineNo line)).pool = (s.node.own (lineNo line)).pool.filter (fun x => x.1 ≠ j)) := by
  refine does_onNode (f := (·.promoteDue (lineNo line) k)) hr rfl ?_
  simp only [Node.promoteDue, hp, hc, if_true]
  exact Node.promote_pending hp hk

theorem pendingTableTimeout_early {e c j : Nat} (hp : (s.node.peer (lineNo line) k).pend = some (e, c, j)) (hc : s.node.cycle < c + 16) :
    Answers (.pendingTableTimeout line k) s s.node := by
  refine answers_same (f := (·.promoteDue (lineNo line) k)) hr rfl ?_
  simp only [Node.promoteDue, hp, Nat.not_le.mpr hc, if_false]

theorem tablesNotHeld_due (hh : (s.node.peer (lineNo line) k).held = true)
    (hc : (s.node.peer (lineNo line) k).lastValid + 256 ≤ s.node.cycle) (hk : s.node.handleOf k ≠ 255) :
    Does (.tablesNotHeld line k) s (fun m => (m.peer (lineNo line) k).held = false
      ∧ m.line.units = s.node.line.units ++ [s.node.loadReqBody (lineNo line) k (s.node.peer (lineNo line) k).epoch 2]) := by
  refine does_onNode (f := fun n => if (n.peer (lineNo line) k).held && (n.peer (lineNo line) k).lastValid + 256 ≤ n.cycle
    then n.tablesNotHeld (lineNo line) k 2 else n) hr rfl ?_
  rw [if_pos (by simp [hh, hc])]
  exact Node.tablesNotHeld_effect 2 hk

theorem lineNullTable_taken (h : (s.node.own (lineNo line)).isNull = false) : Does (.lineNullTable line) s (fun m =>
      (m.own (lineNo line)).isNull = true ∧ (m.own (lineNo line)).switch = none
      ∧ m.line.units.length = s.node.line.units.length + 1) :=
  does_onNode (f := (·.goNull (lineNo line))) hr rfl (Node.goNull_effect h)

theorem lineNullTable_kept (h : (s.node.own (lineNo line)).isNull = true) : Answers (.lineNullTable line) s s.node :=
  answers_same (f := (·.goNull (lineNo line))) hr rfl (Node.goNull_of_isNull h)

theorem lineNullLeave_left (h : (s.node.own (lineNo line)).isNull = true) : Does (.lineNullLeave line) s (fun m =>
      (m.own (lineNo line)).isNull = false ∧ (m.own (lineNo line)).epoch = 0 ∧ m.line.units.length = s.node.line.units.length + 1) :=
  does_onNode (f := (·.leaveNull (lineNo line))) hr rfl (Node.leaveNull_effect h)

end

/-- Settles O31: one theorem for each clause. -/
theorem loadingReceiver : Obligations.LoadingReceiver := by
  unfold Obligations.LoadingReceiver
  intro s u line k i hr n b l t p epoch ns held o q
  refine ⟨fun hb hn hp hs => ⟨fun hf => ?_, fun hf hpend hnew => ⟨fun hlo hi h8 => ?_, fun hfull => ?_⟩⟩, loadReq_answered hr,
    fun _ _ _ hp hk hc => pendingTableTimeout_due hr hp hk hc, fun _ _ _ hp hc => pendingTableTimeout_early hr hp hc,
    tablesNotHeld_due hr, lineNullTable_taken hr, fun h => ⟨lineNullLeave_left hr h, lineNullTable_kept hr h⟩⟩
  · exact loadSet_reply hr ⟨hb, hn, hp, hs⟩ hf rfl rfl
  · exact loadSet_pooled hr ⟨hb, hn, hp, hs⟩ hf rfl rfl hpend hnew hlo hi h8
  · exact loadSet_busy hr ⟨hb, hn, hp, hs⟩ hf rfl rfl hpend hnew hfull

end Sys2Proof.Machine
end

section
/-! PROOFS. What the shared operations of inauguration do (03_barel_cycle.md R130, R135; 04_inauguration.md R150, R154, R161, R169, R189): line
settings, the guardian's events, aborts, LISTEN, WAIT, and the contention frames of a walk. -/

namespace Sys2Proof.Machine

/-! ### Register fields -/

theorem Node.on_congr {n m : Node} {f : Field} (h : m.rd f = n.rd f) : m.on f = n.on f := by rw [Node.on, h, Node.on]

theorem Node.rd_of_reg {n m : Node} {f : Field} (h : m.reg f.addr = n.reg f.addr) : m.rd f = n.rd f := by rw [Node.rd, h, Node.rd]

theorem Node.uid_congr {n m : Node} (h : m.otp = n.otp) : m.uid = n.uid := by simp only [Node.uid, Node.otpWord, h]

theorem ofLe_lt (bs : List Byte) : ofLe bs < 256 ^ bs.length := by
  induction bs with
  | nil => simp [ofLe]
  | cons b bs ih =>
    have hb : b.toNat < 256 := b.isLt
    rw [ofLe, List.length_cons, pow_succ]
    omega

theorem le_lt (bs : List Byte) (o len : Nat) : le bs o len < 256 ^ len :=
  (ofLe_lt _).trans_le (Nat.pow_le_pow_right (by decide) (by simp [slice]))

/-! ### Operations on registers and the guardian's state alone -/

/-- `m` is `n` but for registers that `S` names and what the guardian holds of itself. -/
structure SetsOnly (S : Nat → Bool) (n m : Node) : Prop where
  node : m = { n with regs := m.regs, grd := m.grd }
  reg : ∀ a, S a = false → m.reg a = n.reg a

namespace SetsOnly

variable {S : Nat → Bool} {n m k : Node}

theorem refl (n : Node) : SetsOnly S n n := ⟨rfl, fun _ _ => rfl⟩

theorem trans (h : SetsOnly S n m) (g : SetsOnly S m k) : SetsOnly S n k :=
  ⟨by rw [g.node, h.node], fun a ha => (g.reg a ha).trans (h.reg a ha)⟩

theorem wr (n : Node) (f : Field) (v : Nat) (h : S f.addr = true) : SetsOnly S n (n.wr f v) :=
  ⟨rfl, fun a ha => n.wr_reg_ne f v a (by rintro rfl; simp [h] at ha)⟩

theorem count (n : Node) (f : Field) (h : S f.addr = true) : SetsOnly S n (n.count f) := wr n f _ h

theorem grd (n : Node) (g : GrdState) : SetsOnly S n { n with grd := g } := ⟨rfl, fun _ _ => rfl⟩

theorem cond {c : Prop} [Decidable c] {a b : Node} (ha : SetsOnly S n a) (hb : SetsOnly S n b) : SetsOnly S n (if c then a else b) := by
  split <;> assumption

theorem rd (h : SetsOnly S n m) {f : Field} (hf : S f.addr = false) : m.rd f = n.rd f := Node.rd_of_reg (h.reg _ hf)

theorem ina (h : SetsOnly S n m) : m.ina = n.ina := by rw [h.node]

theorem otp (h : SetsOnly S n m) : m.otp = n.otp := by rw [h.node]

theorem out (h : SetsOnly S n m) : m.out = n.out := by rw [h.node]

end SetsOnly

/-! ### Line settings (R44) -/

/-- The LINE_CTRL words of the attachments. -/
def lineCtrlReg (a : Nat) : Bool := (upTo 4).any (fun k => a = 0x40010000 + 0x1000 * k)

theorem lineCtrlReg_of_lt {k : Nat} (h : k < 4) : lineCtrlReg (0x40010000 + 0x1000 * k) = true :=
  List.any_eq_true.mpr ⟨k, List.mem_range.mpr h, by simp⟩

theorem Node.lineMode_setsOnly (n : Node) {l : Nat} (hl : l < 2) (m : LineMode) : SetsOnly lineCtrlReg n (n.lineMode l m) := by
  have hatt : ∀ (n : Node) k t rx sd, k < 4 → SetsOnly lineCtrlReg n (n.setAtt k t rx sd) := fun n k t rx sd hk =>
    ((SetsOnly.wr n (LINE_CTRL.TERM k) _ (lineCtrlReg_of_lt hk)).trans (SetsOnly.wr _ (LINE_CTRL.RXMODE k) _ (lineCtrlReg_of_lt hk))).trans
      (SetsOnly.wr _ (LINE_CTRL.SIDE k) _ (lineCtrlReg_of_lt hk))
  have hboth : ∀ v t rx sd t' rx' sd', SetsOnly lineCtrlReg n (((n.wr (LINE_CTRL.RELAY_OPEN l) v).setAtt l t rx sd).setAtt (l + 2) t' rx' sd') :=
    fun v t rx sd t' rx' sd' => ((SetsOnly.wr n _ v (lineCtrlReg_of_lt (by omega))).trans (hatt _ l t rx sd (by omega))).trans
      (hatt _ (l + 2) t' rx' sd' (by omega))
  cases m with
  | endNode rear => cases rear <;> exact hboth _ _ _ _ _ _ _
  | _ => exact hboth _ _ _ _ _ _ _

theorem Node.bothLines_setsOnly (n : Node) (m : LineMode) : SetsOnly lineCtrlReg n (n.bothLines m) :=
  (n.lineMode_setsOnly (by decide) m).trans (Node.lineMode_setsOnly _ (by decide) m)

section
variable (n : Node) (m : LineMode)

theorem Node.bothLines_rd {f : Field} (h : lineCtrlReg f.addr = false) : (n.bothLines m).rd f = n.rd f := (n.bothLines_setsOnly m).rd h

@[simp] theorem Node.bothLines_ina : (n.bothLines m).ina = n.ina := (n.bothLines_setsOnly m).ina

@[simp] theorem Node.bothLines_otp : (n.bothLines m).otp = n.otp := (n.bothLines_setsOnly m).otp

end

/-! ### The guardian (R129, R130, R135) -/

/-- The guardian's block. -/
def guardReg (a : Nat) : Bool := 0x4001E000 ≤ a && a < 0x4001F000

theorem Node.guardAlign_setsOnly (n : Node) (cycle : Nat) (offset : Int) (own : Bool) :
    SetsOnly guardReg n (n.guardAlign cycle offset own) := by
  unfold Node.guardAlign
  refine .cond (.refl n) (.cond ((SetsOnly.count n _ (by decide)).trans (.wr _ _ _ (by decide))) ?_)
  refine SetsOnly.trans ?_ (.cond (.wr _ _ _ (by decide)) (.refl _))
  refine SetsOnly.trans ?_ (.cond (.wr _ _ _ (by decide)) (.refl _))
  exact (((SetsOnly.grd n _).trans (.wr _ _ _ (by decide))).trans (.wr _ _ _ (by decide))).trans (.wr _ _ _ (by decide))

theorem Node.guardCycle_setsOnly (n : Node) : SetsOnly guardReg n n.guardCycle := by
  unfold Node.guardCycle
  refine SetsOnly.trans ?_ (.cond (.wr _ _ _ (by decide)) (.refl _))
  exact ((SetsOnly.wr n _ _ (by decide)).trans (.wr _ _ _ (by decide))).trans (.grd _ _)

theorem Node.rd_wr_guardCycle (n : Node) (v : Nat) : (n.wr GRD_CYCLE.VALUE v).rd GRD_CYCLE.VALUE = v % 4294967296 := by
  rw [Node.rd_wr_same _ _ _ (by decide)]
  simp [GRD_CYCLE.VALUE]

theorem Node.rd_withGrd (n : Node) (g : GrdState) (f : Field) : ({ n with grd := g } : Node).rd f = n.rd f := rfl

/-- The cycle passes by one. -/
theorem Node.guardCycle_cycle (n : Node) : n.guardCycle.rd GRD_CYCLE.VALUE = (n.rd GRD_CYCLE.VALUE + 1) % 4294967296 := by
  have hset : ∀ v, ((n.wr GRD_CYCLE.VALUE ((n.rd GRD_CYCLE.VALUE + 1) % 4294967296)).wr GRD_STATUS.HOLD v).rd GRD_CYCLE.VALUE
      = (n.rd GRD_CYCLE.VALUE + 1) % 4294967296 := fun v => by
    rw [Node.rd_wr_ne _ _ _ _ (by decide) (by decide), n.rd_wr_guardCycle, Nat.mod_mod]
  unfold Node.guardCycle
  dsimp only
  split
  · rw [Node.rd_wr_ne _ _ _ _ (by decide) (by decide), Node.rd_withGrd, hset]
  · rw [Node.rd_withGrd, hset]

/-- The node's own beacon leaves the guardian's cycle number (R130). -/
theorem Node.guardAlign_own_cycle (n : Node) : (n.guardAlign (n.rd GRD_CYCLE.VALUE) 0 true).rd GRD_CYCLE.VALUE = n.rd GRD_CYCLE.VALUE := by
  have hset : ∀ m : Node, (m.wr GRD_CYCLE.VALUE (n.rd GRD_CYCLE.VALUE)).rd GRD_CYCLE.VALUE = n.rd GRD_CYCLE.VALUE := fun m =>
    (m.rd_wr_same _ _ (by decide)).trans (Nat.mod_eq_of_lt (bits_lt _ _ _))
  unfold Node.guardAlign
  dsimp only
  split
  · rfl
  · rw [if_neg (by simp), if_neg (by simp)]
    split
    · rw [Node.rd_wr_ne _ _ _ _ (by decide) (by decide), hset]
    · exact hset _

section
variable (n : Node) (cycle : Nat) (offset : Int) (own : Bool)

theorem Node.guardAlign_rd {f : Field} (h : guardReg f.addr = false) : (n.guardAlign cycle offset own).rd f = n.rd f :=
  (n.guardAlign_setsOnly cycle offset own).rd h

@[simp] theorem Node.guardAlign_ina : (n.guardAlign cycle offset own).ina = n.ina := (n.guardAlign_setsOnly cycle offset own).ina

@[simp] theorem Node.guardAlign_out : (n.guardAlign cycle offset own).out = n.out := (n.guardAlign_setsOnly cycle offset own).out

theorem Node.guardCycle_rd {f : Field} (h : guardReg f.addr = false) : n.guardCycle.rd f = n.rd f := n.guardCycle_setsOnly.rd h

@[simp] theorem Node.guardCycle_ina : n.guardCycle.ina = n.ina := n.guardCycle_setsOnly.ina

@[simp] theorem Node.guardCycle_out : n.guardCycle.out = n.out := n.guardCycle_setsOnly.out

end

/-- What a set armed and committed with its own ID leaves: ARMED, and the commit cycle (R135). -/
theorem Node.guardArm_guardCommit {n : Node} {id m : Nat} (st : GrdStage) (hid : id < 4294967296) (hm : n.cycle + 2 ≤ m) :
    ((n.guardArm id st).guardCommit id m).on GRD_STATUS.ARMED = true ∧ ((n.guardArm id st).guardCommit id m).grd.commitAt = some m := by
  have hcycle : (n.guardArm id st).cycle = n.cycle :=
    (Node.rd_wr_ne _ _ _ _ (by decide) (by decide)).trans (Node.rd_wr_ne _ _ _ _ (by decide) (by decide))
  have harm : (n.guardArm id st).rd GRD_ARMID.VALUE = id := (Node.rd_wr_same _ _ _ (by decide)).trans (Nat.mod_eq_of_lt hid)
  have hon : (n.guardArm id st).rd GRD_STATUS.ARMED = 1 :=
    (Node.rd_wr_ne _ _ _ _ (by decide) (by decide)).trans (Node.rd_wr_same _ _ _ (by decide))
  unfold Node.guardCommit
  rw [if_neg (by rw [Node.guardArm, Node.wr_grd, Node.wr_grd]; simp), if_neg (by rw [harm]; simp), if_neg (by omega)]
  exact ⟨decide_eq_true hon, rfl⟩

/-! ### Calibrations and a ring aborted (R79, R493) -/

/-- The registers that aborts write: LINE_CALSTAT, AON's block, and what recording changes. -/
def abortReg (a : Nat) : Bool :=
  recReg a || (upTo 4).any (fun k => a = 0x40010064 + 0x1000 * k) || (0x40003000 ≤ a && a < 0x40004000)

/-- What an aborted calibration or ring leaves of INA, and of the registers. -/
structure AbortKeeps (n m : Node) : Prop where
  reg : ∀ a, abortReg a = false → m.reg a = n.reg a
  splitTrig : m.ina.splitTrig = n.ina.splitTrig

namespace AbortKeeps

variable {n m k : Node}

theorem refl (n : Node) : AbortKeeps n n := ⟨fun _ _ => rfl, rfl⟩

theorem trans (h : AbortKeeps n m) (g : AbortKeeps m k) : AbortKeeps n k :=
  ⟨fun a ha => (g.reg a ha).trans (h.reg a ha), g.splitTrig.trans h.splitTrig⟩

theorem of_eq (hr : m.regs = n.regs) (hs : m.ina.splitTrig = n.ina.splitTrig) : AbortKeeps n m :=
  ⟨fun a _ => by rw [Node.reg, hr, Node.reg], hs⟩

theorem cond {c : Prop} [Decidable c] {a b : Node} (ha : AbortKeeps n a) (hb : AbortKeeps n b) : AbortKeeps n (if c then a else b) := by
  split <;> assumption

theorem wr (n : Node) (f : Field) (v : Nat) (h : abortReg f.addr = true) : AbortKeeps n (n.wr f v) :=
  ⟨fun a ha => n.wr_reg_ne f v a (by rintro rfl; simp [h] at ha), rfl⟩

theorem raise (n : Node) (f : Field) (h : abortReg f.addr = true) : AbortKeeps n (n.raise f) := by
  refine (wr n f 1 h).trans ⟨fun a ha => (n.raise_recorded f).reg a ?_, by rw [Node.raise_ina, Node.wr_ina]⟩
  simp only [abortReg, Bool.or_eq_false_iff] at ha
  exact ha.1.1

theorem calInaug (n : Node) : AbortKeeps n n.calInaug := by
  refine List.foldlRecOn (motive := fun m : Node => AbortKeeps n m) _ _ (refl n) fun m hm k hk => hm.trans ?_
  have hreg : abortReg (LINE_CALSTAT.RESULT k).addr = true := by
    have hcal : (upTo 4).any (fun j => (LINE_CALSTAT.RESULT k).addr = 0x40010064 + 0x1000 * j) = true :=
      List.any_eq_true.mpr ⟨k, hk, by simp [LINE_CALSTAT.RESULT]⟩
    simp only [abortReg, hcal, Bool.or_true, Bool.true_or]
  unfold Node.calAbort
  refine cond (trans ?_ (wr _ (LINE_CALSTAT.RESULT k) 5 hreg)) (refl m)
  exact of_eq rfl rfl

theorem lullBack (n : Node) : AbortKeeps n n.lullBack := by
  unfold Node.lullBack
  refine cond (refl n) (trans ?_ ((wr _ AON_CNT_ABORTS.VALUE _ (by decide)).trans (raise _ _ (by decide))))
  refine trans ?_ (cond ?_ (refl _))
  · refine trans ?_ (of_eq (Node.updBar_regs _ _) (by rw [Node.updBar_ina]))
    refine trans ?_ (of_eq (Node.updLull_regs _ _) (by rw [Node.updLull_ina]))
    exact ((wr n _ _ (by decide)).trans (wr _ _ _ (by decide))).trans (wr _ _ _ (by decide))
  · exact of_eq rfl rfl

theorem ringAbort (n : Node) (cause num : Nat) : AbortKeeps n (n.ringAbort cause num) := by
  unfold Node.ringAbort
  split
  · exact refl n
  · refine trans ?_ (cond ((wr _ AON_CNT_ABORTS.VALUE _ (by decide)).trans (raise _ _ (by decide))) (lullBack _))
    exact of_eq rfl rfl

end AbortKeeps

section
variable (n : Node)

/-- An inauguration that begins sets INAUG; beside it, only what aborts change differs (R42, R79, R493). -/
theorem Node.inaugBegin_keeps : AbortKeeps (n.wr INA_STATUS.INAUG 1) n.inaugBegin := (AbortKeeps.calInaug _).trans (AbortKeeps.ringAbort _ _ _)

theorem Node.inaTrigger_keeps : AbortKeeps (n.raise INA_EVT.TRIG) n.inaTrigger := (AbortKeeps.calInaug _).trans (AbortKeeps.ringAbort _ _ _)

theorem Node.inaugBegin_rd {f : Field} (h : abortReg f.addr = false) : n.inaugBegin.rd f = (n.wr INA_STATUS.INAUG 1).rd f :=
  Node.rd_of_reg (n.inaugBegin_keeps.reg _ h)

theorem Node.inaTrigger_rd {f : Field} (h : abortReg f.addr = false) : n.inaTrigger.rd f = (n.raise INA_EVT.TRIG).rd f :=
  Node.rd_of_reg (n.inaTrigger_keeps.reg _ h)

/-! ### LISTEN (R154) -/

theorem Node.walkReset_rd (f : Field) : n.walkReset.rd f = n.rd f := rfl

/-- INA in LISTEN: INAUG stands, and the enable, the events and the counters are as before. -/
theorem Node.enterListen_rd : n.enterListen.inaState = 1 ∧ n.enterListen.on INA_STATUS.INAUG = true
    ∧ n.enterListen.rd INA_CTRL.EN = n.rd INA_CTRL.EN ∧ n.enterListen.rd INA_EVT.SCHMIS = n.rd INA_EVT.SCHMIS
    ∧ n.enterListen.rd INA_CNT_SCHMIS.VALUE = n.rd INA_CNT_SCHMIS.VALUE := by
  unfold Node.enterListen Node.inaState Node.on Node.inaGo
  simp (disch := decide) only [Node.rd_wr_ne, Node.rd_wr_same, Node.updIna_rd, Node.bothLines_rd, Node.inaugBegin_rd, Node.walkReset_rd]
  exact ⟨rfl, rfl, trivial, trivial, trivial⟩

/-! ### WAIT and WALKING (R154, R156 to R158, R161) -/

/-- INA in WAIT under candidate `uid`, before it looks whether to walk itself. -/
def Node.waiting (uid prio : Nat) : Node :=
  let n := ((n.walkReset.bothLines .unnumbered).inaGo 2).updIna (fun i => { i with walkUid := uid, walkPrio := prio, outward := none })
  ((n.wr INA_STATUS.LEAD 0).wr INA_STATUS.END 0).wr GRD_STATUS.LEAD 0

theorem Node.enterWait_eq (uid prio : Nat) : n.enterWait uid prio = (n.waiting uid prio).walkCheck := rfl

theorem Node.waiting_rd (uid prio : Nat) : (n.waiting uid prio).inaState = 2 ∧ (n.waiting uid prio).isLead = false
    ∧ (n.waiting uid prio).on GRD_STATUS.LEAD = false := by
  unfold Node.waiting Node.inaState Node.isLead Node.on Node.inaGo
  simp (disch := decide) only [Node.rd_wr_ne, Node.rd_wr_same, Node.updIna_rd]
  exact ⟨rfl, rfl, rfl⟩

theorem Node.waiting_walkUid (uid prio : Nat) : (n.waiting uid prio).ina.walkUid = uid ∧ (n.waiting uid prio).ina.walkPrio = prio := ⟨rfl, rfl⟩

theorem Node.ends_congr {n m : Node} (h : ∀ a, a < 4 → m.rd (LINE_STATUS.ZSENSE a) = n.rd (LINE_STATUS.ZSENSE a)) : m.ends = n.ends :=
  List.filter_congr fun a ha => by rw [h a (List.mem_range.mp ha)]

theorem lineCtrlReg_zsense (a : Nat) : lineCtrlReg (LINE_STATUS.ZSENSE a).addr = false := by
  rw [lineCtrlReg, List.any_eq_false]
  intro k _
  rw [decide_eq_true_eq, LINE_STATUS.ZSENSE]
  dsimp only
  omega

/-- ZSENSE shares no bit with a field outside the line attachments' blocks. -/
theorem Field.apart_zsense {f : Field} {a : Nat} (ha : a < 4) (h : 0x40014000 ≤ f.addr) : f.apart (LINE_STATUS.ZSENSE a) = true :=
  Field.apart_of_addr_ne (ne_of_gt (h.trans_lt' (by rw [LINE_STATUS.ZSENSE]; dsimp only; omega)))

theorem Node.waiting_ends (uid prio : Nat) : (n.waiting uid prio).ends = n.ends := by
  refine Node.ends_congr fun a ha => ?_
  have hz : ∀ f : Field, 0x40014000 ≤ f.addr → f.apart (LINE_STATUS.ZSENSE a) = true := fun f h => Field.apart_zsense ha h
  unfold Node.waiting Node.inaGo
  rw [Node.rd_wr_ne _ _ _ _ (by decide) (hz _ (by decide)), Node.rd_wr_ne _ _ _ _ (by decide) (hz _ (by decide)),
    Node.rd_wr_ne _ _ _ _ (by decide) (hz _ (by decide)), Node.updIna_rd, Node.rd_wr_ne _ _ _ _ (by decide) (hz _ (by decide)),
    Node.bothLines_rd _ _ (lineCtrlReg_zsense a), Node.walkReset_rd]

theorem Node.waiting_uid (uid prio : Nat) : (n.waiting uid prio).uid = n.uid := by
  refine Node.uid_congr ?_
  simp only [Node.waiting, Node.inaGo, Node.wr_otp, Node.updIna_otp, Node.bothLines_otp, Node.walkReset]

theorem Node.walkCheck_idle (h : n.ina.walkUid ≠ 0 ∨ n.ends = []) : n.walkCheck = n := by
  refine if_neg ?_
  rcases h with h | h <;> simp [h]

theorem Node.walkCheck_walks (hs : n.inaState = 2) (h0 : n.ina.walkUid = 0) (he : n.ends ≠ []) : n.walkCheck = n.startWalk :=
  if_pos (by simp [hs, h0, he])

/-- The node that walks: WALKING, lead, itself numbered 1 in car 1, the number 2 to be called (R156 to R158). -/
theorem Node.startWalk_effect : n.startWalk.inaState = 3 ∧ n.startWalk.isLead = true
    ∧ n.startWalk.ina.recs.map (fun r => (r.num, r.car, r.uid)) = [(1, 1, n.uid)] ∧ n.startWalk.ina.calling = 2
    ∧ n.startWalk.ina.callDue = true := by
  have hlead : ∀ m : Node, ((m.inaGo 3).wr INA_STATUS.LEAD 1).rd INA_STATUS.STATE = 3 ∧ ((m.inaGo 3).wr INA_STATUS.LEAD 1).on INA_STATUS.LEAD = true :=
    fun m => ⟨(Node.rd_wr_ne _ _ _ _ (by decide) (by decide)).trans (m.rd_wr_same _ _ (by decide)),
      decide_eq_true ((Node.rd_wr_same _ _ _ (by decide)))⟩
  unfold Node.startWalk Node.inaState Node.isLead
  dsimp only
  rw [Node.guardAlign_rd _ _ _ _ (by decide), Node.on_congr (Node.guardAlign_rd _ _ _ _ (by decide)), Node.guardAlign_ina]
  refine ⟨(hlead _).1, (hlead _).2, ?_, rfl, rfl⟩
  refine congrArg (fun u => [(1, 1, u)]) (Node.uid_congr ?_)
  rw [Node.wr_otp, Node.inaGo, Node.wr_otp]
  split
  · rw [Node.updIna_otp, Node.wr_otp, Node.bothLines_otp]
  · exact n.bothLines_otp _

/-- WAIT entered with no candidate to follow: a node that holds one termination walks, and every other one waits (R154, R156). -/
theorem Node.enterWait_free : (n.ends = [] → n.enterWait 0 0 = n.waiting 0 0) ∧ (n.ends ≠ [] → n.enterWait 0 0 = (n.waiting 0 0).startWalk) := by
  rw [n.enterWait_eq]
  refine ⟨fun h => Node.walkCheck_idle _ (.inr (by rwa [n.waiting_ends])), fun h => ?_⟩
  exact Node.walkCheck_walks _ (n.waiting_rd 0 0).1 rfl (by rwa [n.waiting_ends])

theorem Node.enterWait_follows {uid : Nat} (prio : Nat) (h : uid ≠ 0) : n.enterWait uid prio = n.waiting uid prio :=
  Node.walkCheck_idle _ (.inl h)

end

/-! ### Uncoupling (R150, R189) -/

section
variable (n : Node)

/-- `m` has the uncoupling trigger of `n`, and field `f` reads alike. -/
def TriggerKept (f : Field) (n m : Node) : Prop := m.ina.splitTrig = n.ina.splitTrig ∧ m.rd f = n.rd f

theorem TriggerKept.trans {f : Field} {n m k : Node} (h : TriggerKept f n m) (g : TriggerKept f m k) : TriggerKept f n k :=
  ⟨g.1.trans h.1, g.2.trans h.2⟩

theorem TriggerKept.cond {f : Field} {n a b : Node} {c : Prop} [Decidable c] (ha : TriggerKept f n a) (hb : TriggerKept f n b) :
    TriggerKept f n (if c then a else b) := by
  split <;> assumption

/-- Splits keep the trigger, and every field but those of line settings, INA_STATUS.END, the split's counter and its event. -/
theorem Node.splitCheck_keeps {f : Field} (hline : lineCtrlReg f.addr = false) (hrec : recReg f.addr = false)
    (hend : INA_STATUS.END.apart f = true) (hcnt : INA_CNT_SPLITS.VALUE.apart f = true) (hev : INA_EVT.SPLIT.apart f = true) :
    TriggerKept f n n.splitCheck := by
  have hside : ∀ (m : Node) (rear : Bool), TriggerKept f m (((m.makeEnd rear).count INA_CNT_SPLITS.VALUE).raise INA_EVT.SPLIT) := by
    intro m rear
    constructor
    · rw [Node.raise_ina, Node.count_ina]
      exact congrArg (·.splitTrig) (m.bothLines_ina _)
    · rw [Node.rd_raise _ _ _ (by decide) hrec hev, Node.rd_count_ne _ _ _ (by decide) hcnt]
      exact (Node.rd_wr_ne _ _ _ _ (by decide) hend).trans (m.bothLines_rd _ hline)
  unfold Node.splitCheck
  refine .cond ⟨rfl, rfl⟩ (List.foldlRecOn (motive := fun m : Node => TriggerKept f n m) _ _ ⟨rfl, rfl⟩ fun m hm rear _ => hm.trans ?_)
  split
  · exact (hside m rear).cond ⟨rfl, rfl⟩
  · exact ⟨rfl, rfl⟩

/-- An uncoupling trigger: the trigger noted, INA_EVT.TRIG, and ZSENSE as it is. -/
theorem Node.uncouple_effect (att : Fin 4) : n.uncouple.rd (LINE_STATUS.ZSENSE att) = n.rd (LINE_STATUS.ZSENSE att)
    ∧ n.uncouple.ina.splitTrig = true ∧ n.uncouple.on INA_EVT.TRIG = true := by
  have hz : ∀ att : Fin 4, recReg (LINE_STATUS.ZSENSE att).addr = false ∧ abortReg (LINE_STATUS.ZSENSE att).addr = false := by decide
  have hap : ∀ f : Field, 0x40014000 ≤ f.addr → f.apart (LINE_STATUS.ZSENSE att) = true := fun f h => Field.apart_zsense att.isLt h
  have hzs := Node.splitCheck_keeps (n.updIna (fun i => { i with splitTrig := true })).inaTrigger (lineCtrlReg_zsense att) (hz att).1
    (hap _ (by decide)) (hap _ (by decide)) (hap _ (by decide))
  have htrig := Node.splitCheck_keeps (n.updIna (fun i => { i with splitTrig := true })).inaTrigger (f := INA_EVT.TRIG) (by decide) (by decide)
    (by decide) (by decide) (by decide)
  refine ⟨?_, ?_, ?_⟩
  · rw [Node.uncouple, hzs.2, Node.inaTrigger_rd _ (hz att).2, Node.rd_raise _ _ _ (by decide) (hz att).1 (hap _ (by decide)), Node.updIna_rd]
  · rw [Node.uncouple, hzs.1, (Node.inaTrigger_keeps _).splitTrig, Node.raise_ina]
    rfl
  · rw [Node.uncouple, Node.on_congr htrig.2, Node.on_congr (Node.inaTrigger_rd _ (by decide)), Node.on_raise_same _ _ (by decide) rfl (by decide)]

/-! ### Impedance classes (R46, R150) -/

theorem Node.rd_wr_zsense (att v : Nat) : (n.wr (LINE_STATUS.ZSENSE att) v).rd (LINE_STATUS.ZSENSE att) = v % 4 :=
  n.rd_wr_same _ v (show 2 + 2 ≤ 32 by decide)

theorem Node.inaState_wr_zsense {att : Nat} (h : att < 4) (v : Nat) : (n.wr (LINE_STATUS.ZSENSE att) v).inaState = n.inaState :=
  Node.rd_wr_ne _ _ _ _ (show 2 + 2 ≤ 32 by decide) (Field.apart_of_addr_ne (by rw [LINE_STATUS.ZSENSE]; dsimp only [INA_STATUS.STATE]; omega))

theorem Node.committed_eq : n.committed = (decide (n.inaState = 6) || decide (n.inaState = 7)) := rfl

theorem Node.zsense_uncommitted {att : Nat} {cls : Nat} (ha : att < 4) (h2 : n.inaState ≠ 2) (hc : n.committed = false) :
    n.zsense att cls = n.wr (LINE_STATUS.ZSENSE att) cls := by
  have hc' : (n.wr (LINE_STATUS.ZSENSE att) cls).committed = false := by rw [Node.committed_eq, n.inaState_wr_zsense ha, ← n.committed_eq, hc]
  unfold Node.zsense
  dsimp only
  rw [if_neg (by rwa [n.inaState_wr_zsense ha]), if_neg (by simp [hc'])]

theorem Node.zsense_uncouples {att : Nat} {cls : Nat} (ha : att < 4) (hc : n.committed = true) (ho : n.ina.outward = none)
    (hne : n.rd (LINE_STATUS.ZSENSE att) ≠ cls) : n.zsense att cls = (n.wr (LINE_STATUS.ZSENSE att) cls).uncouple := by
  have hc' : (n.wr (LINE_STATUS.ZSENSE att) cls).committed = true := by rw [Node.committed_eq, n.inaState_wr_zsense ha, ← n.committed_eq, hc]
  have h2 : (n.wr (LINE_STATUS.ZSENSE att) cls).inaState ≠ 2 := by
    rw [Node.committed_eq] at hc'
    intro h
    simp [h] at hc'
  unfold Node.zsense
  dsimp only
  rw [if_neg h2, if_pos (by simp [hc', hne]), Node.wr_ina, ho]
  exact if_pos rfl

end

/-! ### INA enabled and disabled (R150, R193) -/

theorem Node.inaDisable_effect (n : Node) : n.inaDisable.inaState = 0 ∧ n.inaDisable.on INA_CTRL.EN = false ∧ n.inaDisable.isLead = false
    ∧ n.inaDisable.ina.junction = none ∧ n.inaDisable.ina.merge = none ∧ n.inaDisable.ina.outward = none ∧ n.inaDisable.ina.plan = none := by
  unfold Node.inaDisable Node.inaState Node.isLead Node.on Node.inaGo Node.wrB
  simp (disch := decide) only [Node.rd_wr_ne, Node.rd_wr_same, Node.updIna_rd, Node.bothLines_rd, Node.walkReset_rd]
  refine ⟨rfl, rfl, rfl, rfl, rfl, rfl, ?_⟩
  exact congrArg (·.plan) (Node.bothLines_ina (n.wr INA_CTRL.EN 0).walkReset .off)

theorem Node.inaEnable_unsealed {n : Node} (h : n.keySealed = false) : n.inaEnable = n.wr INA_CTRL.EN 1 := by
  have h' : (n.wr INA_CTRL.EN 1).keySealed = false := h
  exact if_neg (by simp [h'])

theorem Node.inaEnable_sealed {n : Node} (hk : n.keySealed = true) (hp : n.rd PAIR_STATUS.STATE ≠ 1) (h0 : n.inaState = 0) :
    n.inaEnable = (n.wr INA_CTRL.EN 1).enterListen.raise INA_EVT.TRIG := by
  have hk' : (n.wr INA_CTRL.EN 1).keySealed = true := hk
  have hp' : (n.wr INA_CTRL.EN 1).rd PAIR_STATUS.STATE ≠ 1 := by rwa [Node.rd_wr_ne _ _ _ _ (by decide) (by decide)]
  have h0' : (n.wr INA_CTRL.EN 1).inaState = 0 := (Node.rd_wr_ne _ _ _ _ (by decide) (by decide)).trans h0
  exact if_pos (by simp [hk', hp', h0'])

theorem Node.enterListen_trigger (n : Node) : ((n.wr INA_CTRL.EN 1).enterListen.raise INA_EVT.TRIG).inaState = 1
    ∧ ((n.wr INA_CTRL.EN 1).enterListen.raise INA_EVT.TRIG).on INA_CTRL.EN = true
    ∧ ((n.wr INA_CTRL.EN 1).enterListen.raise INA_EVT.TRIG).on INA_STATUS.INAUG = true
    ∧ ((n.wr INA_CTRL.EN 1).enterListen.raise INA_EVT.TRIG).on INA_EVT.TRIG = true := by
  obtain ⟨hst, hinaug, hen, -, -⟩ := (n.wr INA_CTRL.EN 1).enterListen_rd
  rw [Node.inaState, Node.rd_raise _ _ _ (by decide) (by decide) (by decide), Node.on_raise_ne _ _ _ (by decide) (by decide) (by decide),
    Node.on_raise_ne _ _ _ (by decide) (by decide) (by decide), Node.on_raise_same _ _ (by decide) rfl (by decide)]
  refine ⟨hst, ?_, hinaug, rfl⟩
  rw [Node.on, hen, Node.rd_wr_same _ _ _ (by decide)]
  rfl

/-! ### Contention frames (R122, R164) -/

theorem Node.onCont_good {n : Node} {f : ContRx} {ty : Nat} (h : n.goodCont f ty) (act : Node → Node) : n.onCont f ty act = act n := by
  obtain ⟨hgood, hty⟩ := h
  unfold Node.onCont
  rw [hgood]
  exact if_pos hty

/-- The first byte of a run that stands behind `pre`. -/
theorem le_one_append (pre rest : List Byte) (v : Nat) : le (pre ++ (leBytes 1 v ++ rest)) pre.length 1 = v % 256 := by
  simp [le, slice, leBytes, ofLe]

theorem le_one_first (rest : List Byte) (v : Nat) : le (leBytes 1 v ++ rest) 0 1 = v % 256 := le_one_append [] rest v

theorem Node.coldFrame_type (n : Node) (ty : Nat) (spec : List Byte) : le (n.coldFrame ty spec) 0 1 = ty % 256 := by
  unfold Node.coldFrame Node.contBytes
  simp only [List.append_assoc]
  rw [le_one_first]

theorem Node.coldFrame_spec (n : Node) (ty v : Nat) (spec : List Byte) : le (n.coldFrame ty (leBytes 1 v ++ spec)) 22 1 = v % 256 := by
  have hcut : (leBytes 1 v ++ spec ++ List.replicate 22 0).take 22 = leBytes 1 v ++ (spec ++ List.replicate 22 0).take 21 := rfl
  unfold Node.coldFrame Node.contBytes
  dsimp only
  rw [hcut]
  have hpre := le_one_append (leBytes 1 ty ++ leBytes 1 1 ++ leBytes 8 n.uid ++ leBytes 4 0 ++ leBytes 4 (n.rd GRD_CYCLE.VALUE)
    ++ leBytes 2 n.roleCode ++ leBytes 1 n.effPrio ++ [0])
  simp only [List.append_assoc] at hpre ⊢
  exact hpre _ v

theorem Node.emitAll_eq (l : List Nat) (cell : Nat) (bs : List Byte) (n : Node) : l.foldl (fun n a => n.emit (.contention a cell) bs) n
    = { n with out := n.out ++ l.map (fun a => ⟨.contention a cell, bs⟩) } := by
  induction l generalizing n with
  | nil => simp
  | cons a l ih => rw [List.foldl_cons, ih, Node.emit]; simp

theorem Node.emitCont_eq (n : Node) (cell : Nat) (bs : List Byte) :
    n.emitCont cell bs = { n with out := n.out ++ n.drivers.map (fun a => ⟨.contention a cell, bs⟩) } := Node.emitAll_eq _ cell bs n

section
variable (n : Node) (cell : Nat) (bs : List Byte)

@[simp] theorem Node.emitCont_rd (f : Field) : (n.emitCont cell bs).rd f = n.rd f := by rw [Node.emitCont_eq]; rfl

@[simp] theorem Node.emitCont_ina : (n.emitCont cell bs).ina = n.ina := by rw [Node.emitCont_eq]

theorem Node.emitCont_out : (n.emitCont cell bs).out = n.out ++ n.drivers.map (fun a => ⟨.contention a cell, bs⟩) := by rw [Node.emitCont_eq]

@[simp] theorem Node.emitCont_drivers : (n.emitCont cell bs).drivers = n.drivers := by rw [Node.emitCont_eq]; rfl

end

theorem Node.guardAlign_drivers (n : Node) (cycle : Nat) (offset : Int) (own : Bool) : (n.guardAlign cycle offset own).drivers = n.drivers := by
  have hrd : ∀ f : Field, guardReg f.addr = false → (n.guardAlign cycle offset own).rd f = n.rd f := fun f => n.guardAlign_rd cycle offset own
  have hline : ∀ a < 4, guardReg (0x40010000 + 0x1000 * a) = false := by decide
  unfold Node.drivers
  rw [Node.on_congr (hrd SYS_STATUS.BOOTFAIL (by decide))]
  split
  · rfl
  · refine List.filter_congr fun a ha => ?_
    have ha := hline a (List.mem_range.mp ha)
    rw [hrd (LINE_CTRL.RXMODE a) ha, Node.on_congr (hrd (LINE_CTRL.EN a) ha), Node.on_congr (hrd (LINE_CTRL.TXEN a) ha), Node.attShed, Node.shed,
      Node.on_congr (hrd PWR_STATUS.SHED (by decide)), hrd PWR_CTRL.SHEDLINE (by decide), Node.attShed, Node.shed]

/-! ### A call of the walking lead (R157, R158) -/

/-- The CAND of a walking lead that calls. -/
def Node.callCand (n : Node) : List Byte := n.coldFrame 0x64 (leBytes 1 n.ina.calling ++ (leBytes 1 n.ina.cars ++ leBytes 1 0))

/-- Its CALL. -/
def Node.callCall (n : Node) : List Byte := n.coldFrame 0x65 (leBytes 1 n.ina.calling ++ leBytes 1 n.ina.attempt)

/-- A node aligned as the walking lead's own beacon aligns it. -/
def Node.ownAligned (n : Node) : Node := n.guardAlign (n.rd GRD_CYCLE.VALUE) 0 true

/-- The frames of a call put out, and the call no longer due. -/
def Node.callSent (n : Node) : Node :=
  ((n.emitCont 0 n.callCand).emitCont 1 (n.emitCont 0 n.callCand).callCall).updIna (fun i => { i with callDue := false })

/-- The end of a cycle of the walk. -/
def Node.walkOn (n : Node) : Node :=
  (n.guardCycle.wr BAR_CYCLE.VALUE (n.guardCycle.rd GRD_CYCLE.VALUE)).updIna (fun i => { i with walkCycle := i.walkCycle + 1 })

theorem Node.walkCycle_calls {n : Node} (hs : n.inaState = 3) (he : n.ina.walkEnded = false) (hp : n.ina.plan = none) (hc : n.ina.calling ≠ 0)
    (hd : n.ina.callDue = true) : n.walkCycle = n.ownAligned.callSent.walkOn := by
  have hina : n.ownAligned.ina = n.ina := n.guardAlign_ina _ _ _
  unfold Node.walkCycle
  rw [if_neg (by simp [hs])]
  change Node.walkOn _ = _
  refine congrArg Node.walkOn ?_
  simp only [Node.guardAlign_ina, he, hp, hc, hd, Bool.false_and, Bool.false_eq_true, if_false, if_true]
  rw [Node.callSent, Node.callCand, Node.callCall, Node.emitCont_ina, hina]
  rfl

theorem Node.callSent_out {n : Node} {a : Nat} (ha : a ∈ n.drivers) : (⟨.contention a 0, n.callCand⟩ : Emission) ∈ n.callSent.out
    ∧ (⟨.contention a 1, (n.emitCont 0 n.callCand).callCall⟩ : Emission) ∈ n.callSent.out := by
  rw [Node.callSent, Node.updIna_out, Node.emitCont_out, Node.emitCont_out, Node.emitCont_drivers]
  simp [ha]

theorem Node.walkOn_cycle (n : Node) : n.walkOn.rd GRD_CYCLE.VALUE = (n.rd GRD_CYCLE.VALUE + 1) % 4294967296
    ∧ n.walkOn.cycle = n.walkOn.rd GRD_CYCLE.VALUE := by
  have hbar : n.walkOn.cycle = n.guardCycle.rd GRD_CYCLE.VALUE :=
    (Node.rd_wr_same _ _ _ (by decide)).trans (Nat.mod_eq_of_lt (bits_lt _ _ _))
  have hgrd : n.walkOn.rd GRD_CYCLE.VALUE = n.guardCycle.rd GRD_CYCLE.VALUE := Node.rd_wr_ne _ _ _ _ (by decide) (by decide)
  rw [hbar, hgrd]
  exact ⟨n.guardCycle_cycle, rfl⟩

theorem Node.callCand_spells (n : Node) : le n.callCand 0 1 = 0x64 ∧ le n.callCand 22 1 = n.ina.calling % 256 :=
  ⟨n.coldFrame_type _ _, n.coldFrame_spec _ _ _⟩

theorem Node.callCall_spells (n : Node) : le n.callCall 0 1 = 0x65 ∧ le n.callCall 22 1 = n.ina.calling % 256 :=
  ⟨n.coldFrame_type _ _, n.coldFrame_spec _ _ _⟩

end Sys2Proof.Machine
end

section
/-! PROOFS. INA enabled and disabled, and the walk of a cold inauguration (02_barel_line.md R46; 04_inauguration.md R150, R154, R156 to R162,
R164, R193): the commands in the order of the statement. -/

namespace Sys2Proof.Machine

/-! ### A candidate followed (R157, R161) -/

/-- The candidate of frame `f` followed: its CAND is the guardian's beacon. -/
def Node.followCand (n : Node) (f : ContRx) : Node :=
  let n := (n.guardAlign (le f.bytes 14 4) f.comb false).guardCycle
  (n.wr BAR_CYCLE.VALUE (n.rd GRD_CYCLE.VALUE)).updIna (fun i => { i with missRun := 0 })

section
variable (n : Node) (f : ContRx)

theorem Node.followCand_ina : (n.followCand f).ina = { n.ina with missRun := 0 } := by
  have h : ((n.guardAlign (le f.bytes 14 4) f.comb false).guardCycle).ina = n.ina := (Node.guardCycle_ina _).trans (Node.guardAlign_ina _ _ _ _)
  exact congrArg (fun i => ({ i with missRun := 0 } : InaState)) h

theorem Node.followCand_cycle : (n.followCand f).cycle = (n.followCand f).rd GRD_CYCLE.VALUE :=
  ((Node.rd_wr_same _ _ _ (by decide)).trans (Nat.mod_eq_of_lt (bits_lt _ _ _))).trans (Node.rd_wr_ne _ _ _ _ (by decide) (by decide)).symm

theorem Node.followCand_rd {g : Field} (hbar : BAR_CYCLE.VALUE.apart g = true) (hgrd : guardReg g.addr = false) : (n.followCand f).rd g = n.rd g :=
  (Node.rd_wr_ne _ _ _ _ (by decide) hbar).trans ((Node.guardCycle_rd _ hgrd).trans (Node.guardAlign_rd _ _ _ _ hgrd))

variable {n f}

/-- A node that waits follows the candidate it has, or the first it hears. -/
theorem Node.candRx_waiting (hs : n.inaState = 2) (h : n.ina.walkUid = contUid f.bytes ∨ n.ina.walkUid = 0) :
    ∃ m : Node, n.candRx f = m.followCand f ∧ m.ina.walkUid = contUid f.bytes ∧ m.inaState = 2 := by
  unfold Node.candRx
  dsimp only
  rw [if_neg (by simp [hs]), if_pos hs]
  by_cases hu : n.ina.walkUid = contUid f.bytes
  · rw [if_pos hu]
    exact ⟨n, rfl, hu, hs⟩
  · rw [if_neg hu, if_pos (by simp [h.resolve_left hu])]
    exact ⟨_, rfl, rfl, hs⟩

/-- A walking lead that hears a stronger one waits for it. -/
theorem Node.candRx_yields (hs : n.inaState = 3) (h : Machine.stronger (contPrio f.bytes) (contUid f.bytes) n.ina.walkPrio n.ina.walkUid = true) :
    n.candRx f = (n.enterWait (contUid f.bytes) (contPrio f.bytes)).followCand f := by
  unfold Node.candRx
  dsimp only
  rw [if_neg (by simp [hs]), if_neg (by simp [hs]), if_pos (by simp [hs]), if_neg (by simp [hs]), if_pos h]
  rfl

/-! ### A number taken (R158, R160) -/

theorem Node.sendAnswer_ina : n.sendAnswer.ina = n.ina := Node.emitCont_ina _ _ _

theorem Node.sendAnswer_rd (g : Field) : n.sendAnswer.rd g = n.rd g := Node.emitCont_rd _ _ _ _

theorem Node.callRx_takes (hs : n.inaState = 2) (hu : n.ina.walkUid = 0 ∨ n.ina.walkUid = contUid f.bytes)
    (ha : le f.bytes 22 1 ∉ n.ina.answers) (h0 : le f.bytes 22 1 ≠ 0) : (n.callRx f).inaState = 4 ∧ (n.callRx f).ina.walkUid = contUid f.bytes
      ∧ (n.callRx f).ina.taken = le f.bytes 22 1 ∧ (n.callRx f).ina.heardAt = f.att.val := by
  unfold Node.callRx
  dsimp only
  rw [if_pos (by simpa [hs, ha, h0] using hu), Node.sendAnswer_ina, Node.inaState, Node.sendAnswer_rd, Node.updIna_rd, Node.inaGo,
    Node.rd_wr_same _ _ _ (by decide)]
  exact ⟨rfl, rfl, rfl, rfl⟩

/-- The record of the node that answers frame `f` in car `car` (R159, R165). -/
def answerRec (f : ContRx) (car : Nat) : DirRec :=
  { num := le f.bytes 22 1, car := car, chain := le f.bytes 22 1, sideB := bit (le f.bytes 23 1) 3, role := bits (le f.bytes 23 1) 1 2
    reversed := bit (le f.bytes 23 1) 0, endNode := false, lead := false, reserved := false, delay := delayOf f.comb
    prio := contPrio f.bytes, cls := le f.bytes 32 2, uid := contUid f.bytes }

/-- The walking lead numbers a node without a partner in the next car, and calls the next number. -/
theorem Node.answerRx_numbers (hs : n.inaState = 3) (he : n.ina.walkEnded = false) (hn : le f.bytes 22 1 = n.ina.calling)
    (hr : ∀ r, r ∈ n.ina.recs → r.num ≠ le f.bytes 22 1) (hp : le f.bytes 24 8 = 0) (hc : n.ina.cars < 64) (h128 : le f.bytes 22 1 ≠ 128) :
    (n.answerRx f).ina.calling = le f.bytes 22 1 + 1 ∧ (n.answerRx f).ina.attempt = 1 ∧ (n.answerRx f).ina.callDue = true
      ∧ (n.answerRx f).ina.cars = n.ina.cars + 1 ∧ (n.answerRx f).ina.recs = n.ina.recs ++ [answerRec f (n.ina.cars + 1)] := by
  have hfree : ∀ r, r ∈ n.ina.recs → r.num ≠ n.ina.calling := fun r hm => hn ▸ hr r hm
  unfold Node.answerRx
  dsimp only
  rw [if_pos hs, if_neg (by simpa [he, hn] using hfree), if_neg (by simp [hc.ne]), if_neg h128, if_pos hp]
  exact ⟨rfl, rfl, rfl, Nat.max_eq_right (Nat.le_succ _), rfl⟩

theorem Node.answerRx_notes (hs : n.inaState ≠ 3) : n.answerRx f = { n with ina := { n.ina with answers := n.ina.answers ++ [le f.bytes 22 1] } } :=
  if_neg hs

theorem Node.callTimeout_idle (hs : n.inaState ≠ 3) : n.callTimeout = n := if_pos (by simp [hs])

theorem Node.callTimeout_again (hs : n.inaState = 3) (he : n.ina.walkEnded = false) (hc : n.ina.calling ≠ 0) (hd : n.ina.callDue = false) :
    n.callTimeout = if n.ina.attempt < 3 then { n with ina := { n.ina with attempt := n.ina.attempt + 1, callDue := true } }
      else { n with ina := { n.ina with calling := 0 } } :=
  if_neg (by simp [hs, he, hc, hd])

theorem Node.endRx_effect (hs : n.inaState = 4) (hu : n.ina.walkUid = contUid f.bytes) (ht : n.ina.taken = le f.bytes 22 1) :
    (n.endRx f).on INA_STATUS.END = true ∧ (n.endRx f).ina.outward = some (if n.ina.heardAt < 2 then 2 else 0) := by
  have heq : n.endRx f = n.makeEnd (decide (n.ina.heardAt < 2)) := if_pos (by simp [hs, hu, ht])
  rw [heq]
  refine ⟨decide_eq_true (Node.rd_wr_same _ _ _ (by decide)), ?_⟩
  by_cases h : n.ina.heardAt < 2 <;> simp [Node.makeEnd, h]

theorem Node.listenEnd_taken (hs : n.inaState = 1) (hh : n.ina.heardCand = false) : n.listenEnd = n.enterWait 0 0 := if_pos (by simp [hs, hh])

theorem Node.candLoss_idle (h4 : n.inaState ≠ 4) (h2 : n.inaState ≠ 2) : n.candLoss = n := if_neg (by simp [h4, h2])

theorem Node.candLoss_taken (hs : n.inaState = 4) : n.candLoss = n.enterWait 0 0 := if_pos (by simp [hs])

/-! ### The walk's commit (R162, R168, R169) -/

theorem Node.stageFor_of_member {dir : List DirRec} {es : List SchEnt} {k : Nat} (h : dir.any (fun r => r.uid = n.uid && !r.reserved) = true) :
    ∃ st, n.stageFor dir es k = some st := by
  have hfind : (dir.find? (fun r => r.uid = n.uid && !r.reserved)).isSome = true := by rwa [List.find?_isSome, ← List.any_eq_true]
  obtain ⟨r, hr⟩ := Option.isSome_iff_exists.mp hfind
  exact ⟨_, by rw [Node.stageFor, hr]; rfl⟩

/-- A plan whose directory holds the node arms the guardian for its cycle, and stands ready. -/
theorem Node.prepare_arms {p : CommitPlan} (hm : p.dir.any (fun r => r.uid = n.uid && !r.reserved) = true) (hid : p.newId < 4294967296)
    (hc : n.cycle + 2 ≤ p.m) : (n.prepare p).on GRD_STATUS.ARMED = true ∧ (n.prepare p).grd.commitAt = some p.m
      ∧ (n.prepare p).ina.plan = some { p with ready := true } := by
  unfold Node.prepare
  dsimp only
  split
  · rename_i hnone
    obtain ⟨st, hst⟩ := Node.stageFor_of_member hm
    exact absurd (hst.symm.trans hnone) (Option.some_ne_none st)
  · rename_i st _
    obtain ⟨harmed, hcommit⟩ := Node.guardArm_guardCommit st hid hc
    exact ⟨harmed, hcommit, rfl⟩

/-- SCH refused: counted, its event, and LISTEN (R169). -/
theorem Node.schRefuse_listens : n.schRefuse.enterListen.inaState = 1 ∧ n.schRefuse.enterListen.on INA_EVT.SCHMIS = true
    ∧ Counted INA_CNT_SCHMIS.VALUE n n.schRefuse.enterListen := by
  obtain ⟨hst, -, -, hev, hcnt⟩ := n.schRefuse.enterListen_rd
  refine ⟨hst, (Node.on_congr hev).trans (Node.on_raise_same _ _ (by decide) rfl (by decide)), ?_⟩
  rw [Counted, hcnt, Node.schRefuse, Node.rd_raise _ _ _ (by decide) (by decide) (by decide), n.rd_count_same _ (by decide)]

section
variable (hs : n.inaState = 4) (hu : n.ina.walkUid = contUid f.bytes) (hp : n.ina.plan = none)
include hs hu hp

/-- CCOMMIT at a node that has taken a number and holds no plan (R162, R168, R169). -/
theorem Node.ccommitRx_eq : n.ccommitRx f = if !n.ina.dirNew.any (fun r => r.uid = n.uid) then n.enterListen
    else if n.ina.dirNew.length ≠ le f.bytes 42 1 then n
    else if anyConflict (n.schFor 0 n.ina.dirNew).1 || schCrc (n.schFor 0 n.ina.dirNew).1 ≠ le f.bytes 38 4 then n.schRefuse.enterListen
    else n.prepare ⟨le f.bytes 22 4, le f.bytes 22 4, le f.bytes 26 4, le f.bytes 30 8, 1, 0, le f.bytes 42 1, le f.bytes 43 1, le f.bytes 38 4,
      true, false, n.ina.dirNew, (n.schFor 0 n.ina.dirNew).1, (n.schFor 0 n.ina.dirNew).2⟩ :=
  if_neg (by simp [hs, hu, hp])

theorem Node.ccommitRx_foreign (h : n.ina.dirNew.any (fun r => r.uid = n.uid) = false) : (n.ccommitRx f).inaState = 1 := by
  rw [Node.ccommitRx_eq hs hu hp, if_pos (by simp [h])]
  exact n.enterListen_rd.1

theorem Node.ccommitRx_refuses (h : n.ina.dirNew.any (fun r => r.uid = n.uid) = true) (hl : n.ina.dirNew.length = le f.bytes 42 1)
    (hc : schCrc (n.schFor 0 n.ina.dirNew).1 ≠ le f.bytes 38 4) : n.ccommitRx f = n.schRefuse.enterListen := by
  rw [Node.ccommitRx_eq hs hu hp, if_neg (by simp [h]), if_neg (by simp [hl]), if_pos (by simp [hc])]

theorem Node.ccommitRx_prepares (h : n.ina.dirNew.any (fun r => r.uid = n.uid && !r.reserved) = true) (hl : n.ina.dirNew.length = le f.bytes 42 1)
    (hconf : anyConflict (n.schFor 0 n.ina.dirNew).1 = false) (hc : schCrc (n.schFor 0 n.ina.dirNew).1 = le f.bytes 38 4)
    (hm : n.cycle + 2 ≤ le f.bytes 22 4) : (n.ccommitRx f).on GRD_STATUS.ARMED = true ∧ (n.ccommitRx f).grd.commitAt = some (le f.bytes 22 4)
      ∧ ∃ p, (n.ccommitRx f).ina.plan = some p ∧ p.m = le f.bytes 22 4 ∧ p.newId = le f.bytes 26 4 ∧ p.nonce = le f.bytes 30 8
        ∧ p.dir = n.ina.dirNew ∧ p.sch = (n.schFor 0 n.ina.dirNew).1 ∧ p.ready = true := by
  have hmem : n.ina.dirNew.any (fun r => r.uid = n.uid) = true := by
    obtain ⟨r, hr, hru⟩ := List.any_eq_true.mp h
    exact List.any_eq_true.mpr ⟨r, hr, (Bool.and_eq_true_iff.mp hru).1⟩
  rw [Node.ccommitRx_eq hs hu hp, if_neg (by simp [hmem]), if_neg (by simp [hl]), if_neg (by simp [hconf, hc])]
  obtain ⟨harmed, hcommit, hplan⟩ := Node.prepare_arms (n := n) (p := ⟨le f.bytes 22 4, le f.bytes 22 4, le f.bytes 26 4, le f.bytes 30 8, 1, 0,
    le f.bytes 42 1, le f.bytes 43 1, le f.bytes 38 4, true, false, n.ina.dirNew, (n.schFor 0 n.ina.dirNew).1, (n.schFor 0 n.ina.dirNew).2⟩)
    h (le_lt _ _ 4) hm
  exact ⟨harmed, hcommit, _, hplan, rfl, rfl, rfl, rfl, rfl, rfl⟩

end
end

/-! ### The commands -/

/-- WAIT with no candidate to follow, as the node's terminations decide (R154, R156 to R158). -/
theorem Node.enterWait_free_effect (n : Node) : (n.ends = [] → (n.enterWait 0 0).ina.walkUid = 0 ∧ (n.ends = [] → (n.enterWait 0 0).inaState = 2)
      ∧ (n.enterWait 0 0).on GRD_STATUS.LEAD = false)
    ∧ (n.ends ≠ [] → (n.enterWait 0 0).inaState = 3 ∧ (n.enterWait 0 0).isLead = true
      ∧ (n.enterWait 0 0).ina.recs.map (fun r => (r.num, r.car, r.uid)) = [(1, 1, n.uid)] ∧ (n.enterWait 0 0).ina.calling = 2
      ∧ (n.enterWait 0 0).ina.callDue = true) := by
  obtain ⟨hwait, hwalk⟩ := n.enterWait_free
  refine ⟨fun he => ?_, fun he => ?_⟩
  · obtain ⟨hst, -, hlead⟩ := n.waiting_rd 0 0
    rw [hwait he]
    exact ⟨(n.waiting_walkUid 0 0).1, fun _ => hst, hlead⟩
  · rw [hwalk he, ← n.waiting_uid 0 0]
    exact (n.waiting 0 0).startWalk_effect

section
variable {s : State} {f : ContRx} (hr : s.node.running = true)
include hr

/-- A command that is a good contention frame acts as its meaning says. -/
theorem does_onCont {c : Instr} {ty : Nat} {act : Node → Node} {P : Node → Prop} (hc : exec c s = s.onNode (fun n => n.onCont f ty act))
    (hg : s.node.goodCont f ty) (hp : P (act s.node)) : Does c s P :=
  does_onNode hr hc (by rwa [Node.onCont_good hg])

theorem answers_onCont {c : Instr} {ty : Nat} {act : Node → Node} {m : Node} (hc : exec c s = s.onNode (fun n => n.onCont f ty act))
    (hg : s.node.goodCont f ty) (hm : act s.node = m) : Answers c s m :=
  answers_onNode hr hc ((Node.onCont_good hg _).trans hm)

theorem listenTimeout_idle (h : s.node.inaState ≠ 1 ∨ s.node.ina.heardCand = true) : Answers .listenTimeout s s.node := by
  refine answers_same (f := (·.listenEnd)) hr rfl (if_neg ?_)
  rcases h with h | h <;> simp [h]

theorem candSend_calls (hs : s.node.inaState = 3) (he : s.node.ina.walkEnded = false) (hp : s.node.ina.plan = none)
    (hc : s.node.ina.calling ≠ 0) (hd : s.node.ina.callDue = true) (hdr : s.node.drivers ≠ []) : Does .candSend s (fun m =>
      (∃ a x y, (⟨.contention a 0, x⟩ : Emission) ∈ m.out ∧ le x 0 1 = 0x64 ∧ le x 22 1 = s.node.ina.calling % 256
        ∧ (⟨.contention a 1, y⟩ : Emission) ∈ m.out ∧ le y 0 1 = 0x65 ∧ le y 22 1 = s.node.ina.calling % 256)
      ∧ m.ina.callDue = false ∧ m.rd GRD_CYCLE.VALUE = (s.node.rd GRD_CYCLE.VALUE + 1) % 4294967296 ∧ m.cycle = m.rd GRD_CYCLE.VALUE) := by
  obtain ⟨a, ha⟩ := List.exists_mem_of_ne_nil _ hdr
  have hina : s.node.ownAligned.ina = s.node.ina := s.node.guardAlign_ina _ _ _
  obtain ⟨hx, hy⟩ := s.node.ownAligned.callSent_out (a := a) (by rwa [Node.ownAligned, Node.guardAlign_drivers])
  obtain ⟨hxt, hxn⟩ := s.node.ownAligned.callCand_spells
  obtain ⟨hyt, hyn⟩ := (s.node.ownAligned.emitCont 0 s.node.ownAligned.callCand).callCall_spells
  rw [Node.emitCont_ina] at hyn
  rw [hina] at hxn hyn
  have hout : s.node.ownAligned.callSent.walkOn.out = s.node.ownAligned.callSent.out := Node.guardCycle_out _
  have hcycle : s.node.ownAligned.callSent.rd GRD_CYCLE.VALUE = s.node.rd GRD_CYCLE.VALUE := by
    rw [Node.callSent, Node.updIna_rd, Node.emitCont_rd, Node.emitCont_rd, Node.ownAligned, Node.guardAlign_own_cycle]
  obtain ⟨hgrd, hbar⟩ := s.node.ownAligned.callSent.walkOn_cycle
  refine does_onNode (f := (·.walkCycle)) hr rfl ?_
  rw [Node.walkCycle_calls hs he hp hc hd, hout]
  refine ⟨⟨a, _, _, hx, hxt, hxn, hy, hyt, hyn⟩, ?_, ?_, hbar⟩
  · exact congrArg (·.callDue) (Node.guardCycle_ina s.node.ownAligned.callSent)
  · rw [hgrd, hcycle]

theorem cand_follows (hg : s.node.goodCont f 0x64) (hs : s.node.inaState = 2)
    (hu : s.node.ina.walkUid = contUid f.bytes ∨ s.node.ina.walkUid = 0) : Does (.cand f) s (fun m =>
      m.ina.walkUid = contUid f.bytes ∧ m.ina.missRun = 0 ∧ m.cycle = m.rd GRD_CYCLE.VALUE ∧ m.inaState = 2) := by
  obtain ⟨m, heq, huid, hst⟩ := Node.candRx_waiting hs hu
  refine does_onCont hr (act := (·.candRx f)) rfl hg ?_
  rw [heq, m.followCand_ina f]
  exact ⟨huid, rfl, m.followCand_cycle f, (m.followCand_rd f (by decide) (by decide)).trans hst⟩

theorem cand_yields (hg : s.node.goodCont f 0x64) (hs : s.node.inaState = 3) (h0 : contUid f.bytes ≠ 0)
    (h : stronger (contPrio f.bytes) (contUid f.bytes) s.node.ina.walkPrio s.node.ina.walkUid = true) : Does (.cand f) s (fun m =>
      m.inaState = 2 ∧ m.ina.walkUid = contUid f.bytes ∧ m.ina.walkPrio = contPrio f.bytes ∧ m.isLead = false) := by
  obtain ⟨hst, hlead, -⟩ := s.node.waiting_rd (contUid f.bytes) (contPrio f.bytes)
  refine does_onCont hr (act := (·.candRx f)) rfl hg ?_
  rw [Node.candRx_yields hs h, s.node.enterWait_follows _ h0, Node.followCand_ina, Node.inaState, Node.followCand_rd _ _ (by decide) (by decide),
    Node.isLead, Node.on_congr (Node.followCand_rd _ _ (by decide) (by decide))]
  exact ⟨hst, rfl, rfl, hlead⟩

theorem callTimeout_again (hs : s.node.inaState = 3) (he : s.node.ina.walkEnded = false) (hc : s.node.ina.calling ≠ 0)
    (hd : s.node.ina.callDue = false) :
    (s.node.ina.attempt < 3 → Answers .callTimeout s { s.node with ina := { s.node.ina with attempt := s.node.ina.attempt + 1, callDue := true } })
      ∧ (3 ≤ s.node.ina.attempt → Answers .callTimeout s { s.node with ina := { s.node.ina with calling := 0 } }) := by
  have heq := Node.callTimeout_again hs he hc hd
  exact ⟨fun h => answers_onNode hr rfl (heq.trans (if_pos h)), fun h => answers_onNode hr rfl (heq.trans (if_neg (Nat.not_lt.mpr h)))⟩

theorem dirrec_kept (hg : s.node.goodCont f 0x68) (hs : s.node.inaState = 4) (hu : s.node.ina.walkUid = contUid f.bytes) :
    Answers (.dirrec f) s { s.node with ina := { s.node.ina with
      dirNew := s.node.ina.dirNew.filter (fun r => r.num ≠ (dirOf (slice f.bytes 22 16)).num) ++ [dirOf (slice f.bytes 22 16)] } } :=
  answers_onCont hr (act := (·.dirrecRx f)) rfl hg (if_pos (by simp [hs, hu]))

end

/-- Settles O36: one theorem for each clause. -/
theorem walk : Obligations.Walk := by
  unfold Obligations.Walk
  intro s by_ f att cls hr n st i b uid num inWait walks
  refine ⟨fun hk hp h0 => ?_, fun hk => ?_, ?_, fun hs hh => ?_, listenTimeout_idle hr, fun h2 hc => ?_, fun hc ho hne => ?_,
    candSend_calls hr, fun hs => ⟨?_, ?_⟩, fun hg => ⟨fun hs => ?_, cand_follows hr hg, cand_yields hr hg⟩, fun hg hs hu ha h0 => ?_,
    fun hg hs he hn hrec hp hc h128 => ?_, fun hg hs => ?_, callTimeout_again hr, fun hg hs hu ht => ?_, fun hs => ?_, fun h4 h2 => ?_,
    dirrec_kept hr, fun hg hs hu hp => ⟨fun hm hl hconf hcrc hcyc => ?_, fun hm => ?_, fun hm hl hcrc => ?_⟩⟩
  · exact does_onNode (f := (·.inaEnable)) hr rfl (by rw [Node.inaEnable_sealed hk hp h0]; exact n.enterListen_trigger)
  · exact answers_onNode hr rfl (Node.inaEnable_unsealed hk)
  · exact does_onNode (f := (·.inaDisable)) hr rfl n.inaDisable_effect
  · exact does_onNode (f := (·.listenEnd)) hr rfl (by rw [Node.listenEnd_taken hs hh]; exact n.enterWait_free_effect)
  · exact answers_onNode hr rfl (n.zsense_uncommitted att.isLt h2 hc)
  · refine does_onNode (f := (·.zsense att cls.toNat)) hr rfl ?_
    obtain ⟨hz, htrig, hev⟩ := (n.wr (LINE_STATUS.ZSENSE att) cls.toNat).uncouple_effect att
    rw [n.zsense_uncouples att.isLt hc ho hne]
    exact ⟨hz.trans ((n.rd_wr_zsense att _).trans (Nat.mod_eq_of_lt cls.isLt)), htrig, hev⟩
  · exact answers_same (f := (·.walkCycle)) hr rfl (if_pos hs)
  · exact answers_same (f := (·.callTimeout)) hr rfl (Node.callTimeout_idle hs)
  · exact answers_onCont hr (act := (·.candRx f)) rfl hg (if_pos hs)
  · exact does_onCont hr (act := (·.callRx f)) rfl hg (Node.callRx_takes hs hu ha h0)
  · obtain ⟨hcall, hatt, hdue, hcars, hrecs⟩ := Node.answerRx_numbers hs he hn hrec hp hc h128
    exact does_onCont hr (act := (·.answerRx f)) rfl hg ⟨hcall, hatt, hdue, hcars, _, hrecs, rfl, rfl, rfl, rfl, rfl⟩
  · exact answers_onCont hr (act := (·.answerRx f)) rfl hg (Node.answerRx_notes hs)
  · exact does_onCont hr (act := (·.endRx f)) rfl hg (Node.endRx_effect hs hu ht)
  · exact does_onNode (f := (·.candLoss)) hr rfl (by rw [Node.candLoss_taken hs]; exact n.enterWait_free_effect)
  · exact answers_same (f := (·.candLoss)) hr rfl (Node.candLoss_idle h4 h2)
  · exact does_onCont hr (act := (·.ccommitRx f)) rfl hg (Node.ccommitRx_prepares hs hu hp hm hl hconf hcrc hcyc)
  · exact does_onCont hr (act := (·.ccommitRx f)) rfl hg (Node.ccommitRx_foreign hs hu hp hm)
  · exact does_onCont hr (act := (·.ccommitRx f)) rfl hg (by rw [Node.ccommitRx_refuses hs hu hp hm hl hcrc]; exact Node.schRefuse_listens)

end Sys2Proof.Machine
end

section
/-! PROOFS. The guardian's clock, staging set, latch and switches (03_barel_cycle.md R130, R131, R135 to R138, R149). -/

namespace Sys2Proof.Machine

/-! ### Counters and conditional writes -/

theorem Node.count_counted (n : Node) (f : Field) (h : f.lo + f.width ≤ 32) : Counted f n (n.count f) := n.rd_count_same f h

/-- A field reads as before a conditional write of another. -/
theorem Node.rd_ite_wr_ne {c : Prop} [Decidable c] (n : Node) (f g : Field) (v : Nat) (h : f.lo + f.width ≤ 32) (hd : f.apart g = true) :
    (if c then n.wr f v else n).rd g = n.rd g := by
  split
  · exact n.rd_wr_ne f g v h hd
  · rfl

theorem Node.grd_ite_wr {c : Prop} [Decidable c] (n : Node) (f : Field) (v : Nat) : (if c then n.wr f v else n).grd = n.grd := by
  split <;> rfl

/-- A command of the guardian's clock on a node out of reset completes. -/
theorem does_onGuard {c : Instr} {s : State} {f : Node → Node} {P : Node → Prop} (hh : s.node.boot.held = false)
    (hc : exec c s = s.onGuard f) (hp : P (f s.node)) : Does c s P :=
  ⟨f s.node, by rw [hc, State.onGuard, State.always, hh]; rfl, hp⟩

/-! ### What the guardian's operations leave of the rest -/

theorem SetsOnly.mem {S : Nat → Bool} {n m : Node} (h : SetsOnly S n m) : m.mem = n.mem := by rw [h.node]

section
variable (n : Node)

/-! ### Alignment (R130, R131) -/

theorem Node.guardAlign_off (cycle : Nat) (offset : Int) (own : Bool) (h : n.rd GRD_STATUS.STATE = 0) : n.guardAlign cycle offset own = n :=
  if_pos h

theorem Node.guardAlign_accepts {cycle : Nat} {offset : Int} {own : Bool} (hc : cycle < 4294967296) (h0 : n.rd GRD_STATUS.STATE ≠ 0)
    (h : (n.rd GRD_STATUS.STATE = 5 ∨ n.grd.everAligned = false) ∨ (offset.natAbs ≤ 4000 ∧ n.rd GRD_CYCLE.VALUE = cycle)) :
    (n.guardAlign cycle offset own).on GRD_STATUS.ALIGNED = true ∧ (n.guardAlign cycle offset own).rd GRD_STATUS.HOLD = 0
      ∧ (n.guardAlign cycle offset own).rd GRD_CYCLE.VALUE = cycle ∧ (n.guardAlign cycle offset own).grd.everAligned = true
      ∧ (n.guardAlign cycle offset own).rd GRD_STATUS.STATE
        = (if n.rd GRD_STATUS.STATE = 5 then (if n.rd GRD_COMPID.VALUE = 0 then 1 else 2) else n.rd GRD_STATUS.STATE) := by
  have htake : ¬ (!(decide (n.rd GRD_STATUS.STATE = 5) || !n.grd.everAligned)
      && (decide (4000 < offset.natAbs) || decide (n.rd GRD_CYCLE.VALUE ≠ cycle))) = true := by
    rcases h with (h | h) | ⟨h, h'⟩
    · simp [h]
    · simp [h]
    · simp [h']; omega
  unfold Node.guardAlign Node.on Node.grdHome
  rw [if_neg h0, if_neg htake]
  simp (disch := decide) only [Node.rd_ite_wr_ne, Node.grd_ite_wr, Node.rd_wr_ne, Node.rd_wr_same, Node.wr_grd, Node.rd_withGrd]
  refine ⟨rfl, rfl, Nat.mod_eq_of_lt hc, trivial, ?_⟩
  split
  · rw [Node.rd_wr_same _ _ _ (by decide)]
    split <;> rfl
  · simp (disch := decide) only [Node.rd_wr_ne, Node.rd_withGrd]

theorem Node.guardAlign_rejects {cycle : Nat} {offset : Int} {own : Bool} (h0 : n.rd GRD_STATUS.STATE ≠ 0)
    (hfresh : ¬ (n.rd GRD_STATUS.STATE = 5 ∨ n.grd.everAligned = false)) (hnear : ¬ (offset.natAbs ≤ 4000 ∧ n.rd GRD_CYCLE.VALUE = cycle)) :
    n.guardAlign cycle offset own = (n.count GRD_ALIGNREJ.VALUE).wr GRD_STATUS.ALIGNED 0 := by
  obtain ⟨h5, hever⟩ := not_or.mp hfresh
  have hfar : 4000 < offset.natAbs ∨ n.rd GRD_CYCLE.VALUE ≠ cycle := by omega
  unfold Node.guardAlign
  rw [if_neg h0, if_pos (by simpa [h5, hever] using hfar)]

theorem Node.guardUnaligned_closes (hh : 32 ≤ n.rd GRD_STATUS.HOLD) (he : n.grd.everAligned = true)
    (hs : n.rd GRD_STATUS.STATE = 1 ∨ n.rd GRD_STATUS.STATE = 2) :
    n.guardUnaligned.rd GRD_STATUS.STATE = 5 ∧ n.guardUnaligned.on GRD_STATUS.ALIGNED = false := by
  unfold Node.guardUnaligned
  rw [if_pos (by simpa [hh, he] using hs), Node.on]
  simp (disch := decide) only [Node.rd_wr_ne, Node.rd_wr_same]
  exact ⟨rfl, rfl⟩

/-! ### The staging set (R135) -/

theorem Node.guardArm_setsOnly (id : Nat) (g : GrdStage) : SetsOnly guardReg n (n.guardArm id g) :=
  ((SetsOnly.grd n _).trans (.wr _ _ _ (by decide))).trans (.wr _ _ _ (by decide))

theorem Node.guardArm_effect {id : Nat} (hid : id < 4294967296) (g : GrdStage) :
    (n.guardArm id g).on GRD_STATUS.ARMED = true ∧ (n.guardArm id g).rd GRD_ARMID.VALUE = id
      ∧ (n.guardArm id g).grd.stage = some g ∧ (n.guardArm id g).grd.armedAt = n.rd GRD_CYCLE.VALUE
      ∧ (n.guardArm id g).rd GRD_STATUS.STATE = n.rd GRD_STATUS.STATE := by
  unfold Node.guardArm Node.on
  simp (disch := decide) only [Node.rd_wr_ne, Node.rd_wr_same, Node.rd_withGrd, Node.wr_grd]
  exact ⟨rfl, Nat.mod_eq_of_lt hid, trivial, trivial, trivial⟩

/-- `m` is `n` with its staging set discarded and counted (R135). -/
structure Discarded (n m : Node) : Prop where
  stage : m.grd.stage = none
  commitAt : m.grd.commitAt = none
  armed : m.on GRD_STATUS.ARMED = false
  counted : Counted GRD_REFUSED.VALUE n m
  state : m.rd GRD_STATUS.STATE = n.rd GRD_STATUS.STATE
  mem : m.mem = n.mem
  out : m.out = n.out

theorem Node.guardDiscard_discarded : Discarded n n.guardDiscard := by
  have hrd : ∀ f : Field, GRD_STATUS.ARMED.apart f = true → GRD_ARMID.VALUE.apart f = true → GRD_REFUSED.VALUE.apart f = true →
      n.guardDiscard.rd f = n.rd f := fun f h1 h2 h3 =>
    (Node.rd_count_ne _ _ f (by decide) h3).trans ((Node.rd_wr_ne _ _ f _ (by decide) h2).trans (Node.rd_wr_ne _ _ f _ (by decide) h1))
  have harmed : n.guardDiscard.rd GRD_STATUS.ARMED = 0 := by
    unfold Node.guardDiscard
    simp (disch := decide) only [Node.rd_count_ne, Node.rd_wr_ne, Node.rd_wr_same]
    rfl
  refine ⟨rfl, rfl, by rw [Node.on, harmed]; rfl, ?_, hrd _ (by decide) (by decide) (by decide), rfl, rfl⟩
  refine (Node.count_counted _ _ (by decide)).trans ?_
  simp (disch := decide) only [Node.rd_wr_ne, Node.rd_withGrd]

section
variable {n} {id cycle : Nat} {g : GrdStage}

theorem Node.guardCommit_unstaged (h : n.grd.stage = none) : n.guardCommit id cycle = n.count GRD_REFUSED.VALUE := if_pos (by rw [h]; rfl)

theorem Node.guardCommit_taken (h : n.grd.stage = some g) (hid : n.rd GRD_ARMID.VALUE = id) (hc : n.cycle + 2 ≤ cycle) :
    n.guardCommit id cycle = { n with grd := { n.grd with commitAt := some cycle } } := by
  unfold Node.guardCommit
  rw [if_neg (by simp [h]), if_neg (by simp [hid]), if_neg (by omega)]

theorem Node.guardCommit_refused (h : n.grd.stage = some g) (hbad : n.rd GRD_ARMID.VALUE ≠ id ∨ cycle < n.cycle + 2) :
    n.guardCommit id cycle = n.guardDiscard := by
  unfold Node.guardCommit
  rw [if_neg (by simp [h])]
  split
  · rfl
  · rename_i hid
    rw [if_pos (hbad.resolve_left hid)]

end

/-! ### A staging set goes into service (R134, R135, R148) -/

/-- The window words from `base` on take their values, and nothing else changes. -/
theorem Node.loadWindows_reg (base : Nat) (ws : List Nat) (a : Nat) : (n.loadWindows base ws).reg a
    = if base ≤ a ∧ a < base + 256 ∧ (a - base) % 4 = 0 then BitVec.ofNat 32 (nth ws ((a - base) / 4)) else n.reg a := by
  have hfold : ∀ k, ((upTo k).foldl (fun n m => n.setReg (base + 4 * m) (BitVec.ofNat 32 (nth ws m))) n).reg a
      = if base ≤ a ∧ a < base + 4 * k ∧ (a - base) % 4 = 0 then BitVec.ofNat 32 (nth ws ((a - base) / 4)) else n.reg a := by
    intro k
    induction k with
    | zero => rw [if_neg (by omega)]; rfl
    | succ k ih =>
      rw [upTo, List.range_succ, List.foldl_append, List.foldl_cons, List.foldl_nil]
      by_cases ha : a = base + 4 * k
      · subst ha
        rw [Node.setReg_reg_same, if_pos (by omega), Nat.add_sub_cancel_left, Nat.mul_div_cancel_left _ (by decide)]
      · rw [Node.setReg_reg_ne _ _ _ _ ha]
        refine ih.trans (if_congr ?_ rfl rfl)
        omega
  exact hfold 64

theorem Node.loadWindows_grd (base : Nat) (ws : List Nat) : (n.loadWindows base ws).grd = n.grd :=
  List.foldlRecOn (motive := fun m : Node => m.grd = n.grd) _ _ rfl fun _ hm _ _ => hm

/-- The own and takeover windows of a set loaded. -/
def Node.windowsLoaded (g : GrdStage) : Node := (n.loadWindows 0x4001E100 g.own).loadWindows 0x4001E200 g.tko

theorem Node.windowsLoaded_rd (g : GrdStage) {f : Field} (h : f.addr < 0x4001E100) : (n.windowsLoaded g).rd f = n.rd f := by
  refine Node.rd_of_reg ?_
  rw [Node.windowsLoaded, Node.loadWindows_reg, if_neg (by omega), Node.loadWindows_reg, if_neg (by omega)]

theorem Node.windowsLoaded_windows (g : GrdStage) (k : Fin 64) :
    (n.windowsLoaded g).reg (0x4001E100 + 4 * k) = BitVec.ofNat 32 (nth g.own k)
      ∧ (n.windowsLoaded g).reg (0x4001E200 + 4 * k) = BitVec.ofNat 32 (nth g.tko k) := by
  have hk := k.isLt
  have hdiv : ∀ base, (base + 4 * k.val - base) / 4 = k := by omega
  unfold Node.windowsLoaded
  rw [Node.loadWindows_reg, Node.loadWindows_reg, Node.loadWindows_reg, if_neg (by omega), if_pos (by omega), if_pos (by omega), hdiv, hdiv]
  exact ⟨rfl, rfl⟩

/-- A node whose window words are loaded takes the rest of the set: counter, N, own number, ranging advance, LEAD, and its state. -/
def Node.setEntered (g : GrdStage) (c : Nat) : Node :=
  let n : Node := { n with grd := { n.grd with stage := none, commitAt := none, stretch := g.stretch } }
  let n := (n.wr GRD_COMPID.VALUE (n.rd GRD_ARMID.VALUE)).wr GRD_STATUS.ARMED 0
  let n := (n.wr GRD_ARMID.VALUE 0).wr GRD_CYCLE.VALUE c
  let n := (n.wr GRD_SELF.VALUE (g.node + 256 * g.count)).wr GRD_ADVANCE.VALUE g.advance
  let n := n.wr GRD_STATUS.UNGUARDED (sat 8 g.unguarded)
  let n := if g.lead then n.wr GRD_STATUS.LEAD 1 else n
  if n.rd GRD_STATUS.STATE = 1 then n.wr GRD_STATUS.STATE 2 else n

theorem Node.guardTake_eq (g : GrdStage) (c : Nat) : n.guardTake g c = (n.windowsLoaded g).setEntered g c := rfl

theorem Node.setEntered_setsOnly (g : GrdStage) (c : Nat) : SetsOnly (fun a => a < 0x4001E100) n (n.setEntered g c) := by
  unfold Node.setEntered
  refine SetsOnly.trans ?_ (.cond (.wr _ _ _ (by decide)) (.refl _))
  refine SetsOnly.trans ?_ (.cond (.wr _ _ _ (by decide)) (.refl _))
  iterate 7 refine SetsOnly.trans ?_ (.wr _ _ _ (by decide))
  exact .grd _ _

theorem Node.setEntered_effect (g : GrdStage) {c : Nat} (hc : c < 4294967296) :
    (n.setEntered g c).rd GRD_COMPID.VALUE = n.rd GRD_ARMID.VALUE ∧ (n.setEntered g c).on GRD_STATUS.ARMED = false
      ∧ (n.setEntered g c).grd.stage = none ∧ (n.setEntered g c).rd GRD_CYCLE.VALUE = c
      ∧ (n.setEntered g c).rd GRD_STATUS.STATE = (if n.rd GRD_STATUS.STATE = 1 then 2 else n.rd GRD_STATUS.STATE)
      ∧ (g.node < 256 → g.count < 256 → (n.setEntered g c).rd GRD_SELF.VALUE = g.node + 256 * g.count) := by
  unfold Node.setEntered Node.on
  simp (disch := decide) only [Node.rd_ite_wr_ne, Node.grd_ite_wr, Node.rd_wr_ne, Node.rd_wr_same, Node.wr_grd, Node.rd_withGrd]
  refine ⟨Nat.mod_eq_of_lt (bits_lt _ _ _), rfl, trivial, Nat.mod_eq_of_lt hc, ?_, fun hn hk => Nat.mod_eq_of_lt ?_⟩
  · split
    · rw [Node.rd_wr_same _ _ _ (by decide)]
      rfl
    · simp (disch := decide) only [Node.rd_ite_wr_ne, Node.rd_wr_ne, Node.rd_withGrd]
  · simp only [GRD_SELF.VALUE]
    omega

/-! ### Blocked requests and the latch (R136) -/

theorem Node.guardLatch_recorded : Recorded ((n.wr GRD_STATUS.STATE 3).count GRD_LATCH.VALUE) n.guardLatch :=
  (Node.fixedRecord_recorded _ _ _).trans (Node.sysFault_recorded _ _)

theorem Node.probationFail_idle (h : n.pair.probation = none) : n.probationFail = n := if_neg (by simp [h])

/-- The request noted and counted. -/
def Node.blockNoted (p : Nat) : Node :=
  let n := n.updBar (fun b => { b with blockedPos := b.blockedPos ++ [p] })
  (n.wr GRD_STATUS.BLOCKED (sat 8 (n.rd GRD_STATUS.BLOCKED + 1))).count GRD_BLOCKED.VALUE

theorem Node.blockNoted_effect (p : Nat) (h : n.rd GRD_STATUS.BLOCKED < 255) :
    (n.blockNoted p).rd GRD_STATUS.BLOCKED = n.rd GRD_STATUS.BLOCKED + 1 ∧ Counted GRD_BLOCKED.VALUE n (n.blockNoted p)
      ∧ (n.blockNoted p).rd GRD_STATUS.STATE = n.rd GRD_STATUS.STATE := by
  unfold Node.blockNoted
  refine ⟨?_, (Node.count_counted _ _ (by decide)).trans ?_, ?_⟩
  · rw [Node.rd_count_ne _ _ _ (by decide) (by decide), Node.rd_wr_same _ _ _ (by decide), Node.updBar_rd, sat, if_pos (by omega)]
    exact Nat.mod_eq_of_lt (show n.rd GRD_STATUS.BLOCKED + 1 < 2 ^ 8 by omega)
  · rw [Node.rd_wr_ne _ _ _ _ (by decide) (by decide), Node.updBar_rd]
  · simp (disch := decide) only [Node.rd_count_ne, Node.rd_wr_ne, Node.updBar_rd]

/-! ### CLOSE and REARM (R137) -/

theorem Node.guardClose_effect (h : n.rd GRD_STATUS.STATE ≠ 0) : n.guardClose.rd GRD_STATUS.STATE = 4
    ∧ ∀ a, a ≠ GRD_STATUS.STATE.addr → n.guardClose.reg a = n.reg a := by
  rw [Node.guardClose, if_neg h, Node.rd_wr_same _ _ _ (by decide)]
  exact ⟨rfl, fun a ha => n.wr_reg_ne _ _ a ha⟩

theorem Node.guardRearm_effect (h : n.rd GRD_STATUS.STATE = 3 ∨ n.rd GRD_STATUS.STATE = 4) : n.guardRearm.rd GRD_STATUS.BLOCKED = 0
    ∧ n.guardRearm.rd GRD_STATUS.STATE
      = (if n.rd GRD_COMPID.VALUE = n.rd INA_COMPID.VALUE ∧ n.rd GRD_COMPID.VALUE ≠ 0 then 2 else 1) := by
  unfold Node.guardRearm
  rw [if_pos (by simpa using h)]
  simp (disch := decide) only [Node.rd_wr_ne, Node.rd_wr_same]
  refine ⟨rfl, ?_⟩
  simp only [Bool.and_eq_true, decide_eq_true_eq]
  split <;> rfl

theorem Node.guardRearm_idle (h3 : n.rd GRD_STATUS.STATE ≠ 3) (h4 : n.rd GRD_STATUS.STATE ≠ 4) : n.guardRearm = n := if_neg (by simp [h3, h4])

end

/-! ### The commands -/

section
variable {s : State} {cycle id : Word} {offset : Int} {own : Bool} {g : GrdStage}

section
variable (hr : s.node.running = true)
include hr

theorem guardAlign_rejected (h0 : s.node.rd GRD_STATUS.STATE ≠ 0)
    (hfresh : ¬ (s.node.rd GRD_STATUS.STATE = 5 ∨ s.node.grd.everAligned = false))
    (hnear : ¬ (offset.natAbs ≤ 4000 ∧ s.node.rd GRD_CYCLE.VALUE = cycle.toNat)) :
    Does (.guardAlign cycle offset own) s (fun m => m.on GRD_STATUS.ALIGNED = false ∧ Counted GRD_ALIGNREJ.VALUE s.node m
      ∧ m.rd GRD_CYCLE.VALUE = s.node.rd GRD_CYCLE.VALUE
      ∧ m.rd GRD_STATUS.STATE = s.node.rd GRD_STATUS.STATE ∧ m.mem = s.node.mem ∧ m.out = s.node.out) := by
  refine does_onNode (f := (·.guardAlign cycle.toNat offset own)) hr rfl ?_
  rw [s.node.guardAlign_rejects h0 hfresh hnear]
  refine ⟨?_, (Node.rd_wr_ne _ _ _ _ (by decide) (by decide)).trans (Node.count_counted _ _ (by decide)), ?_, ?_, rfl, rfl⟩
  · rw [Node.on, Node.rd_wr_same _ _ _ (by decide)]
    rfl
  · exact (Node.rd_wr_ne _ _ _ _ (by decide) (by decide)).trans (Node.rd_count_ne _ _ _ (by decide) (by decide))
  · exact (Node.rd_wr_ne _ _ _ _ (by decide) (by decide)).trans (Node.rd_count_ne _ _ _ (by decide) (by decide))

theorem grdArm_arms (h : s.node.grd.stage = some g) : Does (.grdArm id) s (fun m => m.on GRD_STATUS.ARMED = true
    ∧ m.rd GRD_ARMID.VALUE = id.toNat ∧ m.grd.stage = some g ∧ m.grd.armedAt = s.node.rd GRD_CYCLE.VALUE
    ∧ m.rd GRD_STATUS.STATE = s.node.rd GRD_STATUS.STATE ∧ m.mem = s.node.mem ∧ m.out = s.node.out) := by
  obtain ⟨harmed, hid, hstage, hat, hst⟩ := s.node.guardArm_effect id.isLt g
  have hset := s.node.guardArm_setsOnly id.toNat g
  refine does_onNode hr rfl ?_
  rw [h]
  exact ⟨harmed, hid, hstage, hat, hst, hset.mem, hset.out⟩

section
variable {p : Nat} (hs : s.node.rd GRD_STATUS.STATE = 1 ∨ s.node.rd GRD_STATUS.STATE = 2) (hopen : s.node.posOpen s.node.cycle p = false)
  (hpos : s.node.bar.blockedPos.contains p = false)
include hs hopen hpos

theorem does_guardBlocked {P : Node → Prop} (hp : P (if sat 8 (s.node.rd GRD_STATUS.BLOCKED + 1) < 16 then s.node.blockNoted p
    else if (s.node.blockNoted p).guardLatch.probationFail.on GRD_CTRL.LATCH_TKO
      then (s.node.blockNoted p).guardLatch.probationFail.askTakeover .guardian
      else (s.node.blockNoted p).guardLatch.probationFail)) : Does (.guardBlocked p) s P := by
  refine does_onNode hr rfl ?_
  have hst : ¬ ((decide (s.node.rd GRD_STATUS.STATE ≠ 1) && decide (s.node.rd GRD_STATUS.STATE ≠ 2)
      || s.node.posOpen s.node.cycle p || s.node.bar.blockedPos.contains p) = true) := by
    rw [hopen, hpos]
    rcases hs with h | h <;> simp [h]
  rw [if_neg hst]
  exact hp

theorem guardBlocked_counts (hb : s.node.rd GRD_STATUS.BLOCKED < 15) : Does (.guardBlocked p) s (fun m =>
    m.rd GRD_STATUS.BLOCKED = s.node.rd GRD_STATUS.BLOCKED + 1 ∧ Counted GRD_BLOCKED.VALUE s.node m
      ∧ m.rd GRD_STATUS.STATE = s.node.rd GRD_STATUS.STATE ∧ m.mem = s.node.mem ∧ m.out = s.node.out) := by
  obtain ⟨hblk, hcnt, hst⟩ := s.node.blockNoted_effect p (by omega)
  have hsat : sat 8 (s.node.rd GRD_STATUS.BLOCKED + 1) < 16 := by rw [sat, if_pos (by omega)]; omega
  refine does_guardBlocked hr hs hopen hpos ?_
  rw [if_pos hsat]
  exact ⟨hblk, hcnt, hst, rfl, rfl⟩

theorem guardBlocked_latches (hb : s.node.rd GRD_STATUS.BLOCKED = 15) (hp : s.node.pair.probation = none)
    (ht : s.node.on GRD_CTRL.LATCH_TKO = false) : Does (.guardBlocked p) s (fun m => m.rd GRD_STATUS.STATE = 3 ∧ m.rd GRD_STATUS.BLOCKED = 16
      ∧ Counted GRD_LATCH.VALUE s.node m) := by
  obtain ⟨hblk, -, -⟩ := s.node.blockNoted_effect p (by omega)
  have hrec := (s.node.blockNoted p).guardLatch_recorded
  have hnote : ∀ f : Field, GRD_STATUS.BLOCKED.apart f = true → GRD_BLOCKED.VALUE.apart f = true →
      (s.node.blockNoted p).rd f = s.node.rd f := fun f h1 h2 =>
    (Node.rd_count_ne _ _ _ (by decide) h2).trans (Node.rd_wr_ne _ _ _ _ (by decide) h1)
  have hpf : (s.node.blockNoted p).guardLatch.probationFail = (s.node.blockNoted p).guardLatch :=
    Node.probationFail_idle _ (by rw [hrec.pair]; exact hp)
  refine does_guardBlocked hr hs hopen hpos ?_
  rw [hb, if_neg (by decide), hpf, if_neg]
  · refine ⟨?_, ?_, ?_⟩
    · rw [hrec.rd _ (by decide), Node.rd_count_ne _ _ _ (by decide) (by decide), Node.rd_wr_same _ _ _ (by decide)]
      rfl
    · rw [hrec.rd _ (by decide), Node.rd_count_ne _ _ _ (by decide) (by decide), Node.rd_wr_ne _ _ _ _ (by decide) (by decide), hblk, hb]
    · refine (hrec.rd _ (by decide)).trans ((Node.count_counted _ _ (by decide)).trans ?_)
      rw [Node.rd_wr_ne _ _ _ _ (by decide) (by decide), hnote _ (by decide) (by decide)]
  · rw [hrec.on _ (by decide), Node.on, Node.rd_count_ne _ _ _ (by decide) (by decide), Node.rd_wr_ne _ _ _ _ (by decide) (by decide),
      hnote _ (by decide) (by decide)]
    exact ne_true_of_eq_false ht

end

theorem grdForeignWrite_counts {by_ : Initiator} {commit : Bool} {v : Word} : Does (.grdForeignWrite by_ commit v) s (fun m =>
    Counted GRD_FOREIGNWR.VALUE s.node m ∧ m.grd = s.node.grd ∧ ∀ a, a ≠ GRD_FOREIGNWR.VALUE.addr → m.reg a = s.node.reg a) :=
  does_onNode (f := (·.count GRD_FOREIGNWR.VALUE)) hr rfl ⟨s.node.count_counted _ (by decide), rfl, fun a => s.node.wr_reg_ne _ _ a⟩

end

section
variable (hh : s.node.boot.held = false)
include hh

theorem guardArmExpire_discards (ha : s.node.on GRD_STATUS.ARMED = true) (hc : s.node.grd.commitAt = none)
    (ht : s.node.grd.armedAt + 64 ≤ s.node.rd GRD_CYCLE.VALUE) : Does .guardArmExpire s (Discarded s.node) := by
  refine does_onGuard hh rfl ?_
  rw [if_pos (by simp [ha, hc, ht])]
  exact s.node.guardDiscard_discarded

theorem guardSwap_takes {c : Nat} (hc : s.node.grd.commitAt = some c) (hg : s.node.grd.stage = some g) (hp : s.node.ina.plan = none)
    (hlt : c < 4294967296) : Does .guardSwap s (fun m => m.rd GRD_COMPID.VALUE = s.node.rd GRD_ARMID.VALUE ∧ m.on GRD_STATUS.ARMED = false
      ∧ m.grd.stage = none ∧ m.rd GRD_CYCLE.VALUE = c
      ∧ m.rd GRD_STATUS.STATE = (if s.node.rd GRD_STATUS.STATE = 1 then 2 else s.node.rd GRD_STATUS.STATE)
      ∧ (g.node < 256 → g.count < 256 → m.rd GRD_SELF.VALUE = g.node + 256 * g.count)
      ∧ (∀ k : Fin 64, m.reg (0x4001E100 + 4 * k) = BitVec.ofNat 32 (nth g.own k)
          ∧ m.reg (0x4001E200 + 4 * k) = BitVec.ofNat 32 (nth g.tko k))) := by
  have hw : ∀ f : Field, f.addr < 0x4001E100 → (s.node.windowsLoaded g).rd f = s.node.rd f := fun f => s.node.windowsLoaded_rd g
  obtain ⟨hid, harmed, hstage, hcyc, hst, hself⟩ := (s.node.windowsLoaded g).setEntered_effect g hlt
  refine does_onGuard hh (by rw [show exec .guardSwap s = execGuardSwap s from rfl, execGuardSwap]) ?_
  simp only [hc, hp, Node.guardSwap, hg, Option.isSome_some, if_true, Node.guardTake_eq]
  rw [hw _ (by decide)] at hid hst
  refine ⟨hid, harmed, hstage, hcyc, hst, hself, fun k => ?_⟩
  have hreg := ((s.node.windowsLoaded g).setEntered_setsOnly g c).reg
  rw [hreg _ (by simp), hreg _ (by simp; omega)]
  exact s.node.windowsLoaded_windows g k

end

end

/-- Settles O33: one lemma for each clause. -/
theorem guardian : Obligations.Guardian := by
  unfold Obligations.Guardian
  intro s cycle id offset own commit by_ v g c p n st fresh near Discards Stays
  refine ⟨fun hr => ⟨fun h0 => ?_, fun h0 h => ?_, guardAlign_rejected hr, grdArm_arms hr, fun hg hid hc => ?_, fun hg hbad => ?_, fun hg => ?_,
    fun hs ho hp => ⟨guardBlocked_counts hr hs ho hp, guardBlocked_latches hr hs ho hp⟩, fun h0 => ?_, fun h => ?_, fun h3 h4 => ?_,
    grdForeignWrite_counts hr⟩, fun hh => ⟨fun h32 he hs => ?_, fun ha hc ht => ?_, guardSwap_takes hh⟩⟩
  · exact answers_same (f := (·.guardAlign cycle.toNat offset own)) hr rfl (n.guardAlign_off _ _ _ h0)
  · exact does_onNode (f := (·.guardAlign cycle.toNat offset own)) hr rfl (n.guardAlign_accepts cycle.isLt h0 h)
  · refine does_onNode (f := (·.guardCommit id.toNat cycle.toNat)) hr rfl ?_
    rw [Node.guardCommit_taken hg hid hc]
    exact ⟨rfl, hg, rfl⟩
  · refine does_onNode (f := (·.guardCommit id.toNat cycle.toNat)) hr rfl ?_
    rw [Node.guardCommit_refused hg hbad]
    obtain ⟨hstage, hcommit, harmed, hcnt, hst, hmem, hout⟩ := n.guardDiscard_discarded
    exact ⟨⟨hstage, hcommit, harmed, hcnt⟩, hst, hmem, hout⟩
  · exact answers_onNode (f := (·.guardCommit id.toNat cycle.toNat)) hr rfl (Node.guardCommit_unstaged hg)
  · exact does_onNode (f := (·.guardClose)) hr rfl (n.guardClose_effect h0)
  · exact does_onNode (f := (·.guardRearm)) hr rfl (n.guardRearm_effect h)
  · exact answers_same (f := (·.guardRearm)) hr rfl (n.guardRearm_idle h3 h4)
  · exact does_onGuard (f := (·.guardUnaligned)) hh rfl (n.guardUnaligned_closes h32 he hs)
  · obtain ⟨m, hexec, hstage, hcommit, harmed, hcnt, hst, hmem, hout⟩ := guardArmExpire_discards hh ha hc ht
    exact ⟨m, hexec, ⟨hstage, hcommit, harmed, hcnt⟩, hst, hmem, hout⟩

end Sys2Proof.Machine
end

section
/-! PROOFS. What train time, audio, the pair link and the guardian leave of BAR in a cycle, and the entry of the next cycle (03_barel_cycle.md R98,
R104, R129; 14_time.md R521 to R525). -/

namespace Sys2Proof.Machine

/-! ### Operations beside BAR -/

theorem OutGrows.mirrorDelta (n : Node) (recs : List (List Byte)) : OutGrows n (n.mirrorDelta recs) := by
  unfold Node.mirrorDelta
  refine cond (refl n) (trans ?_ (foldl _ (fun n x => linkSend n _ _ _) _ _))
  exact of_eq rfl

theorem Node.fixedRecord_outGrows (n : Node) (code : Nat) (bs : List Byte) : OutGrows n (n.fixedRecord code bs) :=
  OutGrows.commitWith (OutGrows.raiseN 3) _ _ _

/-- The registers of BAR, and INA_STATUS. -/
def cycleReg (a : Nat) : Bool := (0x40018000 ≤ a && a < 0x40019000) || a = 0x40020010

theorem recReg_of_cycleReg {a : Nat} (h : cycleReg a = true) : recReg a = false := by
  refine Bool.eq_false_iff.mpr fun hr => ?_
  simp only [cycleReg, Bool.or_eq_true, Bool.and_eq_true, decide_eq_true_eq] at h
  simp only [recReg, Bool.or_eq_true, Bool.and_eq_true, decide_eq_true_eq] at hr
  simp only [MSG_STORE.FREE, MSG_DELTA.VALUE, PAIR_MIRLAG.VALUE, PAIR_CNT_MIRBYTES.VALUE] at hr
  omega

theorem guardReg_of_cycleReg {a : Nat} (h : cycleReg a = true) : guardReg a = false := by
  simp only [cycleReg, Bool.or_eq_true, Bool.and_eq_true, decide_eq_true_eq] at h
  simp only [guardReg, Bool.and_eq_false_iff, decide_eq_false_iff_not]
  omega

/-- `m` has what `n` holds of BAR, the words that `cycleReg` names, and what `n` has put out. -/
structure BarKept (n m : Node) : Prop where
  bar : m.bar = n.bar
  out : OutGrows n m
  reg : ∀ a, cycleReg a = true → m.reg a = n.reg a

namespace BarKept

variable {n m k : Node}

theorem refl (n : Node) : BarKept n n := ⟨rfl, .refl n, fun _ _ => rfl⟩

theorem trans (h : BarKept n m) (g : BarKept m k) : BarKept n k :=
  ⟨g.bar.trans h.bar, h.out.trans g.out, fun a ha => (g.reg a ha).trans (h.reg a ha)⟩

theorem cond {c : Prop} [Decidable c] {a b : Node} (ha : BarKept n a) (hb : BarKept n b) : BarKept n (if c then a else b) := by
  split <;> assumption

theorem foldl {β : Type} (f : Node → β → Node) (h : ∀ n x, BarKept n (f n x)) (l : List β) (n : Node) : BarKept n (l.foldl f n) := by
  induction l generalizing n with
  | nil => exact refl n
  | cons x l ih => exact (h n x).trans (ih _)

theorem rd (h : BarKept n m) {f : Field} (hf : cycleReg f.addr = true) : m.rd f = n.rd f := Node.rd_of_reg (h.reg _ hf)

theorem on (h : BarKept n m) {f : Field} (hf : cycleReg f.addr = true) : m.on f = n.on f := Node.on_congr (h.rd hf)

theorem of_eq (hb : m.bar = n.bar) (ho : m.out = n.out) (hr : m.regs = n.regs) : BarKept n m :=
  ⟨hb, .of_eq ho, fun a _ => by rw [Node.reg, hr, Node.reg]⟩

theorem time (n : Node) (t : TimeState) : BarKept n { n with time := t } := of_eq rfl rfl rfl

theorem line (n : Node) (l : LineState) : BarKept n { n with line := l } := of_eq rfl rfl rfl

theorem aud (n : Node) (x : AudState) : BarKept n { n with aud := x } := of_eq rfl rfl rfl

theorem wr (n : Node) (f : Field) (v : Nat) (h : cycleReg f.addr = false) : BarKept n (n.wr f v) :=
  ⟨rfl, .of_eq rfl, fun a ha => n.wr_reg_ne f v a (by rintro rfl; simp [h] at ha)⟩

theorem count (n : Node) (f : Field) (h : cycleReg f.addr = false) : BarKept n (n.count f) := wr n f _ h

theorem recorded (h : Recorded n m) (ho : OutGrows n m) : BarKept n m := ⟨h.bar, ho, fun a ha => h.reg a (recReg_of_cycleReg ha)⟩

theorem raise (n : Node) (f : Field) (h : cycleReg f.addr = false) : BarKept n (n.raise f) :=
  ⟨n.raise_bar f, n.raise_outGrows f, fun a ha =>
    ((n.raise_recorded f).reg a (recReg_of_cycleReg ha)).trans ((wr n f 1 h).reg a ha)⟩

theorem guard (h : SetsOnly guardReg n m) : BarKept n m :=
  ⟨by rw [h.node], .of_eq h.out, fun a ha => h.reg a (guardReg_of_cycleReg ha)⟩

theorem mirrorDelta (n : Node) (recs : List (List Byte)) : BarKept n (n.mirrorDelta recs) :=
  recorded (.mirrorDelta n recs) (.mirrorDelta n recs)

theorem fixedRecord (n : Node) (code : Nat) (bs : List Byte) : BarKept n (n.fixedRecord code bs) :=
  recorded (n.fixedRecord_recorded code bs) (n.fixedRecord_outGrows code bs)

/-! ### Train time (R521 to R525) -/

theorem setTrLock (n : Node) (b : Bool) : BarKept n (n.setTrLock b) :=
  cond (refl n) ((wr n _ _ (by decide)).trans (raise _ _ (by decide)))

theorem trainLead (n : Node) : BarKept n n.trainLead := by
  unfold Node.trainLead
  refine trans ?_ ((wr _ _ _ (by decide)).trans (setTrLock _ _))
  refine trans ?_ (time _ _)
  exact ((wr n _ _ (by decide)).trans (wr _ _ _ (by decide))).trans (wr _ _ _ (by decide))

theorem raiseIf (n : Node) (c : Bool) (f : Field) (h : cycleReg f.addr = false) : BarKept n (n.raiseIf c f) := cond (raise n f h) (refl n)

theorem trainHoldover (n : Node) : BarKept n n.trainHoldover := by
  unfold Node.trainHoldover
  refine trans ?_ (cond (setTrLock _ _) (refl _))
  refine trans ?_ (raiseIf _ _ _ (by decide))
  exact ((time n _).trans (wr _ _ _ (by decide))).trans (wr _ _ _ (by decide))

theorem setLaunches (n : Node) (l : List Launch) : BarKept n (n.setLaunches l) :=
  ((time n _).trans (wr _ _ _ (by decide))).trans (wr _ _ _ (by decide))

theorem steppedTrain (n : Node) (before after : Word) : BarKept n (n.stepped 0 before after) := by
  unfold Node.stepped
  refine trans ?_ ((raise _ _ (by decide)).trans (fixedRecord _ _ _))
  exact ((time n _).trans (wr _ _ _ (by decide))).trans (count _ _ (by decide))

theorem trainStep (n : Node) (e : Int) : BarKept n (n.trainStep e) :=
  (((time n _).trans (setLaunches _ _)).trans (steppedTrain _ _ _)).trans (setTrLock _ _)

theorem trainBeacon (n : Node) (captured stamp : Word) (merge : Bool) : BarKept n (n.trainBeacon captured stamp merge) := by
  unfold Node.trainBeacon
  refine trans ?_ (cond (refl _) (trans (wr _ _ _ (by decide)) (cond (trainStep _ _) ?_)))
  · refine trans ?_ (time _ _)
    iterate 4 refine trans ?_ (wr _ _ _ (by decide))
    exact wr n _ _ (by decide)
  · refine trans ?_ (cond (setTrLock _ _) (refl _))
    exact (time _ _).trans (wr _ _ _ (by decide))

/-! ### Audio and the merge (R292, R183) -/

theorem audStep (n : Node) (d : Int) : BarKept n (n.audStep d) := by
  unfold Node.audStep
  refine trans ?_ (cond (refl _) (trans (wr _ _ _ (by decide)) (cond ((wr _ _ _ (by decide)).trans (raise _ _ (by decide))) (refl _))))
  exact (aud n _).trans (wr _ _ _ (by decide))

theorem audFollow (n was : Node) : BarKept n (n.audFollow was) := cond (refl n) (audStep n _)

theorem mergeStepped (n : Node) : BarKept n n.mergeStepped := of_eq rfl rfl rfl

end BarKept

/-! ### The entry of a cycle (R77, R86, R98, R129) -/

/-- The attachments' flags show what was met in the cycle that ends, and nothing is met yet in the next. -/
def Node.linesTurned (n : Node) : Node :=
  let n := n.lineRuns
  let met := n.line.met
  let n := (upTo 4).foldl (fun (n : Node) (a : Nat) =>
    let n := (n.wrB (LINE_STATUS.BEACON a) (met.contains (a, 0))).wrB (LINE_STATUS.FOREIGN a) (met.contains (a, 1))
    (n.wrB (LINE_STATUS.STRANGER a) (met.contains (a, 2))).wrB (LINE_STATUS.IMPULSE a) (met.contains (a, 3))) n
  { n with line := { n.line with met := [] } }

theorem Node.linesTurned_barKept (n : Node) : BarKept n n.linesTurned := by
  have hline : ∀ a < 4, cycleReg (0x40010004 + 0x1000 * a) = false := by decide
  refine BarKept.trans (List.foldlRecOn (motive := fun m : Node => BarKept n m) _ _ (.line n _) fun m hm a ha => ?_) (.line _ _)
  have ha := hline a (List.mem_range.mp ha)
  exact (((hm.trans (.wr _ _ _ ha)).trans (.wr _ _ _ ha)).trans (.wr _ _ _ ha)).trans (.wr _ _ _ ha)

/-- The cycle's number and place in the round stand, and its deltas are sent. -/
def Node.cycleTurned (n : Node) (c : Nat) : Node :=
  let n := (n.wr BAR_CYCLE.VALUE (c % 4294967296)).wr BAR_STATUS.ROUNDPOS (c % 16)
  n.mirrorDelta n.lifetimes

/-- A field of BAR, or of INA_STATUS, other than those that a cycle's entry writes: the cycle's number, its place in the round, the slots sent. -/
def Field.staysInCycle (f : Field) : Bool :=
  cycleReg f.addr && BAR_CYCLE.VALUE.apart f && BAR_STATUS.ROUNDPOS.apart f && BAR_GRANT.SENT.apart f

theorem Node.enterCycle_eq (n : Node) (c : Nat) : n.enterCycle c = ((((n.linesTurned.cycleTurned c).wr BAR_GRANT.SENT 0).updBar
    (fun b => { b with blockedPos := [], taken := [], sentSlots := [] })).guardCycle) := rfl

section
variable (n : Node) (c : Nat)

theorem Node.cycleTurned_barKept :
    BarKept ((n.wr BAR_CYCLE.VALUE (c % 4294967296)).wr BAR_STATUS.ROUNDPOS (c % 16)) (n.cycleTurned c) := .mirrorDelta _ _

theorem Node.cycleTurned_outGrows : OutGrows n (n.cycleTurned c) :=
  (OutGrows.of_eq (m := (n.wr BAR_CYCLE.VALUE (c % 4294967296)).wr BAR_STATUS.ROUNDPOS (c % 16)) rfl).trans (n.cycleTurned_barKept c).out

theorem Node.enterCycle_bar : (n.enterCycle c).bar = { n.bar with blockedPos := [], taken := [], sentSlots := [] } := by
  rw [Node.enterCycle_eq, (BarKept.guard (Node.guardCycle_setsOnly _)).bar, Node.updBar_bar, Node.wr_bar, (Node.cycleTurned_barKept _ c).bar,
    Node.wr_bar, Node.wr_bar, n.linesTurned_barKept.bar]

theorem Node.enterCycle_outGrows : OutGrows n (n.enterCycle c) := by
  rw [Node.enterCycle_eq]
  refine OutGrows.trans ?_ (BarKept.guard (Node.guardCycle_setsOnly _)).out
  exact (n.linesTurned_barKept.out.trans (Node.cycleTurned_outGrows _ c)).trans (.of_eq (by rw [Node.updBar_out, Node.wr_out]))

theorem Node.enterCycle_rd {f : Field} (h : f.staysInCycle = true) : (n.enterCycle c).rd f = n.rd f := by
  simp only [Field.staysInCycle, Bool.and_eq_true] at h
  obtain ⟨⟨⟨hf, hc⟩, hp⟩, hs⟩ := h
  rw [Node.enterCycle_eq, (BarKept.guard (Node.guardCycle_setsOnly _)).rd hf, Node.updBar_rd, Node.rd_wr_ne _ _ _ _ (by decide) hs,
    (Node.cycleTurned_barKept _ c).rd hf, Node.rd_wr_ne _ _ _ _ (by decide) hp, Node.rd_wr_ne _ _ _ _ (by decide) hc, n.linesTurned_barKept.rd hf]

theorem Node.enterCycle_cycle : (n.enterCycle c).cycle = c % 4294967296 := by
  rw [Node.cycle, Node.enterCycle_eq, (BarKept.guard (Node.guardCycle_setsOnly _)).rd (by decide), Node.updBar_rd,
    Node.rd_wr_ne _ _ _ _ (by decide) (by decide), (Node.cycleTurned_barKept _ c).rd (by decide), Node.rd_wr_ne _ _ _ _ (by decide) (by decide),
    Node.rd_wr_same _ _ _ (by decide)]
  exact Nat.mod_mod _ _

end

end Sys2Proof.Machine
end

section
/-! PROOFS. The beacon a lead sends, and a cycle without one (03_barel_cycle.md R98 to R100, R110, R139; 13_lull_and_wake.md R507). -/

namespace Sys2Proof.Machine

/-! ### CRC-32 -/

theorem crcReflByte_lt {poly : Nat} (hp : poly < 2 ^ 32) (k : Nat) {c : Nat} (hc : c < 2 ^ 32) : crcReflByte poly k c < 2 ^ 32 := by
  induction k generalizing c with
  | zero => exact hc
  | succ k ih =>
    have hbit : c % 2 * poly ≤ 1 * poly := Nat.mul_le_mul_right _ (by omega)
    exact ih (Nat.xor_lt_two_pow (by omega) (by omega))

theorem crc32_lt (bs : List Byte) : crc32 bs < 2 ^ 32 := by
  refine Nat.xor_lt_two_pow (List.foldlRecOn (motive := fun c => c < 2 ^ 32) _ _ (by decide) fun c hc b _ => ?_) (by decide)
  exact crcReflByte_lt (by decide) 8 (Nat.xor_lt_two_pow hc (by have := b.isLt; omega))

/-! ### The beacon's bytes (R100) -/

/-- A number that stands behind `pre` reads as its low part. -/
theorem le_append_leBytes {pre : List Byte} {o : Nat} (h : pre.length = o) (k v : Nat) (rest : List Byte) :
    le (pre ++ (leBytes k v ++ rest)) o k = v % 256 ^ k := by
  have hslice : slice (pre ++ (leBytes k v ++ rest)) o k = leBytes k v := by
    rw [slice, ← h, List.drop_left, List.take_left' (leBytes_length k v)]
  rw [le, hslice, ofLe_leBytes]

/-- What a beacon of cycle `c` carries behind its composition ID, up to its CRC. -/
def Node.beaconRest (n : Node) (c : Nat) (cmds : List (List Byte)) : List Byte :=
  let g := n.grantsFor (c + 1)
  let spare := (n.spareFor (c + 1)).elim 0 (· + 32768)
  leBytes 4 (n.cycleTime c).toNat ++ leBytes 8 n.bar.leadUid ++ leBytes 8 n.nonce ++ leBytes 2 g.2 ++ leBytes 1 (g.1.take 20).length
    ++ leBytes 1 n.contControl ++ ((g.1.take 20).flatMap (leBytes 2) ++ List.replicate 40 0).take 40 ++ leBytes 2 spare ++ [0, 0]
    ++ ((cmds.getD 0 []) ++ List.replicate 14 0).take 14 ++ ((cmds.getD 1 []) ++ List.replicate 14 0).take 14

/-- The flags of a beacon. -/
def Node.beaconFlags (n : Node) : Nat :=
  b2n (n.on INA_STATUS.INAUG) + 2 * b2n n.mergeFlag + 4 * b2n n.isSuccessor + 8 * b2n n.bar.lullFlag

/-- A beacon up to its CRC. -/
def Node.beaconHead (n : Node) (c : Nat) (cmds : List (List Byte)) : List Byte :=
  [0x01] ++ leBytes 1 n.beaconFlags ++ leBytes 4 c ++ leBytes 1 (c % 16) ++ leBytes 1 n.bar.leadNum ++ leBytes 4 n.compId ++ n.beaconRest c cmds

section
variable (n : Node) (c : Nat) (cmds : List (List Byte))

theorem Node.beaconBytes_eq : n.beaconBytes c cmds = n.beaconHead c cmds ++ (leBytes 4 (crc32 (n.beaconHead c cmds))
    ++ tag64 n.bar.key (n.beaconHead c cmds ++ leBytes 4 (crc32 (n.beaconHead c cmds)))) := by
  unfold Node.beaconBytes Node.beaconHead Node.beaconRest Node.beaconFlags
  cases n.spareFor (c + 1) <;> simp only [Option.elim, List.append_assoc]

theorem Node.beaconHead_length : (n.beaconHead c cmds).length = 108 := by
  unfold Node.beaconHead Node.beaconRest
  simp

theorem Node.beaconBytes_crc : le (n.beaconBytes c cmds) 108 4 = crc32 ((n.beaconBytes c cmds).take 108) := by
  rw [n.beaconBytes_eq, List.take_left' (n.beaconHead_length c cmds), le_append_leBytes (n.beaconHead_length c cmds)]
  exact Nat.mod_eq_of_lt (crc32_lt _)

theorem Node.beaconBytes_fields : le (n.beaconBytes c cmds) 0 1 = 1 ∧ le (n.beaconBytes c cmds) 2 4 = c % 256 ^ 4
    ∧ le (n.beaconBytes c cmds) 6 1 = c % 16 % 256 ^ 1 ∧ le (n.beaconBytes c cmds) 8 4 = n.compId % 256 ^ 4 := by
  rw [n.beaconBytes_eq, Node.beaconHead]
  have hcycle := le_append_leBytes (pre := [0x01] ++ leBytes 1 n.beaconFlags) (o := 2) (by simp) 4 c
  have hround := le_append_leBytes (pre := [0x01] ++ leBytes 1 n.beaconFlags ++ leBytes 4 c) (o := 6) (by simp) 1 (c % 16)
  have hid := le_append_leBytes (pre := [0x01] ++ leBytes 1 n.beaconFlags ++ leBytes 4 c ++ leBytes 1 (c % 16) ++ leBytes 1 n.bar.leadNum)
    (o := 8) (by simp) 4 n.compId
  simp only [List.append_assoc] at hcycle hround hid ⊢
  exact ⟨rfl, hcycle _, hround _, hid _⟩

end

/-! ### The lead's beacon goes out (R98 to R100, R104, R130) -/

/-- A lead's time stamp and the number of its beacon, before it goes out. -/
def Node.stamped (n : Node) : Node :=
  if n.isLead then (n.wr BAR_TTSTAMP.VALUE n.time.train.toNat).updBar (fun b => { b with lastBeacon := some n.cycle }) else n

/-- The beacon of cycle `c` put out: it governs the next cycle at its sender too. -/
def Node.beaconPut (n : Node) (c : Nat) : Node :=
  let out := cmdsOut c n.bar.cmds
  let n := n.emit .beacon (n.beaconBytes c out.1)
  let g := n.grantsFor (c + 1)
  let n := n.updBar (fun b => { b with
    cmds := out.2, grants := g.1.take 20, govGen := g.2, contOpen := n.contControl, spareGrant := n.spareFor (c + 1), coastRun := 0, coastStop := false })
  let n := ((n.wr BAR_GRANT.G (g.1.take 20).length).wr BAR_STATUS.BEACON 1).wr BAR_STATUS.COAST 0
  let n := (n.wr BAR_STATUS.COAST_RUN 0).wr BAR_STATUS.GENMIS 0
  let n := (n.wrB BAR_STATUS.INAUG (n.on INA_STATUS.INAUG)).wrB BAR_STATUS.MERGE n.mergeFlag
  (n.wrB BAR_STATUS.SUCCESSOR n.isSuccessor).wrB BAR_STATUS.LULL n.bar.lullFlag

/-- The sender's guardian and train time follow its beacon. -/
def Node.beaconKept (n : Node) (c : Nat) : Node :=
  let n := n.guardAlign c 0 true
  if n.isLead then n.trainLead else n

/-- R99, R131, R139: the node sends the beacon of its cycle: as lead or deputy, committed, with BAR on and P0 open. -/
abbrev Node.sendsBeacon (n : Node) : Prop :=
  (n.isLead = true ∨ n.on INA_STATUS.DEPUTY = true) ∧ n.committed = true ∧ n.on BAR_CTRL.EN = true ∧ n.posOpen n.cycle 0 = true

theorem Node.beaconSend_sent {n : Node} (h : n.sendsBeacon) :
    n.beaconSend = ((n.stamped.beaconPut n.cycle).beaconKept n.cycle).enterCycle (n.cycle + 1) := by
  obtain ⟨hlead, hcom, hen, hopen⟩ := h
  have hgo : ¬ ((!(n.isLead || n.on INA_STATUS.DEPUTY) || !n.committed || !n.on BAR_CTRL.EN || !n.posOpen n.cycle 0) = true) := by
    rcases hlead with h | h <;> simp [h, hcom, hen, hopen]
  exact if_neg hgo

theorem Node.beaconSend_idle {n : Node} (h : ¬ n.sendsBeacon) : n.beaconSend = n := by
  refine if_pos ?_
  by_contra hgo
  simp only [Bool.not_eq_true, Bool.or_eq_false_iff, Bool.not_eq_false'] at hgo
  obtain ⟨⟨⟨hlead, hcom⟩, hen⟩, hopen⟩ := hgo
  exact h ⟨Bool.or_eq_true_iff.mp hlead, hcom, hen, hopen⟩

section
variable (n : Node) (c : Nat)

theorem Node.stamped_rd {f : Field} (h : BAR_TTSTAMP.VALUE.apart f = true) : n.stamped.rd f = n.rd f := by
  unfold Node.stamped
  split
  · rw [Node.updBar_rd, Node.rd_wr_ne _ _ _ _ (by decide) h]
  · rfl

theorem Node.beaconPut_out : (n.beaconPut c).out = n.out ++ [⟨.beacon, n.beaconBytes c (cmdsOut c n.bar.cmds).1⟩] := by
  unfold Node.beaconPut
  simp only [Node.wrB_out, Node.wr_out, Node.updBar_out, Node.emit_out]

theorem Node.beaconPut_status : (n.beaconPut c).on BAR_STATUS.BEACON = true ∧ (n.beaconPut c).on BAR_STATUS.COAST = false
    ∧ (n.beaconPut c).bar.coastRun = 0 := by
  unfold Node.beaconPut Node.on Node.wrB
  simp (disch := decide) only [Node.rd_wr_ne, Node.rd_wr_same, Node.wr_bar, Node.updBar_bar]
  exact ⟨rfl, rfl, trivial⟩

theorem Node.beaconKept_barKept : BarKept n (n.beaconKept c) :=
  (BarKept.guard (n.guardAlign_setsOnly c 0 true)).trans (.cond (.trainLead _) (.refl _))

end

theorem beaconSend_sends {s : State} (hr : s.node.running = true) (h : s.node.sendsBeacon) : Does .beaconSend s (fun m =>
    (∃ b, (⟨.beacon, b⟩ : Emission) ∈ m.out ∧ le b 0 1 = 1 ∧ le b 2 4 = s.node.cycle ∧ le b 6 1 = s.node.cycle % 16
      ∧ le b 8 4 = s.node.compId ∧ le b 108 4 = crc32 (b.take 108))
    ∧ m.cycle = (s.node.cycle + 1) % 4294967296 ∧ m.on BAR_STATUS.BEACON = true ∧ m.on BAR_STATUS.COAST = false ∧ m.bar.coastRun = 0) := by
  refine does_onNode (f := (·.beaconSend)) hr rfl ?_
  rw [Node.beaconSend_sent h, Node.enterCycle_cycle, Node.enterCycle_bar, Node.on, Node.on,
    Node.enterCycle_rd _ _ (by decide), Node.enterCycle_rd _ _ (by decide)]
  have hkept := (s.node.stamped.beaconPut s.node.cycle).beaconKept_barKept s.node.cycle
  obtain ⟨hbeacon, hcoast, hrun⟩ := s.node.stamped.beaconPut_status s.node.cycle
  refine ⟨⟨s.node.stamped.beaconBytes s.node.cycle (cmdsOut s.node.cycle s.node.stamped.bar.cmds).1, ?_, ?_⟩, rfl,
    (hkept.on (by decide)).trans hbeacon, (hkept.on (by decide)).trans hcoast, (congrArg (·.coastRun) hkept.bar).trans hrun⟩
  · refine (hkept.out.trans (Node.enterCycle_outGrows _ _)).subset ?_
    rw [Node.beaconPut_out]
    exact List.mem_append_right _ (List.mem_singleton.mpr rfl)
  · obtain ⟨htype, hcycle, hround, hid⟩ := s.node.stamped.beaconBytes_fields s.node.cycle (cmdsOut s.node.cycle s.node.stamped.bar.cmds).1
    have hcomp : s.node.stamped.compId = s.node.compId := s.node.stamped_rd (by decide)
    refine ⟨htype, hcycle.trans (Nat.mod_eq_of_lt (bits_lt _ _ _)), ?_, ?_, Node.beaconBytes_crc _ _ _⟩
    · rw [hround]; omega
    · rw [hid, hcomp]
      exact Nat.mod_eq_of_lt (bits_lt _ _ _)

/-! ### A cycle without a governing beacon (R110, R507) -/

/-- The node coasts: no grant, contention closed, the spans of answers wait, and train time holds over. -/
def Node.ungoverned (n : Node) : Node :=
  let n := n.updBar (fun b => { b with
    grants := [], spareGrant := none, contOpen := 0
    contenders := b.contenders.map (fun k => if k.sentIn.isSome && k.extended < 4 then { k with span := k.span + 1, extended := k.extended + 1 } else k) })
  let n := ((n.wr BAR_STATUS.BEACON 0).wr BAR_STATUS.COAST 1).wr BAR_STATUS.GENMIS 0
  ((n.wr BAR_GRANT.G 0).wr BAR_GRANT.SPARE 0).trainHoldover

/-- The missed beacon counted. -/
def Node.missNoted (n : Node) : Node :=
  (((n.updBar (fun b => { b with coastRun := n.bar.coastRun + 1 })).count BAR_CNT_BMISS.VALUE).raise BAR_EVT.BMISS).wr BAR_STATUS.COAST_RUN
    (min 7 (n.bar.coastRun + 1))

section
variable (n : Node)

theorem Node.ungoverned_status : n.ungoverned.on BAR_STATUS.BEACON = false ∧ n.ungoverned.on BAR_STATUS.COAST = true
    ∧ n.ungoverned.rd BAR_CNT_BMISS.VALUE = n.rd BAR_CNT_BMISS.VALUE := by
  unfold Node.ungoverned Node.on
  rw [(BarKept.trainHoldover _).rd (by decide), (BarKept.trainHoldover _).rd (by decide), (BarKept.trainHoldover _).rd (by decide)]
  simp (disch := decide) only [Node.rd_wr_ne, Node.rd_wr_same, Node.updBar_rd]
  exact ⟨rfl, rfl, trivial⟩

theorem Node.ungoverned_bar : n.ungoverned.bar.grants = [] ∧ n.ungoverned.bar.coastRun = n.bar.coastRun := by
  unfold Node.ungoverned
  rw [(BarKept.trainHoldover _).bar]
  exact ⟨rfl, rfl⟩

theorem Node.missNoted_bar : n.missNoted.bar = { n.bar with coastRun := n.bar.coastRun + 1 } := by
  unfold Node.missNoted
  rw [Node.wr_bar, Node.raise_bar, Node.count_bar, Node.updBar_bar]

theorem Node.missNoted_rd {f : Field} (hrec : recReg f.addr = false) (hcnt : BAR_CNT_BMISS.VALUE.apart f = true)
    (hev : BAR_EVT.BMISS.apart f = true) (hrun : BAR_STATUS.COAST_RUN.apart f = true) : n.missNoted.rd f = n.rd f := by
  rw [Node.missNoted, Node.rd_wr_ne _ _ _ _ (by decide) hrun, Node.rd_raise _ _ _ (by decide) hrec hev, Node.rd_count_ne _ _ _ (by decide) hcnt,
    Node.updBar_rd]

theorem Node.missNoted_counts : Counted BAR_CNT_BMISS.VALUE n n.missNoted ∧ n.missNoted.on BAR_EVT.BMISS = true := by
  unfold Node.missNoted Counted
  rw [Node.on, Node.rd_wr_ne _ _ _ _ (by decide) (by decide), Node.rd_wr_ne _ _ _ _ (by decide) (by decide)]
  refine ⟨?_, Node.on_raise_same _ _ (by decide) rfl (by decide)⟩
  rw [Node.rd_raise _ _ _ (by decide) (by decide) (by decide), Node.rd_count_same _ _ (by decide), Node.updBar_rd]

end

theorem Node.beaconMiss_quiet {n : Node} (h : n.quietAt n.cycle = true) : n.beaconMiss = n.ungoverned.enterCycle (n.cycle + 1) := if_pos h

theorem Node.beaconMiss_counts {n : Node} (h : n.quietAt n.cycle = false) (h2 : n.bar.coastRun ≠ 2) :
    n.beaconMiss = n.ungoverned.missNoted.enterCycle (n.cycle + 1) := by
  have hrun : ¬ n.ungoverned.bar.coastRun + 1 = 3 := by
    rw [n.ungoverned_bar.2]
    omega
  exact (if_neg (ne_true_of_eq_false h)).trans (congrArg (Node.enterCycle · (n.cycle + 1)) (if_neg hrun))

theorem beaconMiss_counted {s : State} (hr : s.node.running = true) (hq : s.node.quietAt s.node.cycle = false) (h2 : s.node.bar.coastRun ≠ 2) :
    Does .beaconMiss s (fun m => m.cycle = (s.node.cycle + 1) % 4294967296 ∧ m.on BAR_STATUS.BEACON = false ∧ m.on BAR_STATUS.COAST = true
      ∧ m.bar.grants = [] ∧ m.bar.coastRun = s.node.bar.coastRun + 1 ∧ Counted BAR_CNT_BMISS.VALUE s.node m ∧ m.on BAR_EVT.BMISS = true) := by
  obtain ⟨hbeacon, hcoast, hmiss⟩ := s.node.ungoverned_status
  obtain ⟨hgrants, hrun⟩ := s.node.ungoverned_bar
  obtain ⟨hcnt, hev⟩ := s.node.ungoverned.missNoted_counts
  refine does_onNode (f := (·.beaconMiss)) hr rfl ?_
  rw [Node.beaconMiss_counts hq h2, Node.enterCycle_cycle, Node.enterCycle_bar, Node.missNoted_bar]
  refine ⟨rfl, ?_, ?_, hgrants, congrArg (· + 1) hrun, ?_, ?_⟩
  · rw [Node.on, Node.enterCycle_rd _ _ (by decide), Node.missNoted_rd _ (by decide) (by decide) (by decide) (by decide)]
    exact hbeacon
  · rw [Node.on, Node.enterCycle_rd _ _ (by decide), Node.missNoted_rd _ (by decide) (by decide) (by decide) (by decide)]
    exact hcoast
  · rw [Counted, Node.enterCycle_rd _ _ (by decide), hcnt, hmiss]
  · rw [Node.on, Node.enterCycle_rd _ _ (by decide)]
    exact hev

theorem beaconMiss_uncounted {s : State} (hr : s.node.running = true) (hq : s.node.quietAt s.node.cycle = true) :
    Does .beaconMiss s (fun m => m.cycle = (s.node.cycle + 1) % 4294967296 ∧ m.bar.coastRun = s.node.bar.coastRun
      ∧ m.rd BAR_CNT_BMISS.VALUE = s.node.rd BAR_CNT_BMISS.VALUE) := by
  obtain ⟨-, -, hmiss⟩ := s.node.ungoverned_status
  refine does_onNode (f := (·.beaconMiss)) hr rfl ?_
  rw [Node.beaconMiss_quiet hq, Node.enterCycle_cycle, Node.enterCycle_bar, Node.enterCycle_rd _ _ (by decide)]
  exact ⟨rfl, s.node.ungoverned_bar.2, hmiss⟩

/-! ### BAR_CTRL (R131, R139) -/

theorem Node.guardEnable_setsOnly (n : Node) (en : Bool) : SetsOnly guardReg n (n.guardEnable en) := by
  unfold Node.guardEnable
  exact .cond (.cond (.wr _ _ _ (by decide)) (.refl n)) ((SetsOnly.grd n _).trans (.wr _ _ _ (by decide)))

theorem Node.on_setReg_barCtrl (n : Node) (v : Word) : (n.setReg BAR_CTRL.EN.addr (v &&& 0x00FFFF71)).on BAR_CTRL.EN = v.getLsbD 0 := by
  have hbit : (v &&& 0x00FFFF71).getLsbD 0 = v.getLsbD 0 := by simp
  rw [← hbit, Node.on, Node.rd, Node.setReg_reg_same, BitVec.getLsbD, Nat.testBit_zero]
  simp [bits, BAR_CTRL.EN]

theorem Node.barCtrl_eq (n : Node) (v : Word) : n.barCtrl v = if v.getLsbD 0 = n.on BAR_CTRL.EN then n.setReg BAR_CTRL.EN.addr (v &&& 0x00FFFF71)
    else (n.setReg BAR_CTRL.EN.addr (v &&& 0x00FFFF71)).guardEnable (v.getLsbD 0) := by
  unfold Node.barCtrl
  dsimp only
  rw [n.on_setReg_barCtrl]

/-- EN turned on or off moves the guardian out of OFF or into it. -/
theorem Node.barCtrl_effect (n : Node) (v : Word) : (n.barCtrl v).reg BAR_CTRL.EN.addr = v &&& 0x00FFFF71
    ∧ (n.on BAR_CTRL.EN = false → v.getLsbD 0 = true → n.rd GRD_STATUS.STATE = 0 →
      (n.barCtrl v).rd GRD_STATUS.STATE = (if n.rd GRD_COMPID.VALUE = 0 then 1 else 2))
    ∧ (n.on BAR_CTRL.EN = true → v.getLsbD 0 = false → (n.barCtrl v).rd GRD_STATUS.STATE = 0) := by
  have hset : ∀ f : Field, f.addr ≠ BAR_CTRL.EN.addr → (n.setReg BAR_CTRL.EN.addr (v &&& 0x00FFFF71)).rd f = n.rd f := fun f hf =>
    Node.rd_of_reg (n.setReg_reg_ne _ _ _ hf)
  rw [n.barCtrl_eq]
  refine ⟨?_, fun hoff hv hst => ?_, fun hon hv => ?_⟩
  · split
    · exact n.setReg_reg_same _ _
    · exact ((Node.guardEnable_setsOnly _ _).reg _ (by decide)).trans (n.setReg_reg_same _ _)
  · rw [if_neg (by rw [hoff, hv]; decide), hv, Node.guardEnable, if_pos rfl, if_pos ((hset _ (by decide)).trans hst), Node.rd_wr_same _ _ _ (by decide),
      Node.grdHome, hset _ (by decide)]
    split <;> rfl
  · rw [if_neg (by rw [hon, hv]; decide), hv, Node.guardEnable, if_neg (by decide), Node.rd_wr_same _ _ _ (by decide)]
    rfl

end Sys2Proof.Machine
end

section
/-! PROOFS. A beacon received (03_barel_cycle.md R98 to R102, R109, R128), and the beacons' statement as a whole. -/

namespace Sys2Proof.Machine

/-! ### Attempts that fail (R123) -/

/-- `m` is `n` but for its contenders, BAR_SPARESTAT, BAR's events and what recording changes. -/
structure AttemptsOnly (n m : Node) : Prop where
  bar : m.bar = { n.bar with contenders := m.bar.contenders }
  reg : ∀ a, cycleReg a = true → a ≠ BAR_SPARESTAT.STATE.addr → a ≠ BAR_EVT.SPARE.addr → m.reg a = n.reg a

namespace AttemptsOnly

variable {n m k : Node}

theorem refl (n : Node) : AttemptsOnly n n := ⟨rfl, fun _ _ _ _ => rfl⟩

theorem trans (h : AttemptsOnly n m) (g : AttemptsOnly m k) : AttemptsOnly n k :=
  ⟨by rw [g.bar, h.bar], fun a ha hs he => (g.reg a ha hs he).trans (h.reg a ha hs he)⟩

theorem cond {c : Prop} [Decidable c] {a b : Node} (ha : AttemptsOnly n a) (hb : AttemptsOnly n b) : AttemptsOnly n (if c then a else b) := by
  split <;> assumption

theorem rd (h : AttemptsOnly n m) {f : Field} (hf : cycleReg f.addr = true) (hs : f.addr ≠ BAR_SPARESTAT.STATE.addr)
    (he : f.addr ≠ BAR_EVT.SPARE.addr) : m.rd f = n.rd f := Node.rd_of_reg (h.reg _ hf hs he)

theorem entropy (n : Node) : AttemptsOnly n n.entropy.2 := ⟨rfl, fun _ _ _ _ => rfl⟩

theorem contenders (n : Node) (f : List Contender → List Contender) :
    AttemptsOnly n (n.updBar (fun b => { b with contenders := f b.contenders })) := ⟨rfl, fun _ _ _ _ => rfl⟩

theorem spareState (n : Node) (v : Nat) : AttemptsOnly n (n.wr BAR_SPARESTAT.STATE v) := ⟨rfl, fun a _ hs _ => n.wr_reg_ne _ _ a hs⟩

theorem raise (n : Node) (f : Field) (h : f.addr = BAR_EVT.SPARE.addr) : AttemptsOnly n (n.raise f) := by
  refine ⟨by rw [n.raise_bar], fun a ha _ he => ((n.raise_recorded f).reg a (recReg_of_cycleReg ha)).trans ?_⟩
  exact n.wr_reg_ne _ _ a (by rwa [h])

theorem attemptFail (n : Node) (k : Contender) : AttemptsOnly n (n.attemptFail k) := by
  unfold Node.attemptFail Node.raiseIf
  refine trans ?_ (cond (raise _ _ rfl) (refl _))
  refine trans ?_ (cond ((spareState _ _).trans (raise _ _ rfl)) (refl _))
  exact (entropy n).trans (contenders _ _)

theorem attemptsDue (n : Node) : AttemptsOnly n n.attemptsDue :=
  List.foldlRecOn (motive := fun m : Node => AttemptsOnly n m) _ _ (refl n) fun _ hm k _ => hm.trans (attemptFail _ k)

end AttemptsOnly

/-! ### Commands of a beacon (R102) -/

theorem slice_take {bs : List Byte} {o k l : Nat} (h : k ≤ l) : slice bs o k = (slice bs o l).take k := by
  rw [slice, slice, List.take_take, Nat.min_eq_left h]

theorem slice_drop (bs : List Byte) (o k l : Nat) : slice bs (o + k) l = (slice bs o (k + l)).drop k := by
  rw [slice, slice, List.drop_take, List.drop_drop, Nat.add_sub_cancel_left]

/-- A command field of zeros is no command. -/
theorem Node.commandOnce_none (n : Node) : n.commandOnce (List.replicate 14 0) = n := if_pos rfl

/-! ### The beacon that governs (R99, R109, R140 to R142) -/

/-- The beacon's grants, its flags and its time stamp stand for the next cycle. -/
def Node.governs (n : Node) (b : List Byte) (c : Nat) : Node :=
  let spare := le b 76 2
  let n := n.updBar (fun x => { x with
    grants := beaconGrants b, govGen := le b 32 2, contOpen := le b 35 1, coastRun := 0, coastStop := false, lastBeacon := some c
    spareGrant := if bit spare 15 then some (spare % 512) else none, leadUid := le b 16 8, leadNum := le b 7 1 })
  let n := ((n.wr BAR_STATUS.BEACON 1).wr BAR_STATUS.COAST 0).wr BAR_STATUS.COAST_RUN 0
  let n := (n.wrB BAR_STATUS.INAUG (bit (le b 1 1) 0)).wrB BAR_STATUS.MERGE (bit (le b 1 1) 1)
  let n := (n.wrB BAR_STATUS.SUCCESSOR (bit (le b 1 1) 2)).wrB BAR_STATUS.LULL (bit (le b 1 1) 3)
  let n := (n.wr BAR_GRANT.G (le b 34 1)).wr BAR_TTSTAMP.VALUE (le b 12 4)
  n.wrB BAR_GRANT.SPARE (bit spare 15 && n.rd BAR_SPARESTAT.STATE = 3 && n.rd BAR_SPARESTAT.ENTRY = spare % 512)

/-- Its generation is held against the node's own (R109). -/
def Node.genChecked (n : Node) (b : List Byte) (c : Nat) : Node :=
  let mis := n.committed && le b 32 2 ≠ n.genAt ((c + 1) % 4294967296)
  let n := (n.wrB BAR_STATUS.GENMIS mis).updIna (fun i => { i with genMisRun := if mis then i.genMisRun + 1 else 0 })
  if mis then (n.count BAR_CNT_GENMIS.VALUE).raise BAR_EVT.GENMIS else n

theorem Node.governed_eq (n : Node) (b : List Byte) (c : Nat) : n.governed b c = (n.governs b c).genChecked b c := rfl

section
variable (n : Node) (b : List Byte) (c : Nat)

theorem Node.governs_bar : (n.governs b c).bar.grants = beaconGrants b ∧ (n.governs b c).bar.govGen = le b 32 2
    ∧ (n.governs b c).bar.lastBeacon = some c ∧ (n.governs b c).bar.coastRun = 0 := by
  unfold Node.governs
  simp only [Node.wrB_bar, Node.wr_bar, Node.updBar_bar]
  exact ⟨trivial, trivial, trivial, trivial⟩

theorem Node.governs_status : (n.governs b c).on BAR_STATUS.BEACON = true ∧ (n.governs b c).on BAR_STATUS.COAST = false
    ∧ (n.governs b c).on INA_STATUS.INAUG = n.on INA_STATUS.INAUG := by
  unfold Node.governs Node.on Node.wrB
  simp (disch := decide) only [Node.rd_wr_ne, Node.rd_wr_same, Node.updBar_rd]
  exact ⟨rfl, rfl, trivial⟩

theorem Node.genChecked_bar : (n.genChecked b c).bar = n.bar := by
  unfold Node.genChecked
  dsimp only
  split
  · rw [Node.raise_bar, Node.count_bar, Node.updIna_bar, Node.wrB_bar]
  · rw [Node.updIna_bar, Node.wrB_bar]

theorem Node.genChecked_on {f : Field} (hrec : recReg f.addr = false) (hmis : BAR_STATUS.GENMIS.apart f = true)
    (hcnt : BAR_CNT_GENMIS.VALUE.apart f = true) (hev : BAR_EVT.GENMIS.apart f = true) : (n.genChecked b c).on f = n.on f := by
  unfold Node.genChecked
  dsimp only
  split
  · rw [Node.on_raise_ne _ _ _ (by decide) hrec hev, Node.on_congr (Node.rd_count_ne _ _ _ (by decide) hcnt), Node.updIna_on,
      Node.on_wrB_ne _ _ _ _ (by decide) hmis]
  · rw [Node.updIna_on, Node.on_wrB_ne _ _ _ _ (by decide) hmis]

theorem Node.governed_bar : (n.governed b c).bar.grants = beaconGrants b ∧ (n.governed b c).bar.govGen = le b 32 2
    ∧ (n.governed b c).bar.lastBeacon = some c ∧ (n.governed b c).bar.coastRun = 0 := by
  rw [Node.governed_eq, Node.genChecked_bar]
  exact n.governs_bar b c

theorem Node.governed_status : (n.governed b c).on BAR_STATUS.BEACON = true ∧ (n.governed b c).on BAR_STATUS.COAST = false
    ∧ (n.governed b c).on INA_STATUS.INAUG = n.on INA_STATUS.INAUG := by
  rw [Node.governed_eq]
  simp (disch := decide) only [Node.genChecked_on]
  exact n.governs_status b c

end

/-! ### A beacon of the composition at a follower (R98, R99, R104, R130) -/

/-- The guardian, train time and audio follow the beacon; `was` is the node before it. -/
def Node.beaconSteered (n was : Node) (r : BeaconRx) : Node :=
  let n := n.guardAlign (le r.bytes 2 4) r.offset false
  let merge := n.mergeBeacon
  let n := (n.trainBeacon r.captured (BitVec.ofNat 32 (le r.bytes 12 4)) merge).audFollow was
  if merge then n.mergeStepped else n

theorem Node.beaconSteered_barKept (n was : Node) (r : BeaconRx) : BarKept n (n.beaconSteered was r) := by
  unfold Node.beaconSteered
  refine BarKept.trans ?_ (.cond (.mergeStepped _) (.refl _))
  exact ((BarKept.guard (n.guardAlign_setsOnly _ _ _)).trans (.trainBeacon _ _ _ _)).trans (.audFollow _ _)

section
variable {n : Node} {r : BeaconRx}

theorem Node.beaconTake_follows (hlead : n.isLead = false) (hdep : n.on INA_STATUS.DEPUTY = false) (hina : n.inaState = 6)
    (hinaug : n.on INA_STATUS.INAUG = true) (hcmd : slice r.bytes 80 28 = List.replicate 28 0) :
    n.beaconTake r = (((n.governed r.bytes (le r.bytes 2 4)).beaconSteered n r).enterCycle ((le r.bytes 2 4 + 1) % 4294967296)).attemptsDue := by
  have hfollow : n.follow r.bytes = n := (if_neg (by simp [hina])).trans (if_neg (by simp [hina]))
  have hstill : ((n.governed r.bytes (le r.bytes 2 4)).beaconSteered n r).on INA_STATUS.INAUG = true :=
    ((Node.beaconSteered_barKept _ n r).on (by decide)).trans ((n.governed_status _ _).2.2.trans hinaug)
  have hfirst : slice r.bytes 80 14 = List.replicate 14 0 := by rw [slice_take (l := 28) (by decide), hcmd]; rfl
  have hsecond : slice r.bytes 94 14 = List.replicate 14 0 := by rw [slice_drop r.bytes 80 14 14, hcmd]; rfl
  have hgo : ∀ m : Node, m.on INA_STATUS.INAUG = true → ¬ ((bit (le r.bytes 1 1) 0 && m.committed && !m.on INA_STATUS.INAUG) = true) :=
    fun m h => by simp [h]
  unfold Node.beaconTake
  rw [if_neg (by simp [hlead, hdep])]
  simp only [hfollow, hfirst, hsecond, Node.commandOnce_none]
  exact congrArg (fun m : Node => (m.enterCycle _).attemptsDue) (if_neg (hgo _ hstill))

/-! ### The check of a beacon (R101, R128) -/

/-- R85, R470: attachment `att` receives. -/
abbrev Node.hearsAt (n : Node) (att : Nat) : Prop :=
  n.on (LINE_CTRL.EN att) = true ∧ n.rd (LINE_CTRL.RXMODE att) ≠ 0 ∧ n.attShed att = false

theorem Node.checkBeacon_badCrc {b : List Byte} (h : b.length ≠ 120 ∨ crc32 (b.take 108) ≠ le b 108 4) : n.checkBeacon b = .badCrc :=
  if_pos (by simpa using h)

theorem Node.beaconRx_deaf (h : ¬ n.hearsAt r.att) : n.beaconRx r = n := by
  refine if_pos ?_
  by_contra hgo
  simp only [Bool.not_eq_true, Bool.or_eq_false_iff, Bool.not_eq_false', decide_eq_false_iff_not] at hgo
  obtain ⟨⟨hen, hmode⟩, hshed⟩ := hgo
  exact h ⟨hen, hmode, hshed⟩

theorem Node.hearsAt.not_deaf {att : Nat} (h : n.hearsAt att) :
    ¬ ((!n.on (LINE_CTRL.EN att) || decide (n.rd (LINE_CTRL.RXMODE att) = 0) || n.attShed att) = true) := by
  obtain ⟨hen, hmode, hshed⟩ := h
  simp [hen, hmode, hshed]

theorem Node.beaconRx_badCrc (h : n.hearsAt r.att) (hc : n.checkBeacon r.bytes = .badCrc) : n.beaconRx r = n.count BAR_CNT_BCRC.VALUE := by
  refine (if_neg h.not_deaf).trans ?_
  rw [hc]

theorem Node.beaconRx_own (h : n.hearsAt r.att) (hc : n.checkBeacon r.bytes = .own) (hen : n.on BAR_CTRL.EN = true)
    (hlast : n.bar.lastBeacon ≠ some (le r.bytes 2 4)) : n.beaconRx r = (n.meets r.att 0).beaconTake r := by
  have hnew : ¬ ((!(n.meets r.att 0).on BAR_CTRL.EN || decide ((n.meets r.att 0).bar.lastBeacon = some (le r.bytes 2 4))) = true) := by
    have hmet : (n.meets r.att 0).on BAR_CTRL.EN = true ∧ (n.meets r.att 0).bar = n.bar := ⟨hen, rfl⟩
    simp [hmet, hlast]
  refine (if_neg h.not_deaf).trans ?_
  rw [hc]
  exact if_neg hnew

end

/-! ### The commands -/

section
variable {s : State} {r : BeaconRx} (hr : s.node.running = true)
include hr

theorem beaconReceive_governs (hh : s.node.hearsAt r.att) (hc : s.node.checkBeacon r.bytes = .own) (hen : s.node.on BAR_CTRL.EN = true)
    (hlast : s.node.bar.lastBeacon ≠ some (le r.bytes 2 4)) (hlead : s.node.isLead = false) (hdep : s.node.on INA_STATUS.DEPUTY = false)
    (hina : s.node.inaState = 6) (hinaug : s.node.on INA_STATUS.INAUG = true) (hcmd : slice r.bytes 80 28 = List.replicate 28 0) :
    Does (.beaconReceive r) s (fun m => m.cycle = (le r.bytes 2 4 + 1) % 4294967296 ∧ m.on BAR_STATUS.BEACON = true
      ∧ m.on BAR_STATUS.COAST = false ∧ m.bar.grants = beaconGrants r.bytes ∧ m.bar.govGen = le r.bytes 32 2
      ∧ m.bar.lastBeacon = some (le r.bytes 2 4) ∧ m.bar.coastRun = 0) := by
  obtain ⟨hgrants, hgen, hcyc, hrun⟩ := (s.node.meets r.att 0).governed_bar r.bytes (le r.bytes 2 4)
  obtain ⟨hbeacon, hcoast, -⟩ := (s.node.meets r.att 0).governed_status r.bytes (le r.bytes 2 4)
  have hkept := ((s.node.meets r.att 0).governed r.bytes (le r.bytes 2 4)).beaconSteered_barKept (s.node.meets r.att 0) r
  refine does_onNode (f := (·.beaconRx r)) hr rfl ?_
  rw [Node.beaconRx_own hh hc hen hlast, Node.beaconTake_follows (n := s.node.meets r.att 0) hlead hdep hina hinaug hcmd]
  generalize Node.beaconSteered _ _ r = k at hkept
  have hatt := AttemptsOnly.attemptsDue (k.enterCycle ((le r.bytes 2 4 + 1) % 4294967296))
  have hbar := hatt.bar
  rw [k.enterCycle_bar, hkept.bar] at hbar
  have hon : ∀ f : Field, f.staysInCycle = true → cycleReg f.addr = true → f.addr ≠ BAR_SPARESTAT.STATE.addr → f.addr ≠ BAR_EVT.SPARE.addr →
      (k.enterCycle ((le r.bytes 2 4 + 1) % 4294967296)).attemptsDue.on f = ((s.node.meets r.att 0).governed r.bytes (le r.bytes 2 4)).on f :=
    fun f hstay hf hs he => Node.on_congr ((hatt.rd hf hs he).trans ((k.enterCycle_rd _ hstay).trans (hkept.rd hf)))
  have hnext : (k.enterCycle ((le r.bytes 2 4 + 1) % 4294967296)).attemptsDue.cycle = (le r.bytes 2 4 + 1) % 4294967296 :=
    (hatt.rd (by decide) (by decide) (by decide)).trans ((k.enterCycle_cycle _).trans (Nat.mod_mod _ _))
  rw [hbar, hnext, hon _ (by decide) (by decide) (by decide) (by decide), hon _ (by decide) (by decide) (by decide) (by decide)]
  exact ⟨rfl, hbeacon, hcoast, hgrants, hgen, hcyc, hrun⟩

theorem beaconReceive_badCrc (hh : s.node.hearsAt r.att) (hc : r.bytes.length ≠ 120 ∨ crc32 (r.bytes.take 108) ≠ le r.bytes 108 4) :
    Answers (.beaconReceive r) s (s.node.count BAR_CNT_BCRC.VALUE) :=
  answers_onNode (f := (·.beaconRx r)) hr rfl (Node.beaconRx_badCrc hh (Node.checkBeacon_badCrc hc))

end

/-- Settles O34: one lemma for each clause. -/
theorem beacons : Obligations.Beacons := by
  unfold Obligations.Beacons
  intro s by_ v r hr n c hears sends crcBad
  refine ⟨?_, beaconSend_sends hr, fun h => ?_, beaconReceive_governs hr, beaconReceive_badCrc hr, fun h => ?_, beaconMiss_counted hr,
    beaconMiss_uncounted hr, fun h => ?_, fun h => ?_⟩
  · exact does_onNode (f := (·.barCtrl v)) hr rfl (n.barCtrl_effect v)
  · exact answers_same (f := (·.beaconSend)) hr rfl (Node.beaconSend_idle h)
  · exact answers_same (f := (·.beaconRx r)) hr rfl (Node.beaconRx_deaf h)
  · exact does_onNode (f := (·.coastLimit)) hr rfl (if_pos h)
  · exact answers_same (f := (·.coastLimit)) hr rfl (if_neg (Nat.not_le.mpr h))

end Sys2Proof.Machine
end

section
/-! PROOFS. The state after reset (03_barel_cycle.md R139; 08_cycle_engines.md R354 to R356; 10_program_exchange.md R415; 11_pair_redundancy.md
R450; 12_power.md R480; 20_register_map.md R679). -/

namespace Sys2Proof.Machine

/-- A field reads after reset as its register's reset word has it. -/
theorem Node.rd_reset (f : Field) : State.reset.node.rd f = bits (resetWord f.addr).toNat f.lo f.width := rfl

theorem Node.engSt_reset (e : Fin 8) : State.reset.node.engSt e = 0 := by
  revert e
  decide

/-- Settles O60: no register is listed in the store, so each reads as its reset word. -/
theorem resetRegistersAndStates : Obligations.ResetRegistersAndStates := by
  unfold Obligations.ResetRegistersAndStates
  refine ⟨fun a => rfl, rfl, rfl, rfl, Node.engSt_reset, ?_⟩
  unfold Node.inaState Node.on
  simp only [Node.rd_reset]
  decide

end Sys2Proof.Machine
end

section
/-! PROOFS. What lists and marks leave alone, and the directory units (04_inauguration.md R173, R174, R176; 07_audio.md R283). -/

namespace Sys2Proof.Machine

/-! ### Marks on data sets and streams -/

/-- The words that place a node in its composition: BAR_STATUS, BAR_CYCLE, INA_STATUS, INA_COMPID and INA_GEN. -/
def placeReg (a : Nat) : Bool := a = 0x40018004 || a = 0x40018008 || a = 0x40020010 || a = 0x4002001C || a = 0x40020028

theorem recReg_of_placeReg {a : Nat} (h : placeReg a = true) : recReg a = false := by
  simp only [placeReg, Bool.or_eq_true, decide_eq_true_eq] at h
  obtain (((rfl | rfl) | rfl) | rfl) | rfl := h <;> decide

theorem placeReg_winAddr (a i : Nat) : placeReg (winAddr a i) = false := by
  have hne : ∀ b, b < 4294967296 → winAddr a i ≠ b := fun b hb => winAddr_ne_of_lt hb
  simp [placeReg, hne]

/-- `m` has `n`'s directory, its publications and streams, what INA holds, and the words that `placeReg` names. -/
structure MarksOnly (n m : Node) : Prop where
  dir : m.dir = n.dir
  ina : m.ina = n.ina
  pubs : m.sig.pubs = n.sig.pubs
  streams : m.aud.streams = n.aud.streams
  reg : ∀ a, placeReg a = true → m.reg a = n.reg a

namespace MarksOnly

variable {n m k : Node}

theorem refl (n : Node) : MarksOnly n n := ⟨rfl, rfl, rfl, rfl, fun _ _ => rfl⟩

theorem trans (h : MarksOnly n m) (g : MarksOnly m k) : MarksOnly n k :=
  ⟨g.dir.trans h.dir, g.ina.trans h.ina, g.pubs.trans h.pubs, g.streams.trans h.streams, fun a ha => (g.reg a ha).trans (h.reg a ha)⟩

theorem cond {c : Prop} [Decidable c] {a b : Node} (ha : MarksOnly n a) (hb : MarksOnly n b) : MarksOnly n (if c then a else b) := by
  split <;> assumption

theorem foldl {β : Type} {f : Node → β → Node} (h : ∀ n x, MarksOnly n (f n x)) (l : List β) (n : Node) : MarksOnly n (l.foldl f n) :=
  List.foldlRecOn (motive := fun m : Node => MarksOnly n m) _ _ (refl n) fun m hm x _ => hm.trans (h m x)

theorem wr (n : Node) (f : Field) (v : Nat) (h : placeReg f.addr = false) : MarksOnly n (n.wr f v) :=
  ⟨rfl, rfl, rfl, rfl, fun a ha => n.wr_reg_ne f v a (by rintro rfl; simp [h] at ha)⟩

theorem setTx (n : Node) (i : Nat) (x : AudTx) : MarksOnly n (n.setTx i x) := ⟨rfl, rfl, rfl, rfl, fun _ _ => rfl⟩

theorem recorded (h : Recorded n m) : MarksOnly n m :=
  ⟨h.dir, h.ina, by rw [h.sig], by rw [h.aud], fun a ha => h.reg a (recReg_of_placeReg ha)⟩

theorem raise (n : Node) (f : Field) (h : placeReg f.addr = false) : MarksOnly n (n.raise f) := (wr n f 1 h).trans (recorded (n.raise_recorded f))

theorem raiseIf (n : Node) (c : Bool) (f : Field) (h : placeReg f.addr = false) : MarksOnly n (n.raiseIf c f) := cond (raise n f h) (refl n)

theorem fixedRecord (n : Node) (code : Nat) (bs : List Byte) : MarksOnly n (n.fixedRecord code bs) := recorded (n.fixedRecord_recorded code bs)

end MarksOnly

/-! ### Publications (R173, R174) -/

section
variable (n : Node) {base cls count num : Nat} {suppressed : Bool}

/-- The publications once the lead's record of a publisher is taken. -/
def Node.pubsWith (n : Node) (base cls count num : Nat) (suppressed : Bool) : List PubRec :=
  n.sig.pubs.filter (fun p => !(runsMeet p.base p.count base count
      && (p.carried || (p.uid = n.uidOf num && (p.suppressed = suppressed || p.suppressed)))))
    ++ [⟨base, count, cls, n.uidOf num, suppressed, false⟩]

theorem Node.takePub_lists (hu : n.uidOf num ≠ 0) (hc : count ≠ 0) :
    MarksOnly { n with sig := { n.sig with pubs := n.pubsWith base cls count num suppressed } } (n.takePub base cls count num suppressed) := by
  unfold Node.takePub
  rw [if_neg (by simp [hu, hc])]
  refine .cond (.refl _) (.foldl (fun m d => ?_) _ _)
  split
  · exact .refl m
  · exact .cond (.refl m) (.cond ((MarksOnly.raiseIf m _ _ (by decide)).trans (.wr _ _ _ (placeReg_winAddr _ _))) (.wr m _ _ (placeReg_winAddr _ _)))

theorem Node.takePub_unnamed (h : n.uidOf num = 0 ∨ count = 0) : n.takePub base cls count num suppressed = n :=
  if_pos (by simpa using h)

/-- The first publication of a list stands alone in it. -/
theorem Node.takePub_first (hl : n.sig.pubs = []) (hu : n.uidOf num ≠ 0) (hc : count ≠ 0) :
    (n.takePub base cls count num suppressed).sig.pubs = [⟨base, count, cls, n.uidOf num, suppressed, false⟩]
      ∧ (n.takePub base cls count num suppressed).ina = n.ina := by
  have h := n.takePub_lists (base := base) (cls := cls) (suppressed := suppressed) hu hc
  exact ⟨h.pubs.trans (by simp [Node.pubsWith, hl]), h.ina⟩

theorem Node.leadPub_first (hl : n.sig.pubs = []) (hu : n.uidOf num ≠ 0) (hc : count ≠ 0) :
    n.leadPub num base cls count = n.takePub base cls count num false := by
  unfold Node.leadPub
  rw [if_neg (by simp [hu, hc]), hl]
  rfl

theorem Node.sendDirPub_single {q : PubRec} (h : n.sig.pubs = [q]) (hq : q.carried = false) : ∃ body, n.sendDirPub = n.inaUnit body := by
  unfold Node.sendDirPub
  rw [h]
  simp only [List.filter_cons_of_pos, hq, Bool.not_false, List.filter_nil]
  exact ⟨_, rfl⟩

end

/-! ### Streams (R283) -/

section
variable (n : Node) {id fmt num : Nat} {dropped : Bool}

/-- The streams once the lead's record of a stream is taken. -/
def Node.streamsWith (n : Node) (id fmt num : Nat) (dropped : Bool) : List StreamRec :=
  n.aud.streams.filter (fun s => s.id ≠ id || (s.uid ≠ n.uidOf num && (dropped || s.dropped))) ++ [⟨id, fmt, n.uidOf num, dropped⟩]

theorem Node.takeStream_lists (hu : n.uidOf num ≠ 0) :
    MarksOnly { n with aud := { n.aud with streams := n.streamsWith id fmt num dropped } } (n.takeStream id fmt num dropped) := by
  have hwr : ∀ (m : Node) (i v : Nat), MarksOnly m (m.wr (AUD_TXW2.STATE i) v) := fun m i v => .wr m _ v (placeReg_winAddr _ _)
  unfold Node.takeStream
  rw [if_neg hu]
  refine MarksOnly.trans (MarksOnly.foldl (fun m i => ?_) (upTo 256) _) (.cond (.refl _) (.foldl (fun m i => ?_) _ _))
  · exact .cond (.wr m _ _ (placeReg_winAddr _ _)) (.refl m)
  · refine .cond (.cond (.refl m) (.cond ?_ ?_)) (.cond (.refl m) (hwr m i 2))
    · exact (hwr m i 3).trans (.setTx _ _ _)
    · exact (((hwr m i 3).trans (.setTx _ _ _)).trans (.raise _ _ (by decide))).trans (.fixedRecord _ _ _)

theorem Node.takeStream_unnamed (h : n.uidOf num = 0) : n.takeStream id fmt num dropped = n := if_pos h

theorem Node.takeStream_first (hl : n.aud.streams = []) (hu : n.uidOf num ≠ 0) :
    (n.takeStream id fmt num dropped).aud.streams = [⟨id, fmt, n.uidOf num, dropped⟩] ∧ (n.takeStream id fmt num dropped).ina = n.ina := by
  have h := n.takeStream_lists (id := id) (fmt := fmt) (dropped := dropped) hu
  exact ⟨h.streams.trans (by simp [Node.streamsWith, hl]), h.ina⟩

theorem Node.leadStream_first (hl : n.aud.streams = []) : n.leadStream num id fmt = n.takeStream id fmt num false := by
  unfold Node.leadStream
  rw [hl]
  rfl

theorem Node.sendDirStream_single {q : StreamRec} (h : n.aud.streams = [q]) : ∃ body, n.sendDirStream = n.inaUnit body := by
  unfold Node.sendDirStream
  rw [h]
  exact ⟨_, rfl⟩

end

/-! ### The commands (R173, R176, R283) -/

theorem Node.tryPrepare_unplanned {n : Node} (h : n.ina.plan = none) : n.tryPrepare = n := by
  unfold Node.tryPrepare
  rw [h]

theorem groups_one {α : Type} (k : Nat) {l : List α} (h : l.isEmpty = false) : groups k 1 l = [l.take k] := by
  rw [groups, h]
  rfl

/-- A number that stands in a run of bytes cut from `o` on. -/
theorem le_slice {o len p k : Nat} (bs : List Byte) (h : p + k ≤ len) : le (slice bs o len) p k = le bs (o + p) k := by
  unfold le slice
  rw [List.drop_take, List.drop_drop, List.take_take, Nat.min_eq_left (by omega)]

section
variable {s : State} {u : UnitRx} (hr : s.node.running = true)
include hr

theorem pubDecl_first {p : Nat × Nat × Nat × Nat × Bool} (hb : pubRecords u.body = [p]) (hl : s.node.sig.pubs = []) (hc : p.2.2.1 ≠ 0)
    (hlead : s.node.isLead = true) (hu : s.node.uidOf u.node ≠ 0) : Does (.pubDecl u) s (fun m =>
      m.sig.pubs = [⟨p.1, p.2.2.1, p.2.1, s.node.uidOf u.node, false, false⟩] ∧ m.ina.units.length = s.node.ina.units.length + 1) := by
  refine does_onNode (f := (·.pubDeclRx u)) hr rfl ?_
  obtain ⟨hpubs, hina⟩ := s.node.takePub_first (base := p.1) (cls := p.2.1) (suppressed := false) hl hu hc
  obtain ⟨body, hsend⟩ := Node.sendDirPub_single _ hpubs rfl
  have heq : s.node.pubDeclRx u = (s.node.takePub p.1 p.2.1 p.2.2.1 u.node false).inaUnit body := by
    rw [← hsend, ← s.node.leadPub_first hl hu hc, Node.pubDeclRx, if_neg (by simp [hlead]), hb]
    rfl
  rw [heq]
  exact ⟨hpubs, by simp [Node.inaUnit, hina]⟩

theorem dirPub_first {p : Nat × Nat × Nat × Nat × Bool} (hb : pubRecords u.body = [p]) (hl : s.node.sig.pubs = []) (hc : p.2.2.1 ≠ 0)
    (hlead : u.node = s.node.bar.leadNum) (hu : s.node.uidOf p.2.2.2.1 ≠ 0) : Does (.dirPub u) s (fun m =>
      m.sig.pubs = [⟨p.1, p.2.2.1, p.2.1, s.node.uidOf p.2.2.2.1, p.2.2.2.2, false⟩]) := by
  refine does_onNode (f := (·.dirPubRx u)) hr rfl ?_
  rw [Node.dirPubRx, if_neg (by simp [Node.fromLead, hlead]), hb]
  exact (s.node.takePub_first hl hu hc).1

theorem streamDecl_first {q : Nat × Nat × Nat × Bool} (hb : streamRecords u.body = [q]) (hl : s.node.aud.streams = [])
    (hlead : s.node.isLead = true) (hu : s.node.uidOf u.node ≠ 0) : Does (.streamDecl u) s (fun m =>
      m.aud.streams = [⟨q.1, q.2.1, s.node.uidOf u.node, false⟩] ∧ m.ina.units.length = s.node.ina.units.length + 1) := by
  refine does_onNode (f := (·.streamDeclRx u)) hr rfl ?_
  obtain ⟨hstreams, hina⟩ := s.node.takeStream_first (id := q.1) (fmt := q.2.1) (dropped := false) hl hu
  obtain ⟨body, hsend⟩ := Node.sendDirStream_single _ hstreams
  have heq : s.node.streamDeclRx u = (s.node.takeStream q.1 q.2.1 u.node false).inaUnit body := by
    rw [← hsend, ← s.node.leadStream_first hl, Node.streamDeclRx, if_neg (by simp [hlead]), hb]
    rfl
  rw [heq]
  exact ⟨hstreams, by simp [Node.inaUnit, hina]⟩

theorem dirStream_first {q : Nat × Nat × Nat × Bool} (hb : streamRecords u.body = [q]) (hl : s.node.aud.streams = [])
    (hlead : u.node = s.node.bar.leadNum) (hu : s.node.uidOf q.2.2.1 ≠ 0) : Does (.dirStream u) s (fun m =>
      m.aud.streams = [⟨q.1, q.2.1, s.node.uidOf q.2.2.1, q.2.2.2⟩]) := by
  refine does_onNode (f := (·.dirStreamRx u)) hr rfl ?_
  rw [Node.dirStreamRx, if_neg (by simp [Node.fromLead, hlead]), hb]
  exact (s.node.takeStream_first hl hu).1

theorem dirNode_single (h1 : le u.body 1 1 = 1) (hl : u.body.length = 20) (hlead : u.node = s.node.bar.leadNum) (hp : s.node.ina.plan = none) :
    Answers (.dirNode u) s { s.node with ina := { s.node.ina with
      dirNew := s.node.ina.dirNew.filter (fun r => r.num ≠ (dirOf (slice u.body 4 16)).num) ++ [dirOf (slice u.body 4 16)] } } := by
  have hgroup : groups 16 1 (u.body.drop 4) = [slice u.body 4 16] := groups_one 16 (by simp [hl])
  refine answers_onNode (f := (·.dirNodeRx u)) hr rfl ?_
  rw [Node.dirNodeRx, if_neg (by simp [h1, hl, Node.fromLead, hlead]), h1, hgroup]
  exact Node.tryPrepare_unplanned hp

theorem dirSch_single (h1 : le u.body 1 1 = 1) (hl : u.body.length = 20) (hlead : u.node = s.node.bar.leadNum) (hp : s.node.ina.plan = none) :
    Answers (.dirSch u) s { s.node with ina := { s.node.ina with
      schNew := s.node.ina.schNew.filter (fun x => x.1 ≠ le u.body 2 2)
        ++ [(le u.body 2 2, ⟨le u.body 4 4, le u.body 8 4, le u.body 12 4, le u.body 16 4⟩)] } } := by
  have hgroup : groups 16 1 (u.body.drop 4) = [slice u.body 4 16] := groups_one 16 (by simp [hl])
  have hput : (upTo 1).filterMap (fun j => (([slice u.body 4 16].map (fun b => (⟨le b 0 4, le b 4 4, le b 8 4, le b 12 4⟩ : SchEnt)))[j]?).map
      (fun e => (le u.body 2 2 + j, e))) = [(le u.body 2 2, ⟨le u.body 4 4, le u.body 8 4, le u.body 12 4, le u.body 16 4⟩)] := by
    have hcut : ∀ p, p + 4 ≤ 16 → le (slice u.body 4 16) p 4 = le u.body (4 + p) 4 := fun p hp => le_slice u.body hp
    simp only [upTo, List.range_one, List.filterMap_cons, List.map_cons, List.map_nil, List.getElem?_cons_zero, Option.map_some, List.filterMap_nil,
      hcut 0 (by decide), hcut 4 (by decide), hcut 8 (by decide), hcut 12 (by decide), Nat.add_zero]
  refine answers_onNode (f := (·.dirSchRx u)) hr rfl ?_
  rw [Node.dirSchRx, if_neg (by simp [h1, hl, Node.fromLead, hlead]), h1, hgroup]
  dsimp only
  rw [hput]
  refine Eq.trans (Node.tryPrepare_unplanned ?_) ?_
  · exact hp
  · simp [Node.updIna, eq_comm]

theorem dirSum_taken (hl : u.body.length = 20) (hlead : u.node = s.node.bar.leadNum) (hp : s.node.ina.plan = none) :
    Answers (.dirSum u) s { s.node with ina := { s.node.ina with
      dirSum := some (le u.body 4 2, le u.body 6 4, le u.body 10 4, le u.body 14 4) } } := by
  refine answers_onNode (f := (·.dirSumRx u)) hr rfl ?_
  rw [Node.dirSumRx, if_neg (by simp [hl, Node.fromLead, hlead])]
  exact Node.tryPrepare_unplanned hp

/-- Of the lists only the lead's units are taken. -/
theorem dirUnits_foreign (h : ¬ u.node = s.node.bar.leadNum) : Answers (.dirNode u) s s.node ∧ Answers (.dirSch u) s s.node
    ∧ Answers (.dirSum u) s s.node ∧ Answers (.dirPub u) s s.node ∧ Answers (.dirStream u) s s.node := by
  have hf : s.node.fromLead u.node = false := decide_eq_false h
  refine ⟨answers_same (f := (·.dirNodeRx u)) hr rfl (if_pos ?_), answers_same (f := (·.dirSchRx u)) hr rfl (if_pos ?_),
    answers_same (f := (·.dirSumRx u)) hr rfl (if_pos ?_), answers_same (f := (·.dirPubRx u)) hr rfl (if_pos ?_),
    answers_same (f := (·.dirStreamRx u)) hr rfl (if_pos ?_)⟩ <;> simp [hf]

end

/-- Settles O38: one lemma for each clause. -/
theorem directoryUnits : Obligations.DirectoryUnits := by
  unfold Obligations.DirectoryUnits
  intro s u p q hr n i b fromLead first
  refine ⟨fun hb hl hc => ⟨pubDecl_first hr hb hl hc, dirPub_first hr hb hl hc⟩, fun hb hl => ⟨streamDecl_first hr hb hl, dirStream_first hr hb hl⟩,
    fun hlead => ⟨?_, ?_⟩, fun h1 hl hf hp => ⟨dirNode_single hr h1 hl hf hp, dirSch_single hr h1 hl hf hp⟩, dirSum_taken hr, dirUnits_foreign hr⟩
  · exact answers_same (f := (·.pubDeclRx u)) hr rfl (if_pos (by simpa using hlead))
  · exact answers_same (f := (·.streamDeclRx u)) hr rfl (if_pos (by simpa using hlead))

end Sys2Proof.Machine
end

section
/-! PROOFS. Triggers, the lead's commands and the commits it announces (04_inauguration.md R150, R153, R170, R175, R176, R188, R191). -/

namespace Sys2Proof.Machine

/-! ### What aborts leave of INA and of the lead's commands (R79, R493) -/

/-- Aborted calibrations change line settings and registers alone. -/
theorem Node.calInaug_eq (n : Node) : n.calInaug = { n with regs := n.calInaug.regs, line := n.calInaug.line } := by
  refine List.foldlRecOn (motive := fun m : Node => m = { n with regs := m.regs, line := m.line }) _ _ rfl fun m hm k _ => ?_
  have hstep : m.calAbort k = { m with regs := (m.calAbort k).regs, line := (m.calAbort k).line } := by
    unfold Node.calAbort
    split <;> rfl
  rw [hstep, hm]

/-- `m` holds of INA what `n` does but for the units that wait, and its beacons have `n`'s commands and perhaps more. -/
structure CommandsKept (n m : Node) : Prop where
  ina : m.ina = { n.ina with units := m.ina.units }
  cmds : n.bar.cmds <+: m.bar.cmds

namespace CommandsKept

variable {n m k : Node}

theorem of_eq (hi : m.ina = n.ina) (hc : m.bar.cmds = n.bar.cmds) : CommandsKept n m := ⟨by rw [hi], by rw [hc]⟩

theorem refl (n : Node) : CommandsKept n n := of_eq rfl rfl

theorem trans (h : CommandsKept n m) (g : CommandsKept m k) : CommandsKept n k := ⟨by rw [g.ina, h.ina], h.cmds.trans g.cmds⟩

theorem cond {c : Prop} [Decidable c] {a b : Node} (ha : CommandsKept n a) (hb : CommandsKept n b) : CommandsKept n (if c then a else b) := by
  split <;> assumption

theorem wr (n : Node) (f : Field) (v : Nat) : CommandsKept n (n.wr f v) := of_eq rfl rfl

theorem raise (n : Node) (f : Field) : CommandsKept n (n.raise f) := of_eq (n.raise_ina f) (by rw [n.raise_bar f])

theorem leadCmd (n : Node) (bs : List Byte) : CommandsKept n (n.leadCmd bs) := ⟨rfl, List.prefix_append _ _⟩

theorem calInaug (n : Node) : CommandsKept n n.calInaug := of_eq (by rw [n.calInaug_eq]) (by rw [n.calInaug_eq])

theorem lullBack (n : Node) : CommandsKept n n.lullBack := by
  unfold Node.lullBack
  refine cond (refl n) (trans ?_ ((wr _ AON_CNT_ABORTS.VALUE _).trans (raise _ _)))
  exact cond (of_eq rfl rfl) (of_eq rfl rfl)

theorem ringAbort (n : Node) (cause num : Nat) : CommandsKept n (n.ringAbort cause num) := by
  unfold Node.ringAbort
  split
  · exact refl n
  · refine trans ?_ (cond ((wr _ AON_CNT_ABORTS.VALUE _).trans (raise _ _)) (lullBack _))
    exact ⟨rfl, List.prefix_append _ _⟩

end CommandsKept

section
variable (n : Node)

theorem Node.inaTrigger_commands : CommandsKept n n.inaTrigger :=
  ((CommandsKept.raise n _).trans (.calInaug _)).trans (.ringAbort _ _ _)

theorem Node.inaugBegin_commands : CommandsKept n n.inaugBegin :=
  ((CommandsKept.wr n _ _).trans (.calInaug _)).trans (.ringAbort _ _ _)

theorem Node.inaTrigger_on : n.inaTrigger.on INA_EVT.TRIG = true := by
  rw [Node.on_congr (n.inaTrigger_rd (by decide)), Node.on_raise_same _ _ (by decide) rfl (by decide)]

theorem Node.inaugBegin_on : n.inaugBegin.on INA_STATUS.INAUG = true := by
  rw [Node.on_congr (n.inaugBegin_rd (by decide))]
  exact decide_eq_true (Node.rd_wr_same _ _ _ (by decide))

/-! ### A plan prepared (R135, R171) -/

theorem Node.guardDiscard_setsOnly : SetsOnly guardReg n n.guardDiscard :=
  (((SetsOnly.grd n _).trans (.wr _ _ _ (by decide))).trans (.wr _ _ _ (by decide))).trans (.count _ _ (by decide))

theorem Node.guardCommit_setsOnly (id cycle : Nat) : SetsOnly guardReg n (n.guardCommit id cycle) :=
  .cond (.count n _ (by decide)) (.cond n.guardDiscard_setsOnly (.cond n.guardDiscard_setsOnly (.grd n _)))

theorem SetsOnly.updIna {S : Nat → Bool} {n m : Node} (h : SetsOnly S n m) (f : InaState → InaState) : SetsOnly S (n.updIna f) (m.updIna f) := by
  refine ⟨?_, h.reg⟩
  rw [Node.updIna, h.node]
  rfl

/-- A plan prepared stands, ready or not; beside it only the guardian's block and state differ. -/
theorem Node.prepare_setsOnly (p : CommitPlan) :
    ∃ ready, SetsOnly guardReg (n.updIna (fun i => { i with plan := some { p with ready := ready } })) (n.prepare p) := by
  unfold Node.prepare
  dsimp only
  split
  · exact ⟨p.ready, .refl _⟩
  · exact ⟨true, ((n.guardArm_setsOnly _ _).trans (Node.guardCommit_setsOnly _ _ _)).updIna _⟩

/-! ### A commit announced by the lead (R102, R170, R175, R176) -/

theorem Node.foldl_inaUnit {β : Type} (g : β → List Byte) (l : List β) (n : Node) : l.foldl (fun n x => n.inaUnit (g x)) n
    = { n with ina := { n.ina with units := n.ina.units ++ l.map g } } := by
  induction l generalizing n with
  | nil => simp
  | cons x l ih => rw [List.foldl_cons, ih, Node.inaUnit]; simp

/-- The plan that the lead announces. -/
def Node.leadPlan (kind m takes newId nonce gen : Nat) (dir : List DirRec) : CommitPlan :=
  ⟨m, takes, newId, nonce, gen, kind, dir.length, carCount dir, schCrc (n.schFor kind dir).1, true, false, dir, (n.schFor kind dir).1,
    (n.schFor kind dir).2⟩

variable {n} {kind m takes newId nonce gen : Nat} {dir recs : List DirRec}

/-- The commands and units of an announced plan change nothing but what waits to be sent. -/
theorem Node.announced_sent (k : Node) (p : CommitPlan) (recs : List DirRec) :
    ((k.announce p).sendDirNodes recs).sendDirSum p = { k with
      ina := { k.ina with units := (((k.announce p).sendDirNodes recs).sendDirSum p).ina.units }
      bar := (((k.announce p).sendDirNodes recs).sendDirSum p).bar } := by
  rw [Node.sendDirNodes, Node.foldl_inaUnit]
  rfl

theorem Node.leadCommit_fits (h : anyConflict (n.schFor kind dir).1 = false) : n.leadCommit kind m takes newId nonce gen dir recs
    = (((n.inaugBegin.announce (n.leadPlan kind m takes newId nonce gen dir)).sendDirNodes recs).sendDirSum
      (n.leadPlan kind m takes newId nonce gen dir)).prepare (n.leadPlan kind m takes newId nonce gen dir) :=
  if_neg (by simp [h])

theorem Node.leadCommit_conflict (h : anyConflict (n.schFor kind dir).1 = true) : n.leadCommit kind m takes newId nonce gen dir recs = n.schRefuse :=
  if_pos h

/-- A commit announced: the plan stands, and only the guardian's block differs from the beginning inauguration. -/
theorem Node.leadCommit_announced (h : anyConflict (n.schFor kind dir).1 = false) :
    (∃ ready, (n.leadCommit kind m takes newId nonce gen dir recs).ina.plan = some { n.leadPlan kind m takes newId nonce gen dir with ready := ready })
    ∧ (n.leadCommit kind m takes newId nonce gen dir recs).ina = { n.ina with
        units := (n.leadCommit kind m takes newId nonce gen dir recs).ina.units
        plan := (n.leadCommit kind m takes newId nonce gen dir recs).ina.plan }
    ∧ ∀ f : Field, guardReg f.addr = false → (n.leadCommit kind m takes newId nonce gen dir recs).rd f = n.inaugBegin.rd f := by
  rw [Node.leadCommit_fits h, n.inaugBegin.announced_sent]
  obtain ⟨ready, hset⟩ := Node.prepare_setsOnly _ (n.leadPlan kind m takes newId nonce gen dir)
  refine ⟨⟨ready, congrArg InaState.plan hset.ina⟩, ?_, fun f hf => hset.rd hf⟩
  rw [hset.ina, Node.updIna_ina]
  dsimp only
  rw [n.inaugBegin_commands.ina]

/-- An announced or refused commit leaves of INA all but the units and the plan. -/
theorem Node.leadCommit_ina : (n.leadCommit kind m takes newId nonce gen dir recs).ina = { n.ina with
    units := (n.leadCommit kind m takes newId nonce gen dir recs).ina.units
    plan := (n.leadCommit kind m takes newId nonce gen dir recs).ina.plan } := by
  cases h : anyConflict (n.schFor kind dir).1 with
  | false => exact (Node.leadCommit_announced h).2.1
  | true => rw [Node.leadCommit_conflict h, Node.schRefuse, Node.raise_ina, Node.count_ina]

theorem Node.leadCommit_rd {f : Field} (hab : abortReg f.addr = false) (hgrd : guardReg f.addr = false) (hin : INA_STATUS.INAUG.apart f = true)
    (hcnt : INA_CNT_SCHMIS.VALUE.apart f = true) (hev : INA_EVT.SCHMIS.apart f = true) :
    (n.leadCommit kind m takes newId nonce gen dir recs).rd f = n.rd f := by
  have hrec : recReg f.addr = false := by
    simp only [abortReg, Bool.or_eq_false_iff] at hab
    exact hab.1.1
  cases h : anyConflict (n.schFor kind dir).1 with
  | false => rw [(Node.leadCommit_announced h).2.2 f hgrd, n.inaugBegin_rd hab, n.rd_wr_ne _ _ _ (by decide) hin]
  | true => rw [Node.leadCommit_conflict h, Node.schRefuse, Node.rd_raise _ _ _ (by decide) hrec hev, n.rd_count_ne _ _ (by decide) hcnt]

/-- `m` is a node whose lead has announced, in cycle and generation of `n`, a commit of a kind over a directory 24 cycles ahead. -/
def Node.Announces (n : Node) (kind : Nat) (dir : List DirRec) (m : Node) : Prop :=
  m.on INA_STATUS.INAUG = true ∧ ∃ q, m.ina.plan = some q ∧ q.kind = kind ∧ q.m = n.cycle + 24 ∧ q.takes = n.cycle + 24
    ∧ q.gen = (n.rd INA_GEN.VALUE + 1) % 65536 ∧ q.dir = dir ∧ q.crc = schCrc (n.schFor kind dir).1

theorem Node.leadCommit_announces (h : anyConflict (n.schFor kind dir).1 = false) : n.Announces kind dir
    (n.leadCommit kind (n.cycle + 24) (n.cycle + 24) newId nonce ((n.rd INA_GEN.VALUE + 1) % 65536) dir recs) := by
  obtain ⟨⟨ready, hplan⟩, -, hrd⟩ := Node.leadCommit_announced (m := n.cycle + 24) (takes := n.cycle + 24) (newId := newId) (nonce := nonce)
    (gen := (n.rd INA_GEN.VALUE + 1) % 65536) (recs := recs) h
  exact ⟨(Node.on_congr (hrd _ (by decide))).trans n.inaugBegin_on, _, hplan, rfl, rfl, rfl, rfl, rfl, rfl⟩

end

/-! ### What SCH follows from (R167) -/

/-- A template, a directory and the entries in service alike give the same SCH: nothing else of the node counts. -/
theorem Node.schFor_congr {n m : Node} (hm : m.mem = n.mem) (hd : m.dir = n.dir) (hb : m.rd PEX_STATUS.BANK = n.rd PEX_STATUS.BANK)
    (hs : ∀ i, m.sch i = n.sch i) (kind : Nat) (dir : List DirRec) : m.schFor kind dir = n.schFor kind dir := by
  have htemplate : m.templateBytes = n.templateBytes := by
    simp only [Node.templateBytes, Node.sectionOf, Node.sections, Node.bankBase, Node.memLe, Node.memBytes, Node.memByte, hm, hb]
  have hlist : m.schList = n.schList := by simp only [Node.schList, funext hs]
  rw [Node.schFor, htemplate, Node.serviceFor, hlist, hd, Node.schFor, Node.serviceFor]

end Sys2Proof.Machine
end

section
/-! PROOFS. The commit of a plan at cycle M (04_inauguration.md R171 to R174, R183, R186; 05_signals.md R206, R215, R221, R222; 07_audio.md R282,
R289): what re-basing and declaring leave of a node's place in its composition, and the commit stage by stage. -/

namespace Sys2Proof.Machine

/-! ### What keeps a node's place -/

/-- `m` has `n`'s directory, what INA holds but for the units that wait, and the words that `placeReg` names. -/
structure PlaceKept (n m : Node) : Prop where
  dir : m.dir = n.dir
  ina : m.ina = { n.ina with units := m.ina.units }
  reg : ∀ a, placeReg a = true → m.reg a = n.reg a

namespace PlaceKept

variable {n m k : Node}

theorem marks (h : MarksOnly n m) : PlaceKept n m := ⟨h.dir, by rw [h.ina], h.reg⟩

theorem of_eq (hd : m.dir = n.dir) (hi : m.ina = n.ina) (hr : m.regs = n.regs) : PlaceKept n m :=
  ⟨hd, by rw [hi], fun a _ => by rw [Node.reg, hr, Node.reg]⟩

theorem refl (n : Node) : PlaceKept n n := of_eq rfl rfl rfl

theorem trans (h : PlaceKept n m) (g : PlaceKept m k) : PlaceKept n k :=
  ⟨g.dir.trans h.dir, by rw [g.ina, h.ina], fun a ha => (g.reg a ha).trans (h.reg a ha)⟩

theorem cond {c : Prop} [Decidable c] {a b : Node} (ha : PlaceKept n a) (hb : PlaceKept n b) : PlaceKept n (if c then a else b) := by
  split <;> assumption

theorem foldl {β : Type} {f : Node → β → Node} (h : ∀ n x, PlaceKept n (f n x)) (l : List β) (n : Node) : PlaceKept n (l.foldl f n) :=
  List.foldlRecOn (motive := fun m : Node => PlaceKept n m) _ _ (refl n) fun m hm x _ => hm.trans (h m x)

theorem rd (h : PlaceKept n m) {f : Field} (hf : placeReg f.addr = true) : m.rd f = n.rd f := Node.rd_of_reg (h.reg _ hf)

theorem setReg (n : Node) (a : Nat) (v : Word) (h : placeReg a = false) : PlaceKept n (n.setReg a v) :=
  ⟨rfl, rfl, fun b hb => n.setReg_reg_ne a b v (by rintro rfl; simp [h] at hb)⟩

theorem wr (n : Node) (f : Field) (v : Nat) (h : placeReg f.addr = false) : PlaceKept n (n.wr f v) := setReg n _ _ h

theorem wrWin (n : Node) (a i lo w v : Nat) : PlaceKept n (n.wr ⟨winAddr a i, lo, w⟩ v) := wr n _ v (placeReg_winAddr a i)

theorem count (n : Node) (f : Field) (h : placeReg f.addr = false) : PlaceKept n (n.count f) := wr n f _ h

theorem raise (n : Node) (f : Field) (h : placeReg f.addr = false) : PlaceKept n (n.raise f) := marks (.raise n f h)

theorem raiseIf (n : Node) (c : Bool) (f : Field) (h : placeReg f.addr = false) : PlaceKept n (n.raiseIf c f) := marks (.raiseIf n c f h)

theorem fixedRecord (n : Node) (code : Nat) (bs : List Byte) : PlaceKept n (n.fixedRecord code bs) := marks (.fixedRecord n code bs)

theorem sig (n : Node) (x : SigState) : PlaceKept n { n with sig := x } := of_eq rfl rfl rfl

theorem aud (n : Node) (x : AudState) : PlaceKept n { n with aud := x } := of_eq rfl rfl rfl

theorem bar (n : Node) (x : BarState) : PlaceKept n { n with bar := x } := of_eq rfl rfl rfl

theorem time (n : Node) (x : TimeState) : PlaceKept n { n with time := x } := of_eq rfl rfl rfl

theorem line (n : Node) (x : LineState) : PlaceKept n { n with line := x } := of_eq rfl rfl rfl

theorem inaUnit (n : Node) (body : List Byte) : PlaceKept n (n.inaUnit body) := ⟨rfl, rfl, fun _ _ => rfl⟩

/-! ### Lists and declarations (R173, R174, R282, R283) -/

theorem takePub (n : Node) (base cls k num : Nat) (suppressed : Bool) : PlaceKept n (n.takePub base cls k num suppressed) := by
  by_cases h : n.uidOf num = 0 ∨ k = 0
  · rw [n.takePub_unnamed h]
    exact refl n
  · obtain ⟨hu, hc⟩ := not_or.mp h
    exact (sig n _).trans (marks (n.takePub_lists hu hc))

theorem takeStream (n : Node) (id fmt num : Nat) (dropped : Bool) : PlaceKept n (n.takeStream id fmt num dropped) := by
  by_cases h : n.uidOf num = 0
  · rw [n.takeStream_unnamed h]
    exact refl n
  · exact (aud n _).trans (marks (n.takeStream_lists h))

theorem leadPub (n : Node) (num base cls k : Nat) : PlaceKept n (n.leadPub num base cls k) := by
  unfold Node.leadPub
  refine cond (refl n) ((takePub n _ _ _ _ _).trans (foldl (fun m p => (takePub m _ _ _ _ _).trans (cond ?_ (refl _))) _ _))
  exact ((count _ _ (by decide)).trans (raise _ _ (by decide))).trans (fixedRecord _ _ _)

theorem leadStream (n : Node) (num id fmt : Nat) : PlaceKept n (n.leadStream num id fmt) := by
  unfold Node.leadStream
  dsimp only
  split
  · exact takeStream n _ _ _ _
  · exact cond ((takeStream n _ _ _ _).trans (takeStream _ _ _ _ _)) (takeStream n _ _ _ _)

theorem sendDirPub (n : Node) : PlaceKept n n.sendDirPub := foldl (fun m _ => inaUnit m _) _ _

theorem sendDirStream (n : Node) : PlaceKept n n.sendDirStream := foldl (fun m _ => inaUnit m _) _ _

theorem declarePubs (n : Node) : PlaceKept n n.declarePubs := by
  unfold Node.declarePubs
  refine cond (refl n) (cond (refl n) (cond ?_ (foldl (fun m _ => inaUnit m _) _ _)))
  exact (foldl (fun m _ => leadPub m _ _ _ _) _ _).trans (sendDirPub _)

theorem declareStreams (n : Node) (txs : List Nat) : PlaceKept n (n.declareStreams txs) := by
  unfold Node.declareStreams
  refine cond (refl n) (trans (foldl (fun m i => cond (refl m) (wrWin m _ _ _ _ _)) _ n) (cond ?_ (foldl (fun m _ => inaUnit m _) _ _)))
  exact (foldl (fun m _ => leadStream m _ _ _) _ _).trans (sendDirStream _)

theorem audCommit (n : Node) : PlaceKept n n.audCommit := by
  unfold Node.audCommit
  refine trans ?_ (declareStreams _ _)
  refine (aud n _).trans (foldl (fun m i => ?_) _ _)
  refine trans ?_ (cond (wrWin _ _ _ _ _ _) (cond (wrWin _ _ _ _ _ _) (refl _)))
  exact ((wrWin m _ _ _ _ _).trans (raiseIf _ _ _ (by decide))).trans (raiseIf _ _ _ (by decide))

/-! ### Re-basing (R172, R206, R215, R221, R222) -/

theorem pimgPut (n : Node) (i v stat : Nat) : PlaceKept n (n.pimgPut i v stat) := of_eq rfl rfl rfl

theorem setSubs (n : Node) (i : Nat) (b : Bool) : PlaceKept n (n.setSubs i b) := of_eq rfl rfl rfl

theorem moveSubs (n : Node) (moves : List (Option Nat × Option Nat × Nat × Bool)) : PlaceKept n (n.moveSubs moves) := by
  unfold Node.moveSubs
  refine trans ?_ (foldl (fun m i => setSubs m i true) _ _)
  refine foldl (fun m x => ?_) _ _
  split
  · exact foldl (fun m k => setSubs m _ false) _ _
  · exact refl m

theorem activate (n : Node) (svc : List SubSvc) : PlaceKept n (n.activate svc) := by
  unfold Node.activate
  refine trans ?_ (raiseIf _ _ _ (by decide))
  refine trans ?_ (foldl (fun m r => wrWin m _ _ _ _ _) _ _)
  refine trans ?_ (foldl (fun m p => cond (pimgPut m _ _ _) (refl m)) _ _)
  exact (sig n _).trans (foldl (fun m p => cond (pimgPut m _ _ _) (refl m)) _ _)

theorem bindCheck (n : Node) : PlaceKept n n.bindCheck := by
  refine foldl (fun m d => ?_) _ _
  exact (((wrWin m _ _ _ _ _).trans (wrWin _ _ _ _ _ _)).trans (raiseIf _ _ _ (by decide))).trans (raiseIf _ _ _ (by decide))

theorem sigRebase (n : Node) (oldDir : List DirRec) (first : Bool) : PlaceKept n (n.sigRebase oldDir first) := by
  unfold Node.sigRebase
  refine trans ?_ (bindCheck _)
  refine trans ?_ (activate _ _)
  refine trans ?_ (foldl (fun m p => ?_) _ _)
  · refine trans ?_ (raiseIf _ _ _ (by decide))
    refine trans ?_ (foldl (fun m p => ?_) _ _)
    · refine trans ?_ (moveSubs _ _)
      exact (sig n _).trans (foldl (fun m d => wrWin m _ _ _ _ _) _ _)
    · exact (((wrWin m _ _ _ _ _).trans (wrWin _ _ _ _ _ _)).trans (wrWin _ _ _ _ _ _)).trans (sig _ _)
  · dsimp only
    split
    · exact foldl (fun m k => cond (refl m) (pimgPut m _ _ _)) _ _
    · exact foldl (fun m k => cond (refl m) (pimgPut m _ _ _)) _ _
    · exact refl m

theorem setHandleOf (n : Node) (node h : Nat) : PlaceKept n (n.setHandleOf node h) := by
  unfold Node.setHandleOf
  split
  · exact refl n
  · rename_i hnode
    refine wr n _ _ (Bool.eq_false_iff.mpr fun hp => ?_)
    simp only [placeReg, Bool.or_eq_true, decide_eq_true_eq] at hp hnode
    omega

theorem remapPeers (n : Node) : PlaceKept n n.remapPeers := by
  unfold Node.remapPeers
  refine trans ?_ (foldl (fun m r => ?_) _ _)
  · exact (line n _).trans (foldl (fun m k => setHandleOf m _ _) _ _)
  split
  · exact setHandleOf m _ _
  · exact refl m

theorem dropReport (n : Node) (d : Nat × Nat × Nat) : PlaceKept n (n.dropReport d) := by
  have hfree : ∀ k, placeReg (0x40020100 + k) = false := fun k => by
    simp only [placeReg, Bool.or_eq_false_iff, decide_eq_false_iff_not]
    omega
  unfold Node.dropReport
  refine trans ?_ (fixedRecord _ _ _)
  refine trans ?_ (raise _ _ (by decide))
  refine trans ?_ (count _ _ (by decide))
  exact (foldl (fun m k => setReg m _ _ (hfree _)) _ n).trans (setReg _ _ _ (hfree 0))

theorem setSch (n : Node) {i : Nat} (hi : i < 512) (e : SchEnt) : PlaceKept n (n.setSch i e) := by
  have hword : ∀ k, k < 4 → placeReg (0x4001C000 + 16 * i + 4 * k) = false := fun k hk => by
    simp only [placeReg, Bool.or_eq_false_iff, decide_eq_false_iff_not]
    omega
  exact (((setReg n _ _ (hword 0 (by decide))).trans (setReg _ _ _ (hword 1 (by decide)))).trans (setReg _ _ _ (hword 2 (by decide)))).trans
    (setReg _ _ _ (hword 3 (by decide)))

theorem loadSch (n : Node) (es : List SchEnt) : PlaceKept n (n.loadSch es) :=
  List.foldlRecOn (motive := fun m : Node => PlaceKept n m) _ _ (refl n) fun m hm _ hi => hm.trans (setSch m (List.mem_range.mp hi) _)

theorem carryBar (n : Node) (kept : List (Nat × Nat)) : PlaceKept n (n.carryBar kept) := by
  unfold Node.carryBar
  refine (bar n _).trans (cond (refl _) ?_)
  split
  · exact wr _ _ _ (by decide)
  · exact (wr _ _ _ (by decide)).trans (raise _ _ (by decide))

theorem setTrLock (n : Node) (b : Bool) : PlaceKept n (n.setTrLock b) :=
  cond (refl n) ((wr n _ _ (by decide)).trans (raise _ _ (by decide)))

theorem trainLead (n : Node) : PlaceKept n n.trainLead := by
  unfold Node.trainLead
  refine trans ?_ ((wr _ _ _ (by decide)).trans (setTrLock _ _))
  refine trans ?_ (time _ _)
  exact ((wr n _ _ (by decide)).trans (wr _ _ _ (by decide))).trans (wr _ _ _ (by decide))

end PlaceKept

/-! ### The commit, stage by stage (R171, R172, R183, R186) -/

section
variable (n : Node) (p : CommitPlan) (r : DirRec)

/-- The windows swapped, the numbering moved, and SCH with its claims in service. -/
def Node.commitLoaded : Node :=
  let k := ((n.guardSwap p.takes).shiftCycles ((p.takes + 4294967296 - p.m) % 4294967296)).wr BAR_CYCLE.VALUE p.takes
  let claims := carryClaims ((upTo 512).filterMap (fun i => if (n.sch i).isValid then some (i, n.sch i) else none)) n.dir p.dir p.sch
  (k.loadSch claims.1).carryBar claims.2

/-- The directory and the registers of the plan in service; `deputy` says whether the node goes on as the joining part's deputy. -/
def Node.commitPlaced (deputy : Bool) : Node :=
  let k := (({ n with dir := p.dir } : Node).commitRegs p r).wrB INA_STATUS.DEPUTY deputy
  if r.lead || deputy then k else k.wr GRD_STATUS.LEAD 0

/-- What roll-call, contention and INA held for the composition before is forgotten. -/
def Node.commitCleared : Node :=
  let k := if p.kind = 1 then n else
    let k := { n with bar := { n.bar with rcMiss := [], hbActive := [] } }
    (upTo 4).foldl (fun k m => (k.wr (BAR_RCPRES.BITS m) 0).wr (BAR_RCABS.BITS m) 0) k
  let k := { k with bar := { k.bar with contenders := k.bar.contenders.filter (fun c => c.type ≠ 0x60 && c.type ≠ 0x63) } }
  let k := k.updIna (fun i => { i with
    plan := none, dirNew := [], schNew := [], dirSum := none, recs := [], genMisRun := 0, splitTrig := false, everCommitted := true, heardCand := false })
  k.wr INA_STATUS.INAUG 0

/-- INA's state after the commit, with the line settings it asks for. -/
def Node.commitEntered : Node :=
  if p.kind = 2 then (n.inaGo 7).wr INA_STATUS.MPHASE 4 else ((n.inaGo 6).wr INA_STATUS.MPHASE 0).modesFor p.dir r

/-- The units re-based on the new directory, their declarations made, and the commit counted. -/
def Node.commitRebased (oldDir : List DirRec) (first : Bool) : Node :=
  let k := ((((p.drops.foldl Node.dropReport n).remapPeers.sigRebase oldDir first).audCommit).declarePubs).count INA_CNT_COMMITS.VALUE
  if p.kind = 0 then k.count INA_CNT_COLD.VALUE else k

/-- The commit is told, and a lead of a cold composition leads train time. -/
def Node.commitTold : Node :=
  let k := n.raise INA_EVT.COMMIT
  if p.kind = 0 && r.lead then k.trainLead else k

theorem Node.commitNow_eq : n.commitNow p r = (((((n.commitLoaded p).commitPlaced p r (p.kind = 2 && n.isLead && !r.lead)).commitCleared p).commitEntered
    p r).commitRebased p n.dir (!n.ina.everCommitted)).commitTold p r := rfl

theorem Node.commitLoaded_cycle (h : p.takes < 4294967296) : (n.commitLoaded p).cycle = p.takes := by
  unfold Node.commitLoaded Node.cycle
  rw [(PlaceKept.carryBar _ _).rd (by decide), (PlaceKept.loadSch _ _).rd (by decide), Node.rd_wr_same _ _ _ (by decide)]
  exact Nat.mod_eq_of_lt h

/-- A node in its place: cycle, directory, ID, generation, number and lead as a plan and its record have them. -/
structure Node.InPlace (p : CommitPlan) (r : DirRec) (m : Node) : Prop where
  cycle : m.cycle = p.takes
  dir : m.dir = p.dir
  compId : m.compId = p.newId
  gen : m.rd INA_GEN.VALUE = p.gen
  num : m.nodeNum = r.num
  lead : m.isLead = r.lead

variable {n p r}

theorem Node.InPlace.of_rd {m k : Node} (h : m.InPlace p r) (hd : k.dir = m.dir)
    (hrd : ∀ f ∈ [BAR_CYCLE.VALUE, INA_COMPID.VALUE, INA_GEN.VALUE, BAR_STATUS.NODE, INA_STATUS.LEAD], k.rd f = m.rd f) : k.InPlace p r :=
  ⟨(hrd _ (by simp)).trans h.cycle, hd.trans h.dir, (hrd _ (by simp)).trans h.compId, (hrd _ (by simp)).trans h.gen, (hrd _ (by simp)).trans h.num,
    (Node.on_congr (hrd _ (by simp))).trans h.lead⟩

theorem Node.rd_withBar (k : Node) (b : BarState) (f : Field) : ({ k with bar := b } : Node).rd f = k.rd f := rfl

theorem Node.rd_withTime (k : Node) (x : TimeState) (f : Field) : ({ k with time := x } : Node).rd f = k.rd f := rfl

theorem Node.rd_setReg_ne (k : Node) {a : Nat} {f : Field} (v : Word) (h : f.addr ≠ a) : (k.setReg a v).rd f = k.rd f :=
  Node.rd_of_reg (k.setReg_reg_ne _ _ _ h)

theorem Node.commitRegs_inPlace (hd : n.dir = p.dir) (hc : n.cycle = p.takes) (hid : p.newId < 4294967296) (hgen : p.gen < 65536)
    (hnum : r.num < 256) : (n.commitRegs p r).InPlace p r := by
  unfold Node.commitRegs Node.wr64 Node.wrB
  dsimp only
  constructor
  case dir => simpa only [Node.wr_dir, Node.setReg_dir] using hd
  case cycle =>
    rw [Node.cycle, Node.rd_withBar]
    simp (disch := decide) only [Node.rd_wr_ne, Node.rd_setReg_ne]
    exact hc
  case lead =>
    rw [Node.isLead, Node.on, Node.rd_withBar]
    simp (disch := decide) only [Node.rd_wr_ne, Node.rd_wr_same]
    cases r.lead <;> rfl
  case compId =>
    rw [Node.compId, Node.rd_withBar]
    simp (disch := decide) only [Node.rd_wr_ne, Node.rd_wr_same]
    exact Nat.mod_eq_of_lt hid
  case gen =>
    rw [Node.rd_withBar]
    simp (disch := decide) only [Node.rd_wr_ne, Node.rd_wr_same]
    exact Nat.mod_eq_of_lt hgen
  case num =>
    rw [Node.nodeNum, Node.rd_withBar]
    simp (disch := decide) only [Node.rd_wr_ne, Node.rd_wr_same]
    exact Nat.mod_eq_of_lt hnum

theorem Node.commitPlaced_inPlace (deputy : Bool) (hc : n.cycle = p.takes) (hid : p.newId < 4294967296) (hgen : p.gen < 65536) (hnum : r.num < 256) :
    (n.commitPlaced p r deputy).InPlace p r := by
  have hregs : (({ n with dir := p.dir } : Node).commitRegs p r).InPlace p r := Node.commitRegs_inPlace rfl hc hid hgen hnum
  refine hregs.of_rd ?_ fun f hf => ?_
  · unfold Node.commitPlaced
    dsimp only
    split
    · rw [Node.wrB_dir]
    · rw [Node.wr_dir, Node.wrB_dir]
  · have hdep : INA_STATUS.DEPUTY.apart f = true := by revert f; decide
    have hlead : GRD_STATUS.LEAD.apart f = true := by revert f; decide
    unfold Node.commitPlaced
    dsimp only
    split
    · exact Node.rd_wr_ne _ _ _ _ (by decide) hdep
    · rw [Node.rd_wr_ne _ _ _ _ (by decide) hlead]
      exact Node.rd_wr_ne _ _ _ _ (by decide) hdep

/-- What is forgotten leaves the place; no plan stands, and no inauguration runs. -/
theorem Node.commitCleared_inPlace (h : n.InPlace p r) : (n.commitCleared p).InPlace p r ∧ (n.commitCleared p).ina.plan = none
    ∧ (n.commitCleared p).on INA_STATUS.INAUG = false := by
  have hrc : ∀ m < 4, placeReg (BAR_RCPRES.BITS m).addr = false ∧ placeReg (BAR_RCABS.BITS m).addr = false := by decide
  have hroll : PlaceKept n (if p.kind = 1 then n else (upTo 4).foldl (fun (k : Node) m => (k.wr (BAR_RCPRES.BITS m) 0).wr (BAR_RCABS.BITS m) 0)
      { n with bar := { n.bar with rcMiss := [], hbActive := [] } }) := by
    refine .cond (.refl n) (List.foldlRecOn (motive := fun m : Node => PlaceKept n m) _ _ (.bar n _) fun m hm x hx => ?_)
    obtain ⟨hpres, habs⟩ := hrc x (List.mem_range.mp hx)
    exact (hm.trans (.wr _ _ _ hpres)).trans (.wr _ _ _ habs)
  refine ⟨h.of_rd hroll.dir fun f hf => ?_, rfl, ?_⟩
  · have hplace : placeReg f.addr = true ∧ INA_STATUS.INAUG.apart f = true := by revert f; decide
    exact (Node.rd_wr_ne _ _ _ _ (by decide) hplace.2).trans (hroll.rd hplace.1)
  · unfold Node.commitCleared Node.on
    rw [Node.rd_wr_same _ _ _ (by decide)]
    rfl

/-- The line settings of a record change LINE_CTRL, INA_STATUS.END and the outward side alone (R44). -/
theorem Node.modesFor_keeps (n : Node) (dir : List DirRec) (r : DirRec) : (n.modesFor dir r).dir = n.dir
    ∧ (n.modesFor dir r).ina.plan = n.ina.plan
    ∧ ∀ f : Field, lineCtrlReg f.addr = false → INA_STATUS.END.apart f = true → (n.modesFor dir r).rd f = n.rd f := by
  have hmode : ∀ (mode : LineMode) (v : Nat) (out : Option Nat),
      let k := ((n.bothLines mode).wr INA_STATUS.END v).updIna (fun i => { i with outward := out })
      k.dir = n.dir ∧ k.ina.plan = n.ina.plan ∧ ∀ f : Field, lineCtrlReg f.addr = false → INA_STATUS.END.apart f = true → k.rd f = n.rd f := by
    intro mode v out
    refine ⟨?_, congrArg (·.plan) (n.bothLines_ina mode), fun f hf hend => ?_⟩
    · rw [Node.updIna_dir, Node.wr_dir, (n.bothLines_setsOnly mode).node]
    · exact (Node.rd_wr_ne _ _ _ _ (by decide) hend).trans (n.bothLines_rd mode hf)
  unfold Node.modesFor
  dsimp only
  split
  · exact hmode _ _ _
  · split
    · exact hmode _ _ _
    · exact hmode _ _ _

theorem Node.commitEntered_inPlace (h : n.InPlace p r) (hplan : n.ina.plan = none) (hin : n.on INA_STATUS.INAUG = false) :
    (n.commitEntered p r).InPlace p r ∧ (n.commitEntered p r).ina.plan = none ∧ (n.commitEntered p r).on INA_STATUS.INAUG = false
      ∧ (n.commitEntered p r).inaState = if p.kind = 2 then 7 else 6 := by
  have hgo : ∀ (st v : Nat) (f : Field), INA_STATUS.STATE.apart f = true → INA_STATUS.MPHASE.apart f = true →
      ((n.inaGo st).wr INA_STATUS.MPHASE v).rd f = n.rd f := fun st v f hs hm =>
    (Node.rd_wr_ne _ _ _ _ (by decide) hm).trans (Node.rd_wr_ne _ _ _ _ (by decide) hs)
  have hst : ∀ (st v : Nat), ((n.inaGo st).wr INA_STATUS.MPHASE v).inaState = st % 16 := fun st v =>
    (Node.rd_wr_ne _ _ _ _ (by decide) (by decide)).trans (Node.rd_wr_same _ _ _ (by decide))
  have hplace : ∀ f ∈ [BAR_CYCLE.VALUE, INA_COMPID.VALUE, INA_GEN.VALUE, BAR_STATUS.NODE, INA_STATUS.LEAD],
      INA_STATUS.STATE.apart f = true ∧ INA_STATUS.MPHASE.apart f = true ∧ lineCtrlReg f.addr = false ∧ INA_STATUS.END.apart f = true := by decide
  unfold Node.commitEntered
  split
  · refine ⟨h.of_rd rfl fun f hf => ?_, hplan, ?_, hst 7 4⟩
    · obtain ⟨hs, hm, -, -⟩ := hplace f hf
      exact hgo _ _ f hs hm
    · rw [Node.on, hgo _ _ _ (by decide) (by decide)]
      exact hin
  · obtain ⟨hdir, hkeep, hrd⟩ := ((n.inaGo 6).wr INA_STATUS.MPHASE 0).modesFor_keeps p.dir r
    refine ⟨h.of_rd hdir fun f hf => ?_, hkeep.trans hplan, ?_, (hrd _ (by decide) (by decide)).trans (hst 6 0)⟩
    · obtain ⟨hs, hm, hl, he⟩ := hplace f hf
      exact (hrd f hl he).trans (hgo _ _ f hs hm)
    · rw [Node.on, hrd _ (by decide) (by decide), hgo _ _ _ (by decide) (by decide)]
      exact hin

theorem Node.commitRebased_placeKept (n : Node) (p : CommitPlan) (oldDir : List DirRec) (first : Bool) : PlaceKept n (n.commitRebased p oldDir first) := by
  unfold Node.commitRebased
  refine .trans ?_ (.cond (.count _ _ (by decide)) (.refl _))
  refine .trans ?_ (.count _ _ (by decide))
  exact ((((PlaceKept.foldl PlaceKept.dropReport _ n).trans (.remapPeers _)).trans (.sigRebase _ _ _)).trans (.audCommit _)).trans (.declarePubs _)

theorem Node.commitTold_placeKept (n : Node) (p : CommitPlan) (r : DirRec) : PlaceKept n (n.commitTold p r) :=
  .trans (.raise n _ (by decide)) (.cond (.trainLead _) (.refl _))

theorem Node.trainLead_commit (n : Node) : n.trainLead.rd INA_EVT.COMMIT = n.rd INA_EVT.COMMIT := by
  unfold Node.trainLead Node.setTrLock Node.wrB
  dsimp only
  split
  · simp (disch := decide) only [Node.rd_wr_ne, Node.rd_withTime]
  · simp (disch := decide) only [Node.rd_raise, Node.rd_wr_ne, Node.rd_withTime]

theorem Node.commitTold_on (n : Node) (p : CommitPlan) (r : DirRec) : (n.commitTold p r).on INA_EVT.COMMIT = true := by
  have hev : (n.raise INA_EVT.COMMIT).on INA_EVT.COMMIT = true := n.on_raise_same _ (by decide) rfl (by decide)
  unfold Node.commitTold
  dsimp only
  split
  · rw [Node.on_congr (Node.trainLead_commit _), hev]
  · exact hev

theorem PlaceKept.inPlace {m : Node} (h : PlaceKept n m) (hn : n.InPlace p r) : m.InPlace p r :=
  hn.of_rd h.dir fun f hf => h.rd (by revert f; decide)

/-- The commit of a plan at M (R171). -/
theorem Node.commitNow_effect (hid : p.newId < 4294967296) (ht : p.takes < 4294967296) (hgen : p.gen < 65536) (hnum : r.num < 256) :
    (n.commitNow p r).InPlace p r ∧ (n.commitNow p r).inaState = (if p.kind = 2 then 7 else 6) ∧ (n.commitNow p r).ina.plan = none
      ∧ (n.commitNow p r).on INA_STATUS.INAUG = false ∧ (n.commitNow p r).on INA_EVT.COMMIT = true := by
  obtain ⟨hclear, hplan, hin⟩ := Node.commitCleared_inPlace (Node.commitPlaced_inPlace (p.kind = 2 && n.isLead && !r.lead)
    (n.commitLoaded_cycle p ht) hid hgen hnum)
  obtain ⟨henter, hplan, hin, hst⟩ := Node.commitEntered_inPlace hclear hplan hin
  have hrest := (Node.commitRebased_placeKept (((n.commitLoaded p).commitPlaced p r (p.kind = 2 && n.isLead && !r.lead)).commitCleared p |>.commitEntered p r)
    p n.dir (!n.ina.everCommitted)).trans (Node.commitTold_placeKept _ p r)
  rw [n.commitNow_eq]
  refine ⟨hrest.inPlace henter, (hrest.rd (by decide)).trans hst, ?_, ?_, Node.commitTold_on _ p r⟩
  · rw [hrest.ina]
    exact hplan
  · exact (Node.on_congr (hrest.rd (by decide))).trans hin

end

end Sys2Proof.Machine
end

section
/-! PROOFS. The commands of a running composition and its commits (04_inauguration.md R168 to R171, R175, R183, R184, R188, R191, R194). -/

namespace Sys2Proof.Machine

/-! ### Commands of the beacon (R168 to R171, R183, R184, R188) -/

section
variable {n : Node} {args : List Byte} {p : CommitPlan}

/-- The plan that a COMMIT announces. -/
def announcedPlan (a : List Byte) : CommitPlan :=
  ⟨le a 0 4, le a 0 4, le a 4 4, 0, le a 8 2, le a 10 1, le a 11 1, le a 12 1, 0, false, false, [], [], []⟩

theorem Node.tryPrepare_unkeyed (hp : n.ina.plan = some p) (hk : p.keyed = false) : n.tryPrepare = n := by
  unfold Node.tryPrepare
  rw [hp]
  exact if_pos (by simp [hk])

theorem Node.tryPrepare_unsummed (hs : n.ina.dirSum = none) : n.tryPrepare = n := by
  unfold Node.tryPrepare
  rw [hs]
  split
  · rfl
  · exact ite_self _

theorem Node.commitCmd_member (hl : n.isLead = false) (hk : le args 10 1 ≠ 2) :
    n.commitCmd args = n.inaugBegin.updIna (fun i => { i with plan := some (announcedPlan args) }) := by
  unfold Node.commitCmd
  dsimp only
  rw [if_neg (by simp [hl]), if_neg (by simp [hk])]
  exact Node.tryPrepare_unkeyed rfl rfl

theorem Node.commitKeyCmd_taken (hp : n.ina.plan = some p) (hk : p.keyed = false) (hs : n.ina.dirSum = none) :
    n.commitKeyCmd args = { n with ina := { n.ina with plan := some { p with nonce := le args 0 8, takes := le args 8 4, keyed := true } } } := by
  unfold Node.commitKeyCmd
  rw [hp]
  dsimp only
  rw [if_neg (by simp [hk])]
  exact Node.tryPrepare_unsummed hs

theorem Node.commitKeyCmd_unplanned (hp : n.ina.plan = none) : n.commitKeyCmd args = n := by
  unfold Node.commitKeyCmd
  rw [hp]

theorem Node.commitDue_unplanned (hp : n.ina.plan = none) : n.commitDue = n := by
  unfold Node.commitDue
  rw [hp]

theorem Node.commitDue_commits {r : DirRec} (hp : n.ina.plan = some p) (hready : p.ready = true) (hm : n.cycle = p.m)
    (hr : p.dir.find? (fun x => x.uid = n.uid && !x.reserved) = some r) : n.commitDue = n.commitNow p r := by
  unfold Node.commitDue
  rw [hp]
  dsimp only
  rw [if_neg (by simp [hready, hm]), hr]

theorem Node.stretchCmd_refused (h : le args 4 4 < 125000 ∨ 375000 < le args 4 4) : n.stretchCmd args = n := if_pos (by simpa using h)

theorem Node.stretchCmd_taken (hlo : 125000 ≤ le args 4 4) (hhi : le args 4 4 ≤ 375000) : (n.stretchCmd args).regs = n.regs
    ∧ (n.stretchCmd args).ina.merge.map (fun g => (g.stretchCycle, g.stretchLen)) = some (le args 0 4, le args 4 4) := by
  unfold Node.stretchCmd
  rw [if_neg (by simp [hlo, hhi])]
  dsimp only [Node.updIna]
  cases n.grd.stage <;> exact ⟨rfl, rfl⟩

theorem Node.coldCmd_effect : (n.coldCmd args).ina.coldAt = some (le args 0 4) ∧ (n.coldCmd args).on INA_EVT.TRIG = true := by
  refine ⟨?_, Node.inaTrigger_on _⟩
  rw [Node.coldCmd, (Node.inaTrigger_commands _).ina]
  rfl

theorem Node.enterListen_coldAt : n.enterListen.ina.coldAt = n.ina.coldAt := by
  have h : (n.walkReset.inaugBegin.bothLines .listening).ina.coldAt = n.ina.coldAt := by
    rw [Node.bothLines_ina, (Node.inaugBegin_commands _).ina]
    rfl
  exact h

theorem Node.coldNow_due {c : Nat} (h : n.ina.coldAt = some c) (hc : c ≤ n.cycle) :
    n.coldNow = (n.updIna (fun i => { i with coldAt := none })).enterListen := by
  unfold Node.coldNow
  rw [h]
  exact if_pos hc

theorem Node.coldNow_early {c : Nat} (h : n.ina.coldAt = some c) (hc : n.cycle < c) : n.coldNow = n := by
  unfold Node.coldNow
  rw [h]
  exact if_neg (Nat.not_le.mpr hc)

/-! ### The lead's commands (R188, R191, R194) -/

theorem Node.coldSend_lead (hl : n.isLead = true) (hc : n.committed = true) :
    n.coldSend = (n.leadCmd ([0x14] ++ leBytes 4 (n.cycle + 16))).coldCmd (leBytes 4 (n.cycle + 16)) := if_pos (by simp [hl, hc])

theorem Node.coldSend_member (hl : n.isLead = false) : n.coldSend = n := if_neg (by simp [hl])

theorem le_leBytes_four (c : Nat) : le (leBytes 4 c) 0 4 = c % 4294967296 := by
  have h := le_append_leBytes (pre := []) rfl 4 c []
  rwa [List.append_nil] at h

/-- The command that carries COLD for a cycle. -/
def coldSent (n : Node) (c : Nat) : LeadCmd := ⟨([0x14] ++ leBytes 4 c ++ List.replicate 14 0).take 14, 0, n.cycle, none⟩

theorem coldSent_mem (n : Node) (c : Nat) : coldSent n c ∈ (n.leadCmd ([0x14] ++ leBytes 4 c)).bar.cmds :=
  List.mem_append_right _ (List.mem_singleton_self _)

theorem coldSent_code (n : Node) (c : Nat) : le (coldSent n c).bytes 0 1 = 0x14 := le_one_first _ _

theorem coldSent_cycle (n : Node) (c : Nat) : le (coldSent n c).bytes 1 4 = c % 4294967296 := by
  have hsplit : (coldSent n c).bytes = [0x14] ++ (leBytes 4 c ++ List.replicate 9 0) := rfl
  rw [hsplit]
  exact le_append_leBytes (pre := [0x14]) rfl 4 c _

theorem Node.coldSend_effect (hl : n.isLead = true) (hc : n.committed = true) : n.coldSend.ina.coldAt = some ((n.cycle + 16) % 4294967296)
    ∧ ∃ k, k ∈ n.coldSend.bar.cmds ∧ le k.bytes 0 1 = 0x14 ∧ le k.bytes 1 4 = (n.cycle + 16) % 4294967296 := by
  rw [Node.coldSend_lead hl hc]
  constructor
  · rw [Node.coldCmd_effect.1, le_leBytes_four]
  · have hkept := Node.inaTrigger_commands ((n.leadCmd ([0x14] ++ leBytes 4 (n.cycle + 16))).updIna (fun i => { i with
      coldAt := some (le (leBytes 4 (n.cycle + 16)) 0 4) }))
    exact ⟨coldSent n (n.cycle + 16), hkept.cmds.mem (coldSent_mem n _), coldSent_code n _, coldSent_cycle n _⟩

theorem Node.renumber_idle (hl : n.isLead = false) : n.renumber = n := if_pos (by simp [hl])

theorem Node.newCompId_snd : n.newCompId.2 = { n with freeCtr := n.freeCtr + 1 } := rfl

theorem Node.entropy64_snd : n.entropy64.2 = { n with freeCtr := n.freeCtr + 2 } := rfl

theorem Node.renumber_lead (hl : n.isLead = true) (hc : n.committed = true) (hp : n.ina.plan = none) : ∃ k id nonce,
    n.renumber = ({ n with freeCtr := k } : Node).leadCommit 3 (n.cycle + 24) (n.cycle + 24) id nonce
      ((n.rd INA_GEN.VALUE + 1) % 65536) n.renumbered n.renumbered := by
  refine ⟨n.freeCtr + 3, n.newCompId.1, n.newCompId.2.entropy64.1, ?_⟩
  unfold Node.renumber
  rw [if_neg (by simp [hl, hc, hp])]
  dsimp only
  rw [Node.entropy64_snd, Node.newCompId_snd]
  rfl

/-- The lead of a part announces the renumbered directory (R191); the draws of an ID and a nonce change nothing else. -/
theorem Node.renumber_announces (hl : n.isLead = true) (hc : n.committed = true) (hp : n.ina.plan = none)
    (hfit : anyConflict (n.schFor 3 n.renumbered).1 = false) : n.Announces 3 n.renumbered n.renumber := by
  obtain ⟨k, id, nonce, heq⟩ := Node.renumber_lead hl hc hp
  rw [heq]
  exact Node.leadCommit_announces (n := { n with freeCtr := k }) hfit

/-! ### Admission and renewal (R175) -/

/-- An accepted contention frame: counted, and its answer among the lead's commands. -/
def Node.contAccepted (n : Node) (f : ContRx) : Node := (n.count BAR_CNT_CONTOK.VALUE).answerCont 0 (le f.bytes 14 4) (contUid f.bytes)

theorem Node.contAccepted_reg (f : ContRx) {a : Nat} (ha : a ≠ 0x4001809C) : (n.contAccepted f).reg a = n.reg a := n.wr_reg_ne _ _ a ha

theorem Node.contAccepted_schFor (f : ContRx) (kind : Nat) (dir : List DirRec) : (n.contAccepted f).schFor kind dir = n.schFor kind dir := by
  have hbank : (n.contAccepted f).rd PEX_STATUS.BANK = n.rd PEX_STATUS.BANK := Node.rd_of_reg (Node.contAccepted_reg f (by decide))
  have hword : ∀ i k, (n.contAccepted f).reg (0x4001C000 + 16 * i + 4 * k) = n.reg (0x4001C000 + 16 * i + 4 * k) := fun i k =>
    Node.contAccepted_reg f (by omega)
  have hsch : ∀ i, (n.contAccepted f).sch i = n.sch i := fun i => by simp only [Node.sch, hword]
  have hmem : (n.contAccepted f).mem = n.mem := rfl
  have hdir : (n.contAccepted f).dir = n.dir := rfl
  exact Node.schFor_congr hmem hdir hbank hsch kind dir

/-- Accepted with a changed directory: an admission commit announced, and the frame counted. -/
theorem Node.contAccepted_admission (f : ContRx) (dir : List DirRec) (hfit : anyConflict (n.schFor 1 (markEnds dir)).1 = false) :
    n.Announces 1 (markEnds dir) ((n.contAccepted f).admission dir) ∧ Counted BAR_CNT_CONTOK.VALUE n ((n.contAccepted f).admission dir) := by
  have hrd : ∀ g : Field, BAR_CNT_CONTOK.VALUE.apart g = true → (n.contAccepted f).rd g = n.rd g := fun g hg => n.rd_count_ne _ g (by decide) hg
  have hsch := Node.contAccepted_schFor (n := n) f 1 (markEnds dir)
  have hcycle : (n.contAccepted f).cycle = n.cycle := hrd _ (by decide)
  have hgen : (n.contAccepted f).rd INA_GEN.VALUE = n.rd INA_GEN.VALUE := hrd _ (by decide)
  constructor
  · have h := Node.leadCommit_announces (n := n.contAccepted f) (newId := (n.contAccepted f).compId) (nonce := (n.contAccepted f).nonce)
      (recs := (markEnds dir).filter (fun r => !n.dir.contains r)) (by rwa [hsch])
    unfold Node.Announces at h
    rw [hsch, hcycle, hgen] at h
    unfold Node.Announces Node.admission
    dsimp only
    rw [hcycle, hgen]
    exact h
  · exact (Node.leadCommit_rd (by decide) (by decide) (by decide) (by decide) (by decide)).trans (n.count_counted _ (by decide))

theorem Node.leadTakes_open {f : ContRx} {kind : Nat} (hl : n.isLead = true) (hc : n.committed = true) (hp : n.ina.plan = none)
    (ho : n.opens kind = true) (act : Node → Node) : n.leadTakes f kind act = act n := by
  unfold Node.leadTakes
  rw [if_neg (by simp [hl, hc]), if_neg (by simp [ho, hp])]

/-- A record renewed by the node's JOIN (R166, R175). -/
def DirRec.joined (x : DirRec) (f : ContRx) (lead : Bool) : DirRec :=
  { x with
    reserved := false, sideB := bit (le f.bytes 30 1) 2, role := bits (le f.bytes 30 1) 0 2
    delay := if lead then 0 else delayOf f.comb, prio := contPrio f.bytes, cls := le f.bytes 31 2 }

/-- A node whose record the directory holds is admitted with it, renewed by its JOIN. -/
theorem admitTo_known {dir : List DirRec} {r q : DirRec} {partner car : Nat} (h : dir.find? (fun x => x.uid = r.uid) = some q) :
    admitTo dir r partner car = some (dir.map (fun x => if x.uid = r.uid then
      { x with reserved := false, sideB := r.sideB, role := r.role, delay := if q.lead then 0 else r.delay, prio := r.prio, cls := r.cls } else x)) := by
  unfold admitTo
  rw [h]

theorem Node.joinRx_known {f : ContRx} {r : DirRec} (hl : n.isLead = true) (hc : n.committed = true) (hp : n.ina.plan = none)
    (ho : n.opens 0 = true) (hr : n.dir.find? (fun x => x.uid = contUid f.bytes) = some r) :
    n.joinRx f = (({ n with freeCtr := n.freeCtr + 1 } : Node).contAccepted f).admission
      (n.dir.map (fun x => if x.uid = contUid f.bytes then x.joined f r.lead else x)) := by
  unfold Node.joinRx
  rw [Node.leadTakes_open hl hc hp ho]
  dsimp only [Node.freeUpTo, Node.freeWord]
  rw [admitTo_known hr]
  rfl

theorem Node.helloRx_known {f : ContRx} (hl : n.isLead = true) (hc : n.committed = true) (hp : n.ina.plan = none)
    (ho : n.opens 3 = true) (hr : n.dir.any (fun x => x.uid = contUid f.bytes) = true) :
    n.helloRx f = (n.contAccepted f).admission
      (n.dir.map (fun x => if x.uid = contUid f.bytes then { x with prio := contPrio f.bytes, reserved := false } else x)) := by
  unfold Node.helloRx
  rw [Node.leadTakes_open hl hc hp ho]
  exact if_pos hr

end

/-! ### The commands -/

section
variable {s : State} (hr : s.node.running = true)
include hr

theorem commit_plans {args : List Byte} (hl : s.node.isLead = false) (hk : le args 10 1 ≠ 2) : Does (.commit args) s (fun m =>
    m.on INA_STATUS.INAUG = true ∧ ∃ q, m.ina.plan = some q ∧ q.m = le args 0 4 ∧ q.newId = le args 4 4 ∧ q.gen = le args 8 2
      ∧ q.kind = le args 10 1 ∧ q.total = le args 11 1 ∧ q.cars = le args 12 1 ∧ q.keyed = false ∧ q.ready = false) := by
  refine does_onNode (f := (·.commitCmd args)) hr rfl ?_
  rw [Node.commitCmd_member hl hk]
  exact ⟨s.node.inaugBegin_on, _, rfl, rfl, rfl, rfl, rfl, rfl, rfl, rfl, rfl⟩

theorem coldEffective_listens {c : Nat} (h : s.node.ina.coldAt = some c) (hc : c ≤ s.node.cycle) : Does .coldEffective s (fun m =>
    m.inaState = 1 ∧ m.ina.coldAt = none ∧ m.on INA_STATUS.INAUG = true) := by
  obtain ⟨hst, hin, -⟩ := (s.node.updIna (fun i => { i with coldAt := none })).enterListen_rd
  refine does_onNode (f := (·.coldNow)) hr rfl ?_
  rw [Node.coldNow_due h hc]
  exact ⟨hst, Node.enterListen_coldAt, hin⟩

theorem helloSend_asks (hs : s.node.inaState = 6) (hm : 16 ≤ s.node.ina.genMisRun)
    (hk : s.node.bar.contenders.any (fun k => k.type = 0x63) = false) : Does .helloSend s (fun m => m.regs = s.node.regs
      ∧ m.bar.contenders = s.node.bar.contenders ++ [⟨0x63, leBytes 2 (s.node.rd INA_GEN.VALUE), 0, none, 0, 0, 0⟩]) := by
  refine does_onNode (f := fun n => if n.inaState = 6 && 16 ≤ n.ina.genMisRun then n.askContention 0x63 (leBytes 2 (n.rd INA_GEN.VALUE)) else n) hr rfl ?_
  rw [if_pos (by simp [hs, hm]), Node.askContention, if_neg (by simp [hk])]
  exact ⟨rfl, rfl⟩

theorem inaugurationCommit_commits {p : CommitPlan} {r : DirRec} (hp : s.node.ina.plan = some p) (hready : p.ready = true) (hm : s.node.cycle = p.m)
    (hfind : p.dir.find? (fun x => x.uid = s.node.uid && !x.reserved) = some r) (hid : p.newId < 4294967296) (ht : p.takes < 4294967296)
    (hgen : p.gen < 65536) (hnum : r.num < 256) : Does .inaugurationCommit s (fun m =>
      m.inaState = (if p.kind = 2 then 7 else 6) ∧ m.cycle = p.takes ∧ m.compId = p.newId ∧ m.rd INA_GEN.VALUE = p.gen ∧ m.nodeNum = r.num
      ∧ m.dir = p.dir ∧ m.isLead = r.lead ∧ m.ina.plan = none ∧ m.on INA_STATUS.INAUG = false ∧ m.on INA_EVT.COMMIT = true) := by
  obtain ⟨hplace, hst, hplan, hin, hev⟩ := Node.commitNow_effect (n := s.node) hid ht hgen hnum
  refine does_onNode (f := (·.commitDue)) hr rfl ?_
  rw [Node.commitDue_commits hp hready hm hfind]
  exact ⟨hst, hplace.cycle, hplace.compId, hplace.gen, hplace.num, hplace.dir, hplace.lead, hplan, hin, hev⟩

end

/-- Settles O37: one lemma for each clause. -/
theorem commits : Obligations.Commits := by
  unfold Obligations.Commits
  intro s by_ args f p r c hr n i uid lead Announced fits joined renewed
  refine ⟨commit_plans hr, fun hp hk hs => ?_, fun hp => ⟨?_, ?_⟩, fun hlo hhi => ?_, fun h => ?_, ?_, ?_, coldEffective_listens hr, fun h hc => ?_,
    fun ⟨hl, hc, hp⟩ => ?_, fun hl => ⟨?_, ?_⟩, fun ⟨hl, hc, hp⟩ hfit => ⟨?_, fun ht => ?_⟩, fun ht => ?_, fun hg ⟨hl, hc, hp⟩ ho hfind hfit => ?_,
    fun hg ⟨hl, hc, hp⟩ ho hfind hfit => ?_, helloSend_asks hr, inaugurationCommit_commits hr⟩
  · exact answers_onNode (f := (·.commitKeyCmd args)) hr rfl (Node.commitKeyCmd_taken hp hk hs)
  · exact answers_same (f := (·.commitKeyCmd args)) hr rfl (Node.commitKeyCmd_unplanned hp)
  · exact answers_same (f := (·.commitDue)) hr rfl (Node.commitDue_unplanned hp)
  · exact does_onNode (f := (·.stretchCmd args)) hr rfl (Node.stretchCmd_taken hlo hhi)
  · exact answers_same (f := (·.stretchCmd args)) hr rfl (Node.stretchCmd_refused h)
  · exact does_onNode (f := (·.relayCmd args)) hr rfl ⟨rfl, rfl⟩
  · exact does_onNode (f := (·.coldCmd args)) hr rfl Node.coldCmd_effect
  · exact answers_same (f := (·.coldNow)) hr rfl (Node.coldNow_early h hc)
  · exact does_onNode (f := (·.coldSend)) hr rfl (Node.coldSend_effect hl hc)
  · exact answers_same (f := (·.coldSend)) hr rfl (Node.coldSend_member hl)
  · exact answers_same (f := (·.renumber)) hr rfl (Node.renumber_idle hl)
  · exact does_onNode (f := (·.renumber)) hr rfl (Node.renumber_announces hl hc hp hfit)
  · refine does_onNode (f := fun n => if n.ina.splitTrig then n.renumber else n) hr rfl ?_
    rw [if_pos ht]
    exact Node.renumber_announces hl hc hp hfit
  · exact answers_same (f := fun n => if n.ina.splitTrig then n.renumber else n) hr rfl (if_neg (Bool.eq_false_iff.mp ht))
  · refine does_onCont hr (act := (·.joinRx f)) rfl hg ?_
    rw [Node.joinRx_known hl hc hp ho hfind]
    exact Node.contAccepted_admission (n := { n with freeCtr := n.freeCtr + 1 }) f _ hfit
  · refine does_onCont hr (act := (·.helloRx f)) rfl hg ?_
    rw [Node.helloRx_known hl hc hp ho hfind]
    exact Node.contAccepted_admission f _ hfit

end Sys2Proof.Machine
end

section
/-! PROOFS. Coupling at the junction nodes: closure and end of a merge, junction frames in S45 to S47, the other part's JBEACON
(04_inauguration.md R150, R164, R177 to R180, R184, R194). -/

namespace Sys2Proof.Machine

/-! ### Closure and the end of a merge (R184) -/

section
variable {n : Node} {g : MergeRun}

theorem Node.closure_idle (h : n.ina.merge = none) (l : Nat) : n.closure l = n := by
  unfold Node.closure
  rw [h]

/-- Is the node one of the two junction nodes of a merge? -/
def Node.atJunction (n : Node) (g : MergeRun) : Bool := n.nodeNum ≠ 0 && (n.nodeNum = g.juncNode1 || n.nodeNum = g.juncNode2)

theorem Node.closure_first (hm : n.ina.merge = some g) (hph : n.rd INA_STATUS.MPHASE = 4) (ha : g.closedA = false) (hz : g.zA ≤ n.cycle) :
    n.closure 0 = ((if n.atJunction g then n.lineMode 0 .middle else n).updIna (fun i => { i with merge := some { g with closedA := true } })).wr
      INA_STATUS.MPHASE 5 := by
  unfold Node.closure
  rw [hm]
  dsimp only
  rw [if_neg (by simp [hph, ha, hz])]
  simp only [zero_ne_one, decide_false, Bool.and_false, Bool.false_eq_true, if_false, if_true]
  rfl

theorem Node.lineMode_middle_closes : (n.lineMode 0 .middle).on (LINE_CTRL.RELAY_OPEN 0) = false := by
  have h : (n.lineMode 0 .middle).rd (LINE_CTRL.RELAY_OPEN 0) = 0 := by
    unfold Node.lineMode Node.setAtt Node.wrB
    dsimp only
    simp (disch := decide) only [Node.rd_wr_ne, Node.rd_wr_same]
    rfl
  rw [Node.on, h]
  rfl

theorem Node.closure_first_effect (hm : n.ina.merge = some g) (hph : n.rd INA_STATUS.MPHASE = 4) (ha : g.closedA = false) (hz : g.zA ≤ n.cycle) :
    (n.closure 0).ina.merge = some { g with closedA := true } ∧ (n.closure 0).rd INA_STATUS.MPHASE = 5
    ∧ (n.nodeNum ≠ 0 → n.nodeNum = g.juncNode1 ∨ n.nodeNum = g.juncNode2 → (n.closure 0).on (LINE_CTRL.RELAY_OPEN 0) = false) := by
  rw [Node.closure_first hm hph ha hz]
  refine ⟨rfl, Node.rd_wr_same _ _ _ (by decide), fun h0 hj => ?_⟩
  have hat : n.atJunction g = true := by simp [Node.atJunction, h0, hj]
  rw [if_pos hat, Node.on_congr (Node.rd_wr_ne _ _ _ _ (by decide) (by decide)), Node.updIna_on]
  exact Node.lineMode_middle_closes

/-- A node that gives up its part as deputy. -/
def Node.deputyEnds (n : Node) : Node := if n.on INA_STATUS.DEPUTY then (n.wr INA_STATUS.DEPUTY 0).wr GRD_STATUS.LEAD 0 else n

theorem Node.deputyEnds_rd {f : Field} (h1 : INA_STATUS.DEPUTY.apart f = true) (h2 : GRD_STATUS.LEAD.apart f = true) :
    n.deputyEnds.rd f = n.rd f := by
  unfold Node.deputyEnds
  split
  · rw [Node.rd_wr_ne _ _ _ _ (by decide) h2, Node.rd_wr_ne _ _ _ _ (by decide) h1]
  · rfl

theorem Node.deputyEnds_off : n.deputyEnds.on INA_STATUS.DEPUTY = false := by
  unfold Node.deputyEnds
  split
  · rw [Node.on_congr (Node.rd_wr_ne _ _ _ _ (by decide) (by decide)), Node.on, Node.rd_wr_same _ _ _ (by decide)]
    rfl
  · next h => exact Bool.eq_false_iff.mpr h

/-- A node that goes back to RUN from MERGING. -/
def Node.backToRun (n : Node) : Node := if n.inaState = 7 then n.inaGo 6 else n

theorem Node.backToRun_state : n.backToRun.inaState = if n.inaState = 7 then 6 else n.inaState := by
  unfold Node.backToRun
  split
  · exact Node.rd_wr_same _ _ _ (by decide)
  · rfl

theorem Node.backToRun_rd {f : Field} (h : INA_STATUS.STATE.apart f = true) : n.backToRun.rd f = n.rd f := by
  unfold Node.backToRun
  split
  · exact Node.rd_wr_ne _ _ _ _ (by decide) h
  · rfl

theorem Node.backToRun_ina : n.backToRun.ina = n.ina := by
  unfold Node.backToRun
  split <;> rfl

/-- What the end of a merge clears, before the node goes back to RUN. -/
def Node.mergeCleared (n : Node) : Node :=
  (((n.deputyEnds.updIna (fun i => { i with merge := none, junction := none, outFrames := [], juncFrame := [] })).wr INA_STATUS.MPHASE 6).count
    INA_CNT_MERGES.VALUE).raise INA_EVT.MERGED

theorem Node.mergeDone_eq : n.mergeDone = n.mergeCleared.backToRun := rfl

theorem Node.mergeCleared_rd {f : Field} (hrec : recReg f.addr = false) (h1 : INA_STATUS.DEPUTY.apart f = true) (h2 : GRD_STATUS.LEAD.apart f = true)
    (h3 : INA_STATUS.MPHASE.apart f = true) (h4 : INA_CNT_MERGES.VALUE.apart f = true) (h5 : INA_EVT.MERGED.apart f = true) :
    n.mergeCleared.rd f = n.rd f := by
  rw [Node.mergeCleared, Node.rd_raise _ _ _ (by decide) hrec h5, Node.rd_count_ne _ _ _ (by decide) h4, Node.rd_wr_ne _ _ _ _ (by decide) h3,
    Node.updIna_rd, Node.deputyEnds_rd h1 h2]

theorem Node.mergeDone_effect : n.mergeDone.ina.merge = none ∧ n.mergeDone.ina.junction = none ∧ n.mergeDone.rd INA_STATUS.MPHASE = 6
    ∧ Counted INA_CNT_MERGES.VALUE n n.mergeDone ∧ n.mergeDone.on INA_EVT.MERGED = true
    ∧ n.mergeDone.inaState = (if n.inaState = 7 then 6 else n.inaState) ∧ n.mergeDone.on INA_STATUS.DEPUTY = false := by
  rw [Node.mergeDone_eq]
  have hstate : n.mergeCleared.inaState = n.inaState := Node.mergeCleared_rd (by decide) (by decide) (by decide) (by decide) (by decide) (by decide)
  have hina : n.mergeCleared.ina = { n.deputyEnds.ina with merge := none, junction := none, outFrames := [], juncFrame := [] } := Node.raise_ina _ _
  refine ⟨by rw [Node.backToRun_ina, hina], by rw [Node.backToRun_ina, hina], ?_, ?_, ?_, by rw [Node.backToRun_state, hstate], ?_⟩
  · rw [Node.backToRun_rd (by decide), Node.mergeCleared, Node.rd_raise _ _ _ (by decide) (by decide) (by decide),
      Node.rd_count_ne _ _ _ (by decide) (by decide), Node.rd_wr_same _ _ _ (by decide)]
    rfl
  · rw [Counted, Node.backToRun_rd (by decide), Node.mergeCleared, Node.rd_raise _ _ _ (by decide) (by decide) (by decide),
      Node.rd_count_same _ _ (by decide), Node.rd_wr_ne _ _ _ _ (by decide) (by decide), Node.updIna_rd, Node.deputyEnds_rd (by decide) (by decide)]
  · rw [Node.on_congr (Node.backToRun_rd (by decide)), Node.mergeCleared, Node.on_raise_same _ _ (by decide) rfl (by decide)]
  · rw [Node.on_congr (Node.backToRun_rd (by decide)), Node.mergeCleared, Node.on_raise_ne _ _ _ (by decide) (by decide) (by decide),
      Node.on_congr (Node.rd_count_ne _ _ _ (by decide) (by decide)), Node.on_congr (Node.rd_wr_ne _ _ _ _ (by decide) (by decide)), Node.updIna_on,
      Node.deputyEnds_off]

/-- A node whose relays of line B close at the junction. -/
def Node.closesB (n : Node) (g : MergeRun) : Node :=
  if n.atJunction g then ((n.lineMode 1 .middle).wr INA_STATUS.END 0).updIna (fun i => { i with outward := none }) else n

theorem Node.closesB_rd {f : Field} (h : lineCtrlReg f.addr = false) (hend : INA_STATUS.END.apart f = true) : (n.closesB g).rd f = n.rd f := by
  unfold Node.closesB
  split
  · rw [Node.updIna_rd, Node.rd_wr_ne _ _ _ _ (by decide) hend, (n.lineMode_setsOnly (by decide) _).rd h]
  · rfl

theorem Node.closure_second (hm : n.ina.merge = some g) (hph : n.rd INA_STATUS.MPHASE = 5) (ha : g.closedA = true) (hb : g.closedB = false)
    (hz : g.zB ≤ n.cycle) : n.closure 1 = (n.closesB g).mergeDone := by
  unfold Node.closure Node.closesB
  rw [hm]
  dsimp only
  rw [if_neg (by simp [hph, ha, hb, hz])]
  unfold Node.atJunction
  split <;> simp_all

theorem Node.closure_second_effect (hm : n.ina.merge = some g) (hph : n.rd INA_STATUS.MPHASE = 5) (ha : g.closedA = true) (hb : g.closedB = false)
    (hz : g.zB ≤ n.cycle) : (n.closure 1).ina.merge = none ∧ (n.closure 1).ina.junction = none ∧ (n.closure 1).rd INA_STATUS.MPHASE = 6
    ∧ Counted INA_CNT_MERGES.VALUE n (n.closure 1) ∧ (n.closure 1).on INA_EVT.MERGED = true
    ∧ (n.closure 1).inaState = (if n.inaState = 7 then 6 else n.inaState) ∧ (n.closure 1).on INA_STATUS.DEPUTY = false := by
  rw [Node.closure_second hm hph ha hb hz]
  have hstate : (n.closesB g).inaState = n.inaState := Node.closesB_rd (by decide) (by decide)
  have hcount : (n.closesB g).rd INA_CNT_MERGES.VALUE = n.rd INA_CNT_MERGES.VALUE := Node.closesB_rd (by decide) (by decide)
  have h := (n.closesB g).mergeDone_effect
  rwa [Counted, hcount, hstate] at h

/-! ### Refusal and abandonment (R150, R179) -/

/-- What a refusal writes, before the node goes back to RUN. -/
def Node.refusalNoted (n : Node) (result : Nat) : Node :=
  ((((n.wr INA_STATUS.REFUSE result).count INA_CNT_MERGEREF.VALUE).raise INA_EVT.MERGEREF).updIna (fun i => { i with
    merge := none, outFrames := i.outFrames.filter (fun x => x.1 = 0x6D), junction := i.junction.map (fun j => { j with records := [] }) })).wr
    INA_STATUS.MPHASE 0

theorem Node.mergeRefuse_eq (v : Nat) : n.mergeRefuse v = (n.refusalNoted v).backToRun := rfl

/-- A merge is refused at a node for a reason: reported, counted, over. -/
def Refused (n : Node) (v : Nat) (m : Node) : Prop :=
  m.rd INA_STATUS.REFUSE = v ∧ m.on INA_EVT.MERGEREF = true ∧ Counted INA_CNT_MERGEREF.VALUE n m ∧ m.ina.merge = none ∧ m.rd INA_STATUS.MPHASE = 0

theorem Node.mergeRefuse_refused {v : Nat} (hv : v < 8) : Refused n v (n.mergeRefuse v) := by
  rw [Node.mergeRefuse_eq]
  unfold Refused Counted
  rw [Node.backToRun_rd (by decide), Node.backToRun_rd (by decide), Node.backToRun_rd (by decide), Node.on_congr (Node.backToRun_rd (by decide)),
    Node.backToRun_ina]
  unfold Node.refusalNoted
  refine ⟨?_, ?_, ?_, rfl, Node.rd_wr_same _ _ _ (by decide)⟩
  · rw [Node.rd_wr_ne _ _ _ _ (by decide) (by decide), Node.updIna_rd, Node.rd_raise _ _ _ (by decide) (by decide) (by decide),
      Node.rd_count_ne _ _ _ (by decide) (by decide), Node.rd_wr_same _ _ _ (by decide)]
    exact Nat.mod_eq_of_lt hv
  · rw [Node.on_congr (Node.rd_wr_ne _ _ _ _ (by decide) (by decide)), Node.updIna_on, Node.on_raise_same _ _ (by decide) rfl (by decide)]
  · rw [Node.rd_wr_ne _ _ _ _ (by decide) (by decide), Node.updIna_rd, Node.rd_raise _ _ _ (by decide) (by decide) (by decide),
      Node.rd_count_same _ _ (by decide), Node.rd_wr_ne _ _ _ _ (by decide) (by decide)]

theorem Node.mergeAbandon_late (h : 4 ≤ n.rd INA_STATUS.MPHASE) : n.mergeAbandon = n := if_pos h

/-- What an abandoned merge forgets. -/
def Node.mergeForgotten (n : Node) : Node :=
  (n.updIna (fun i => { i with merge := none, junction := none, outFrames := [], plan := i.plan.filter (fun p => p.kind ≠ 2) })).wr
    INA_STATUS.MPHASE 0

theorem Node.mergeAbandon_early (h : n.rd INA_STATUS.MPHASE < 4) : n.mergeAbandon = if n.mergeForgotten.inaState = 7
    then (n.mergeForgotten.inaGo 6).wrB INA_STATUS.INAUG n.mergeForgotten.ina.plan.isSome else n.mergeForgotten := if_neg (Nat.not_le.mpr h)

theorem Node.mergeAbandon_effect (h : n.rd INA_STATUS.MPHASE < 4) : n.mergeAbandon.ina.merge = none ∧ n.mergeAbandon.ina.junction = none
    ∧ n.mergeAbandon.rd INA_STATUS.MPHASE = 0 ∧ n.mergeAbandon.inaState = (if n.inaState = 7 then 6 else n.inaState) := by
  have hstate : n.mergeForgotten.inaState = n.inaState := Node.rd_wr_ne _ _ _ _ (by decide) (by decide)
  have hphase : n.mergeForgotten.rd INA_STATUS.MPHASE = 0 := Node.rd_wr_same _ _ _ (by decide)
  rw [Node.mergeAbandon_early h]
  rw [hstate]
  split
  · refine ⟨rfl, rfl, ?_, ?_⟩
    · rw [Node.wrB, Node.rd_wr_ne _ _ _ _ (by decide) (by decide), Node.inaGo, Node.rd_wr_ne _ _ _ _ (by decide) (by decide), hphase]
    · rw [Node.wrB, Node.inaState, Node.rd_wr_ne _ _ _ _ (by decide) (by decide), Node.inaGo, Node.rd_wr_same _ _ _ (by decide)]
      rfl
  · exact ⟨rfl, rfl, hphase, hstate⟩

end

end Sys2Proof.Machine
end

section
/-! PROOFS. Junction frames: the merge that starts, S45 to S47, the other part's JBEACON (04_inauguration.md R128, R164, R177, R178, R180, R194). -/

namespace Sys2Proof.Machine

section
variable {n : Node}

/-! ### A merge starts at the junction (R150, R180) -/

theorem Node.calInaug_ina (n : Node) : n.calInaug.ina = n.ina := by rw [n.calInaug_eq]

theorem Node.calInaug_dir (n : Node) : n.calInaug.dir = n.dir := by rw [n.calInaug_eq]

theorem Node.inaTrigger_ringless (h : n.lull.ring = none) : n.inaTrigger = (n.raise INA_EVT.TRIG).calInaug := by
  have hring : (n.raise INA_EVT.TRIG).calInaug.lull.ring = none := by rw [Node.calInaug_eq, Node.raise_lull, h]
  unfold Node.inaTrigger Node.ringAbort
  rw [hring]

theorem Node.inaTrigger_keepsField {f : Field} (hab : abortReg f.addr = false) (hrec : recReg f.addr = false) (hev : INA_EVT.TRIG.apart f = true) :
    n.inaTrigger.rd f = n.rd f := by
  rw [n.inaTrigger_rd hab, Node.rd_raise _ _ _ (by decide) hrec hev]

/-- MPHASE leaves 0 for 1. -/
def Node.phaseOne (n : Node) : Node := if n.rd INA_STATUS.MPHASE = 0 then n.wr INA_STATUS.MPHASE 1 else n

theorem Node.phaseOne_phase : n.phaseOne.rd INA_STATUS.MPHASE = if n.rd INA_STATUS.MPHASE = 0 then 1 else n.rd INA_STATUS.MPHASE := by
  unfold Node.phaseOne
  split
  · exact Node.rd_wr_same _ _ _ (by decide)
  · rfl

theorem Node.phaseOne_rd {f : Field} (h : INA_STATUS.MPHASE.apart f = true) : n.phaseOne.rd f = n.rd f := by
  unfold Node.phaseOne
  split
  · exact Node.rd_wr_ne _ _ _ _ (by decide) h
  · rfl

theorem Node.phaseOne_ina : n.phaseOne.ina = n.ina := by
  unfold Node.phaseOne
  split <;> rfl

/-- The junction frames with which a part lists its records. -/
def Node.jlists (n : Node) (j : Junction) : List (Nat × List Byte) :=
  n.dir.map (fun r => (0x6B, dirBytes r ++ leBytes 1 n.dir.length ++ leBytes 4 (toWord (j.mine.getD 0)).toNat ++ [0]))

/-- The junction node of a merge that starts, up to the frame that goes to the lead. -/
def Node.mergeStarted (n : Node) (j : Junction) : Node :=
  ((n.inaTrigger.inaGo 7).updIna (fun i => { i with outFrames := i.outFrames ++ n.inaTrigger.jlists j })).phaseOne

theorem Node.mergeStarted_rd {j : Junction} {f : Field} (h1 : INA_STATUS.MPHASE.apart f = true) (h2 : INA_STATUS.STATE.apart f = true) :
    (n.mergeStarted j).rd f = n.inaTrigger.rd f := by
  rw [Node.mergeStarted, Node.phaseOne_rd h1, Node.updIna_rd, Node.inaGo, Node.rd_wr_ne _ _ _ _ (by decide) h2]

theorem Node.mergeStart_member {j : Junction} (hj : n.ina.junction = some j) (hl : n.isLead = false) :
    n.mergeStart = (n.mergeStarted j).inaUnit ([0x37, 0, 0, 0] ++ (n.mergeStarted j).ina.juncFrame) := by
  have hlead : (n.mergeStarted j).isLead = false := by
    rw [Node.isLead, Node.on_congr (Node.mergeStarted_rd (by decide) (by decide)),
      Node.on_congr (Node.inaTrigger_keepsField (by decide) (by decide) (by decide))]
    exact hl
  unfold Node.mergeStart
  rw [hj]
  exact if_neg (by rw [Bool.not_eq_true]; exact hlead)

theorem Node.mergeStart_effect {j : Junction} (hj : n.ina.junction = some j) (hl : n.isLead = false) (hring : n.lull.ring = none) :
    n.mergeStart.inaState = 7 ∧ n.mergeStart.rd INA_STATUS.MPHASE = (if n.rd INA_STATUS.MPHASE = 0 then 1 else n.rd INA_STATUS.MPHASE)
    ∧ n.mergeStart.on INA_EVT.TRIG = true ∧ n.mergeStart.ina.units = n.ina.units ++ [[0x37, 0, 0, 0] ++ n.ina.juncFrame]
    ∧ n.mergeStart.ina.outFrames.map (·.1) = n.ina.outFrames.map (·.1) ++ n.dir.map (fun _ => 0x6B) := by
  have hina : n.inaTrigger.ina = n.ina := by rw [Node.inaTrigger_ringless hring, Node.calInaug_ina, Node.raise_ina]
  have hdir : n.inaTrigger.dir = n.dir := by rw [Node.inaTrigger_ringless hring, Node.calInaug_dir, Node.raise_dir]
  have hstarted : (n.mergeStarted j).ina = { n.ina with outFrames := n.ina.outFrames ++ n.inaTrigger.jlists j } := by
    rw [Node.mergeStarted, Node.phaseOne_ina, Node.updIna_ina, Node.inaGo, Node.wr_ina, hina]
  rw [Node.mergeStart_member hj hl]
  refine ⟨?_, ?_, ?_, ?_, ?_⟩
  · change (n.mergeStarted j).rd INA_STATUS.STATE = 7
    rw [Node.mergeStarted, Node.phaseOne_rd (by decide), Node.updIna_rd, Node.inaGo, Node.rd_wr_same _ _ _ (by decide)]
    rfl
  · change (n.mergeStarted j).rd INA_STATUS.MPHASE = _
    rw [Node.mergeStarted, Node.phaseOne_phase, Node.updIna_rd, Node.inaGo, Node.rd_wr_ne _ _ _ _ (by decide) (by decide),
      Node.inaTrigger_keepsField (by decide) (by decide) (by decide)]
  · change (n.mergeStarted j).on INA_EVT.TRIG = true
    rw [Node.on_congr (Node.mergeStarted_rd (by decide) (by decide)), Node.inaTrigger_on]
  · rw [Node.inaUnit, hstarted]
  · rw [Node.inaUnit, hstarted]
    dsimp only
    rw [List.map_append, Node.jlists, hdir, List.map_map]
    rfl

theorem Node.mergeRetry_starts {att : Nat} (ho : n.outAtt = some att) (hrun : 8 ≤ n.rd (LINE_STATUS.FOREIGN_RUN att)) (hm : n.ina.merge = none)
    (hc : n.committed = true) : n.mergeRetry = n.mergeStart := by
  unfold Node.mergeRetry
  rw [ho]
  exact if_pos (by simp [hrun, hm, hc])

theorem Node.mergeRetry_inside (ho : n.outAtt = none) : n.mergeRetry = n := by
  unfold Node.mergeRetry
  rw [ho]

/-! ### S45 to S47 at the junction (R177, R180) -/

theorem Node.contBytes_type (key : List Byte) (prio ty attempt id cyc : Nat) (spec : List Byte) :
    le (n.contBytes key prio ty attempt id cyc spec) 0 1 = ty % 256 := by
  unfold Node.contBytes
  simp only [List.append_assoc]
  exact le_one_first _ _

theorem Node.contBytes_id (key : List Byte) (prio ty attempt id cyc : Nat) (spec : List Byte) :
    le (n.contBytes key prio ty attempt id cyc spec) 10 4 = id % 4294967296 := by
  have hlen : (leBytes 1 ty ++ leBytes 1 attempt ++ leBytes 8 n.uid).length = 10 := by simp only [List.length_append, leBytes_length]
  have hread := le_append_leBytes hlen 4 id
  unfold Node.contBytes
  simp only [List.append_assoc] at hread ⊢
  exact hread _

/-- A frame of the node's part as it goes out at the junction. -/
def Node.juncBytes (n : Node) (type : Nat) (spec : List Byte) : List Byte :=
  n.contBytes (n.compKey n.compId n.nonce) n.leadPrio type 1 n.compId n.cycle spec

theorem Node.juncBytes_id (type : Nat) (spec : List Byte) : le (n.juncBytes type spec) 10 4 = n.compId :=
  (Node.contBytes_id _ _ _ _ _ _ _).trans (Nat.mod_eq_of_lt (bits_lt _ _ _))

theorem Node.jbeaconCycle_inside (ho : n.outAtt = none) : n.jbeaconCycle = n := by
  unfold Node.jbeaconCycle
  rw [ho]

theorem Node.juncTurn_alone (hj : n.ina.junction = none) : n.juncTurn = true := by
  unfold Node.juncTurn
  rw [hj]

section
variable {att : Nat} (ho : n.outAtt = some att) (hc : n.committed = true) (hend : n.on INA_STATUS.END = true) (hph : n.rd INA_STATUS.MPHASE < 4)
  (hj : n.ina.junction = none)
include ho hc hend hph hj

theorem Node.jbeaconCycle_frame {x : Nat × List Byte} (hx : n.ina.outFrames = [x]) :
    n.jbeaconCycle = (n.emit (.contention att 0) (n.juncBytes x.1 x.2)).updIna (fun i => { i with outFrames := i.outFrames.drop 4 }) := by
  unfold Node.jbeaconCycle
  rw [ho]
  dsimp only
  rw [if_neg (by simp [hc, hend, Nat.not_le.mpr hph]), if_pos (by simp [hx]), if_pos (Node.juncTurn_alone hj), hx]
  rfl

theorem Node.jbeaconCycle_sends {x : Nat × List Byte} (hx : n.ina.outFrames = [x]) : n.jbeaconCycle.ina.outFrames = []
    ∧ n.jbeaconCycle.regs = n.regs
    ∧ ∃ y, n.jbeaconCycle.out = n.out ++ [⟨.contention att 0, y⟩] ∧ le y 0 1 = x.1 % 256 ∧ le y 10 4 = n.compId := by
  rw [Node.jbeaconCycle_frame ho hc hend hph hj hx]
  refine ⟨?_, rfl, _, rfl, Node.contBytes_type _ _ _ _ _ _ _, Node.juncBytes_id _ _⟩
  exact congrArg (List.drop 4) hx

theorem Node.jbeaconCycle_coin (hx : n.ina.outFrames = []) : n.jbeaconCycle = if n.entropy.1 % 2 = 1
    then n.entropy.2.entropy.2.emit (.contention att (n.entropy.2.entropy.1 % 4))
      (n.entropy.2.entropy.2.juncBytes 0x6A n.entropy.2.entropy.2.jbeaconBody)
    else n.entropy.2 := by
  unfold Node.jbeaconCycle
  rw [ho]
  dsimp only
  rw [if_neg (by simp [hc, hend, Nat.not_le.mpr hph]), if_neg (by simp [hx]), if_neg (by simp [hj])]
  rfl

theorem Node.jbeaconCycle_beacons (hx : n.ina.outFrames = []) : n.jbeaconCycle.regs = n.regs ∧ (n.jbeaconCycle.out = n.out
    ∨ ∃ c y, n.jbeaconCycle.out = n.out ++ [⟨.contention att c, y⟩] ∧ c < 4 ∧ le y 0 1 = 0x6A) := by
  rw [Node.jbeaconCycle_coin ho hc hend hph hj hx]
  split
  · exact ⟨rfl, .inr ⟨_, _, rfl, Nat.mod_lt _ (by decide), Node.contBytes_type _ _ _ _ _ _ _⟩⟩
  · exact ⟨rfl, .inl rfl⟩

end

/-! ### JBEACON heard (R128, R164, R178) -/

variable {f : ContRx}

/-- How many beacons of one foreign composition the attachment has then heard in a row. -/
def Node.foreignRun (n : Node) (att id : Nat) : Nat :=
  if (Tab.get (fun _ => (0, 0, 0)) n.bar.foreign att).1 = id ∧ n.cycle < (Tab.get (fun _ => (0, 0, 0)) n.bar.foreign att).2.2 + 16
  then min 255 (n.rd (LINE_STATUS.FOREIGN_RUN att) + 1) else 1

theorem sat_eight (v : Nat) : sat 8 v = min 255 v := by
  unfold sat
  split <;> omega

/-- The registers of a node that heard a foreign beacon: its run, and the count of strangers. -/
theorem Node.foreignHeard_regs (att id uid : Nat) : (n.foreignHeard att id uid).regs
    = ((n.wr (LINE_STATUS.FOREIGN_RUN att) (n.foreignRun att id)).count BAR_CNT_STRANGER.VALUE).regs := by
  unfold Node.foreignHeard Node.foreignRun
  dsimp only
  rw [sat_eight]
  simp only [Bool.and_eq_true, decide_eq_true_eq]
  rfl

theorem Field.foreignRun_apart {att : Nat} (h : att < 4) {f : Field} (hf : 0x40014000 ≤ f.addr) : (LINE_STATUS.FOREIGN_RUN att).apart f = true :=
  Field.apart_of_addr_ne (by rw [LINE_STATUS.FOREIGN_RUN]; dsimp only; omega)

theorem Field.apart_foreignRun {att : Nat} (h : att < 4) {f : Field} (hf : 0x40014000 ≤ f.addr) : f.apart (LINE_STATUS.FOREIGN_RUN att) = true :=
  Field.apart_of_addr_ne (by rw [LINE_STATUS.FOREIGN_RUN]; dsimp only; omega)

theorem Node.foreignRun_lt (att id : Nat) : n.foreignRun att id < 256 := by
  unfold Node.foreignRun
  split <;> omega

theorem Node.foreignHeard_run {att : Nat} (h : att < 4) (id uid : Nat) :
    (n.foreignHeard att id uid).rd (LINE_STATUS.FOREIGN_RUN att) = n.foreignRun att id := by
  have hrd : (n.foreignHeard att id uid).rd (LINE_STATUS.FOREIGN_RUN att)
      = ((n.wr (LINE_STATUS.FOREIGN_RUN att) (n.foreignRun att id)).count BAR_CNT_STRANGER.VALUE).rd (LINE_STATUS.FOREIGN_RUN att) :=
    Node.rd_of_reg (by rw [Node.reg, Node.foreignHeard_regs, Node.reg])
  rw [hrd, Node.rd_count_ne _ _ _ (by decide) (Field.apart_foreignRun h (by decide)), Node.rd_wr_same _ _ _ (show 8 + 8 ≤ 32 by decide)]
  exact Nat.mod_eq_of_lt (Node.foreignRun_lt att id)

theorem Node.foreignHeard_counts {att : Nat} (h : att < 4) (id uid : Nat) : Counted BAR_CNT_STRANGER.VALUE n (n.foreignHeard att id uid) := by
  have hrd : (n.foreignHeard att id uid).rd BAR_CNT_STRANGER.VALUE
      = ((n.wr (LINE_STATUS.FOREIGN_RUN att) (n.foreignRun att id)).count BAR_CNT_STRANGER.VALUE).rd BAR_CNT_STRANGER.VALUE :=
    Node.rd_of_reg (by rw [Node.reg, Node.foreignHeard_regs, Node.reg])
  rw [Counted, hrd, Node.rd_count_same _ _ (by decide), Node.rd_wr_ne _ _ _ _ (show 8 + 8 ≤ 32 by decide) (Field.foreignRun_apart h (by decide))]

/-- The node that has noted a foreign JBEACON as its junction. -/
def Node.junctionNoted (n : Node) (f : ContRx) : Node :=
  let k := n.foreignHeard f.att (le f.bytes 10 4) (contUid f.bytes)
  let j := juncOf f.bytes k.ina.junction f.att k.nodeNum k.cycle (some f.comb)
  let k := (k.updIna (fun i => { i with junction := some j, juncFrame := f.bytes })).wr INA_JUNCID.VALUE (le f.bytes 10 4)
  k.wr INA_JUNC.VALUE (j.prio % 16 + j.total * 256 + j.cars * 65536 + b2n (k.winsOver j) * 16777216)

theorem Node.jbeaconRx_listening (h : n.inaState = 1) : n.jbeaconRx f = { n with ina := { n.ina with heardCand := true } } := if_pos h

theorem Node.jbeaconRx_notes (hc : n.committed = true) (hph : n.rd INA_STATUS.MPHASE < 4) (hs : n.rd (LINE_CTRL.SIDE f.att) = 2)
    (hrun : n.foreignRun f.att (le f.bytes 10 4) ≠ 8) : n.jbeaconRx f = n.junctionNoted f := by
  have hst : n.inaState ≠ 1 := fun h => by
    rw [Node.committed_eq, h] at hc
    exact absurd hc (by decide)
  unfold Node.jbeaconRx
  dsimp only
  rw [if_neg hst, if_neg (by simp [hc, Nat.not_le.mpr hph]), if_neg (by simp [hs])]
  rw [Node.foreignHeard_run f.att.isLt]
  exact if_neg (by simp [hrun])

theorem Node.junctionNoted_effect : (n.junctionNoted f).ina.junction.map (fun q => (q.id, q.nonce, q.prio))
      = some (le f.bytes 10 4, le f.bytes 22 8, contPrio f.bytes)
    ∧ (n.junctionNoted f).rd INA_JUNCID.VALUE = le f.bytes 10 4
    ∧ (n.junctionNoted f).rd (LINE_STATUS.FOREIGN_RUN f.att) = n.foreignRun f.att (le f.bytes 10 4)
    ∧ Counted BAR_CNT_STRANGER.VALUE n (n.junctionNoted f) := by
  unfold Node.junctionNoted
  dsimp only
  refine ⟨rfl, ?_, ?_, ?_⟩
  · rw [Node.rd_wr_ne _ _ _ _ (by decide) (by decide), Node.rd_wr_same _ _ _ (by decide)]
    exact Nat.mod_eq_of_lt (le_lt _ _ _)
  · rw [Node.rd_wr_ne _ _ _ _ (by decide) (Field.apart_foreignRun f.att.isLt (by decide)),
      Node.rd_wr_ne _ _ _ _ (by decide) (Field.apart_foreignRun f.att.isLt (by decide)), Node.updIna_rd, Node.foreignHeard_run f.att.isLt]
  · rw [Counted, Node.rd_wr_ne _ _ _ _ (by decide) (by decide), Node.rd_wr_ne _ _ _ _ (by decide) (by decide), Node.updIna_rd]
    exact Node.foreignHeard_counts f.att.isLt _ _

theorem Node.foreignReset_quiet {att : Nat} (h : (Tab.get (fun _ => (0, 0, 0)) n.bar.foreign att).2.2 + 16 ≤ n.cycle) :
    n.foreignReset att = n.wr (LINE_STATUS.FOREIGN_RUN att) 0 := if_pos h

theorem Node.foreignReset_heard {att : Nat} (h : n.cycle < (Tab.get (fun _ => (0, 0, 0)) n.bar.foreign att).2.2 + 16) : n.foreignReset att = n :=
  if_neg (Nat.not_le.mpr h)

end

end Sys2Proof.Machine
end

section
/-! PROOFS. Junction frames at the leads and on their way there: lists, decision, refusal and acknowledgement (04_inauguration.md R164, R176,
R179 to R183). -/

namespace Sys2Proof.Machine

section
variable {n : Node} {f : ContRx} {b : List Byte} {j : Junction} {g : MergeRun}

/-! ### Frames to and from the lead (R176, R180) -/

theorem Node.toLead_member (hl : n.isLead = false) : n.toLead f = n.inaUnit ([0x37, 0, 0, 0] ++ f.bytes) := if_neg (by simp [hl])

theorem Node.toLead_lead (hl : n.isLead = true) : n.toLead f = n.leadFrame f.bytes n.nodeNum (some f.comb) := if_pos hl

theorem Node.jackRx_member (hl : n.isLead = false) (h0 : le f.bytes 26 1 = 0) : n.jackRx f = n.inaUnit ([0x37, 0, 0, 0] ++ f.bytes) := by
  unfold Node.jackRx
  dsimp only
  rw [if_neg (by simp [hl]), if_neg (by simp [h0]), Node.toLead_member hl]

theorem Node.jackRx_lead (hl : n.isLead = true) : n.jackRx f = n.toLead f := if_pos hl

theorem Node.jsendRx_waits {u : UnitRx} {att : Nat} (hu : u.node = n.bar.leadNum) (ho : n.outAtt = some att) (hlen : u.body.length = 27)
    (hty : le u.body 26 1 ≠ 0x6D) : n.jsendRx u = { n with ina := { n.ina with
      outFrames := n.ina.outFrames ++ [(le u.body 26 1, slice u.body 4 22)] } } := by
  unfold Node.jsendRx
  rw [if_neg (by simp [Node.fromLead, hu, ho, hlen])]
  exact if_neg (by simp [hty])

/-- A frame for the junction changes nothing but what INA has waiting. -/
theorem Node.sendJunc_eq (own ty : Nat) (spec : List Byte) : n.sendJunc own ty spec = { n with ina := (n.sendJunc own ty spec).ina } := by
  unfold Node.sendJunc
  dsimp only
  split <;> rfl

theorem Node.sendJunc_own {own : Nat} (h : own = n.nodeNum) (ty : Nat) (spec : List Byte) : n.sendJunc own ty spec
    = n.updIna (fun i => { i with outFrames := i.outFrames ++ [(ty, (spec ++ List.replicate 22 0).take 22)] }) := if_pos h

/-! ### The other part's records and junction data (R179, R180) -/

theorem Node.tryDecide_loses (hj : n.ina.junction = some j) (hw : n.winsOver j = false) : n.tryDecide = n := by
  unfold Node.tryDecide
  rw [hj]
  exact if_pos (by simp [hw])

/-- Which part wins follows from the directory, the composition ID and the junction's priority and ID. -/
theorem Node.winsOver_congr {k : Node} {q : Junction} (hd : k.dir = n.dir) (hi : k.compId = n.compId) (hprio : q.prio = j.prio) (hid : q.id = j.id) :
    k.winsOver q = n.winsOver j := by
  rw [Node.winsOver, Node.leadPrio, hd, hi, hprio, hid]
  rfl

/-- The junction's data once a JLIST has come. -/
def Junction.listed (j : Junction) (b : List Byte) : Junction :=
  { j with records := j.records.filter (fun y => y.num ≠ (dirOf (slice b 22 16)).num) ++ [dirOf (slice b 22 16)]
           total := le b 38 1, other := signed32 (le b 39 4) }

/-- A lead that has noted a JLIST. -/
def Node.listNoted (n : Node) (b : List Byte) : Node := n.updIna (fun i => { i with junction := i.junction.map (·.listed b) })

theorem Node.leadFrame_list_eq (hty : le b 0 1 = 0x6B) (own : Nat) (mine : Option Int) : ∃ full : Bool,
    n.leadFrame b own mine = (if full then (n.listNoted b).wr INA_STATUS.MPHASE 2 else n.listNoted b).tryDecide := by
  unfold Node.leadFrame
  dsimp only
  rw [if_neg (by simp [hty]), if_pos hty]
  exact ⟨_, rfl⟩

theorem Node.leadFrame_list (hty : le b 0 1 = 0x6B) (hj : n.ina.junction = some j) (hw : n.winsOver j = false) (own : Nat) (mine : Option Int) :
    (n.leadFrame b own mine).ina.junction = some (j.listed b) := by
  obtain ⟨full, heq⟩ := Node.leadFrame_list_eq (n := n) hty own mine
  have hnoted : (n.listNoted b).ina.junction = some (j.listed b) := congrArg (Option.map (fun q : Junction => q.listed b)) hj
  rw [heq]
  cases full with
  | true =>
    have hid : ((n.listNoted b).wr INA_STATUS.MPHASE 2).compId = n.compId := Node.rd_wr_ne _ _ _ _ (by decide) (by decide)
    have hphase : ((n.listNoted b).wr INA_STATUS.MPHASE 2).ina.junction = some (j.listed b) := hnoted
    have hsame : ((n.listNoted b).wr INA_STATUS.MPHASE 2).winsOver (j.listed b) = n.winsOver j := Node.winsOver_congr rfl hid rfl rfl
    rw [if_pos rfl, Node.tryDecide_loses hphase (hsame.trans hw), hphase]
  | false =>
    have hsame : (n.listNoted b).winsOver (j.listed b) = n.winsOver j := Node.winsOver_congr rfl rfl rfl rfl
    rw [if_neg (by decide), Node.tryDecide_loses hnoted (hsame.trans hw), hnoted]

theorem Node.leadFrame_report {own : Nat} {mine : Option Int} (hty : le b 0 1 = 0x6A) (hw : n.winsOver (juncOf b n.ina.junction 0 own n.cycle mine) = false) :
    n.leadFrame b own mine = (n.updIna (fun i => { i with junction := some (juncOf b i.junction 0 own n.cycle mine) })).phaseOne := by
  have hidle : (n.updIna (fun i => { i with junction := some (juncOf b i.junction 0 own n.cycle mine) })).phaseOne.tryDecide
      = (n.updIna (fun i => { i with junction := some (juncOf b i.junction 0 own n.cycle mine) })).phaseOne := by
    refine Node.tryDecide_loses (j := juncOf b n.ina.junction 0 own n.cycle mine) (by rw [Node.phaseOne_ina]; rfl) ?_
    refine (Node.winsOver_congr ?_ (Node.phaseOne_rd (by decide)) rfl rfl).trans hw
    unfold Node.phaseOne
    split <;> rfl
  unfold Node.leadFrame
  dsimp only
  rw [if_pos hty]
  exact hidle

/-! ### Decision and refusal (R179, R181) -/

theorem Node.mergeVerdict_lt : n.mergeVerdict j < 8 := by
  unfold Node.mergeVerdict
  split
  · decide
  · split
    · decide
    · split <;> decide

/-- The measured offset is known, or a free value is drawn. -/
theorem Node.ownOffset_snd : ∃ k, (n.ownOffset j).2 = { n with freeCtr := k } := by
  unfold Node.ownOffset
  cases j.mine with
  | some x => exact ⟨n.freeCtr, rfl⟩
  | none => exact ⟨n.freeCtr + 1, rfl⟩

theorem Refused.of_regs {k m : Node} {v : Nat} (h : k.regs = n.regs) (hr : Refused k v m) : Refused n v m := by
  have hrd : k.rd INA_CNT_MERGEREF.VALUE = n.rd INA_CNT_MERGEREF.VALUE := Node.rd_of_reg (by rw [Node.reg, h, Node.reg])
  rwa [Refused, Counted, hrd] at hr

theorem Node.decideRx_refuses (hj : n.ina.junction = some j) (hw : n.winsOver j = false) (hv : n.mergeVerdict { j with busy := false } ≠ 0) :
    Refused n (n.mergeVerdict { j with busy := false }) (n.decideRx b) := by
  obtain ⟨k, hk⟩ := Node.ownOffset_snd (n := n) (j := j)
  have heq : n.decideRx b = ((n.ownOffset j).2.sendJack j.own (le b 22 4) (n.mergeVerdict { j with busy := false }) 0 (n.ownOffset j).1).mergeRefuse
      (n.mergeVerdict { j with busy := false }) := by
    unfold Node.decideRx
    rw [hj]
    dsimp only
    rw [if_neg (by simp [hw]), if_pos hv]
  rw [heq]
  refine Refused.of_regs ?_ (Node.mergeRefuse_refused Node.mergeVerdict_lt)
  rw [Node.sendJack, Node.sendJunc_eq, hk]

theorem Node.leadFrame_decide (hty : le b 0 1 = 0x6C) (own : Nat) (mine : Option Int) : n.leadFrame b own mine = n.decideRx b := by
  unfold Node.leadFrame
  dsimp only
  rw [if_neg (by simp [hty]), if_neg (by simp [hty]), if_pos hty]

theorem Node.leadFrame_jack (hty : le b 0 1 = 0x6D) (own : Nat) (mine : Option Int) : n.leadFrame b own mine = n.jackLead b := by
  unfold Node.leadFrame
  dsimp only
  rw [if_neg (by simp [hty]), if_neg (by simp [hty]), if_neg (by simp [hty]), if_pos hty]

theorem Node.buildMerged_snd : ∃ k, (n.buildMerged j).2 = { n with freeCtr := k } := by
  obtain ⟨k, hk⟩ := Node.ownOffset_snd (n := n) (j := j)
  refine ⟨k, ?_⟩
  unfold Node.buildMerged
  dsimp only
  split <;> exact hk

/-- The junction's data with the offset that a JACK reports. -/
def Junction.measured (j : Junction) (b : List Byte) : Junction := { j with other := signed32 (le b 31 4) }

theorem Node.relaySend_ina : (n.relaySend g).ina = n.ina := rfl

theorem Node.relaySend_state : (n.relaySend g).inaState = n.inaState := rfl

theorem Node.leadCommit_state {kind m takes newId nonce gen : Nat} {dir recs : List DirRec} :
    (n.leadCommit kind m takes newId nonce gen dir recs).inaState = n.inaState :=
  Node.leadCommit_rd (by decide) (by decide) (by decide) (by decide) (by decide)

/-- A node in RUN enters MERGING. -/
def Node.toMerging (n : Node) : Node := if n.inaState = 6 then n.inaGo 7 else n

theorem Node.toMerging_state : n.toMerging.inaState = if n.inaState = 6 then 7 else n.inaState := by
  unfold Node.toMerging
  split
  · exact Node.rd_wr_same _ _ _ (by decide)
  · rfl

theorem Node.toMerging_ina : n.toMerging.ina = n.ina := by
  unfold Node.toMerging
  split <;> rfl

/-- The winning lead with the acknowledged merge, MERGING. -/
def Node.acknowledged (n : Node) (g : MergeRun) : Node := (n.updIna (fun i => { i with merge := some g })).toMerging

theorem Node.acknowledged_merge : (n.acknowledged g).ina.merge = some g := by rw [Node.acknowledged, Node.toMerging_ina, Node.updIna_ina]

theorem Node.acknowledged_state : (n.acknowledged g).inaState = if n.inaState = 6 then 7 else n.inaState := Node.toMerging_state

section
variable (hj : n.ina.junction = some j) (hg : n.ina.merge = some g) (hwins : g.wins = true) (hack : g.acked = false)
include hj hg hwins hack

theorem Node.jackLead_refused (hr : le b 26 1 ≠ 0) : n.jackLead b = n.mergeRefuse (le b 26 1) := by
  unfold Node.jackLead
  rw [hj, hg]
  dsimp only
  rw [if_neg (by simp [hwins, hack]), if_pos hr]

theorem Node.jackLead_accepted (hr : le b 26 1 = 0) (hid : le b 22 4 = g.newId) : ∃ (q : Nat × Nat) (dir : List DirRec) (c : Nat), n.jackLead b
    = ((({ n with freeCtr := c } : Node).acknowledged { g with acked := true, juncNode1 := q.1, juncNode2 := q.2 }).leadCommit 2 g.m g.m g.newId
      g.nonce g.gen dir dir).relaySend { g with acked := true, juncNode1 := q.1, juncNode2 := q.2 } := by
  obtain ⟨c, hc⟩ := Node.buildMerged_snd (n := n) (j := j.measured b)
  refine ⟨(n.buildMerged (j.measured b)).2.juncNumbers (j.measured b) (n.buildMerged (j.measured b)).1, (n.buildMerged (j.measured b)).1, c, ?_⟩
  unfold Node.jackLead
  rw [hj, hg]
  dsimp only
  rw [if_neg (by simp [hwins, hack]), if_neg (by simp [hr]), if_neg (by simp [hid]), ← hc]
  rfl

theorem Node.jackLead_merges (hr : le b 26 1 = 0) (hid : le b 22 4 = g.newId) : (n.jackLead b).ina.merge.map (·.acked) = some true
    ∧ (n.jackLead b).inaState = (if n.inaState = 6 then 7 else n.inaState) := by
  obtain ⟨q, dir, c, heq⟩ := Node.jackLead_accepted hj hg hwins hack hr hid
  have hstate : ({ n with freeCtr := c } : Node).inaState = n.inaState := rfl
  rw [heq]
  constructor
  · rw [Node.relaySend_ina, Node.leadCommit_ina]
    exact congrArg (Option.map (·.acked)) Node.acknowledged_merge
  · rw [Node.relaySend_state, Node.leadCommit_state, Node.acknowledged_state, hstate]

omit hwins hack in
theorem Node.decideAgain_early (h : n.cycle < g.sentAt + 8) : n.decideAgain = n := by
  unfold Node.decideAgain
  rw [hj, hg]
  exact if_pos (by simp [h])

theorem Node.decideAgain_sends (h : g.sentAt + 8 ≤ n.cycle) (hown : j.own = n.nodeNum) : n.decideAgain.regs = n.regs
    ∧ n.decideAgain.ina.merge = some { g with m := n.cycle + 32, zA := n.cycle + 48, zB := n.cycle + 64, sentAt := n.cycle }
    ∧ n.decideAgain.ina.outFrames.map (·.1) = n.ina.outFrames.map (·.1) ++ [0x6C] := by
  have heq : n.decideAgain = (n.updIna (fun i => { i with merge := some { g with
      m := n.cycle + 32, zA := n.cycle + 48, zB := n.cycle + 64, sentAt := n.cycle } })).sendDecide j { g with
      m := n.cycle + 32, zA := n.cycle + 48, zB := n.cycle + 64, sentAt := n.cycle } := by
    unfold Node.decideAgain
    rw [hj, hg]
    exact if_neg (by simp [hwins, hack, Nat.not_lt.mpr h])
  rw [heq, Node.sendDecide, Node.sendJunc_own (by exact hown)]
  exact ⟨rfl, rfl, List.map_append⟩

end

end

/-- Settles O39: one lemma for each clause. -/
theorem merging : Obligations.Merging := by
  unfold Obligations.Merging
  intro s by_ f u att j g x hr n i b ph was run last refused mayBe r jr
  refine ⟨fun hm hph ha hz => ?_, fun hm hph ha hb hz => ?_, fun hm l => ?_, fun ho hrun hm hc hj hl hring => ?_, fun ho => ⟨?_, ?_⟩,
    fun ⟨ho, hc, hend, hph⟩ hx hj => ?_, fun ⟨ho, hc, hend, hph⟩ hx hj => ?_, fun hg hs => ?_, fun hg hc hph hs hrun => ?_, fun h => ?_, fun h => ?_,
    fun h => ?_, fun h => ?_, fun hl => ⟨fun hg => ?_, fun hg => ?_, fun hg h0 => ?_, ?_⟩, fun hl hg hj hw => ?_, fun hl hlen hty hw => ?_,
    fun hu ho hlen hty => ?_, fun hl hg hj hw hv => ?_, fun hl hg hj hm hwins hack => ⟨fun hres hlt => ?_, fun hres hid => ?_⟩,
    fun hj hm hwins hack => ⟨fun h hown => ?_, fun h => ?_⟩⟩
  · exact does_onNode (f := (·.closure 0)) hr rfl (Node.closure_first_effect hm hph ha hz)
  · exact does_onNode (f := (·.closure 1)) hr rfl (Node.closure_second_effect hm hph ha hb hz)
  · exact answers_same (f := (·.closure (lineNo l))) hr rfl (Node.closure_idle hm _)
  · refine does_onNode (f := (·.mergeRetry)) hr rfl ?_
    rw [Node.mergeRetry_starts ho hrun hm hc]
    exact Node.mergeStart_effect hj hl hring
  · exact answers_same (f := (·.mergeRetry)) hr rfl (Node.mergeRetry_inside ho)
  · exact answers_same (f := (·.jbeaconCycle)) hr rfl (Node.jbeaconCycle_inside ho)
  · exact does_onNode (f := (·.jbeaconCycle)) hr rfl (Node.jbeaconCycle_sends ho hc hend hph hj hx)
  · exact does_onNode (f := (·.jbeaconCycle)) hr rfl (Node.jbeaconCycle_beacons ho hc hend hph hj hx)
  · exact answers_onCont hr (act := (·.jbeaconRx f)) rfl hg (Node.jbeaconRx_listening hs)
  · refine does_onCont hr (act := (·.jbeaconRx f)) rfl hg ?_
    rw [Node.jbeaconRx_notes hc hph hs hrun]
    exact Node.junctionNoted_effect
  · exact answers_onNode (f := (·.foreignReset att)) hr rfl (Node.foreignReset_quiet h)
  · exact answers_same (f := (·.foreignReset att)) hr rfl (Node.foreignReset_heard h)
  · exact does_onNode (f := (·.mergeAbandon)) hr rfl (Node.mergeAbandon_effect h)
  · exact answers_same (f := (·.mergeAbandon)) hr rfl (Node.mergeAbandon_late h)
  · exact answers_onCont hr (act := (·.toLead f)) rfl hg (Node.toLead_member hl)
  · exact answers_onCont hr (act := (·.toLead f)) rfl hg (Node.toLead_member hl)
  · exact answers_onCont hr (act := (·.jackRx f)) rfl hg (Node.jackRx_member hl h0)
  · exact answers_same (f := fun n => if n.isLead && u.body.length = 60 then n.leadFrame (u.body.drop 4) u.node none else n) hr rfl
      (if_neg (by rw [show s.node.isLead = false from hl]; simp))
  · refine does_onCont hr (act := (·.toLead f)) rfl hg ?_
    rw [Node.toLead_lead hl]
    exact ⟨_, Node.leadFrame_list hg.2 hj hw _ _, rfl, rfl, rfl⟩
  · refine does_onNode (f := fun n => if n.isLead && u.body.length = 60 then n.leadFrame (u.body.drop 4) u.node none else n) hr rfl ?_
    rw [if_pos (by rw [show s.node.isLead = true from hl]; simp [hlen]), Node.leadFrame_report hty hw]
    exact ⟨congrArg InaState.junction Node.phaseOne_ina, Node.phaseOne_phase⟩
  · exact answers_onNode (f := (·.jsendRx u)) hr rfl (Node.jsendRx_waits hu ho hlen hty)
  · refine does_onCont hr (act := (·.toLead f)) rfl hg ?_
    rw [Node.toLead_lead hl, Node.leadFrame_decide hg.2]
    exact Node.decideRx_refuses hj hw hv
  · refine does_onCont hr (act := (·.jackRx f)) rfl hg ?_
    rw [Node.jackRx_lead hl, Node.toLead_lead hl, Node.leadFrame_jack hg.2, Node.jackLead_refused hj hm hwins hack hres]
    exact Node.mergeRefuse_refused hlt
  · refine does_onCont hr (act := (·.jackRx f)) rfl hg ?_
    rw [Node.jackRx_lead hl, Node.toLead_lead hl, Node.leadFrame_jack hg.2]
    exact Node.jackLead_merges hj hm hwins hack hres hid
  · exact does_onNode (f := (·.decideAgain)) hr rfl (Node.decideAgain_sends hj hm hwins hack h hown)
  · exact answers_same (f := (·.decideAgain)) hr rfl (Node.decideAgain_early hj hm h)

end Sys2Proof.Machine
end

section
/-! PROOFS. The process image as a Galek engine reads and writes it (05_signals.md R210, R217, R219; 09_galek_isa.md R386). -/

namespace Sys2Proof.Machine

/-! ### The output shadow -/

/-- The shadow tells the value last put in an entry. -/
theorem find_shadowPut_same (i : Nat) (v : Word) (l : List (Nat × Word)) : (shadowPut i v l).find? (fun p => p.1 = i) = some (i, v) := by
  induction l with
  | nil => simp [shadowPut]
  | cons p l ih =>
    rw [shadowPut]
    split
    · simp
    · next h => rw [List.find?_cons_of_neg (by simpa using h), ih]

/-- It tells of another entry what it told before. -/
theorem find_shadowPut_ne {i j : Nat} (h : j ≠ i) (v : Word) (l : List (Nat × Word)) :
    (shadowPut i v l).find? (fun p => p.1 = j) = l.find? (fun p => p.1 = j) := by
  induction l with
  | nil => simp [shadowPut, h.symm]
  | cons p l ih =>
    rw [shadowPut]
    split
    · next hp => simp [hp, h.symm]
    · rw [List.find?_cons, List.find?_cons, ih]

section
variable {s : State} {e : Fin 8} {rd ra : Reg} {imm : BitVec 16}

/-- Inside a good view, an entry's word `w` has its place in DMEM. -/
theorem Node.viewAddr_inside {n : Node} {e i : Nat} (hc : n.rd (SIG_VIEWB.COUNT e) ≠ 0) (hv : n.on (SIG_VIEWD.VIEWERR e) = false)
    (hlo : n.rd (SIG_VIEWA.FIRST e) ≤ i) (hhi : i < n.rd (SIG_VIEWA.FIRST e) + n.rd (SIG_VIEWB.COUNT e)) (w : Nat) :
    n.viewAddr e i w = some (0x20200000 + 8 * n.rd (SIG_VIEWC.DEST e) + 8 * (i - n.rd (SIG_VIEWA.FIRST e)) + 4 * w) :=
  if_pos (by simp [Node.viewOk, hc, hv, hlo, hhi])

/-- A read of a word in the view that is not uncorrectable computes it. -/
theorem computes_viewGet {c : Instr} {w a : Nat} (hf : Fetches s.node e) (hc : exec c s = s.onNode (fun n => n.viewGet e rd ra imm w))
    (ha : s.node.viewAddr e (s.node.pimgIndex e ra imm) w = some a) (hu : s.node.uceIn a 4 = false) :
    Computes c s e rd (BitVec.ofNat 32 (s.node.memLe a 4)) :=
  computes_finish hf hc (by simp [ha, hu])

/-- A PPUT by the entry's owner, with room in the shadow, puts the value there and does nothing else. -/
theorem pput_shadow (hf : Fetches s.node e) (hi : s.node.pimgIndex e ra imm ≤ 65535) (ho : s.node.ownsEntry e (s.node.pimgIndex e ra imm) = true)
    (hr : (s.node.engRun e).shadow.length < 2048 ∨ (s.node.engRun e).shadow.any (fun p => p.1 = s.node.pimgIndex e ra imm) = true) :
    Does (.pput e rd ra imm) s (fun m => (m.engRun e).shadow = shadowPut (s.node.pimgIndex e ra imm) (s.node.g e rd) (s.node.engRun e).shadow
      ∧ m.pcOf e = s.node.pcOf e + 4 ∧ (∀ r : Reg, m.g e r = s.node.g e r) ∧ OnlyEngine e s.node m) := by
  refine does_onNode hf.1 rfl ?_
  rw [Node.galek_fetches hf]
  dsimp only
  rw [if_neg (by simp [ho, Nat.not_lt.mpr hi]), if_neg (by rcases hr with h | h <;> simp [h, Nat.not_le.mpr])]
  refine ⟨?_, ?_, fun r => ?_, (OnlyEngine.updEng e _ _).trans (OnlyEngine.jump e _ _)⟩
  · simp [Node.advance, Node.jump]
  · rw [Node.advance, Node.jump_pcOf, Node.pcOf, Node.engRun_updEng_same, Node.pcOf]
  · rw [Node.advance, Node.jump_g, Node.g, Node.engRun_updEng_same]
    rfl

end

/-- Settles O4: `computes_viewGet` for PGET and PSTAT, `pput_shadow` for PPUT. -/
theorem processImage : Obligations.ProcessImage := by
  unfold Obligations.ProcessImage
  intro s e rd ra imm hf i first entry old
  refine ⟨fun hc hv hlo hhi => ?_, fun hi ho hr => ?_⟩
  · have ha := Node.viewAddr_inside hc hv hlo hhi
    exact ⟨fun hu => computes_viewGet hf rfl (ha 0) hu, fun hu => computes_viewGet hf rfl (ha 1) hu⟩
  · obtain ⟨m, hm, hsh, hrest⟩ := pput_shadow (rd := rd) hf hi ho hr
    refine ⟨m, hm, ?_, fun j hj => ?_, hrest⟩
    · rw [hsh]
      exact find_shadowPut_same i _ _
    · rw [hsh]
      exact find_shadowPut_ne hj _ _

end Sys2Proof.Machine
end

section
/-! PROOFS. A datagram of the management agent whose answer finds the switch's buffer full (16_local_interfaces.md R581, R584; 17_event_recorder.md
R611, R621): the record of the dropped frame goes to the store blocks that the state names free, and nothing in the statement keeps those apart
from the word that the agent has just written. -/

namespace Sys2Proof.Machine

/-- Of one command on one state, what two statements say holds of the same node. -/
theorem Does.both {c : Instr} {s : State} {P Q : Node → Prop} (h : Does c s P) (g : Does c s Q) : Does c s (fun m => P m ∧ Q m) := by
  obtain ⟨m, hm, hp⟩ := h
  obtain ⟨k, hk, hq⟩ := g
  have heq : ({ s with node := m } : State) = { s with node := k } := Host.Outcome.next.inj (hm.symm.trans hk)
  have hnode : m = k := congrArg State.node heq
  exact ⟨m, hm, hp, hnode ▸ hq⟩

/-- A write of one word, 0xDEADBEEF, to the first word of GENBUF (R597). -/
def genbufWrite : List Byte := hostMarked ([1, 0] ++ beBytes 4 0x207E0000 ++ [0xDE, 0xAD, 0xBE, 0xEF])

/-- Port 0 is on and has link, the agent answers, records are accepted in solo mode, and trigger 0 makes a guaranteed record of a frame dropped
for want of room (ETH_EVT.DROPBUF). -/
def dropRecorded : List (Field × Nat) :=
  [(ETH_CTRL.EN, 1), (ETH_CTRL.P0MODE, 1), (ETH_PSTAT.LINK 0, 1), (ETH_MGMT.EN, 1), (ETH_EVT_EN.EN, 8), (EVR_STATUS.STATE, 2),
    (EVR_TW0.KIND 0, 1), (EVR_TW0.SRC 0, 0x60), (EVR_TW0.BIT 0, 3), (EVR_TW0.GUAR 0, 1), (EVR_TW0.EN 0, 1), (MSG_CTRL.EN, 1),
    (MSG_CTRL.PERSIST, 1), (QSPI_STATUS.READY 1, 1)]

/-- A node whose queue at port 0 holds 64 frames of 1,536 bytes, all its room, and whose list of used store blocks leaves block 67,136 free: past
the store's 13,888 blocks, and the first word of GENBUF. -/
def crowdedNode : Node :=
  { dropRecorded.foldl (fun n p => n.wr p.1 p.2) State.reset.node with
    msg := { used := [(0, 67136), (100000, 1)] }
    eth := { arp := [(0, some 1)], q0 := List.replicate 64 ⟨List.replicate 1536 0, false, none, none, none⟩ } }

/-- The agent writes its word; its answer is dropped, and the block of that event's record lies over the word. -/
theorem mgmtDatagram_overwritten : Does (.mgmtDatagram 0 0 0 genbufWrite) ⟨crowdedNode, []⟩ (fun m => m.memLe (be genbufWrite 2 4) 4 = 0) :=
  does_onNode (by decide +kernel) rfl (by decide +kernel)

/-- Refutes O51: its clause on the agent's word write fails on `crowdedNode`, where the word written is gone once the answer's frame has been
dropped and recorded. No submission leaves `crowdedNode`'s list of used blocks; the statement, which speaks of every state, does not exclude it. -/
theorem not_ethernet : ¬ Obligations.Ethernet := by
  unfold Obligations.Ethernet
  intro h
  obtain ⟨-, -, -, -, -, -, -, -, -, -, -, -, -, -, -, hwrite, -⟩ :=
    h ⟨crowdedNode, []⟩ .agent 0 0 0 ⟨.int, [], 0⟩ 0 ⟨[], false, none, none, none⟩ [] .int genbufWrite 0 0 0 0 0 false false false 0 0 (0, none)
      (by decide +kernel)
  have hdoes := hwrite (by decide +kernel) (by decide +kernel) (by decide +kernel) (by decide +kernel) (by decide +kernel) (by decide +kernel)
    (by decide +kernel) (by decide +kernel)
  obtain ⟨m, -, ⟨hword, -⟩, hzero⟩ := hdoes.both mgmtDatagram_overwritten
  have hvalue : be genbufWrite 6 4 = 0xDEADBEEF := by decide +kernel
  rw [hvalue, hzero] at hword
  exact absurd hword (by decide)

end Sys2Proof.Machine
end

section
/-! PROOFS. Declarations of data sets and of subscription ranges, and views (05_signals.md R202, R212, R218, R221, R229, R720; 08_cycle_engines.md
R349). -/

namespace Sys2Proof.Machine

/-! ### Window entries, and an event that is raised or not -/

theorem winAddr_inj {a i j : Nat} (h : i ≠ j) : winAddr a i ≠ winAddr a j := by
  unfold winAddr
  omega

/-- Raising an event changes its bit and what recording changes. -/
theorem Node.raiseIf_reg {n : Node} {f : Field} {a : Nat} (c : Bool) (hf : a ≠ f.addr) (hr : recReg a = false) : (n.raiseIf c f).reg a = n.reg a := by
  cases c with
  | false => rfl
  | true => exact ((n.raise_recorded f).reg a hr).trans (Node.wr_reg_ne _ _ _ _ hf)

theorem Node.raiseIf_sig (n : Node) (c : Bool) (f : Field) : (n.raiseIf c f).sig = n.sig := by
  cases c with
  | false => rfl
  | true => exact (n.raise_recorded f).sig

/-! ### What the judgement of a data set depends on (R202) -/

theorem Node.ownCar_congr {n m : Node} (h : m.reg INA_SELF.VALUE.addr = n.reg INA_SELF.VALUE.addr) : m.ownCar = n.ownCar :=
  congrArg (fun v => v / 256 % 256) (Node.rd_of_reg h)

theorem Node.dsetBase_congr {n m : Node} {d : Nat} (h0 : m.reg (winAddr 0x4002C024 d) = n.reg (winAddr 0x4002C024 d)) (hc : m.ownCar = n.ownCar) :
    m.dsetBase d = n.dsetBase d := by
  have hpos : m.on (SIG_PUBW0.POS d) = n.on (SIG_PUBW0.POS d) := Node.on_congr (Node.rd_of_reg h0)
  have hbase : m.rd (SIG_PUBW0.BASE d) = n.rd (SIG_PUBW0.BASE d) := Node.rd_of_reg h0
  rw [Node.dsetBase, hpos, hbase, hc, Node.dsetBase]

theorem Node.dsetOk_congr {n m : Node} {d : Nat} (h0 : m.reg (winAddr 0x4002C024 d) = n.reg (winAddr 0x4002C024 d))
    (h1 : m.reg (winAddr 0x4002C028 d) = n.reg (winAddr 0x4002C028 d)) (h3 : m.reg (winAddr 0x4002C030 d) = n.reg (winAddr 0x4002C030 d)) :
    m.dsetOk d = n.dsetOk d := by
  have hvalid : m.on (SIG_PUBW0.VALID d) = n.on (SIG_PUBW0.VALID d) := Node.on_congr (Node.rd_of_reg h0)
  have hcount : m.rd (SIG_PUBW1.COUNT d) = n.rd (SIG_PUBW1.COUNT d) := Node.rd_of_reg h1
  have href : m.on (SIG_PUBW3.REFUSED d) = n.on (SIG_PUBW3.REFUSED d) := Node.on_congr (Node.rd_of_reg h3)
  rw [Node.dsetOk, hvalid, hcount, href, Node.dsetOk]

/-- `m` has the declarations of `n`, but for what SIG notes of data set `d`. -/
structure SameDecls (d : Nat) (n m : Node) : Prop where
  word0 : ∀ o, m.reg (winAddr 0x4002C024 o) = n.reg (winAddr 0x4002C024 o)
  word1 : ∀ o, m.reg (winAddr 0x4002C028 o) = n.reg (winAddr 0x4002C028 o)
  word3 : ∀ o, o ≠ d → m.reg (winAddr 0x4002C030 o) = n.reg (winAddr 0x4002C030 o)
  self : m.reg INA_SELF.VALUE.addr = n.reg INA_SELF.VALUE.addr

section
variable {n m : Node} {d : Nat}

theorem SameDecls.dsetBase (h : SameDecls d n m) (o : Nat) : m.dsetBase o = n.dsetBase o :=
  Node.dsetBase_congr (h.word0 o) (Node.ownCar_congr h.self)

theorem SameDecls.others (h : SameDecls d n m) : m.dsets.filter (fun o => o ≠ d) = n.dsets.filter (fun o => o ≠ d) := by
  rw [Node.dsets, Node.dsets, List.filter_filter, List.filter_filter]
  refine List.filter_congr fun o _ => ?_
  by_cases ho : o = d
  · simp [ho]
  · rw [Node.dsetOk_congr (h.word0 o) (h.word1 o) (h.word3 o ho)]

/-- Whether a declaration is refused does not depend on what SIG notes of it. -/
theorem SameDecls.dsetBad (h : SameDecls d n m) : m.dsetBad d = n.dsetBad d := by
  have hpos : ∀ o, m.on (SIG_PUBW0.POS o) = n.on (SIG_PUBW0.POS o) := fun o => Node.on_congr (Node.rd_of_reg (h.word0 o))
  have hbase : ∀ o, m.rd (SIG_PUBW0.BASE o) = n.rd (SIG_PUBW0.BASE o) := fun o => Node.rd_of_reg (h.word0 o)
  have hindex : ∀ o, m.rd (SIG_PUBW1.INDEX o) = n.rd (SIG_PUBW1.INDEX o) := fun o => Node.rd_of_reg (h.word1 o)
  have hcount : ∀ o, m.rd (SIG_PUBW1.COUNT o) = n.rd (SIG_PUBW1.COUNT o) := fun o => Node.rd_of_reg (h.word1 o)
  unfold Node.dsetBad
  simp only [h.others, h.dsetBase, hpos, hbase, hindex, hcount]

end

/-! ### A word of a declaration written (R202, R229) -/

/-- Does the declaration of data set `d` ask for entries? -/
def Node.declAsked (n : Node) (d : Nat) : Bool := n.on (SIG_PUBW0.VALID d) && n.rd (SIG_PUBW1.COUNT d) ≠ 0

/-- The declaration of data set `d` judged (R202). -/
def Node.pubRefused (n : Node) (d : Nat) : Node :=
  let bad := n.declAsked d && n.dsetBad d
  let m := n.wrB (SIG_PUBW3.REFUSED d) bad
  if n.declAsked d then m.wrB SIG_STATUS.DECLERR bad else m

/-- Its current base noted too. -/
def Node.pubJudged (n : Node) (d : Nat) : Node := (n.pubRefused d).wr (SIG_PUBW3.ID d) (((n.pubRefused d).dsetBase d).getD 0)

/-- The LOCAL entries follow: `was` were data set `d`'s. -/
def Node.pubEntries (n : Node) (d : Nat) (was : List Nat) : Node :=
  let n := (was.filter (fun i => (n.localOf i).isNone)).foldl (fun n i =>
    let st := setBits (setBits (n.pimgStat i) 30 1 0) 0 8 0
    n.pimgPut i (n.pimgVal i) (if n.subCovers i then st else setBits st 31 1 0)) n
  if n.dsetOk d then (upTo (n.rd (SIG_PUBW1.COUNT d))).foldl (fun n k =>
    n.pimgPut (n.rd (SIG_PUBW1.INDEX d) + k) (n.pimgVal (n.rd (SIG_PUBW1.INDEX d) + k)) (n.localStat d (n.pimgStat (n.rd (SIG_PUBW1.INDEX d) + k)))) n
  else n

/-- The data sets that stand are counted. -/
def Node.pubCounted (n : Node) : Node :=
  let n := n.wr SIG_STATUS.DSETS (sat 8 n.dsets.length)
  n.wr SIG_STATUS.PUBSIGS (sat 16 (n.dsets.map (fun d => n.rd (SIG_PUBW1.COUNT d))).sum)

/-- The word of SIG_PUBWw as it is stored. -/
def pubWord (w : Nat) (v : Word) : Word := v &&& (if w = 0 then 0x807FFFFF else if w = 1 then 0x7FFFFFFF else 0xFFFF0007)

section
variable (n : Node) (w : Nat) (v : Word) (d : Nat) (was : List Nat)

theorem Node.writePub_outside (h : n.on INA_STATUS.INAUG = false) : n.writePub w v = n := if_pos (by simp [h])

theorem Node.writePub_inside (h : n.on INA_STATUS.INAUG = true) : ∃ was, n.writePub w v
    = (((n.setReg (winAddr (0x4002C024 + 4 * w) (n.rd SIG_PUBSEL.DSET)) (pubWord w v)).pubJudged (n.rd SIG_PUBSEL.DSET)).pubEntries
      (n.rd SIG_PUBSEL.DSET) was).pubCounted := by
  unfold Node.writePub
  rw [if_neg (by simp [h])]
  exact ⟨_, rfl⟩

theorem Node.pubRefused_reg {a : Nat} (h3 : a ≠ winAddr 0x4002C030 d) (hs : a ≠ SIG_STATUS.DECLERR.addr) : (n.pubRefused d).reg a = n.reg a := by
  unfold Node.pubRefused
  dsimp only
  split
  · exact (Node.wr_reg_ne _ _ _ _ hs).trans (Node.wr_reg_ne _ _ _ _ h3)
  · exact Node.wr_reg_ne _ _ _ _ h3

theorem Node.pubRefused_on : (n.pubRefused d).on (SIG_PUBW3.REFUSED d) = (n.declAsked d && n.dsetBad d) := by
  have hsame := n.on_wrB_same (SIG_PUBW3.REFUSED d) (n.declAsked d && n.dsetBad d) (by decide : 27 + 1 ≤ 32) rfl
  unfold Node.pubRefused
  dsimp only
  split
  · exact (Node.on_wrB_ne _ _ _ _ (by decide) (Field.apart_window (by decide))).trans hsame
  · exact hsame

theorem Node.pubJudged_reg {a : Nat} (h3 : a ≠ winAddr 0x4002C030 d) (hs : a ≠ SIG_STATUS.DECLERR.addr) : (n.pubJudged d).reg a = n.reg a :=
  (Node.wr_reg_ne _ _ _ _ h3).trans (n.pubRefused_reg d h3 hs)

theorem Node.pubJudged_refused : (n.pubJudged d).on (SIG_PUBW3.REFUSED d) = (n.declAsked d && n.dsetBad d) := by
  have hid : (SIG_PUBW3.ID d).apart (SIG_PUBW3.REFUSED d) = true := by simp [Field.apart, SIG_PUBW3.ID, SIG_PUBW3.REFUSED]
  exact (Node.on_congr (Node.rd_wr_ne _ _ _ _ (by decide : 0 + 20 ≤ 32) hid)).trans (n.pubRefused_on d)

theorem Node.pubJudged_id : (n.pubJudged d).rd (SIG_PUBW3.ID d) = (n.dsetBase d).getD 0 % 1048576 := by
  have hbase : (n.pubRefused d).dsetBase d = n.dsetBase d := Node.dsetBase_congr
    (n.pubRefused_reg d (winAddr_ne (by decide) (by decide) (by decide)) (winAddr_ne_of_lt (by decide)))
    (Node.ownCar_congr (n.pubRefused_reg d (winAddr_ne_of_lt (by decide)).symm (by decide)))
  rw [Node.pubJudged, Node.rd_wr_same _ _ _ (by decide : 0 + 20 ≤ 32), hbase]
  rfl

theorem Node.foldl_regs {β : Type} {f : Node → β → Node} (h : ∀ n x, (f n x).regs = n.regs) (l : List β) (n : Node) : (l.foldl f n).regs = n.regs :=
  List.foldlRecOn (motive := fun m : Node => m.regs = n.regs) _ _ rfl fun m hm x _ => (h m x).trans hm

theorem Node.pubEntries_regs : (n.pubEntries d was).regs = n.regs := by
  have hcond : ∀ {c : Prop} [Decidable c] {a b : Node}, a.regs = n.regs → b.regs = n.regs → (if c then a else b).regs = n.regs :=
    fun ha hb => by split <;> assumption
  unfold Node.pubEntries
  refine hcond ((Node.foldl_regs ?_ _ _).trans (Node.foldl_regs ?_ _ _)) (Node.foldl_regs ?_ _ _)
  all_goals exact fun _ _ => rfl

theorem Node.pubCounted_reg {a : Nat} (h : a ≠ SIG_STATUS.DSETS.addr) : n.pubCounted.reg a = n.reg a := by
  unfold Node.pubCounted
  dsimp only
  rw [Node.wr_reg_ne _ SIG_STATUS.PUBSIGS _ a h, Node.wr_reg_ne _ SIG_STATUS.DSETS _ a h]

theorem Node.pubCounted_dsets : n.pubCounted.rd SIG_STATUS.DSETS = min 255 n.dsets.length := by
  have hle : min 255 n.dsets.length < 2 ^ 8 := Nat.lt_succ_of_le (Nat.min_le_left _ _)
  unfold Node.pubCounted
  dsimp only
  rw [Node.rd_wr_ne _ _ _ _ (by decide) (by decide), Node.rd_wr_same _ _ _ (by decide), sat_eight]
  exact Nat.mod_eq_of_lt hle

end

section
variable {n : Node} {w : Fin 3} {v : Word}

/-- The node once the word is stored: the declaration the node holds then is what the statement speaks of. -/
def Node.pubStored (n : Node) (w : Fin 3) (v : Word) : Node :=
  n.setReg (winAddr (0x4002C024 + 4 * w.val) (n.rd SIG_PUBSEL.DSET)) (pubWord w v)

theorem Node.writePub_reg (h : n.on INA_STATUS.INAUG = true) {a : Nat} (h3 : a ≠ winAddr 0x4002C030 (n.rd SIG_PUBSEL.DSET))
    (hs : a ≠ SIG_STATUS.DSETS.addr) : (n.writePub w v).reg a = (n.pubStored w v).reg a := by
  obtain ⟨was, heq⟩ := n.writePub_inside w v h
  rw [heq, Node.pubCounted_reg _ hs, Node.reg, Node.pubEntries_regs, ← Node.reg, Node.pubJudged_reg _ _ h3 hs]
  rfl

theorem Node.writePub_sameDecls (h : n.on INA_STATUS.INAUG = true) : SameDecls (n.rd SIG_PUBSEL.DSET) (n.pubStored w v) (n.writePub w v) where
  word0 _ := Node.writePub_reg h (winAddr_ne (by decide) (by decide) (by decide)) (winAddr_ne_of_lt (by decide))
  word1 _ := Node.writePub_reg h (winAddr_ne (by decide) (by decide) (by decide)) (winAddr_ne_of_lt (by decide))
  word3 _ ho := Node.writePub_reg h (winAddr_inj ho) (winAddr_ne_of_lt (by decide))
  self := Node.writePub_reg h (winAddr_ne_of_lt (by decide)).symm (by decide)

theorem Node.declAsked_congr {n m : Node} {d : Nat} (h : SameDecls d n m) : m.declAsked d = n.declAsked d := by
  have hvalid : m.on (SIG_PUBW0.VALID d) = n.on (SIG_PUBW0.VALID d) := Node.on_congr (Node.rd_of_reg (h.word0 d))
  have hcount : m.rd (SIG_PUBW1.COUNT d) = n.rd (SIG_PUBW1.COUNT d) := Node.rd_of_reg (h.word1 d)
  rw [Node.declAsked, hvalid, hcount, Node.declAsked]

/-- The counts aside, the write leaves the entries' registers as the judgement does. -/
theorem Node.writePub_rd (h : n.on INA_STATUS.INAUG = true) {f : Field} (hs : f.addr ≠ SIG_STATUS.DSETS.addr) :
    (n.writePub w v).rd f = ((n.pubStored w v).pubJudged (n.rd SIG_PUBSEL.DSET)).rd f := by
  obtain ⟨was, heq⟩ := n.writePub_inside w v h
  rw [heq, Node.rd_of_reg (Node.pubCounted_reg _ hs), Node.rd_congr (Node.pubEntries_regs _ _ _)]
  rfl

theorem Node.pubCounted_length : n.pubCounted.dsets = n.dsets :=
  List.filter_congr fun o _ => Node.dsetOk_congr (n.pubCounted_reg (winAddr_ne_of_lt (by decide))) (n.pubCounted_reg (winAddr_ne_of_lt (by decide)))
    (n.pubCounted_reg (winAddr_ne_of_lt (by decide)))

end

/-- What a write inside an inauguration leaves of data set `d`: its word as stored, the declaration judged, the counts. -/
structure Declared (w : Fin 3) (v : Word) (d : Nat) (m : Node) : Prop where
  word : m.reg (winAddr (0x4002C024 + 4 * w.val) d) = pubWord w v
  refused : m.on (SIG_PUBW3.REFUSED d) = (m.declAsked d && m.dsetBad d)
  ident : m.rd (SIG_PUBW3.ID d) = (m.dsetBase d).getD 0 % 1048576
  count : m.rd SIG_STATUS.DSETS = min 255 m.dsets.length

/-- Recording and mirroring change nothing of it. -/
theorem Declared.recorded {w : Fin 3} {v : Word} {d : Nat} {m k : Node} (h : Declared w v d m) (g : Recorded m k) : Declared w v d k := by
  have hdecl : SameDecls d m k := ⟨fun _ => g.reg _ (recReg_winAddr _ _), fun _ => g.reg _ (recReg_winAddr _ _),
    fun _ _ => g.reg _ (recReg_winAddr _ _), g.reg _ (by decide)⟩
  have hsets : k.dsets = m.dsets := List.filter_congr fun o _ => Node.dsetOk_congr (g.reg _ (recReg_winAddr _ _)) (g.reg _ (recReg_winAddr _ _))
    (g.reg _ (recReg_winAddr _ _))
  refine ⟨(g.reg _ (recReg_winAddr _ _)).trans h.word, ?_, ?_, ?_⟩
  · rw [Node.declAsked_congr hdecl, hdecl.dsetBad, ← h.refused]
    exact g.on _ (recReg_winAddr _ _)
  · rw [hdecl.dsetBase, ← h.ident]
    exact g.rd _ (recReg_winAddr _ _)
  · rw [hsets, ← h.count]
    exact g.rd _ (by decide)

section
variable {n : Node} {w : Fin 3} {v : Word}

theorem Node.writePub_declared (h : n.on INA_STATUS.INAUG = true) : Declared w v (n.rd SIG_PUBSEL.DSET) (n.writePub w v) := by
  have hdecl := Node.writePub_sameDecls (w := w) (v := v) h
  have hword : winAddr (0x4002C024 + 4 * w.val) (n.rd SIG_PUBSEL.DSET) ≠ winAddr 0x4002C030 (n.rd SIG_PUBSEL.DSET) :=
    winAddr_ne (by omega) (by decide) (by omega)
  have hs : winAddr 0x4002C030 (n.rd SIG_PUBSEL.DSET) ≠ SIG_STATUS.DSETS.addr := winAddr_ne_of_lt (by decide)
  refine ⟨?_, ?_, ?_, ?_⟩
  · exact (Node.writePub_reg h hword (winAddr_ne_of_lt (by decide))).trans (Node.setReg_reg_same _ _ _)
  · rw [Node.declAsked_congr hdecl, hdecl.dsetBad, ← Node.pubJudged_refused]
    exact Node.on_congr (Node.writePub_rd h hs)
  · rw [hdecl.dsetBase, ← Node.pubJudged_id]
    exact Node.writePub_rd h hs
  · obtain ⟨was, heq⟩ := n.writePub_inside w v h
    rw [heq, Node.pubCounted_dsets, Node.pubCounted_length]

end

/-! ### A word of a subscription range written (R212, R221, R720) -/

/-- The word of SIG_SUBWw as it is stored. -/
def subWord (w : Nat) (v : Word) : Word := v &&& (if w = 0 then 0x803FFFFF else if w = 1 then 0xFFFF else 0x1FFFF)

/-- The judgement of a range depends on its three words. -/
theorem Node.judgeSub_congr {n m : Node} {r : Nat} (h0 : m.reg (winAddr 0x4002C044 r) = n.reg (winAddr 0x4002C044 r))
    (h1 : m.reg (winAddr 0x4002C048 r) = n.reg (winAddr 0x4002C048 r)) (h2 : m.reg (winAddr 0x4002C04C r) = n.reg (winAddr 0x4002C04C r))
    (car : Option Nat) : m.judgeSub r car = n.judgeSub r car := by
  have hmode : m.rd (SIG_SUBW0.MODE r) = n.rd (SIG_SUBW0.MODE r) := Node.rd_of_reg h0
  have hfirst : m.rd (SIG_SUBW0.FIRST r) = n.rd (SIG_SUBW0.FIRST r) := Node.rd_of_reg h0
  have hindex : m.rd (SIG_SUBW1.INDEX r) = n.rd (SIG_SUBW1.INDEX r) := Node.rd_of_reg h1
  have hcount : m.rd (SIG_SUBW2.COUNT r) = n.rd (SIG_SUBW2.COUNT r) := Node.rd_of_reg h2
  rw [Node.judgeSub, hmode, hfirst, hindex, hcount, Node.judgeSub]

/-- Does range `r` stand in its words with a judgement against it? -/
def Node.subWrong (n : Node) (r : Nat) : Bool :=
  n.on (SIG_SUBW0.VALID r) && decide (n.rd (SIG_SUBW2.COUNT r) ≠ 0) && (n.judgeSub r n.ownCar?).2

theorem Node.subWrong_congr {n m : Node} {r : Nat} (h0 : m.reg (winAddr 0x4002C044 r) = n.reg (winAddr 0x4002C044 r))
    (h1 : m.reg (winAddr 0x4002C048 r) = n.reg (winAddr 0x4002C048 r)) (h2 : m.reg (winAddr 0x4002C04C r) = n.reg (winAddr 0x4002C04C r))
    (hs : m.reg INA_SELF.VALUE.addr = n.reg INA_SELF.VALUE.addr) : m.subWrong r = n.subWrong r := by
  have hvalid : m.on (SIG_SUBW0.VALID r) = n.on (SIG_SUBW0.VALID r) := Node.on_congr (Node.rd_of_reg h0)
  have hcount : m.rd (SIG_SUBW2.COUNT r) = n.rd (SIG_SUBW2.COUNT r) := Node.rd_of_reg h2
  have hcar : m.ownCar? = n.ownCar? := by rw [Node.ownCar?, Node.ownCar_congr hs, Node.ownCar?]
  rw [Node.subWrong, hvalid, hcount, hcar, Node.judgeSub_congr h0 h1 h2, Node.subWrong]

/-- What the write leaves of range `r`: its word as stored and the range judged; the ranges in service stay as they are in `n`. -/
structure Ranged (w : Fin 3) (v : Word) (r : Nat) (n m : Node) : Prop where
  word : m.reg (winAddr (0x4002C044 + 4 * w.val) r) = subWord w v
  wrong : m.on (SIG_SUBW3.RANGEERR r) = m.subWrong r
  orphan : m.on (SIG_SUBW3.ORPHAN r) = false
  svc : m.sig.svc = n.sig.svc

theorem Ranged.recorded {w : Fin 3} {v : Word} {r : Nat} {n m k : Node} (h : Ranged w v r n m) (g : Recorded m k) : Ranged w v r n k where
  word := (g.reg _ (recReg_winAddr _ _)).trans h.word
  wrong := by
    rw [Node.subWrong_congr (g.reg _ (recReg_winAddr _ _)) (g.reg _ (recReg_winAddr _ _)) (g.reg _ (recReg_winAddr _ _)) (g.reg _ (by decide)),
      ← h.wrong]
    exact g.on _ (recReg_winAddr _ _)
  orphan := (g.on _ (recReg_winAddr _ _)).trans h.orphan
  svc := (congrArg SigState.svc g.sig).trans h.svc

section
variable {n : Node} {w : Fin 3} {v : Word}

/-- A range judged: `n` holds its words. -/
def Node.subJudged (n : Node) (r : Nat) : Node :=
  (((n.bindSub r).wr (SIG_SUBW3.CURFIRST r) ((n.judgeSub r n.ownCar?).1.getD 0)).wrB (SIG_SUBW3.RANGEERR r) (n.subWrong r)).wr (SIG_SUBW3.ORPHAN r) 0

theorem Node.subJudged_reg {r a : Nat} (h : a ≠ winAddr 0x4002C050 r) : (n.subJudged r).reg a = n.reg a :=
  (Node.wr_reg_ne _ (SIG_SUBW3.ORPHAN r) _ a h).trans ((Node.wr_reg_ne _ (SIG_SUBW3.RANGEERR r) _ a h).trans
    (Node.wr_reg_ne _ (SIG_SUBW3.CURFIRST r) _ a h))

theorem Node.subJudged_rangeerr (r : Nat) : (n.subJudged r).on (SIG_SUBW3.RANGEERR r) = n.subWrong r := by
  have hne : (SIG_SUBW3.ORPHAN r).apart (SIG_SUBW3.RANGEERR r) = true := by simp [Field.apart, SIG_SUBW3.ORPHAN, SIG_SUBW3.RANGEERR]
  exact (Node.on_congr (Node.rd_wr_ne _ _ _ _ (by decide : 24 + 1 ≤ 32) hne)).trans (Node.on_wrB_same _ _ _ (by decide : 26 + 1 ≤ 32) rfl)

theorem Node.subJudged_orphan (r : Nat) : (n.subJudged r).on (SIG_SUBW3.ORPHAN r) = false := by
  rw [Node.on, Node.subJudged, Node.rd_wr_same _ _ _ (by decide : 24 + 1 ≤ 32)]
  rfl

theorem Node.writeSub_eq : n.writeSub w v
    = (n.setReg (winAddr (0x4002C044 + 4 * w.val) (n.rd SIG_SUBSEL.RANGE)) (subWord w v)).subJudged (n.rd SIG_SUBSEL.RANGE) := rfl

theorem Node.writeSub_ranged : Ranged w v (n.rd SIG_SUBSEL.RANGE) n (n.writeSub w v) := by
  rw [Node.writeSub_eq]
  refine ⟨?_, ?_, Node.subJudged_orphan _, rfl⟩
  · exact (Node.subJudged_reg (winAddr_ne (by omega) (by decide) (by omega))).trans (Node.setReg_reg_same _ _ _)
  · rw [Node.subJudged_rangeerr]
    refine (Node.subWrong_congr ?_ ?_ ?_ ?_).symm
    · exact Node.subJudged_reg (winAddr_ne (by decide) (by decide) (by decide))
    · exact Node.subJudged_reg (winAddr_ne (by decide) (by decide) (by decide))
    · exact Node.subJudged_reg (winAddr_ne (by decide) (by decide) (by decide))
    · exact Node.subJudged_reg (winAddr_ne_of_lt (by decide)).symm

end
end Sys2Proof.Machine
end

section
/-! PROOFS. DMEM pages and views (05_signals.md R218, R231; 08_cycle_engines.md R349, R362). -/

namespace Sys2Proof.Machine

/-! ### DMEM pages (R349, R362) -/

/-- The 4 bits that tell who holds DMEM page `p`. -/
def pageField (p : Nat) : Field := ⟨0x40030840 + p / 8 * 4, p % 8 * 4, 4⟩

theorem pageField_fits (p : Nat) : (pageField p).lo + (pageField p).width ≤ 32 := by
  change p % 8 * 4 + 4 ≤ 32
  omega

theorem pageField_apart {p q : Nat} (h : q ≠ p) : (pageField p).apart (pageField q) = true := by
  by_cases h8 : p / 8 = q / 8
  · have hlo : p % 8 * 4 + 4 ≤ q % 8 * 4 ∨ q % 8 * 4 + 4 ≤ p % 8 * 4 := by omega
    simpa [Field.apart, pageField, h8] using hlo.symm
  · exact Field.apart_of_addr_ne (show 0x40030840 + p / 8 * 4 ≠ 0x40030840 + q / 8 * 4 by omega)

theorem pageField_apart_use (p e : Nat) (hp : p < 256) : (ENG_QDMEM.USE e).apart (pageField p) = true := by
  refine Field.apart_of_addr_ne ?_
  change 0x40030030 + 0x1000 * e ≠ 0x40030840 + p / 8 * 4
  omega

section
variable {n m : Node} {e p q : Nat}

/-- Who holds a page, by the value of its field. -/
theorem Node.pageOwner_eq (n : Node) (p : Nat) : n.pageOwner p = if n.rd (pageField p) < 8 then none else some (n.rd (pageField p) % 8) := rfl

theorem Node.pageOwner_congr (h : m.rd (pageField p) = n.rd (pageField p)) : m.pageOwner p = n.pageOwner p := by
  rw [Node.pageOwner_eq, h, Node.pageOwner_eq]

/-- A free page taken: its field, and one more page in use. -/
theorem Node.setPage_free (h : n.pageOwner p = none) (e : Nat) : n.setPage p (some e)
    = (n.wr (pageField p) (8 + e)).wr (ENG_QDMEM.USE e) ((n.wr (pageField p) (8 + e)).rd (ENG_QDMEM.USE e) + 1) := by
  unfold Node.setPage
  rw [h]
  rfl

theorem Node.setPage_owner_same (h : n.pageOwner p = none) (he : e < 8) (hp : p < 256) : (n.setPage p (some e)).pageOwner p = some e := by
  have hrd : (n.setPage p (some e)).rd (pageField p) = 8 + e := by
    rw [Node.setPage_free h, Node.rd_wr_ne _ _ _ _ (by decide : 16 + 9 ≤ 32) (pageField_apart_use p e hp), Node.rd_wr_same _ _ _ (pageField_fits p)]
    exact Nat.mod_eq_of_lt (show 8 + e < 16 by omega)
  rw [Node.pageOwner_eq, hrd, if_neg (by omega)]
  exact congrArg some (by omega)

theorem Node.setPage_owner_ne (h : n.pageOwner p = none) (hq : q < 256) (hne : q ≠ p) : (n.setPage p (some e)).pageOwner q = n.pageOwner q := by
  refine Node.pageOwner_congr ?_
  rw [Node.setPage_free h, Node.rd_wr_ne _ _ _ _ (by decide : 16 + 9 ≤ 32) (pageField_apart_use q e hq),
    Node.rd_wr_ne _ _ _ _ (pageField_fits p) (pageField_apart hne)]

theorem Node.setPage_reg (h : n.pageOwner p = none) {a : Nat} (ha : a < 0x40030000) : (n.setPage p (some e)).reg a = n.reg a := by
  have huse : a ≠ (ENG_QDMEM.USE e).addr := ne_of_lt (lt_of_lt_of_le ha (show 0x40030000 ≤ 0x40030030 + 0x1000 * e by omega))
  have hfield : a ≠ (pageField p).addr := ne_of_lt (lt_of_lt_of_le ha (show 0x40030000 ≤ 0x40030840 + p / 8 * 4 by omega))
  rw [Node.setPage_free h, Node.wr_reg_ne _ _ _ _ huse, Node.wr_reg_ne _ _ _ _ hfield]

/-- A page taken for engine `e` unless it is held. -/
def Node.takePage (e : Nat) (n : Node) (p : Nat) : Node := if (n.pageOwner p).isNone then n.setPage p (some e) else n

theorem Node.takePage_reg {a : Nat} (ha : a < 0x40030000) : (n.takePage e p).reg a = n.reg a := by
  unfold Node.takePage
  split
  · next h => exact Node.setPage_reg (Option.isNone_iff_eq_none.mp h) ha
  · rfl

/-- A page that is free or `e`'s own is `e`'s after it. -/
theorem Node.takePage_same (he : e < 8) (hp : p < 256) (h : n.pageOwner p = none ∨ n.pageOwner p = some e) : (n.takePage e p).pageOwner p = some e := by
  unfold Node.takePage
  rcases h with h | h
  · rw [if_pos (by rw [h]; rfl), Node.setPage_owner_same h he hp]
  · rw [if_neg (by simp [h]), h]

theorem Node.takePage_ne (hq : q < 256) (hne : q ≠ p) : (n.takePage e p).pageOwner q = n.pageOwner q := by
  unfold Node.takePage
  split
  · next h => exact Node.setPage_owner_ne (Option.isNone_iff_eq_none.mp h) hq hne
  · rfl

theorem Node.takePages_reg (l : List Nat) {a : Nat} (ha : a < 0x40030000) (n : Node) : (l.foldl (Node.takePage e) n).reg a = n.reg a :=
  List.foldlRecOn (motive := fun m : Node => m.reg a = n.reg a) _ _ rfl fun _ hm _ _ => (Node.takePage_reg ha).trans hm

/-- Pages that are free or `e`'s own are all `e`'s once they have been taken one after another. -/
theorem Node.takePages_owner (he : e < 8) (l : List Nat) (hl : ∀ p ∈ l, p < 256) (n : Node)
    (h : ∀ p ∈ l, n.pageOwner p = none ∨ n.pageOwner p = some e) : ∀ q, q < 256 → q ∈ l ∨ n.pageOwner q = some e →
      (l.foldl (Node.takePage e) n).pageOwner q = some e := by
  induction l generalizing n with
  | nil =>
    intro q _ hq
    simpa using hq
  | cons p l ih =>
    have hsame := Node.takePage_same he (hl p (by simp)) (h p (by simp))
    have hstep : ∀ q, q < 256 → q = p ∨ n.pageOwner q = some e → (n.takePage e p).pageOwner q = some e := by
      intro q hq hown
      by_cases hqp : q = p
      · rw [hqp, hsame]
      · rw [Node.takePage_ne hq hqp, hown.resolve_left hqp]
    have hfree : ∀ q ∈ l, (n.takePage e p).pageOwner q = none ∨ (n.takePage e p).pageOwner q = some e := by
      intro q hq
      by_cases hqp : q = p
      · exact Or.inr (by rw [hqp, hsame])
      · rw [Node.takePage_ne (hl q (by simp [hq])) hqp]
        exact h q (by simp [hq])
    intro q hq hown
    refine ih (fun x hx => hl x (by simp [hx])) _ hfree q hq ?_
    rcases hown with hmem | hown
    · exact (List.mem_cons.mp hmem).elim (fun hqp => Or.inr (hstep q hq (Or.inl hqp))) Or.inl
    · exact Or.inr (hstep q hq (Or.inr hown))

end

/-! ### A word of a view written (R218, R349) -/

/-- The word of SIG_VIEWn as it is stored. -/
def viewWord (w : Nat) (v : Word) : Word := v &&& (if w = 0 then 0xFFFF else 0x1FFFF)

section
variable {n m k : Node} {e : Nat} {v : Word}

theorem Node.viewPages_lt {p : Nat} (h : p ∈ n.viewPages e) : p < 256 := by
  unfold Node.viewPages at h
  dsimp only at h
  split at h
  · simp at h
  · exact List.mem_range.mp (List.mem_filter.mp h).1

/-- Does another engine than `e` hold page `q`? -/
def Node.heldElsewhere (n : Node) (e q : Nat) : Bool :=
  match n.pageOwner q with
  | some o => decide (o ≠ e)
  | none => false

theorem Node.heldElsewhere_eq (n : Node) (e q : Nat) : n.heldElsewhere e q = decide (n.pageOwner q ≠ none ∧ n.pageOwner q ≠ some e) := by
  unfold Node.heldElsewhere
  cases n.pageOwner q <;> simp

/-- Do the words of `m`'s view of engine `e` name what is not there, or a page that another engine holds in `n`? -/
def Node.viewWrong (n m : Node) (e : Nat) : Bool :=
  decide (m.rd (SIG_VIEWB.COUNT e) ≠ 0)
    && (decide (131072 < m.rd (SIG_VIEWC.DEST e) + m.rd (SIG_VIEWB.COUNT e)) || decide (65536 < m.rd (SIG_VIEWA.FIRST e) + m.rd (SIG_VIEWB.COUNT e))
      || (m.viewPages e).any (n.heldElsewhere e))

/-- `m` has the view of engine `e` that `n` has. -/
structure SameView (e : Nat) (n m : Node) : Prop where
  wordA : m.reg (0x4002C080 + 16 * e) = n.reg (0x4002C080 + 16 * e)
  wordB : m.reg (0x4002C084 + 16 * e) = n.reg (0x4002C084 + 16 * e)
  wordC : m.reg (0x4002C088 + 16 * e) = n.reg (0x4002C088 + 16 * e)

theorem SameView.viewPages (h : SameView e n m) : m.viewPages e = n.viewPages e := by
  have hcount : m.rd (SIG_VIEWB.COUNT e) = n.rd (SIG_VIEWB.COUNT e) := Node.rd_of_reg h.wordB
  have hdest : m.rd (SIG_VIEWC.DEST e) = n.rd (SIG_VIEWC.DEST e) := Node.rd_of_reg h.wordC
  rw [Node.viewPages, hcount, hdest, Node.viewPages]

theorem SameView.viewWrong (h : SameView e m k) : n.viewWrong k e = n.viewWrong m e := by
  have hfirst : k.rd (SIG_VIEWA.FIRST e) = m.rd (SIG_VIEWA.FIRST e) := Node.rd_of_reg h.wordA
  have hcount : k.rd (SIG_VIEWB.COUNT e) = m.rd (SIG_VIEWB.COUNT e) := Node.rd_of_reg h.wordB
  have hdest : k.rd (SIG_VIEWC.DEST e) = m.rd (SIG_VIEWC.DEST e) := Node.rd_of_reg h.wordC
  rw [Node.viewWrong, hfirst, hcount, hdest, h.viewPages, Node.viewWrong]

/-- The view's words are judged against the pages as they are held. -/
def Node.viewJudged (n : Node) (e : Nat) : Node := (n.wrB (SIG_VIEWD.VIEWERR e) (n.viewWrong n e)).raiseIf (n.viewWrong n e) SIG_EVT.VIEWERR

/-- A good view's free pages go to its engine. -/
def Node.viewTaken (n : Node) (e : Nat) : Node := if n.viewWrong n e then n.viewJudged e
  else ((n.viewJudged e).viewPages e).foldl (Node.takePage e) (n.viewJudged e)

theorem Node.writeView_eq (e : Fin 8) (w : Nat) : n.writeView e w v = (n.setReg (0x4002C080 + 16 * e.val + 4 * w) (viewWord w v)).viewTaken e := rfl

/-- Neither SIG nor ENG holds a register of the recorder, the store or the mirror. -/
theorem recReg_of_range {a : Nat} (hlo : 0x4002C000 ≤ a) (hhi : a < 0x40070000) : recReg a = false := by
  have hne : ∀ b, b < 0x4002C000 → a ≠ b := fun b hb => by omega
  have hfree : a ≠ MSG_STORE.FREE.addr := hne _ (by decide)
  have hdelta : a ≠ MSG_DELTA.VALUE.addr := hne _ (by decide)
  have hlag : a ≠ PAIR_MIRLAG.VALUE.addr := hne _ (by decide)
  have hbytes : a ≠ PAIR_CNT_MIRBYTES.VALUE.addr := hne _ (by decide)
  simp [recReg, hfree, hdelta, hlag, hbytes, Nat.not_le.mpr hhi]

/-- The judgement changes VIEWERR, and what an event changes. -/
theorem Node.viewJudged_reg {e : Fin 8} {a : Nat} (hlo : 0x4002C000 ≤ a) (hhi : a < 0x40070000) (hd : a ≠ 0x4002C08C + 16 * e.val)
    (hev : a ≠ SIG_EVT.VIEWERR.addr) : (n.viewJudged e).reg a = n.reg a := by
  have hw : (n.wrB (SIG_VIEWD.VIEWERR e) (n.viewWrong n e)).reg a = n.reg a := Node.wr_reg_ne _ _ _ _ hd
  exact (Node.raiseIf_reg _ hev (recReg_of_range hlo hhi)).trans hw

theorem Node.viewJudged_on {e : Fin 8} : (n.viewJudged e).on (SIG_VIEWD.VIEWERR e) = n.viewWrong n e := by
  have hrec : recReg (SIG_VIEWD.VIEWERR e).addr = false := recReg_of_range (show _ ≤ 0x4002C08C + 16 * e.val by omega) (show 0x4002C08C + 16 * e.val < _ by omega)
  have hd : SIG_EVT.VIEWERR.apart (SIG_VIEWD.VIEWERR e) = true := Field.apart_of_addr_ne (show 0x4002C140 ≠ 0x4002C08C + 16 * e.val by omega)
  have hsame := n.on_wrB_same (SIG_VIEWD.VIEWERR e) (n.viewWrong n e) (by decide : 16 + 1 ≤ 32) rfl
  unfold Node.viewJudged Node.raiseIf
  split
  · rw [Node.on_raise_ne _ _ _ (by decide) hrec hd, hsame]
  · exact hsame

theorem Node.viewJudged_pageOwner {e : Fin 8} {q : Nat} (hq : q < 256) : (n.viewJudged e).pageOwner q = n.pageOwner q := by
  have ha : (n.viewJudged e).reg (pageField q).addr = n.reg (pageField q).addr := Node.viewJudged_reg
    (show _ ≤ 0x40030840 + q / 8 * 4 by omega) (show 0x40030840 + q / 8 * 4 < _ by omega) (show 0x40030840 + q / 8 * 4 ≠ _ by omega)
    (show 0x40030840 + q / 8 * 4 ≠ 0x4002C140 by omega)
  exact Node.pageOwner_congr (Node.rd_of_reg ha)

/-- What the judgement leaves of the view's words and of VIEWERR, the allocation leaves too. -/
theorem Node.viewTaken_reg {e : Fin 8} {a : Nat} (ha : a < 0x40030000) : (n.viewTaken e).reg a = (n.viewJudged e).reg a := by
  unfold Node.viewTaken
  split
  · rfl
  · exact Node.takePages_reg _ ha _

theorem Node.viewJudged_sameView {e : Fin 8} : SameView e n (n.viewJudged e) := by
  have hkeep : ∀ a, 0x4002C080 ≤ a → a < 0x4002C100 → a ≠ 0x4002C08C + 16 * e.val → (n.viewJudged e).reg a = n.reg a := fun a hlo hhi hd =>
    Node.viewJudged_reg (by omega) (by omega) hd (show a ≠ 0x4002C140 by omega)
  exact ⟨hkeep _ (by omega) (by omega) (by omega), hkeep _ (by omega) (by omega) (by omega), hkeep _ (by omega) (by omega) (by omega)⟩

theorem Node.viewTaken_sameView {e : Fin 8} : SameView e n (n.viewTaken e) := by
  have hjudged := Node.viewJudged_sameView (n := n) (e := e)
  exact ⟨(Node.viewTaken_reg (by omega)).trans hjudged.wordA, (Node.viewTaken_reg (by omega)).trans hjudged.wordB,
    (Node.viewTaken_reg (by omega)).trans hjudged.wordC⟩

/-- The pages of a good view are free or the engine's own. -/
theorem Node.viewPages_own {m : Node} {q : Nat} (h : n.viewWrong m e = false) (hq : q ∈ m.viewPages e) :
    n.pageOwner q = none ∨ n.pageOwner q = some e := by
  have hcount : m.rd (SIG_VIEWB.COUNT e) ≠ 0 := fun h0 => by simp [Node.viewPages, h0] at hq
  have hheld : n.heldElsewhere e q = false := by
    rw [Node.viewWrong, decide_eq_true hcount, Bool.true_and, Bool.or_eq_false_iff, List.any_eq_false] at h
    simpa using h.2 q hq
  rw [Node.heldElsewhere_eq, decide_eq_false_iff_not, not_and_or, not_not, not_not] at hheld
  exact hheld

/-- A page of a good view is the engine's. -/
theorem Node.viewTaken_pages {e : Fin 8} (h : n.viewWrong n e = false) {q : Nat} (hq : q ∈ n.viewPages e) : (n.viewTaken e).pageOwner q = some e.val := by
  have hpages : (n.viewJudged e).viewPages e = n.viewPages e := Node.viewJudged_sameView.viewPages
  unfold Node.viewTaken
  rw [if_neg (by simp [h]), hpages]
  refine Node.takePages_owner e.isLt _ (fun p hp => Node.viewPages_lt hp) _ (fun p hp => ?_) q (Node.viewPages_lt hq) (Or.inl hq)
  rw [Node.viewJudged_pageOwner (Node.viewPages_lt hp)]
  exact Node.viewPages_own h hp

/-- What the write of word `w` leaves of the view of engine `e`: the word as stored, the view judged against the pages of `n`, a good view's pages
its engine's. -/
structure Viewed (e : Fin 8) (w : Fin 3) (v : Word) (n m : Node) : Prop where
  word : m.reg (0x4002C080 + 16 * e.val + 4 * w.val) = viewWord w v
  err : m.on (SIG_VIEWD.VIEWERR e) = n.viewWrong m e
  pages : m.on (SIG_VIEWD.VIEWERR e) = false → ∀ q, q ∈ m.viewPages e → m.pageOwner q = some e.val

theorem Node.writeView_viewed {e : Fin 8} {w : Fin 3} : Viewed e w v n (n.writeView e w v) := by
  rw [Node.writeView_eq]
  generalize hk : n.setReg (0x4002C080 + 16 * e.val + 4 * w.val) (viewWord w v) = k
  have hown : ∀ q, k.pageOwner q = n.pageOwner q := fun q => hk ▸ Node.pageOwner_congr (Node.rd_setReg_ne _ _
    (show 0x40030840 + q / 8 * 4 ≠ _ by omega))
  have hheld : k.heldElsewhere e = n.heldElsewhere e := funext fun q => by rw [Node.heldElsewhere_eq, hown, Node.heldElsewhere_eq]
  have hwrong : k.viewWrong k e = n.viewWrong k e := by rw [Node.viewWrong, Node.viewWrong, hheld]
  have hsame := Node.viewTaken_sameView (n := k) (e := e)
  have herr : (k.viewTaken e).on (SIG_VIEWD.VIEWERR e) = k.viewWrong k e :=
    (Node.on_congr (Node.rd_of_reg (Node.viewTaken_reg (show 0x4002C08C + 16 * e.val < _ by omega)))).trans Node.viewJudged_on
  refine ⟨?_, ?_, fun h q hq => ?_⟩
  · have hword : (k.viewTaken e).reg (0x4002C080 + 16 * e.val + 4 * w.val) = k.reg (0x4002C080 + 16 * e.val + 4 * w.val) :=
      (Node.viewTaken_reg (by omega)).trans (Node.viewJudged_reg (by omega) (by omega) (by omega) (show _ ≠ 0x4002C140 by omega))
    rw [hword, ← hk, Node.setReg_reg_same]
  · rw [herr, hwrong, hsame.viewWrong]
  · rw [hsame.viewPages] at hq
    exact Node.viewTaken_pages (herr.symm.trans h) hq

theorem Viewed.recorded {e : Fin 8} {w : Fin 3} (h : Viewed e w v n m) (g : Recorded m k) : Viewed e w v n k := by
  have hkeep : ∀ a, 0x4002C000 ≤ a → a < 0x40070000 → k.reg a = m.reg a := fun a hlo hhi => g.reg a (recReg_of_range hlo hhi)
  have hsame : SameView e m k := ⟨hkeep _ (by omega) (by omega), hkeep _ (by omega) (by omega), hkeep _ (by omega) (by omega)⟩
  have herr : k.on (SIG_VIEWD.VIEWERR e) = m.on (SIG_VIEWD.VIEWERR e) := Node.on_congr (Node.rd_of_reg
    (hkeep _ (show _ ≤ 0x4002C08C + 16 * e.val by omega) (show 0x4002C08C + 16 * e.val < _ by omega)))
  refine ⟨(hkeep _ (by omega) (by omega)).trans h.word, ?_, fun h0 q hq => ?_⟩
  · rw [herr, h.err, hsame.viewWrong]
  · rw [hsame.viewPages] at hq
    have hq8 := Node.viewPages_lt hq
    rw [Node.pageOwner_congr (Node.rd_of_reg (hkeep (pageField q).addr (show _ ≤ 0x40030840 + q / 8 * 4 by omega)
      (show 0x40030840 + q / 8 * 4 < _ by omega)))]
    exact h.pages (herr.symm.trans h0) q hq

end
end Sys2Proof.Machine
end

section
/-! PROOFS. The slot-assembly pass and a data set unit taken (05_signals.md R205, R209, R211 to R213). -/

namespace Sys2Proof.Machine

/-! ### The slot-assembly pass (R209) -/

section
variable {n : Node}

/-- What a pass for entry `i` may hold as a run: a data set of the entry's label, and the values of PIMG. -/
def Node.ReadRun (n : Node) (i : Nat) (q : PassRun) : Prop :=
  n.rd (SIG_PUBW2.LABEL q.dset) = (n.sch i).label ∧ q.vals = (upTo q.vals.length).map (fun k =>
    (n.pimgVal (n.rd (SIG_PUBW1.INDEX q.dset) + q.offset + k), bit (n.pimgStat (n.rd (SIG_PUBW1.INDEX q.dset) + q.offset + k)) 29))

theorem Node.assemble_read (hu : n.uce = []) (i : Nat) : ∃ runs, n.assemble i = { n with sig := { n.sig with pass := some (i, n.cycle, runs) } }
    ∧ ∀ q, q ∈ runs → n.ReadRun i q := by
  unfold Node.assemble
  dsimp only
  rw [if_pos hu]
  refine ⟨_, rfl, fun q hq => ?_⟩
  split at hq
  · simp at hq
  · obtain ⟨d, hd, hq⟩ := List.mem_flatMap.mp hq
    obtain ⟨r, -, rfl⟩ := List.mem_map.mp hq
    exact ⟨of_decide_eq_true (List.mem_filter.mp hd).2, by simp [upTo]⟩

end

/-! ### A data set unit taken (R211 to R213) -/

/-- The identifier of value `j` of a unit. -/
def unitId (b : List Byte) (j : Nat) : Nat := (le b 4 3 % 0x100000 + j) % 0x100000

/-- How many values a unit carries. -/
def unitCount (b : List Byte) : Nat := min (le b 2 2) 1984

/-- The values of a unit that are there and subscribed. -/
def Node.unitWanted (n : Node) (b : List Byte) : List Nat :=
  (upTo (unitCount b)).filter (fun j => 8 + 4 * j + 4 ≤ b.length && n.subsBit (unitId b j))

/-- Is node `num` of the pair that publishes identifier `i`? -/
def Node.publishedBy (n : Node) (num i : Nat) : Bool :=
  match n.publisher i with
  | some p => n.samePair (n.uidOf num) p
  | none => false

/-- Those that their publisher sent. -/
def Node.unitMine (n : Node) (num : Nat) (b : List Byte) : List Nat := (n.unitWanted b).filter (fun j => n.publishedBy num (unitId b j))

/-- Those that a range in service maps, with their PIMG indices. -/
def Node.unitMapped (n : Node) (num : Nat) (b : List Byte) : List (Nat × Nat) :=
  (n.unitMine num b).filterMap (fun j => (svcMap n.sig.svc (unitId b j)).map (fun ix => (j, ix)))

/-- Value `j` of a unit from node `num`, for PIMG entry `ix`. -/
def unitVal (b : List Byte) (num j ix : Nat) : SigVal :=
  ⟨ix, le b (8 + 4 * j) 4, num, le b 1 1 % 4, bit (le b (8 + 4 * unitCount b + 4 * (j / 32)) 4) (j % 32)⟩

/-- What a unit adds to the generation. -/
def Node.unitVals (n : Node) (num : Nat) (b : List Byte) : List SigVal :=
  ((n.unitMapped num b).filter (fun p => (n.localOf p.2).isNone)).map (fun p => unitVal b num p.1 p.2)

/-- The generation with values `l` in place of its own of the same entries. -/
def SigState.withVals (x : SigState) (l : List SigVal) : SigState :=
  { x with gen := x.gen.filter (fun (v : SigVal) => !l.any (fun u => u.index = v.index)) ++ l }

/-- What is counted of a unit. -/
def Node.unitCounted (n : Node) (foreign : Bool) (lost : Nat) (none_ : Bool) : Node :=
  let m := (((if foreign then n.count SIG_CNT_FOREIGNPUB.VALUE else n).countBy SIG_CNT_NOMAP.VALUE lost).raiseIf (decide (0 < lost)) SIG_EVT.NOMAP)
  if none_ then m else m.count SIG_CNT_UNITS.VALUE

section
variable {n m k : Node} {b : List Byte} {num ix : Nat}

theorem Node.sigTake_off (h : n.on SIG_CTRL.EN = false) (sender : Option Nat) : n.sigTake sender b = n := if_pos (by simp [h])

theorem Node.sigTake_unknown (h : n.on SIG_CTRL.EN = true) : n.sigTake none b = n.count SIG_CNT_FOREIGNPUB.VALUE := by
  unfold Node.sigTake
  rw [if_neg (by simp [h])]

theorem Node.sigTake_some (h : n.on SIG_CTRL.EN = true) : n.sigTake (some num) b
    = Node.unitCounted { n with sig := n.sig.withVals (n.unitVals num b) } ((n.unitWanted b).any (fun j => !n.publishedBy num (unitId b j)))
      ((n.unitMine num b).length - (n.unitMapped num b).length) (decide (n.unitMine num b = [])) := by
  unfold Node.sigTake
  rw [if_neg (by simp [h])]
  simp only [Node.unitCounted, decide_eq_true_eq]
  rfl

/-- The events and counts of a unit leave the generation. -/
theorem Node.unitCounted_sig (f : Bool) (lost : Nat) (e : Bool) : (n.unitCounted f lost e).sig = n.sig := by
  have hforeign : (if f then n.count SIG_CNT_FOREIGNPUB.VALUE else n).sig = n.sig := by split <;> rfl
  unfold Node.unitCounted
  dsimp only
  split
  · exact (Node.raiseIf_sig _ _ _).trans hforeign
  · exact (Node.raiseIf_sig _ _ _).trans hforeign

/-- UNITS counts a unit of which a value was the node's. -/
theorem Node.unitCounted_units (f : Bool) (lost : Nat) (e : Bool) : (n.unitCounted f lost e).rd SIG_CNT_UNITS.VALUE
    = if e then n.rd SIG_CNT_UNITS.VALUE else min (n.rd SIG_CNT_UNITS.VALUE + 1) 4294967295 := by
  have hforeign : (if f then n.count SIG_CNT_FOREIGNPUB.VALUE else n).rd SIG_CNT_UNITS.VALUE = n.rd SIG_CNT_UNITS.VALUE := by
    split
    · exact Node.rd_count_ne _ _ _ (by decide) (by decide)
    · rfl
  have hmid : (((if f then n.count SIG_CNT_FOREIGNPUB.VALUE else n).countBy SIG_CNT_NOMAP.VALUE lost).raiseIf (decide (0 < lost)) SIG_EVT.NOMAP).rd
      SIG_CNT_UNITS.VALUE = n.rd SIG_CNT_UNITS.VALUE := by
    rw [Node.rd_raiseIf _ _ _ _ (by decide) (by decide) (by decide), Node.countBy, Node.rd_wr_ne _ _ _ _ (by decide) (by decide), hforeign]
  unfold Node.unitCounted
  dsimp only
  split
  · exact hmid
  · rw [Node.rd_count_same _ _ (by decide), hmid]
    rfl

/-- A unit of one value: its identifier is the unit's first. -/
theorem unitId_zero : unitId b 0 = le b 4 3 % 0x100000 := Nat.mod_mod _ _

theorem Node.unitWanted_one (hk : le b 2 2 = 1) (hl : 12 ≤ b.length) :
    n.unitWanted b = if n.subsBit (le b 4 3 % 0x100000) then [0] else [] := by
  have hup : upTo (min 1 1984) = [0] := rfl
  rw [Node.unitWanted, unitCount, hk, hup, List.filter_singleton, unitId_zero, decide_eq_true (by omega : 8 + 4 * 0 + 4 ≤ b.length), Bool.true_and,
    Bool.cond_eq_ite]

/-- A value whose identifier is not subscribed leaves the generation and UNITS. -/
theorem Node.sigTake_unsubscribed (h : n.on SIG_CTRL.EN = true) (hk : le b 2 2 = 1) (hl : 12 ≤ b.length)
    (hs : n.subsBit (le b 4 3 % 0x100000) = false) : (n.sigTake (some num) b).sig.gen = n.sig.gen
      ∧ (n.sigTake (some num) b).rd SIG_CNT_UNITS.VALUE = n.rd SIG_CNT_UNITS.VALUE := by
  have hwant : n.unitWanted b = [] := by rw [Node.unitWanted_one hk hl, if_neg (by simp [hs])]
  have hmine : n.unitMine num b = [] := by rw [Node.unitMine, hwant, List.filter_nil]
  have hvals : n.unitVals num b = [] := by rw [Node.unitVals, Node.unitMapped, hmine]; rfl
  rw [Node.sigTake_some h, hmine, hvals]
  refine ⟨?_, Node.unitCounted_units _ _ _⟩
  rw [Node.unitCounted_sig]
  simp [SigState.withVals]

/-- A subscribed value of its publisher's waits in the generation in place of the entry's other one. -/
theorem Node.sigTake_subscribed (h : n.on SIG_CTRL.EN = true) (hk : le b 2 2 = 1) (hl : 12 ≤ b.length)
    (hs : n.subsBit (le b 4 3 % 0x100000) = true) (hp : n.publishedBy num (le b 4 3 % 0x100000) = true)
    (hm : svcMap n.sig.svc (le b 4 3 % 0x100000) = some ix) (hloc : n.localOf ix = none) :
    (n.sigTake (some num) b).sig.gen = n.sig.gen.filter (fun q => q.index ≠ ix) ++ [⟨ix, le b 8 4, num, le b 1 1 % 4, bit (le b 12 4) 0⟩]
      ∧ Counted SIG_CNT_UNITS.VALUE n (n.sigTake (some num) b) := by
  have hwant : n.unitWanted b = [0] := by rw [Node.unitWanted_one hk hl, if_pos hs]
  have hmine : n.unitMine num b = [0] := by rw [Node.unitMine, hwant, List.filter_singleton, unitId_zero, hp]; rfl
  have hmapped : n.unitMapped num b = [(0, ix)] := by
    rw [Node.unitMapped, hmine]
    simp only [List.filterMap_cons, List.filterMap_nil, unitId_zero, hm, Option.map_some]
  have hval : unitVal b num 0 ix = ⟨ix, le b 8 4, num, le b 1 1 % 4, bit (le b 12 4) 0⟩ := by rw [unitVal, unitCount, hk]; rfl
  have hvals : n.unitVals num b = [⟨ix, le b 8 4, num, le b 1 1 % 4, bit (le b 12 4) 0⟩] := by
    rw [Node.unitVals, hmapped, List.filter_singleton, hloc, ← hval]
    rfl
  rw [Node.sigTake_some h, hmine, hvals]
  refine ⟨?_, Node.unitCounted_units _ _ _⟩
  rw [Node.unitCounted_sig]
  simp [SigState.withVals, eq_comm]

end
end Sys2Proof.Machine
end

section
/-! PROOFS. A flip of the signal space (05_signals.md R215, R216; 08_cycle_engines.md R345): the flip stage by stage, what every stage keeps, and
the one value of a generation followed through it. -/

namespace Sys2Proof.Machine

/-! ### The registers that a flip keeps -/

/-- SIG_GEN, the words of the data sets that tell where LOCAL entries lie, and the forces' first words. -/
def FlipReg (a : Nat) : Prop := a = SIG_GEN.VALUE.addr ∨ ∃ b ∈ [0x4002C024, 0x4002C028, 0x4002C030, 0x40030904], ∃ i, a = winAddr b i

namespace FlipReg

variable {a b i : Nat}

theorem gen : FlipReg SIG_GEN.VALUE.addr := Or.inl rfl

theorem win (hb : b ∈ [0x4002C024, 0x4002C028, 0x4002C030, 0x40030904]) (i : Nat) : FlipReg (winAddr b i) := Or.inr ⟨b, hb, i, rfl⟩

theorem not_recReg (h : FlipReg a) : recReg a = false := by
  obtain rfl | ⟨b, -, i, rfl⟩ := h
  · decide
  · exact recReg_winAddr b i

theorem ne_low (h : FlipReg a) (hb : b < 4294967296) (hg : SIG_GEN.VALUE.addr ≠ b) : a ≠ b := by
  obtain rfl | ⟨c, -, j, rfl⟩ := h
  · exact hg
  · exact winAddr_ne_of_lt hb

theorem ne_win (h : FlipReg a) (hb : b < 4294967296) (hw : b ∉ [0x4002C024, 0x4002C028, 0x4002C030, 0x40030904]) : a ≠ winAddr b i := by
  obtain rfl | ⟨c, hc, j, rfl⟩ := h
  · exact (winAddr_ne_of_lt (by decide)).symm
  · have hlow : ∀ c ∈ [0x4002C024, 0x4002C028, 0x4002C030, 0x40030904], c < 4294967296 := by decide
    exact winAddr_ne (hlow c hc) hb fun h => hw (h ▸ hc)

end FlipReg

/-- `m` has `n`'s generation, its ranges in service, and the registers that `FlipReg` names. -/
structure FlipKept (n m : Node) : Prop where
  gen : m.sig.gen = n.sig.gen
  svc : m.sig.svc = n.sig.svc
  reg : ∀ a, FlipReg a → m.reg a = n.reg a

namespace FlipKept

variable {n m k : Node}

theorem of_eq (hg : m.sig.gen = n.sig.gen) (hs : m.sig.svc = n.sig.svc) (hr : m.regs = n.regs) : FlipKept n m :=
  ⟨hg, hs, fun a _ => by rw [Node.reg, hr, Node.reg]⟩

theorem refl (n : Node) : FlipKept n n := of_eq rfl rfl rfl

theorem trans (h : FlipKept n m) (g : FlipKept m k) : FlipKept n k :=
  ⟨g.gen.trans h.gen, g.svc.trans h.svc, fun a ha => (g.reg a ha).trans (h.reg a ha)⟩

theorem cond {c : Prop} [Decidable c] {a b : Node} (ha : FlipKept n a) (hb : FlipKept n b) : FlipKept n (if c then a else b) := by
  split <;> assumption

theorem foldl {β : Type} {f : Node → β → Node} (h : ∀ n x, FlipKept n (f n x)) (l : List β) (n : Node) : FlipKept n (l.foldl f n) :=
  List.foldlRecOn (motive := fun m : Node => FlipKept n m) _ _ (refl n) fun m hm x _ => hm.trans (h m x)

theorem recorded (h : Recorded n m) : FlipKept n m :=
  ⟨congrArg SigState.gen h.sig, congrArg SigState.svc h.sig, fun a ha => h.reg a ha.not_recReg⟩

theorem setReg (n : Node) {a : Nat} (v : Word) (h : ∀ b, FlipReg b → b ≠ a) : FlipKept n (n.setReg a v) :=
  ⟨rfl, rfl, fun b hb => n.setReg_reg_ne a b v (h b hb)⟩

theorem wr (n : Node) (f : Field) (v : Nat) (ha : f.addr < 4294967296) (hg : SIG_GEN.VALUE.addr ≠ f.addr) : FlipKept n (n.wr f v) :=
  setReg n _ fun _ hb => hb.ne_low ha hg

theorem raise (n : Node) (f : Field) (ha : f.addr < 4294967296) (hg : SIG_GEN.VALUE.addr ≠ f.addr) : FlipKept n (n.raise f) :=
  (wr n f _ ha hg).trans (recorded (n.raise_recorded f))

theorem raiseIf (n : Node) (c : Bool) (f : Field) (ha : f.addr < 4294967296) (hg : SIG_GEN.VALUE.addr ≠ f.addr) : FlipKept n (n.raiseIf c f) :=
  cond (raise n f ha hg) (refl n)

theorem pimgPut (n : Node) (i v stat : Nat) : FlipKept n (n.pimgPut i v stat) := of_eq rfl rfl rfl

theorem setUnder (n : Node) (e : Nat) (v : Word) : FlipKept n (n.setReg (ENG0_FW2.UNDER e).addr v) :=
  setReg n v fun _ hb => hb.ne_win (b := 0x4003090C) (by decide) (by decide)

theorem forces (n : Node) (l : List ForceRun) : FlipKept n { n with sig := { n.sig with forces := l } } := of_eq rfl rfl rfl

theorem pimgScrub (n : Node) (i : Nat) : FlipKept n (n.pimgScrub i) := by
  unfold Node.pimgScrub
  refine cond (refl n) (trans ?_ (recorded (Node.sysFault_recorded _ _)))
  refine trans ?_ (raise _ _ (by decide) (by decide))
  exact (of_eq rfl rfl rfl : FlipKept n (n.memPut _ _)).trans (wr _ _ _ (by decide) (by decide))

theorem pimgTake (n : Node) (i v stat : Nat) : FlipKept n (n.pimgTake i v stat) := by
  unfold Node.pimgTake
  split
  · exact pimgPut n _ _ _
  · exact ((setUnder n _ _).trans (forces _ _)).trans (pimgPut _ _ _ _)

theorem ageEntry (n : Node) (c : Nat) (net : Bool) (i ident : Nat) : FlipKept n (n.ageEntry c net i ident) :=
  (pimgScrub n i).trans (pimgPut _ _ _ _)

theorem applyForces (n : Node) : FlipKept n n.applyForces := by
  unfold Node.applyForces
  refine trans (foldl (fun m f => ?_) _ n) (foldl (fun m e => ?_) _ _)
  · exact (forces m _).trans (pimgPut _ _ _ _)
  · exact cond (pimgPut m _ _ _) (cond (refl m) (((setUnder m _ _).trans (forces _ _)).trans (pimgPut _ _ _ _)))

/-- A table that takes effect: the ranges in service aside. -/
theorem activate (n : Node) (svc : List SubSvc) : FlipKept { n with sig := { n.sig with svc := svc } } (n.activate svc) := by
  unfold Node.activate
  refine trans ?_ (raiseIf _ _ _ (by decide) (by decide))
  refine trans ?_ (foldl (fun m r => setReg m _ fun b hb => hb.ne_win (b := 0x4002C050) (by decide) (by decide)) _ _)
  refine trans ?_ (foldl (fun m p => cond (pimgPut m _ _ _) (refl m)) _ _)
  exact foldl (fun m p => cond (pimgPut m _ _ _) (refl m)) _ _

end FlipKept

theorem Node.foldl_sig {β : Type} {f : Node → β → Node} (h : ∀ n x, (f n x).sig = n.sig) (l : List β) (n : Node) : (l.foldl f n).sig = n.sig :=
  List.foldlRecOn (motive := fun m : Node => m.sig = n.sig) _ _ rfl fun m hm x _ => (h m x).trans hm

/-- Of what SIG holds, a table that takes effect changes the ranges in service alone. -/
theorem Node.activate_sig (n : Node) (svc : List SubSvc) : (n.activate svc).sig = { n.sig with svc := svc } := by
  have hcond : ∀ {c : Prop} [Decidable c] {a b : Node}, a.sig = b.sig → (if c then a else b).sig = b.sig := fun h => by
    split
    · exact h
    · rfl
  unfold Node.activate
  dsimp only
  rw [Node.raiseIf_sig, Node.foldl_sig, Node.foldl_sig, Node.foldl_sig]
  · exact fun m p => hcond rfl
  · exact fun m p => hcond rfl
  · exact fun m r => rfl

theorem Node.activate_reg (n : Node) (svc : List SubSvc) {a : Nat} (ha : FlipReg a) : (n.activate svc).reg a = n.reg a :=
  (FlipKept.activate n svc).reg a ha

/-- Where LOCAL entries lie, the registers that a flip keeps tell. -/
theorem Node.localOf_congr {n m : Node} (h : ∀ a, FlipReg a → m.reg a = n.reg a) (i : Nat) : m.localOf i = n.localOf i := by
  have hindex : ∀ d, m.rd (SIG_PUBW1.INDEX d) = n.rd (SIG_PUBW1.INDEX d) := fun d => Node.rd_of_reg (h _ (.win (by decide) d))
  have hcount : ∀ d, m.rd (SIG_PUBW1.COUNT d) = n.rd (SIG_PUBW1.COUNT d) := fun d => Node.rd_of_reg (h _ (.win (by decide) d))
  have hok : m.dsetOk = n.dsetOk := funext fun d => Node.dsetOk_congr (h _ (.win (by decide) d)) (h _ (.win (by decide) d)) (h _ (.win (by decide) d))
  simp only [Node.localOf, Node.dsets, hok, hindex, hcount]

/-! ### The flip stage by stage (R215, R216) -/

section
variable (n : Node)

/-- The cycle of the flip. -/
def Node.flipCycle : Nat := if n.sigNet then n.cycle else n.sig.localCyc + 1

/-- The data units left out of the cycle are counted. -/
def Node.flipCounted : Node :=
  let omitted := if n.sigNet then n.sigOmitted n.flipCycle else 0
  (n.countBy BAR_CNT_OVERFLOW.VALUE omitted).raiseIf (decide (0 < omitted)) BAR_EVT.OVERFLOW

/-- The generation that the flip applies. -/
def Node.flipGen : List SigVal := if n.sigNet then n.flipCounted.sig.gen else []

/-- A new generation begins. -/
def Node.flipCleared : Node :=
  { n.flipCounted with sig := { n.flipCounted.sig with gen := [], sent := [], localCyc := if n.sigNet then n.flipCounted.sig.localCyc else n.flipCycle } }

/-- The table of ranges takes effect. -/
def Node.flipTabled : Node := n.flipCleared.activate ((upTo 1024).filterMap n.flipCleared.tableSub)

/-- The cycle after which entry `i` last took a value is noted. -/
def Node.noteTook (i c : Nat) : Node := { n with sig := { n.sig with took := Tab.set (fun _ => 0) n.sig.took i c } }

/-- Value `v` of the generation of cycle `c` is applied to its entry, unless the entry is LOCAL or no range in service covers it. -/
def Node.takeVal (c : Nat) (n : Node) (v : SigVal) : Node :=
  if (n.localOf v.index).isSome || !n.subCovers v.index then n
  else (n.noteTook v.index (c + 1)).pimgTake v.index v.value (statWord v.node c v.cls 0 false v.forced false true)

/-- The entries, with their identifiers, that took no value of generation `gen`. -/
def Node.quiet (gen : List SigVal) : List (Nat × Nat) :=
  (svcEntries n.sig.svc).filter (fun p => (n.localOf p.1).isNone && !gen.any (·.index = p.1) && svcIdent n.sig.svc p.1 = some p.2)

/-- The generation is applied. -/
def Node.flipApplied : Node := n.flipGen.foldl (Node.takeVal n.flipCycle) n.flipTabled

/-- The other entries age. -/
def Node.flipAged : Node := (n.flipApplied.quiet n.flipGen).foldl (fun m p => m.ageEntry n.flipCycle n.sigNet p.1 p.2) n.flipApplied

/-- The flip's registers follow. -/
def Node.flipNoted (c k : Nat) : Node :=
  let t := n.freeUpTo (min 2000 (200 + k / 5))
  let n := t.2.wr SIG_APPLYMAX.VALUE (max (t.2.rd SIG_APPLYMAX.VALUE) t.1)
  (n.wr SIG_FLIPCYC.VALUE (c % 4294967296)).wr SIG_GEN.VALUE ((n.rd SIG_GEN.VALUE + 1) % 4294967296)

theorem Node.sigFlip_eq : n.sigFlip = n.flipAged.applyForces.flipNoted n.flipCycle n.flipGen.length := rfl

end

section
variable {n m : Node}

theorem Node.flipCounted_reg {a : Nat} (hc : a ≠ BAR_CNT_OVERFLOW.VALUE.addr) (he : a ≠ BAR_EVT.OVERFLOW.addr) (hr : recReg a = false) :
    n.flipCounted.reg a = n.reg a :=
  (Node.raiseIf_reg _ he hr).trans (Node.wr_reg_ne _ BAR_CNT_OVERFLOW.VALUE _ _ hc)

theorem Node.flipCounted_sig : n.flipCounted.sig = n.sig := Node.raiseIf_sig _ _ _

/-- A range of the table depends on its words, the own car and the UIDs it is bound to. -/
theorem Node.tableSub_congr (hw : ∀ b i, m.reg (winAddr b i) = n.reg (winAddr b i)) (hs : m.reg INA_SELF.VALUE.addr = n.reg INA_SELF.VALUE.addr)
    (hu : m.sig.subUids = n.sig.subUids) (r : Nat) : m.tableSub r = n.tableSub r := by
  have hrd : ∀ b i lo w, m.rd ⟨winAddr b i, lo, w⟩ = n.rd ⟨winAddr b i, lo, w⟩ := fun b i _ _ => Node.rd_of_reg (hw b i)
  have hvalid : m.on (SIG_SUBW0.VALID r) = n.on (SIG_SUBW0.VALID r) := Node.on_congr (hrd _ _ _ _)
  have herr : m.on (SIG_SUBW3.RANGEERR r) = n.on (SIG_SUBW3.RANGEERR r) := Node.on_congr (hrd _ _ _ _)
  have horphan : m.on (SIG_SUBW3.ORPHAN r) = n.on (SIG_SUBW3.ORPHAN r) := Node.on_congr (hrd _ _ _ _)
  have hcount : m.rd (SIG_SUBW2.COUNT r) = n.rd (SIG_SUBW2.COUNT r) := hrd _ _ _ _
  have hmode : m.rd (SIG_SUBW0.MODE r) = n.rd (SIG_SUBW0.MODE r) := hrd _ _ _ _
  have hcur : m.rd (SIG_SUBW3.CURFIRST r) = n.rd (SIG_SUBW3.CURFIRST r) := hrd _ _ _ _
  have hindex : m.rd (SIG_SUBW1.INDEX r) = n.rd (SIG_SUBW1.INDEX r) := hrd _ _ _ _
  have hfirst : m.rd (SIG_SUBW0.FIRST r) = n.rd (SIG_SUBW0.FIRST r) := hrd _ _ _ _
  rw [Node.tableSub, hvalid, herr, horphan, hcount, hmode, hcur, hindex, hfirst, hu, Node.ownCar_congr hs, Node.tableSub]

theorem Node.flipCleared_tableSub : n.flipCleared.tableSub = n.tableSub := by
  refine funext fun r => Node.tableSub_congr (fun b i => ?_) ?_ (congrArg SigState.subUids n.flipCounted_sig) r
  · exact Node.flipCounted_reg (winAddr_ne_of_lt (by decide)) (winAddr_ne_of_lt (by decide)) (recReg_winAddr b i)
  · exact Node.flipCounted_reg (by decide) (by decide) (by decide)

/-- Once the table has taken effect: a new generation, and the table's ranges in service. -/
theorem Node.flipTabled_sig : n.flipTabled.sig = { n.flipCleared.sig with svc := (upTo 1024).filterMap n.tableSub } := by
  rw [Node.flipTabled, Node.activate_sig, Node.flipCleared_tableSub]

theorem Node.flipTabled_reg {a : Nat} (ha : FlipReg a) : n.flipTabled.reg a = n.reg a := by
  have hcleared : n.flipCleared.reg a = n.reg a :=
    Node.flipCounted_reg (ha.ne_low (by decide) (by decide)) (ha.ne_low (by decide) (by decide)) ha.not_recReg
  rw [Node.flipTabled, Node.activate_reg _ _ ha, hcleared]

theorem FlipKept.takeVal (c : Nat) (n : Node) (v : SigVal) : FlipKept n (Node.takeVal c n v) := by
  unfold Node.takeVal
  exact cond (refl n) ((of_eq rfl rfl rfl : FlipKept n (n.noteTook _ _)).trans (pimgTake _ _ _ _))

theorem Node.flipAged_kept : FlipKept n.flipTabled n.flipAged :=
  (FlipKept.foldl (FlipKept.takeVal _) _ _).trans (FlipKept.foldl (fun m _ => FlipKept.ageEntry m _ _ _ _) _ _)

theorem Node.flipNoted_sig (c k : Nat) : (n.flipNoted c k).sig = n.sig := rfl

theorem Node.flipNoted_memByte (c k a : Nat) : (n.flipNoted c k).memByte a = n.memByte a := rfl

theorem Node.flipNoted_gen (c k : Nat) : (n.flipNoted c k).rd SIG_GEN.VALUE = (n.rd SIG_GEN.VALUE + 1) % 4294967296 := by
  unfold Node.flipNoted
  dsimp only
  rw [Node.rd_wr_same _ _ _ (by decide), Node.rd_wr_ne _ _ _ _ (by decide) (by decide)]
  exact Nat.mod_mod _ _

theorem Node.flipNoted_cycle (c k : Nat) : (n.flipNoted c k).rd SIG_FLIPCYC.VALUE = c % 4294967296 := by
  unfold Node.flipNoted
  dsimp only
  rw [Node.rd_wr_ne _ _ _ _ (by decide) (by decide), Node.rd_wr_same _ _ _ (by decide)]
  exact Nat.mod_mod _ _

theorem Node.sigFlip_gen : n.sigFlip.rd SIG_GEN.VALUE = (n.rd SIG_GEN.VALUE + 1) % 4294967296 := by
  have hkept : n.flipAged.applyForces.rd SIG_GEN.VALUE = n.rd SIG_GEN.VALUE :=
    (Node.rd_of_reg ((n.flipAged_kept.trans (FlipKept.applyForces _)).reg _ .gen)).trans (Node.rd_of_reg (Node.flipTabled_reg .gen))
  rw [Node.sigFlip_eq, Node.flipNoted_gen, hkept]

theorem Node.sigFlip_cleared : n.sigFlip.sig.gen = [] := by
  rw [Node.sigFlip_eq, Node.flipNoted_sig, (n.flipAged_kept.trans (FlipKept.applyForces _)).gen, Node.flipTabled_sig]
  rfl

theorem Node.sigFlip_svc : n.sigFlip.sig.svc = (upTo 1024).filterMap n.tableSub := by
  rw [Node.sigFlip_eq, Node.flipNoted_sig, (n.flipAged_kept.trans (FlipKept.applyForces _)).svc, Node.flipTabled_sig]

end

/-! ### What an entry's bytes are through a flip -/

section
variable {n m k : Node} {i j : Nat}

/-- The 8 bytes of PIMG entry `i` stay. -/
def EntryKept (i : Nat) (n m : Node) : Prop := ∀ k, k < 8 → m.memByte (pimgAddr i + k) = n.memByte (pimgAddr i + k)

theorem EntryKept.trans (h : EntryKept i n m) (g : EntryKept i m k) : EntryKept i n k := fun b hb => (g b hb).trans (h b hb)

theorem EntryKept.pimgPut (hij : i ≠ j) (n : Node) (v stat : Nat) : EntryKept i n (n.pimgPut j v stat) := by
  intro b hb
  refine n.memPut_byte_out _ _ _ ?_
  simp only [List.length_append, leBytes_length, pimgAddr]
  omega

theorem EntryKept.recorded (hi : i < 65536) (h : Recorded n m) : EntryKept i n m := by
  intro b hb
  refine h.mem _ ?_
  simp only [pimgAddr, jrnlBase]
  omega

theorem EntryKept.raise (hi : i < 65536) (n : Node) (f : Field) : EntryKept i n (n.raise f) := fun b hb =>
  recorded hi (n.raise_recorded f) b hb

theorem EntryKept.pimgScrub (hi : i < 65536) (hij : i ≠ j) (n : Node) : EntryKept i n (n.pimgScrub j) := by
  unfold Node.pimgScrub
  split
  · exact fun _ _ => rfl
  · refine trans ?_ (recorded hi (Node.sysFault_recorded _ _))
    exact (pimgPut hij n 0 _).trans (raise hi (Node.count _ _) _)

theorem EntryKept.ageEntry (hi : i < 65536) (hij : i ≠ j) (n : Node) (c : Nat) (net : Bool) (ident : Nat) :
    EntryKept i n (n.ageEntry c net j ident) := (pimgScrub hi hij n).trans (pimgPut hij _ _ _)

theorem EntryKept.pimgVal (h : EntryKept i n m) : m.pimgVal i = n.pimgVal i := by
  have hb : m.memBytes (pimgAddr i) 4 = n.memBytes (pimgAddr i) 4 :=
    List.map_congr_left fun k hk => h k (lt_trans (List.mem_range.mp hk) (by decide))
  rw [Node.pimgVal, Node.memLe, hb, Node.pimgVal, Node.memLe]

theorem EntryKept.pimgStat (h : EntryKept i n m) : m.pimgStat i = n.pimgStat i := by
  have hb : m.memBytes (pimgAddr i + 4) 4 = n.memBytes (pimgAddr i + 4) 4 := by
    refine List.map_congr_left fun k hk => ?_
    rw [Nat.add_assoc]
    exact h (4 + k) (Nat.add_lt_add_left (List.mem_range.mp hk) 4)
  rw [Node.pimgStat, Node.memLe, hb, Node.pimgStat, Node.memLe]

theorem Node.pimgPut_val (n : Node) (i v stat : Nat) : (n.pimgPut i v stat).pimgVal i = v % 4294967296 := by
  refine Node.memLe_of_memByte _ _ 4 v fun k hk => ?_
  exact (n.memPut_byte_in _ _ k (by rw [List.length_append]; omega)).trans (List.getElem_append_left hk)

theorem Node.pimgPut_stat (n : Node) (i v stat : Nat) : (n.pimgPut i v stat).pimgStat i = stat % 4294967296 := by
  refine Node.memLe_of_memByte _ _ 4 stat fun k hk => ?_
  rw [leBytes_length] at hk
  rw [Nat.add_assoc]
  refine (n.memPut_byte_in _ _ (4 + k) (by simpa only [List.length_append, leBytes_length] using Nat.add_lt_add_left hk 4)).trans ?_
  simp

/-- Of what SIG holds, ageing changes nothing. -/
theorem Node.ageEntry_sig (n : Node) (c : Nat) (net : Bool) (i ident : Nat) : (n.ageEntry c net i ident).sig = n.sig := by
  have hscrub : (n.pimgScrub i).sig = n.sig := by
    unfold Node.pimgScrub
    split
    · rfl
    · exact (Node.sysFault_recorded _ _).sig.trans (Node.raise_recorded _ _).sig
  exact hscrub

/-- Where no force is in effect or enabled, an apply changes nothing for their sake. -/
theorem Node.applyForces_none (hf : n.sig.forces = []) (he : ∀ k : Fin 256, n.on (ENG0_FW0.EN k) = false) : n.applyForces = n := by
  have hwant : (upTo 256).filter (fun e => n.on (ENG0_FW0.EN e) && n.rd (ENG0_FW0.KIND e) = 1) = [] :=
    List.filter_eq_nil_iff.mpr fun e h => by simp [he ⟨e, List.mem_range.mp h⟩]
  unfold Node.applyForces
  rw [hwant, hf]
  rfl

end
end Sys2Proof.Machine
end

section
/-! PROOFS. The one value of a generation through a flip, and the signal space's statement (05_signals.md R202, R205, R209, R212, R213, R215, R216,
R218, R229, R230, R720; 08_cycle_engines.md R349). -/

namespace Sys2Proof.Machine

/-! ### One value followed through a flip (R215, R216) -/

section
variable {n m : Node} {x : SigVal} {sub : SubSvc} {i : Nat}

theorem Node.flipGen_of_net (h : n.sigNet = true) : n.flipGen = n.sig.gen := by rw [Node.flipGen, if_pos h, Node.flipCounted_sig]

theorem Node.pimgTake_unforced (h : n.sig.forces = []) (v stat : Nat) : n.pimgTake i v stat = n.pimgPut i v stat := by
  have hnone : n.forceOn i = none := by rw [Node.forceOn, h, List.find?_nil]
  rw [Node.pimgTake, hnone]

theorem Node.pimgPut_sig (n : Node) (i v stat : Nat) : (n.pimgPut i v stat).sig = n.sig := rfl

theorem Node.noteTook_forces (n : Node) (i c : Nat) : (n.noteTook i c).sig.forces = n.sig.forces := rfl

theorem Node.takeVal_taken (hl : n.localOf x.index = none) (hc : n.subCovers x.index = true) (hf : n.sig.forces = []) (c : Nat) :
    Node.takeVal c n x = (n.noteTook x.index (c + 1)).pimgPut x.index x.value (statWord x.node c x.cls 0 false x.forced false true) := by
  rw [Node.takeVal, if_neg (by simp [hl, hc])]
  exact Node.pimgTake_unforced (n := n.noteTook _ _) hf _ _

/-- A range of the table that maps covers its entries once the table has taken effect. -/
theorem Node.flipTabled_covers {k : Nat} (hk : k < 1024) (hs : n.tableSub k = some sub) (hf : sub.first ≠ none) (hlo : sub.index ≤ i)
    (hhi : i < sub.index + sub.count) : n.flipTabled.subCovers i = true := by
  have hmem : sub ∈ (upTo 1024).filterMap n.tableSub := List.mem_filterMap.mpr ⟨k, List.mem_range.mpr hk, hs⟩
  have hsvc : n.flipTabled.sig.svc = (upTo 1024).filterMap n.tableSub := by rw [Node.flipTabled_sig]
  rw [Node.subCovers, hsvc]
  exact List.any_eq_true.mpr ⟨sub, hmem, by simp [hlo, hhi, Option.isSome_iff_ne_none.mpr hf]⟩

theorem Node.quiet_ne {p : Nat × Nat} (h : p ∈ n.quiet [x]) : x.index ≠ p.1 := by
  have hp := (List.mem_filter.mp h).2
  simp only [List.any_cons, List.any_nil, Bool.or_false, Bool.and_eq_true, Bool.not_eq_true', decide_eq_false_iff_not] at hp
  exact hp.1.2

/-- Ageing leaves the entry that took the generation's value, and what SIG holds. -/
theorem Node.flipAged_entry (hg : n.flipGen = [x]) (hi : x.index < 65536) :
    EntryKept x.index n.flipApplied n.flipAged ∧ n.flipAged.sig = n.flipApplied.sig := by
  rw [Node.flipAged, hg]
  refine ⟨List.foldlRecOn (motive := fun m : Node => EntryKept x.index n.flipApplied m) _ _ (fun _ _ => rfl) fun m hm p hp => ?_,
    Node.foldl_sig (fun m p => m.ageEntry_sig _ _ _ _) _ _⟩
  exact hm.trans (EntryKept.ageEntry hi (Node.quiet_ne hp) m _ _ _)

/-- The status word of a value just taken: valid, fresh, forced as the value is. -/
theorem statWord_taken (pub upd cls : Nat) (forced : Bool) :
    bit (statWord pub upd cls 0 false forced false true % 4294967296) 31 = true ∧ bit (statWord pub upd cls 0 false forced false true % 4294967296) 28 = false
      ∧ bit (statWord pub upd cls 0 false forced false true % 4294967296) 29 = forced := by
  have hword : statWord pub upd cls 0 false forced false true % 4294967296
      = pub % 256 + upd % 4096 * 256 + cls % 4 * 1048576 + b2n forced * 536870912 + 2147483648 := by
    cases forced <;> simp [statWord, b2n] <;> omega
  rw [hword]
  cases forced <;> simp only [bit, b2n, decide_eq_true_eq, decide_eq_false_iff_not, Bool.false_eq_true, if_true, if_false] <;> omega

theorem Node.sigFlip_value (hnet : n.sigNet = true) (hg : n.sig.gen = [x]) (hforces : n.sig.forces = [])
    (hen : ∀ k : Fin 256, n.on (ENG0_FW0.EN k) = false) (hl : n.localOf x.index = none) (hi : x.index < 65536) (hv : x.value < 4294967296)
    (hc : n.flipTabled.subCovers x.index = true) : n.sigFlip.pimgVal x.index = x.value
      ∧ n.sigFlip.pimgStat x.index = statWord x.node n.flipCycle x.cls 0 false x.forced false true % 4294967296 := by
  have hgen : n.flipGen = [x] := (Node.flipGen_of_net hnet).trans hg
  have hnone : n.flipTabled.sig.forces = [] := by
    rw [Node.flipTabled_sig]
    exact (congrArg SigState.forces n.flipCounted_sig).trans hforces
  have hlocal : n.flipTabled.localOf x.index = none := (Node.localOf_congr (fun a ha => Node.flipTabled_reg ha) _).trans hl
  have htaken := Node.takeVal_taken hlocal hc hnone n.flipCycle
  have happlied : n.flipApplied = Node.takeVal n.flipCycle n.flipTabled x := by rw [Node.flipApplied, hgen]; rfl
  obtain ⟨hentry, hsig⟩ := Node.flipAged_entry hgen hi
  have hoff : ∀ k : Fin 256, n.flipAged.on (ENG0_FW0.EN k) = false := fun k => by
    have hreg : FlipReg (ENG0_FW0.EN k).addr := .win (by decide) k
    exact (Node.on_congr ((Node.rd_of_reg (n.flipAged_kept.reg _ hreg)).trans (Node.rd_of_reg (Node.flipTabled_reg hreg)))).trans (hen k)
  have happly : n.flipAged.applyForces = n.flipAged := by
    refine Node.applyForces_none ?_ hoff
    rw [hsig, happlied, htaken, Node.pimgPut_sig, Node.noteTook_forces, hnone]
  have hflip : EntryKept x.index n.flipApplied n.sigFlip := fun a ha => by
    rw [Node.sigFlip_eq, happly, Node.flipNoted_memByte, hentry a ha]
  rw [hflip.pimgVal, hflip.pimgStat, happlied, htaken, Node.pimgPut_val, Node.pimgPut_stat, Nat.mod_eq_of_lt hv]
  exact ⟨rfl, rfl⟩

end

/-! ### The statement -/

/-- Settles O43: `Declared`, `Ranged` and `Viewed` say what a write to a declaration, a range and a view leaves, and mirroring keeps them;
`assemble_read` and the `sigTake` lemmas give the pass and the unit, the stages of `sigFlip_eq` the flip. -/
theorem signals : Obligations.Signals := by
  unfold Obligations.Signals
  intro s by_ w v e entry d p ix x sub hr n ds r b first c
  have hpub : pubWord w.val v = v &&& (if w = 0 then 0x807FFFFF else if w = 1 then 0x7FFFFFFF else 0xFFFF0007) := by fin_cases w <;> rfl
  have hsub : subWord w.val v = v &&& (if w = 0 then 0x803FFFFF else if w = 1 then 0xFFFF else 0x1FFFF) := by fin_cases w <;> rfl
  have hview : viewWord w.val v = v &&& (if w = 0 then 0xFFFF else 0x1FFFF) := by fin_cases w <;> rfl
  refine ⟨fun h => ?_, fun h => ?_, ?_, ?_, fun h => ?_, fun h => ?_, fun h h0 => ?_, fun h h0 hk hl => ⟨fun hs => ?_, fun hs hp hm hmap hloc => ?_⟩, ?_,
    fun hnet hg _ hforces hen hl hi hv ⟨k, hk, hsub⟩ hfirst hlo hhi => ?_⟩
  · exact answers_onNode hr rfl ((if_neg (by simp [n, h])).trans (n.writePub_outside w.val v h))
  · refine does_onNode hr rfl ?_
    rw [if_pos h, ← hpub]
    obtain ⟨hword, hrefused, hident, hcount⟩ := (n.writePub_declared h).recorded (n.mirrored_recorded by_ _ _ (·.writePub w v))
    exact ⟨hword, hrefused, hident, hcount⟩
  · refine does_onNode hr rfl ?_
    rw [← hsub]
    obtain ⟨hword, hwrong, horphan, hsvc⟩ := (n.writeSub_ranged).recorded (n.mirrored_recorded by_ _ _ (·.writeSub w v))
    exact ⟨hword, hwrong, horphan, hsvc⟩
  · refine does_onNode hr rfl ?_
    have hheld : (fun q => decide (n.pageOwner q ≠ none ∧ n.pageOwner q ≠ some e.val)) = n.heldElsewhere e.val :=
      funext fun q => (n.heldElsewhere_eq e.val q).symm
    rw [← hview, hheld]
    obtain ⟨hword, herr, hpages⟩ := (n.writeView_viewed).recorded (n.mirrored_recorded by_ _ _ (·.writeView e w v))
    exact ⟨hword, herr, hpages⟩
  · obtain ⟨runs, heq, hruns⟩ := n.assemble_read h entry
    refine does_onNode hr rfl ?_
    rw [heq]
    exact ⟨rfl, rfl, runs, rfl, hruns⟩
  · exact answers_same hr rfl (Node.sigTake_off h _)
  · exact answers_onNode hr rfl ((congrArg (n.sigTake · b) (if_pos h0)).trans (Node.sigTake_unknown h))
  · refine does_onNode hr rfl ?_
    rw [if_neg h0]
    exact Node.sigTake_unsubscribed h hk hl hs
  · refine does_onNode hr rfl ?_
    have hmine : n.publishedBy d.node first = true := by rw [Node.publishedBy, hp]; exact hm
    rw [if_neg h0]
    exact (Node.sigTake_subscribed h hk hl hs hmine hmap hloc).symm
  · refine does_onNode hr rfl ⟨Node.sigFlip_gen, ?_, Node.sigFlip_cleared, Node.sigFlip_svc⟩
    rw [Node.sigFlip_eq, Node.flipNoted_cycle]
    rfl
  · refine does_onNode hr rfl ?_
    obtain ⟨hval, hstat⟩ := Node.sigFlip_value hnet hg hforces hen hl hi hv (Node.flipTabled_covers hk hsub hfirst hlo hhi)
    rw [hval, hstat]
    exact ⟨rfl, statWord_taken _ _ _ _⟩

end Sys2Proof.Machine
end

section
/-! PROOFS. Messages as a Galek engine submits, reads, acknowledges and withdraws them (06_messages.md R242, R260, R263; 09_galek_isa.md R390,
R391). -/

namespace Sys2Proof.Machine

/-! ### An engine's registers -/

section
variable {n m : Node} {e : Nat}

theorem Node.pcOf_congr (h : m.eng = n.eng) : m.pcOf e = n.pcOf e := by rw [Node.pcOf, Node.engRun, h, Node.pcOf, Node.engRun]

end

section
variable (n : Node) (e : Nat) (rd : Reg) (v : Word)

/-- Beside the engine, nothing changes where a register is written. -/
theorem Node.setG_eng : n.setG e rd v = { n with eng := (n.setG e rd v).eng } := by
  unfold Node.setG
  split <;> rfl

theorem Node.finish_eng : n.finish e rd v = { n with eng := (n.finish e rd v).eng } := by
  rw [Node.finish, Node.advance, Node.jump, Node.updEng, n.setG_eng]

@[simp] theorem Node.setG_regs : (n.setG e rd v).regs = n.regs := by rw [n.setG_eng]
@[simp] theorem Node.setG_msg : (n.setG e rd v).msg = n.msg := by rw [n.setG_eng]
@[simp] theorem Node.finish_regs : (n.finish e rd v).regs = n.regs := by rw [n.finish_eng]
@[simp] theorem Node.finish_msg : (n.finish e rd v).msg = n.msg := by rw [n.finish_eng]

@[simp] theorem Node.finish_outMsgs (f : Nat) : (n.finish e rd v).outMsgs f = n.outMsgs f := by rw [Node.outMsgs, n.finish_msg, Node.outMsgs]

@[simp] theorem Node.finish_dq (q : Nat) : (n.finish e rd v).dq q = n.dq q := by rw [Node.dq, n.finish_msg, Node.dq]

@[simp] theorem Node.finish_g_same : (n.finish e rd v).g e rd = if rd = 0 then 0 else v := by
  rw [Node.finish, Node.advance, Node.jump_g, Node.setG_g_same]

theorem Node.finish_g_ne {r : Reg} (h : r ≠ rd) : (n.finish e rd v).g e r = n.g e r := by
  rw [Node.finish, Node.advance, Node.jump_g, Node.setG_g_ne _ _ _ _ _ h]

@[simp] theorem Node.finish_pcOf : (n.finish e rd v).pcOf e = n.pcOf e + 4 := by
  rw [Node.finish, Node.advance, Node.jump_pcOf, Node.setG_pcOf]

end

/-- An instruction whose word can be fetched does what holds after its effect. -/
theorem does_galek {c : Instr} {s : State} {e : Fin 8} {f : Node → Node} {P : Node → Prop} (hf : Fetches s.node e)
    (hc : exec c s = s.onNode (fun n => n.galek e f)) (hp : P (f s.node)) : Does c s P :=
  does_onNode hf.1 hc (by rw [Node.galek_fetches hf]; exact hp)

/-! ### QPUT (R242, R390, R391) -/

theorem Node.raiseIf_eng (n : Node) (c : Bool) (f : Field) : (n.raiseIf c f).eng = n.eng := by
  cases c with
  | false => rfl
  | true => exact n.raise_eng f

/-- Four bytes of a block of memory are the word there. -/
theorem Node.le_memBytes (n : Node) {a len o : Nat} (h : o + 4 ≤ len) : le (n.memBytes a len) o 4 = n.memLe (a + o) 4 := by
  have hs : slice (n.memBytes a len) o 4 = n.memBytes (a + o) 4 :=
    List.ext_getElem (by rw [slice_length (by simpa using h), Node.memBytes_length]) fun i _ _ => by
      simp [slice, Node.memBytes, upTo, Nat.add_assoc]
  rw [le, hs, Node.memLe]

section
variable {n : Node} {caller f addr len life expect : Nat}

/-- A submission leaves the engines alone. -/
theorem Node.submit_eng : (n.submit caller f addr len life expect).2.eng = n.eng := by
  by_cases hc : n.submitCode caller f len life expect = 0
  · obtain ⟨⟨b, m⟩, ha⟩ := Node.storeAlloc_of_submitCode hc
    obtain ⟨x, p, q, k, l, -, heq⟩ := Node.submit_eq (addr := addr) hc ha
    rw [heq]
    exact (Recorded.jchange _ q l).eng.trans ((Recorded.jchange _ p k).eng.trans (Recorded.storeAlloc n _ _ ha).eng)
  · unfold Node.submit
    rw [if_pos hc]
    exact (Node.raiseIf_eng _ _ _).trans (Node.raiseIf_eng _ _ _)

theorem Node.submit_refused_nextseq (h : n.submitCode caller f len life expect ≠ 0) :
    (n.submit caller f addr len life expect).2.rd (MSG_OFW4.NEXTSEQ f) = n.rd (MSG_OFW4.NEXTSEQ f) := by
  have hraise : ∀ (n : Node) (c : Bool) (g : Field), g.addr < 4294967296 → g.lo + g.width ≤ 32 →
      (n.raiseIf c g).rd (MSG_OFW4.NEXTSEQ f) = n.rd (MSG_OFW4.NEXTSEQ f) := fun n c g hg hw =>
    n.rd_raiseIf c g _ hw (recReg_winAddr _ _) (Field.apart_window hg)
  unfold Node.submit
  rw [if_pos h]
  dsimp only
  rw [hraise _ _ _ (by decide) (by decide), hraise _ _ _ (by decide) (by decide)]
  exact Node.rd_count_ne _ _ _ (by decide) (Field.apart_window (by decide))

end

/-- QPUT's answer: the sequence in `rb` and the code in `rd`, which counts where both are one register (R390). -/
def Node.qputDone (n : Node) (e : Nat) (rd rb : Reg) (code seq : Nat) : Node :=
  (n.setG e rb (BitVec.ofNat 32 seq)).finish e rd (BitVec.ofNat 32 code)

section
variable (n : Node) (e : Nat) (rd rb : Reg) (code seq : Nat)

theorem Node.qputDone_code : (n.qputDone e rd rb code seq).g e rd = if rd = 0 then 0 else BitVec.ofNat 32 code := Node.finish_g_same _ _ _ _

theorem Node.qputDone_seq (h : rb ≠ rd) : (n.qputDone e rd rb code seq).g e rb = if rb = 0 then 0 else BitVec.ofNat 32 seq :=
  (Node.finish_g_ne _ _ _ _ h).trans (Node.setG_g_same _ _ _ _)

theorem Node.qputDone_pcOf : (n.qputDone e rd rb code seq).pcOf e = n.pcOf e + 4 := by rw [Node.qputDone, Node.finish_pcOf, Node.setG_pcOf]

theorem Node.qputDone_msg : (n.qputDone e rd rb code seq).msg = n.msg := by rw [Node.qputDone, Node.finish_msg, Node.setG_msg]

theorem Node.qputDone_outMsgs (f : Nat) : (n.qputDone e rd rb code seq).outMsgs f = n.outMsgs f := by
  rw [Node.outMsgs, Node.qputDone_msg, Node.outMsgs]

theorem Node.qputDone_rd (g : Field) : (n.qputDone e rd rb code seq).rd g = n.rd g :=
  Node.rd_congr (by rw [Node.qputDone, Node.finish_regs, Node.setG_regs])

end

/-- QPUT on a buffer in place without an uncorrectable word submits and answers (R242, R391). -/
theorem Node.qputGo_eq {n : Node} {e : Nat} {rd rb : Reg} {w0 buf life expect : Nat} (hu : n.uceIn buf (w0 / 65536 % 8192) = false)
    (hb : w0 / 65536 % 8192 = 0 ∨ 4096 < w0 / 65536 % 8192 ∨ inBuffers buf (w0 / 65536 % 8192) = true) :
    n.qputGo e rd rb w0 buf life expect =
      let r := n.submit e (w0 % 256) buf (w0 / 65536 % 8192) (life % 134217728) expect
      r.2.qputDone e rd rb r.1 (if r.1 = 0 then n.rd (MSG_OFW4.NEXTSEQ (w0 % 256)) else 0) := by
  have hflow : bits w0 0 8 = w0 % 256 := by simp [bits]
  have hlen : bits w0 16 13 = w0 / 65536 % 8192 := rfl
  have hlife : bits life 0 27 = life % 134217728 := by simp [bits]
  have hplace : ¬ (decide (0 < w0 / 65536 % 8192) && decide (w0 / 65536 % 8192 ≤ 4096) && !inBuffers buf (w0 / 65536 % 8192)) = true := by
    rcases hb with h | h | h
    · simp [h]
    · simp [Nat.not_le.mpr h]
    · simp [h]
  unfold Node.qputGo
  simp only [hflow, hlen, hlife, hu, Bool.and_false, Bool.false_eq_true, if_false]
  rw [if_neg hplace]
  rfl

section
variable {s : State} {e : Fin 8} {rd ra rb : Reg} {a : Nat}

/-- QPUT whose block can be read acts on its four words (R390, R391). -/
theorem does_qput {P : Node → Prop} (hf : Fetches s.node e) (ha : (s.node.g e ra).toNat = a) (h4 : a % 4 = 0) (hb : inBuffers a 16 = true)
    (hu : s.node.uceIn a 16 = false)
    (hp : P (s.node.qputGo e rd rb (s.node.memLe (a + 4 * 0) 4) (s.node.memLe (a + 4 * 1) 4) (s.node.memLe (a + 4 * 2) 4)
      (s.node.memLe (a + 4 * 3) 4))) :
    Does (.qput e rd ra rb) s P := by
  refine does_galek hf rfl ?_
  dsimp only
  rw [ha, if_neg (by simpa using h4), if_neg (by simp [hb]), if_neg (by simp [hu])]
  simp only [Node.sramRead, hu, Bool.false_eq_true, if_false, s.node.le_memBytes (show 0 + 4 ≤ 16 by decide),
    s.node.le_memBytes (show 4 + 4 ≤ 16 by decide), s.node.le_memBytes (show 8 + 4 ≤ 16 by decide), s.node.le_memBytes (show 12 + 4 ≤ 16 by decide)]
  exact hp

end

/-- Settles O6: `qputGo_eq` says that QPUT submits and answers, `submit_taken` and `submit_refused` what a submission leaves. -/
theorem submission : Obligations.Submission := by
  unfold Obligations.Submission
  intro s e rd ra rb hf n a w f len code seq h4 hb hu hbuf hlen
  refine ⟨fun hc => does_qput hf rfl h4 hb hu ?_, fun hc => does_qput hf rfl h4 hb hu ?_⟩
  · obtain ⟨hres, hout, haccq, hnext, -⟩ := Node.submit_taken (addr := w 1) hc
    rw [Node.qputGo_eq hbuf hlen]
    dsimp only
    refine ⟨?_, fun hne h0 => ?_, ?_, ?_, ?_, ?_⟩
    · rw [Node.qputDone_code, hres]
      exact ite_self _
    · rw [Node.qputDone_seq _ _ _ _ _ _ hne, if_neg h0, if_pos hres]
    · rw [Node.qputDone_outMsgs]
      exact hout
    · rw [Node.qputDone_rd]
      exact hnext
    · rw [Node.qputDone_msg]
      exact haccq
    · rw [Node.qputDone_pcOf, Node.pcOf_congr Node.submit_eng]
  · obtain ⟨hres, hout, -⟩ := Node.submit_refused (addr := w 1) hc
    rw [Node.qputGo_eq hbuf hlen]
    dsimp only
    refine ⟨fun h0 => ?_, fun hne => ?_, ?_, ?_, ?_⟩
    · rw [Node.qputDone_code, if_neg h0, hres]
    · rw [Node.qputDone_seq _ _ _ _ _ _ hne, hres, if_neg hc]
      exact ite_self _
    · rw [Node.qputDone_outMsgs]
      exact hout
    · rw [Node.qputDone_rd]
      exact Node.submit_refused_nextseq hc
    · rw [Node.qputDone_pcOf, Node.pcOf_congr Node.submit_eng]

/-! ### QGET, QACK and QWDR (R260, R263, R390) -/

/-- The elements beside the one replaced stay. -/
theorem getElem?_mapAt_ne {α : Type} (l : List α) (g : α → α) {r i : Nat} (h : r < l.length) (hi : i ≠ r) :
    (l.take r ++ ((l.drop r).take 1).map g ++ l.drop (r + 1))[i]? = l[i]? := by
  have hone : (l.drop r).take 1 = [l[r]] := by rw [List.drop_eq_getElem_cons h, List.take_succ_cons, List.take_zero]
  have hset : l.take r ++ ((l.drop r).take 1).map g ++ l.drop (r + 1) = l.set r (g l[r]) := by
    rw [hone, List.map_singleton, List.append_assoc, List.singleton_append, List.set_eq_take_append_cons_drop, if_pos h]
  rw [hset, List.getElem?_set_ne hi.symm]

theorem Node.readDesc_other {n : Node} {q i : Nat} (h : ((n.dq q).filter (·.read)).length < (n.dq q).length)
    (hi : i ≠ ((n.dq q).filter (·.read)).length) : ((n.readDesc q).2.dq q)[i]? = (n.dq q)[i]? := by
  unfold Node.readDesc
  dsimp only
  split
  · rfl
  · rw [Node.setDq_dq, getElem?_mapAt_ne _ _ h hi]

theorem Node.readDesc_eng (n : Node) (q : Nat) : (n.readDesc q).2.eng = n.eng := by
  unfold Node.readDesc
  dsimp only
  split <;> rfl

/-- Flow `f` is open and the caller's. -/
abbrev Node.ownFlow (n : Node) (caller f : Nat) : Prop :=
  (n.rd (MSG_OFW0.DKIND f) = 1 ∨ n.rd (MSG_OFW0.DKIND f) = 2) ∧ n.rd (MSG_OFW0.OWNER f) = caller

section
variable {n : Node} {caller f seq : Nat} {x : OutMsg}

theorem Node.withdraw_foreign (h : (n.rd (MSG_OFW0.DKIND f) ≠ 1 ∧ n.rd (MSG_OFW0.DKIND f) ≠ 2) ∨ n.rd (MSG_OFW0.OWNER f) ≠ caller) :
    n.withdraw caller f seq = (1, n) := by
  unfold Node.withdraw
  exact if_pos (by simpa using h)

theorem Node.withdraw_none (ho : n.ownFlow caller f) (h : n.findOut f seq = none) : n.withdraw caller f seq = (10, n) := by
  obtain ⟨hkind, howner⟩ := ho
  unfold Node.findOut at h
  unfold Node.withdraw
  rw [if_neg (by simpa [howner] using or_iff_not_imp_left.mp hkind), h]

theorem Node.withdraw_kills (ho : n.ownFlow caller f) (h : n.findOut f seq = some x) (hx : x.fresh (memberBits (n.members f))) :
    n.withdraw caller f seq = (0, n.startKill f x .withdrawn) := by
  obtain ⟨hkind, howner⟩ := ho
  obtain ⟨hkill, -, hheld, hdel, hall⟩ := hx
  unfold Node.findOut at h
  unfold Node.withdraw
  rw [if_neg (by simpa [howner] using or_iff_not_imp_left.mp hkind), h]
  simp [hkill, hheld, hdel, covers_zero hall]

end

section
variable {s : State} {e : Fin 8} {rd ra rb : Reg} {q : Fin 16} (hf : Fetches s.node e)
include hf

/-- QGET of the engine's own queue answers what reading the queue gives. -/
theorem does_qget {P : Node → Prop} (ho : s.node.rd (MSG_DQ.OWNER q) = e.val)
    (hp : P ((s.node.readDesc q).2.finish e rd (BitVec.ofNat 32 (s.node.readDesc q).1))) : Does (.qget e rd q) s P :=
  does_galek hf rfl (by dsimp only; rw [if_neg (not_not.mpr ho)]; exact hp)

theorem qget_none (ho : s.node.rd (MSG_DQ.OWNER q) = e.val)
    (h : 16 ≤ ((s.node.dq q).filter (·.read)).length ∨ (s.node.dq q).length ≤ ((s.node.dq q).filter (·.read)).length) :
    Computes (.qget e rd q) s e rd 0 :=
  computes_finish hf rfl (by dsimp only; rw [if_neg (not_not.mpr ho), Node.readDesc_none h]; rfl)

theorem qget_next (ho : s.node.rd (MSG_DQ.OWNER q) = e.val) (h1 : ((s.node.dq q).filter (·.read)).length < 16)
    (h2 : ((s.node.dq q).filter (·.read)).length < (s.node.dq q).length) : Does (.qget e rd q) s (fun m =>
      (rd ≠ 0 → m.g e rd = BitVec.ofNat 32 (dqAddr q (Tab.get (fun _ => 0) s.node.msg.qHead q + ((s.node.dq q).filter (·.read)).length)))
      ∧ (m.dq q)[((s.node.dq q).filter (·.read)).length]?
        = (s.node.dq q)[((s.node.dq q).filter (·.read)).length]?.map (fun d => { d with read := true })
      ∧ (∀ i, i ≠ ((s.node.dq q).filter (·.read)).length → (m.dq q)[i]? = (s.node.dq q)[i]?) ∧ m.pcOf e = s.node.pcOf e + 4) := by
  obtain ⟨haddr, hread⟩ := Node.readDesc_next h1 h2
  refine does_qget hf ho ⟨fun h0 => ?_, ?_, fun i hi => ?_, ?_⟩
  · rw [Node.finish_g_same, if_neg h0, haddr]
  · rw [Node.finish_dq, hread]
  · rw [Node.finish_dq, Node.readDesc_other h2 hi]
  · rw [Node.finish_pcOf, Node.pcOf_congr (s.node.readDesc_eng q)]

theorem qack_none (ho : s.node.rd (MSG_DQ.OWNER q) = e.val)
    (h : s.node.rd (MSG_DQ.READ q) ≤ (s.node.msg.qacks.filter (fun x => x = (e.val, q.val))).length) : Computes (.qack e rd q) s e rd 1 :=
  computes_finish hf rfl (by dsimp only; rw [if_neg (not_not.mpr ho), if_pos h])

theorem qack_noted (ho : s.node.rd (MSG_DQ.OWNER q) = e.val)
    (h : (s.node.msg.qacks.filter (fun x => x = (e.val, q.val))).length < s.node.rd (MSG_DQ.READ q)) : Does (.qack e rd q) s (fun m =>
      m.msg.qacks = s.node.msg.qacks ++ [(e.val, q.val)] ∧ m.g e rd = 0 ∧ m.dq q = s.node.dq q ∧ m.regs = s.node.regs
      ∧ m.pcOf e = s.node.pcOf e + 4) := by
  refine does_galek hf rfl ?_
  dsimp only
  rw [if_neg (not_not.mpr ho), if_neg (Nat.not_le.mpr h)]
  refine ⟨?_, ?_, ?_, ?_, ?_⟩
  · rw [Node.finish_msg]
  · rw [Node.finish_g_same]
    exact ite_self _
  · rw [Node.finish_dq]
    rfl
  · rw [Node.finish_regs]
  · rw [Node.finish_pcOf]
    rfl

/-- QWDR's answer where the withdrawal leaves the node as it is. -/
theorem computes_qwdr {code : Nat} {v : Word} (h : s.node.withdraw e ((s.node.g e ra).toNat % 256) (s.node.g e rb).toNat = (code, s.node))
    (hv : BitVec.ofNat 32 code = v) : Computes (.qwdr e rd ra rb) s e rd v :=
  computes_finish hf rfl (by dsimp only; rw [h, hv])

theorem qwdr_kills {f seq : Nat} {x : OutMsg} (hflow : (s.node.g e ra).toNat % 256 = f) (hseq : (s.node.g e rb).toNat = seq)
    (ho : s.node.ownFlow e f) (h : s.node.findOut f seq = some x) (hx : x.fresh (memberBits (s.node.members f))) :
    Does (.qwdr e rd ra rb) s (fun m => m.g e rd = 0 ∧ KillStarts s.node f seq .withdrawn m) := by
  obtain ⟨hprobes, hout⟩ := Node.startKill_starts (n := s.node) (f := f) hx.2.1 (Node.findOut_seq h) .withdrawn
  refine does_galek hf rfl ?_
  dsimp only
  rw [hflow, hseq, Node.withdraw_kills ho h hx]
  refine ⟨?_, ?_, ?_⟩
  · rw [Node.finish_g_same]
    exact ite_self _
  · rw [Node.finish_msg, hprobes]
  · rw [Node.finish_outMsgs, hout]

end

/-- Settles O7: one theorem for each clause. -/
theorem queueInstructions : Obligations.QueueInstructions := by
  unfold Obligations.QueueInstructions
  intro s e rd ra rb q hf n l read given f seq kind
  refine ⟨fun ho => ⟨qget_none hf ho, qget_next hf ho, qack_none hf ho, qack_noted hf ho⟩, fun h => ?_,
    fun hk ho => ⟨fun h => ?_, fun x h hk' ht hh hd hm => ?_⟩⟩
  · exact computes_qwdr hf (Node.withdraw_foreign h) rfl
  · exact computes_qwdr hf (Node.withdraw_none ⟨hk, ho⟩ h) rfl
  · exact qwdr_kills hf rfl rfl ⟨hk, ho⟩ h ⟨hk', ht, hh, hd, hm⟩

end Sys2Proof.Machine
end

section
/-! PROOFS. The receiver's side of messages, and the answers (06_messages.md R240, R254 to R257, R259, R261, R264). -/

namespace Sys2Proof.Machine

/-! ### Inbound flows and acknowledgements due -/

section
variable (n : Node) (f : Nat) (x : InFlow)

theorem Node.inFlow_congr {n m : Node} (h : m.msg.inb = n.msg.inb) (f : Nat) : m.inFlow f = n.inFlow f := by rw [Node.inFlow, h, Node.inFlow]

@[simp] theorem Node.setInFlow_inFlow : (n.setInFlow f x).inFlow f = x := Tab.get_set_same _ _ _ _

@[simp] theorem Node.count_inFlow (g : Field) : (n.count g).inFlow f = n.inFlow f := rfl

@[simp] theorem Node.memPut_inFlow (a : Nat) (bs : List Byte) : (n.memPut a bs).inFlow f = n.inFlow f := rfl

/-- Beside the flow's record, only the count of its held messages changes. -/
theorem Node.setInFlow_rd {g : Field} (h : (MSG_IFW4.HELD f).apart g = true) : (n.setInFlow f x).rd g = n.rd g :=
  Node.rd_wr_ne _ _ _ _ (by decide : 0 + 7 ≤ 32) h

/-- The count of a flow's held messages and a field outside the windows share no bit. -/
theorem Field.held_apart {g : Field} (h : g.addr < 4294967296) : (MSG_IFW4.HELD f).apart g = true :=
  Field.apart_of_addr_ne (winAddr_ne_of_lt h)

theorem Field.held_apart_rs : (MSG_IFW4.HELD f).apart (MSG_IFW3.RS f) = true :=
  Field.apart_of_addr_ne (winAddr_ne (by decide) (by decide) (by decide))

theorem Node.updIn_inFlow (seq : Nat) (g : InMsg → InMsg) : (n.updIn f seq g).inFlow f
    = { n.inFlow f with msgs := (n.inFlow f).msgs.map (fun m => if m.seq = seq then g m else m) } := n.setInFlow_inFlow _ _

@[simp] theorem Node.jchange_inFlow (p : JPiece) (len : Nat) : (n.jchange p len).inFlow f = n.inFlow f :=
  Node.inFlow_congr (by rw [n.jchange_msg]) f

theorem Node.ackDue_last (a : AckDue) : (n.ackDue a).msg.acks.getLast? = some a := by simp [Node.ackDue]

end

/-- The whole of a message in one piece covers its offsets. -/
theorem gotAll_whole {len : Nat} (h : 0 < len) : gotAll [(0, len)] len 1 0 = true := by
  simp [gotAll, h, Nat.not_le.mpr h]

/-- Does the node take message units: MSG on, in the active role (R240)? -/
abbrev Node.msgLives (n : Node) : Prop := n.on MSG_CTRL.EN = true ∧ n.isActive = true

/-- Where the node takes no units, or a unit is short, a unit's guard holds. -/
theorem Node.unitGuard {n : Node} {b : List Byte} {k : Nat} (h : ¬ n.msgLives ∨ b.length < k) :
    (!n.on MSG_CTRL.EN || !n.isActive || decide (b.length < k)) = true := by
  rw [Node.msgLives, not_and_or] at h
  simpa using h

theorem Node.unitGuard_open {n : Node} {b : List Byte} {k : Nat} (h : n.msgLives) (hb : k ≤ b.length) :
    ¬ (!n.on MSG_CTRL.EN || !n.isActive || decide (b.length < k)) = true := by
  obtain ⟨hen, hact⟩ := h
  simpa [hen, hact] using hb

/-! ### Segments (R240, R255, R257) -/

section
variable {n : Node} {b : List Byte} {f : Nat}

theorem Node.msgSeg_idle (h : ¬ n.msgLives ∨ b.length < 33) : n.msgSeg b = n := if_pos (Node.unitGuard h)

/-- The sender's UID, its flow and the sequence that a unit names (R252). -/
abbrev unitUid (b : List Byte) : Nat := le b 4 8
abbrev unitFlow (b : List Byte) : Nat := le b 2 1
abbrev unitSeq (b : List Byte) : Nat := le b 20 4

/-- A segment that the node looks at: it lives, the unit is long enough, for this node, and names a sequence (R238, R252). -/
abbrev Node.segFor (n : Node) (b : List Byte) : Prop :=
  n.msgLives ∧ 33 ≤ b.length ∧ n.forUs (bit (le b 1 1) 2) (le b 12 8) = true ∧ unitSeq b ≠ 0

theorem Node.msgSeg_noflow (h : n.segFor b) (hm : n.inMatch (unitUid b) (unitFlow b) = none) (hb : n.inBindable (unitFlow b) = none) :
    n.msgSeg b = ((n.count MSG_CNT_NOFLOW.VALUE).raise MSG_EVT.NOFLOW).ackDue ⟨unitUid b, unitFlow b, 1, none⟩ := by
  obtain ⟨hl, hlen, hfor, hq⟩ := h
  unfold Node.msgSeg
  rw [if_neg (Node.unitGuard_open hl hlen)]
  dsimp only
  rw [if_neg (by simpa [hfor] using hq), hm]
  dsimp only
  rw [hb]

theorem Node.msgSeg_known (h : n.segFor b) (hm : n.inMatch (unitUid b) (unitFlow b) = some f) (hr : (n.inFlow f).recorded = true) :
    n.msgSeg b = n.takeSegment f (unitUid b) (unitFlow b) (unitSeq b) (le b 24 2) (le b 26 2) (b.drop 32) := by
  obtain ⟨hl, hlen, hfor, hq⟩ := h
  unfold Node.msgSeg
  rw [if_neg (Node.unitGuard_open hl hlen)]
  dsimp only
  rw [if_neg (by simpa [hfor] using hq), hm]
  dsimp only
  rw [if_pos hr]

end

/-- A message whose first segment comes: flow record `x`, message `w` with the segment counted, the data in its store blocks, JRNL told. -/
def Node.segStored (n : Node) (f : Nat) (x : InFlow) (w : InMsg) (data : List Byte) : Node :=
  ((((n.setInFlow f x).memPut (blockAddr w.block + 64) data).updIn f w.seq (fun _ => w)).count MSG_CNT_SEGRX.VALUE).jchange
    (.bytes (blockAddr w.block + 64 - jrnlBase) data.length) data.length

/-- One run of bytes of a change: written to JRNL, and sent to the partner (R434). -/
def Node.jput (n : Node) (b : Nat × List Byte) : Node :=
  let n := n.memPut (jrnlBase + b.1) b.2
  if n.mirroring then Node.jrnlFrames 5 n b.1 b.2 else n

theorem Node.jput_mem (n : Node) (b : Nat × List Byte) : (n.jput b).mem = (n.memPut (jrnlBase + b.1) b.2).mem :=
  ((LinkOnly.jrnlFrames 5 _ _ _).cond (LinkOnly.refl (n.memPut (jrnlBase + b.1) b.2))).mem

theorem Node.jchange_mem (n : Node) (p : JPiece) (len : Nat) : (n.jchange p len).mem = ((n.pieceBytes p).foldl Node.jput n).mem := by
  unfold Node.jchange
  dsimp only
  split <;> rfl

/-- Bytes written where they stand change nothing. -/
theorem Node.memByte_memPut_memBytes (n : Node) (a len x : Nat) : (n.memPut a (n.memBytes a len)).memByte x = n.memByte x := by
  by_cases h : a ≤ x ∧ x < a + len
  · obtain ⟨i, rfl⟩ := Nat.exists_eq_add_of_le h.1
    rw [n.memPut_byte_in _ _ i (by rw [Node.memBytes_length]; omega)]
    simp [Node.memBytes, upTo]
  · exact n.memPut_byte_out _ _ x (by rw [Node.memBytes_length]; omega)

/-- JRNL bytes told as changed stay as they are. -/
theorem Node.jchange_bytes_memByte (n : Node) (off l len x : Nat) : (n.jchange (.bytes off l) len).memByte x = n.memByte x := by
  rw [← n.memByte_memPut_memBytes (jrnlBase + off) ((l + 3) / 4 * 4) x, Node.memByte, Node.memByte, Node.jchange_mem]
  exact congrArg (Tab.get memBlank · x) (n.jput_mem _)

section
variable {n : Node} {f uid sf seq len : Nat} {data : List Byte} {x : InFlow} {w w0 : InMsg}

theorem Node.takeSegment_dup (h : seqResolved (n.rd (MSG_IFW3.RS f)) seq = true) (off : Nat) :
    n.takeSegment f uid sf seq len off data = (n.count MSG_CNT_DUP.VALUE).ackDue ⟨uid, sf, 0, some f⟩ := by
  unfold Node.takeSegment
  simp only [h, Bool.true_or, if_true]

/-- The first segment of an expected message that finds room (R257). -/
theorem Node.takeSegment_first {k : Nat} {m : Node} (hres : seqResolved (n.rd (MSG_IFW3.RS f)) seq = false) (hk : (n.inFlow f).killed = [])
    (hm : (n.inFlow f).msgs = []) (hd : seqDist (n.rd (MSG_IFW3.RS f)) seq ≤ 64) (ha : n.storeAlloc (1 + (len + 63) / 64) = some (k, m))
    (hl : data.length ≤ len) : ∃ (x : InFlow) (w0 w : InMsg), x.msgs = [w0] ∧ w0.seq = w.seq ∧ w.seq = seq ∧ w.len = len ∧ w.accepting = false
      ∧ w.got = [(0, data.length)] ∧ n.takeSegment f uid sf seq len 0 data = (m.segStored f x w data).tryHold f uid sf w := by
  unfold Node.takeSegment
  simp only [hres, hk, hm, List.contains_nil, List.find?_nil, Option.any_none, Bool.or_false, Bool.false_eq_true, if_false,
    Nat.not_lt.mpr hd, ha, Option.map_some, Nat.zero_add, Nat.not_lt.mpr hl, List.nil_append]
  exact ⟨_, ⟨seq, len, k, 1 + (len + 63) / 64, [], false, false, false, false, 0⟩,
    ⟨seq, len, k, 1 + (len + 63) / 64, [(0, data.length)], false, false, false, false, _⟩, rfl, rfl, rfl, rfl, rfl, rfl, rfl⟩

/-- An inbound message put to wait for its acceptance (R257). -/
def Node.awaitIn (n : Node) (f seq : Nat) : Node :=
  { n.updIn f seq (fun m => { m with accepting := true }) with
    msg := { (n.updIn f seq (fun m => { m with accepting := true })).msg with accq := n.msg.accq ++ [AccItem.inbound f seq] } }

theorem Node.awaitIn_rd (n : Node) {g : Field} (h : g.addr < 4294967296) : (n.awaitIn f seq).rd g = n.rd g :=
  Node.setInFlow_rd _ _ _ (Field.held_apart f h)

theorem Node.awaitIn_msgs (n : Node) (h : (n.inFlow f).msgs = [w]) : ((n.awaitIn f w.seq).inFlow f).msgs = [{ w with accepting := true }] := by
  rw [Node.inFlow_congr (m := n.awaitIn f w.seq) (n := n.updIn f w.seq _) rfl, Node.updIn_inFlow]
  simp [h]

/-- A complete message waits for its acceptance (R257). -/
theorem Node.tryHold_whole (ha : w.accepting = false) (hg : gotAll w.got w.len w.got.length 0 = true) (hm : n.acceptMode ≠ 0) :
    n.tryHold f uid sf w = n.awaitIn f w.seq := by
  unfold Node.tryHold
  rw [if_neg (by simp [ha, hg]), if_neg hm]
  rfl

/-- The acceptance mode hangs on these fields only (R33 to R36). -/
abbrev acceptFields : List Field := [MSG_CTRL.EN, PAIR_STATUS.SYNC, PAIR_STATUS.LINK, MSG_CTRL.PERSIST, QSPI_STATUS.READY 1]

theorem acceptFields_apart : ∀ g ∈ acceptFields,
    g.addr < 4294967296 ∧ recReg g.addr = false ∧ MSG_CNT_SEGRX.VALUE.apart g = true := by decide

theorem Node.acceptMode_congr {n m : Node} (h : ∀ g ∈ acceptFields, m.rd g = n.rd g) : m.acceptMode = n.acceptMode := by
  have hon (g : Field) (hg : g ∈ acceptFields) : m.on g = n.on g := by rw [Node.on, h g hg, Node.on]
  unfold Node.acceptMode Node.pairAccept Node.soloAccept
  rw [hon MSG_CTRL.EN (by decide), hon PAIR_STATUS.SYNC (by decide), hon PAIR_STATUS.LINK (by decide),
    hon MSG_CTRL.PERSIST (by decide), hon (QSPI_STATUS.READY 1) (by decide)]

/-- What stands before the segment is counted: the flow's record, the data, the message. -/
theorem Node.segStored_before (n : Node) (g : Field) (h : g.addr < 4294967296) :
    (((n.setInFlow f x).memPut (blockAddr w.block + 64) data).updIn f w.seq (fun _ => w)).rd g = n.rd g :=
  (Node.setInFlow_rd _ _ _ (Field.held_apart f h)).trans (n.setInFlow_rd _ _ (Field.held_apart f h))

theorem Node.segStored_counted : Counted MSG_CNT_SEGRX.VALUE n (n.segStored f x w data) := by
  rw [Counted, Node.segStored, (Recorded.jchange _ _ _).rd _ (by decide), Node.rd_count_same _ _ (by decide),
    n.segStored_before _ (by decide)]

theorem Node.segStored_rd {g : Field} (hg : g.addr < 4294967296) (hr : recReg g.addr = false)
    (ha : MSG_CNT_SEGRX.VALUE.apart g = true) : (n.segStored f x w data).rd g = n.rd g := by
  rw [Node.segStored, (Recorded.jchange _ _ _).rd g hr, Node.rd_count_ne _ _ _ (by decide) ha, n.segStored_before g hg]

theorem Node.segStored_acceptMode : (n.segStored f x w data).acceptMode = n.acceptMode :=
  Node.acceptMode_congr fun g hg => by
    obtain ⟨ha, hr, hs⟩ := acceptFields_apart g hg
    exact Node.segStored_rd ha hr hs

theorem Node.setInFlow_accq (n : Node) (f : Nat) (x : InFlow) : (n.setInFlow f x).msg.accq = n.msg.accq := rfl

theorem Node.updIn_accq (n : Node) (f : Nat) (g : InMsg → InMsg) : (n.updIn f seq g).msg.accq = n.msg.accq := rfl

theorem Node.segStored_accq : (n.segStored f x w data).msg.accq = n.msg.accq := by
  rw [Node.segStored, Node.jchange_accq, Node.count_msg, Node.updIn_accq, Node.memPut_msg, Node.setInFlow_accq]

theorem Node.segStored_msgs (hx : x.msgs = [w0]) (hw : w0.seq = w.seq) : ((n.segStored f x w data).inFlow f).msgs = [w] := by
  rw [Node.segStored, Node.jchange_inFlow, Node.count_inFlow, Node.updIn_inFlow, Node.memPut_inFlow, Node.setInFlow_inFlow]
  simp [hx, hw]

theorem Node.segStored_data : (n.segStored f x w data).memBytes (blockAddr w.block + 64) data.length = data := by
  refine Eq.trans ?_ (Node.memBytes_memPut (n.setInFlow f x) (a := blockAddr w.block + 64) rfl)
  exact List.map_congr_left fun i _ => Node.jchange_bytes_memByte _ _ _ _ _

/-- A whole message in one segment: it is stored, counted, and waits for its acceptance (R257). -/
theorem Node.takeSegment_whole (hres : seqResolved (n.rd (MSG_IFW3.RS f)) seq = false) (hk : (n.inFlow f).killed = [])
    (hm : (n.inFlow f).msgs = []) (hd : seqDist (n.rd (MSG_IFW3.RS f)) seq ≤ 64)
    (ha : (n.storeAlloc (1 + (data.length + 63) / 64)).isSome = true) (hl : 0 < data.length) (hmode : n.acceptMode ≠ 0) :
    let m := n.takeSegment f uid sf seq data.length 0 data
    Counted MSG_CNT_SEGRX.VALUE n m ∧ m.msg.accq = n.msg.accq ++ [.inbound f seq]
      ∧ ∃ w, (m.inFlow f).msgs = [w] ∧ w.seq = seq ∧ w.len = data.length ∧ w.accepting = true
        ∧ m.memBytes (blockAddr w.block + 64) data.length = data := by
  obtain ⟨⟨k, m⟩, halloc⟩ := Option.isSome_iff_exists.mp ha
  have hrec : Recorded n m := Recorded.storeAlloc n _ _ halloc
  have hmsg := Node.storeAlloc_msg halloc
  obtain ⟨x, w0, w, hx, hw0, hseq, hlen, hacc, hgot, heq⟩ := Node.takeSegment_first (uid := uid) (sf := sf) hres hk hm hd halloc le_rfl
  have hmode' : (m.segStored f x w data).acceptMode ≠ 0 := by
    rwa [Node.segStored_acceptMode, Node.acceptMode_congr fun g hg => hrec.rd g (acceptFields_apart g hg).2.1]
  rw [Node.tryHold_whole hacc (by rw [hgot, hlen]; exact gotAll_whole hl) hmode'] at heq
  intro m'
  have hm' : m' = (m.segStored f x w data).awaitIn f w.seq := heq
  rw [hm']
  refine ⟨?_, ?_, _, Node.awaitIn_msgs _ (Node.segStored_msgs hx hw0), hseq, hlen, rfl, ?_⟩
  · have hs : Counted _ m (m.segStored f x w data) := m.segStored_counted
    rwa [Counted, ← Node.awaitIn_rd (f := f) (seq := w.seq) _ (by decide), hrec.rd _ (by decide)] at hs
  · rw [← hseq, ← congrArg MsgState.accq hmsg, ← m.segStored_accq (f := f) (x := x) (w := w) (data := data)]
    rfl
  · exact Node.segStored_data

end
/-! ### Acknowledgements (R254, R259) -/

section
variable {n m : Node} {f who : Nat} {x y : OutMsg} {b : List Byte}

/-- From `n` to `m` no register of a window other than MSG_OFW's word 3 has changed. -/
def Word3Only (n m : Node) : Prop :=
  ∀ a i lo w, a < 4294967296 → a ≠ 0x40028070 → m.rd ⟨winAddr a i, lo, w⟩ = n.rd ⟨winAddr a i, lo, w⟩

/-- The members of a flow stand in other words of the windows (R254, R274, R276). -/
theorem Word3Only.members (h : Word3Only n m) (f : Nat) : m.members f = n.members f := by
  have hlo (i : Nat) : m.rd (MSG_MLUID_LO.UID_LO i) = n.rd (MSG_MLUID_LO.UID_LO i) := h _ _ _ _ (by decide) (by decide)
  have hhi (i : Nat) : m.rd (MSG_MLUID_HI.UID_HI i) = n.rd (MSG_MLUID_HI.UID_HI i) := h _ _ _ _ (by decide) (by decide)
  have hkind : m.rd (MSG_OFW0.DKIND f) = n.rd (MSG_OFW0.DKIND f) := h _ _ _ _ (by decide) (by decide)
  have hlist : m.rd (MSG_OFW0.MLIST f) = n.rd (MSG_OFW0.MLIST f) := h _ _ _ _ (by decide) (by decide)
  have hdlo : m.rd (MSG_OFW1.DEST_LO f) = n.rd (MSG_OFW1.DEST_LO f) := h _ _ _ _ (by decide) (by decide)
  have hdhi : m.rd (MSG_OFW2.DEST_HI f) = n.rd (MSG_OFW2.DEST_HI f) := h _ _ _ _ (by decide) (by decide)
  unfold Node.members Node.rd64
  simp only [hlo, hhi, hkind, hlist, hdlo, hdhi]

/-- Flow `f` after an answer: the answer's status noted, its one message as `y`. -/
def Node.answered (n : Node) (f status : Nat) (y : OutMsg) : Node := (n.wr (MSG_OFW3.RSTAT f) status).setOutMsgs f [y]

theorem Node.answered_word3 (status : Nat) : Word3Only n (n.answered f status y) := fun a i lo w ha hne => by
  have hout : (MSG_OFW3.OUTSTANDING f).apart ⟨winAddr a i, lo, w⟩ = true := Field.apart_of_addr_ne (winAddr_ne (by decide) ha hne.symm)
  have hstat : (MSG_OFW3.RSTAT f).apart ⟨winAddr a i, lo, w⟩ = true := Field.apart_of_addr_ne (winAddr_ne (by decide) ha hne.symm)
  rw [Node.answered, Node.setOutMsgs_rd _ _ _ hout, Node.rd_wr_ne _ _ _ _ (by decide : 7 + 3 ≤ 32) hstat]

theorem Node.answered_outMsgs (status : Nat) : (n.answered f status y).outMsgs f = [y] := Node.setOutMsgs_outMsgs _ _ _

@[simp] theorem memberBits_first (who : Nat) : memberBits [(0, who)] = 1 := by simp [memberBits]

/-- A message that its one destination has delivered leaves without a report (R254, R265). -/
theorem Node.settleOut_delivered (h : n.outMsgs f = [y]) (hm : n.members f = [(0, who)]) (ha : y.accepted = true) (hr : y.reported = false)
    (hcov : covers y.delivered 1 = true) (hk : y.killed = 0) (hd : n.on (MSG_OFW0.DELREP f) = false) : (n.settleOut f y.seq).outMsgs f = [] := by
  have hall : resolvedAll [(0, who)] y = true := by simpa [resolvedAll, hk] using hcov
  have hkept : ((n.storeFree y.block).jchange (.outFlow f) 64).on (MSG_OFW0.DELREP f) = false := by
    have hstored : Recorded n ((n.storeFree y.block).jchange (.outFlow f) 64) := (Recorded.storeFree _ _).trans (Recorded.jchange _ _ _)
    exact (hstored.on (MSG_OFW0.DELREP f) (recReg_winAddr _ _)).trans hd
  have hout : ((n.storeFree y.block).jchange (.outFlow f) 64).outMsgs f = [y] := (Node.jchange_outMsgs _ _ _ _).trans h
  unfold Node.settleOut
  simp only [h, hm, hall, hkept, hout, finalCode, hk, ha, hr, List.find?_cons, decide_true, Bool.not_false, Bool.and_self, if_true,
    Node.setOutMsgs_outMsgs]
  simp

/-- A message that its one destination holds stays; its body may leave the store (R247). -/
theorem Node.settleOut_held (h : n.outMsgs f = [y]) (hm : n.members f = [(0, who)]) (hcov : covers (y.delivered ||| y.killed) 1 = false) :
    ((n.settleOut f y.seq).outMsgs f).map (fun o => (o.seq, o.held, o.delivered)) = [(y.seq, y.held, y.delivered)] := by
  unfold Node.settleOut
  rw [h, hm]
  cases hf : [y].find? (fun m => m.seq = y.seq && m.accepted && !m.reported) with
  | none => simp [h]
  | some z =>
    obtain rfl : z = y := by simpa using List.mem_of_find?_eq_some hf
    have hall : resolvedAll [(0, who)] z = false := by rw [resolvedAll, memberBits_first, hcov]
    simp only [hall, Bool.false_eq_true, if_false]
    split
    · rw [Node.updOut_outMsgs]
      have : (n.storeTrim z.block 1).outMsgs f = [z] := h
      simp [this]
    · simp [h]


/-- Does the node take the acknowledgement `b`: it lives, the unit is long enough, and its source is the flow's (R254)? -/
abbrev Node.ackFor (n : Node) (b : List Byte) : Prop :=
  n.msgLives ∧ 48 ≤ b.length ∧ Tab.get (fun _ => 0) n.msg.flowSrc (unitFlow b) ≠ 0 ∧ unitUid b = Tab.get (fun _ => 0) n.msg.flowSrc (unitFlow b)

theorem Node.msgAck_guard (h : n.ackFor b) : ¬ (!n.on MSG_CTRL.EN || !n.isActive || b.length < 48
    || Tab.get (fun _ => 0) n.msg.flowSrc (le b 2 1) = 0 || le b 4 8 ≠ Tab.get (fun _ => 0) n.msg.flowSrc (le b 2 1)) = true := by
  obtain ⟨hl, hb, hs, he⟩ := h
  have hopen := Node.unitGuard_open hl hb
  simp only [Bool.or_eq_true, decide_eq_true_eq, not_or] at hopen ⊢
  exact ⟨⟨hopen, hs⟩, not_not.mpr he⟩

theorem Node.msgAck_idle (h : ¬ n.msgLives ∨ b.length < 48) : n.msgAck b = n := by
  unfold Node.msgAck
  dsimp only
  rw [if_pos (by rw [Node.unitGuard h, Bool.true_or, Bool.true_or])]

theorem Node.msgAck_unlisted (h : n.ackFor b)
    (hm : (n.members (unitFlow b)).find? (fun m => m.2 = le b 12 8 || n.partnerUid m.2 = le b 12 8) = none) :
    n.msgAck b = n.count MSG_CNT_NOTLISTED.VALUE := by
  unfold Node.msgAck
  dsimp only
  rw [if_neg (Node.msgAck_guard h), hm]

/-- An acknowledgement of the one message of a flow to one destination: marked, then settled (R254, R259). -/
theorem Node.msgAck_one (h : n.ackFor b) (hm : n.members (unitFlow b) = [(0, le b 12 8)]) (hs : le b 1 1 = 0)
    (ho : n.outMsgs (unitFlow b) = [x]) (ha : x.accepted = true) (hr : x.reported = false)
    (hy : ackOne (unitSeq b) (le b 24 8) (le b 32 8) (le b 40 8) 0 x = y) :
    (n.msgAck b).outMsgs (unitFlow b) = ((n.answered (unitFlow b) 0 y).settleOut (unitFlow b) y.seq).outMsgs (unitFlow b) := by
  have hlist : (n.wr (MSG_OFW3.RSTAT (unitFlow b)) 0).outMsgs (unitFlow b) = [x] := (Node.wr_outMsgs _ _ _ _).trans ho
  unfold Node.msgAck
  dsimp only
  rw [if_neg (Node.msgAck_guard h), hm]
  simp only [List.find?_cons, decide_true, Bool.true_or, hs, hlist, List.map_cons, List.map_nil, ha, hr, hy, zero_ne_one,
    if_false, Bool.not_false, Bool.and_self, if_true, Node.setOutMsgs_outMsgs, List.foldl_cons, List.foldl_nil]
  rw [Node.wrB, Node.wr_outMsgs, Node.answered]

/-- An answer up to a message that it does not name as killed: the destination has delivered the message (R254). -/
theorem ackOne_delivered {rs past held kill : Nat} (hr : seqResolved rs x.seq = true)
    (hp : 64 ≤ seqDist x.seq rs ∨ bit past (seqDist x.seq rs) = false) :
    ackOne rs past held kill 0 x = { x with delivered := x.delivered ||| 1, held := x.held ||| 1 } := by
  have hno : ¬ (decide (seqDist x.seq rs < 64) && bit past (seqDist x.seq rs)) = true := by
    simpa [imp_iff_not_or] using hp
  exact (if_pos hr).trans (if_neg hno)

/-- An answer that names a message as held (R254). -/
theorem ackOne_held {rs past held kill : Nat} (hr : seqResolved rs x.seq = false) (hd : seqDist rs x.seq - 1 < 64)
    (hk : bit kill (seqDist rs x.seq - 1) = false) (hh : bit held (seqDist rs x.seq - 1) = true) :
    ackOne rs past held kill 0 x = { x with held := x.held ||| 1 } := by
  have hno : ¬ (decide (seqDist rs x.seq - 1 < 64) && bit kill (seqDist rs x.seq - 1)) = true := by simp [hk]
  have hyes : (decide (seqDist rs x.seq - 1 < 64) && bit held (seqDist rs x.seq - 1)) = true := by simp [hd, hh]
  exact (if_neg (by simp [hr])).trans ((if_neg hno).trans (if_pos hyes))

theorem covers_first (a : Nat) : covers (a ||| 1) 1 = true := by
  simp [covers]

end

end Sys2Proof.Machine
end

section
/-! PROOFS. Probes, the handing of messages and discarded parts (06_messages.md R255, R259, R261, R264). -/

namespace Sys2Proof.Machine

/-! ### Probes (R259, R263, R264) -/

section
variable {n : Node} {f seq : Nat} {b : List Byte}

/-- A probe that the node looks at (R238, R264). -/
abbrev Node.probeFor (n : Node) (b : List Byte) : Prop := n.msgLives ∧ 32 ≤ b.length ∧ n.forUs (bit (le b 1 1) 1) (le b 12 8) = true

theorem Node.msgProbe_idle (h : ¬ n.msgLives ∨ b.length < 32) : n.msgProbe b = n := if_pos (Node.unitGuard h)

theorem Node.msgProbe_noflow (h : n.probeFor b) (hm : n.inMatch (unitUid b) (unitFlow b) = none) :
    n.msgProbe b = n.ackDue ⟨unitUid b, unitFlow b, 1, none⟩ := by
  obtain ⟨hl, hlen, hfor⟩ := h
  unfold Node.msgProbe
  rw [if_neg (Node.unitGuard_open hl hlen)]
  dsimp only
  rw [if_neg (by simp [hfor]), hm]

theorem Node.msgProbe_asks (h : n.probeFor b) (hm : n.inMatch (unitUid b) (unitFlow b) = some f) (hk : bit (le b 1 1) 0 = false) :
    n.msgProbe b = n.ackDue ⟨unitUid b, unitFlow b, 0, some f⟩ := by
  obtain ⟨hl, hlen, hfor⟩ := h
  unfold Node.msgProbe
  rw [if_neg (Node.unitGuard_open hl hlen)]
  dsimp only
  rw [if_neg (by simp [hfor]), hm]
  dsimp only
  rw [if_pos (by simp [hk])]

theorem seqAdd_zero {q : Nat} (h0 : q ≠ 0) (h : q < 4294967296) : seqAdd q 0 = q := by
  rw [seqAdd, if_neg (by simp [h0])]
  omega

/-- The map of one message names the first. -/
theorem bit_one_upTo : (upTo 64).filter (bit 1) = [0] := by decide

/-- One message killed unseen, before RS advances (R264). -/
def Node.killUnseen (n : Node) (f seq : Nat) : Node :=
  (n.setInFlow f { n.inFlow f with msgs := [], killed := [seq] }).count MSG_CNT_KILLED.VALUE

theorem Node.killUnseen_inFlow : ((n.killUnseen f seq).inFlow f).killed = [seq] := by
  rw [Node.killUnseen, Node.count_inFlow, Node.setInFlow_inFlow]

theorem Node.killUnseen_rs : (n.killUnseen f seq).rd (MSG_IFW3.RS f) = n.rd (MSG_IFW3.RS f) := by
  have hc : MSG_CNT_KILLED.VALUE.apart (MSG_IFW3.RS f) = true := Field.apart_window (by decide)
  rw [Node.killUnseen, Node.rd_count_ne _ _ _ (by decide) hc, n.setInFlow_rd _ _ (Field.held_apart_rs f)]

theorem Node.killUnseen_counted : Counted MSG_CNT_KILLED.VALUE n (n.killUnseen f seq) := by
  rw [Counted, Node.killUnseen, Node.rd_count_same _ _ (by decide), n.setInFlow_rd _ _ (Field.held_apart f (by decide))]

/-- A killed message that comes next advances RS, and is past (R264). -/
theorem Node.advanceRs_next (h : (n.inFlow f).killed = [seq]) (hs : seqAdd (n.rd (MSG_IFW3.RS f)) 1 = seq) :
    ∃ x : InFlow, Node.advanceRs f 1 n = (n.setInFlow f x).wr (MSG_IFW3.RS f) seq := by
  unfold Node.advanceRs
  dsimp only
  rw [hs, if_pos (by simp [h])]
  exact ⟨_, rfl⟩

theorem Node.advanceRs_later (h : (n.inFlow f).killed = [seq]) (hs : seqAdd (n.rd (MSG_IFW3.RS f)) 1 ≠ seq) :
    Node.advanceRs f 1 n = n := by
  unfold Node.advanceRs
  exact if_neg (by simpa [h] using hs)

/-- A killing probe of one message that no store holds (R259, R264). -/
theorem Node.msgProbe_kills (h : n.probeFor b) (hm : n.inMatch (unitUid b) (unitFlow b) = some f) (hk : bit (le b 1 1) 0 = true)
    (hmap : le b 24 8 = 1) (hq : unitSeq b ≠ 0) (hres : seqResolved (n.rd (MSG_IFW3.RS f)) (unitSeq b) = false)
    (hkilled : (n.inFlow f).killed = []) (hmsgs : (n.inFlow f).msgs = []) :
    n.msgProbe b = ((Node.advanceRs f 1 (n.killUnseen f (unitSeq b))).jchange (.inFlow f) 64).ackDue ⟨unitUid b, unitFlow b, 0, some f⟩ := by
  obtain ⟨hl, hlen, hfor⟩ := h
  have hseq : seqAdd (unitSeq b) 0 = unitSeq b := seqAdd_zero hq (le_lt _ _ _)
  unfold Node.msgProbe
  rw [if_neg (Node.unitGuard_open hl hlen)]
  dsimp only
  rw [if_neg (by simp [hfor]), hm]
  dsimp only
  rw [if_neg (by simp [hk]), hmap, bit_one_upTo, List.map_singleton, hseq, List.foldl_cons, List.foldl_nil,
    if_neg (by simp [hres, hkilled, hmsgs])]
  simp only [hmsgs, hkilled, List.find?_nil, List.filter_nil, List.nil_append]
  rw [← Node.killUnseen, Node.killUnseen_inFlow]
  rfl

/-- What the kill leaves: it is counted, and RS or the list of the killed names the message (R264). -/
theorem Node.advanceRs_killUnseen (hlt : seq < 4294967296) :
    let m := Node.advanceRs f 1 (n.killUnseen f seq)
    Counted MSG_CNT_KILLED.VALUE n m
      ∧ if seq = seqAdd (n.rd (MSG_IFW3.RS f)) 1 then m.rd (MSG_IFW3.RS f) = seq else (m.inFlow f).killed = [seq] := by
  intro m
  have hk : ((n.killUnseen f seq).inFlow f).killed = [seq] := Node.killUnseen_inFlow
  have hrs : (n.killUnseen f seq).rd (MSG_IFW3.RS f) = n.rd (MSG_IFW3.RS f) := Node.killUnseen_rs
  have hcount : Counted MSG_CNT_KILLED.VALUE n (n.killUnseen f seq) := Node.killUnseen_counted
  by_cases hs : seq = seqAdd (n.rd (MSG_IFW3.RS f)) 1
  · obtain ⟨x, hx⟩ := Node.advanceRs_next hk (by rw [hrs, ← hs])
    have hw : (MSG_IFW3.RS f).apart MSG_CNT_KILLED.VALUE = true := Field.apart_of_addr_ne (winAddr_ne_of_lt (by decide))
    have hm : m = _ := hx
    rw [hm, if_pos hs, Node.rd_wr_same _ _ _ (by decide : 0 + 32 ≤ 32)]
    refine ⟨?_, Nat.mod_eq_of_lt hlt⟩
    rwa [Counted, Node.rd_wr_ne _ _ _ _ (by decide : 0 + 32 ≤ 32) hw, Node.setInFlow_rd _ _ _ (Field.held_apart f (by decide))]
  · have hm : m = n.killUnseen f seq := Node.advanceRs_later hk (by rw [hrs]; exact Ne.symm hs)
    rw [hm, if_neg hs]
    exact ⟨hcount, hk⟩

end
/-! ### Handing in sequence, and discarded parts (R255, R259, R261) -/

section
variable {n : Node} {f q : Nat} {y : InMsg}

theorem seqAdd_one_ne (s : Nat) : seqAdd s 1 ≠ s := by
  rw [seqAdd, if_neg (by simp)]
  omega

@[simp] theorem Node.enqueue_inFlow (n : Node) (q f : Nat) (d : Desc) : (n.enqueue q d).inFlow f = n.inFlow f := by
  rw [Node.enqueue, Node.jchange_inFlow]
  rfl

theorem Node.enqueue_dq (n : Node) (q : Nat) (d : Desc) : (n.enqueue q d).dq q = n.dq q ++ [d] := by
  rw [Node.enqueue, Node.dq, Node.jchange_msg]
  exact Node.setDq_dq _ _ _

/-- The descriptor of a message handed (R259). -/
def Node.handDesc (n : Node) (f : Nat) (y : InMsg) : Desc :=
  ⟨false, y.redelivered, f, 0, y.seq, blockAddr y.block + 64, y.len, n.rd (MSG_IFW0.SRCFLOW f), 0, 0, false⟩

/-- A message handed: its descriptor queued, the message marked (R259). -/
def Node.handed (n : Node) (f : Nat) (y : InMsg) : Node :=
  (n.enqueue (n.rd (MSG_IFW0.DQ f)) (n.handDesc f y)).updIn f y.seq (fun m => { m with handed := true })

theorem Node.handed_inFlow (h : (n.inFlow f).msgs = [y]) : (n.handed f y).inFlow f = { n.inFlow f with msgs := [{ y with handed := true }] } := by
  rw [Node.handed, Node.updIn_inFlow, Node.enqueue_inFlow]
  simp [h]

theorem Node.handed_dq : (n.handed f y).dq (n.rd (MSG_IFW0.DQ f)) = n.dq (n.rd (MSG_IFW0.DQ f)) ++ [n.handDesc f y] := by
  rw [← Node.enqueue_dq]
  rfl

theorem Node.handed_rs : (n.handed f y).rd (MSG_IFW3.RS f) = n.rd (MSG_IFW3.RS f) := by
  have hq : n.rd (MSG_IFW0.DQ f) < 16 := bits_lt _ _ _
  have hk : FlowsKept n (n.enqueue (n.rd (MSG_IFW0.DQ f)) (n.handDesc f y)) := FlowsKept.enqueue n hq _
  exact (Node.setInFlow_rd _ _ _ (Field.held_apart_rs f)).trans (hk.rd _ (keptReg_winAddr _ _))

theorem nextToHand_first {x : InFlow} {k s : Nat} (hm : x.msgs = [y]) (hk : x.killed = []) (hh : y.handed = false) :
    nextToHand x (k + 1) s = s := by
  rw [nextToHand, hm, hk]
  simp [hh]

theorem nextToHand_second {x : InFlow} {k : Nat} (hm : x.msgs = [y]) (hk : x.killed = []) (hh : y.handed = true) :
    nextToHand x (k + 2) y.seq = seqAdd y.seq 1 := by
  have hne : y.seq ≠ seqAdd y.seq 1 := (seqAdd_one_ne _).symm
  rw [nextToHand, if_pos (by simp [hm, hh]), nextToHand, if_neg (by simp [hm, hk, hne])]

/-- Where the flow's one message is the next and its queue has room, it is handed, and the rest of the handing goes on from there (R259). -/
theorem Node.handAll_first {k : Nat} (hm : (n.inFlow f).msgs = [y]) (hk : (n.inFlow f).killed = []) (hheld : y.held = true)
    (hh : y.handed = false) (hs : y.seq = seqAdd (n.rd (MSG_IFW3.RS f)) 1) (hr : (n.dq (n.rd (MSG_IFW0.DQ f))).length < 256) :
    ∃ a, Node.handAll f (k + 1) n = Node.handAll f k ((n.handed f y).ackDue a) := by
  rw [Node.handAll, ← hs]
  dsimp only
  rw [nextToHand_first hm hk hh, hm]
  simp only [List.find?_cons, decide_true, hheld, Bool.and_self, hr, if_true]
  exact ⟨_, rfl⟩

/-- Where the flow's one message is handed, the handing is over (R259). -/
theorem Node.handAll_done {k : Nat} (hm : (n.inFlow f).msgs = [y]) (hk : (n.inFlow f).killed = []) (hh : y.handed = true)
    (hs : y.seq = seqAdd (n.rd (MSG_IFW3.RS f)) 1) : ∃ v, Node.handAll f (k + 1) n = n.wrB (MSG_IFW4.WAITGAP f) v := by
  have hne : y.seq ≠ seqAdd y.seq 1 := (seqAdd_one_ne _).symm
  rw [Node.handAll, ← hs]
  dsimp only
  rw [nextToHand_second hm hk hh, hm]
  simp only [List.find?_cons, hne, decide_false, Bool.false_and, List.find?_nil]
  exact ⟨_, rfl⟩

theorem Node.handAll_one (hm : (n.inFlow f).msgs = [y]) (hk : (n.inFlow f).killed = []) (hheld : y.held = true) (hh : y.handed = false)
    (hs : y.seq = seqAdd (n.rd (MSG_IFW3.RS f)) 1) (hr : (n.dq (n.rd (MSG_IFW0.DQ f))).length < 256) :
    ∃ a v, Node.handAll f 64 n = ((n.handed f y).ackDue a).wrB (MSG_IFW4.WAITGAP f) v := by
  obtain ⟨a, ha⟩ := Node.handAll_first (k := 63) hm hk hheld hh hs hr
  have hflow : ((n.handed f y).ackDue a).inFlow f = { n.inFlow f with msgs := [{ y with handed := true }] } := Node.handed_inFlow hm
  have hrs : ((n.handed f y).ackDue a).rd (MSG_IFW3.RS f) = n.rd (MSG_IFW3.RS f) := Node.handed_rs
  obtain ⟨v, hv⟩ := Node.handAll_done (k := 62) (y := { y with handed := true }) (by rw [hflow]) (by rw [hflow]; exact hk) rfl (by rw [hrs]; exact hs)
  exact ⟨a, v, ha.trans hv⟩

end
/-! ### The commands -/

section
variable {s : State} {u : UnitRx} {f : Nat} {x : OutMsg} {y : InMsg}

theorem msgSeg_stores (hr : s.node.running = true) (h : s.node.segFor u.body)
    (hm : s.node.inMatch (unitUid u.body) (unitFlow u.body) = some f) (hrec : (s.node.inFlow f).recorded = true)
    (hres : seqResolved (s.node.rd (MSG_IFW3.RS f)) (unitSeq u.body) = false) (hk : (s.node.inFlow f).killed = [])
    (hmsgs : (s.node.inFlow f).msgs = []) (hd : seqDist (s.node.rd (MSG_IFW3.RS f)) (unitSeq u.body) ≤ 64)
    (ha : (s.node.storeAlloc (1 + (le u.body 24 2 + 63) / 64)).isSome = true) (ho : le u.body 26 2 = 0)
    (hl : (u.body.drop 32).length = le u.body 24 2) (hmode : s.node.acceptMode ≠ 0) : Does (.msgSeg u) s (fun m =>
      Counted MSG_CNT_SEGRX.VALUE s.node m ∧ m.msg.accq = s.node.msg.accq ++ [.inbound f (unitSeq u.body)]
      ∧ ∃ w, (m.inFlow f).msgs = [w] ∧ w.seq = unitSeq u.body ∧ w.len = le u.body 24 2 ∧ w.accepting = true
        ∧ m.memBytes (blockAddr w.block + 64) (le u.body 24 2) = u.body.drop 32) := by
  have hlen : 33 ≤ u.body.length := h.2.1
  refine does_onNode hr rfl ?_
  rw [Node.msgSeg_known h hm hrec, ho, ← hl]
  exact Node.takeSegment_whole hres hk hmsgs hd (by rwa [hl]) (by rw [List.length_drop]; omega) hmode

theorem msgAck_delivers (hr : s.node.running = true) (h : s.node.ackFor u.body)
    (hm : s.node.members (unitFlow u.body) = [(0, le u.body 12 8)]) (hs : le u.body 1 1 = 0) (ho : s.node.outMsgs (unitFlow u.body) = [x])
    (ha : x.accepted = true) (hrep : x.reported = false) (hk : x.killed = 0) (hres : seqResolved (unitSeq u.body) x.seq = true)
    (hp : 64 ≤ seqDist x.seq (unitSeq u.body) ∨ bit (le u.body 24 8) (seqDist x.seq (unitSeq u.body)) = false)
    (hd : s.node.on (MSG_OFW0.DELREP (unitFlow u.body)) = false) : Does (.msgAck u) s (fun m => m.outMsgs (unitFlow u.body) = []) := by
  refine does_onNode hr rfl ?_
  have hw := s.node.answered_word3 (f := unitFlow u.body) (y := { x with delivered := x.delivered ||| 1, held := x.held ||| 1 }) 0
  rw [Node.msgAck_one h hm hs ho ha hrep (ackOne_delivered hres hp)]
  refine Node.settleOut_delivered (Node.answered_outMsgs _) ((hw.members _).trans hm) ha hrep (covers_first _) hk ?_
  exact (congrArg (decide <| · = 1) (hw _ _ _ _ (by decide) (by decide))).trans hd

theorem msgAck_holds (hr : s.node.running = true) (h : s.node.ackFor u.body)
    (hm : s.node.members (unitFlow u.body) = [(0, le u.body 12 8)]) (hs : le u.body 1 1 = 0) (ho : s.node.outMsgs (unitFlow u.body) = [x])
    (ha : x.accepted = true) (hrep : x.reported = false) (hk : x.killed = 0) (hres : seqResolved (unitSeq u.body) x.seq = false)
    (hdist : seqDist (unitSeq u.body) x.seq ≤ 64) (hkb : bit (le u.body 40 8) (seqDist (unitSeq u.body) x.seq - 1) = false)
    (hhb : bit (le u.body 32 8) (seqDist (unitSeq u.body) x.seq - 1) = true) (hdel : x.delivered = 0) :
    Does (.msgAck u) s (fun m => (m.outMsgs (unitFlow u.body)).map (fun o => (o.seq, o.held, o.delivered)) = [(x.seq, x.held ||| 1, 0)]) := by
  refine does_onNode hr rfl ?_
  have hw := s.node.answered_word3 (f := unitFlow u.body) (y := { x with held := x.held ||| 1 }) 0
  rw [Node.msgAck_one h hm hs ho ha hrep (ackOne_held hres (by omega) hkb hhb)]
  have hcov : covers (x.delivered ||| x.killed) 1 = false := by rw [hdel, hk]; exact covers_zero (by decide)
  rw [Node.settleOut_held (Node.answered_outMsgs _) ((hw.members _).trans hm) hcov, hdel]

theorem msgProbe_kills (hr : s.node.running = true) (h : s.node.probeFor u.body)
    (hm : s.node.inMatch (unitUid u.body) (unitFlow u.body) = some f) (hk : bit (le u.body 1 1) 0 = true) (hmap : le u.body 24 8 = 1)
    (hq : unitSeq u.body ≠ 0) (hres : seqResolved (s.node.rd (MSG_IFW3.RS f)) (unitSeq u.body) = false)
    (hkilled : (s.node.inFlow f).killed = []) (hmsgs : (s.node.inFlow f).msgs = []) : Does (.msgProbe u) s (fun m =>
      Counted MSG_CNT_KILLED.VALUE s.node m ∧ m.msg.acks.getLast? = some ⟨unitUid u.body, unitFlow u.body, 0, some f⟩
      ∧ (if unitSeq u.body = seqAdd (s.node.rd (MSG_IFW3.RS f)) 1 then m.rd (MSG_IFW3.RS f) = unitSeq u.body
          else (m.inFlow f).killed = [unitSeq u.body])) := by
  obtain ⟨hcount, hnames⟩ := s.node.advanceRs_killUnseen (f := f) (le_lt u.body 20 4)
  refine does_onNode hr rfl ?_
  rw [Node.msgProbe_kills h hm hk hmap hq hres hkilled hmsgs]
  have hj := Recorded.jchange (Node.advanceRs f 1 (s.node.killUnseen f (unitSeq u.body))) (.inFlow f) 64
  refine ⟨?_, Node.ackDue_last _ _, ?_⟩
  · exact (hj.rd MSG_CNT_KILLED.VALUE (by decide)).trans hcount
  · split_ifs at hnames ⊢
    · exact (hj.rd (MSG_IFW3.RS f) (recReg_winAddr _ _)).trans hnames
    · exact (congrArg InFlow.killed (Node.jchange_inFlow _ _ _ _)).trans hnames

theorem messageHanding_hands {flow : Fin 256} (hr : s.node.running = true) (hen : s.node.on MSG_CTRL.EN = true)
    (hm : (s.node.inFlow flow).msgs = [y]) (hheld : y.held = true) (hh : y.handed = false)
    (hs : y.seq = seqAdd (s.node.rd (MSG_IFW3.RS flow)) 1) (hk : (s.node.inFlow flow).killed = [])
    (hroom : (s.node.dq (s.node.rd (MSG_IFW0.DQ flow))).length < 256) : Does (.messageHanding flow) s (fun m =>
      (m.inFlow flow).msgs = [{ y with handed := true }]
      ∧ m.dq (s.node.rd (MSG_IFW0.DQ flow)) = s.node.dq (s.node.rd (MSG_IFW0.DQ flow)) ++ [s.node.handDesc flow y]) := by
  obtain ⟨a, v, he⟩ := Node.handAll_one hm hk hheld hh hs hroom
  refine does_onNode hr rfl ?_
  simp only [hen, if_true, he]
  exact ⟨congrArg InFlow.msgs (Node.handed_inFlow hm), Node.handed_dq⟩

theorem messageHanding_off {flow : Fin 256} (hr : s.node.running = true) (hen : s.node.on MSG_CTRL.EN = false) :
    Answers (.messageHanding flow) s s.node :=
  answers_same hr rfl (by simp [hen])

theorem partialDiscard_none {flow : Fin 256} {seq : Word} (hr : s.node.running = true)
    (h : (s.node.inFlow flow).msgs.find? (fun m => m.seq = seq.toNat && !m.held && !m.accepting) = none) :
    Answers (.partialDiscard flow seq) s s.node :=
  answers_same hr rfl (by simp only [h])

theorem partialDiscard_drops {flow : Fin 256} {seq : Word} (hr : s.node.running = true)
    (h : (s.node.inFlow flow).msgs.find? (fun m => m.seq = seq.toNat && !m.held && !m.accepting) = some y) :
    Does (.partialDiscard flow seq) s (fun m => (m.inFlow flow).msgs = (s.node.inFlow flow).msgs.filter (fun w => w.seq ≠ seq.toNat)
      ∧ m.mem = s.node.mem) := by
  have hseq : y.seq = seq.toNat := by
    obtain ⟨⟨hseq, -⟩, -⟩ : (y.seq = seq.toNat ∧ y.held = false) ∧ y.accepting = false := by simpa using List.find?_some h
    exact hseq
  refine does_onNode hr rfl ?_
  simp only [h, hseq]
  exact ⟨congrArg InFlow.msgs (Node.setInFlow_inFlow _ _ _), rfl⟩

end

/-- Settles O42: each unit's guards stand first, then the operation on the flow's record that its branch leads to. -/
theorem messagesReceived : Obligations.MessagesReceived := by
  intro s u flow f x y seq hr n b lives sf uid q len rs data segOk Acks src ackOk who probed dq z
  refine ⟨?_, ?_, ?_, ?_, ?_, ?_, ?_, ?_, ?_, ?_, ?_⟩
  · intro h
    have hk {k : Nat} (hk : 32 ≤ k) : ¬ n.msgLives ∨ b.length < k := h.imp_right fun h => Nat.lt_of_lt_of_le h hk
    exact ⟨answers_same hr rfl (Node.msgSeg_idle (hk (by decide))), answers_same hr rfl (Node.msgAck_idle (hk (by decide))),
      answers_same hr rfl (Node.msgProbe_idle (hk (by decide)))⟩
  · intro h hm hb
    refine does_onNode hr rfl ?_
    rw [Node.msgSeg_noflow h hm hb]
    refine ⟨?_, Node.on_raise_same _ _ (by decide) rfl (by decide), Node.ackDue_last _ _⟩
    exact (Node.rd_raise _ _ _ (by decide) (by decide) (by decide)).trans (Node.rd_count_same _ _ (by decide))
  · intro h hm hrec
    refine ⟨fun hres => ?_, fun hres hk hmsgs hd ha ho hl hmode => msgSeg_stores hr h hm hrec hres hk hmsgs hd ha ho hl hmode⟩
    refine does_onNode hr rfl ?_
    rw [Node.msgSeg_known h hm hrec, Node.takeSegment_dup hres]
    exact ⟨Node.rd_count_same _ _ (by decide), Node.ackDue_last _ _, rfl⟩
  · exact fun h hm => answers_onNode hr rfl (Node.msgAck_unlisted h hm)
  · exact fun h hm hs ho ha hrep hk => ⟨fun hres hp hd => msgAck_delivers hr h hm hs ho ha hrep hk hres hp hd,
      fun hres hdist hkb hhb hdel => msgAck_holds hr h hm hs ho ha hrep hk hres hdist hkb hhb hdel⟩
  · intro h hm
    refine does_onNode hr rfl ?_
    rw [Node.msgProbe_noflow h hm]
    exact ⟨Node.ackDue_last _ _, rfl⟩
  · intro h hm
    refine ⟨fun hk => ?_, fun hk hmap hq hres hkilled hmsgs => msgProbe_kills hr h hm hk hmap hq hres hkilled hmsgs⟩
    refine does_onNode hr rfl ?_
    rw [Node.msgProbe_asks h hm hk]
    exact ⟨Node.ackDue_last _ _, rfl, rfl⟩
  · exact fun hen hm hheld hh hs hk hroom => messageHanding_hands hr hen hm hheld hh hs hk hroom
  · exact fun hen => messageHanding_off hr hen
  · exact fun h => partialDiscard_drops hr h
  · exact fun h => partialDiscard_none hr h

end Sys2Proof.Machine
end

section
/-! PROOFS. The pair link's service and the heartbeat's tick (06_messages.md R245; 11_pair_redundancy.md R420, R423 to R425, R436). -/

namespace Sys2Proof.Machine

/-! ### What raising an event and renewing the mode keep -/

section
variable {n : Node} {g : Field}

/-- Raising an event appends to the submissions waiting for acceptance, and keeps the rest of MSG but its store and its changes. -/
theorem Node.raise_msg (n : Node) (f : Field) :
    (n.raise f).msg = { n.msg with used := (n.raise f).msg.used, accq := (n.raise f).msg.accq, changes := (n.raise f).msg.changes } :=
  (n.raise_recorded f).msg

theorem Node.raise_accq (n : Node) (f : Field) : ∃ l, (n.raise f).msg.accq = n.msg.accq ++ l := (n.raise_recorded f).accq

theorem Node.raise_heldAcc (n : Node) (f : Field) : (n.raise f).msg.heldAcc = n.msg.heldAcc := by rw [Node.raise_msg]

/-- Raising an event leaves of PAIR's state all but the link's queues and the mirror's count. -/
theorem Node.raise_pair (n : Node) (f : Field) : ∃ w u k d r, (n.raise f).pair
    = { n.pair with waiting := w, unacked := u, nextSeq := k, deltaNo := d, mirRem := r } := ⟨_, _, _, _, _, (n.raise_recorded f).pair⟩

/-- The fields that renewing MSG_STATUS.MODE may write (R33 to R36). -/
abbrev modeFields : List Field := [MSG_STATUS.MODE, MSG_STATUS.DEGRADED, MSG_EVT.MODE]

/-- MSG_STATUS.MODE as the conditions stand, before the event (R33 to R36). -/
def Node.modeWritten (n : Node) : Node :=
  (n.wr MSG_STATUS.MODE n.acceptMode).wrB MSG_STATUS.DEGRADED (n.on PAIR_CTRL.EN && n.acceptMode = 2)

theorem Node.refreshMode_eq (n : Node) : ∃ c, n.refreshMode = n.modeWritten.raiseIf c MSG_EVT.MODE := ⟨_, rfl⟩

theorem Node.refreshMode_rd (n : Node) (h : ∀ f ∈ modeFields, f.apart g = true) (hr : recReg g.addr = false) : n.refreshMode.rd g = n.rd g := by
  obtain ⟨c, hc⟩ := n.refreshMode_eq
  rw [hc, Node.rd_raiseIf _ _ _ _ (by decide) hr (h _ (by simp)), Node.modeWritten, Node.wrB,
    Node.rd_wr_ne _ _ _ _ (by decide) (h _ (by simp)), Node.rd_wr_ne _ _ _ _ (by decide) (h _ (by simp))]

theorem Node.refreshMode_on (n : Node) (h : ∀ f ∈ modeFields, f.apart g = true) (hr : recReg g.addr = false) : n.refreshMode.on g = n.on g := by
  rw [Node.on, n.refreshMode_rd h hr, Node.on]

/-- A property of the state that neither register writes nor raising an event touch stands past the renewal. -/
theorem Node.refreshMode_keeps {α : Type} (p : Node → α) (hw : ∀ n f v, p (Node.wr n f v) = p n) (hr : ∀ n f, p (Node.raise n f) = p n)
    (n : Node) : p n.refreshMode = p n := by
  obtain ⟨c, hc⟩ := n.refreshMode_eq
  have hm : p n.modeWritten = p n := (hw _ _ _).trans (hw _ _ _)
  rw [hc, Node.raiseIf]
  split
  · exact (hr _ _).trans hm
  · exact hm

theorem Node.refreshMode_heldAcc (n : Node) : n.refreshMode.msg.heldAcc = n.msg.heldAcc :=
  Node.refreshMode_keeps (fun n => n.msg.heldAcc) (fun _ _ _ => rfl) (fun n f => n.raise_heldAcc f) n

theorem Node.raise_locked (n : Node) (f : Field) : (n.raise f).pair.locked = n.pair.locked := by
  obtain ⟨_, _, _, _, _, h⟩ := n.raise_pair f
  rw [h]

theorem Node.refreshMode_locked (n : Node) : n.refreshMode.pair.locked = n.pair.locked :=
  Node.refreshMode_keeps (fun n => n.pair.locked) (fun _ _ _ => rfl) (fun n f => n.raise_locked f) n

end

/-! ### The link leaves service (R245, R423, R436) -/

section
variable {n : Node} {g : Field}

/-- The link out of service, told by an event (R423). -/
def Node.unserved (n : Node) : Node := (n.wr PAIR_STATUS.LINK 0).raise PAIR_EVT.DEGRADED

/-- The active node is in sync no more (R436). -/
def Node.unsynced (n : Node) : Node := (n.wr PAIR_STATUS.SYNC 0).updPair (fun p => { p with snapQueued := false })

/-- What waits for a pair acceptance is held (R245). -/
def Node.holdAcc (n : Node) : Node :=
  if n.msg.accq ≠ [] && n.rd MSG_STATUS.MODE = 1 then ({ n with msg := { n.msg with heldAcc := true } } : Node).wr MSG_STATUS.HELDACC 1 else n

theorem Node.unserved_rd (n : Node) (hl : PAIR_STATUS.LINK.apart g = true) (he : PAIR_EVT.DEGRADED.apart g = true) (hr : recReg g.addr = false) :
    n.unserved.rd g = n.rd g := by
  rw [Node.unserved, Node.rd_raise _ _ _ (by decide) hr he, Node.rd_wr_ne _ _ _ _ (by decide) hl]

theorem Node.unserved_link (n : Node) : n.unserved.on PAIR_STATUS.LINK = false := by
  rw [Node.unserved, Node.on_raise_ne _ _ _ (by decide) (by decide) (by decide), Node.on, Node.rd_wr_same _ _ _ (by decide)]
  rfl

theorem Node.unserved_degraded (n : Node) : n.unserved.on PAIR_EVT.DEGRADED = true := Node.on_raise_same _ _ (by decide) rfl (by decide)

theorem Node.unserved_accq (n : Node) (h : n.msg.accq ≠ []) : n.unserved.msg.accq ≠ [] := by
  obtain ⟨l, hl⟩ := (n.wr PAIR_STATUS.LINK 0).raise_accq PAIR_EVT.DEGRADED
  rw [Node.unserved, hl]
  simp [h]

theorem Node.holdAcc_rd (n : Node) (h : MSG_STATUS.HELDACC.apart g = true) : n.holdAcc.rd g = n.rd g := by
  unfold Node.holdAcc
  split
  · exact Node.rd_wr_ne _ _ _ _ (by decide) h
  · rfl

theorem Node.holdAcc_pair (n : Node) : n.holdAcc.pair = n.pair := by
  unfold Node.holdAcc
  split <;> rfl

theorem Node.holdAcc_holds (n : Node) (hq : n.msg.accq ≠ []) (hm : n.rd MSG_STATUS.MODE = 1) :
    n.holdAcc.msg.heldAcc = true ∧ n.holdAcc.on MSG_STATUS.HELDACC = true := by
  rw [Node.holdAcc, if_pos (by simp [hq, hm])]
  exact ⟨rfl, by rw [Node.on, Node.rd_wr_same _ _ _ (by decide)]; rfl⟩

/-- Before the mode is renewed, the node that loses its link. -/
def Node.linkGone (n : Node) : Node := if n.pairSt = 2 then n.unserved.unsynced.holdAcc else n.unserved

theorem Node.linkLeft_eq (h : n.on PAIR_STATUS.LINK = true) : n.linkLeft = n.linkGone.refreshMode := by
  have hst : n.unserved.pairSt = n.pairSt := Node.unserved_rd _ (by decide) (by decide) (by decide)
  unfold Node.linkLeft Node.linkGone
  rw [if_neg (by simp [h]), ← hst, apply_ite Node.refreshMode]
  rfl

theorem Node.linkGone_rd (n : Node) (hl : ∀ f ∈ [PAIR_STATUS.LINK, PAIR_STATUS.SYNC, PAIR_EVT.DEGRADED, MSG_STATUS.HELDACC], f.apart g = true)
    (hr : recReg g.addr = false) : n.linkGone.rd g = n.rd g := by
  have hu : n.unserved.rd g = n.rd g := n.unserved_rd (hl _ (by simp)) (hl _ (by simp)) hr
  unfold Node.linkGone
  split
  · rw [Node.holdAcc_rd _ (hl _ (by simp)), Node.unsynced, Node.updPair_rd, Node.rd_wr_ne _ _ _ _ (by decide) (hl _ (by simp)), hu]
  · exact hu

/-- Neither the sync nor the acceptances held touch this field. -/
theorem Node.unsynced_rd (n : Node) (h : PAIR_STATUS.SYNC.apart g = true) : n.unsynced.rd g = n.rd g := by
  rw [Node.unsynced, Node.updPair_rd, Node.rd_wr_ne _ _ _ _ (by decide) h]

theorem Node.linkGone_kept (n : Node) (hs : PAIR_STATUS.SYNC.apart g = true) (hh : MSG_STATUS.HELDACC.apart g = true) :
    n.linkGone.rd g = n.unserved.rd g := by
  unfold Node.linkGone
  split
  · rw [Node.holdAcc_rd _ hh, Node.unsynced_rd _ hs]
  · rfl

theorem Node.linkGone_sync (h : n.pairSt = 2) : n.linkGone.on PAIR_STATUS.SYNC = false := by
  rw [Node.linkGone, if_pos h, Node.on, Node.holdAcc_rd _ (by decide), Node.unsynced, Node.updPair_rd, Node.rd_wr_same _ _ _ (by decide)]
  rfl

theorem Node.linkGone_holds (h : n.pairSt = 2) (hq : n.msg.accq ≠ []) (hm : n.rd MSG_STATUS.MODE = 1) :
    n.linkGone.msg.heldAcc = true ∧ n.linkGone.on MSG_STATUS.HELDACC = true := by
  rw [Node.linkGone, if_pos h]
  refine Node.holdAcc_holds _ (n.unserved_accq hq) ?_
  rw [Node.unsynced_rd _ (by decide), n.unserved_rd (by decide) (by decide) (by decide), hm]

theorem Node.linkGone_locked (n : Node) : n.linkGone.pair.locked = n.pair.locked := by
  have hu : n.unserved.pair.locked = n.pair.locked := Node.raise_locked _ _
  unfold Node.linkGone
  split
  · rw [Node.holdAcc_pair]
    exact hu
  · exact hu

/-- The link is out of service; the active node is in sync no more and holds what waited for a pair acceptance (R245, R423, R436). -/
def OutOfService (n m : Node) : Prop :=
  m.on PAIR_STATUS.LINK = false ∧ m.on PAIR_EVT.DEGRADED = true
    ∧ (n.rd PAIR_STATUS.STATE = 2 → m.on PAIR_STATUS.SYNC = false
        ∧ (n.msg.accq ≠ [] → n.rd MSG_STATUS.MODE = 1 → m.msg.heldAcc = true ∧ m.on MSG_STATUS.HELDACC = true))

theorem Node.linkLeft_out (h : n.on PAIR_STATUS.LINK = true) : OutOfService n n.linkLeft := by
  rw [Node.linkLeft_eq h]
  refine ⟨?_, ?_, fun hst => ⟨?_, fun hq hm => ?_⟩⟩
  · rw [Node.refreshMode_on _ (by decide) (by decide), Node.on, Node.linkGone_kept _ (by decide) (by decide), ← Node.on, Node.unserved_link]
  · rw [Node.refreshMode_on _ (by decide) (by decide), Node.on, Node.linkGone_kept _ (by decide) (by decide), ← Node.on, Node.unserved_degraded]
  · rw [Node.refreshMode_on _ (by decide) (by decide), Node.linkGone_sync hst]
  · obtain ⟨hheld, hbit⟩ := Node.linkGone_holds hst hq hm
    exact ⟨n.linkGone.refreshMode_heldAcc.trans hheld, (Node.refreshMode_on _ (by decide) (by decide)).trans hbit⟩

theorem Node.linkLeft_idle (h : n.on PAIR_STATUS.LINK = false) : n.linkLeft = n := by
  rw [Node.linkLeft, if_pos (by simp [h])]

end

/-! ### Frames sent again (R424) -/

section
variable {n : Node}

/-- One unacknowledged frame sent again with RETX, and counted (R424). -/
def Node.sendAgain (n : Node) (u : Nat × Nat × List Byte) : Node :=
  (n.emit .pair (pairFrame (le u.2.2 0 1) u.1 n.pair.rxSeq true (slice u.2.2 12 (u.2.2.length - 16)))).count PAIR_CNT_LINKRETX.VALUE

theorem Node.sendAgain_all (l : List (Nat × Nat × List Byte)) (n : Node) : (l.foldl Node.sendAgain n).pair = n.pair
    ∧ (l.foldl Node.sendAgain n).out = n.out ++ l.map (fun u =>
      ⟨.pair, pairFrame (le u.2.2 0 1) u.1 n.pair.rxSeq true (slice u.2.2 12 (u.2.2.length - 16))⟩) := by
  induction l generalizing n with
  | nil => exact ⟨rfl, (List.append_nil _).symm⟩
  | cons u l ih =>
    obtain ⟨hp, ho⟩ := ih (n.sendAgain u)
    have hpair : (n.sendAgain u).pair = n.pair := rfl
    refine ⟨hp.trans hpair, ?_⟩
    rw [List.foldl_cons, ho, hpair]
    exact List.append_assoc _ _ _

end

/-! ### The heartbeat's tick (R425) -/

section
variable {n : Node}

theorem Node.linkPlain_out (n : Node) (t : Nat) (bs : List Byte) : (n.linkPlain t bs).out.length = n.out.length + 1 := by
  simp [Node.linkPlain, Node.emit]

/-- A tick of a node that is not active sends one frame (R425, R430). -/
theorem Node.heartbeat_idle (h : n.pairSt = 1 ∨ n.pairSt = 3 ∨ n.pairSt = 4 ∨ n.pairSt = 6) : ∃ t bs, n.heartbeat = n.linkPlain t bs := by
  unfold Node.heartbeat
  obtain h | h | h | h := h <;> simp only [h] <;> exact ⟨_, _, rfl⟩

/-- The engines' beats taken leave the rest as it is. -/
theorem Node.clearBeats_node (l : List Nat) (n : Node) :
    ∃ t, l.foldl (fun n e => n.updEng e (fun r => { r with beat := false })) n = { n with eng := t } := by
  induction l generalizing n with
  | nil => exact ⟨n.eng, rfl⟩
  | cons e l ih =>
    obtain ⟨t, ht⟩ := ih (n.updEng e (fun r => { r with beat := false }))
    exact ⟨t, ht⟩

theorem Node.beatClear_node (n : Node) : ∃ t, n.beatClear = { n with eng := t } := Node.clearBeats_node _ n

theorem Node.clearBeats_beat (l : List Nat) (e : Nat) (n : Node) (h : e ∈ l ∨ (n.engRun e).beat = false) :
    ((l.foldl (fun n e => n.updEng e (fun r => { r with beat := false })) n).engRun e).beat = false := by
  induction l generalizing n with
  | nil => simpa using h
  | cons k l ih =>
    refine ih _ ?_
    by_cases hk : e = k
    · exact .inr (by rw [hk, Node.engRun_updEng_same])
    · rw [Node.engRun_updEng_ne _ _ _ _ hk]
      simpa [hk] using h

theorem Node.beatClear_beat (n : Node) {e : Nat} (h : e < 8) : (n.beatClear.engRun e).beat = false :=
  Node.clearBeats_beat _ e n (.inl (by simpa [upTo] using h))

/-- A tick of the active node: the beats taken, and noted whether all were there (R405, R425). -/
def Node.ticked (n : Node) : Node := n.beatClear.updPair (fun p => { p with unqualified := !n.beatOk })

/-- The next heartbeat's sequence, noted with its time (R425). -/
def Node.beatNext (n : Node) : Node :=
  let seq := (n.rd PAIR_HBSEQ.VALUE + 1) % 4294967296
  ((n.wr PAIR_HBSEQ.VALUE seq).count PAIR_CNT_HB.VALUE).updPair
    (fun p => { p with sent := (p.sent ++ [(seq, n.now)]).drop (p.sent.length - 63), fresh := true })

theorem Node.ticked_node (n : Node) : ∃ t, n.ticked = { n with eng := t, pair := { n.pair with unqualified := !n.beatOk } } := by
  obtain ⟨t, ht⟩ := n.beatClear_node
  exact ⟨t, by rw [Node.ticked, ht]; rfl⟩

theorem Node.ticked_regs (n : Node) : n.ticked.regs = n.regs := by
  obtain ⟨t, ht⟩ := n.ticked_node
  rw [ht]

theorem Node.ticked_pair (n : Node) : n.ticked.pair = { n.pair with unqualified := !n.beatOk } := by
  obtain ⟨t, ht⟩ := n.ticked_node
  rw [ht]

theorem Node.ticked_out (n : Node) : n.ticked.out = n.out := by
  obtain ⟨t, ht⟩ := n.ticked_node
  rw [ht]

theorem Node.ticked_now (n : Node) : n.ticked.now = n.now := by
  obtain ⟨t, ht⟩ := n.ticked_node
  rw [ht]
  rfl

theorem Node.heartbeat_beats (hst : n.pairSt = 2) (hok : n.beatOk = true) : n.heartbeat = n.ticked.beatNext.sendHb false := by
  rw [Node.ticked, Node.heartbeat]
  simp only [hst, hok, if_true]
  rfl

theorem Node.heartbeat_repeats (hst : n.pairSt = 2) (hok : n.beatOk = false) : n.heartbeat = n.ticked.sendHb true := by
  rw [Node.ticked, Node.heartbeat]
  simp only [hst, hok, if_true]
  rfl

theorem Node.beatNext_seq (n : Node) : n.beatNext.rd PAIR_HBSEQ.VALUE = (n.rd PAIR_HBSEQ.VALUE + 1) % 4294967296 := by
  rw [Node.beatNext, Node.updPair_rd, Node.rd_count_ne _ _ _ (by decide) (by decide), Node.rd_wr_same _ _ _ (by decide)]
  exact Nat.mod_mod _ _

theorem Node.beatNext_out (n : Node) : n.beatNext.out = n.out := rfl

theorem Node.beatNext_sent (n : Node) : n.beatNext.pair.sent.getLast? = some ((n.rd PAIR_HBSEQ.VALUE + 1) % 4294967296, n.now) := by
  have hd : n.pair.sent.length - 63 ≤ n.pair.sent.length := Nat.sub_le _ _
  have hs : n.beatNext.pair.sent = (n.pair.sent ++ [((n.rd PAIR_HBSEQ.VALUE + 1) % 4294967296, n.now)]).drop (n.pair.sent.length - 63) := rfl
  rw [hs, List.drop_append_of_le_length hd, List.getLast?_concat]

end

/-! ### The commands -/

section
variable {s : State}

theorem heartbeatTick_idle (hr : s.node.running = true) (h : s.node.pairSt = 1 ∨ s.node.pairSt = 3 ∨ s.node.pairSt = 4 ∨ s.node.pairSt = 6) :
    Does .heartbeatTick s (fun m => m.out.length = s.node.out.length + 1 ∧ m.regs = s.node.regs) := by
  obtain ⟨t, bs, he⟩ := Node.heartbeat_idle h
  have hst : (s.node.linkPlain t bs).pairSt ≠ 2 := by
    have hkeep : (s.node.linkPlain t bs).pairSt = s.node.pairSt := rfl
    omega
  refine does_onNode hr rfl ?_
  simp only [he, hst, decide_false, Bool.false_and, Bool.false_eq_true, if_false]
  exact ⟨Node.linkPlain_out _ _ _, rfl⟩

theorem heartbeatTick_beats (hr : s.node.running = true) (hst : s.node.pairSt = 2) (hok : s.node.beatOk = true) :
    Does .heartbeatTick s (fun m => m.rd PAIR_HBSEQ.VALUE = (s.node.rd PAIR_HBSEQ.VALUE + 1) % 4294967296
      ∧ m.out.length = s.node.out.length + 1 ∧ m.pair.sent.getLast? = some (m.rd PAIR_HBSEQ.VALUE, s.node.now)
      ∧ ∀ e, e < 8 → (m.engRun e).beat = false) := by
  have hq : (s.node.ticked.beatNext.sendHb false).pair.unqualified = false := by
    have hk : (s.node.ticked.beatNext.sendHb false).pair.unqualified = s.node.ticked.pair.unqualified := rfl
    rw [hk, Node.ticked_pair, hok]
    rfl
  have hseq : (s.node.ticked.beatNext.sendHb false).rd PAIR_HBSEQ.VALUE = (s.node.rd PAIR_HBSEQ.VALUE + 1) % 4294967296 := by
    have hk : (s.node.ticked.beatNext.sendHb false).rd PAIR_HBSEQ.VALUE = s.node.ticked.beatNext.rd PAIR_HBSEQ.VALUE := rfl
    rw [hk, Node.beatNext_seq, Node.rd_congr s.node.ticked_regs]
  refine does_onNode hr rfl ?_
  simp only [Node.heartbeat_beats hst hok, hq, Bool.and_false, Bool.false_eq_true, if_false]
  refine ⟨hseq, ?_, ?_, fun e he => s.node.beatClear_beat he⟩
  · rw [Node.sendHb, Node.linkPlain_out, Node.beatNext_out, Node.ticked_out]
  · rw [hseq, ← Node.rd_congr s.node.ticked_regs, ← s.node.ticked_now]
    exact s.node.ticked.beatNext_sent

theorem heartbeatTick_repeats (hr : s.node.running = true) (hst : s.node.pairSt = 2) (hok : s.node.beatOk = false)
    (hp : s.node.pair.probation = none) : Does .heartbeatTick s (fun m => m.regs = s.node.regs ∧ m.out.length = s.node.out.length + 1
      ∧ m.pair.sent = s.node.pair.sent) := by
  have hpair : (s.node.ticked.sendHb true).pair = { s.node.pair with unqualified := !s.node.beatOk } := s.node.ticked_pair
  have hfail : (s.node.ticked.sendHb true).probationFail = s.node.ticked.sendHb true := by
    rw [Node.probationFail, hpair, hp]
    simp
  refine does_onNode hr rfl ?_
  simp only [Node.heartbeat_repeats hst hok, hfail, ite_self]
  refine ⟨s.node.ticked_regs, ?_, by rw [hpair]⟩
  rw [Node.sendHb, Node.linkPlain_out, s.node.ticked_out]

/-- The link's lock lost, and counted (R420). -/
def Node.unlocked (n : Node) : Node := (n.updPair (fun p => { p with locked := false })).count PAIR_CNT_LOCKLOSS.VALUE

theorem Node.unlocked_rd (n : Node) {g : Field} (hg : PAIR_CNT_LOCKLOSS.VALUE.apart g = true) : n.unlocked.rd g = n.rd g :=
  Node.rd_count_ne _ _ _ (by decide) hg

theorem Node.unlocked_counted (n : Node) : Counted PAIR_CNT_LOCKLOSS.VALUE n n.unlocked := Node.rd_count_same _ _ (by decide)

/-- Of the same mode, role and acceptances, to be out of service is one thing. -/
theorem OutOfService.of_unlocked {n m : Node} (h : OutOfService n.unlocked m) : OutOfService n m := by
  have hq : n.unlocked.msg.accq = n.msg.accq := rfl
  rwa [OutOfService, Node.unlocked_rd _ (by decide), Node.unlocked_rd _ (by decide), hq] at h

theorem linkLockLoss_out (hr : s.node.running = true) (hl : s.node.on PAIR_STATUS.LINK = true) (hp : s.node.pair.locked = true) :
    Does .linkLockLoss s (fun m => OutOfService s.node m ∧ m.pair.locked = false
      ∧ m.rd PAIR_CNT_LOCKLOSS.VALUE = min (s.node.rd PAIR_CNT_LOCKLOSS.VALUE + 1) 0xFFFFFFFF) := by
  have hlink : s.node.unlocked.on PAIR_STATUS.LINK = true := by rw [Node.on, Node.unlocked_rd _ (by decide), ← Node.on, hl]
  have hkeep : s.node.unlocked.linkLeft = s.node.unlocked.linkGone.refreshMode := Node.linkLeft_eq hlink
  have hlocked : s.node.unlocked.pair.locked = false := rfl
  refine does_onNode hr rfl ?_
  rw [if_pos hp, ← Node.unlocked]
  refine ⟨(Node.linkLeft_out hlink).of_unlocked, ?_, ?_⟩
  · rw [hkeep, Node.refreshMode_locked, Node.linkGone_locked, hlocked]
  · rw [hkeep, Node.refreshMode_rd _ (by decide) (by decide), Node.linkGone_rd _ (by decide) (by decide)]
    exact s.node.unlocked_counted

theorem linkRetransmit_again (hr : s.node.running = true) : Does .linkRetransmit s (fun m =>
    m.out = s.node.out ++ s.node.pair.unacked.map (fun u =>
        ⟨.pair, pairFrame (le u.2.2 0 1) u.1 s.node.pair.rxSeq true (slice u.2.2 12 (u.2.2.length - 16))⟩)
      ∧ m.pair.unacked = s.node.pair.unacked.map (fun u => (u.1, s.node.now, u.2.2))) := by
  obtain ⟨hpair, hout⟩ := Node.sendAgain_all s.node.pair.unacked s.node
  refine does_onNode hr rfl ⟨hout, ?_⟩
  exact congrArg (fun p : PairState => p.unacked.map (fun u => (u.1, s.node.now, u.2.2))) hpair

end

/-- Settles O25: the link leaving service is three marks and a renewal of the mode; a tick is one frame, by the role. -/
theorem pairLinkService : Obligations.PairLinkService := by
  intro s hr n st Out
  refine ⟨fun hl => does_onNode hr rfl (Node.linkLeft_out hl), fun hl => answers_same hr rfl (Node.linkLeft_idle hl),
    fun hl hp => linkLockLoss_out hr hl hp, does_onNode hr rfl ⟨rfl, rfl⟩, linkRetransmit_again hr, fun h => heartbeatTick_idle hr h,
    fun hst hok => heartbeatTick_beats hr hst hok, fun hst hok hp => heartbeatTick_repeats hr hst hok hp⟩

end Sys2Proof.Machine
end

section
/-! PROOFS. What the operations of a change of role leave of the registers, OWN, the time and PAIR's own state (11_pair_redundancy.md). -/

namespace Sys2Proof.Machine

/-- `m` is `n`, of the registers outside `S`, OWN, the time and PAIR's state, but for what recording and mirroring change. -/
structure Leaves (S : Nat → Prop) (n m : Node) : Prop where
  reg : ∀ a, ¬ S a → recReg a = false → m.reg a = n.reg a
  ownPin : m.ownPin = n.ownPin
  time : m.time = n.time
  pair : m.pair = { n.pair with
    waiting := m.pair.waiting, unacked := m.pair.unacked, nextSeq := m.pair.nextSeq, deltaNo := m.pair.deltaNo, mirRem := m.pair.mirRem }

namespace Leaves

variable {S T : Nat → Prop} {n m k : Node}

theorem of_eq (hr : m.regs = n.regs) (ho : m.ownPin = n.ownPin) (ht : m.time = n.time) (hp : m.pair = n.pair) : Leaves S n m :=
  ⟨fun a _ _ => by rw [Node.reg, hr, Node.reg], ho, ht, by rw [hp]⟩

theorem refl (n : Node) : Leaves S n n := of_eq rfl rfl rfl rfl

theorem trans (h : Leaves S n m) (g : Leaves S m k) : Leaves S n k :=
  ⟨fun a hs hr => (g.reg a hs hr).trans (h.reg a hs hr), g.ownPin.trans h.ownPin, g.time.trans h.time, by rw [g.pair, h.pair]⟩

theorem mono (h : Leaves S n m) (hst : ∀ a, S a → T a) : Leaves T n m :=
  ⟨fun a ht hr => h.reg a (fun hs => ht (hst a hs)) hr, h.ownPin, h.time, h.pair⟩

theorem of_recorded (h : Recorded n m) : Leaves S n m := ⟨fun a _ hr => h.reg a hr, h.ownPin, h.time, h.pair⟩

theorem cond {c : Prop} [Decidable c] {a b : Node} (ha : Leaves S n a) (hb : Leaves S n b) : Leaves S n (if c then a else b) := by
  split <;> assumption

/-- A fold of steps that each leave the same. -/
theorem foldl {β : Type} (f : Node → β → Node) (l : List β) (n : Node) (h : ∀ n, ∀ x ∈ l, Leaves S n (f n x)) : Leaves S n (l.foldl f n) :=
  List.foldlRecOn (motive := fun m => Leaves S n m) l f (refl n) fun m hm x hx => hm.trans (h m x hx)

theorem setReg (n : Node) (a : Nat) (v : Word) (h : S a) : Leaves S n (n.setReg a v) :=
  ⟨fun b hb _ => n.setReg_reg_ne a b v (by rintro rfl; exact hb h), rfl, rfl, rfl⟩

theorem wr (n : Node) (f : Field) (v : Nat) (h : S f.addr) : Leaves S n (n.wr f v) := setReg n _ _ h

theorem raise (n : Node) (f : Field) (h : S f.addr) : Leaves S n (n.raise f) := (wr n f _ h).trans (of_recorded (n.raise_recorded f))

theorem raiseIf (n : Node) (c : Bool) (f : Field) (h : S f.addr) : Leaves S n (n.raiseIf c f) := cond (raise n f h) (refl n)

theorem rd (h : Leaves S n m) {f : Field} (hs : ¬ S f.addr) (hr : recReg f.addr = false) : m.rd f = n.rd f := Node.rd_of_reg (h.reg _ hs hr)

theorem on (h : Leaves S n m) {f : Field} (hs : ¬ S f.addr) (hr : recReg f.addr = false) : m.on f = n.on f := by
  rw [Node.on, h.rd hs hr, Node.on]

theorem now (h : Leaves S n m) : m.now = n.now := by rw [Node.now, h.time, Node.now]

end Leaves

/-! ### CAN's modes (R564) -/

/-- The registers of the CAN channels. -/
abbrev canReg (a : Nat) : Prop := 0x40050000 ≤ a ∧ a < 0x40058000

theorem mem_upTo {k x : Nat} : x ∈ upTo k ↔ x < k := by simp [upTo]

theorem canReg_field {c o : Nat} (hc : c < 8) (ho : o < 0x1000) : canReg (0x40050000 + o + 0x1000 * c) := by
  unfold canReg
  omega

theorem Leaves.canErrClear (n : Node) {c : Nat} (hc : c < 8) : Leaves canReg n (n.canErrClear c) :=
  (((Leaves.wr n _ _ (canReg_field (o := 0xC) hc (by decide))).trans (Leaves.wr _ _ _ (canReg_field (o := 0xC) hc (by decide)))).trans
    (Leaves.wr _ _ _ (canReg_field (o := 0x8) hc (by decide)))).trans (Leaves.wr _ _ _ (canReg_field (o := 0x8) hc (by decide)))

theorem Leaves.canModes (n : Node) : Leaves canReg n n.canModes := by
  refine Leaves.foldl _ _ n fun n c hc => ?_
  have hc : c < 8 := mem_upTo.mp hc
  have hstat (f : Field) (h : f.addr = 0x40050000 + 0x8 + 0x1000 * c) : canReg f.addr := h ▸ canReg_field hc (by decide)
  refine (Leaves.wr n (CAN_STATUS.WITNESS c) _ (hstat _ rfl)).trans (Leaves.cond (Leaves.refl _) ?_)
  exact (Leaves.wr _ (CAN_STATUS.EMODE c) _ (hstat _ rfl)).trans (Leaves.cond (Leaves.canErrClear _ hc) (Leaves.refl _))

/-! ### MSG's mode and the acceptances held (R33 to R36, R245) -/

/-- The registers of MSG. -/
abbrev msgReg (a : Nat) : Prop := 0x40028000 ≤ a ∧ a < 0x40029000

theorem Leaves.refreshMode (n : Node) : Leaves msgReg n n.refreshMode := by
  obtain ⟨c, hc⟩ := n.refreshMode_eq
  rw [hc]
  exact ((Leaves.wr n _ _ (by decide)).trans (Leaves.wr _ _ _ (by decide))).trans (Leaves.raiseIf _ _ _ (by decide))

theorem Leaves.unholdAcc (n : Node) : Leaves msgReg n n.unholdAcc := by
  have hheld : Leaves msgReg n { n with msg := { n.msg with heldAcc := false } } := Leaves.of_eq rfl rfl rfl rfl
  exact (hheld.trans (Leaves.wr _ MSG_STATUS.HELDACC 0 (by decide))).trans (Leaves.refreshMode _)

end Sys2Proof.Machine
end

section
/-! PROOFS. What starting, stopping and halting engines leave (08_cycle_engines.md R326, R327, R430). -/

namespace Sys2Proof.Machine

/-- The registers of the engines, of the timer cells' commands and of the exchange of programs. -/
abbrev engReg (a : Nat) : Prop := 0x40030000 ≤ a ∧ a < 0x40040000

/-- The registers that a start of an engine's cycle writes: SIG's too, where its view is copied. -/
abbrev runReg (a : Nat) : Prop := 0x4002C000 ≤ a ∧ a < 0x40040000

section
variable {e : Nat}

theorem engReg_field {o : Nat} (he : e < 8) (ho : o < 0x1000) : engReg (0x40030000 + o + 0x1000 * e) := by
  unfold engReg
  omega

theorem engReg_run {a : Nat} (h : engReg a) : runReg a := by
  unfold engReg at h
  unfold runReg
  omega

theorem Leaves.updEng {S : Nat → Prop} (n : Node) (e : Nat) (f : EngRun → EngRun) : Leaves S n (n.updEng e f) := Leaves.of_eq rfl rfl rfl rfl

theorem Leaves.engDrop {S : Nat → Prop} (n : Node) (e : Nat) : Leaves S n (n.engDrop e) := Leaves.of_eq rfl rfl rfl rfl

theorem Leaves.engTell {S : Nat → Prop} (n : Node) (e : Nat) : Leaves S n (n.engTell e) := by
  unfold Node.engTell
  exact Leaves.cond (Leaves.refl n) ((Leaves.updEng n e _).trans (Leaves.of_recorded (Recorded.mirrorDelta _ _)))

theorem Leaves.engStatus (n : Node) (f : Field) (v : Nat) (he : e < 8) (h : f.addr = 0x40030000 + 0x8 + 0x1000 * e) : Leaves engReg n (n.wr f v) :=
  Leaves.wr n f v (h ▸ engReg_field he (by decide))

theorem Leaves.setEng (n : Node) (st : Nat) (he : e < 8) : Leaves engReg n (n.setEng e st) :=
  (Leaves.engStatus n _ _ he rfl).trans (Leaves.engTell _ _)

theorem Leaves.pexArrive (n : Node) (e : Nat) : Leaves engReg n (n.pexArrive e) := by
  unfold Node.pexArrive
  have harrived (v : Nat) : Leaves engReg n ((n.wr PEX_GROUP.ARRIVED v).wr PEX_STATUS.STATE 6) :=
    (Leaves.wr n _ _ (by decide)).trans (Leaves.wr _ _ _ (by decide))
  exact Leaves.cond (Leaves.refl n) ((harrived (setBits (n.rd PEX_GROUP.ARRIVED) e 1 1)).trans (Leaves.of_eq rfl rfl rfl rfl))

theorem Leaves.engStop (n : Node) (he : e < 8) : Leaves engReg n (n.engStop e) := by
  unfold Node.engStop
  exact Leaves.cond (Leaves.engStatus n _ _ he rfl) (Leaves.cond ((Leaves.setEng n 0 he).trans (Leaves.pexArrive _ e)) (Leaves.refl n))

theorem Leaves.engRelease (n : Node) : Leaves engReg n (n.engRelease (upTo 8)) :=
  Leaves.foldl _ _ n fun n _ he => Leaves.cond (Leaves.setEng n 2 (mem_upTo.mp he)) (Leaves.refl n)

/-- One engine halted (R430, R439). -/
def Node.haltOne (n : Node) (e : Nat) : Node :=
  if n.engSt e = 1 || n.engSt e = 2 || n.engSt e = 3 then ((n.engDrop e).wr (ENG_STATUS.STOPPEND e) 0).setEng e 0 else n

theorem Leaves.haltOne (n : Node) (he : e < 8) : Leaves engReg n (n.haltOne e) :=
  Leaves.cond (((Leaves.engDrop n e).trans (Leaves.engStatus _ _ _ he rfl)).trans (Leaves.setEng _ 0 he)) (Leaves.refl n)

theorem Leaves.engHalt (n : Node) : Leaves engReg n n.engHalt := Leaves.foldl Node.haltOne _ n fun n _ he => Leaves.haltOne n (mem_upTo.mp he)

theorem Leaves.pimgScrub (n : Node) (i : Nat) : Leaves runReg n (n.pimgScrub i) := by
  unfold Node.pimgScrub
  refine Leaves.cond (Leaves.refl n) ?_
  have hmem (bs : List Byte) : Leaves runReg n (n.memPut (pimgAddr i) bs) := Leaves.of_eq rfl rfl rfl rfl
  exact (((hmem _).trans (Leaves.wr _ SIG_CNT_PIMGUCE.VALUE _ (by decide))).trans (Leaves.raise _ _ (by decide))).trans
    (Leaves.of_recorded (Node.sysFault_recorded _ _))

/-- The entries of a view whose words cannot be read are set right first. -/
def Node.viewScrubbed (n : Node) (k first : Nat) : Node := if n.uce = [] then n else (upTo k).foldl (fun n i => n.pimgScrub (first + i)) n

theorem Leaves.viewScrubbed (n : Node) (k first : Nat) : Leaves runReg n (n.viewScrubbed k first) :=
  Leaves.cond (Leaves.refl n) (Leaves.foldl _ _ n fun n _ _ => Leaves.pimgScrub n _)

theorem Leaves.viewCopy (n : Node) (he : e < 8) : Leaves runReg n (n.viewCopy e) := by
  have htime : runReg (SIG_VIEWD.COPYTIME e).addr := by
    simp only [runReg, SIG_VIEWD.COPYTIME]
    omega
  unfold Node.viewCopy
  refine Leaves.cond (Leaves.refl n) (Leaves.trans ?_ (Leaves.wr _ _ _ htime))
  exact (Leaves.viewScrubbed n (n.rd (SIG_VIEWB.COUNT e)) (n.rd (SIG_VIEWA.FIRST e))).trans (Leaves.of_eq rfl rfl rfl rfl)

theorem Leaves.cycleStart (n : Node) (he : e < 8) : Leaves runReg n (n.cycleStart e) := by
  have hlast (f : Field) (o : Nat) (ho : o < 0x1000) (h : f.addr = 0x40030000 + o + 0x1000 * e) : runReg f.addr :=
    h ▸ engReg_run (engReg_field he ho)
  unfold Node.cycleStart
  dsimp only
  refine Leaves.trans ?_ ((Leaves.setEng _ 1 he).mono fun _ => engReg_run)
  refine Leaves.trans ?_ (Leaves.updEng _ e _)
  refine Leaves.trans ?_ (Leaves.viewCopy _ he)
  refine Leaves.trans ?_ (Leaves.engDrop _ e)
  split
  · exact (Leaves.wr n (ENG_CYCLAST.VALUE e) _ (hlast _ 0x18 (by decide) rfl)).trans
      (Leaves.wr _ (ENG_CYCMAX.VALUE e) _ (hlast _ 0x1C (by decide) rfl))
  · exact Leaves.refl n

end
end Sys2Proof.Machine
end

section
/-! PROOFS. The takeover (11_pair_redundancy.md R438, R440). -/

namespace Sys2Proof.Machine

/-- The registers above those of the guardian, BAR, INA and PAIR. -/
abbrev upperReg (a : Nat) : Prop := 0x40028000 ≤ a

section
variable {S : Nat → Prop}

theorem upperReg_window (a i : Nat) : upperReg (winAddr a i) := by
  unfold upperReg winAddr
  omega

theorem canReg_upper {a : Nat} (h : canReg a) : upperReg a := by
  unfold canReg at h
  unfold upperReg
  omega

theorem msgReg_upper {a : Nat} (h : msgReg a) : upperReg a := h.1

theorem runReg_upper {a : Nat} (h : runReg a) : upperReg a := by
  unfold runReg at h
  unfold upperReg
  omega

/-! ### What the standby takes from its journal (R440) -/

theorem Leaves.readWin (n : Node) (first words i a : Nat) : Leaves upperReg n (n.readWin first words i a) :=
  Leaves.foldl _ _ n fun n _ _ => Leaves.setReg n _ _ (upperReg_window _ _)

theorem Leaves.memPut (n : Node) (a : Nat) (bs : List Byte) : Leaves S n (n.memPut a bs) := Leaves.of_eq rfl rfl rfl rfl

theorem Leaves.updChan (n : Node) (c : Nat) (f : CanChan → CanChan) : Leaves S n (n.updChan c f) := Leaves.of_eq rfl rfl rfl rfl

theorem Leaves.withMsg {n m : Node} (h : Leaves S n m) (x : MsgState) : Leaves S n { m with msg := x } := h.trans (Leaves.of_eq rfl rfl rfl rfl)

theorem Leaves.setOutMsgs (n : Node) (f : Nat) (l : List OutMsg) : Leaves upperReg n (n.setOutMsgs f l) :=
  have hmsg : Leaves upperReg n { n with msg := { n.msg with out := Tab.set (fun _ => []) n.msg.out f l } } := Leaves.of_eq rfl rfl rfl rfl
  hmsg.trans (Leaves.wr _ _ _ (upperReg_window _ _))

theorem Leaves.setInFlow (n : Node) (f : Nat) (x : InFlow) : Leaves upperReg n (n.setInFlow f x) :=
  have hmsg : Leaves upperReg n { n with msg := { n.msg with inb := Tab.set (fun _ => InFlow.empty) n.msg.inb f x } } :=
    Leaves.of_eq rfl rfl rfl rfl
  hmsg.trans (Leaves.wr _ _ _ (upperReg_window _ _))

theorem Leaves.setDq (n : Node) (q : Nat) (l : List Desc) : Leaves upperReg n (n.setDq q l) := by
  have hmsg : Leaves upperReg n { n with msg := { n.msg with queues := Tab.set (fun _ => []) n.msg.queues q l } } := Leaves.of_eq rfl rfl rfl rfl
  have hq (f : Field) (h : f.addr = 0x400280C0 + 4 * q) : upperReg f.addr := by
    unfold upperReg
    omega
  exact (hmsg.trans (Leaves.wr _ (MSG_DQ.DEPTH q) _ (hq _ rfl))).trans (Leaves.wr _ (MSG_DQ.READ q) _ (hq _ rfl))

theorem Leaves.nextFromAcc (n : Node) (f : Nat) : Leaves upperReg n (n.nextFromAcc f) :=
  Leaves.cond (Leaves.wr n _ _ (upperReg_window _ _)) (Leaves.refl n)

theorem Leaves.takeOut (n : Node) (f : Nat) : Leaves upperReg n (n.takeOut f) := by
  unfold Node.takeOut
  dsimp only
  refine Leaves.trans ?_ (Leaves.setOutMsgs _ f _)
  refine Leaves.trans ?_ (Leaves.nextFromAcc _ f)
  split
  · exact Leaves.cond ((Leaves.withMsg (Leaves.readWin n _ _ f _) _).trans (Leaves.wr _ _ _ (upperReg_window _ _)))
      (Leaves.withMsg (Leaves.readWin n _ _ f _) _)
  · exact Leaves.withMsg (Leaves.readWin n _ _ f _) _

theorem Leaves.takeIn (n : Node) (f : Nat) : Leaves upperReg n (n.takeIn f) := (Leaves.readWin n _ _ _ _).trans (Leaves.setInFlow _ f _)

/-- The descriptors of a delivery queue put where the journal has them (R440). -/
theorem Leaves.putDescs (n : Node) (q h : Nat) (l : List (Desc × Nat)) :
    Leaves S n (l.foldl (fun (n : Node) (x : Desc × Nat) => n.memPut (dqAddr q (h + x.2)) (descBytes x.1)) n) :=
  Leaves.foldl _ l n fun n _ _ => Leaves.memPut n _ _

/-- A delivery queue as the journal has it: the reports kept (R440). -/
def Node.takeQueue (n : Node) (q : Nat) : Node :=
  let a := jrnlBase + 0x100 + 4 * q
  let h := n.memLe a 2 % 256
  let l := (upTo (min 256 (n.memLe (a + 2) 2))).filterMap (fun i => n.readReport (dqAddr q (h + i)))
  let n : Node := { n with msg := { n.msg with qHead := Tab.set (fun _ => 0) n.msg.qHead q h } }
  let n := (l.zip (upTo l.length)).foldl (fun (n : Node) (x : Desc × Nat) => n.memPut (dqAddr q (h + x.2)) (descBytes x.1)) n
  n.setDq q l

theorem Leaves.takeQueue (n : Node) (q : Nat) : Leaves upperReg n (n.takeQueue q) :=
  ((Leaves.withMsg (Leaves.refl n) _).trans (Leaves.putDescs _ q _ _)).trans (Leaves.setDq _ q _)

/-- The windows and the flows as the journal has them (R440). -/
def Node.takeFlows (n : Node) : Node :=
  let n := (upTo 1024).foldl (fun (n : Node) (i : Nat) => n.readWin 0x4002809C 2 i (jrnlBase + 0x9000 + 8 * i)) n
  (upTo 256).foldl Node.takeIn ((upTo 256).foldl Node.takeOut n)

/-- The store's runs and the order of acceptance as the flows have them; nothing waits (R440). -/
def Node.takeStore (n : Node) : Node :=
  let runs := n.msg.out.flatMap (fun p => (p.2.filter (fun m => m.blocks ≠ 0)).map (fun m => (m.block, m.blocks)))
    ++ n.msg.inb.flatMap (fun p => p.2.msgs.map (fun m => (m.block, m.blocks)))
  let n : Node := { n with msg := { n.msg with used := runs.foldl (fun u r => insRun r u) [] } }
  let order := (n.msg.out.flatMap (fun p => p.2.map (fun m => m.order + 1))).foldl max n.msg.order
  let n : Node := { n with msg := { n.msg with order := order, accq := [], heldAcc := false, acks := [], probes := [], waitReports := [] } }
  n.storeCount

theorem Node.journalTake_eq (n : Node) : n.journalTake = (upTo 16).foldl Node.takeQueue n.takeFlows.takeStore := rfl

theorem Leaves.takeFlows (n : Node) : Leaves upperReg n n.takeFlows := by
  have hwin : Leaves upperReg n ((upTo 1024).foldl (fun (n : Node) (i : Nat) => n.readWin 0x4002809C 2 i (jrnlBase + 0x9000 + 8 * i)) n) :=
    Leaves.foldl _ _ n fun n i _ => Leaves.readWin n _ _ i _
  have hout (n : Node) := Leaves.foldl Node.takeOut (upTo 256) n fun n f _ => Leaves.takeOut n f
  have hin (n : Node) := Leaves.foldl Node.takeIn (upTo 256) n fun n f _ => Leaves.takeIn n f
  exact (hwin.trans (hout _)).trans (hin _)

theorem Leaves.takeStore (n : Node) : Leaves S n n.takeStore :=
  (Leaves.withMsg (Leaves.withMsg (Leaves.refl n) _) _).trans (Leaves.of_recorded (Recorded.storeCount _))

theorem Leaves.journalTake (n : Node) : Leaves upperReg n n.journalTake := by
  rw [Node.journalTake_eq]
  exact ((Leaves.takeFlows n).trans (Leaves.takeStore _)).trans (Leaves.foldl Node.takeQueue _ _ fun n q _ => Leaves.takeQueue n q)

/-! ### CAN's submissions and the recorder's copies (R440, R569, R627) -/

theorem Leaves.setCanRecs (n : Node) (l : List CanRec) : Leaves S n (n.setCanRecs l) := by
  unfold Node.setCanRecs
  exact (Leaves.withMsg (Leaves.refl n) _).trans (Leaves.foldl _ _ _ fun n _ _ => Leaves.of_recorded (Recorded.jchange n _ _))

theorem Leaves.canPlace (n : Node) (r : CanRec) (state code : Nat) : Leaves S n (n.canPlace r state code) := by
  unfold Node.canPlace
  exact (Leaves.memPut n _ _).trans (Leaves.updChan _ _ _)

theorem Leaves.canTakeover (n : Node) : Leaves upperReg n n.canTakeover := by
  have hcount (c : Nat) : upperReg (CAN_CNT_RESENT.VALUE c).addr := by
    simp only [upperReg, CAN_CNT_RESENT.VALUE]
    omega
  have hevt (c : Nat) : upperReg (CAN_EVT.RESENT c).addr := by
    simp only [upperReg, CAN_EVT.RESENT]
    omega
  refine Leaves.foldl _ _ n fun n r _ => ?_
  dsimp only
  split
  · exact (Leaves.setCanRecs n _).trans (Leaves.canPlace _ r 2 0)
  · exact Leaves.canPlace n r 2 0
  · refine Leaves.cond ((Leaves.setCanRecs n _).trans (Leaves.canPlace _ r 4 0)) ?_
    exact (((Leaves.setCanRecs n _).trans (Leaves.canPlace _ r 2 0)).trans (Leaves.wr _ _ _ (hcount r.chan))).trans
      (Leaves.raise _ _ (hevt r.chan))
  · exact Leaves.canPlace n r 4 0

theorem Leaves.recorder (n : Node) (f : Field) (v : Nat) (h : recReg f.addr = true) : Leaves S n (n.wr f v) :=
  Leaves.of_recorded (Recorded.wr n f v h)

theorem Leaves.withEvrMsg {n m : Node} (h : Leaves S n m) (e : EvrState) (x : MsgState) : Leaves S n { m with evr := e, msg := x } :=
  h.trans (Leaves.of_eq rfl rfl rfl rfl)

theorem Leaves.stageCopy (n : Node) (bs : List Byte) : Leaves S n (n.stageCopy bs) := by
  unfold Node.stageCopy
  dsimp only
  refine Leaves.trans ?_ (Leaves.recorder _ EVR_CNT_RECORDS.VALUE _ (by decide))
  refine Leaves.trans ?_ (Leaves.recorder _ EVR_STATUS.UNFLUSHED _ (by decide))
  refine Leaves.withEvrMsg ?_ _ _
  exact ((Leaves.memPut n _ _).trans (Leaves.recorder _ EVR_SEQ_LO.VALUE _ (by decide))).trans
    (Leaves.recorder _ EVR_SEQ_HI.VALUE _ (by decide))

theorem Leaves.recordTakeover (n : Node) : Leaves S n n.recordTakeover := by
  unfold Node.recordTakeover
  refine Leaves.cond (Leaves.refl n) (Leaves.foldl _ _ n fun n _ _ => ?_)
  dsimp only
  refine Leaves.cond (Leaves.refl n) (Leaves.cond (Leaves.memPut n _ _) ?_)
  refine Leaves.withEvrMsg ?_ _ _
  exact ((Leaves.memPut n _ _).trans (Leaves.stageCopy _ _)).trans (Leaves.of_recorded (Recorded.submitRecord _ _ _))

end
end Sys2Proof.Machine
end

section
/-! PROOFS. Roles settled, synchronization complete, the partner lost, the loss declared (06_messages.md R245; 11_pair_redundancy.md R428, R430,
R432, R433, R437 to R440). -/

namespace Sys2Proof.Machine

/-! ### OWN and the state of the pair -/

section
variable {n m : Node} {f : Field}

theorem Node.setOwnPin_leaves (n : Node) (b : Bool) : Leaves canReg { n with ownPin := b } (n.setOwnPin b) := Leaves.canModes _

theorem Node.pairGo_leaves (n : Node) (st : Nat) : Leaves canReg (n.wr PAIR_STATUS.STATE st) (n.pairGo st) := Leaves.canModes _

theorem Node.setOwnPin_rd (b : Bool) (h : ¬ canReg f.addr) (hr : recReg f.addr = false) : (n.setOwnPin b).rd f = n.rd f :=
  (n.setOwnPin_leaves b).rd h hr

theorem Node.pairGo_rd (st : Nat) (h : ¬ canReg f.addr) (hr : recReg f.addr = false) : (n.pairGo st).rd f = (n.wr PAIR_STATUS.STATE st).rd f :=
  (n.pairGo_leaves st).rd h hr

theorem Node.setOwnPin_ownPin (b : Bool) : (n.setOwnPin b).ownPin = b := (n.setOwnPin_leaves b).ownPin

theorem Node.pairGo_ownPin (st : Nat) : (n.pairGo st).ownPin = n.ownPin := (n.pairGo_leaves st).ownPin

theorem Node.refreshMode_rd_far (h : ¬ msgReg f.addr) (hr : recReg f.addr = false) : n.refreshMode.rd f = n.rd f := (Leaves.refreshMode n).rd h hr

theorem Node.refreshMode_ownPin : n.refreshMode.ownPin = n.ownPin := (Leaves.refreshMode n).ownPin

theorem Node.unholdAcc_rd (h : ¬ msgReg f.addr) (hr : recReg f.addr = false) : n.unholdAcc.rd f = n.rd f := (Leaves.unholdAcc n).rd h hr

theorem Node.unholdAcc_ownPin : n.unholdAcc.ownPin = n.ownPin := (Leaves.unholdAcc n).ownPin

theorem Node.unholdAcc_heldAcc : n.unholdAcc.msg.heldAcc = false := Node.refreshMode_heldAcc _

end

/-! ### The takeover (R440) -/

section
variable {n : Node} {f : Field}

/-- An engine of the new active resumes as the partner's last stood (R440). -/
def Node.resume (n : Node) (e : Nat) : Node :=
  let w := (Tab.get (fun _ => 0) n.pair.engStat e).toNat
  let st := bits w 0 3
  if 1 ≤ st && st ≤ 3 then
    let n := n.updEng e (fun r => { r with g := [], start := none })
    (n.wr (ENG_STATUS.STATE e) 2).cycleStart e
  else if 4 ≤ st then ((n.wr (ENG_STATUS.SAFE e) (bits w 3 1)).wr (ENG_STATUS.CAUSE e) (bits w 8 5)).setEng e st
  else n

theorem Leaves.resume (n : Node) {e : Nat} (he : e < 8) : Leaves runReg n (n.resume e) := by
  have hstat (n : Node) (f : Field) (v : Nat) (h : f.addr = 0x40030000 + 0x8 + 0x1000 * e) : Leaves runReg n (n.wr f v) :=
    (Leaves.engStatus n f v he h).mono fun _ => engReg_run
  unfold Node.resume
  refine Leaves.cond ?_ (Leaves.cond ?_ (Leaves.refl n))
  · exact ((Leaves.updEng n e _).trans (hstat _ _ _ rfl)).trans (Leaves.cycleStart _ he)
  · exact ((hstat n _ _ rfl).trans (hstat _ _ _ rfl)).trans ((Leaves.setEng _ _ he).mono fun _ => engReg_run)

/-- TKO_EN and OWN, and what the takeover notes of its time (R440 steps 3 and 4). -/
def Node.roleTaken (n : Node) : Node :=
  let n := (n.wr GRD_STATUS.TKO_EN 1).setOwnPin true
  (n.wr PAIR_GAPLAST.VALUE (sat 16 ((n.now - n.pair.heardAt.getD n.now) / 1000))).wr PAIR_TKOCYC.VALUE n.cycle

def Node.resumed (n : Node) : Node := (upTo 8).foldl Node.resume n

theorem Leaves.resumed (n : Node) : Leaves runReg n n.resumed := Leaves.foldl Node.resume _ n fun n _ he => Leaves.resume n (mem_upTo.mp he)

theorem Node.resumed_rd (h : ¬ runReg f.addr) (hr : recReg f.addr = false) : n.resumed.rd f = n.rd f := (Leaves.resumed n).rd h hr

theorem sat_lt (w v : Nat) : sat w v < 2 ^ w := by
  have : 0 < 2 ^ w := by positivity
  unfold sat
  split <;> omega

theorem Node.takeRole_eq (n : Node) : ∃ p : PairState → PairState,
    n.takeRole = (((n.roleTaken.resumed.pairGo 2).updPair p).raise PAIR_EVT.TAKEOVER).count PAIR_CNT_TAKEOVERS.VALUE := ⟨_, rfl⟩

theorem Node.roleTaken_pair_time (n : Node) : ((n.wr GRD_STATUS.TKO_EN 1).setOwnPin true).now = n.now
    ∧ ((n.wr GRD_STATUS.TKO_EN 1).setOwnPin true).pair.heardAt = n.pair.heardAt := by
  have h := (n.wr GRD_STATUS.TKO_EN 1).setOwnPin_leaves true
  exact ⟨h.now, by rw [h.pair]; rfl⟩

/-- What the new active shows: its role, OWN, TKO_EN, the event, the gap and the cycle (R440). -/
theorem Node.takeRole_shows (n : Node) : n.takeRole.rd PAIR_STATUS.STATE = 2 ∧ n.takeRole.ownPin = true ∧ n.takeRole.on GRD_STATUS.TKO_EN = true
    ∧ n.takeRole.on PAIR_EVT.TAKEOVER = true ∧ n.takeRole.rd PAIR_TKOCYC.VALUE = n.cycle
    ∧ n.takeRole.rd PAIR_GAPLAST.VALUE = sat 16 ((n.now - n.pair.heardAt.getD n.now) / 1000) := by
  obtain ⟨hnow, hheard⟩ := n.roleTaken_pair_time
  obtain ⟨p, hp⟩ := n.takeRole_eq
  have hcycle : n.cycle < 4294967296 := bits_lt _ _ _
  have hown : n.roleTaken.ownPin = true := Node.setOwnPin_ownPin true
  refine ⟨?_, ?_, ?_, ?_, ?_, ?_⟩
  · simp (disch := decide) only [hp, Node.rd_count_ne, Node.rd_raise, Node.updPair_rd, Node.pairGo_rd, Node.rd_wr_same]
    rfl
  · rw [hp, Node.count_ownPin, Node.raise_ownPin, Node.updPair_ownPin, Node.pairGo_ownPin, (Leaves.resumed _).ownPin, hown]
  · simp (disch := decide) only [hp, Node.on, Node.roleTaken, Node.rd_count_ne, Node.rd_raise, Node.updPair_rd, Node.pairGo_rd, Node.resumed_rd,
      Node.setOwnPin_rd, Node.rd_wr_ne, Node.rd_wr_same]
    rfl
  · rw [hp, Node.on, Node.rd_count_ne _ _ _ (by decide) (by decide), ← Node.on, Node.on_raise_same _ _ (by decide) rfl (by decide)]
  · simp (disch := decide) only [hp, Node.roleTaken, Node.rd_count_ne, Node.rd_raise, Node.updPair_rd, Node.pairGo_rd, Node.resumed_rd,
      Node.cycle, Node.setOwnPin_rd, Node.rd_wr_ne, Node.rd_wr_same]
    exact Nat.mod_eq_of_lt hcycle
  · simp (disch := decide) only [hp, Node.roleTaken, Node.rd_count_ne, Node.rd_raise, Node.updPair_rd, Node.pairGo_rd, Node.resumed_rd,
      Node.rd_wr_ne, Node.rd_wr_same, hnow, hheard]
    exact Nat.mod_eq_of_lt (sat_lt _ _)

/-- The fields of the guardian and of PAIR that taking the role writes. -/
abbrev roleFields : List Field :=
  [GRD_STATUS.TKO_EN, PAIR_GAPLAST.VALUE, PAIR_TKOCYC.VALUE, PAIR_STATUS.STATE, PAIR_EVT.TAKEOVER, PAIR_CNT_TAKEOVERS.VALUE]

theorem Node.takeRole_rd (n : Node) (h : ∀ g ∈ roleFields, g.apart f = true) (hu : ¬ upperReg f.addr) (hr : recReg f.addr = false) :
    n.takeRole.rd f = n.rd f := by
  obtain ⟨p, hp⟩ := n.takeRole_eq
  have hcan : ¬ canReg f.addr := fun hc => hu (canReg_upper hc)
  have hrun : ¬ runReg f.addr := fun hc => hu (runReg_upper hc)
  rw [hp, Node.rd_count_ne _ _ _ (by decide) (h _ (by simp)), Node.rd_raise _ _ _ (by decide) hr (h _ (by simp)), Node.updPair_rd,
    Node.pairGo_rd _ hcan hr, Node.rd_wr_ne _ _ _ _ (by decide) (h _ (by simp)), Node.resumed_rd hrun hr, Node.roleTaken,
    Node.rd_wr_ne _ _ _ _ (by decide) (h _ (by simp)), Node.rd_wr_ne _ _ _ _ (by decide) (h _ (by simp)), Node.setOwnPin_rd _ hcan hr,
    Node.rd_wr_ne _ _ _ _ (by decide) (h _ (by simp))]

/-- The standby turned to TAKEOVER, out of sync and off the link (R440 step 1). -/
def Node.takeoverBegun (n : Node) : Node :=
  let n := (n.pairGo 5).updPair (fun p => { p with parts := [], syncSince := none, snapQueued := false })
  (n.wr PAIR_STATUS.SYNC 0).wr PAIR_STATUS.LINK 0

/-- What the standby takes of the partner's work (R440 step 2, R569, R627). -/
def Node.workTaken (n : Node) : Node := n.journalTake.mirrorCanRecs.canTakeover.recordTakeover.refreshMode

theorem Node.takeover_eq (n : Node) : n.takeover = n.takeoverBegun.workTaken.takeRole.unholdAcc := rfl

theorem Leaves.workTaken (n : Node) : Leaves upperReg n n.workTaken := by
  have hrecs (n : Node) : Leaves upperReg n n.mirrorCanRecs := Leaves.withMsg (Leaves.refl n) _
  exact ((((Leaves.journalTake n).trans (hrecs _)).trans (Leaves.canTakeover _)).trans (Leaves.recordTakeover _)).trans
    ((Leaves.refreshMode _).mono fun _ => msgReg_upper)

theorem Node.workTaken_rd (h : ¬ upperReg f.addr) (hr : recReg f.addr = false) : n.workTaken.rd f = n.rd f := (Leaves.workTaken n).rd h hr

theorem Node.takeoverBegun_time (n : Node) : n.takeoverBegun.now = n.now ∧ n.takeoverBegun.pair.heardAt = n.pair.heardAt := by
  have h := n.pairGo_leaves 5
  refine ⟨h.now, ?_⟩
  have hp : n.takeoverBegun.pair.heardAt = (n.pairGo 5).pair.heardAt := rfl
  rw [hp, h.pair]
  rfl

/-- What a takeover ends with (R440). -/
theorem Node.takeover_shows (n : Node) : n.takeover.rd PAIR_STATUS.STATE = 2 ∧ n.takeover.ownPin = true ∧ n.takeover.on GRD_STATUS.TKO_EN = true
    ∧ n.takeover.on PAIR_EVT.TAKEOVER = true ∧ n.takeover.rd PAIR_TKOCYC.VALUE = n.cycle
    ∧ n.takeover.rd PAIR_GAPLAST.VALUE = sat 16 ((n.now - n.pair.heardAt.getD n.now) / 1000) := by
  have hwork := Leaves.workTaken n.takeoverBegun
  obtain ⟨hnow, hheard⟩ := n.takeoverBegun_time
  obtain ⟨hst, hown, htko, hevt, hcyc, hgap⟩ := n.takeoverBegun.workTaken.takeRole_shows
  have hheard' : n.takeoverBegun.workTaken.pair.heardAt = n.pair.heardAt := by rw [hwork.pair, ← hheard]
  have hcycle : n.takeoverBegun.workTaken.cycle = n.cycle := by
    simp (disch := decide) only [Node.cycle, Node.workTaken_rd, Node.takeoverBegun, Node.rd_wr_ne, Node.updPair_rd, Node.pairGo_rd]
  rw [hcycle] at hcyc
  rw [hwork.now, hnow, hheard'] at hgap
  simp (disch := decide) only [Node.takeover_eq, Node.on, Node.unholdAcc_rd, Node.unholdAcc_ownPin]
  exact ⟨hst, hown, htko, hevt, hcyc, hgap⟩

/-- The marks that stand through a takeover: out of sync, off the link, and the loss told before (R438, R440). -/
theorem Node.takeover_marks (n : Node) : n.takeover.on PAIR_STATUS.SYNC = false ∧ n.takeover.on PAIR_STATUS.LINK = false
    ∧ n.takeover.on PAIR_EVT.DECLARE = n.on PAIR_EVT.DECLARE := by
  simp (disch := decide) only [Node.takeover_eq, Node.on, Node.unholdAcc_rd, Node.takeRole_rd, Node.workTaken_rd, Node.takeoverBegun,
    Node.rd_wr_ne, Node.rd_wr_same, Node.updPair_rd, Node.pairGo_rd]
  exact ⟨rfl, rfl, trivial⟩

end

/-! ### The declaration of loss (R438) -/

section
variable {s : State}

theorem lossDeclaration_takes (hr : s.node.running = true) (hq : s.node.pair.stilled = false) (hst : s.node.pairSt = 4) :
    Does .lossDeclaration s (fun m => m.rd PAIR_STATUS.STATE = 2 ∧ m.ownPin = true ∧ m.on GRD_STATUS.TKO_EN = true
      ∧ m.on PAIR_EVT.DECLARE = true ∧ m.on PAIR_EVT.TAKEOVER = true ∧ m.on PAIR_STATUS.SYNC = false ∧ m.on PAIR_STATUS.LINK = false
      ∧ m.rd PAIR_TKOCYC.VALUE = s.node.cycle ∧ m.rd PAIR_GAPLAST.VALUE = sat 16 ((s.node.now - s.node.pair.heardAt.getD s.node.now) / 1000)) := by
  obtain ⟨hgo, hown, htko, hevt, hcyc, hgap⟩ := (s.node.raise PAIR_EVT.DECLARE).takeover_shows
  obtain ⟨hsync, hlink, hdecl⟩ := (s.node.raise PAIR_EVT.DECLARE).takeover_marks
  obtain ⟨_, _, _, _, _, hpair⟩ := s.node.raise_pair PAIR_EVT.DECLARE
  have hcycle : (s.node.raise PAIR_EVT.DECLARE).cycle = s.node.cycle := Node.rd_raise _ _ _ (by decide) (by decide) (by decide)
  have hnow : (s.node.raise PAIR_EVT.DECLARE).now = s.node.now := by rw [Node.now, Node.raise_time, Node.now]
  rw [Node.on_raise_same _ _ (by decide) rfl (by decide)] at hdecl
  rw [hcycle] at hcyc
  rw [hnow, hpair] at hgap
  refine does_onNode hr rfl ?_
  simp only [hq, hst, Bool.false_eq_true, if_false, if_true]
  exact ⟨hgo, hown, htko, hdecl, hevt, hsync, hlink, hcyc, hgap⟩

theorem lossDeclaration_tells (hr : s.node.running = true) (hq : s.node.pair.stilled = false) (hst : s.node.pairSt = 3) :
    Does .lossDeclaration s (fun m => m.rd PAIR_STATUS.STATE = 3 ∧ m.on PAIR_EVT.DECLARE = true ∧ m.ownPin = s.node.ownPin) := by
  refine does_onNode hr rfl ?_
  simp only [hq, hst, Bool.false_eq_true, if_false, if_true, Nat.reduceEqDiff]
  exact ⟨(Node.rd_raise _ _ _ (by decide) (by decide) (by decide)).trans hst, Node.on_raise_same _ _ (by decide) rfl (by decide),
    Node.raise_ownPin _ _⟩

end
end Sys2Proof.Machine
end

section
/-! PROOFS. Recording where no partner is known (06_messages.md; 11_pair_redundancy.md R434, R435): nothing is mirrored. -/

namespace Sys2Proof.Machine

/-- Where no partner is known, PAIR's state and the emissions are the same. -/
def Quiet (n m : Node) : Prop := n.pair.peer = none → m.pair = n.pair ∧ m.out = n.out

/-- A partner is mirrored to only where it is known (R434). -/
theorem Node.mirroring_of_none {n : Node} (h : n.pair.peer = none) : n.mirroring = false := by simp [Node.mirroring, h]

namespace Quiet

variable {n m k : Node}

theorem of_eq (hp : m.pair = n.pair) (ho : m.out = n.out) : Quiet n m := fun _ => ⟨hp, ho⟩

theorem refl (n : Node) : Quiet n n := of_eq rfl rfl

theorem trans (h : Quiet n m) (g : Quiet m k) : Quiet n k := fun hn => by
  obtain ⟨hp, ho⟩ := h hn
  obtain ⟨gp, go⟩ := g (by rw [hp, hn])
  exact ⟨gp.trans hp, go.trans ho⟩

theorem wr (n : Node) (f : Field) (v : Nat) : Quiet n (n.wr f v) := of_eq rfl rfl

theorem wr64 (n : Node) (lo hi : Field) (v : Nat) : Quiet n (n.wr64 lo hi v) := (wr n lo _).trans (wr _ hi _)

theorem memPut (n : Node) (a : Nat) (bs : List Byte) : Quiet n (n.memPut a bs) := of_eq rfl rfl

theorem count (n : Node) (f : Field) : Quiet n (n.count f) := of_eq rfl rfl

theorem evrOnly (n : Node) (e : EvrState) : Quiet n { n with evr := e } := of_eq rfl rfl

theorem lossNote (n : Node) : Quiet n n.lossNote := evrOnly n _

theorem cond {c : Prop} [Decidable c] {a b : Node} (ha : Quiet n a) (hb : Quiet n b) : Quiet n (if c then a else b) := by
  split <;> assumption

theorem foldl {β : Type} (f : Node → β → Node) (h : ∀ n x, Quiet n (f n x)) (l : List β) (n : Node) : Quiet n (l.foldl f n) :=
  List.foldlRecOn (motive := fun m => Quiet n m) l f (refl n) fun m hm x _ => hm.trans (h m x)

theorem jput (n : Node) (b : Nat × List Byte) : Quiet n (n.jput b) := fun hn => by
  have hm : (n.memPut (jrnlBase + b.1) b.2).mirroring = false := Node.mirroring_of_none hn
  rw [Node.jput, if_neg (by rw [hm]; decide)]
  exact ⟨rfl, rfl⟩

theorem jchange (n : Node) (p : JPiece) (len : Nat) : Quiet n (n.jchange p len) := by
  have h : Quiet n ((n.pieceBytes p).foldl Node.jput n) := foldl _ jput _ _
  unfold Node.jchange
  exact cond h (h.trans (of_eq rfl rfl))

theorem storeAlloc (n : Node) (k : Nat) (r : Nat × Node) (h : n.storeAlloc k = some r) : Quiet n r.2 := by
  obtain ⟨b, -, rfl⟩ := Option.map_eq_some_iff.mp h
  exact of_eq rfl rfl

theorem submitRecord (n : Node) (seq len : Nat) : Quiet n (n.submitRecord seq len) := by
  unfold Node.submitRecord
  split
  · rename_i b m h
    refine (storeAlloc n _ _ h).trans (trans ?_ (jchange _ _ _))
    exact of_eq rfl rfl
  · exact refl n

theorem startFlush (n : Node) (c : FlushCause) : Quiet n (n.startFlush c) := by
  unfold Node.startFlush
  exact cond ((evrOnly n _).trans (wr _ _ _)) (refl n)

/-- What `raise` is asked to keep, for the operations that take it as an argument. -/
def Good (raise : Node → Field → Node) : Prop := ∀ n f, Quiet n (raise n f)

variable {raise : Node → Field → Node}

theorem stageRecord (hr : Good raise) (n : Node) (w : WaitRec) (x : Bool) : Quiet n (n.stageRecord raise w x) := by
  unfold Node.stageRecord
  refine trans ?_ (cond (startFlush _ _) (refl _))
  refine trans ?_ (cond (startFlush _ _) (refl _))
  refine trans ?_ (cond (hr _ _) (refl _))
  refine trans ?_ (cond (submitRecord _ _ _) (refl _))
  refine trans ?_ (cond (count _ _) (refl _))
  refine trans ?_ (count _ _)
  refine trans ?_ (wr _ _ _)
  refine trans ?_ (evrOnly _ _)
  exact (memPut n _ _).trans (wr64 _ _ _ _)

theorem commitLoss (hr : Good raise) (n : Node) : Quiet n (n.commitLoss raise) := by
  unfold Node.commitLoss
  exact cond (refl n) (((evrOnly n _).trans (stageRecord hr _ _ _)).trans (hr _ _))

theorem commitWith (hr : Good raise) (n : Node) (w : WaitRec) (x : Bool) : Quiet n (n.commitWith raise w x) := by
  have hc : Quiet n ((n.commitLoss raise).stageRecord raise w x) := (commitLoss hr n).trans (stageRecord hr _ _ _)
  unfold Node.commitWith
  exact cond (refl n) (cond ((count n _).trans (lossNote _)) (cond hc (cond (evrOnly n _) ((count n _).trans (lossNote _)))))

theorem fireWith (hr : Good raise) (v : Nat) (n : Node) (t : Nat) : Quiet n (n.fireWith raise v t) := by
  unfold Node.fireWith
  exact cond (refl n) (cond ((count n _).trans (lossNote _)) (cond (count n _) ((evrOnly n _).trans (commitWith hr _ _ _))))

theorem raiseN (k : Nat) : Good (Node.raiseN k) := by
  induction k with
  | zero => exact fun n f => wr n f 1
  | succ k ih =>
    intro n f
    unfold Node.raiseN
    exact (wr n f 1).trans (cond (foldl _ (fireWith ih 0) _ _) (refl _))

theorem raiseIf (n : Node) (c : Bool) (f : Field) : Quiet n (n.raiseIf c f) := cond (raiseN 3 n f) (refl n)

theorem refreshMode (n : Node) : Quiet n n.refreshMode := by
  obtain ⟨c, hc⟩ := n.refreshMode_eq
  rw [hc]
  exact ((wr n _ _).trans (wr _ _ _)).trans (raiseIf _ _ _)

end Quiet
end Sys2Proof.Machine
end

section
/-! PROOFS. PAIR enabled and disabled, roles settled, synchronization complete, the partner lost (06_messages.md R245; 11_pair_redundancy.md
R428, R432, R433, R437, R439, R717). -/

namespace Sys2Proof.Machine

/-! ### PAIR enabled (R432, R717) -/

section
variable {n : Node} {f : Field}

/-- The CAN channels' modes are registers alone. -/
theorem Node.canModes_regs (n : Node) : ∃ r : Tab Word, n.canModes = { n with regs := r } := by
  refine List.foldlRecOn (motive := fun m : Node => ∃ r : Tab Word, m = { n with regs := r }) _ _ ⟨n.regs, rfl⟩ fun m hm c _ => ?_
  obtain ⟨r, rfl⟩ := hm
  dsimp only
  split
  · exact ⟨_, rfl⟩
  · split
    · exact ⟨_, rfl⟩
    · exact ⟨_, rfl⟩

theorem Node.pairGo_pair (st : Nat) : (n.pairGo st).pair = n.pair := by
  obtain ⟨r, hr⟩ := (n.wr PAIR_STATUS.STATE st).canModes_regs
  rw [Node.pairGo, hr]
  rfl

theorem Node.pairGo_out (st : Nat) : (n.pairGo st).out = n.out := by
  obtain ⟨r, hr⟩ := (n.wr PAIR_STATUS.STATE st).canModes_regs
  rw [Node.pairGo, hr]
  rfl

theorem Node.pairGo_now (st : Nat) : (n.pairGo st).now = n.now := (n.pairGo_leaves st).now

theorem Node.linkRestart_rd (h : PAIR_MIRLAG.VALUE.apart f = true) : n.linkRestart.rd f = n.rd f := Node.rd_wr_ne _ _ _ _ (by decide) h

/-- What a negotiating node forgets of its partner (R717). -/
def Node.negotiating (n : Node) (t : Nat) : Node := n.updPair (fun p => { p with
  negSince := t, peer := none, lastValid := none, heardAt := none, rcAt := none, echoMark := none, sent := [], fresh := false })

theorem Node.negotiating_rd (t : Nat) : (n.negotiating t).rd f = n.rd f := Node.updPair_rd _ _ _

theorem Node.pairOn_eq (h : n.on PAIR_CTRL.EN = false) :
    n.pairOn = (((n.wr PAIR_CTRL.EN 1).linkRestart.pairGo 1).negotiating n.now).refreshMode.sendNeg := by
  rw [Node.pairOn, if_neg (by simp [h])]
  rfl

/-- Before the mode is renewed, the numbering starts anew and no partner is known (R717). -/
theorem Node.negotiating_pair (t : Nat) : (((n.wr PAIR_CTRL.EN 1).linkRestart.pairGo 1).negotiating t).pair.peer = none
    ∧ (((n.wr PAIR_CTRL.EN 1).linkRestart.pairGo 1).negotiating t).pair.nextSeq = 1
    ∧ (((n.wr PAIR_CTRL.EN 1).linkRestart.pairGo 1).negotiating t).pair.rxSeq = 0
    ∧ (((n.wr PAIR_CTRL.EN 1).linkRestart.pairGo 1).negotiating t).out = n.out := by
  have hp : ((n.wr PAIR_CTRL.EN 1).linkRestart.pairGo 1).pair = (n.wr PAIR_CTRL.EN 1).linkRestart.pair := Node.pairGo_pair 1
  have ho : ((n.wr PAIR_CTRL.EN 1).linkRestart.pairGo 1).out = n.out := Node.pairGo_out 1
  refine ⟨rfl, ?_, ?_, ho⟩
  · exact congrArg PairState.nextSeq hp
  · exact congrArg PairState.rxSeq hp

theorem Node.sendNeg_out (n : Node) : n.sendNeg.out.length = n.out.length + 1 := n.linkPlain_out _ _

theorem Node.pairOn_enables (h : n.on PAIR_CTRL.EN = false) : n.pairOn.on PAIR_CTRL.EN = true ∧ n.pairOn.rd PAIR_STATUS.STATE = 1
    ∧ n.pairOn.pair.peer = none ∧ n.pairOn.pair.nextSeq = 1 ∧ n.pairOn.pair.rxSeq = 0 ∧ n.pairOn.out.length = n.out.length + 1 := by
  obtain ⟨hpeer, hseq, hrx, hout⟩ := n.negotiating_pair n.now
  obtain ⟨hpair, hsent⟩ := Quiet.refreshMode _ hpeer
  have hrd (f : Field) (m : Node) : m.sendNeg.rd f = m.rd f := rfl
  have hkeep (m : Node) : m.sendNeg.pair = m.pair := rfl
  rw [Node.pairOn_eq h, Node.sendNeg_out, hsent, hout, hkeep, hpair]
  refine ⟨?_, ?_, hpeer, hseq, hrx, rfl⟩
  · simp (disch := decide) only [Node.on, hrd, Node.refreshMode_rd_far, Node.negotiating_rd, Node.pairGo_rd, Node.rd_wr_ne, Node.linkRestart_rd,
      Node.rd_wr_same]
    rfl
  · simp (disch := decide) only [hrd, Node.refreshMode_rd_far, Node.negotiating_rd, Node.pairGo_rd, Node.rd_wr_same]
    rfl

end

/-! ### A held INA enable applied (R653) -/

/-- The registers of PAIR. -/
abbrev pairReg (a : Nat) : Prop := 0x40024000 ≤ a ∧ a < 0x40025000

section
variable {n m k : Node} {f : Field}

/-- OWN and a handover are as they were. -/
def RoleKept (n m : Node) : Prop := m.ownPin = n.ownPin ∧ m.pair.handover = n.pair.handover

namespace RoleKept

theorem of_parts (ho : m.ownPin = n.ownPin) (hh : m.pair.handover = n.pair.handover) : RoleKept n m := ⟨ho, hh⟩

theorem of_eq (ho : m.ownPin = n.ownPin) (hp : m.pair = n.pair) : RoleKept n m := ⟨ho, by rw [hp]⟩

theorem refl (n : Node) : RoleKept n n := of_eq rfl rfl

theorem trans (h : RoleKept n m) (g : RoleKept m k) : RoleKept n k := ⟨g.1.trans h.1, g.2.trans h.2⟩

theorem wr (n : Node) (f : Field) (v : Nat) : RoleKept n (n.wr f v) := of_eq rfl rfl

theorem updIna (n : Node) (f : InaState → InaState) : RoleKept n (n.updIna f) := of_eq rfl rfl

theorem of_leaves {S : Nat → Prop} (h : Leaves S n m) : RoleKept n m := ⟨h.ownPin, by rw [h.pair]⟩

theorem raise (n : Node) (f : Field) : RoleKept n (n.raise f) := of_leaves (Leaves.raise (S := fun _ => True) n f trivial)

theorem of_setsOnly {S : Nat → Bool} (h : SetsOnly S n m) : RoleKept n m := of_eq (by rw [h.node]) (by rw [h.node])

theorem cond {c : Prop} [Decidable c] {a b : Node} (ha : RoleKept n a) (hb : RoleKept n b) : RoleKept n (if c then a else b) := by
  split <;> assumption

theorem calInaug (n : Node) : RoleKept n n.calInaug :=
  List.foldlRecOn (motive := fun m => RoleKept n m) _ _ (refl n) fun m hm _ _ => hm.trans (cond (of_eq rfl rfl) (refl m))

/-- A Lull that does not come lets a stilled pair go on, and leaves its role (R493, R496). -/
theorem lullBack (n : Node) : RoleKept n n.lullBack := by
  unfold Node.lullBack
  refine cond (refl n) (trans ?_ (raise _ _))
  dsimp only
  split
  · exact of_parts rfl rfl
  · exact of_parts rfl rfl

theorem ringAbort (n : Node) (cause num : Nat) : RoleKept n (n.ringAbort cause num) := by
  unfold Node.ringAbort
  split
  · exact refl n
  · refine trans ?_ (cond (trans (of_eq (m := Node.count _ AON_CNT_ABORTS.VALUE) rfl rfl) (raise _ _)) (lullBack _))
    exact of_eq rfl rfl

theorem inaugBegin (n : Node) : RoleKept n n.inaugBegin := by
  unfold Node.inaugBegin
  exact ((wr n INA_STATUS.INAUG 1).trans (calInaug _)).trans (ringAbort _ _ _)

theorem enterListen (n : Node) : RoleKept n n.enterListen := by
  unfold Node.enterListen Node.inaGo Node.walkReset
  refine trans ?_ (wr _ _ _)
  refine trans ?_ (wr _ _ _)
  refine trans ?_ (wr _ _ _)
  refine trans ?_ (wr _ _ _)
  refine trans ?_ (wr _ _ _)
  refine trans ?_ (wr _ _ _)
  refine trans ?_ (updIna _ _)
  refine trans ?_ (wr _ _ _)
  refine trans ?_ (of_setsOnly (Node.bothLines_setsOnly _ _))
  exact (updIna n _).trans (inaugBegin _)

theorem inaUnhold (n : Node) : RoleKept n n.inaUnhold := by
  unfold Node.inaUnhold Node.inaStart
  exact cond (cond ((enterListen n).trans (raise _ _)) (refl n)) (refl n)

end RoleKept

theorem pairReg_abort (h : pairReg f.addr) (hr : recReg f.addr = false) : abortReg f.addr = false := by
  obtain ⟨hlo, hhi⟩ := h
  simp only [abortReg, hr, Bool.false_or, Bool.or_eq_false_iff, List.any_eq_false, decide_eq_true_eq, Bool.and_eq_false_imp]
  refine ⟨fun k hk => ?_, fun _ => ?_⟩
  · have := mem_upTo.mp hk
    omega
  · simp only [decide_eq_false_iff_not]
    omega

theorem pairReg_lineCtrl (h : pairReg f.addr) : lineCtrlReg f.addr = false := by
  obtain ⟨hlo, -⟩ := h
  simp only [lineCtrlReg, List.any_eq_false, decide_eq_true_eq]
  intro k hk
  have := mem_upTo.mp hk
  omega

theorem pairReg_apart {g : Field} (h : pairReg f.addr) (hg : ¬ pairReg g.addr) : g.apart f = true :=
  Field.apart_of_addr_ne (by rintro he; exact hg (he ▸ h))

theorem Node.enterListen_rd_pair (h : pairReg f.addr) (hr : recReg f.addr = false) : n.enterListen.rd f = n.rd f := by
  have hline : lineCtrlReg f.addr = false := pairReg_lineCtrl h
  have hp (g : Field) (hg : ¬ pairReg g.addr) : g.apart f = true := pairReg_apart h hg
  unfold Node.enterListen Node.inaGo
  rw [Node.rd_wr_ne _ _ _ _ (by decide) (hp _ (by decide)), Node.rd_wr_ne _ _ _ _ (by decide) (hp _ (by decide)),
    Node.rd_wr_ne _ _ _ _ (by decide) (hp _ (by decide)), Node.rd_wr_ne _ _ _ _ (by decide) (hp _ (by decide)),
    Node.rd_wr_ne _ _ _ _ (by decide) (hp _ (by decide)), Node.rd_wr_ne _ _ _ _ (by decide) (hp _ (by decide)), Node.updIna_rd,
    Node.rd_wr_ne _ _ _ _ (by decide) (hp _ (by decide)), Node.bothLines_rd _ _ hline, Node.inaugBegin_rd _ (pairReg_abort h hr),
    Node.rd_wr_ne _ _ _ _ (by decide) (hp _ (by decide)), Node.walkReset_rd]

theorem Node.inaUnhold_rd (h : pairReg f.addr) (hr : recReg f.addr = false) : n.inaUnhold.rd f = n.rd f := by
  have hevt : INA_EVT.TRIG.apart f = true := pairReg_apart h (by decide)
  unfold Node.inaUnhold Node.inaStart
  split
  · split
    · rw [Node.rd_raise _ _ _ (by decide) hr hevt, Node.enterListen_rd_pair h hr]
    · rfl
  · rfl

end
end Sys2Proof.Machine
end

section
/-! PROOFS. PAIR enabled and disabled, roles settled, synchronization complete, the partner lost: the commands (06_messages.md R245;
11_pair_redundancy.md R428, R432, R433, R437, R439, R717). -/

namespace Sys2Proof.Machine

section
variable {n : Node} {f : Field}

/-! ### PAIR disabled (R432, R433) -/

/-- PAIR off: no role, OWN low, no path, nothing pending (R432, R433). -/
def Node.pairDown (n : Node) : Node :=
  let n := ((n.wr PAIR_CTRL.EN 0).pairGo 0).setOwnPin false
  let n := (((n.wr PAIR_STATUS.LINK 0).wr PAIR_STATUS.RCPATH 0).wr PAIR_STATUS.SYNC 0).wr PAIR_STATUS.SOLO 0
  (n.wr PAIR_STATUS.PROBATION 0).updPair (fun p => { p with
    handover := none, probation := none, echoMark := none, peer := none, syncSince := none, snapQueued := false, unacked := [], waiting := [] })

theorem Node.pairOff_eq (n : Node) : n.pairOff = ((n.pairDown.engRelease (upTo 8)).unholdAcc).inaUnhold := rfl

theorem Node.engRelease_rd (h : ¬ engReg f.addr) (hr : recReg f.addr = false) : (n.engRelease (upTo 8)).rd f = n.rd f :=
  (Leaves.engRelease n).rd h hr

theorem Node.pairOff_role (n : Node) : n.pairOff.ownPin = false ∧ n.pairOff.pair.handover = none := by
  have hrelease : RoleKept n.pairDown (n.pairDown.engRelease (upTo 8)) := .of_leaves (Leaves.engRelease _)
  obtain ⟨hown, hhand⟩ := (hrelease.trans (.of_leaves (Leaves.unholdAcc _))).trans (.inaUnhold _)
  have hpin : n.pairDown.ownPin = false := Node.setOwnPin_ownPin false
  exact ⟨hown.trans hpin, hhand⟩

theorem Node.pairOff_shows (n : Node) : n.pairOff.on PAIR_CTRL.EN = false ∧ n.pairOff.rd PAIR_STATUS.STATE = 0
    ∧ n.pairOff.on PAIR_STATUS.LINK = false ∧ n.pairOff.on PAIR_STATUS.SYNC = false ∧ n.pairOff.on PAIR_STATUS.SOLO = false := by
  simp (disch := decide) only [Node.pairOff_eq, Node.on, Node.inaUnhold_rd, Node.unholdAcc_rd, Node.engRelease_rd, Node.pairDown,
    Node.updPair_rd, Node.rd_wr_ne, Node.rd_wr_same, Node.setOwnPin_rd, Node.pairGo_rd]
  exact ⟨rfl, rfl, rfl, rfl, rfl⟩

/-! ### Roles settled (R428) -/

theorem Node.settleActive_role (n : Node) (solo : Bool) : (n.settleActive solo).ownPin = true := by
  have hpin : (((n.pairGo 2).wrB PAIR_STATUS.SOLO solo).setOwnPin true).ownPin = true := Node.setOwnPin_ownPin true
  unfold Node.settleActive
  rw [(RoleKept.inaUnhold _).1, Node.refreshMode_ownPin]
  exact hpin

theorem Node.settleActive_shows (n : Node) : (n.settleActive true).rd PAIR_STATUS.STATE = 2 ∧ (n.settleActive true).on PAIR_STATUS.SOLO = true := by
  simp (disch := decide) only [Node.settleActive, Node.wrB, Node.on, Node.inaUnhold_rd, Node.refreshMode_rd_far, Node.updPair_rd,
    Node.setOwnPin_rd, Node.rd_wr_ne, Node.rd_wr_same, Node.pairGo_rd]
  exact ⟨rfl, rfl⟩

theorem Node.toResync_state (n : Node) : n.toResync.rd PAIR_STATUS.STATE = 3 := by
  simp (disch := decide) only [Node.toResync, Node.refreshMode_rd_far, Node.updPair_rd, Node.rd_wr_ne, Node.pairGo_rd, Node.rd_wr_same]
  rfl

theorem Node.settleStandby_state (n : Node) : n.settleStandby.rd PAIR_STATUS.STATE = 3 := by
  have hstop (m : Node) : Leaves engReg m ((upTo 8).foldl (fun (n : Node) (e : Nat) => n.engStop e) m) :=
    Leaves.foldl _ _ m fun n _ he => Leaves.engStop n (mem_upTo.mp he)
  unfold Node.settleStandby
  rw [Node.inaUnhold_rd (by decide) (by decide), (hstop _).rd (by decide) (by decide), Node.toResync_state]

/-! ### Synchronization complete (R437) -/

theorem Node.syncDone_shows (n : Node) : n.syncDone.rd PAIR_STATUS.STATE = n.rd PAIR_STATUS.STATE ∧ n.syncDone.on PAIR_STATUS.SYNC = true
    ∧ n.syncDone.on PAIR_EVT.SYNC = true
    ∧ n.syncDone.rd PAIR_SYNCTIME.VALUE = sat 16 ((n.now - n.pair.syncSince.getD n.now) / 1000000) := by
  refine ⟨?_, ?_, ?_, ?_⟩
  · simp (disch := decide) only [Node.syncDone, Node.refreshMode_rd_far, Node.updPair_rd, Node.rd_raise, Node.rd_wr_ne]
  · simp (disch := decide) only [Node.syncDone, Node.on, Node.refreshMode_rd_far, Node.updPair_rd, Node.rd_raise, Node.rd_wr_ne, Node.rd_wr_same]
    rfl
  · rw [Node.syncDone, Node.on, Node.refreshMode_rd_far (by decide) (by decide), Node.updPair_rd, ← Node.on,
      Node.on_raise_same _ _ (by decide) rfl (by decide)]
  · simp (disch := decide) only [Node.syncDone, Node.refreshMode_rd_far, Node.updPair_rd, Node.rd_raise, Node.rd_wr_same]
    exact Nat.mod_eq_of_lt (sat_lt _ _)

/-! ### The partner lost (R245, R439) -/

/-- The active node alone (R439). -/
def Node.aloneNow (n : Node) : Node :=
  ((n.wr PAIR_STATUS.SOLO 1).wr PAIR_STATUS.SYNC 0).updPair (fun p => { p with echoMark := none, snapQueued := false })

theorem Node.aloneNow_shows (n : Node) : let m := (n.aloneNow.raise PAIR_EVT.PARTNERLOST).unholdAcc
    m.rd PAIR_STATUS.STATE = n.rd PAIR_STATUS.STATE ∧ m.on PAIR_STATUS.SOLO = true ∧ m.on PAIR_STATUS.SYNC = false
      ∧ m.on PAIR_EVT.PARTNERLOST = true ∧ m.msg.heldAcc = false ∧ m.pair.echoMark = none := by
  have hpair := ((Leaves.raise (S := fun _ => True) n.aloneNow PAIR_EVT.PARTNERLOST trivial).trans ((Leaves.unholdAcc _).mono fun _ _ => trivial)).pair
  refine ⟨?_, ?_, ?_, ?_, Node.unholdAcc_heldAcc, ?_⟩
  · simp (disch := decide) only [Node.unholdAcc_rd, Node.rd_raise, Node.aloneNow, Node.updPair_rd, Node.rd_wr_ne]
  · simp (disch := decide) only [Node.on, Node.unholdAcc_rd, Node.rd_raise, Node.aloneNow, Node.updPair_rd, Node.rd_wr_ne, Node.rd_wr_same]
    rfl
  · simp (disch := decide) only [Node.on, Node.unholdAcc_rd, Node.rd_raise, Node.aloneNow, Node.updPair_rd, Node.rd_wr_same]
    rfl
  · rw [Node.on, Node.unholdAcc_rd (by decide) (by decide), ← Node.on, Node.on_raise_same _ _ (by decide) rfl (by decide)]
  · rw [hpair]
    rfl

end

/-! ### The commands -/

section
variable {s : State}

theorem negTimeout_settles (hr : s.node.running = true) (hst : s.node.pairSt = 1) (hv : s.node.pair.lastValid = none) :
    Does .negTimeout s (fun m => m.rd PAIR_STATUS.STATE = (if s.node.on PAIR_STATUS.STRAP then 2 else 3)
      ∧ (s.node.on PAIR_STATUS.STRAP = true → m.on PAIR_STATUS.SOLO = true ∧ m.ownPin = true)) := by
  refine does_onNode hr rfl ?_
  simp only [hst, hv, Option.isNone_none, decide_true, Bool.and_self, if_true]
  cases hp : s.node.on PAIR_STATUS.STRAP with
  | false => exact ⟨Node.settleStandby_state _, fun h => absurd h (by decide)⟩
  | true =>
    obtain ⟨hgo, hsolo⟩ := s.node.settleActive_shows
    exact ⟨hgo, fun _ => ⟨hsolo, Node.settleActive_role _ _⟩⟩

theorem syncComplete_standby (hr : s.node.running = true) (hst : s.node.pairSt = 3) (hl : s.node.on PAIR_STATUS.LINK = true)
    (hm : s.node.on PAIR_STATUS.IMGMIS = false) (hb : s.node.rd PAIR_STATUS.BIST ≠ 1) : Does .syncComplete s (fun m =>
      m.rd PAIR_STATUS.STATE = 4 ∧ m.on PAIR_STATUS.SYNC = true ∧ m.on PAIR_EVT.SYNC = true
      ∧ m.rd PAIR_SYNCTIME.VALUE = sat 16 ((s.node.now - s.node.pair.syncSince.getD s.node.now) / 1000000)) := by
  obtain ⟨hgo, hsync, hevt, htime⟩ := (s.node.pairGo 4).syncDone_shows
  have hstate : (s.node.pairGo 4).rd PAIR_STATUS.STATE = 4 :=
    (Node.pairGo_rd _ (by decide) (by decide)).trans (Node.rd_wr_same _ _ _ (by decide))
  rw [Node.pairGo_now, Node.pairGo_pair] at htime
  refine does_onNode hr rfl ?_
  simp only [hst, hl, hm, hb, ne_eq, not_false_eq_true, decide_true, Bool.not_false, Bool.and_self, if_true]
  exact ⟨hgo.trans hstate, hsync, hevt, htime⟩

theorem syncComplete_active (hr : s.node.running = true) (hst : s.node.pairSt = 2) (hq : s.node.pair.snapQueued = true)
    (ha : s.node.snapAcked = true) (hl : s.node.rd PAIR_MIRLAG.VALUE < 32768) : Does .syncComplete s (fun m =>
      m.rd PAIR_STATUS.STATE = 2 ∧ m.on PAIR_STATUS.SYNC = true) := by
  obtain ⟨hgo, hsync, -, -⟩ := s.node.syncDone_shows
  refine does_onNode hr rfl ?_
  simp only [hst, hq, ha, hl, Nat.reduceEqDiff, decide_false, Bool.false_and, Bool.false_eq_true, decide_true, Bool.and_self, if_false, if_true]
  exact ⟨hgo.trans hst, hsync⟩

theorem resynclong_tells (hr : s.node.running = true) (hs : s.node.pair.syncSince ≠ none) (hl : s.node.pair.longTold = false) :
    Does .resynclong s (fun m => m.on PAIR_EVT.RESYNCLONG = true ∧ m.rd PAIR_STATUS.STATE = s.node.rd PAIR_STATUS.STATE
      ∧ m.pair.longTold = true) := by
  obtain ⟨_, _, _, _, _, hpair⟩ := (s.node.updPair (fun p => { p with longTold := true })).raise_pair PAIR_EVT.RESYNCLONG
  refine does_onNode hr rfl ?_
  simp only [Option.isSome_iff_ne_none.mpr hs, hl, Bool.not_false, Bool.and_self, if_true]
  refine ⟨Node.on_raise_same _ _ (by decide) rfl (by decide), ?_, by rw [hpair]; rfl⟩
  rw [Node.rd_raise _ _ _ (by decide) (by decide) (by decide), Node.updPair_rd]

theorem partnerLost_solo (hr : s.node.running = true) (hst : s.node.pairSt = 2) (hs : s.node.on PAIR_STATUS.SOLO = false) :
    Does .partnerLost s (fun m => m.rd PAIR_STATUS.STATE = 2 ∧ m.on PAIR_STATUS.SOLO = true ∧ m.on PAIR_STATUS.SYNC = false
      ∧ m.on PAIR_EVT.PARTNERLOST = true ∧ m.msg.heldAcc = false ∧ m.pair.echoMark = none) := by
  obtain ⟨hgo, hsolo, hsync, hevt, hheld, hecho⟩ := s.node.aloneNow_shows
  refine does_onNode hr rfl ?_
  simp only [hst, hs, decide_true, Bool.not_false, Bool.and_self, if_true]
  exact ⟨hgo.trans hst, hsolo, hsync, hevt, hheld, hecho⟩

end
end Sys2Proof.Machine
end

section
/-! PROOFS. A standby alone that assumes the active role (11_pair_redundancy.md R430). -/

namespace Sys2Proof.Machine

/-- The registers other than the timer cells' first words. -/
abbrev notTimer (a : Nat) : Prop := ∀ c, a ≠ winAddr 0x40038014 c

section
variable {n m : Node} {c : Nat}

theorem notTimer_of_lt {a : Nat} (h : a < 4294967296) : notTimer a := fun _ => (winAddr_ne_of_lt h).symm

theorem notTimer_window {a i : Nat} (ha : a < 4294967296) (h : a ≠ 0x40038014) : notTimer (winAddr a i) :=
  fun _ => winAddr_ne ha (by decide) h

theorem notTimer_run {a : Nat} (h : runReg a) : notTimer a := notTimer_of_lt (Nat.lt_trans h.2 (by decide))

theorem notTimer_eng {a : Nat} (h : engReg a) : notTimer a := notTimer_run (engReg_run h)

/-- Where the cells' first words are the same, so are their holders (R350). -/
theorem Leaves.timerOwner (h : Leaves notTimer n m) (c : Nat) : m.timerOwner c = n.timerOwner c := by
  have hr (f : Field) (hf : f.addr = winAddr 0x40038014 c) : m.rd f = n.rd f :=
    h.rd (fun hn => hn c hf) (by rw [hf]; exact recReg_winAddr _ _)
  have hheld : m.on (TMR_TW0.HELD c) = n.on (TMR_TW0.HELD c) := by rw [Node.on, hr _ rfl, Node.on]
  unfold Node.timerOwner
  rw [hheld, hr (TMR_TW0.OWNER c) rfl]

/-! ### Timer cells freed -/

theorem Leaves.useMove {S : Nat → Prop} (n : Node) (use : Nat → Field) (was new : Option Nat) (h : ∀ e, S (use e).addr) :
    Leaves S n (n.useMove use was new) := by
  unfold Node.useMove
  cases was <;> cases new
  · exact Leaves.refl n
  · exact Leaves.wr n _ _ (h _)
  · exact Leaves.wr n _ _ (h _)
  · exact (Leaves.wr n _ _ (h _)).trans (Leaves.wr _ _ _ (h _))

theorem notTimer_use (e : Nat) : notTimer (ENG_QTMR.USE e).addr := fun c => by
  simp only [ENG_QTMR.USE, winAddr]
  omega

theorem Leaves.cellStart {S : Nat → Prop} (n : Node) (t : Tab Nat) : Leaves S n { n with cellStart := t } := Leaves.of_eq rfl rfl rfl rfl

theorem notTimer_preset : notTimer (TMR_TW1.PRESET c).addr := notTimer_window (by decide) (by decide)

theorem notTimer_value : notTimer (TMR_TW2.VALUE c).addr := notTimer_window (by decide) (by decide)

theorem Node.timerClear_free (n : Node) (c : Nat) : n.timerClear c none
    = { ((n.setReg (TMR_TW0.KIND c).addr 0).setReg (TMR_TW1.PRESET c).addr 0).setReg (TMR_TW2.VALUE c).addr 0 with
        cellStart := Tab.set (fun _ => 0) n.cellStart c 0 } := rfl

/-- A freed cell's first word is 0; beside it, no cell's first word differs (R350). -/
theorem Leaves.timerClear_free (n : Node) (c : Nat) : Leaves notTimer (n.setReg (TMR_TW0.KIND c).addr 0) (n.timerClear c none) := by
  rw [Node.timerClear_free]
  exact ((Leaves.setReg _ _ 0 notTimer_preset).trans (Leaves.setReg _ _ 0 notTimer_value)).trans (Leaves.cellStart _ _)

theorem Leaves.setTimer_free (n : Node) (c : Nat) : Leaves notTimer (n.setReg (TMR_TW0.KIND c).addr 0) (n.setTimer none c) := by
  have huse : notTimer TMR_USE.TIMERS.addr := notTimer_of_lt (by decide)
  unfold Node.setTimer
  dsimp only
  refine Leaves.trans ?_ (Leaves.wr _ _ _ huse)
  exact (Leaves.timerClear_free n c).trans (Leaves.useMove _ _ _ _ notTimer_use)

theorem Node.setTimer_free_same (n : Node) (c : Nat) : (n.setTimer none c).timerOwner c = none := by
  have hreg : (n.setReg (TMR_TW0.KIND c).addr 0).reg (TMR_TW0.KIND c).addr = 0 := n.setReg_reg_same _ _
  have hheld : (n.setReg (TMR_TW0.KIND c).addr 0).on (TMR_TW0.HELD c) = false := by
    rw [Node.on, Node.rd, show (TMR_TW0.HELD c).addr = (TMR_TW0.KIND c).addr from rfl, hreg]
    simp [bits]
  rw [(Leaves.setTimer_free n c).timerOwner, Node.timerOwner, hheld]
  rfl

theorem Node.setTimer_free_ne (n : Node) {d : Nat} (h : d ≠ c) : (n.setTimer none c).timerOwner d = n.timerOwner d := by
  have hreg (f : Field) (hf : f.addr = winAddr 0x40038014 d) : (n.setReg (TMR_TW0.KIND c).addr 0).rd f = n.rd f :=
    Node.rd_of_reg (n.setReg_reg_ne _ _ _ (by rw [hf]; exact winAddr_inj h))
  rw [(Leaves.setTimer_free n c).timerOwner, Node.timerOwner, Node.on, hreg _ rfl, hreg _ rfl, ← Node.on, ← Node.timerOwner]

/-- Once every held cell has been freed, no cell is held. -/
theorem Node.setTimer_free_all (l : List Nat) (n : Node) (d : Nat) (h : d ∈ l ∨ n.timerOwner d = none) :
    (l.foldl (fun (n : Node) (c : Nat) => n.setTimer none c) n).timerOwner d = none := by
  induction l generalizing n with
  | nil => simpa using h
  | cons c l ih =>
    rw [List.foldl_cons]
    refine ih (n.setTimer none c) ?_
    by_cases hd : d = c
    · right
      rw [hd, Node.setTimer_free_same]
    · rw [n.setTimer_free_ne hd]
      simpa [hd] using h

end

/-! ### What is freed beside, and the setup program's start (R430) -/

section
variable {n : Node}

theorem notTimer_edgeUse (e : Nat) : notTimer (ENG_QEDGE.USE e).addr := fun c => by
  simp only [ENG_QEDGE.USE, winAddr]
  omega

theorem notTimer_poolUse (e : Nat) : notTimer (ENG_QPOOL.USE e).addr := fun c => by
  simp only [ENG_QPOOL.USE, winAddr]
  omega

theorem notTimer_quota (c : Nat) : notTimer (CAN_QUOTA.USE c).addr := fun k => by
  simp only [CAN_QUOTA.USE, winAddr]
  omega

theorem notTimer_edge (c : Nat) : notTimer (TMR_EW.PREV c).addr := notTimer_window (by decide) (by decide)

theorem Leaves.setEdge_free (n : Node) (c : Nat) : Leaves notTimer n (n.setEdge none c) := by
  have huse : notTimer TMR_USE.EDGES.addr := notTimer_of_lt (by decide)
  have hcell : Leaves notTimer n (n.edgeClear c none) := Leaves.setReg n _ 0 (notTimer_edge c)
  unfold Node.setEdge
  dsimp only
  refine Leaves.trans ?_ (Leaves.wr _ _ _ huse)
  exact hcell.trans (Leaves.useMove _ _ _ _ notTimer_edgeUse)

/-- A pool entry taken from its channel and from the engine that holds it. -/
def Node.poolTaken (n : Node) (i : Nat) : Node :=
  match n.poolOf i with
  | some (c, w) =>
    let n := (n.unorder c i).wr (CAN_QUOTA.USE c) (n.rd (CAN_QUOTA.USE c) - 1)
    let n := if w < 8 then n.wr (ENG_QPOOL.USE w) (n.rd (ENG_QPOOL.USE w) - 1) else n
    n.wr CAN0_PUSE.USE (n.rd CAN0_PUSE.USE - 1)
  | none => n

theorem Leaves.poolTaken (n : Node) (i : Nat) : Leaves notTimer n (n.poolTaken i) := by
  have huse : notTimer CAN0_PUSE.USE.addr := notTimer_of_lt (by decide)
  have hquota (c v : Nat) : Leaves notTimer n ((n.unorder c i).wr (CAN_QUOTA.USE c) v) :=
    (Leaves.updChan n c _).trans (Leaves.wr _ _ _ (notTimer_quota c))
  unfold Node.poolTaken
  split
  · refine Leaves.trans ?_ (Leaves.wr _ _ _ huse)
    exact Leaves.cond ((hquota _ _).trans (Leaves.wr _ _ _ (notTimer_poolUse _))) (hquota _ _)
  · exact Leaves.refl n

theorem Node.poolSet_free (n : Node) (i : Nat) : n.poolSet i none
    = { n.poolTaken i with can := { (n.poolTaken i).can with pool := Tab.set (fun _ => none) (n.poolTaken i).can.pool i none } } := rfl

theorem Leaves.poolSet_free (n : Node) (i : Nat) : Leaves notTimer n (n.poolSet i none) := by
  rw [Node.poolSet_free]
  exact (Leaves.poolTaken n i).trans (Leaves.of_eq rfl rfl rfl rfl)

/-- Once every object is freed, no timer cell is held (R430 step 1). -/
theorem Node.freeAllObjects_timers (n : Node) {c : Nat} (h : c < 4096) : n.freeAllObjects.timerOwner c = none := by
  have hedges (l : List Nat) (n : Node) : Leaves notTimer n (l.foldl (fun (n : Node) (c : Nat) => n.setEdge none c) n) :=
    Leaves.foldl _ l n fun n c _ => Leaves.setEdge_free n c
  have hpool (l : List Nat) (n : Node) : Leaves notTimer n (l.foldl (fun (n : Node) (i : Nat) => n.poolSet i none) n) :=
    Leaves.foldl _ l n fun n i _ => Leaves.poolSet_free n i
  unfold Node.freeAllObjects
  dsimp only
  rw [(hpool _ _).timerOwner, (hedges _ _).timerOwner]
  refine Node.setTimer_free_all _ _ c ?_
  rw [List.mem_filter, mem_upTo, ← Option.not_isSome_iff_eq_none]
  tauto

theorem Leaves.copyInits {S : Nat → Prop} (n : Node) : Leaves S n n.copyInits := Leaves.foldl _ _ n fun n _ _ => Leaves.memPut n _ _

/-- A clean start of engine 0 that holds no timer cell clears none (R325). -/
theorem Leaves.engClean (n : Node) (h : ∀ c, c < 4096 → n.timerOwner c = none) : Leaves notTimer n (n.engClean 0) := by
  have hnone : (upTo 4096).filter (fun c => (n.updEng 0 (fun r => { r with g := [] })).timerOwner c = some 0) = [] :=
    List.filter_eq_nil_iff.mpr fun c hc => by
      have hc : (n.updEng 0 (fun r => { r with g := [] })).timerOwner c = none := h c (mem_upTo.mp hc)
      simp [hc]
  unfold Node.engClean
  dsimp only
  rw [hnone, List.foldl_nil]
  exact (Leaves.updEng n 0 _).trans (Leaves.foldl _ _ _ fun n c _ => Leaves.setReg n _ _ (notTimer_edge c))

theorem Leaves.engBegin (n : Node) (h : ∀ c, c < 4096 → n.timerOwner c = none) : Leaves notTimer n (n.engBegin 0 true) := by
  have hreg (n : Node) (f : Field) (v : Nat) (hf : f.addr < 4294967296) : Leaves notTimer n (n.wr f v) := Leaves.wr n f v (notTimer_of_lt hf)
  unfold Node.engBegin
  refine Leaves.cond ?_ (Leaves.refl n)
  refine Leaves.trans ?_ ((Leaves.cycleStart _ (by decide)).mono fun _ => notTimer_run)
  refine Leaves.trans ?_ (Leaves.updEng _ 0 _)
  refine Leaves.trans ?_ (hreg _ (ENG_STATUS.STOPPEND 0) 0 (by decide))
  refine Leaves.trans ?_ (hreg _ (ENG_RUNMAX.VALUE 0) 0 (by decide))
  exact (Leaves.engClean n h).trans (hreg _ (ENG_CYCMAX.VALUE 0) 0 (by decide))

theorem Leaves.startSetup (n : Node) (h : ∀ c, c < 4096 → n.timerOwner c = none) : Leaves notTimer n n.startSetup := by
  unfold Node.startSetup
  split
  · have hset (a b : Nat) : Leaves notTimer n ((n.wr (ENG_ENTRY.VALUE 0) a).wr (ENG_LIMIT.VALUE 0) b) :=
      (Leaves.wr n _ _ (notTimer_of_lt (by decide))).trans (Leaves.wr _ _ _ (notTimer_of_lt (by decide)))
    exact (hset _ _).trans (Leaves.engBegin _ fun c hc => ((hset _ _).timerOwner c).trans (h c hc))
  · exact Leaves.refl n

/-- Freed, halted and started anew, the node holds no timer cell (R430 steps 1 to 3). -/
def Node.restarted (n : Node) : Node := ((n.freeAllObjects.copyInits).engHalt).startSetup

theorem Node.restarted_timers (n : Node) {c : Nat} (h : c < 4096) : n.restarted.timerOwner c = none := by
  have hhalt : Leaves notTimer n.freeAllObjects (n.freeAllObjects.copyInits).engHalt :=
    (Leaves.copyInits _).trans ((Leaves.engHalt _).mono fun _ => notTimer_eng)
  have hfree (c : Nat) (hc : c < 4096) : ((n.freeAllObjects.copyInits).engHalt).timerOwner c = none :=
    (hhalt.timerOwner c).trans (n.freeAllObjects_timers hc)
  exact ((Leaves.startSetup _ hfree).timerOwner c).trans (hfree c h)

/-! ### The role assumed (R430 step 4) -/

theorem Node.assume_eq (n : Node) : ∃ p : PairState → PairState, n.assume
    = (((((((n.restarted.pairGo 2).wr PAIR_STATUS.SOLO 1).setOwnPin true).wr GRD_STATUS.TKO_EN 1).updPair p).raise PAIR_EVT.ASSUME)).refreshMode :=
  ⟨_, rfl⟩

theorem Node.assume_shows (n : Node) : n.assume.rd PAIR_STATUS.STATE = 2 ∧ n.assume.on PAIR_STATUS.SOLO = true ∧ n.assume.ownPin = true
    ∧ n.assume.on GRD_STATUS.TKO_EN = true ∧ n.assume.on PAIR_EVT.ASSUME = true := by
  obtain ⟨p, hp⟩ := n.assume_eq
  refine ⟨?_, ?_, ?_, ?_, ?_⟩
  · simp (disch := decide) only [hp, Node.refreshMode_rd_far, Node.rd_raise, Node.updPair_rd, Node.rd_wr_ne, Node.setOwnPin_rd, Node.pairGo_rd,
      Node.rd_wr_same]
    rfl
  · simp (disch := decide) only [hp, Node.on, Node.refreshMode_rd_far, Node.rd_raise, Node.updPair_rd, Node.rd_wr_ne, Node.setOwnPin_rd,
      Node.rd_wr_same]
    rfl
  · rw [hp, Node.refreshMode_ownPin, Node.raise_ownPin, Node.updPair_ownPin, Node.wr_ownPin, Node.setOwnPin_ownPin]
  · simp (disch := decide) only [hp, Node.on, Node.refreshMode_rd_far, Node.rd_raise, Node.updPair_rd, Node.rd_wr_same]
    rfl
  · rw [hp, Node.on, Node.refreshMode_rd_far (by decide) (by decide), ← Node.on, Node.on_raise_same _ _ (by decide) rfl (by decide)]

theorem Node.timerOwner_congr {n m : Node} (hr : m.regs = n.regs) (c : Nat) : m.timerOwner c = n.timerOwner c := by
  unfold Node.timerOwner Node.on
  rw [Node.rd_congr hr, Node.rd_congr hr]

theorem Leaves.low (n : Node) (f : Field) (v : Nat) (hf : f.addr < 4294967296) : Leaves notTimer n (n.wr f v) := Leaves.wr n f v (notTimer_of_lt hf)

theorem Leaves.modesTimers (n : Node) : Leaves notTimer n n.canModes :=
  (Leaves.canModes n).mono fun _ ha => notTimer_of_lt (Nat.lt_trans ha.2 (by decide))

theorem Leaves.pairGoTimers (n : Node) (st : Nat) : Leaves notTimer n (n.pairGo st) :=
  (Leaves.low n PAIR_STATUS.STATE st (by decide)).trans (Leaves.modesTimers _)

theorem Node.setOwnPin_timers (n : Node) (b : Bool) (c : Nat) : (n.setOwnPin b).timerOwner c = n.timerOwner c :=
  ((Leaves.modesTimers _).timerOwner c).trans (Node.timerOwner_congr rfl c)

theorem Leaves.refreshTimers (n : Node) : Leaves notTimer n n.refreshMode :=
  (Leaves.refreshMode n).mono fun _ ha => notTimer_of_lt (Nat.lt_trans ha.2 (by decide))

theorem Node.assume_timers (n : Node) {c : Nat} (h : c < 4096) : n.assume.timerOwner c = none := by
  obtain ⟨p, hp⟩ := n.assume_eq
  have hgo := (Leaves.pairGoTimers n.restarted 2).trans (Leaves.low _ PAIR_STATUS.SOLO 1 (by decide))
  rw [hp, (Leaves.refreshTimers _).timerOwner, (Leaves.raise _ _ (notTimer_of_lt (by decide))).timerOwner,
    Node.timerOwner_congr (Node.updPair_regs _ _), (Leaves.low _ GRD_STATUS.TKO_EN 1 (by decide)).timerOwner, Node.setOwnPin_timers,
    hgo.timerOwner, n.restarted_timers h]

end

section
variable {s : State}

theorem assume_assumes (hr : s.node.running = true) (hst : s.node.pairSt = 3 ∨ s.node.pairSt = 4) (hl : s.node.on PAIR_STATUS.LINK = false)
    (ha : s.node.on PAIR_CTRL.ASSUME = true) : Does .assume s (fun m => m.rd PAIR_STATUS.STATE = 2 ∧ m.on PAIR_STATUS.SOLO = true
      ∧ m.ownPin = true ∧ m.on GRD_STATUS.TKO_EN = true ∧ m.on PAIR_EVT.ASSUME = true ∧ ∀ c, c < 4096 → m.timerOwner c = none) := by
  obtain ⟨hgo, hsolo, hown, htko, hevt⟩ := s.node.assume_shows
  have hrole : (decide (s.node.pairSt = 3) || decide (s.node.pairSt = 4)) = true := by simpa using hst
  refine does_onNode hr rfl ?_
  simp only [hrole, hl, ha, Bool.not_false, Bool.and_self, if_true]
  exact ⟨hgo, hsolo, hown, htko, hevt, fun c hc => s.node.assume_timers hc⟩

end
end Sys2Proof.Machine
end

section
/-! PROOFS. The fence (06_messages.md R245; 11_pair_redundancy.md R439; 12_power.md R464, R465). -/

namespace Sys2Proof.Machine

/-! ### Engines halted -/

section
variable {n m : Node} {e x : Nat}

/-- The state of an engine that is halted (R439): one that runs, waits or holds stops. -/
def haltedState (st : Nat) : Nat := if 1 ≤ st ∧ st ≤ 3 then 0 else st

theorem haltedState_idem (st : Nat) : haltedState (haltedState st) = haltedState st := by
  unfold haltedState
  split_ifs <;> simp_all

/-- The address of engine `e`'s status word. -/
abbrev statusOf (e a : Nat) : Prop := a = 0x40030008 + 0x1000 * e

theorem statusOf_rec (he : e < 8) : recReg (ENG_STATUS.STATE e).addr = false :=
  recReg_of_range (by simp only [ENG_STATUS.STATE]; omega) (by simp only [ENG_STATUS.STATE]; omega)

theorem Leaves.haltOne_status (n : Node) (e : Nat) : Leaves (statusOf e) n (n.haltOne e) := by
  have hstop : Leaves (statusOf e) n ((n.engDrop e).wr (ENG_STATUS.STOPPEND e) 0) := (Leaves.engDrop n e).trans (Leaves.wr _ _ _ rfl)
  have hset (n : Node) : Leaves (statusOf e) n (n.setEng e 0) := (Leaves.wr (S := statusOf e) n _ 0 rfl).trans (Leaves.engTell _ e)
  exact Leaves.cond (hstop.trans (hset _)) (Leaves.refl n)

theorem Node.haltOne_ne (h : x ≠ e) (hx : x < 8) : (n.haltOne e).engSt x = n.engSt x := by
  refine (Leaves.haltOne_status n e).rd ?_ (statusOf_rec hx)
  simp only [ENG_STATUS.STATE, statusOf]
  omega

theorem Node.setEng_engSt (he : e < 8) : (n.setEng e 0).engSt e = 0 := by
  have htell : Leaves (fun _ => False) (n.wr (ENG_STATUS.STATE e) 0) (n.setEng e 0) := Leaves.engTell _ _
  exact (htell.rd id (statusOf_rec he)).trans (Node.rd_wr_same _ _ _ (by decide : 0 + 3 ≤ 32))

theorem Node.haltOne_same (he : e < 8) : (n.haltOne e).engSt e = haltedState (n.engSt e) := by
  unfold Node.haltOne haltedState
  by_cases h : 1 ≤ n.engSt e ∧ n.engSt e ≤ 3
  · rw [if_pos h, if_pos (by simp only [Bool.or_eq_true, decide_eq_true_eq]; omega), Node.setEng_engSt he]
  · rw [if_neg h, if_neg (by simp only [Bool.or_eq_true, decide_eq_true_eq]; omega)]

theorem Node.haltAll_engSt (l : List Nat) (n : Node) (he : e < 8) :
    (l.foldl Node.haltOne n).engSt e = if e ∈ l then haltedState (n.engSt e) else n.engSt e := by
  induction l generalizing n with
  | nil => rfl
  | cons k l ih =>
    rw [List.foldl_cons, ih]
    by_cases hk : e = k
    · rw [← hk, Node.haltOne_same he, haltedState_idem]
      simp
    · rw [Node.haltOne_ne hk he]
      simp [hk]

/-- Halted, every engine that ran, waited or held has stopped (R439). -/
theorem Node.engHalt_engSt (n : Node) (he : e < 8) : n.engHalt.engSt e = haltedState (n.engSt e) := by
  have h : n.engHalt.engSt e = _ := Node.haltAll_engSt (upTo 8) n he
  rw [h, if_pos (mem_upTo.mpr he)]

end

/-! ### Gusts freed (R464) -/

section
variable {n : Node} {h k : Nat}

/-- The registers of PWR. -/
abbrev pwrReg (a : Nat) : Prop := 0x40001000 ≤ a ∧ a < 0x40002000

theorem pwrReg_handle (hk : k < 256) : pwrReg (PWR_GH.STATE k).addr := by
  simp only [pwrReg, PWR_GH.STATE]
  omega

theorem pwrReg_rec {a : Nat} (ha : pwrReg a) : recReg a = false := by
  obtain ⟨hlo, hhi⟩ := ha
  have hne (b : Nat) (hb : 0x40002000 ≤ b) : a ≠ b := by omega
  simp only [recReg, hne MSG_STORE.FREE.addr (by decide), hne MSG_DELTA.VALUE.addr (by decide), hne PAIR_MIRLAG.VALUE.addr (by decide),
    hne PAIR_CNT_MIRBYTES.VALUE.addr (by decide), decide_false, Bool.or_false, Bool.and_eq_false_imp, decide_eq_true_eq, decide_eq_false_iff_not]
  omega

/-- A held gust taken off the budget and the queue (R464). -/
def Node.gustUncounted (n : Node) (h : Nat) : Node :=
  let st := n.rd (PWR_GH.STATE h)
  let n := if st = 1 then n.wr PWR_BUDGET.GRANTED (n.granted - n.gustCost (n.rd (PWR_GH.CLASS h))) else n
  if st = 2 then n.setGustQueue (n.pwr.queue.filter (· ≠ h)) else n

theorem Node.gustFree_eq (n : Node) (h : Nat) : n.gustFree h = if n.rd (PWR_GH.STATE h) = 0 || h = 255 then n
    else ((n.gustUncounted h).setReg (PWR_GH.STATE h).addr 0).wr PWR_STATUS.HELD ((n.gustUncounted h).rd PWR_STATUS.HELD - 1) := rfl

/-- The registers below PWR's table of handles. -/
abbrev belowHandles (a : Nat) : Prop := 0x40001000 ≤ a ∧ a < 0x40001400

theorem Leaves.gustUncounted (n : Node) (h : Nat) : Leaves belowHandles n (n.gustUncounted h) := by
  have hq (n : Node) (l : List Nat) : Leaves belowHandles n (n.setGustQueue l) :=
    Leaves.trans (Leaves.of_eq (m := { n with pwr := { n.pwr with queue := l } }) rfl rfl rfl rfl) (Leaves.wr _ PWR_STATUS.QUEUED _ (by decide))
  have hgrant : Leaves belowHandles n (if n.rd (PWR_GH.STATE h) = 1 then n.wr PWR_BUDGET.GRANTED (n.granted - n.gustCost (n.rd (PWR_GH.CLASS h))) else n) :=
    Leaves.cond (Leaves.wr n _ _ (by decide)) (Leaves.refl n)
  unfold Node.gustUncounted
  exact Leaves.cond (hgrant.trans (hq _ _)) hgrant

theorem handle_not_below (k : Nat) : ¬ belowHandles (PWR_GH.STATE k).addr := by
  simp only [belowHandles, PWR_GH.STATE]
  omega

/-- A freed handle reads 0. -/
theorem Node.gustFree_same (hh : h ≠ 255) (hlt : h < 256) : (n.gustFree h).rd (PWR_GH.STATE h) = 0 := by
  rw [Node.gustFree_eq]
  by_cases h0 : n.rd (PWR_GH.STATE h) = 0
  · rw [if_pos (by simp [h0]), h0]
  · have hheld (n : Node) (v : Nat) : Leaves belowHandles n (n.wr PWR_STATUS.HELD v) := Leaves.wr n _ _ (by decide)
    have hreg : ((n.gustUncounted h).setReg (PWR_GH.STATE h).addr 0).reg (PWR_GH.STATE h).addr = 0 := Node.setReg_reg_same _ _ _
    rw [if_neg (by simp [h0, hh]), (hheld _ _).rd (handle_not_below h) (pwrReg_rec (pwrReg_handle hlt)), Node.rd, hreg]
    simp [bits]

theorem Node.gustFree_ne (hk : k < 256) (hne : k ≠ h) : (n.gustFree h).rd (PWR_GH.STATE k) = n.rd (PWR_GH.STATE k) := by
  have hheld (n : Node) (v : Nat) : Leaves belowHandles n (n.wr PWR_STATUS.HELD v) := Leaves.wr n _ _ (by decide)
  have hrec : recReg (PWR_GH.STATE k).addr = false := pwrReg_rec (pwrReg_handle hk)
  have hset (n : Node) : (n.setReg (PWR_GH.STATE h).addr 0).rd (PWR_GH.STATE k) = n.rd (PWR_GH.STATE k) :=
    Node.rd_of_reg (n.setReg_reg_ne _ _ _ (by simp only [PWR_GH.STATE]; omega))
  rw [Node.gustFree_eq]
  split
  · rfl
  · rw [(hheld _ _).rd (handle_not_below k) hrec, hset, (Leaves.gustUncounted n h).rd (handle_not_below k) hrec]

theorem Leaves.gustFree (n : Node) (hh : h < 256) : Leaves pwrReg n (n.gustFree h) := by
  have hsub {a : Nat} (ha : belowHandles a) : pwrReg a := ⟨ha.1, Nat.lt_trans ha.2 (by decide)⟩
  rw [Node.gustFree_eq]
  exact Leaves.cond (Leaves.refl n) ((((Leaves.gustUncounted n h).mono fun _ => hsub).trans (Leaves.setReg _ _ 0 (pwrReg_handle hh))).trans
    (Leaves.wr _ PWR_STATUS.HELD _ (by decide)))

theorem Node.gustFree_all (l : List Nat) (n : Node) (hk : k < 255) (hl : ∀ h ∈ l, h < 255) (h : k ∈ l ∨ n.rd (PWR_GH.STATE k) = 0) :
    (l.foldl Node.gustFree n).rd (PWR_GH.STATE k) = 0 := by
  induction l generalizing n with
  | nil => simpa using h
  | cons j l ih =>
    rw [List.foldl_cons]
    refine ih (n.gustFree j) (fun h hh => hl h (List.mem_cons_of_mem _ hh)) ?_
    by_cases hj : k = j
    · right
      rw [← hj, Node.gustFree_same (by omega) (by omega)]
    · rw [Node.gustFree_ne (by omega) hj]
      simpa [hj] using h

theorem mem_handlesWhere {p : Nat → Bool} : h ∈ n.handlesWhere p ↔ (1 ≤ h ∧ h < 255) ∧ p h = true := by
  rw [Node.handlesWhere, List.mem_filter, List.mem_map]
  refine and_congr_left fun _ => ⟨?_, fun hh => ⟨h - 1, mem_upTo.mpr (by omega), by omega⟩⟩
  rintro ⟨a, ha, rfl⟩
  have := mem_upTo.mp ha
  omega

theorem Node.gustFreeAll_freed (n : Node) (h1 : 1 ≤ k) (hk : k < 255) : n.gustFreeAll.rd (PWR_GH.STATE k) = 0 := by
  refine Node.gustFree_all _ n hk (fun h hh => (mem_handlesWhere.mp hh).1.2) ?_
  rw [mem_handlesWhere, decide_eq_true_eq]
  tauto

theorem Leaves.gustFreeAll (n : Node) : Leaves pwrReg n n.gustFreeAll :=
  Leaves.foldl Node.gustFree _ n fun n h hh => Leaves.gustFree n (by have := (mem_handlesWhere.mp hh).1.2; omega)

/-! ### What freed gusts stop (R465) -/

/-- What a gust's end stops but the pair's test (R465). -/
def Node.gustHalts (n : Node) (h : Nat) : Node :=
  let n := (upTo 4).foldl (fun (n : Node) (att : Nat) => if n.rd (LINE_CAL.GUST att) = h then n.calAbort att else n) n
  let n := n.audGustEnd h
  if n.rd EVR_FLUSH.VALUE = h && (n.evr.flush = some .full || n.evr.flush = some .command) then
    ({ n with evr := { n.evr with flush := none } } : Node).wr EVR_STATUS.STATE 2
  else n

theorem Node.gustStops_eq (n : Node) (h : Nat) : n.gustStops h = if (n.gustHalts h).rd PAIR_STATUS.BIST = 1
    && (n.gustHalts h).rd PAIR_CTRL.BISTGUST = h then (n.gustHalts h).wr PAIR_STATUS.BIST 3 else n.gustHalts h := rfl

/-- The registers of calibrations and of bursts. -/
abbrev haltReg (a : Nat) : Prop := (0x40010000 ≤ a ∧ a < 0x40014000) ∨ (0x40040000 ≤ a ∧ a < 0x40041000)

theorem Leaves.calAbort (n : Node) (hk : k < 4) : Leaves haltReg n (n.calAbort k) := by
  have hreg : haltReg (LINE_CALSTAT.RESULT k).addr := by
    simp only [haltReg, LINE_CALSTAT.RESULT]
    omega
  unfold Node.calAbort
  refine Leaves.cond (Leaves.trans ?_ (Leaves.wr _ _ 5 hreg)) (Leaves.refl n)
  exact Leaves.of_eq rfl rfl rfl rfl

theorem Leaves.burstEnd (n : Node) (hk : k < 16) : Leaves haltReg n (n.burstEnd k) := by
  have hreg : haltReg (AUD_ECB.STATE k).addr := by
    simp only [haltReg, AUD_ECB.STATE]
    omega
  unfold Node.burstEnd
  refine Leaves.cond (Leaves.trans ?_ (Leaves.wr _ _ _ hreg)) (Leaves.refl n)
  exact Leaves.of_eq rfl rfl rfl rfl

theorem Leaves.gustHalts (n : Node) (h : Nat) : Leaves haltReg n (n.gustHalts h) := by
  have hcal : Leaves haltReg n ((upTo 4).foldl (fun (n : Node) (att : Nat) => if n.rd (LINE_CAL.GUST att) = h then n.calAbort att else n) n) :=
    Leaves.foldl _ _ n fun n k hk => Leaves.cond (Leaves.calAbort n (mem_upTo.mp hk)) (Leaves.refl n)
  have haud (n : Node) : Leaves haltReg n (n.audGustEnd h) :=
    Leaves.foldl Node.burstEnd _ n fun n k hk => Leaves.burstEnd n (mem_upTo.mp (List.mem_filter.mp hk).1)
  have hflush (n : Node) : Leaves haltReg n (({ n with evr := { n.evr with flush := none } } : Node).wr EVR_STATUS.STATE 2) :=
    Leaves.trans (Leaves.of_eq (m := { n with evr := { n.evr with flush := none } }) rfl rfl rfl rfl) (Leaves.recorder _ _ _ (by decide))
  unfold Node.gustHalts
  exact Leaves.cond ((hcal.trans (haud _)).trans (hflush _)) (hcal.trans (haud _))

/-- A field that calibrations, bursts and the pair's test leave reads as before. -/
theorem Node.gustStops_rd {f : Field} (hs : ¬ haltReg f.addr) (hr : recReg f.addr = false) (hb : PAIR_STATUS.BIST.apart f = true) :
    (n.gustStops h).rd f = n.rd f := by
  rw [Node.gustStops_eq]
  split
  · rw [Node.rd_wr_ne _ _ _ _ (by decide) hb, (Leaves.gustHalts n h).rd hs hr]
  · exact (Leaves.gustHalts n h).rd hs hr

theorem Node.gustStops_ownPin : (n.gustStops h).ownPin = n.ownPin := by
  rw [Node.gustStops_eq]
  split
  · exact (Leaves.gustHalts n h).ownPin
  · exact (Leaves.gustHalts n h).ownPin

/-- The gusts that stop, one after the other (R464). -/
theorem Node.gustStops_all (l : List Nat) (n : Node) : (l.foldl Node.gustStops n).ownPin = n.ownPin
    ∧ ∀ f : Field, ¬ haltReg f.addr → recReg f.addr = false → PAIR_STATUS.BIST.apart f = true → (l.foldl Node.gustStops n).rd f = n.rd f := by
  refine List.foldlRecOn (motive := fun m : Node => m.ownPin = n.ownPin
    ∧ ∀ f : Field, ¬ haltReg f.addr → recReg f.addr = false → PAIR_STATUS.BIST.apart f = true → m.rd f = n.rd f) l Node.gustStops
    ⟨rfl, fun _ _ _ _ => rfl⟩ fun m hm h _ => ?_
  obtain ⟨ho, hf⟩ := hm
  exact ⟨Node.gustStops_ownPin.trans ho, fun f hs hr hb => (Node.gustStops_rd hs hr hb).trans (hf f hs hr hb)⟩

end
end Sys2Proof.Machine
end

section
/-! PROOFS. The fence timer's end, and the roles of the pair as a whole (06_messages.md R245; 11_pair_redundancy.md R428 to R440, R717;
12_power.md R464). -/

namespace Sys2Proof.Machine

/-! ### What a fence drives off (R439, R464) -/

section
variable {n : Node} {f : Field} {h e : Nat}

theorem Node.gustsOff_ownPin (n : Node) : n.gustsOff.ownPin = n.ownPin :=
  (Node.gustStops_all _ _).1.trans (Leaves.gustFreeAll n).ownPin

theorem Node.gustsOff_rd (hs : ¬ haltReg f.addr) (hp : ¬ pwrReg f.addr) (hr : recReg f.addr = false) (hb : PAIR_STATUS.BIST.apart f = true) :
    n.gustsOff.rd f = n.rd f :=
  ((Node.gustStops_all _ _).2 f hs hr hb).trans ((Leaves.gustFreeAll n).rd hp hr)

theorem handle_apart (h1 : h < 256) : ¬ haltReg (PWR_GH.STATE h).addr ∧ PAIR_STATUS.BIST.apart (PWR_GH.STATE h) = true := by
  obtain ⟨hlo, hhi⟩ := pwrReg_handle h1
  constructor
  · simp only [haltReg]
    omega
  · exact Field.apart_of_addr_ne (by simp only [PAIR_STATUS.BIST]; omega)

theorem Node.gustsOff_handles (n : Node) (h1 : 1 ≤ h) (h2 : h < 255) : n.gustsOff.rd (PWR_GH.STATE h) = 0 := by
  obtain ⟨hs, hb⟩ := handle_apart (h := h) (by omega)
  exact ((Node.gustStops_all _ _).2 _ hs (pwrReg_rec (pwrReg_handle (by omega))) hb).trans (n.gustFreeAll_freed h1 h2)

/-- The guardian's output closed, TKO_EN and OWN low (R138, R439). -/
def Node.fenceClosed (n : Node) : Node := ((n.pairGo 6).setOwnPin false).guardClose.wr GRD_STATUS.TKO_EN 0

/-- The fence's marks once everything the node drives is off: no launch, no sync, nothing pending (R439, R533). -/
def Node.fenceCleared (n : Node) : Node :=
  let n : Node := { n with time := { n.time with launches := [] } }
  let n := (n.wr TIME_LQ.PENDING 0).wr PAIR_STATUS.SYNC 0
  let n := n.updPair (fun p => { p with echoMark := none, handover := none, probation := none, snapQueued := false })
  n.wr PAIR_STATUS.PROBATION 0

/-- A submission held for its pair acceptance is refused (R245). -/
def Node.dropHeld (n : Node) (a : AccItem) : Node :=
  match a with
  | .outbound f seq => n.unsubmit f seq
  | .canEntry i => n.canRefused i 8
  | .record seq => n.releaseRecord seq
  | _ => n

/-- The submissions held are refused and wait no more (R245). -/
def Node.heldDropped (n : Node) : Node :=
  let held := if n.msg.heldAcc then n.msg.accq else []
  let n := held.foldl Node.dropHeld n
  { n with msg := { n.msg with accq := n.msg.accq.filter (fun a => !held.contains a) } }

theorem Node.fence_eq (n : Node) :
    n.fence = ((n.fenceClosed.engHalt.gustsOff.fenceCleared.heldDropped.raise PAIR_EVT.FENCE).count PAIR_CNT_FENCES.VALUE).unholdAcc := rfl

/-- The registers of the windows. -/
abbrev windowReg (a : Nat) : Prop := 4294967296 ≤ a

theorem Leaves.unsubmit (n : Node) (f seq : Nat) : Leaves windowReg n (n.unsubmit f seq) := by
  have hwin (a i : Nat) : windowReg (winAddr a i) := by
    unfold windowReg winAddr
    omega
  have hset (n : Node) (l : List OutMsg) : Leaves windowReg n (n.setOutMsgs f l) :=
    Leaves.trans (Leaves.withMsg (Leaves.refl n) _) (Leaves.wr _ _ _ (hwin _ _))
  unfold Node.unsubmit
  split
  · exact Leaves.refl n
  · exact ((Leaves.of_recorded (Recorded.storeFree n _)).trans (hset _ _)).trans (Leaves.wr _ _ _ (hwin _ _))

theorem Leaves.releaseRecord {S : Nat → Prop} (n : Node) (seq : Nat) : Leaves S n (n.releaseRecord seq) := by
  unfold Node.releaseRecord
  split
  · exact Leaves.refl n
  · exact ((Leaves.withEvrMsg (Leaves.refl n) _ _).trans (Leaves.of_recorded (Recorded.storeFree _ _))).trans
      (Leaves.of_recorded (Recorded.jchange _ _ _))

theorem Leaves.dropHeld (n : Node) (a : AccItem) : Leaves windowReg n (n.dropHeld a) := by
  unfold Node.dropHeld
  split
  · exact Leaves.unsubmit n _ _
  · exact (Leaves.setCanRecs n _).trans (Leaves.memPut _ _ _)
  · exact Leaves.releaseRecord n _
  · exact Leaves.refl n

theorem Leaves.heldDropped (n : Node) : Leaves windowReg n n.heldDropped :=
  Leaves.withMsg (Leaves.foldl Node.dropHeld _ n fun n a _ => Leaves.dropHeld n a) _

theorem Node.heldDropped_rd (hw : ¬ windowReg f.addr) (hr : recReg f.addr = false) : n.heldDropped.rd f = n.rd f := (Leaves.heldDropped n).rd hw hr

theorem Node.guardClose_rd (hg : GRD_STATUS.STATE.apart f = true) : n.guardClose.rd f = n.rd f := by
  unfold Node.guardClose
  split
  · rfl
  · exact Node.rd_wr_ne _ _ _ _ (by decide) hg

theorem Node.guardClose_ownPin : n.guardClose.ownPin = n.ownPin := by
  unfold Node.guardClose
  split <;> rfl

theorem Node.guardClose_state (hs : n.rd GRD_STATUS.STATE ≠ 0) : n.guardClose.rd GRD_STATUS.STATE = 4 := by
  rw [Node.guardClose, if_neg hs, Node.rd_wr_same _ _ _ (by decide)]
  rfl

theorem Node.timeSet_rd (t : TimeState) : ({ n with time := t } : Node).rd f = n.rd f := rfl

theorem Node.fenceCleared_rd (hp : TIME_LQ.PENDING.apart f = true) (hs : PAIR_STATUS.SYNC.apart f = true)
    (hb : PAIR_STATUS.PROBATION.apart f = true) : n.fenceCleared.rd f = n.rd f := by
  rw [Node.fenceCleared, Node.rd_wr_ne _ _ _ _ (by decide) hb, Node.updPair_rd, Node.rd_wr_ne _ _ _ _ (by decide) hs,
    Node.rd_wr_ne _ _ _ _ (by decide) hp, Node.timeSet_rd]

theorem Node.engHalt_rd (hs : ¬ engReg f.addr) (hr : recReg f.addr = false) : n.engHalt.rd f = n.rd f := (Leaves.engHalt n).rd hs hr

/-- What the fence leaves of a field once all is off: neither the refusals nor the event reach it. -/
theorem Node.fence_rd (hm : ¬ msgReg f.addr) (hw : ¬ windowReg f.addr) (hr : recReg f.addr = false) (he : PAIR_EVT.FENCE.apart f = true)
    (hc : PAIR_CNT_FENCES.VALUE.apart f = true) : n.fence.rd f = n.fenceClosed.engHalt.gustsOff.fenceCleared.rd f := by
  rw [Node.fence_eq, Node.unholdAcc_rd hm hr, Node.rd_count_ne _ _ _ (by decide) hc, Node.rd_raise _ _ _ (by decide) hr he,
    Node.heldDropped_rd hw hr]

/-- The role, the guardian and the event as the fence leaves them (R138, R439). -/
theorem Node.fence_shows (n : Node) (hg : n.rd GRD_STATUS.STATE ≠ 0) : n.fence.rd PAIR_STATUS.STATE = 6 ∧ n.fence.rd GRD_STATUS.STATE = 4
    ∧ n.fence.on GRD_STATUS.TKO_EN = false ∧ n.fence.on PAIR_STATUS.SYNC = false ∧ n.fence.on PAIR_EVT.FENCE = true := by
  have hstate : ((n.pairGo 6).setOwnPin false).rd GRD_STATUS.STATE ≠ 0 := by
    simp (disch := decide) only [Node.setOwnPin_rd, Node.pairGo_rd, Node.rd_wr_ne]
    exact hg
  refine ⟨?_, ?_, ?_, ?_, ?_⟩
  · simp (disch := decide) only [Node.fence_rd, Node.fenceCleared_rd, Node.gustsOff_rd, Node.engHalt_rd, Node.fenceClosed, Node.rd_wr_ne,
      Node.guardClose_rd, Node.setOwnPin_rd, Node.pairGo_rd, Node.rd_wr_same]
    rfl
  · simp (disch := decide) only [Node.fence_rd, Node.fenceCleared_rd, Node.gustsOff_rd, Node.engHalt_rd, Node.fenceClosed, Node.rd_wr_ne]
    exact Node.guardClose_state hstate
  · simp (disch := decide) only [Node.on, Node.fence_rd, Node.fenceCleared_rd, Node.gustsOff_rd, Node.engHalt_rd, Node.fenceClosed, Node.rd_wr_same]
    rfl
  · simp (disch := decide) only [Node.on, Node.fence_rd, Node.fenceCleared, Node.rd_wr_ne, Node.updPair_rd, Node.rd_wr_same]
    rfl
  · rw [Node.fence_eq, Node.on, Node.unholdAcc_rd (by decide) (by decide), Node.rd_count_ne _ _ _ (by decide) (by decide), ← Node.on,
      Node.on_raise_same _ _ (by decide) rfl (by decide)]

theorem Node.fence_ownPin (n : Node) : n.fence.ownPin = false := by
  have hcleared (n : Node) : n.fenceCleared.ownPin = n.ownPin := rfl
  have hclosed : n.fenceClosed.ownPin = false := Node.guardClose_ownPin.trans (Node.setOwnPin_ownPin false)
  rw [Node.fence_eq, Node.unholdAcc_ownPin, Node.count_ownPin, Node.raise_ownPin, (Leaves.heldDropped _).ownPin, hcleared, Node.gustsOff_ownPin,
    (Leaves.engHalt _).ownPin, hclosed]

/-- No launch stands past a fence (R533). -/
theorem Node.fence_launches (n : Node) : n.fence.time.launches = [] := by
  rw [Node.fence_eq, (Leaves.unholdAcc _).time, Node.count_time, Node.raise_time, (Leaves.heldDropped _).time]
  rfl

/-- A field of an engine or of a handle, as the fence reads it. -/
theorem Node.fence_rd_off (hm : f.addr < 0x40008000 ∧ ¬ (0x40007000 ≤ f.addr) ∨ 0x40030000 ≤ f.addr ∧ f.addr < 0x40038000)
    (hr : recReg f.addr = false) : n.fence.rd f = n.fenceClosed.engHalt.gustsOff.rd f := by
  have hne (g : Field) (hg : g.addr = 0x40007060 ∨ 0x40024000 ≤ g.addr ∧ g.addr < 0x40025000) : g.apart f = true :=
    Field.apart_of_addr_ne (by omega)
  have hmsg : ¬ msgReg f.addr := by
    unfold msgReg
    omega
  have hwin : ¬ windowReg f.addr := by
    unfold windowReg
    omega
  rw [Node.fence_rd hmsg hwin hr (hne _ (by decide)) (hne _ (by decide)), Node.fenceCleared_rd (hne _ (by decide)) (hne _ (by decide)) (hne _ (by decide))]

theorem Node.fence_handles (n : Node) (h1 : 1 ≤ h) (h2 : h < 255) : n.fence.rd (PWR_GH.STATE h) = 0 := by
  have hp := pwrReg_handle (k := h) (by omega)
  rw [Node.fence_rd_off (.inl (by unfold pwrReg at hp; omega)) (pwrReg_rec hp), Node.gustsOff_handles _ h1 h2]

/-- Every engine that ran, waited or held has stopped (R439). -/
theorem Node.fence_engSt (n : Node) (he : e < 8) : n.fence.engSt e = haltedState (n.engSt e) := by
  have haddr : 0x40030000 ≤ (ENG_STATUS.STATE e).addr ∧ (ENG_STATUS.STATE e).addr < 0x40038000 := by
    simp only [ENG_STATUS.STATE]
    omega
  have hrec : recReg (ENG_STATUS.STATE e).addr = false := statusOf_rec he
  have hne (g : Field) (hg : g.addr < 0x40030000) : g.apart (ENG_STATUS.STATE e) = true := Field.apart_of_addr_ne (by omega)
  have hhalt : ¬ haltReg (ENG_STATUS.STATE e).addr := by
    unfold haltReg
    omega
  have hpwr : ¬ pwrReg (ENG_STATUS.STATE e).addr := by
    unfold pwrReg
    omega
  have hcan : ¬ canReg (ENG_STATUS.STATE e).addr := by
    unfold canReg
    omega
  have hclosed : n.fenceClosed.engSt e = n.engSt e := by
    rw [Node.engSt, Node.fenceClosed, Node.rd_wr_ne _ _ _ _ (by decide) (hne _ (by decide)), Node.guardClose_rd (hne _ (by decide)),
      Node.setOwnPin_rd _ hcan hrec, Node.pairGo_rd _ hcan hrec, Node.rd_wr_ne _ _ _ _ (by decide) (hne _ (by decide)), Node.engSt]
  rw [Node.engSt, Node.fence_rd_off (.inr haddr) hrec, Node.gustsOff_rd hhalt hpwr hrec (hne _ (by decide)), ← Node.engSt,
    Node.engHalt_engSt _ he, hclosed]

end

/-! ### The commands -/

section
variable {s : State}

/-- The fence, where its timer runs (R439). -/
def Node.fenceDue (n : Node) : Node :=
  if n.pairSt = 2 && !n.on PAIR_STATUS.SOLO && n.pair.echoMark.isSome && !n.pair.stilled then n.fence else n

theorem fenceTimeout_exec (s : State) : exec .fenceTimeout s = s.onGuard Node.fenceDue := rfl

theorem fenceTimeout_fences (hh : s.node.boot.held = false) (hst : s.node.pairSt = 2) (hs : s.node.on PAIR_STATUS.SOLO = false)
    (he : s.node.pair.echoMark ≠ none) (hq : s.node.pair.stilled = false) (hg : s.node.rd GRD_STATUS.STATE ≠ 0) :
    Does .fenceTimeout s (fun m => m.rd PAIR_STATUS.STATE = 6 ∧ m.ownPin = false ∧ m.rd GRD_STATUS.STATE = 4
      ∧ m.on GRD_STATUS.TKO_EN = false ∧ m.time.launches = [] ∧ m.on PAIR_STATUS.SYNC = false ∧ m.on PAIR_EVT.FENCE = true
      ∧ (∀ e, e < 8 → m.engSt e = (if 1 ≤ s.node.engSt e ∧ s.node.engSt e ≤ 3 then 0 else s.node.engSt e))
      ∧ ∀ h, 1 ≤ h → h < 255 → m.rd (PWR_GH.STATE h) = 0) := by
  obtain ⟨hgo, hgrd, htko, hsync, hevt⟩ := s.node.fence_shows hg
  have hfires : (decide (s.node.pairSt = 2) && !s.node.on PAIR_STATUS.SOLO && s.node.pair.echoMark.isSome && !s.node.pair.stilled) = true := by
    simp [hst, hs, hq, Option.isSome_iff_ne_none.mpr he]
  refine does_onGuard hh (fenceTimeout_exec s) ?_
  rw [Node.fenceDue, if_pos hfires]
  exact ⟨hgo, s.node.fence_ownPin, hgrd, htko, s.node.fence_launches, hsync, hevt, fun e he => s.node.fence_engSt he,
    fun h h1 h2 => s.node.fence_handles h1 h2⟩

theorem fenceTimeout_solo (hh : s.node.boot.held = false) (hs : s.node.on PAIR_STATUS.SOLO = true) : Answers .fenceTimeout s s.node := by
  have hidle : s.node.fenceDue = s.node := by simp [Node.fenceDue, hs]
  obtain ⟨m, he, hm⟩ := does_onGuard (P := fun m => m = s.node) hh (fenceTimeout_exec s) hidle
  rw [Answers, he, hm]

/-- A command that changes nothing of the node that runs changes nothing of one that does not. -/
theorem answers_idle {c : Instr} {f : Node → Node} (hc : exec c s = s.onNode f) (hf : f s.node = s.node) : Answers c s s.node := by
  rw [Answers, hc, State.onNode, State.always, Node.live, hf, ite_self]

theorem lossDeclaration_stilled (hq : s.node.pair.stilled = true) : Answers .lossDeclaration s s.node :=
  answers_idle rfl (if_pos hq)

end

/-- Settles O26: each settlement is a chain of marks; what runs between them leaves the marks. -/
theorem pairRolesAndFence : Obligations.PairRolesAndFence := by
  refine ⟨fun s by_ hr => ⟨?_, ?_, ?_, ?_, ?_, ?_, ?_⟩, fun s => ⟨fun hr hq => ⟨?_, ?_⟩, ?_, fun hh hst => ⟨?_, ?_⟩, ?_⟩⟩
  · exact fun hen => does_onNode hr rfl (Node.pairOn_enables hen)
  · obtain ⟨hen, hst, hlink, hsync, hsolo⟩ := s.node.pairOff_shows
    obtain ⟨hown, hhand⟩ := s.node.pairOff_role
    exact does_onNode hr rfl ⟨hen, hst, hown, hlink, hsync, hsolo, hhand⟩
  · exact fun hst hv => negTimeout_settles hr hst hv
  · exact fun hst hl hm hb => syncComplete_standby hr hst hl hm hb
  · exact fun hst hq ha hl => syncComplete_active hr hst hq ha hl
  · exact fun hs hl => resynclong_tells hr hs hl
  · exact fun hst hl ha => assume_assumes hr hst hl ha
  · exact fun hst => lossDeclaration_takes hr hq hst
  · exact fun hst => lossDeclaration_tells hr hq hst
  · exact fun hq => lossDeclaration_stilled hq
  · exact fun hs he hq hg => fenceTimeout_fences hh hst hs he hq hg
  · exact fun hs => fenceTimeout_solo hh hs
  · exact fun hr hst hs => partnerLost_solo hr hst hs

end Sys2Proof.Machine
end

section
/-! PROOFS. An audio block that a receive entry counts as taken and does not keep (07_audio.md R284, R287, R295). -/

namespace Sys2Proof.Machine

/-- A block of one ms of silence, presented at 1,000,000 ns of train time. -/
def silentBlock : AudBlock := ⟨1000000, 0, 1, false, false, List.replicate 32 0⟩

/-- AUD runs at train time 0; receive entry 0 plays stream 5, which the directory gives to node 1, and holds sixteen blocks, all presented at one
time. -/
def repeatedNode : Node :=
  { [(AUD_CTRL.EN, 1), (AUD_RXW0.EN 0, 1), (AUD_RXW0.STREAM 0, 5)].foldl (fun n p => n.wr p.1 p.2) State.reset.node with
    dir := [⟨1, 1, 1, false, 0, false, false, false, false, 0, 0, 0, 6⟩]
    aud := { streams := [⟨5, 1, 6, false⟩], rx := [(0, { blocks := List.replicate 16 silentBlock })] } }

/-- The block comes once more, from node 1. -/
def repeatedUnit : DataUnitRx := ⟨3, 1, .a, audBody 5 silentBlock⟩

/-- The sixteen blocks make way for the new one, and the new one falls to the bound of sixteen, taken from their number before. -/
theorem audioBlock_repeated : Does (.audioBlock repeatedUnit) ⟨repeatedNode, []⟩ (fun m => (m.rxOf 0).blocks = []) :=
  does_onNode (by decide +kernel) rfl (by decide +kernel)

/-- Refutes O44: its clause on a block taken in time fails on `repeatedNode`, where the entry holds no block at all after it. AUD itself keeps one
block of each time; the statement, which speaks of every state, does not exclude an entry that holds sixteen of one. -/
theorem not_audioStreams : ¬ Obligations.AudioStreams := by
  unfold Obligations.AudioStreams
  intro h
  obtain ⟨-, -, -, -, -, -, -, -, -, -, -, htaken, -⟩ :=
    h ⟨repeatedNode, []⟩ .unit 0 0 0 repeatedUnit 0 0 ⟨5, 1, 6, false⟩ (by decide +kernel)
  have hdoes := (htaken (by decide +kernel) (by decide +kernel) (by decide +kernel) (by decide +kernel) (by decide +kernel) (by decide +kernel)).1
    (by decide +kernel) (by decide +kernel)
  obtain ⟨m, -, ⟨-, -, -, hlast⟩, hnone⟩ := hdoes.both audioBlock_repeated
  rw [hnone] at hlast
  exact absurd hlast (by simp)

end Sys2Proof.Machine
end

section
/-! PROOFS. What a mix period plays and what it applies: changes of crosspoints, zones and generators (07_audio.md R295, R299 to R302, R308). -/

namespace Sys2Proof.Machine

/-! ### Two fields of one word -/

section
variable (n : Node) {a lo w lo' w' : Nat} (v : Nat)

theorem Node.rd_wr_word_same (h : lo + w ≤ 32) : (n.wr ⟨a, lo, w⟩ v).rd ⟨a, lo, w⟩ = v % 2 ^ w := n.rd_wr_same _ _ h

theorem Node.rd_wr_word_ne (h : lo + w ≤ 32) (hd : lo' + w' ≤ lo ∨ lo + w ≤ lo') : (n.wr ⟨a, lo, w⟩ v).rd ⟨a, lo', w'⟩ = n.rd ⟨a, lo', w'⟩ :=
  n.rd_wr_ne _ _ _ h (by simp [Field.apart, hd])

/-- A field of a word that is not written reads as before. -/
theorem Node.rd_wr_elsewhere {f g : Field} (h : g.addr ≠ f.addr) : (n.wr f v).rd g = n.rd g := Node.rd_of_reg (n.wr_reg_ne f v _ h)

end

/-! ### Playing (R295, R301, R302) -/

/-- The words that playing writes: AUD_STATUS, AUD_CNT_CONCEAL, and AUD_RXW1, AUD_RXW2 and AUD_ZSTAT of any entry. -/
def playReg (a : Nat) : Bool := [0x40040004, 0x40040208, 0x40040018, 0x4004001C, 0x40040058].contains (a % 4294967296)

theorem playReg_winAddr {b : Nat} (hb : b < 4294967296) (i : Nat) : playReg (winAddr b i) = playReg b := by
  have hmod : winAddr b i % 4294967296 = b % 4294967296 := Nat.add_mul_mod_self_right _ _ _
  rw [playReg, hmod, Nat.mod_eq_of_lt hb, playReg, Nat.mod_eq_of_lt hb]

/-- `m` has `n`'s memory, changes that wait, coefficients in service, and registers but those of `playReg`. -/
structure PlayKept (n m : Node) : Prop where
  mem : m.mem = n.mem
  queue : m.aud.queue = n.aud.queue
  commits : m.aud.commits = n.aud.commits
  stops : m.aud.stops = n.aud.stops
  coefs : m.aud.coefs = n.aud.coefs
  reg : ∀ a, playReg a = false → m.reg a = n.reg a

namespace PlayKept

variable {n m k : Node}

theorem refl (n : Node) : PlayKept n n := ⟨rfl, rfl, rfl, rfl, rfl, fun _ _ => rfl⟩

theorem trans (h : PlayKept n m) (g : PlayKept m k) : PlayKept n k :=
  ⟨g.mem.trans h.mem, g.queue.trans h.queue, g.commits.trans h.commits, g.stops.trans h.stops, g.coefs.trans h.coefs,
    fun a ha => (g.reg a ha).trans (h.reg a ha)⟩

theorem cond {c : Prop} [Decidable c] {a b : Node} (ha : PlayKept n a) (hb : PlayKept n b) : PlayKept n (if c then a else b) := by
  split <;> assumption

theorem foldl {β : Type} {f : Node → β → Node} (h : ∀ n x, PlayKept n (f n x)) (l : List β) (n : Node) : PlayKept n (l.foldl f n) :=
  List.foldlRecOn (motive := fun m : Node => PlayKept n m) _ _ (refl n) fun m hm x _ => hm.trans (h m x)

theorem wr (n : Node) (f : Field) (v : Nat) (h : playReg f.addr = true) : PlayKept n (n.wr f v) :=
  ⟨rfl, rfl, rfl, rfl, rfl, fun a ha => n.wr_reg_ne f v a (by rintro rfl; simp [h] at ha)⟩

theorem count (n : Node) (f : Field) (h : playReg f.addr = true) : PlayKept n (n.count f) := wr n f _ h

theorem wrWindow (n : Node) {b i lo w v : Nat} (hb : b < 4294967296) (h : playReg b = true) : PlayKept n (n.wr ⟨winAddr b i, lo, w⟩ v) :=
  wr n _ v ((playReg_winAddr hb i).trans h)

theorem setRx (n : Node) (i : Nat) (x : AudRx) : PlayKept n (n.setRx i x) := ⟨rfl, rfl, rfl, rfl, rfl, fun _ _ => rfl⟩

theorem hang (n : Node) (t : Tab Nat) : PlayKept n { n with aud := { n.aud with hang := t } } := ⟨rfl, rfl, rfl, rfl, rfl, fun _ _ => rfl⟩

theorem duckP (n : Node) (t : Tab Nat) : PlayKept n { n with aud := { n.aud with duckP := t } } := ⟨rfl, rfl, rfl, rfl, rfl, fun _ _ => rfl⟩

theorem freeWord (n : Node) : PlayKept n n.freeWord.2 := ⟨rfl, rfl, rfl, rfl, rfl, fun _ _ => rfl⟩

theorem rxMix (n : Node) (i : Nat) : PlayKept n (n.rxMix i) := by
  have hstate : ∀ (m : Node) v, PlayKept m (m.wr (AUD_RXW1.STATE i) v) := fun m _ => wrWindow m (by decide) (by decide)
  have hconceal : ∀ m : Node, PlayKept m (m.count (AUD_RXW2.CONCEAL i)) := fun m => wrWindow m (by decide) (by decide)
  unfold Node.rxMix
  dsimp only
  split
  · exact (setRx n i _).trans (hstate _ _)
  · refine cond ((setRx n i _).trans (cond ?_ (refl _))) (refl n)
    exact ((hstate _ 2).trans (hconceal _)).trans (count _ _ (by decide))

theorem activity (n : Node) : PlayKept n n.activity := by
  refine foldl (fun m i => ?_) _ _
  have hlevel : PlayKept m (if m.inputSilent i then (0, m) else m.freeWord).2 := by
    split
    · exact refl m
    · exact freeWord m
  exact hlevel.trans (hang _ _)

theorem ducking (n : Node) : PlayKept n n.ducking := foldl (fun m _ => duckP m _) _ _

theorem limiters (n : Node) : PlayKept n n.limiters := by
  have hact : ∀ (m : Node) z v, PlayKept m (m.wr (AUD_ZSTAT.LIMACT z) v) := fun m _ _ => wrWindow m (by decide) (by decide)
  exact foldl (fun m z => cond ((freeWord m).trans (hact _ z _)) (hact m z 0)) _ _

theorem rxCount (n : Node) : PlayKept n n.rxCount := wr n _ _ (by decide)

end PlayKept

/-! ### The stages of a mix period (R300, R302, R308) -/

section
variable (n : Node)

/-- The crosspoint changes that wait, applied in the order of their arrival. -/
def Node.changesApplied : Node :=
  n.aud.queue.foldl (fun n c => n.xpApply c.1 c.2.1 c.2.2) { n with aud := { n.aud with queue := [] } }

/-- The zones that wait, swapped. -/
def Node.zonesSwapped : Node := n.aud.commits.foldl Node.zoneSwap { n with aud := { n.aud with commits := [] } }

/-- The generators that are to stop, stopped. -/
def Node.generatorsStopped : Node := n.aud.stops.foldl Node.genStop { n with aud := { n.aud with stops := [] } }

/-- The period played. -/
def Node.played : Node :=
  (((upTo 256).filter (fun i => n.on (AUD_RXW0.EN i))).foldl Node.rxMix n).activity.ducking.limiters.rxCount

/-- AUD runs, and no shed action holds it. -/
def Node.mixes : Prop := n.on AUD_CTRL.EN = true ∧ n.shed = false

theorem Node.played_kept : PlayKept n n.played :=
  ((((PlayKept.foldl PlayKept.rxMix _ n).trans (.activity _)).trans (.ducking _)).trans (.limiters _)).trans (.rxCount _)

theorem Node.mixes_iff : ¬ (!n.on AUD_CTRL.EN || n.shed) = true ↔ n.mixes := by simp [Node.mixes]

theorem Node.mix_idle (h : ¬ n.mixes) : n.mix = n := if_pos (not_not.mp (mt n.mixes_iff.mp h))

theorem Node.mix_eq (h : n.mixes) : n.mix = n.changesApplied.zonesSwapped.generatorsStopped.played := if_neg (n.mixes_iff.mpr h)

end

/-! ### What the stages leave of the changes that wait -/

section
variable {n m : Node} {k z : Nat} {mask v : Word}

theorem Node.xpApply_aud : (n.xpApply k mask v).aud = n.aud := by
  have hcond : ∀ {c : Prop} [Decidable c] {a b : Node}, a.aud = n.aud → b.aud = n.aud → (if c then a else b).aud = n.aud :=
    fun ha hb => by split <;> assumption
  exact hcond (Node.raise_aud _ _) (hcond rfl (hcond rfl rfl))

theorem Node.changesApplied_aud : n.changesApplied.aud = { n.aud with queue := [] } :=
  List.foldlRecOn (motive := fun m : Node => m.aud = { n.aud with queue := [] }) _ _ rfl fun _ hm _ _ => Node.xpApply_aud.trans hm

/-- The changes that wait on `m` are those of `n`. -/
def SameWaiting (n m : Node) : Prop := m.aud.queue = n.aud.queue ∧ m.aud.commits = n.aud.commits ∧ m.aud.stops = n.aud.stops

/-- A fold of steps that leave the changes that wait. -/
theorem SameWaiting.foldl {β : Type} {f : Node → β → Node} (h : ∀ n x, SameWaiting n (f n x)) (l : List β) (n : Node) : SameWaiting n (l.foldl f n) :=
  List.foldlRecOn (motive := fun m : Node => SameWaiting n m) _ _ ⟨rfl, rfl, rfl⟩ fun m hm x _ =>
    ⟨(h m x).1.trans hm.1, (h m x).2.1.trans hm.2.1, (h m x).2.2.trans hm.2.2⟩

/-- A staging coefficient of a zone taken into service (R302). -/
def Node.takeCoef (z : Nat) (n : Node) (c : Nat) : Node :=
  { n with aud := { n.aud with coefs := Tab.set (fun _ => 0) n.aud.coefs (64 * z + c) (n.reg (AUD_ZCDATA.DATA (64 * z + c)).addr) } }

theorem Node.zoneSwap_eq (n : Node) (z : Nat) : n.zoneSwap z
    = ((upTo 64).foldl (Node.takeCoef z) n).wr (AUD_ZCTRL.BANK z) (1 - ((upTo 64).foldl (Node.takeCoef z) n).rd (AUD_ZCTRL.BANK z)) := rfl

theorem Node.zoneSwap_sameWaiting (n : Node) (z : Nat) : SameWaiting n (n.zoneSwap z) :=
  SameWaiting.foldl (f := Node.takeCoef z) (fun _ _ => ⟨rfl, rfl, rfl⟩) _ n

theorem Node.zonesSwapped_waiting : n.zonesSwapped.aud.queue = n.aud.queue ∧ n.zonesSwapped.aud.commits = []
    ∧ n.zonesSwapped.aud.stops = n.aud.stops :=
  SameWaiting.foldl Node.zoneSwap_sameWaiting _ { n with aud := { n.aud with commits := [] } }

theorem Node.generatorsStopped_waiting : n.generatorsStopped.aud.queue = n.aud.queue ∧ n.generatorsStopped.aud.commits = n.aud.commits
    ∧ n.generatorsStopped.aud.stops = [] :=
  SameWaiting.foldl (f := Node.genStop) (fun _ _ => ⟨rfl, rfl, rfl⟩) _ { n with aud := { n.aud with stops := [] } }

/-- No change waits after a mix period (R300, R302, R308). -/
theorem Node.mix_waiting (h : n.mixes) : n.mix.aud.queue = [] ∧ n.mix.aud.commits = [] ∧ n.mix.aud.stops = [] := by
  obtain ⟨hzq, hzc, -⟩ := Node.zonesSwapped_waiting (n := n.changesApplied)
  obtain ⟨hgq, hgc, hgs⟩ := Node.generatorsStopped_waiting (n := n.changesApplied.zonesSwapped)
  have hplayed := n.changesApplied.zonesSwapped.generatorsStopped.played_kept
  rw [Node.mix_eq n h]
  refine ⟨(hplayed.queue.trans hgq).trans (hzq.trans ?_), (hplayed.commits.trans hgc).trans hzc, hplayed.stops.trans hgs⟩
  rw [Node.changesApplied_aud]

theorem Node.changesApplied_none (h : n.aud.queue = []) : n.changesApplied = n := by
  have haud : { n.aud with queue := [] } = n.aud := by rw [← h]
  rw [Node.changesApplied, h, List.foldl_nil, haud]

theorem Node.zonesSwapped_none (h : n.aud.commits = []) : n.zonesSwapped = n := by
  have haud : { n.aud with commits := [] } = n.aud := by rw [← h]
  rw [Node.zonesSwapped, h, List.foldl_nil, haud]

theorem Node.generatorsStopped_none (h : n.aud.stops = []) : n.generatorsStopped = n := by
  have haud : { n.aud with stops := [] } = n.aud := by rw [← h]
  rw [Node.generatorsStopped, h, List.foldl_nil, haud]

/-! ### One crosspoint change (R299, R300) -/

/-- The crosspoint's word as the change would leave it. -/
def Node.xpNew (n : Node) (k : Nat) (mask v : Word) : Word := (n.reg (AUD_XW.EN k).addr &&& ~~~ mask) ||| (v &&& mask)

/-- The change would enable a 33rd crosspoint of its output. -/
def Node.xpOver (n : Node) (k : Nat) (mask v : Word) : Prop :=
  bit (n.xpNew k mask v).toNat 31 = true ∧ bit (n.reg (AUD_XW.EN k).addr).toNat 31 = false
    ∧ 32 ≤ ((upTo 384).filter (fun i => n.on (AUD_XW.EN (384 * (k / 384) + i)))).length

theorem Node.xpApply_over (h : n.xpOver k mask v) : n.xpApply k mask v = (n.count AUD_CNT_XREFUSED.VALUE).raise AUD_EVT.XFULL := by
  obtain ⟨hnow, hwas, hwide⟩ := h
  refine if_pos ?_
  rw [Bool.and_eq_true, Bool.and_eq_true, decide_eq_true_eq, Bool.not_eq_true']
  exact ⟨⟨hnow, hwas⟩, hwide⟩

/-- The change stored in the register and in AUDBUF. -/
def Node.xpStored (n : Node) (k : Nat) (w : Word) : Node := (n.setReg (AUD_XW.EN k).addr w).memPut (xpAddr k) (leBytes 4 w.toNat)

/-- A change that is not refused is stored; beside it only AUD_XCOUNT is written. -/
theorem Node.xpApply_within (h : ¬ n.xpOver k mask v) : ∃ c, n.xpApply k mask v = n.xpStored k (n.xpNew k mask v)
    ∨ n.xpApply k mask v = (n.xpStored k (n.xpNew k mask v)).wr AUD_XCOUNT.VALUE c := by
  have hgo : ¬ (bit (n.xpNew k mask v).toNat 31 && !bit (n.reg (AUD_XW.EN k).addr).toNat 31
      && 32 ≤ ((upTo 384).filter (fun i => n.on (AUD_XW.EN (384 * (k / 384) + i)))).length) = true := by
    rw [Bool.and_eq_true, Bool.and_eq_true, decide_eq_true_eq, Bool.not_eq_true', and_assoc]
    exact h
  have heq : n.xpApply k mask v = _ := if_neg hgo
  rw [heq]
  split
  · exact ⟨_, .inr rfl⟩
  · split
    · exact ⟨_, .inr rfl⟩
    · exact ⟨0, .inl rfl⟩

theorem Node.xpStored_mem (w : Word) : (n.xpStored k w).memLe (xpAddr k) 4 = w.toNat := by
  rw [Node.memLe, Node.xpStored, Node.memBytes_memPut _ (leBytes_length 4 _), ofLe_leBytes]
  exact Nat.mod_eq_of_lt w.isLt

/-- The change taken: the crosspoint's word, in its register and in AUDBUF. -/
theorem Node.xpApply_taken (h : ¬ n.xpOver k mask v) : (n.xpApply k mask v).reg (AUD_XW.EN k).addr = n.xpNew k mask v
    ∧ (n.xpApply k mask v).memLe (xpAddr k) 4 = (n.xpNew k mask v).toNat := by
  have hreg : (n.xpStored k (n.xpNew k mask v)).reg (AUD_XW.EN k).addr = n.xpNew k mask v := n.setReg_reg_same _ _
  obtain ⟨c, heq | heq⟩ := Node.xpApply_within h
  · rw [heq]
    exact ⟨hreg, Node.xpStored_mem _⟩
  · rw [heq]
    exact ⟨(Node.wr_reg_ne _ _ _ _ (winAddr_ne_of_lt (by decide))).trans hreg, Node.xpStored_mem _⟩

theorem Node.xpApply_refused (h : n.xpOver k mask v) : (n.xpApply k mask v).reg (AUD_XW.EN k).addr = n.reg (AUD_XW.EN k).addr
    ∧ Counted AUD_CNT_XREFUSED.VALUE n (n.xpApply k mask v) ∧ (n.xpApply k mask v).on AUD_EVT.XFULL = true := by
  rw [Node.xpApply_over h]
  refine ⟨?_, ?_, Node.on_raise_same _ _ (by decide) rfl (by decide)⟩
  · refine ((Node.raise_recorded _ _).reg _ (recReg_winAddr _ _)).trans ?_
    exact (Node.wr_reg_ne _ _ _ _ (winAddr_ne_of_lt (by decide))).trans (Node.wr_reg_ne _ _ _ _ (winAddr_ne_of_lt (by decide)))
  · rw [Counted, Node.rd_raise _ _ _ (by decide) (by decide) (by decide)]
    exact n.count_counted _ (by decide)

/-- A mix period with one change of a crosspoint waiting applies it and plays. -/
theorem Node.mix_change (h : n.mixes) (hq : n.aud.queue = [(k, mask, v)]) (hc : n.aud.commits = []) (hs : n.aud.stops = []) :
    PlayKept (({ n with aud := { n.aud with queue := [] } } : Node).xpApply k mask v) n.mix := by
  have happlied : n.changesApplied = ({ n with aud := { n.aud with queue := [] } } : Node).xpApply k mask v := by rw [Node.changesApplied, hq]; rfl
  have haud := Node.changesApplied_aud (n := n)
  rw [Node.mix_eq n h, Node.zonesSwapped_none (by rw [haud]; exact hc), Node.generatorsStopped_none (by rw [haud]; exact hs), happlied]
  exact Node.played_kept _

/-! ### One zone (R302) and one generator (R308) -/

/-- Coefficients of a zone taken into service, the first `j` of them. -/
theorem Node.takeCoefs_coefs (n : Node) (z j : Nat) : ((upTo j).foldl (Node.takeCoef z) n).regs = n.regs
    ∧ ∀ c, c < j → Tab.get (fun _ => 0) ((upTo j).foldl (Node.takeCoef z) n).aud.coefs (64 * z + c) = n.reg (AUD_ZCDATA.DATA (64 * z + c)).addr := by
  induction j with
  | zero => exact ⟨rfl, fun c hc => absurd hc (Nat.not_lt_zero c)⟩
  | succ j ih =>
    obtain ⟨hregs, hcoefs⟩ := ih
    rw [upTo, List.range_succ, List.foldl_append, ← upTo]
    refine ⟨hregs, fun c hc => ?_⟩
    obtain rfl | hne := eq_or_ne c j
    · refine (Tab.get_set_same _ _ _ _).trans ?_
      rw [Node.reg, hregs, Node.reg]
    · exact (Tab.get_set_ne _ _ _ _ _ (by omega)).trans (hcoefs c (by omega))

theorem Node.mix_swap (h : n.mixes) (hq : n.aud.queue = []) (hc : n.aud.commits = [z]) (hs : n.aud.stops = []) :
    PlayKept (({ n with aud := { n.aud with commits := [] } } : Node).zoneSwap z) n.mix := by
  have hswapped : n.zonesSwapped = ({ n with aud := { n.aud with commits := [] } } : Node).zoneSwap z := by rw [Node.zonesSwapped, hc]; rfl
  rw [Node.mix_eq n h, Node.changesApplied_none hq, Node.generatorsStopped_none (Node.zonesSwapped_waiting.2.2.trans hs), hswapped]
  exact Node.played_kept _

theorem Node.mix_stop (h : n.mixes) (hq : n.aud.queue = []) (hc : n.aud.commits = []) (hs : n.aud.stops = [z]) :
    PlayKept (({ n with aud := { n.aud with stops := [] } } : Node).genStop z) n.mix := by
  have hstopped : n.generatorsStopped = ({ n with aud := { n.aud with stops := [] } } : Node).genStop z := by rw [Node.generatorsStopped, hs]; rfl
  rw [Node.mix_eq n h, Node.changesApplied_none hq, Node.zonesSwapped_none hc, hstopped]
  exact Node.played_kept _

theorem Node.zoneSwap_bank (n : Node) (z : Nat) : (n.zoneSwap z).rd (AUD_ZCTRL.BANK z) = 1 - n.rd (AUD_ZCTRL.BANK z) := by
  rw [Node.zoneSwap_eq, Node.rd_wr_same _ _ _ (by decide : 17 + 1 ≤ 32), Node.rd_congr (n.takeCoefs_coefs z 64).1]
  exact Nat.mod_eq_of_lt (Nat.lt_succ_of_le (Nat.sub_le _ _))

theorem Node.zoneSwap_coefs (n : Node) (z : Nat) {c : Nat} (hc : c < 64) :
    Tab.get (fun _ => 0) (n.zoneSwap z).aud.coefs (64 * z + c) = n.reg (AUD_ZCDATA.DATA (64 * z + c)).addr := by
  rw [Node.zoneSwap_eq, Node.wr_aud]
  exact (n.takeCoefs_coefs z 64).2 c hc

theorem Node.genStop_run (n : Node) (g : Nat) : (n.genStop g).on (AUD_GW0.RUN g) = false := by
  rw [Node.on, Node.genStop, Node.rd_wr_same _ _ _ (by decide : 31 + 1 ≤ 32)]
  rfl

end
end Sys2Proof.Machine
end

section
/-! PROOFS. The units of AUD on their own, and their statement: zones, cancellers, generators and clips (07_audio.md R299, R300, R302, R304 to
R309). -/

namespace Sys2Proof.Machine

/-! ### Commands that the pair mirrors -/

/-- A mirrored command does what holds wherever recording and mirroring have changed its own effect, and no memory. -/
theorem does_recorded {c : Instr} {s : State} {by_ : Initiator} {a : Nat} {v : Node → Nat} {f : Node → Node} {P : Node → Prop}
    (hr : s.node.running = true) (hc : exec c s = s.onNode (fun n => n.mirrored by_ a (v n) f))
    (hp : ∀ m, Recorded (f s.node) m → m.mem = (f s.node).mem → P m) : Does c s P :=
  does_onNode hr hc (hp _ (Node.mirrored_recorded _ _ _ _ _) (Node.mirrored_mem _ _ _ _ _))

/-- A mirrored command that changes AUD's state alone leaves it so. -/
theorem does_aud {c : Instr} {s : State} {by_ : Initiator} {a : Nat} {v : Node → Nat} {f : Node → Node} {x : AudState}
    (hr : s.node.running = true) (hc : exec c s = s.onNode (fun n => n.mirrored by_ a (v n) f)) (hx : (f s.node).aud = x) : Does c s (fun m => m.aud = x) :=
  does_recorded hr hc fun _ hm _ => hm.aud.trans hx

/-! ### Fields of a masked word -/

/-- A field that a mask lets through whole reads through it as before. -/
theorem bits_and_mask {x m lo w : Nat} (h : bits m lo w = 2 ^ w - 1) : bits (x &&& m) lo w = bits x lo w := by
  refine Nat.eq_of_testBit_eq fun i => ?_
  have hm : (bits m lo w).testBit i = decide (i < w) := by rw [h, Nat.testBit_two_pow_sub_one]
  simp only [bits, Nat.testBit_mod_two_pow, Nat.testBit_div_two_pow, Nat.testBit_and] at hm ⊢
  by_cases hi : i < w
  · simp only [hi, decide_true, Bool.true_and] at hm ⊢
    rw [hm, Bool.and_true]
  · simp only [hi, decide_false, Bool.false_and]

theorem sat_eight_le (x : Nat) : sat 8 x = min x 255 := by rw [sat_eight, Nat.min_comm]

section
variable (n : Node)

/-! ### Ambient gain (R304) -/

section
variable (z : Nat) (x : Nat)

/-- The gain that the noise of a gap asks for. -/
def Node.ancTarget : Nat :=
  min (10 * n.rd (AUD_ZANC.MAXB z)) (n.rd (AUD_ZANC.SLOPE z) * (n.rd (AUD_ZANC.NREF z) - min x 255))

/-- The gain after a gap: at most 3 dB nearer. -/
def Node.ancStep : Nat :=
  let g := n.rd (AUD_ZSTAT.ANCGAIN z)
  if g < n.ancTarget z x then min (n.ancTarget z x) (g + 30) else max (n.ancTarget z x) (g - 30)

/-- A gap measured. -/
def Node.ancMeasured : Node :=
  (((n.wr (AUD_ZSTAT.ANCGAIN z) (n.ancStep z x)).wr (AUD_ZSTAT.NOISE z) (min x 255)).wr (AUD_ZSTAT.GAPAGE z) 0).wr (AUD_ZSTAT.HOLD z) 0

/-- The zone's gain held. -/
def Node.ancHeld : Node := (n.wr (AUD_ZSTAT.HOLD z) 1).wr (AUD_ZSTAT.GAPAGE z) (max 60 (n.rd (AUD_ZSTAT.GAPAGE z)))

theorem Node.ancStep_lt : n.ancStep z x < 256 := by
  have hg : n.rd (AUD_ZSTAT.ANCGAIN z) < 256 := bits_lt _ _ _
  have hm : n.rd (AUD_ZANC.MAXB z) < 16 := bits_lt _ _ _
  have ht : n.ancTarget z x ≤ 10 * n.rd (AUD_ZANC.MAXB z) := min_le_left _ _
  unfold Node.ancStep
  dsimp only
  split <;> omega

theorem Node.ancMeasured_effect : (n.ancMeasured z x).rd (AUD_ZSTAT.ANCGAIN z) = n.ancStep z x
    ∧ (n.ancMeasured z x).rd (AUD_ZSTAT.NOISE z) = min x 255 ∧ (n.ancMeasured z x).rd (AUD_ZSTAT.GAPAGE z) = 0
    ∧ (n.ancMeasured z x).on (AUD_ZSTAT.HOLD z) = false := by
  have hgain : n.ancStep z x % 2 ^ 8 = n.ancStep z x := Nat.mod_eq_of_lt (n.ancStep_lt z x)
  have hnoise : min x 255 % 2 ^ 8 = min x 255 := Nat.mod_eq_of_lt (Nat.lt_succ_of_le (min_le_right _ _))
  have hhold : (n.ancMeasured z x).rd (AUD_ZSTAT.HOLD z) = 0 := Node.rd_wr_word_same _ _ (by decide)
  have hage : (n.ancMeasured z x).rd (AUD_ZSTAT.GAPAGE z) = 0 :=
    (Node.rd_wr_word_ne _ _ (by decide) (by decide)).trans (Node.rd_wr_word_same _ _ (by decide))
  refine ⟨?_, ?_, hage, by rw [Node.on, hhold]; rfl⟩
  · exact (Node.rd_wr_word_ne _ _ (by decide) (by decide)).trans ((Node.rd_wr_word_ne _ _ (by decide) (by decide)).trans
      ((Node.rd_wr_word_ne _ _ (by decide) (by decide)).trans ((Node.rd_wr_word_same _ _ (by decide)).trans hgain)))
  · exact (Node.rd_wr_word_ne _ _ (by decide) (by decide)).trans ((Node.rd_wr_word_ne _ _ (by decide) (by decide)).trans
      ((Node.rd_wr_word_same _ _ (by decide)).trans hnoise))

theorem Node.ancHeld_effect : (n.ancHeld z).on (AUD_ZSTAT.HOLD z) = true ∧ (n.ancHeld z).rd (AUD_ZSTAT.ANCGAIN z) = n.rd (AUD_ZSTAT.ANCGAIN z)
    ∧ (n.ancHeld z).rd (AUD_ZSTAT.GAPAGE z) = max 60 (n.rd (AUD_ZSTAT.GAPAGE z)) := by
  have hage : n.rd (AUD_ZSTAT.GAPAGE z) < 4096 := bits_lt _ _ _
  have hhold : (n.ancHeld z).rd (AUD_ZSTAT.HOLD z) = 1 :=
    (Node.rd_wr_word_ne _ _ (by decide) (by decide)).trans (Node.rd_wr_word_same _ _ (by decide))
  refine ⟨decide_eq_true hhold, ?_, ?_⟩
  · exact (Node.rd_wr_word_ne _ _ (by decide) (by decide)).trans (Node.rd_wr_word_ne _ _ (by decide) (by decide))
  · exact (Node.rd_wr_word_same _ _ (by decide)).trans (Nat.mod_eq_of_lt (max_lt (by decide) hage))

end

/-! ### Cancellers (R305 to R307) -/

section
variable (ec : Fin 16) (x : Nat) (v : Word)

/-- Canceller `ec` may burst: it is on, adapting, and its gust is granted. -/
def Node.mayBurst : Prop :=
  n.on (AUD_ECA.EN ec) = true ∧ 1 ≤ n.rd (AUD_ECB.STATE ec) ∧ n.rd (AUD_ECB.STATE ec) ≤ 3 ∧ n.gustGranted (n.rd (AUD_ECB.GUST ec)) 6 = true

/-- Since when canceller `ec` bursts, in ns plus 1; 0: it does not. -/
def Node.burstSince (k : Nat) : Nat := Tab.get (fun _ => 0) n.aud.burst k

/-- A canceller reset: counted, told, its ERLE 0 (R306). -/
def Node.diverged : Node :=
  (((n.count AUD_CNT_ECRESET.VALUE).raise AUD_EVT.ECDIV).wr (AUD_ECB.ERLE ec) 0).wr (AUD_ECB.STATE ec) (if n.rd (AUD_ECB.STATE ec) = 4 then 4 else 1)

theorem recReg_eca : recReg (AUD_ECA.EN ec).addr = false := by
  have hlo : 0x4002C000 ≤ 0x40040100 + 8 * ec.val := by omega
  have hhi : 0x40040100 + 8 * ec.val < 0x40070000 := by omega
  exact recReg_of_range hlo hhi

theorem recReg_ecb : recReg (AUD_ECB.STATE ec).addr = false := by
  have hlo : 0x4002C000 ≤ 0x40040104 + 8 * ec.val := by omega
  have hhi : 0x40040104 + 8 * ec.val < 0x40070000 := by omega
  exact recReg_of_range hlo hhi

theorem Node.rd_wr_state (y : Nat) (hy : y < 8) : (n.wr (AUD_ECB.STATE ec) y).rd (AUD_ECB.STATE ec) = y :=
  (n.rd_wr_word_same y (by decide)).trans (Nat.mod_eq_of_lt hy)

theorem Node.diverged_effect : Counted AUD_CNT_ECRESET.VALUE n (n.diverged ec) ∧ (n.diverged ec).on AUD_EVT.ECDIV = true
    ∧ (n.diverged ec).rd (AUD_ECB.ERLE ec) = 0 ∧ (n.diverged ec).rd (AUD_ECB.STATE ec) = (if n.rd (AUD_ECB.STATE ec) = 4 then 4 else 1) := by
  have hfar : ∀ a, 0x40040180 ≤ a → a ≠ 0x40040104 + 8 * ec.val := fun a ha => by omega
  have hkept : ∀ f : Field, 0x40040180 ≤ f.addr → (n.diverged ec).rd f = ((n.count AUD_CNT_ECRESET.VALUE).raise AUD_EVT.ECDIV).rd f := fun f hf =>
    (Node.rd_wr_elsewhere _ _ (hfar _ hf)).trans (Node.rd_wr_elsewhere _ _ (hfar _ hf))
  refine ⟨?_, ?_, ?_, Node.rd_wr_state _ _ _ (by split <;> decide)⟩
  · rw [Counted, hkept _ (by decide), Node.rd_raise _ _ _ (by decide) (by decide) (by decide)]
    exact n.count_counted _ (by decide)
  · rw [Node.on_congr (hkept _ (by decide))]
    exact Node.on_raise_same _ _ (by decide) rfl (by decide)
  · exact (Node.rd_wr_word_ne _ _ (by decide) (by decide)).trans ((Node.rd_wr_word_same _ _ (by decide)).trans rfl)

theorem Node.ecBurst_starts (h : n.mayBurst ec) : (n.ecBurst ec).rd (AUD_ECB.STATE ec) = 4 ∧ (n.ecBurst ec).burstSince ec = n.now + 1 := by
  obtain ⟨hen, hlo, hhi, hgust⟩ := h
  have heq : n.ecBurst ec = _ := if_pos (by simp [hen, hlo, hhi, hgust])
  rw [heq]
  exact ⟨Node.rd_wr_state _ _ _ (by decide), Tab.get_set_same _ _ _ _⟩

theorem Node.ecBurst_refused (h : ¬ n.mayBurst ec) : n.ecBurst ec = n := by
  refine if_neg fun hc => h ?_
  simpa [Node.mayBurst, and_assoc] using hc

/-- A burst that ends with the ERLE measured (R307). -/
theorem Node.burstEnd_effect (h : n.rd (AUD_ECB.STATE ec) = 4) :
    ((n.wr (AUD_ECB.ERLE ec) (sat 8 x)).burstEnd ec).rd (AUD_ECB.ERLE ec) = min x 255
      ∧ ((n.wr (AUD_ECB.ERLE ec) (sat 8 x)).burstEnd ec).rd (AUD_ECB.STATE ec) = (if 40 ≤ x then 2 else 1)
      ∧ ((n.wr (AUD_ECB.ERLE ec) (sat 8 x)).burstEnd ec).burstSince ec = 0 := by
  have hstate : (n.wr (AUD_ECB.ERLE ec) (sat 8 x)).rd (AUD_ECB.STATE ec) = 4 := (Node.rd_wr_word_ne _ _ (by decide) (by decide)).trans h
  have herle : (n.wr (AUD_ECB.ERLE ec) (sat 8 x)).rd (AUD_ECB.ERLE ec) = min x 255 := by
    refine (Node.rd_wr_word_same _ _ (by decide)).trans ?_
    rw [sat_eight_le]
    exact Nat.mod_eq_of_lt (by omega)
  have heq : (n.wr (AUD_ECB.ERLE ec) (sat 8 x)).burstEnd ec = _ := if_pos hstate
  rw [heq, herle]
  refine ⟨(Node.rd_wr_word_ne _ _ (by decide) (by decide)).trans herle, ?_, Tab.get_set_same _ _ _ _⟩
  refine (Node.rd_wr_state _ _ _ (by split <;> decide)).trans (if_congr ?_ rfl rfl)
  omega

/-- Another canceller that is not refused holds the microphone that `v` names. -/
def Node.micTaken : Bool :=
  (upTo 16).any (fun j => j ≠ ec.val && n.on (AUD_ECA.EN j) && n.rd (AUD_ECB.STATE j) ≠ 5 && n.rd (AUD_ECA.MIC j) = v.toNat % 64)

/-- The canceller's first word stored. -/
def Node.ecStored : Node := n.setReg (AUD_ECA.EN ec).addr (v &&& 0x807F3F3F)

theorem Node.ecStored_rd_ne {f : Field} (h : f.addr ≠ (AUD_ECA.EN ec).addr) : (n.ecStored ec v).rd f = n.rd f :=
  Node.rd_of_reg (n.setReg_reg_ne _ _ _ h)

theorem Node.ecStored_field {lo w : Nat} (h : bits 0x807F3F3F lo w = 2 ^ w - 1) :
    (n.ecStored ec v).rd ⟨(AUD_ECA.EN ec).addr, lo, w⟩ = bits v.toNat lo w := by
  rw [Node.rd, Node.ecStored, Node.setReg_reg_same, BitVec.toNat_and]
  exact bits_and_mask h

theorem Node.ecStored_en : (n.ecStored ec v).on (AUD_ECA.EN ec) = bit v.toNat 31 :=
  congrArg (fun y => decide (y = 1)) (n.ecStored_field ec v (lo := 31) (w := 1) (by decide))

theorem Node.ecStored_mic : (n.ecStored ec v).rd (AUD_ECA.MIC ec) = v.toNat % 64 :=
  (n.ecStored_field ec v (lo := 0) (w := 6) (by decide)).trans (by simp [bits])

theorem Node.ecStored_micTaken : (upTo 16).any (fun j => j ≠ ec.val && (n.ecStored ec v).on (AUD_ECA.EN j) && (n.ecStored ec v).rd (AUD_ECB.STATE j) ≠ 5
    && (n.ecStored ec v).rd (AUD_ECA.MIC j) = (n.ecStored ec v).rd (AUD_ECA.MIC ec)) = n.micTaken ec v := by
  rw [Node.ecStored_mic]
  refine List.any_congr rfl fun j => ?_
  obtain rfl | hj := eq_or_ne j ec.val
  · simp
  · have hword : 0x40040100 + 8 * j ≠ 0x40040100 + 8 * ec.val := by omega
    have hother : 0x40040104 + 8 * j ≠ 0x40040100 + 8 * ec.val := by omega
    have hen : (n.ecStored ec v).on (AUD_ECA.EN j) = n.on (AUD_ECA.EN j) := Node.on_congr (n.ecStored_rd_ne ec v hword)
    rw [hen, n.ecStored_rd_ne ec v (f := AUD_ECB.STATE j) hother, n.ecStored_rd_ne ec v (f := AUD_ECA.MIC j) hword]

theorem Node.writeEc_eq (h : bit v.toNat 24 = false) : n.writeEc ec v =
    if bit v.toNat 31 && !n.on (AUD_ECA.EN ec) then ((n.ecStored ec v).wr (AUD_ECB.STATE ec) (if n.micTaken ec v then 5 else 1)).wr (AUD_ECB.ERLE ec) 0
    else if !bit v.toNat 31 then (n.ecStored ec v).wr (AUD_ECB.STATE ec) 0 else n.ecStored ec v := by
  rw [← n.ecStored_micTaken ec v, ← n.ecStored_en ec v]
  exact if_neg (by simp [h])

theorem Node.writeEc_effect (h : bit v.toNat 24 = false) : (n.writeEc ec v).reg (AUD_ECA.EN ec).addr = v &&& 0x807F3F3F
    ∧ (n.writeEc ec v).rd (AUD_ECB.STATE ec) = (if bit v.toNat 31 then
        (if n.on (AUD_ECA.EN ec) then n.rd (AUD_ECB.STATE ec) else if n.micTaken ec v then 5 else 1) else 0) := by
  have hwords : 0x40040100 + 8 * ec.val ≠ 0x40040104 + 8 * ec.val := by omega
  have hreg : (n.ecStored ec v).reg (AUD_ECA.EN ec).addr = v &&& 0x807F3F3F := n.setReg_reg_same _ _
  have hkept : (n.ecStored ec v).rd (AUD_ECB.STATE ec) = n.rd (AUD_ECB.STATE ec) := n.ecStored_rd_ne ec v hwords.symm
  rw [n.writeEc_eq ec v h]
  cases hnow : bit v.toNat 31 with
  | false => exact ⟨(Node.wr_reg_ne _ _ _ _ hwords).trans hreg, Node.rd_wr_state _ _ 0 (by decide)⟩
  | true =>
    cases hwas : n.on (AUD_ECA.EN ec) with
    | true => exact ⟨hreg, hkept⟩
    | false =>
      refine ⟨(Node.wr_reg_ne _ _ _ _ hwords).trans ((Node.wr_reg_ne _ _ _ _ hwords).trans hreg), ?_⟩
      exact (Node.rd_wr_word_ne _ _ (by decide) (by decide)).trans (Node.rd_wr_state _ _ _ (by split <;> decide))

end

/-! ### Generators (R308) -/

section
variable (v : Word)

/-- The earliest time at which a generator may start. -/
def Node.genLeast : Word := n.time.train + 5000000

/-- How far that lies past a boundary of the 1 ms grid, in ns. -/
def Node.genPast : Nat := (n.genLeast - BitVec.ofNat 32 (n.rd BAR_TTSTAMP.VALUE)).toNat % 1000000

/-- The first boundary of the grid at which a generator may start. -/
def Node.genNext : Word := if n.genPast = 0 then n.genLeast else n.genLeast + BitVec.ofNat 32 (1000000 - n.genPast)

/-- Generator `g` runs from `t` on. -/
def Node.genRuns (g : Nat) (t : Word) : Node :=
  let x := { n.aud with genStart := Tab.set (fun _ => 0) n.aud.genStart g t.toNat, stops := n.aud.stops.filter (· ≠ g) }
  ({ n with aud := x } : Node).wr (AUD_GW0.RUN g) 1

theorem Node.genStart_off (h : n.rd (AUD_GW0.KIND (n.rd AUD_GSEL.GEN)) = 0) : n.genStart v = n := if_pos (by simp [h])

theorem Node.genStart_eq (h1 : 1 ≤ n.rd (AUD_GW0.KIND (n.rd AUD_GSEL.GEN))) (h4 : n.rd (AUD_GW0.KIND (n.rd AUD_GSEL.GEN)) ≤ 4) : n.genStart v
    = (n.genRuns (n.rd AUD_GSEL.GEN) (if timeDiff v n.time.train < 5000000 then n.genNext else v)).raiseIf (timeDiff v n.time.train < 5000000)
        AUD_EVT.GLATE := by
  refine if_neg ?_
  simp only [Bool.or_eq_true, decide_eq_true_eq]
  omega

theorem Node.raiseIf_true (f : Field) : n.raiseIf true f = n.raise f := rfl

theorem Node.raiseIf_false (f : Field) : n.raiseIf false f = n := rfl

/-- Generator `g` runs from `t` on, in `m`. -/
def Node.RunsFrom (m : Node) (g : Nat) (t : Word) : Prop := m.on (AUD_GW0.RUN g) = true ∧ Tab.get (fun _ => 0) m.aud.genStart g = t.toNat

theorem Node.genRuns_runsFrom (g : Nat) (t : Word) : (n.genRuns g t).RunsFrom g t := by
  refine ⟨?_, Tab.get_set_same _ _ _ _⟩
  rw [Node.on, Node.genRuns, Node.rd_wr_same _ _ _ (by decide : 31 + 1 ≤ 32)]
  rfl

end

section
variable {n m : Node}

theorem Node.RunsFrom.recorded {g : Nat} {t : Word} (h : n.RunsFrom g t) (hm : Recorded n m) : m.RunsFrom g t := by
  obtain ⟨hrun, hstart⟩ := h
  refine ⟨(hm.on (AUD_GW0.RUN g) (recReg_winAddr _ _)).trans hrun, ?_⟩
  rw [hm.aud]
  exact hstart

theorem Node.RunsFrom.raise {g : Nat} {t : Word} (h : n.RunsFrom g t) {e : Field} (he : e.addr < 4294967296) : (n.raise e).RunsFrom g t :=
  Node.RunsFrom.recorded ⟨(Node.on_congr (Node.rd_wr_elsewhere _ _ (winAddr_ne_of_lt he))).trans h.1, h.2⟩ (n.raise_recorded e)

end

/-! ### Clips (R309) -/

/-- The copy that the clip registers ask for: source, place in the clip store, and length in bytes. -/
def Node.clipAsked : Nat × Nat × Nat := (n.rd AUD_CLIPSRC.SRC, 16 * n.rd AUD_CLIPDST.DST, 16 * n.rd AUD_CLIPLEN.LEN)

/-- Its source lies in DMEM or in GENBUF, and what it writes in the clip store. -/
def clipInside (c : Nat × Nat × Nat) : Prop :=
  ((0x20200000 ≤ c.1 ∧ c.1 + c.2.2 ≤ 0x20300000) ∨ (0x207E0000 ≤ c.1 ∧ c.1 + c.2.2 ≤ 0x20800000)) ∧ c.2.1 + c.2.2 ≤ 0x4C000

/-- The copy begun. -/
def Node.clipBegun : Node :=
  (({ n with aud := { n.aud with clip := some n.clipAsked } } : Node).wr AUD_CLIPSTAT.BUSY 1).wr AUD_CLIPSTAT.ERR 0

/-- The copy refused. -/
def Node.clipRefused : Node := (n.wr AUD_CLIPSTAT.ERR 1).raise AUD_EVT.CLIPERR

/-- The copy done. -/
def Node.clipCopied (src dst len : Nat) : Node :=
  let m := n.memPut (0x205D4000 + dst) (n.memBytes src len)
  (({ m with aud := { m.aud with clip := none } } : Node).wr AUD_CLIPSTAT.BUSY 0).wr AUD_CLIPSTAT.DONE (sat 16 (n.rd AUD_CLIPSTAT.DONE + 1))

theorem Node.clipGo_busy (h : n.on AUD_CLIPSTAT.BUSY = true) : n.clipGo = n := if_pos h

theorem clipBad_iff {src dst len : Nat} : (!((0x20200000 ≤ src && src + len ≤ 0x20300000) || (0x207E0000 ≤ src && src + len ≤ 0x20800000))
    || 0x4C000 < dst + len) = true ↔ ¬ clipInside (src, dst, len) := by
  simp only [clipInside, Bool.or_eq_true, Bool.not_eq_true', Bool.or_eq_false_iff, Bool.and_eq_false_iff, decide_eq_false_iff_not, decide_eq_true_eq]
  omega

theorem Node.clipGo_inside (h : n.on AUD_CLIPSTAT.BUSY = false) (hin : clipInside n.clipAsked) : n.clipGo = n.clipBegun :=
  (if_neg (Bool.eq_false_iff.mp h)).trans (if_neg fun hbad => clipBad_iff.mp hbad hin)

theorem Node.clipGo_outside (h : n.on AUD_CLIPSTAT.BUSY = false) (hout : ¬ clipInside n.clipAsked) : n.clipGo = n.clipRefused :=
  (if_neg (Bool.eq_false_iff.mp h)).trans (if_pos (clipBad_iff.mpr hout))

theorem Node.clipBegun_effect : n.clipBegun.on AUD_CLIPSTAT.BUSY = true ∧ n.clipBegun.on AUD_CLIPSTAT.ERR = false := by
  refine ⟨?_, ?_⟩
  · rw [Node.on, Node.clipBegun, Node.rd_wr_ne _ _ _ _ (by decide) (by decide), Node.rd_wr_same _ _ _ (by decide)]
    rfl
  · rw [Node.on, Node.clipBegun, Node.rd_wr_same _ _ _ (by decide)]
    rfl

theorem Node.clipRefused_effect : n.clipRefused.aud = n.aud ∧ n.clipRefused.on AUD_CLIPSTAT.ERR = true
    ∧ n.clipRefused.on AUD_EVT.CLIPERR = true := by
  refine ⟨Node.raise_aud _ _, ?_, Node.on_raise_same _ _ (by decide) rfl (by decide)⟩
  rw [Node.clipRefused, Node.on_raise_ne _ _ _ (by decide) (by decide) (by decide), Node.on, Node.rd_wr_same _ _ _ (by decide)]
  rfl

theorem Node.clipDone_copies {src dst len : Nat} (h : n.aud.clip = some (src, dst, len)) : n.clipDone = n.clipCopied src dst len := by
  unfold Node.clipDone
  rw [h]
  rfl

theorem Node.clipDone_idle (h : n.aud.clip = none) : n.clipDone = n := by
  unfold Node.clipDone
  rw [h]

theorem Node.clipCopied_mem (src dst len : Nat) : (n.clipCopied src dst len).memBytes (0x205D4000 + dst) len = n.memBytes src len
    ∧ ∀ a, a < 0x205D4000 + dst ∨ 0x205D4000 + dst + len ≤ a → (n.clipCopied src dst len).memByte a = n.memByte a :=
  ⟨n.memBytes_memPut (n.memBytes_length _ _), fun a ha => n.memPut_byte_out _ _ a (by rwa [n.memBytes_length])⟩

theorem Node.clipCopied_status (src dst len : Nat) : (n.clipCopied src dst len).on AUD_CLIPSTAT.BUSY = false
    ∧ (n.clipCopied src dst len).rd AUD_CLIPSTAT.DONE = min 65535 (n.rd AUD_CLIPSTAT.DONE + 1) := by
  refine ⟨?_, ?_⟩
  · rw [Node.on, Node.clipCopied, Node.rd_wr_ne _ _ _ _ (by decide) (by decide), Node.rd_wr_same _ _ _ (by decide)]
    rfl
  · refine (Node.rd_wr_same _ _ _ (by decide)).trans ((Nat.mod_eq_of_lt (sat_lt 16 _)).trans ?_)
    unfold sat
    split <;> omega

end

/-! ### The commands -/

section
variable {s : State} {by_ : Initiator} {v mask : Word} {k z : Nat} (hr : s.node.running = true)
include hr

theorem audMix_idle (h : ¬ s.node.mixes) : Answers .audMix s s.node := answers_same hr rfl (s.node.mix_idle h)

theorem audMix_empties (h : s.node.mixes) : Does .audMix s (fun m => m.aud.queue = [] ∧ m.aud.commits = [] ∧ m.aud.stops = []) :=
  does_onNode hr rfl (Node.mix_waiting h)

section
variable (h : s.node.mixes) (hq : s.node.aud.queue = [(k, mask, v)]) (hc : s.node.aud.commits = []) (hs : s.node.aud.stops = [])
include h hq hc hs

theorem audMix_refuses (ho : s.node.xpOver k mask v) : Does .audMix s (fun m => m.reg (AUD_XW.EN k).addr = s.node.reg (AUD_XW.EN k).addr
    ∧ Counted AUD_CNT_XREFUSED.VALUE s.node m ∧ m.on AUD_EVT.XFULL = true) := by
  have hkept := Node.mix_change h hq hc hs
  obtain ⟨hreg, hcount, hevt⟩ := Node.xpApply_refused (n := { s.node with aud := { s.node.aud with queue := [] } }) ho
  refine does_onNode hr rfl ⟨(hkept.reg _ (playReg_winAddr (by decide) _)).trans hreg, ?_, ?_⟩
  · exact (Node.rd_of_reg (hkept.reg _ (by decide))).trans hcount
  · exact (Node.on_congr (Node.rd_of_reg (hkept.reg _ (by decide)))).trans hevt

theorem audMix_changes (ho : ¬ s.node.xpOver k mask v) : Does .audMix s (fun m => m.reg (AUD_XW.EN k).addr = s.node.xpNew k mask v
    ∧ m.memLe (xpAddr k) 4 = (s.node.xpNew k mask v).toNat) := by
  have hkept := Node.mix_change h hq hc hs
  obtain ⟨hreg, hmem⟩ := Node.xpApply_taken (n := { s.node with aud := { s.node.aud with queue := [] } }) ho
  refine does_onNode hr rfl ⟨(hkept.reg _ (playReg_winAddr (by decide) _)).trans hreg, ?_⟩
  rw [Node.memLe, Node.memBytes_congr hkept.mem]
  exact hmem

end

theorem audMix_swaps (h : s.node.mixes) (hq : s.node.aud.queue = []) (hc : s.node.aud.commits = [z]) (hs : s.node.aud.stops = []) :
    Does .audMix s (fun m => m.rd (AUD_ZCTRL.BANK z) = 1 - s.node.rd (AUD_ZCTRL.BANK z)
      ∧ ∀ c, c < 64 → Tab.get (fun _ => 0) m.aud.coefs (64 * z + c) = s.node.reg (AUD_ZCDATA.DATA (64 * z + c)).addr) := by
  have hkept := Node.mix_swap h hq hc hs
  refine does_onNode hr rfl ⟨?_, fun c hlt => ?_⟩
  · exact (Node.rd_of_reg (hkept.reg _ (playReg_winAddr (by decide) _))).trans (Node.zoneSwap_bank _ _)
  · rw [hkept.coefs]
    exact Node.zoneSwap_coefs _ z hlt

theorem audMix_stops (h : s.node.mixes) (hq : s.node.aud.queue = []) (hc : s.node.aud.commits = []) (hs : s.node.aud.stops = [z]) :
    Does .audMix s (fun m => m.on (AUD_GW0.RUN z) = false) := by
  have hkept := Node.mix_stop h hq hc hs
  exact does_onNode hr rfl ((Node.on_congr (Node.rd_of_reg (hkept.reg _ (playReg_winAddr (by decide) _)))).trans (Node.genStop_run _ _))

theorem ancGapEnd_measures {zone : Fin 128} {x : Nat} (h : 64 ≤ zone.val ∧ s.node.on (AUD_ZCTRL.ANCEN zone) = true) :
    Does (.ancGapEnd zone x) s (fun m => m = s.node.ancMeasured zone x) := by
  refine does_onNode hr rfl ?_
  rw [if_neg (by simp [h.1, h.2])]
  simp only [sat_eight_le]
  rfl

theorem ancHold_holds {zone : Fin 128} (h : 64 ≤ zone.val ∧ s.node.on (AUD_ZCTRL.ANCEN zone) = true) :
    Does (.ancHold zone) s (fun m => m = s.node.ancHeld zone) := by
  refine does_onNode hr rfl ?_
  rw [if_neg (by simp [h.1, h.2])]
  rfl

theorem anc_idle {zone : Fin 128} {x : Nat} (h : ¬ (64 ≤ zone.val ∧ s.node.on (AUD_ZCTRL.ANCEN zone) = true)) :
    Answers (.ancGapEnd zone x) s s.node ∧ Answers (.ancHold zone) s s.node := by
  have hidle : (zone.val < 64 || !s.node.on (AUD_ZCTRL.ANCEN zone)) = true := by
    rw [Bool.or_eq_true, decide_eq_true_eq, Bool.not_eq_true', ← Nat.not_le, ← Bool.not_eq_true]
    exact not_and_or.mp h
  exact ⟨answers_same hr rfl (if_pos hidle), answers_same hr rfl (if_pos hidle)⟩

section
variable {ec : Fin 16} {x : Nat}

theorem echoDivergence_resets (h0 : s.node.rd (AUD_ECB.STATE ec) ≠ 0) (h5 : s.node.rd (AUD_ECB.STATE ec) ≠ 5) :
    Does (.echoDivergence ec) s (fun m => m = s.node.diverged ec) := does_onNode hr rfl (if_neg (by simp [h0, h5]))

theorem echoDivergence_idle (h : s.node.rd (AUD_ECB.STATE ec) = 0 ∨ s.node.rd (AUD_ECB.STATE ec) = 5) : Answers (.echoDivergence ec) s s.node :=
  answers_same hr rfl (if_pos (by simpa using h))

theorem ecBurst_bursts (h : s.node.mayBurst ec) : Does (.ecBurst by_ ec) s (fun m => m.rd (AUD_ECB.STATE ec) = 4
    ∧ m.burstSince ec = s.node.now + 1) := by
  obtain ⟨hstate, hsince⟩ := s.node.ecBurst_starts ec h
  refine does_recorded hr rfl fun m hm _ => ⟨(hm.rd _ (recReg_ecb ec)).trans hstate, ?_⟩
  rw [Node.burstSince, hm.aud]
  exact hsince

theorem ecBurst_nothing (h : ¬ s.node.mayBurst ec) : Does (.ecBurst by_ ec) s (fun m => m.rd (AUD_ECB.STATE ec) = s.node.rd (AUD_ECB.STATE ec)
    ∧ m.aud = s.node.aud) := by
  refine does_recorded hr rfl fun m hm _ => ?_
  rw [s.node.ecBurst_refused ec h] at hm
  exact ⟨hm.rd _ (recReg_ecb ec), hm.aud⟩

theorem burstEnd_measures (h : s.node.rd (AUD_ECB.STATE ec) = 4) : Does (.burstEnd ec x) s (fun m => m.rd (AUD_ECB.ERLE ec) = min x 255
    ∧ m.rd (AUD_ECB.STATE ec) = (if 40 ≤ x then 2 else 1) ∧ m.burstSince ec = 0) := by
  refine does_onNode hr rfl ?_
  rw [if_pos h]
  exact s.node.burstEnd_effect ec x h

theorem echoCancellerEnable_sets (h : bit v.toNat 24 = false) : Does (.echoCancellerEnable by_ ec v) s (fun m =>
    m.reg (AUD_ECA.EN ec).addr = v &&& 0x807F3F3F ∧ m.rd (AUD_ECB.STATE ec) = (if bit v.toNat 31 then
      (if s.node.on (AUD_ECA.EN ec) then s.node.rd (AUD_ECB.STATE ec) else if s.node.micTaken ec v then 5 else 1) else 0)) := by
  obtain ⟨hword, hstate⟩ := s.node.writeEc_effect ec v h
  exact does_recorded hr rfl fun m hm _ => ⟨(hm.reg _ (recReg_eca ec)).trans hword,
    (hm.rd _ (recReg_ecb ec)).trans hstate⟩

end

section
variable (h1 : 1 ≤ s.node.rd (AUD_GW0.KIND (s.node.rd AUD_GSEL.GEN))) (h4 : s.node.rd (AUD_GW0.KIND (s.node.rd AUD_GSEL.GEN)) ≤ 4)
include h1 h4

theorem generatorStart_intime (h : 5000000 ≤ timeDiff v s.node.time.train) :
    Does (.generatorStart by_ v) s (fun m => m.RunsFrom (s.node.rd AUD_GSEL.GEN) v) := by
  refine does_recorded hr rfl fun m hm _ => ?_
  rw [s.node.genStart_eq v h1 h4, if_neg (not_lt.mpr h), decide_eq_false (not_lt.mpr h), Node.raiseIf_false] at hm
  exact (s.node.genRuns_runsFrom _ v).recorded hm

theorem generatorStart_late (h : timeDiff v s.node.time.train < 5000000) : Does (.generatorStart by_ v) s (fun m => m.on AUD_EVT.GLATE = true
    ∧ m.RunsFrom (s.node.rd AUD_GSEL.GEN) s.node.genNext) := by
  refine does_recorded hr rfl fun m hm _ => ?_
  rw [s.node.genStart_eq v h1 h4, if_pos h, decide_eq_true h, Node.raiseIf_true] at hm
  exact ⟨(hm.on _ (by decide)).trans (Node.on_raise_same _ _ (by decide) rfl (by decide)),
    ((s.node.genRuns_runsFrom _ _).raise (by decide)).recorded hm⟩

end

theorem clipCopy_busy (h : s.node.on AUD_CLIPSTAT.BUSY = true) : Does (.clipCopy by_) s (fun m => m.aud = s.node.aud ∧ m.mem = s.node.mem) := by
  refine does_recorded hr rfl fun m hm hmem => ?_
  rw [s.node.clipGo_busy h] at hm hmem
  exact ⟨hm.aud, hmem⟩

theorem clipCopy_begins (h : s.node.on AUD_CLIPSTAT.BUSY = false) (hin : clipInside s.node.clipAsked) : Does (.clipCopy by_) s (fun m =>
    m.aud = { s.node.aud with clip := some s.node.clipAsked } ∧ m.on AUD_CLIPSTAT.BUSY = true ∧ m.on AUD_CLIPSTAT.ERR = false
      ∧ m.mem = s.node.mem) := by
  obtain ⟨hbusy, herr⟩ := s.node.clipBegun_effect
  refine does_recorded hr rfl fun m hm hmem => ?_
  rw [s.node.clipGo_inside h hin] at hm hmem
  exact ⟨hm.aud, (hm.on _ (by decide)).trans hbusy, (hm.on _ (by decide)).trans herr, hmem⟩

theorem clipCopy_refuses (h : s.node.on AUD_CLIPSTAT.BUSY = false) (hout : ¬ clipInside s.node.clipAsked) : Does (.clipCopy by_) s (fun m =>
    m.aud = s.node.aud ∧ m.on AUD_CLIPSTAT.ERR = true ∧ m.on AUD_EVT.CLIPERR = true) := by
  obtain ⟨haud, herr, hevt⟩ := s.node.clipRefused_effect
  refine does_recorded hr rfl fun m hm _ => ?_
  rw [s.node.clipGo_outside h hout] at hm
  exact ⟨hm.aud.trans haud, (hm.on _ (by decide)).trans herr, (hm.on _ (by decide)).trans hevt⟩

theorem clipCopyDone_copies {src dst len : Nat} (h : s.node.aud.clip = some (src, dst, len)) :
    Does .clipCopyDone s (fun m => m = s.node.clipCopied src dst len) := does_onNode hr rfl (Node.clipDone_copies _ h)

end

/-- What holds of the node that a command answers holds after it. -/
theorem Does.of_eq {c : Instr} {s : State} {k : Node} {P : Node → Prop} (h : Does c s (fun m => m = k)) (hp : P k) : Does c s P := by
  obtain ⟨m, hm, rfl⟩ := h
  exact ⟨m, hm, hp⟩

/-- Settles O45: `mix_eq` cuts the mix period into what it applies and what it plays, and `PlayKept` says that playing keeps what was applied; the
other units' commands are a few field writes each, which mirroring keeps. -/
theorem audioUnits : Obligations.AudioUnits := by
  unfold Obligations.AudioUnits
  intro s by_ v mask zone ec gen x k z src dst len hr n mixes only old new wide anc target g st granted burst taken gs starts ahead least past clip
    inside
  refine ⟨fun h => ?_, fun h => ?_, ?_, ?_,
    fun h => audMix_idle hr h,
    fun h => audMix_empties hr h,
    fun h ⟨hq, hc, hs⟩ _ => ⟨fun ho => audMix_refuses hr h hq hc hs ho, fun ho => audMix_changes hr h hq hc hs ho⟩,
    fun h ⟨hq, hc, hs⟩ _ => audMix_swaps hr h hq hc hs,
    fun h ⟨hq, hc, hs⟩ => audMix_stops hr h hq hc hs,
    fun h => (ancGapEnd_measures hr h).of_eq (n.ancMeasured_effect zone x),
    fun h => (ancHold_holds hr h).of_eq (n.ancHeld_effect zone),
    fun h => anc_idle hr h,
    fun h0 h5 => (echoDivergence_resets hr h0 h5).of_eq (n.diverged_effect ec),
    fun h => echoDivergence_idle hr h,
    fun h => ecBurst_bursts hr h,
    fun h => ecBurst_nothing hr h,
    fun h => burstEnd_measures hr h,
    fun h => answers_same hr rfl (if_neg h),
    fun h => echoCancellerEnable_sets hr h,
    fun h1 h4 => ⟨fun h => generatorStart_intime hr h1 h4 h, fun h => generatorStart_late hr h1 h4 h⟩,
    fun h => ?_, ?_,
    fun h => clipCopy_busy hr h,
    fun h hin => clipCopy_begins hr h hin,
    fun h hout => clipCopy_refuses hr h hout,
    fun h => ?_,
    fun h => answers_same hr rfl (n.clipDone_idle h)⟩
  · exact does_aud hr rfl (congrArg Node.aud (if_neg (Nat.not_le.mpr h)))
  · exact does_aud hr rfl (congrArg Node.aud (if_pos h))
  · exact does_aud hr rfl rfl
  · exact does_aud hr rfl rfl
  · exact does_aud hr rfl (congrArg Node.aud (n.genStart_off v h))
  · exact does_onNode hr rfl ⟨Node.genStop_run _ _, Tab.get_set_same _ _ _ _⟩
  · obtain ⟨hcopy, hother⟩ := n.clipCopied_mem src dst len
    obtain ⟨hbusy, hdone⟩ := n.clipCopied_status src dst len
    exact (clipCopyDone_copies hr h).of_eq ⟨hcopy, hother, rfl, hbusy, hdone⟩

end Sys2Proof.Machine
end
